-- ==== Sys2Proof/Word.lean ====
section
/-! DEFINITION. The smallest words of the model: a byte, a byte string, a sparse table keyed by a number, a fraction. -/

-- The package as one text is long: elaborating it in order keeps its memory within bounds.
set_option Elab.async false

namespace Sys2Proof

/-- One byte. -/
abbrev Byte := BitVec 8

/-- A byte string, lowest address first. -/
abbrev Bytes := List Byte

/-- A sparse table: pairs of a key and a value, keys rising.
An unlisted key holds the default that the reader of the table names. -/
abbrev Tbl (α : Type) := List (Nat × α)

/-- A non-negative fraction; a rate or a time that the manual computes exactly. -/
structure Frac where
  num : Nat
  den : Nat
deriving DecidableEq, Repr

end Sys2Proof
end

