-- ==== Sys2Proof/Syntax.lean ====
section
/-! DEFINITION. The commands of the block: one constructor of `Instr` for each row of spec/opcode_table.json,
with the operands that the manual's rules give the row.  The table gives no operand fields and no bits;
an operand `t` is the time, in ns of the time keeper, at which the event falls (log entry 3). -/

namespace Sys2Proof

/-- A fetched mailbox command, named by the function, the queue pair and the CID (R229, R230). -/
structure CmdRef where
  fn  : Nat
  qid : Nat
  cid : Nat
deriving DecidableEq, Repr

/-- Host-visible registers without behaviour of their own (R8, R220, R286, R242). -/
inductive HostReg where
  | deviceStatus | canaryStatus | canaryClassMax | intrCause | fwHeartbeat | larderGen
  | hostCtrlRsvd | adminDepth | adminSqBase | adminCqBase
  | larder (offset : Nat)
  | unoccupied (offset : Nat)
  | dmaStatus (ch : Nat) | dmaIrq (ch : Nat) | dmaReadOnly (ch : Nat) (offset : Nat)
  | msixMask (vector : Nat)
deriving DecidableEq, Repr

/-- A host access through BAR2 (R218). -/
inductive Bar2Op where
  | read (len : Nat)
  | write (data : Bytes)
deriving DecidableEq, Repr

/-- Shadow registers of a host DMA channel (Table 14.2). -/
inductive ShadowReg where
  | src | dst | len | cfg | fill
deriving DecidableEq, Repr

/-- Reasons of a failed DMA beat (Table 14.6). -/
inductive BeatFail where
  | unsupported | timeout | poisoned | hbmUncorrectable | outsideGrant
deriving DecidableEq, Repr

/-- Triggers of a warm reset (Table 23.7). -/
inductive WarmTrigger where
  | resetN | perstN | watchdog | lockstep | vddCore | rail | wakeDigest
deriving DecidableEq, Repr

/-- Wake sources of Dormant (R460). -/
inductive WakeSource where
  | wakeN | mctp | linkL1Exit | perstN | resetN
deriving DecidableEq, Repr

/-- The rails that R463 watches. -/
inductive Rail where
  | vddSram | hbmRail | vddio18 | vddaEth | vddaPcie | vddaPx | vddAon
deriving DecidableEq, Repr

/-- Reference clocks of Table 23.3. -/
inductive RefClk where
  | sysClk | ethRefclk | pcieRefclk | pxRefclk | xtal32k
deriving DecidableEq, Repr

/-- What the physical world and the flash contents decide at a Secure Boot (R442, R414, R278, R281, R41, R404). -/
structure BootInput where
  t            : Nat
  selfTestOk   : Bool
  slotAOk      : Bool
  slotBOk      : Bool
  islandFwOk   : Bool
  identityOk   : Bool
  platformTagOk : Bool
  stackTemp0   : Int
  stackTemp1   : Int
  trainFail    : List Nat
  bistFail     : List Nat
  patchFail    : List Nat
deriving DecidableEq, Repr

/-- The blocks that have an error port (R399, Table 20.2). -/
inductive FaultSrc where
  | core (n : Nat) | cluster (n : Nat) | hbm (stack : Nat) | switch | tables | port (n : Nat) | host
  | pixel (n : Nat) | ppu | dma (ch : Nat) | foreman | security | clockPower | thermal | fabricLink
deriving DecidableEq, Repr

/-- The events that Table 20.2 and the rules it cites name. -/
inductive ErrEvent where
  | corrected | uncorrected | fatal | restart | ladleOverflow | patchParity | unplaceable
  | surveyRepeat | surveyFail | ppuRepeat | ppuFail | pllLoss | takeoverUe
  | retrainFail | trainFailBoot | driftUntrained | freeError | memError | entryError | tmError | serdesFail
  | aer | fifoError | laneFail | dmaParity | lockstep | watchdog | selfTestFail | integrity | tamper
  | stretch | clockLoss | dip | vddReset | collector | overTemp110 | throttle | trip
  | unreachable | leaseEnd | overrun
deriving DecidableEq, Repr

/-- Units that a fence can stop (R404). -/
inductive FenceUnit where
  | core (n : Nat) | survey (cluster : Nat) | ppu (cluster : Nat) | cluster (n : Nat)
  | ethPort (n : Nat) | pixelPort (n : Nat) | dmaHost
deriving DecidableEq, Repr

/-- What the kept coding of a unit adds to the motion statistics (Table 3.6): luma areas coded intra, as skip and
inter, the area-weighted sum of abs(x) + abs(y) in 1/16 sample, the largest components, the inter area won by each
candidate source (Survey, picture-level, neighbour, co-located), fetches outside the window and their bytes. -/
structure CuMotion where
  intra  : Nat
  skip   : Nat
  inter  : Nat
  mvSum  : Nat
  maxX   : Nat
  maxY   : Nat
  won    : List Nat
  fetches : Nat
  fetchBytes : Nat
deriving DecidableEq, Repr

/-- The measurement of one coding attempt of one coding unit, as the Fidelity Meter and the coder return it
(R84 to R86, R88, R90), and of its lossless coding.  The samples themselves are not part of the model. -/
structure CuMeas where
  qp       : Int
  nY       : Nat
  sseY     : Nat
  nC       : Nat
  sseC     : Nat
  ssim     : Nat
  sseFinal : Nat
  bits     : Nat
  bins     : Nat
  llBits   : Nat
  llBins   : Nat
  llFinal  : Nat
  area     : Nat
  motion   : CuMotion
deriving DecidableEq, Repr

/-- What Survey returns for a cell (R54, R73): for each surveyed reference its candidates in order, the cost of the first
candidate on the nearest reference, whether a limit clipped it, whether a copy error removed candidates. -/
structure SurveyCell where
  cell    : Nat
  vecs    : List (List (Int × Int))
  cost    : Nat
  clipped : Bool
  copyErr : Bool
deriving DecidableEq, Repr

/-- What Assay reads of the coding unit's surroundings, for each searched reference (R60): the first predictor, the
picture-level vector scaled to that reference, the co-located vector, the left, above and above-right vectors. -/
structure AssayIn where
  predictor : Option (Int × Int)
  colocated : Option (Int × Int)
  neighbours : List (Int × Int)
  num : Int
  den : Int
deriving DecidableEq, Repr

/-- Why a core restarts its unit of work (R44, R49, R50): an interrupt, a class 1 fault (R69 among them), an uncorrectable
error of a reference picture in a rectangle of coding units (first and last column and row), or of source samples of some
coding units. -/
inductive RestartCause where
  | interrupt
  | fault
  | refError (frame x0 y0 x1 y1 : Nat)
  | sourceError (units : Nat)
deriving DecidableEq, Repr

/-- What a PPU reads for a band (R147 to R164): how many source rows of the frame have arrived, or how many rows of the decoded
picture it converts; the source buffer as they fill it, in SRC_LAYOUT, where the picture neither lies in the HBM nor comes
from a pixel port.  `flat` says that enough of the picture is flat enough to measure grain (R160). -/
structure PpuInput where
  session  : Nat
  frame    : Nat
  rows     : Nat
  data     : Bytes
  flat     : Bool
  stamp    : Nat
deriving DecidableEq, Repr

/-- An Ethernet frame as its first 256 bytes show it (R333, R364). -/
structure EthHead where
  port     : Nat
  t        : Nat
  vlan     : Option Nat
  pcp      : Nat
  dei      : Bool
  dstMac   : Nat
  srcMac   : Nat
  ether    : Nat
  ip       : Nat
  frag     : Bool
  proto    : Nat
  srcIp    : Bytes
  dstIp    : Bytes
  ttl      : Nat
  srcPort  : Nat
  dstPort  : Nat
  udpData  : Bytes
  declLen  : Nat
  macsec   : Nat
  pn       : Nat
  sc       : Nat
  an       : Nat
  icvOk    : Bool
  ptpEvent : Bool
deriving DecidableEq, Repr

/-- A packet that a host, Foreman or core port presents (R314). -/
structure PortPkt where
  port   : Nat
  len    : Nat
  flow   : Nat
  dest   : Nat
  group  : Nat
  cls    : Nat
  t      : Nat
deriving DecidableEq, Repr

/-- A pixel port packet (Table 15.2): its header, its payload as received, whether its CRC is right, whether its END came, and
whether the FIFO held an uncorrectable word of it (R306).  `len` is the header field LENGTH. -/
structure PxPkt where
  port    : Nat
  frame   : Nat
  line    : Nat
  plane   : Nat
  offset  : Nat
  len     : Nat
  payload : Bytes
  crcOk   : Bool
  ended   : Bool
  eccBad  : Bool
  t       : Nat
deriving DecidableEq, Repr

/-- FRAME_START payload (Table 15.3). -/
structure PxStart where
  width : Nat
  height : Nat
  totalLines : Nat
  layout : Nat
  chroma : Nat
  depth : Nat
  kind : Nat
  sourceTime : Nat
deriving DecidableEq, Repr

/-- The Crew Link header fields that every receiver checks (Table 19.1, R380, R381, R394). -/
structure ClpHdr where
  macsec  : Bool
  verMajor : Nat
  fabric  : Nat
  sender  : Nat
  dest    : Nat
  term    : Nat
  epoch   : Nat
  seq     : Nat
  ackReq  : Bool
  t       : Nat
deriving DecidableEq, Repr

/-- Ledger statistics of one unit of work (R76, R177, Table 19.2). -/
structure UnitStats where
  bits       : Nat
  qpSum      : Int
  complexity : Nat
  charge     : Nat
  lossless   : Nat
  retries    : Nat
  minPsnr    : Nat
  flags      : Nat
  bins       : List (Int × Int × Nat)
deriving DecidableEq, Repr

/-- What a received RTP packet or TS datagram shows (R131, R132); `ts` lists the TS packets of the video PID: their
continuity counter and transport_error_indicator. -/
structure RtpPkt where
  session : Nat
  pt      : Nat
  ssrc    : Nat
  seq     : Nat
  unsupported : Bool
  bad     : Bool
  tagOk   : Bool
  ts      : List (Nat × Bool)
  len     : Nat
  t       : Nat
deriving DecidableEq, Repr

/-- What the headers of a received picture say (R126, R139, R141, R145): its size, format, output order, whether it is a sync
point (0 none, 1 IRAP picture or key frame, 2 GDR picture or recovery point after `recovery` pictures), whether it is a RASL
picture, the pictures that stay stored, the picture whose CDFs it loads and the tile that saves its own (first column, columns,
first row, rows, in coding units), the conformance window (left, right, top, bottom in luma samples), film grain parameters,
the RTP timestamp or PTS, the signalled rate, and when its first byte arrived. -/
structure DecHead where
  width    : Nat
  height   : Nat
  cuLog2   : Nat
  order    : Int
  chroma   : Nat
  depth    : Nat
  full     : Bool
  rgb      : Bool
  sync     : Nat
  recovery : Nat
  rasl     : Bool
  intraOnly : Bool
  keep     : List Nat
  loadsCdf : Option Nat
  ctxTile  : Nat × Nat × Nat × Nat
  crop     : Nat × Nat × Nat × Nat
  grain    : Option Bytes
  stamp    : Nat
  rateNum  : Nat
  rateDen  : Nat
  arrived  : Nat
deriving DecidableEq, Repr

/-- A motion vector in 1/16 luma sample with the picture-order distance to the picture that it refers to (R135). -/
structure DecVec where
  x    : Int
  y    : Int
  dist : Int
deriving DecidableEq, Repr

/-- What decoding one coding unit shows (R128, R132, R133, R135, R138): the core, the picture (numbered in decoding order), the
coding unit in raster order, the columns of its tile, the last coding unit of its slice, the error met (0 none, 1 LOST_DATA,
2 SYNTAX, 3 OVERRUN, 4 NO_PARAMS, 7 REF_ERROR), whether the samples that it reads are final, the coding units that it reads
(picture and unit), its quantiser, its vectors at the bottom centre (list 0) and at the centre, its samples by component. -/
structure DecCu where
  core     : Nat
  session  : Nat
  pic      : Nat
  head     : DecHead
  cu       : Nat
  tileX    : Nat
  tileW    : Nat
  sliceEnd : Nat
  error    : Nat
  refsFinal : Bool
  intra    : Bool
  qp       : Int
  reads    : List (Nat × Nat)
  missingAps : Bool
  bottom   : Option DecVec
  centre   : Option DecVec
  samples  : List (List (List Nat))
  t        : Nat
deriving DecidableEq, Repr

/-- PTP servo inputs that the messages carry (R360 to R362); the best master clock algorithm of IEEE 1588 decides
`bmcState`. -/
structure PtpIn where
  port     : Nat
  domain   : Nat
  kind     : Nat
  t        : Nat
  offset   : Int
  meanPath : Nat
  freq     : Int
  gm       : Nat
  bmcState : Nat
deriving DecidableEq, Repr

/-- A slice transfer fragment (Table 8.3). -/
structure SliceFrag where
  flags   : Nat
  index   : Nat
  session : Nat
  epoch   : Nat
  frame   : Nat
  offset  : Nat
  region  : Nat
  crc     : Nat
  sender  : Nat
  data    : Bytes
deriving DecidableEq, Repr

/-- A request to an HBM controller (R264 to R267). -/
structure HbmReq where
  addr      : Nat
  write     : Bool
  data      : Bytes
  requester : Nat
  realTime  : Bool
  openHint  : Bool
  t         : Nat
deriving DecidableEq, Repr

/-- The commands of the block: one constructor per row of spec/opcode_table.json, in the order of the table. -/
inductive Instr where
  /-- IDENTIFY, R233. -/
  | identify (r : CmdRef)
  /-- SET_MODE, R248. -/
  | setMode (r : CmdRef)
  /-- CONFIGURE_EVENTS, R241. -/
  | configureEvents (r : CmdRef)
  /-- CREATE_QP, R223. -/
  | createQp (r : CmdRef)
  /-- DELETE_QP, R237. -/
  | deleteQp (r : CmdRef)
  /-- RESET, R237. -/
  | reset (r : CmdRef)
  /-- SET_POWER_STATE, R458. -/
  | setPowerState (r : CmdRef)
  /-- GET_LOG, R423. -/
  | getLog (r : CmdRef)
  /-- GET_TELEMETRY, R422. -/
  | getTelemetry (r : CmdRef)
  /-- ABORT, R236. -/
  | abort (r : CmdRef)
  /-- SET_FUNCTION_RESOURCES, R235. -/
  | setFunctionResources (r : CmdRef)
  /-- CREATE_SESSION, R485. -/
  | createSession (r : CmdRef) (data : Bytes)
  /-- START_SESSION, R254. -/
  | startSession (r : CmdRef)
  /-- RECONFIGURE_SESSION, R255. -/
  | reconfigureSession (r : CmdRef) (data : Bytes)
  /-- STOP_SESSION, R253. -/
  | stopSession (r : CmdRef)
  /-- DESTROY_SESSION, R252. -/
  | destroySession (r : CmdRef)
  /-- QUERY_SESSION, R252. -/
  | querySession (r : CmdRef)
  /-- SET_SESSION_RINGS, R238. -/
  | setSessionRings (r : CmdRef)
  /-- FORCE_REFRESH, R38. -/
  | forceRefresh (r : CmdRef)
  /-- SUBMIT_PICTURE, R257. -/
  | submitPicture (r : CmdRef)
  /-- SUBMIT_BITSTREAM, R131. -/
  | submitBitstream (r : CmdRef) (data : Bytes)
  /-- RETURN_BUFFER, R258. -/
  | returnBuffer (r : CmdRef)
  /-- FLUSH, R260. -/
  | flush (r : CmdRef)
  /-- SET_PORT, R355. -/
  | setPort (r : CmdRef) (data : Bytes)
  /-- SET_MACSEC, R357. -/
  | setMacsec (r : CmdRef)
  /-- SET_PTP, R361. -/
  | setPtp (r : CmdRef) (data : Bytes)
  /-- QUERY_PTP, R362. -/
  | queryPtp (r : CmdRef)
  /-- SET_METER, R366. -/
  | setMeter (r : CmdRef)
  /-- SET_FLOW, R365. -/
  | setFlow (r : CmdRef) (data : Bytes)
  /-- SET_QUEUE, R375. -/
  | setQueue (r : CmdRef)
  /-- SET_SUBSCRIBER, R371. -/
  | setSubscriber (r : CmdRef)
  /-- SET_CLASSES, R372. -/
  | setClasses (r : CmdRef)
  /-- SET_GCL, R373. -/
  | setGcl (r : CmdRef) (data : Bytes)
  /-- TABLE_INSERT, R338. -/
  | tableInsert (r : CmdRef) (data : Bytes)
  /-- TABLE_DELETE, R351. -/
  | tableDelete (r : CmdRef) (data : Bytes)
  /-- TABLE_READ, R351. -/
  | tableRead (r : CmdRef)
  /-- TABLE_FLUSH, R351. -/
  | tableFlush (r : CmdRef)
  /-- ROUTE_ADD, R342. -/
  | routeAdd (r : CmdRef)
  /-- ROUTE_DELETE, R342. -/
  | routeDelete (r : CmdRef)
  /-- SET_NEXT_HOP, R343. -/
  | setNextHop (r : CmdRef)
  /-- SET_LEARN, R351. -/
  | setLearn (r : CmdRef)
  /-- SET_GROUP, R344. -/
  | setGroup (r : CmdRef) (data : Bytes)
  /-- QUERY_TABLES, R351. -/
  | queryTables (r : CmdRef)
  /-- SET_POOLS, R331. -/
  | setPools (r : CmdRef) (data : Bytes)
  /-- QUERY_POOLS, R331. -/
  | queryPools (r : CmdRef)
  /-- SET_CAPTURE, R325. -/
  | setCapture (r : CmdRef)
  /-- SET_MIRROR_RULE, R323. -/
  | setMirrorRule (r : CmdRef)
  /-- SET_DROP_PROFILE, R331. -/
  | setDropProfile (r : CmdRef) (data : Bytes)
  /-- FABRIC_CREATE, R377. -/
  | fabricCreate (r : CmdRef)
  /-- FABRIC_JOIN, R385. -/
  | fabricJoin (r : CmdRef)
  /-- FABRIC_LEAVE, R395. -/
  | fabricLeave (r : CmdRef)
  /-- FABRIC_QUERY, R395. -/
  | fabricQuery (r : CmdRef)
  /-- FABRIC_DRAIN, R396. -/
  | fabricDrain (r : CmdRef)
  /-- FABRIC_SET_STANDBY, R395. -/
  | fabricSetStandby (r : CmdRef)
  /-- FABRIC_SET_VERSION, R397. -/
  | fabricSetVersion (r : CmdRef)
  /-- SEC_QUERY, R452. -/
  | secQuery (r : CmdRef)
  /-- SEC_AUTH_CHALLENGE, R433. -/
  | secAuthChallenge (r : CmdRef)
  /-- SEC_AUTH_RESPONSE, R433. -/
  | secAuthResponse (r : CmdRef) (data : Bytes)
  /-- SEC_LOGOUT, R434. -/
  | secLogout (r : CmdRef)
  /-- SEC_KEM_KEYGEN, R440. -/
  | secKemKeygen (r : CmdRef)
  /-- SEC_KEY_IMPORT, R440. -/
  | secKeyImport (r : CmdRef) (data : Bytes)
  /-- SEC_KEY_DELETE, R441. -/
  | secKeyDelete (r : CmdRef)
  /-- SEC_KEY_QUERY, R452. -/
  | secKeyQuery (r : CmdRef)
  /-- SEC_ZEROIZE, R450. -/
  | secZeroize (r : CmdRef)
  /-- SEC_SELF_TEST, R445. -/
  | secSelfTest (r : CmdRef) (failMask : Nat)
  /-- SEC_ATTEST, R452. -/
  | secAttest (r : CmdRef) (data : Bytes)
  /-- SEC_RANDOM, R452. -/
  | secRandom (r : CmdRef)
  /-- SEC_DIGEST, R452. -/
  | secDigest (r : CmdRef) (data : Bytes)
  /-- SEC_LIFECYCLE, R436. -/
  | secLifecycle (r : CmdRef) (data : Bytes)
  /-- UPDATE_OPEN, R416. -/
  | updateOpen (r : CmdRef)
  /-- UPDATE_WRITE, R416. -/
  | updateWrite (r : CmdRef) (data : Bytes)
  /-- UPDATE_VERIFY, R415. -/
  | updateVerify (r : CmdRef)
  /-- UPDATE_ACTIVATE, R416. -/
  | updateActivate (r : CmdRef)
  /-- UPDATE_COMMIT, R416. -/
  | updateCommit (r : CmdRef)
  /-- UPDATE_ABORT, R416. -/
  | updateAbort (r : CmdRef)
  /-- UPDATE_STATUS, R415. -/
  | updateStatus (r : CmdRef)
  /-- SET_PLATFORM_CONFIG, R418. -/
  | setPlatformConfig (r : CmdRef) (data : Bytes)
  /-- SET_CHANNEL_OWNER, R285. -/
  | setChannelOwner (r : CmdRef)
  /-- QUERY_CHANNELS, R285. -/
  | queryChannels (r : CmdRef)
  /-- SQ_TAIL_WRITE, R224. -/
  | sqTailWrite (fn qid : Nat) (value : BitVec 32)
  /-- CQ_HEAD_WRITE, R225. -/
  | cqHeadWrite (fn qid : Nat) (value : BitVec 32)
  /-- COMMAND_FETCH, R225. -/
  | commandFetch (fn qid : Nat) (entry : Bytes) (t : Nat)
  /-- COMMAND_TIMEOUT, R234. -/
  | commandTimeout (r : CmdRef) (t : Nat)
  /-- COALESCE_TIMER, R228. -/
  | coalesceTimer (fn qid : Nat) (t : Nat)
  /-- MB_ENABLE, R222. -/
  | mbEnable (fn : Nat)
  /-- MB_DISABLE, R222. -/
  | mbDisable (fn : Nat)
  /-- INTR_MASK_WRITE, R221. -/
  | intrMaskWrite (fn : Nat) (value : BitVec 32)
  /-- REGISTER_WRITE, R8. -/
  | registerWrite (fn : Nat) (reg : HostReg) (value : BitVec 64)
  /-- BAR2_ACCESS, R218. -/
  | bar2Access (fn offset : Nat) (op : Bar2Op)
  /-- DMA_ARM, R288. -/
  | dmaArm (ch cycle : Nat)
  /-- DMA_DISABLE, R297. -/
  | dmaDisable (ch : Nat) (arm : Bool) (ending : Option (Bytes × Bytes)) (cycle : Nat)
  /-- DMA_CLEAR_HALT, R296. -/
  | dmaClearHalt (ch cycle : Nat)
  /-- DMA_SHADOW_WRITE, R290. -/
  | dmaShadowWrite (ch : Nat) (reg : ShadowReg) (value : BitVec 64) (cycle : Nat)
  /-- DMA_BURST_ISSUE, R291. -/
  | dmaBurstIssue (ch cycle : Nat)
  /-- DMA_BEAT_RETURN, R287. -/
  | dmaBeatReturn (ch : Nat) (src dst : Bytes) (cycle : Nat)
  /-- DMA_BEAT_ERROR, R293; `write`: the destination side of the beat failed. -/
  | dmaBeatError (ch : Nat) (write : Bool) (reason : BeatFail)
  /-- COLD_RESET, R466. -/
  | coldReset (t : Nat)
  /-- WARM_RESET, R466. -/
  | warmReset (trigger : WarmTrigger) (t : Nat)
  /-- HOST_INTERFACE_RESET, R243. -/
  | hostInterfaceReset (t : Nat)
  /-- FLR, R244. -/
  | flr (fn : Nat)
  /-- VF_ENABLE_CLEAR, R244. -/
  | vfEnableClear
  /-- BUS_MASTER_ENABLE_SET, R243. -/
  | busMasterEnableSet (fn : Nat)
  /-- POWER_REMOVED, R455. -/
  | powerRemoved
  /-- SECURE_BOOT, R442. -/
  | secureBoot (i : BootInput)
  /-- LARDER_UPDATE, R212. -/
  | larderUpdate
  /-- BANKED_ENTRY, R458. -/
  | bankedEntry (noBandNs : Nat)
  /-- BANKED_EXIT, R459. -/
  | bankedExit (t : Nat)
  /-- HBM_SELF_REFRESH_TIMER, R459. -/
  | hbmSelfRefreshTimer (stack t : Nat)
  /-- DORMANT_WAKE, R460. -/
  | dormantWake (source : WakeSource) (digestOk : Bool) (t : Nat)
  /-- CORE_SLEEP, R19. -/
  | coreSleep (core : Nat)
  /-- KEEP_WARM_WAKE, R19. -/
  | keepWarmWake (core t : Nat)
  /-- CORE_WAKE_COMPLETE, R19. -/
  | coreWakeComplete (core t : Nat)
  /-- CLUSTER_PLL_OFF, R457. -/
  | clusterPllOff (cluster : Nat)
  /-- AVS_STEP, R461. -/
  | avsStep (millivolts : Nat) (acked : Bool) (t : Nat)
  /-- AVS_RETRY, R461. -/
  | avsRetry (millivolts : Nat) (acked : Bool) (t : Nat)
  /-- VDD_CORE_WARN, R462. -/
  | vddCoreWarn (millivolts : Nat) (t : Nat)
  /-- VDD_CORE_RECOVER, R462. -/
  | vddCoreRecover (millivolts : Nat) (t : Nat)
  /-- STRETCH_2MS, R462. -/
  | stretch2ms (t : Nat)
  /-- VDD_CORE_RESET_THRESHOLD, R462. -/
  | vddCoreResetThreshold (millivolts : Nat) (t : Nat)
  /-- RAIL_UNDERVOLTAGE, R463. -/
  | railUndervoltage (rail : Rail) (t : Nat)
  /-- THERMAL_WARN, R464. -/
  | thermalWarn (t : Nat)
  /-- THERMAL_THROTTLE, R465. -/
  | thermalThrottle (t : Nat)
  /-- THROTTLE_RELEASE, R464. -/
  | throttleRelease (maxTemp : Int) (t : Nat)
  /-- THERMTRIP, R465. -/
  | thermtrip (t : Nat)
  /-- TAMPER_DETECT, R449. -/
  | tamperDetect (t : Nat)
  /-- REFCLK_LOSS, R456. -/
  | refclkLoss (clk : RefClk) (t : Nat)
  /-- WAKE_OSC_TRIM, R456. -/
  | wakeOscTrim (t : Nat)
  /-- FW_HEARTBEAT, R411. -/
  | fwHeartbeat (t : Nat)
  /-- WATCHDOG_TIMEOUT, R411. -/
  | watchdogTimeout (t : Nat)
  /-- LOCKSTEP_MISMATCH, R408. -/
  | lockstepMismatch (t : Nat)
  /-- ERROR_PORT_EVENT, R399. -/
  | errorPortEvent (src : FaultSrc) (ev : ErrEvent) (addr t : Nat)
  /-- FENCE_EFFECT, R404. -/
  | fenceEffect (u : FenceUnit) (t : Nat)
  /-- FAULT_N_RELEASE, R406. -/
  | faultNRelease (t : Nat)
  /-- BIST_COMPLETE, R410. -/
  | bistComplete (failed : List Nat) (t : Nat)
  /-- PATCH_PARITY_ERROR, R42. -/
  | patchParityError (core t : Nat)
  /-- CORE_BIST_RELOAD_DONE, R42. -/
  | coreBistReloadDone (core : Nat) (pass : Bool) (t : Nat)
  /-- SPARE_TAKEOVER, R45. -/
  | spareTakeover (core t : Nat)
  /-- CORE_RESTART, R44. -/
  | coreRestart (core : Nat) (cause : RestartCause) (t : Nat)
  /-- BAND_DISPATCH, R77. -/
  | bandDispatch (session : Nat) (place : List Nat) (targetBits : Nat) (shares : List Nat) (t : Nat)
  /-- BAND_START, R13. -/
  | bandStart (core t : Nat)
  /-- CU_START, R29. -/
  | cuStart (core engine : Nat) (around : List AssayIn)
  /-- CU_MEASURE, R90. -/
  | cuMeasure (core : Nat) (m : CuMeas)
  /-- ROW_COMMIT, R43. -/
  | rowCommit (core : Nat) (bytes : Bytes) (complexity : Nat) (t : Nat)
  /-- SURVEY_ROW_START, R58. -/
  | surveyRowStart (cluster session frame row : Nat) (cells : List SurveyCell)
  /-- PPU_BAND, R147. -/
  | ppuBand (cluster : Nat) (i : PpuInput) (t : Nat)
  /-- PACKET_RELEASE, R110. -/
  | packetRelease (session : Nat) (t : Nat)
  /-- BAND_RELEASE_TIME, R199. -/
  | bandReleaseTime (session frame band t : Nat)
  /-- TS_PSI_TIMER, R122. -/
  | tsPsiTimer (session t : Nat)
  /-- INPUT_GAP_TIMEOUT, R256. -/
  | inputGapTimeout (session t : Nat)
  /-- DECODE_UNIT_START, R128. -/
  | decodeUnitStart (u : DecCu)
  /-- DECODE_ROW_COMMIT, R130. -/
  | decodeRowCommit (core session pic row t : Nat)
  /-- DECODE_PICTURE_END, R136. -/
  | decodePictureEnd (session pic bits consumed : Nat) (hashBad : Bool) (t : Nat)
  /-- REORDER_TIMEOUT, R132. -/
  | reorderTimeout (session t : Nat)
  /-- RTP_PACKET_RX, R131. -/
  | rtpPacketRx (p : RtpPkt)
  /-- DECODE_OUTPUT_START, R145. -/
  | decodeOutputStart (session pic t : Nat)
  /-- PX_TX_LINE, R309. -/
  | pxTxLine (port line t : Nat)
  /-- PX_LINK_UP, R301. -/
  | pxLinkUp (port t : Nat)
  /-- PX_LINK_DOWN, R301. -/
  | pxLinkDown (port t : Nat)
  /-- FRAME_START, R303. -/
  | frameStart (p : PxPkt)
  /-- LINE, R304. -/
  | line (p : PxPkt)
  /-- FRAME_END, R305. -/
  | frameEnd (p : PxPkt)
  /-- METADATA, R304. -/
  | metadata (p : PxPkt)
  /-- PX_FIFO_READ, R307. -/
  | pxFifoRead (port : Nat)
  /-- ETH_FRAME_HEAD, R316. -/
  | ethFrameHead (h : EthHead)
  /-- ETH_FRAME_END, R317. -/
  | ethFrameEnd (port : Nat) (len : Nat) (fcsOk : Bool) (head : Bytes) (t : Nat)
  /-- PORT_PACKET_IN, R314. -/
  | portPacketIn (p : PortPkt)
  /-- PANTRY_RETRY, R330. -/
  | pantryRetry (port t : Nat)
  /-- POOL_CACHE_REFILL, R327. -/
  | poolCacheRefill (pool : Nat)
  /-- EGRESS_SELECT, R372. -/
  | egressSelect (port : Nat) (head : Bytes) (t : Nat)
  /-- COPY_DONE, R319. -/
  | copyDone (port buffer requester : Nat) (readback : Bool) (t : Nat)
  /-- QUEUE_AVG_DECAY, R322. -/
  | queueAvgDecay (queue t : Nat)
  /-- GCL_BOUNDARY, R373. -/
  | gclBoundary (port t : Nat)
  /-- PFC_XOFF_RX, R356. -/
  | pfcXoffRx (port : Nat) (priorities : Nat) (quanta : Nat) (t : Nat)
  /-- PFC_XOFF_EXPIRE, R356. -/
  | pfcXoffExpire (port priority t : Nat)
  /-- MERGE_LOST_TIMEOUT, R367. -/
  | mergeLostTimeout (flow t : Nat)
  /-- MERGE_LEG_DOWN, R367. -/
  | mergeLegDown (flow : Nat) (legB : Bool) (t : Nat)
  /-- LEARN, R345. -/
  | learn (port fid mac : Nat) (t : Nat)
  /-- REFRESH, R346. -/
  | refresh (port fid mac : Nat) (t : Nat)
  /-- MOVE, R348. -/
  | move (port fid mac : Nat) (t : Nat)
  /-- AGING_SWEEP, R349. -/
  | agingSweep (t : Nat)
  /-- FLAP_CLEAR, R348. -/
  | flapClear (port t : Nat)
  /-- PTP_MESSAGE_RX, R361. -/
  | ptpMessageRx (m : PtpIn)
  /-- PTP_MESSAGE_TIMER, R361. -/
  | ptpMessageTimer (port kind t : Nat)
  /-- ANNOUNCE_TIMEOUT, R362. -/
  | announceTimeout (t : Nat)
  /-- PPS_IN_EDGE, R363. -/
  | ppsInEdge (t : Nat)
  /-- PPS_OUT, R363. -/
  | ppsOut (t : Nat)
  /-- HELLO, R388. -/
  | hello (h : ClpHdr) (standby members gm current nextVersion : Nat)
  /-- HELLO_TIMER, R383. -/
  | helloTimer (t : Nat)
  /-- JOIN_REQ, R385. -/
  | joinReq (h : ClpHdr) (serial version fwVersion : Nat) (headless timeQualified : Bool) (cores hbmMib configHash : Nat)
  /-- JOIN_ACK, R385. -/
  | joinAck (h : ClpHdr) (result role member leaseMs configHash : Nat)
  /-- JOIN_RETRY, R385. -/
  | joinRetry (t : Nat)
  /-- HEADLESS_REJOIN, R379. -/
  | headlessRejoin (t : Nat)
  /-- LEASE_RENEW, R386. -/
  | leaseRenew (h : ClpHdr) (status unreachable : Nat) (offset : Int) (gm : Nat)
  /-- LEASE_RENEW_TIMER, R386. -/
  | leaseRenewTimer (t : Nat)
  /-- LEASE_EXPIRY, R386. -/
  | leaseExpiry (t : Nat)
  /-- MEMBER_LOST, R387. -/
  | memberLost (member t : Nat)
  /-- MANAGER_TAKEOVER, R388. -/
  | managerTakeover (t : Nat)
  /-- ASSIGN, R383. -/
  | assign (h : ClpHdr) (session role region fromFrame : Nat) (config : Bytes)
  /-- LEDGER, R394. -/
  | ledger (h : ClpHdr) (session form frame budgetCrc : Nat) (snapshot : List (Nat × UnitStats))
  /-- LEDGER_DIGEST_TIMER, R394. -/
  | ledgerDigestTimer (t : Nat)
  /-- STATS, R177. -/
  | stats (h : ClpHdr) (session frame unit : Nat) (u : UnitStats)
  /-- STATS_REQUEST, R384. -/
  | statsRequest (session frame unit t : Nat)
  /-- STATS_TIMEOUT, R178. -/
  | statsTimeout (session frame unit t : Nat)
  /-- COMMIT, R184. -/
  | commit (h : ClpHdr) (session frame received released : Nat)
  /-- SEAM_CHECK, R185. -/
  | seamCheck (h : ClpHdr) (session frame slice crc : Nat) (refCrc : Option Nat)
  /-- FENCE, R387. -/
  | fence (h : ClpHdr) (member reason session : Nat)
  /-- PROMOTE, R190. -/
  | promote (h : ClpHdr) (session region newMember frame firstSlice : Nat)
  /-- EPOCH_ADVANCE, R391. -/
  | epochAdvance (h : ClpHdr) (phase newEpoch configHash version : Nat) (changes : List (Nat × Nat))
  /-- EPOCH_HOLD_TIMEOUT, R394. -/
  | epochHoldTimeout (epoch t : Nat)
  /-- TIME_CHECK, R393. -/
  | timeCheck (h : ClpHdr) (managerPtp gm domain limit : Nat)
  /-- TIME_CHECK_TIMER, R383. -/
  | timeCheckTimer (t : Nat)
  /-- TIME_QUALIFIED, R393. -/
  | timeQualified (t : Nat)
  /-- UNQUAL_HOLD_EXPIRY, R393. -/
  | unqualHoldExpiry (member t : Nat)
  /-- CLP_RETRANSMIT, R382. -/
  | clpRetransmit (dest seq t : Nat)
  /-- SLICE_TRANSFER, R183. -/
  | sliceTransfer (f : SliceFrag) (t : Nat)
  /-- SLICE_RESEND_TIMER, R184. -/
  | sliceResendTimer (session frame slice t : Nat)
  /-- HALO_STRIP, R175. -/
  | haloStrip (h : ClpHdr) (session frame band : Nat) (data : Bytes)
  /-- HALO_RESEND_TIMER, R175. -/
  | haloResendTimer (session frame band t : Nat)
  /-- SEAM_STRIP, R180. -/
  | seamStrip (h : ClpHdr) (session frame band : Nat) (data : Bytes)
  /-- REFEREE_RESULT, R188. -/
  | refereeResult (h : ClpHdr) (session frame unit : Nat) (crcs : List (Nat × Nat)) (u : UnitStats)
  /-- SELF_TEST_PERIODIC, R445. -/
  | selfTestPeriodic (failMask : Nat) (fwDigestOk : Bool) (t : Nat)
  /-- ENTROPY_HEALTH_FAIL, R445. -/
  | entropyHealthFail (t : Nat)
  /-- DRBG_RESEED, R430. -/
  | drbgReseed (t : Nat)
  /-- NONCE_EXPIRY, R433. -/
  | nonceExpiry (fn t : Nat)
  /-- AUTH_LOCKOUT_END, R433. -/
  | authLockoutEnd (fn t : Nat)
  /-- ROLE_EXPIRY, R434. -/
  | roleExpiry (fn t : Nat)
  /-- DECAP_KEY_EXPIRY, R440. -/
  | decapKeyExpiry (t : Nat)
  /-- TELEMETRY_SWEEP, R421. -/
  | telemetrySweep (sensors : List Int) (t : Nat)
  /-- SENSOR_TRIM, R421. -/
  | sensorTrim (sensor t : Nat)
  /-- AGING_WRITE, R426. -/
  | agingWrite (activeMinutes : List Nat) (t : Nat)
  /-- ROTATION_CHECK, R427. -/
  | rotationCheck (t : Nat)
  /-- AUTO_COMMIT, R416. -/
  | autoCommit (t : Nat)
  /-- FLASH_LOG_WRITE, R424. -/
  | flashLogWrite (eraseOk : Bool) (t : Nat)
  /-- MCTP_SET_ENDPOINT_ID, R419. -/
  | mctpSetEndpointId (operation eid : Nat)
  /-- MCTP_GET_ENDPOINT_ID, R419. -/
  | mctpGetEndpointId
  /-- MCTP_GET_VERSION_SUPPORT, R419. -/
  | mctpGetVersionSupport (msgType : Nat)
  /-- MCTP_GET_MESSAGE_TYPE_SUPPORT, R419. -/
  | mctpGetMessageTypeSupport
  /-- REQUEST_UPDATE, R420. -/
  | requestUpdate (t : Nat)
  /-- TRANSFER_COMPLETE, R420. -/
  | transferComplete (image : Bytes) (t : Nat)
  /-- ACTIVATE_FIRMWARE, R420. -/
  | activateFirmware (selfContained : Bool) (t : Nat)
  /-- HBM_REQUEST, R266. -/
  | hbmRequest (q : HbmReq)
  /-- HBM_READ_RETURN, R272. -/
  | hbmReadReturn (addr requester symbols t : Nat)
  /-- BULK_PROMOTION, R266. -/
  | bulkPromotion (pc t : Nat)
  /-- PAGE_CLOSE_TIMEOUT, R267. -/
  | pageCloseTimeout (pc bank t : Nat)
  /-- HBM_REFRESH, R268. -/
  | hbmRefresh (pc bank t : Nat)
  /-- HBM_TEMP_READ, R268. -/
  | hbmTempRead (stack : Nat) (temp : Int) (t : Nat)
  /-- ACT_WINDOW_END, R271. -/
  | actWindowEnd (pc t : Nat)
  /-- PATROL_SCRUB, R276. -/
  | patrolScrub (addr symbols t : Nat)
  /-- RETRAIN_START, R278. -/
  | retrainStart (pc : Nat) (gapNs : Nat) (t : Nat)
  /-- RETRAIN_DONE, R280. -/
  | retrainDone (pc : Nat) (ok : Bool) (t : Nat)
  /-- SRAM_SCRUB, R282. -/
  | sramScrub (array index word : Nat) (errors : Nat) (t : Nat)
  /-- TAP_UPDATE_IR, R481. -/
  | tapUpdateIr (code : BitVec 8) (class5 : Bool) (t : Nat)
  /-- TAP_RESET, R479. -/
  | tapReset
  /-- ETH_LINK_UP, R355. -/
  | ethLinkUp (port t : Nat)
  /-- ETH_LINK_DOWN, R212. -/
  | ethLinkDown (port t : Nat)
  /-- CLP_ACK_RECEIVED, R382. -/
  | clpAckReceived (h : ClpHdr) (kind seq : Nat) (nak : Bool) (leaseMs : Nat)
  /-- REFEREE_TIMEOUT, R189. -/
  | refereeTimeout (session frame unit t : Nat)
  /-- VDD_FUSE_CHANGE, R431. -/
  | vddFuseChange (present : Bool) (t : Nat)
  /-- AVS_SETTLED, R461. -/
  | avsSettled (reported : Bool) (t : Nat)
  /-- MSIX_VECTOR_UNMASK, R242. -/
  | msixVectorUnmask (fn vector : Nat)
deriving DecidableEq, Repr

end Sys2Proof
end

