-- ==== Sys2Proof/Decode.lean ====
section
/-! DEFINITION. Reading a command from a word of spec/opcode_table.json.  The table gives no row any bits, so no word
spells a command (log entry 7). -/

namespace Sys2Proof

/-- The command that a word of the table spells: the table gives bits for none of its rows. -/
def decodeTableWord (_nbits _w : Nat) : Option Instr := none

end Sys2Proof
end

