-- ==== Sys2Proof/Machine/Operands.lean ====
section
/-! DEFINITION. Operand forms: tables, byte order, fields of structures, fields of a command entry, CRCs. -/

namespace Sys2Proof.Machine

/-- The value of a key, or the default of an unlisted key. -/
def tget {α : Type} (d : α) : Tbl α → Nat → α
  | [], _ => d
  | (j, a) :: l, k => if j = k then a else if k < j then d else tget d l k

/-- The value of a key if it is listed. -/
def tfind {α : Type} : Tbl α → Nat → Option α
  | [], _ => none
  | (j, a) :: l, k => if j = k then some a else if k < j then none else tfind l k

/-- Write a key, keeping the keys rising. -/
def tset {α : Type} : Tbl α → Nat → α → Tbl α
  | [], k, a => [(k, a)]
  | (j, b) :: l, k, a => if j = k then (k, a) :: l else if k < j then (k, a) :: (j, b) :: l else (j, b) :: tset l k a

/-- Remove a key. -/
def tdel {α : Type} : Tbl α → Nat → Tbl α
  | [], _ => []
  | (j, b) :: l, k => if j = k then l else if k < j then (j, b) :: l else (j, b) :: tdel l k

/-- Add to a counter table. -/
def tadd (l : Tbl Nat) (k n : Nat) : Tbl Nat := tset l k (tget 0 l k + n)

/-- Change every value of a table. -/
def tmap {α : Type} (f : α → α) (l : Tbl α) : Tbl α := l.map fun p => (p.1, f p.2)

/-- Update entry `i` of a list. -/
def lset {α : Type} : List α → Nat → α → List α
  | [], _, _ => []
  | _ :: l, 0, a => a :: l
  | b :: l, i + 1, a => b :: lset l i a

/-- Byte `i` of a byte string as a number; bytes beyond the end read as zero (R5). -/
def u8 (b : Bytes) (i : Nat) : Nat := (b.getD i 0).toNat

/-- Little-endian number of `n` bytes at offset `i` (R4). -/
def ule (b : Bytes) (i : Nat) : Nat → Nat
  | 0 => 0
  | n + 1 => u8 b i + 256 * ule b (i + 1) n

/-- Big-endian number of `n` bytes at offset `i` (R4, packet fields). -/
def ube (b : Bytes) (i : Nat) : Nat → Nat
  | 0 => 0
  | n + 1 => u8 b i * 256 ^ n + ube b (i + 1) n

/-- 16-, 32- and 64-bit little-endian fields. -/
def u16 (b : Bytes) (i : Nat) : Nat := ule b i 2
def u32 (b : Bytes) (i : Nat) : Nat := ule b i 4
def u64 (b : Bytes) (i : Nat) : Nat := ule b i 8

/-- The two's complement value of an `n`-bit number. -/
def signed (n v : Nat) : Int := if v < 2 ^ (n - 1) then (v : Int) else (v : Int) - 2 ^ n

/-- Signed fields. -/
def s8 (b : Bytes) (i : Nat) : Int := signed 8 (u8 b i)
def s16 (b : Bytes) (i : Nat) : Int := signed 16 (u16 b i)

/-- Bit `k` of a number. -/
def bitOf (v k : Nat) : Bool := v / 2 ^ k % 2 = 1

/-- `n` bytes of a number, little-endian. -/
def le (n v : Nat) : Bytes :=
  match n with
  | 0 => []
  | k + 1 => BitVec.ofNat 8 v :: le k (v / 256)

/-- `n` bytes of a number, big-endian. -/
def be (n v : Nat) : Bytes := (le n v).reverse

/-- The unsigned `n`-bit pattern of an integer. -/
def toBits (n : Nat) (v : Int) : Nat := (v % (2 ^ n : Nat)).toNat

/-- ASCII bytes of a text. -/
def ascii (t : String) : Bytes := t.toList.map (fun c => BitVec.ofNat 8 c.toNat)

/-- Zero bytes. -/
def zeros (n : Nat) : Bytes := List.replicate n 0

/-- Pad with zero bytes up to a length. -/
def padTo (n : Nat) (b : Bytes) : Bytes := b ++ zeros (n - b.length)

/-- Bytes from an offset. -/
def slice (b : Bytes) (i n : Nat) : Bytes := (b.drop i).take n

/-- Are all bytes of a range zero? -/
def allZero (b : Bytes) (i n : Nat) : Bool := (slice b i n).all (· == 0)

/-- Division rounded up. -/
def cdiv (a b : Nat) : Nat := (a + b - 1) / b

/-- Round up to a multiple. -/
def roundUp (a b : Nat) : Nat := cdiv a b * b

/-- Fractions: whole numbers, reduced form, sum, difference cut at zero, product, order, rounding. -/
def fracOf (n : Nat) : Frac := ⟨n, 1⟩
def fracNorm (a : Frac) : Frac := ⟨a.num / max 1 (Nat.gcd a.num a.den), a.den / max 1 (Nat.gcd a.num a.den)⟩
def fracAdd (a b : Frac) : Frac := fracNorm ⟨a.num * b.den + b.num * a.den, a.den * b.den⟩
def fracSub (a b : Frac) : Frac := fracNorm ⟨a.num * b.den - b.num * a.den, a.den * b.den⟩
def fracMul (a b : Frac) : Frac := fracNorm ⟨a.num * b.num, a.den * b.den⟩
def fracLe (a b : Frac) : Bool := a.num * b.den ≤ b.num * a.den
def fracMax (a b : Frac) : Frac := if fracLe a b then b else a
def fracMin (a b : Frac) : Frac := if fracLe a b then a else b
def fracFloor (a : Frac) : Nat := a.num / a.den
def fracCeil (a : Frac) : Nat := cdiv a.num a.den

/-- One shift step of a reflected CRC with the given reversed polynomial. -/
def crcStep (poly c : Nat) : Nat := if c % 2 = 1 then Nat.xor (c / 2) poly else c / 2

/-- Eight shift steps. -/
def crcByte (poly c : Nat) (b : Byte) : Nat :=
  let x := Nat.xor c b.toNat
  crcStep poly (crcStep poly (crcStep poly (crcStep poly (crcStep poly (crcStep poly (crcStep poly (crcStep poly x)))))))

/-- A reflected 32-bit CRC, initial value and final XOR 0xFFFF_FFFF. -/
def crc (poly : Nat) (b : Bytes) : Nat := Nat.xor (b.foldl (crcByte poly) 0xFFFFFFFF) 0xFFFFFFFF

/-- CRC-32 of R185 (polynomial 0x04C1_1DB7 reflected). -/
def crc32 (b : Bytes) : Nat := crc 0xEDB88320 b

/-- CRC-32C of R302 (polynomial 0x1EDC_6F41 reflected). -/
def crc32c (b : Bytes) : Nat := crc 0x82F63B78 b

/-- Fields of a command entry (Table 11.9). -/
def cmdOpcode (e : Bytes) : Nat := u8 e 0
def cmdFence (e : Bytes) : Bool := bitOf (u8 e 1) 0
def cmdNoIrq (e : Bytes) : Bool := bitOf (u8 e 1) 1
def cmdInHbm (e : Bytes) : Bool := bitOf (u8 e 1) 2
def cmdFlagsRsvd (e : Bytes) : Bool := u8 e 1 / 8 ≠ 0
def cmdCid (e : Bytes) : Nat := u16 e 2
def cmdTarget (e : Bytes) : Nat := u32 e 4
def cmdDataPtr (e : Bytes) : Nat := u64 e 8
def cmdDataLen (e : Bytes) : Nat := u32 e 16
def cmdEpoch (e : Bytes) : Nat := u32 e 20

/-- MAX_DATA_LEN (Table 11.9). -/
def maxDataLen : Nat := 16777216

/-- The first failing check: each pair holds a condition that must hold and the offset that its failure reports. -/
def firstFail : List (Bool × Nat) → Option Nat
  | [] => none
  | (ok, off) :: l =>
    match firstFail l with
    | some o => if ok then some o else some (min off o)
    | none => if ok then none else some off

/-- `v` lies in an inclusive range (R6). -/
def inRange (v lo hi : Nat) : Bool := lo ≤ v && v ≤ hi
def inRangeI (v lo hi : Int) : Bool := lo ≤ v && v ≤ hi

end Sys2Proof.Machine
end

