-- ==== Sys2Proof/Config.lean ====
section
/-! DEFINITION. What one implementation fixes, and the values that the manual leaves open.
A constant without a body is a free value: no proof can see what it is (log entries 10 to 16, 28, 44 and 53). -/

namespace Sys2Proof

/-- Part number of the modelled configuration, Table 0.1: the H9-2832 (log entry 2). -/
def Config.hbmGib : Nat := 32
/-- HBM capacity in bytes (R263). -/
def Config.hbmBytes : Nat := Config.hbmGib * 1073741824
/-- Clusters, cores per cluster, cores (R2, Table 1.1). -/
def Config.clusters : Nat := 4
def Config.coresPerCluster : Nat := 7
def Config.cores : Nat := 28
/-- Core clock in MHz at B1 (R456) and fabric clock in MHz. -/
def Config.fCoreMhz : Nat := 1600
def Config.fabricMhz : Nat := 1200
/-- The serial number that DEVICE publishes; each part has its own (R210). -/
opaque Config.serial : Nat
/-- Capacity model costs that Table 1.5 does not print: cycles per coding unit at 4:2:2 by standard, operation,
bit depth, coding-unit size and effort (R20, R211: published only in the Larder). -/
opaque Config.costUnpublished : Nat → Nat → Nat → Nat → Nat → Nat
/-- MIN_CU_BITS of the Larder (R211). -/
opaque Config.minCuBits : Nat → Nat → Nat → Nat → Nat
/-- MAX_CU_BYTES of the Larder by standard, operation, bit depth, CU_LOG2 and chroma code (R211). -/
opaque Config.maxCuBytes : Nat → Nat → Nat → Nat → Nat → Nat
/-- BPP_LOSSY and BPP_LOSSLESS of the Larder, in 1/256 bin per pixel (R211). -/
opaque Config.bppLossy : Nat → Nat → Nat → Nat → Nat → Nat
opaque Config.bppLossless : Nat → Nat → Nat → Nat → Nat → Nat

/-- A limit of a level of a standard, for a tier, a profile, a chroma format and a bit depth (R80, R486): the standards'
level tables are named and not printed (log entry 28).  Items: 0 picture size, 1 width, 2 height, 3 luma sample rate per
second, 4 bit rate in 1,000 b/s, 5 coded picture buffer in 1,000 bits, 6 tile columns, 7 tile rows, 8 tiles, 9 slices. -/
opaque Config.levelLimit : Nat → Nat → Nat → Nat → Nat → Nat → Nat → Nat
/-- The largest NUM_REF_STORED of a level for a coded luma area (R36). -/
opaque Config.levelRefs : Nat → Nat → Nat → Nat
/-- Does a level code name a level of the standard in a tier? -/
opaque Config.levelNamed : Nat → Nat → Nat → Bool

/-- One sample of the denoiser's result (R159): strength, frame number, component, row, column, the component of the picture
denoised before and of this picture.  The manual fixes what the result depends on, not the result (log entry 13). -/
opaque Config.denoise : Nat → Nat → Nat → Nat → Nat → List (List Nat) → List (List Nat) → Nat
/-- One sample with film grain (R126): standard, seed, grain parameters, component, row, column, the component's samples.  The
AV1 specification and ITU-T H.274 are named and not printed (log entry 13). -/
opaque Config.filmGrain : Nat → Nat → Bytes → Nat → Nat → Nat → List (List Nat) → Nat
/-- round(128 × w / Σw) of a scaler tap (R156): input size, output size, phase, tap index from 0.  The taps are values of
the sinc function (log entry 14). -/
opaque Config.scaleTap : Nat → Nat → Nat → Nat → Int
/-- A demosaiced value as a 16-bit sample (R163): value, black levels, white level; its rounding is not stated
(log entry 15). -/
opaque Config.scaleRaw : Nat → List Nat → Nat → Nat
/-- Penalty-free facts of coded syntax that the manual leaves to the standards and the determinism version: the bytes of a
unit of Table 5.3 other than slice data, from its kind, the configuration, the frame number and the picture's coding facts
(log entry 16). -/
opaque Config.unitBytes : Nat → Bytes → Nat → List Nat → Bytes

/-- Has a function a receive queue group (R312)?  No command of the manual gives it one (log entry 44). -/
opaque Config.queueGroup : Nat → Bool

/-- The narrow CMAX of SMPTE ST 2110-21 in bytes for a subscriber (R371): type, rate in kb/s, active and total lines.  The
standard is named and not printed (log entry 28). -/
opaque Config.narrowCmax : Nat → Nat → Nat → Nat → Nat

/-- The bank of a pseudo-channel that holds its n-th row: successive rows rotate across bank groups in an order that the manual
does not print (R264, log entry 53). -/
opaque Config.hbmBank : Nat → Nat

/-- The n-th fresh value of a draw or of an undefined result, below its bound (log entry 10). -/
opaque Config.freeNat : Nat → Nat
/-- The n-th fresh byte of an undefined result (log entry 10). -/
opaque Config.freeByte : Nat → Byte

/-- SHA-384 and SHA-512 of a byte string (FIPS 180-4), HMAC-SHA-384 (FIPS 198-1): named, not printed (log entry 11). -/
opaque Config.sha384 : Bytes → Bytes
opaque Config.sha512 : Bytes → Bytes
opaque Config.hmacSha384 : Bytes → Bytes → Bytes
/-- ECDSA P-384 verification of a signature over a message under a public key (FIPS 186-5). -/
opaque Config.ecdsaVerify : Bytes → Bytes → Bytes → Bool
/-- ECDSA P-384 signature of a message by the device identity key. -/
opaque Config.ecdsaSign : Bytes → Bytes
/-- ML-KEM-1024: the n-th key pair's encapsulation key, and decapsulation with that pair. -/
opaque Config.kemPublic : Nat → Bytes
opaque Config.kemDecap : Nat → Bytes → Bytes
/-- AES-256-GCM decryption: key, nonce, associated data, ciphertext, tag; none when the tag fails. -/
opaque Config.gcmOpen : Bytes → Bytes → Bytes → Bytes → Bytes → Option Bytes
/-- AES-256-GCM encryption: key, nonce, associated data, plaintext; the ciphertext and the tag. -/
opaque Config.gcmSeal : Bytes → Bytes → Bytes → Bytes → Bytes × Bytes
/-- An SRTP packet (R121): master key and salt, rollover counter, sequence number, header, payload; the sealed payload with
its tag. -/
opaque Config.srtpSeal : Bytes → Nat → Nat → Bytes → Bytes → Bytes
/-- The PCR of a TS packet (R122): the nominal packet schedule at the session bit rate, from the configuration, the frame
number and the packet's number in the access unit (log entry 16). -/
opaque Config.pcr : Bytes → Nat → Nat → Nat
/-- The key derivation of R438: input key, label, context, length in bytes. -/
opaque Config.kdf : Bytes → Bytes → Bytes → Nat → Bytes
/-- The DRBG's output of a draw, of a length in bytes (R430). -/
opaque Config.randomBytes : Nat → Nat → Bytes

/-- The function number as the bytes that an authentication response covers (R433: no width is printed, log entry 11). -/
opaque Config.fnBytes : Nat → Bytes
/-- SERIAL, LIFECYCLE and determinism version as the attestation report lays them out (Table 22.9, log entry 11). -/
opaque Config.attestFacts : Nat → Nat → Nat → Bytes
/-- The concatenated FIRMWARE_COMPONENT digests of an image (R210, log entry 12). -/
opaque Config.componentDigests : Bytes → Bytes
/-- The identity key wrapped under the device unique secret: a new IDENTITY_WRAPPED item (R437, R438). -/
opaque Config.wrapIdentity : Bytes → Nat → Bytes

/-- What verifying a staged firmware image of the given bytes finds (R413, R442): the facts that the image format,
which the manual does not print, and its signatures decide. -/
structure ImageFacts where
  familyOk           : Bool
  signaturesOk       : Bool
  tagOk              : Bool
  version            : Nat
  determinismVersion : Nat
  svns               : List Nat
deriving DecidableEq, Repr, Inhabited

/-- The facts of the image whose bytes are given (log entry 12). -/
opaque Config.imageFacts : Bytes → ImageFacts

/-- The patch RAM words and the match registers that the patch image of a firmware version loads (R40, R41): the
manual prints no image (log entry 12). -/
opaque Config.patchWords : Nat → List (Nat × BitVec 160)
opaque Config.patchMatch : Nat → List (Bool × Nat × Nat)

end Sys2Proof
end

