-- ==== Sys2Proof/Machine/PartsHost.lean ====
section
/-! DEFINITION. State that the host sees: mailbox, queue pairs, rings, functions, DMA channels, event log, outputs. -/

namespace Sys2Proof.Machine

/-- The twelve operating modes (Table 12.1, R245). -/
inductive OpMode where
  | off | dormant | secureBoot | provisioning | ready | standalone
  | manager | standby | worker | quarantine | maintenance | lockdown
deriving DecidableEq, Repr

/-- One event record of Table 21.5 (R423), with the function that it belongs to and the label of its session. -/
structure EventRec where
  time       : Int
  seq        : Nat
  code       : Nat
  cls        : Nat
  cont       : Bool
  deviceWide : Bool
  source     : Nat
  session    : Nat
  arg0       : Nat
  arg1       : Nat
  fn         : Nat
  label      : Bytes
deriving DecidableEq, Repr

/-- A ring of R239: base, depth, MSI-X vector and PRODUCED. -/
structure Ring where
  base     : Nat
  depth    : Nat
  vector   : Nat
  produced : Nat
deriving DecidableEq, Repr

/-- The outcome of a command: the STATUS, DETAIL and RESULT of its completion (Table 11.10). -/
structure Reply where
  status : Nat
  detail : Nat
  result : Nat
deriving DecidableEq, Repr

/-- A fetched command that has not completed: its reference, its 64-byte entry (Table 11.9), its place in fetch order,
whether and when it started, and the outcome that waits for its turn (R227, R261). -/
structure InFlight where
  cid       : Nat
  entry     : Bytes
  order     : Nat
  started   : Bool
  startTime : Nat
  fetched   : Nat
  reply     : Option Reply
deriving DecidableEq, Repr

/-- A queue pair (R223 to R228). -/
structure QueuePair where
  fn          : Nat
  qid         : Nat
  depth       : Nat
  vector      : Nat
  coalCount   : Nat
  coalUs      : Nat
  sqBase      : Nat
  cqBase      : Nat
  sqTail      : Nat
  sqHead      : Nat
  cqTail      : Nat
  cqHead      : Nat
  posted      : Nat
  phase       : Bool
  unannounced : Nat
  oldestAt    : Nat
  fetchCount  : Nat
  deleting    : Option CmdRef
  aborted     : Nat
  flight      : List InFlight
deriving DecidableEq, Repr

/-- The roles of R432. -/
inductive Role where
  | none | user | cryptoOfficer
deriving DecidableEq, Repr

/-- Authentication state, held per function (R432 to R434). -/
structure AuthState where
  role     : Role
  since    : Nat
  keyId    : Nat
  nonce    : Option (Bytes × Nat)
  failures : Nat
  lockout  : Option Nat
deriving DecidableEq, Repr

/-- One PCIe function: grants (R219), Host Control Block (R220 to R222), MSI-X table (R242), event ring (R241),
HOST_OOB (R218), Bus Master Enable and the ring suppression of R243, authentication (R432). -/
structure FnState where
  qpGrant     : Nat
  sessGrant   : Nat
  hbmUnits    : Nat
  hbmBase     : Nat
  hostOob     : Nat
  intrCause   : BitVec 32
  intrMask    : BitVec 32
  mbEnable    : Bool
  mbEnabled   : Bool
  adminError  : Bool
  adminDepth  : Nat
  adminSqBase : Nat
  adminCqBase : Nat
  vecMasked   : List Nat
  vecPending  : List Nat
  eventRing   : Option Ring
  suppressed  : Bool
  busMaster   : Bool
  auth        : AuthState
deriving DecidableEq, Repr

/-- STATE of a DMA channel (Table 14.4). -/
inductive DmaState where
  | idle | running | haltedError | haltedMismatch
deriving DecidableEq, Repr

/-- A beat that has been issued and has not returned (R287). -/
structure DmaBeat where
  src    : Nat
  dst    : Nat
  len    : Nat
  offset : Nat
deriving DecidableEq, Repr

/-- A host DMA channel: Table 14.2, its owner (R284) and what it has in flight. -/
structure DmaChannel where
  owner       : Nat
  state       : DmaState
  armed       : Bool
  shadowLate  : Bool
  done        : Bool
  error       : Bool
  mismatch    : Bool
  doneCount   : BitVec 32
  doneVec     : Nat
  errVec      : Nat
  shSrc       : BitVec 64
  shDst       : BitVec 64
  shLen       : BitVec 32
  shCfg       : BitVec 32
  shFill      : BitVec 64
  actSrc      : BitVec 64
  actDst      : BitVec 64
  actCount    : BitVec 32
  actCfg      : BitVec 32
  actFill     : BitVec 64
  setLen      : BitVec 32
  failAddr    : BitVec 64
  failInfo    : BitVec 32
  mismatchOff : BitVec 64
  beats       : List DmaBeat
  lastBurst   : Option (Nat × Nat)
  handOver    : Option Nat
  handedAt    : Option Nat
  bytes       : Nat
  halts       : Nat
deriving DecidableEq, Repr

/-- What the block puts out, newest first in `State.out` (log entry 6). -/
inductive OutItem where
  /-- A completion entry written at slot `slot` of a completion queue (Table 11.10). -/
  | completion (fn qid slot : Nat) (result sqHead cid status detail : Nat) (phase : Bool)
  /-- An MSI-X message (R242). -/
  | msix (fn vector : Nat)
  /-- Bytes written to a command's data buffer (R228). -/
  | hostData (fn : Nat) (inHbm : Bool) (addr : Nat) (data : Bytes)
  /-- A host memory write of a DMA channel (R287). -/
  | dmaWrite (fn addr : Nat) (data : Bytes)
  /-- Entry `n` of a ring, and PRODUCED = n + 1 (R239). -/
  | ringEntry (fn base n : Nat) (data : Bytes)
  /-- An event record entering a function's event ring (R241). -/
  | eventEntry (fn base n : Nat) (r : EventRec)
  /-- Data of a BAR2 or BAR0 read; `poisoned` is EP = 1 (Table 13.2). -/
  | readData (fn : Nat) (data : Bytes) (poisoned : Bool)
  /-- A Crew Link message of type `kind` to `dest`, with its fields in order (Table 19.2). -/
  | clp (kind dest seq : Nat) (fields : List Nat)
  /-- The answer of an HBM controller to a requester: the block's data, or the error response (R273, R274). -/
  | hbmAnswer (requester addr : Nat) (data : Option Bytes)
  /-- A packet of a session's output (R118 to R123). -/
  | packet (session kind : Nat) (fields : List Nat) (data : Bytes)
  /-- A frame that starts on an Ethernet port (R372). -/
  | egress (port packet : Nat) (fields : List Nat)
  /-- A PTP message that a port sends (R361). -/
  | ptp (port kind : Nat) (fields : List Int)
  /-- A pixel port packet that is sent (R309): header fields and payload. -/
  | pixel (port kind frame line plane offset : Nat) (data : Bytes)
  /-- A word read from the receive FIFO of a pixel port (R104): tag and bytes. -/
  | fifoWord (port : Nat) (tag : BitVec 16) (data : Bytes)
  /-- An answer on the sideband (R419, R420). -/
  | sideband (fields : List Nat)
  /-- An AVSBus transaction (R461). -/
  | avs (millivolts : Nat)
  /-- A capture record written to the capture ring (R325). -/
  | capture (n : Nat) (fields : List Nat) (data : Bytes)
  /-- A pause frame that a port sends (R356). -/
  | pause (port priority quanta : Nat)
deriving DecidableEq, Repr

end Sys2Proof.Machine
end

