-- ==== Sys2Proof/Machine/PartsCodec.lean ====
section
/-! DEFINITION. State of cores, clusters, packing FIFOs and sessions (chapters 1 to 9 and 12 of the manual). -/

namespace Sys2Proof.Machine

/-- A closed word of a packing FIFO: its valid bytes (COUNT of them) and END (Table 5.2); `tag` names the row
or packet that wrote it. -/
structure FifoWord where
  bytes : Bytes
  ended : Bool
  tag   : List Nat
deriving DecidableEq, Repr

/-- The packing FIFO of R103 to R107: closed words oldest first, how many of them lie before the commit pointer,
the bytes of the word being filled, HOLD, OVERFLOW, and the sizes in words. -/
structure PackFifo where
  words     : List FifoWord
  committed : Nat
  filling   : Bytes
  hold      : Bool
  overflow  : Nat
  capacity  : Nat
  high      : Nat
  low       : Nat
deriving DecidableEq, Repr

/-- The empty FIFO of given sizes. -/
def PackFifo.empty (capacity high low : Nat) : PackFifo :=
  { words := [], committed := 0, filling := [], hold := false, overflow := 0,
    capacity := capacity, high := high, low := low }

/-- Sleep state of a core (Table 1.4). -/
inductive CoreSleep where
  | awake | clockGated | powerGated
deriving DecidableEq, Repr

/-- One kept attempt of a coding unit (R90, Table 4.6). -/
structure CuEntry where
  cu      : Nat
  psnrY   : Nat
  psnrC   : Nat
  ssim    : Nat
  qp      : Int
  state   : Nat
  bits    : Nat
  area    : Nat
  final   : Nat
deriving DecidableEq, Repr

/-- Rate and floor accumulators of a unit of work (R76, R78, R89); the commit snapshot keeps a copy (R43). -/
structure UnitAcc where
  spent    : Nat
  bits     : Nat
  retries  : Nat
  lossless : Nat
  flags    : Nat
  complexity : Nat
  motion   : CuMotion
  entries  : List CuEntry
deriving DecidableEq, Repr

/-- The empty accumulators. -/
def UnitAcc.zero : UnitAcc :=
  { spent := 0, bits := 0, retries := 0, lossless := 0, flags := 0, complexity := 0,
    motion := ⟨0, 0, 0, 0, 0, 0, [0, 0, 0, 0], 0, 0⟩, entries := [] }

/-- A committed row of a unit of work, with the core whose Ladle holds its words (R109, R110). -/
structure RowRec where
  row      : Nat
  core     : Nat
  released : Bool
deriving DecidableEq, Repr

/-- A unit of work (R27): tile column, CTU rows and columns, the core it is placed on, its budget and cap,
what it has done since its last commit and the snapshot of that commit (R43). -/
structure UnitRec where
  index     : Nat
  band      : Nat
  tile      : Nat
  row0      : Nat
  rows      : Nat
  col0      : Nat
  cols      : Nat
  core      : Nat
  started   : Bool
  startAt   : Nat
  due       : Nat
  nextCu    : Nat
  budget    : Nat
  cap       : Option Nat
  acc       : UnitAcc
  snap      : UnitAcc
  commits   : List RowRec
  done      : Bool
deriving DecidableEq, Repr

/-- A rectangle of a reference that R49 marks unusable: reference frame, CTU columns and rows (inclusive). -/
structure BadRect where
  frame : Nat
  x0 : Nat
  y0 : Nat
  x1 : Nat
  y1 : Nat
deriving DecidableEq, Repr

/-- A frame in coding (R18, R27, R77, R97, Table 11.17). -/
structure EncFrame where
  number    : Nat
  code      : Nat
  cfg       : Bytes
  intra     : Bool
  refresh   : Bool
  changed   : Bool
  target    : Nat
  cap       : Option Nat
  shares    : List Nat
  bands     : Nat
  dispatched : Nat
  units     : List UnitRec
  forceIntra : List BadRect
  copyError : Bool
  concealed : Nat
  padding   : Nat
  violation : Bool
  late      : Bool
  ts0       : Nat
  ts        : List (Option Nat)
  stamp     : Option Nat
  holds     : List (Nat × Nat)
  opened    : List Nat
  reported  : Bool
  cells     : Tbl SurveyCell
  cll       : Option (Nat × Nat)
deriving DecidableEq, Repr

/-- Ledger statistics of one frame (R76), kept after the frame has left. -/
structure FrameStats where
  number     : Nat
  bits       : Nat
  cap        : Option Nat
  complexity : Nat
  final      : Bool
  units      : List UnitStats
deriving DecidableEq, Repr

/-- An output buffer handed over by RETURN_BUFFER (R258): the command, its place and what it holds. -/
structure OutBuffer where
  cid    : Nat
  qid    : Nat
  addr   : Nat
  inHbm  : Bool
  size   : Nat
  filled : Bytes
deriving DecidableEq, Repr

/-- A source picture, from its submission or arrival until its last band has committed (R18, R257): the command of a
submitted one, its frame number, whether it may be read, when it arrived, its RTP timestamp, the source rows that the
PPU has read, whether the command has completed, the rows written in coding format and in the quarter-resolution copy; of a
picture from a pixel port the bytes of its planes once it has ended, and the light levels that came with it (R304). -/
structure SubPicture where
  cid    : Nat
  qid    : Nat
  frame  : Nat
  read   : Bool
  since  : Nat
  stamp  : Nat
  rows   : Nat
  complete : Bool
  coded  : List (List (List Nat))
  quarter : List (List Nat)
  arrived : List Bytes
  cll    : Option (Nat × Nat)
deriving DecidableEq, Repr

/-- The packetiser's state between releases (R113, R117, R119, R122): trailing zero bytes of the NAL unit, the units of the
packet being filled, the rest and the header of a unit in fragments, the payload held back, the frame of the bytes, the
continuity counters, the TS packets that wait for a datagram, when PCR, PAT and PMT went out in stream time, the fidelity
payload that the next access unit carries. -/
structure PackState where
  zeros    : Nat
  agg      : List Bytes
  nal      : Bytes
  frag     : Option Bytes
  held     : Option Bytes
  frame    : Nat
  chunkOf  : Nat
  begun    : Bool
  tsCc     : Tbl Nat
  tsOut    : List Bytes
  pcrAt    : Option Nat
  psiDue   : Bool
  fidelity : Option Bytes
  eos      : List Nat
  slice    : Nat
deriving DecidableEq, Repr

/-- Nothing packetised yet. -/
def PackState.empty : PackState :=
  { zeros := 0, agg := [], nal := [], frag := none, held := none, frame := 0, chunkOf := 0, begun := false, tsCc := [],
    tsOut := [], pcrAt := none, psiDue := true, fidelity := none, eos := [], slice := 0 }

/-- Encode side of a session. -/
structure EncState where
  nextSubmit  : Nat
  nextFrame   : Nat
  submitted   : List SubPicture
  forced      : List Nat
  sweepStart  : Nat
  refreshDue  : Bool
  lastIntra   : Nat
  frames      : List EncFrame
  ledger      : Tbl FrameStats
  coded       : Nat
  lastOutput  : Option Nat
  buffers     : List OutBuffer
  backlog     : List Bytes
  rtpSeq      : Nat
  roc         : Nat
  chunkIndex  : Nat
  chunkBuf    : Bytes
  lossless    : Bool
  codeBase   : Nat
  codeCount  : Nat
  codeTotal  : Nat
  hrdBase    : Nat
  hrdNext    : Nat
  hrdAcc     : Frac
  badRects    : List BadRect
  lastSource  : Option SubPicture
  arrivedAt   : Option Nat
  patAt       : Option Nat
  arrivals    : Nat
  seqEnds     : List Nat
  vectors     : Tbl (Int × Int)
  skipped     : List Nat
  denoised    : List (List (List Nat))
  grain       : Tbl Bool
  pack        : PackState
deriving DecidableEq, Repr

/-- State of one coding unit of a decoded picture (Table 6.4), with its vectors for concealment (R135). -/
structure DecCuState where
  damaged : Bool
  method  : Nat
  lost    : Bool
  syn     : Bool
  tainted : Bool
  refErr  : Bool
  subst   : Bool
  age     : Nat
  qp      : Int
  intra   : Bool
  bottom  : Option DecVec
  centre  : Option DecVec
deriving DecidableEq, Repr

/-- A picture in decoding, stored as a reference, or waiting for its output (R128, R138, R142): its headers, coding units and
samples; the coding units that a core has decoded since its last commit; rows committed; whether its headers' parameter sets
or limits fail it as a whole; Table 6.3; what the PPU has converted; and how far its output is (0 waiting, 1 going out,
2 out). -/
structure DecPicture where
  id         : Nat
  head       : DecHead
  cus        : Tbl DecCuState
  planes     : List (List (List Nat))
  uncommitted : List (Nat × Nat)
  rowsDone   : List Nat
  whole      : Bool
  noParams   : Bool
  cdfBad     : Bool
  isRef      : Bool
  shown      : Bool
  ended      : Bool
  method     : Nat
  flags      : Nat
  bits       : Nat
  lostPackets : Nat
  synErrors  : Nat
  ts         : List (Option Nat)
  outRows    : Nat
  output     : List (List (List Nat))
  number     : Nat
  going      : Nat
deriving DecidableEq, Repr

/-- Decode side of a session. -/
structure DecState where
  started     : Bool
  recovery    : Nat
  skipRasl    : Bool
  nextPic     : Nat
  stream      : Nat
  consumed    : Nat
  pendingIn   : List (Nat × Nat × Nat)
  reorder     : List RtpPkt
  expected    : Option Nat
  gapSince    : Option Nat
  lastCc      : Option Nat
  unsupported : Nat
  foreign     : Nat
  replay      : Nat
  lostPackets : Nat
  lostSeen    : Nat
  srtpRoc     : Nat
  chunks      : List Nat
  pics        : List DecPicture
  ages        : Tbl Nat
  outCount    : Nat
  lastOut     : Option Nat
  lastShown   : List (List (List Nat))
  lastOutput  : List (List (List Nat))
  firstAt     : Option Nat
  firstPts    : Option (Nat × Nat)
  wantLatch   : Bool
  buffers     : List OutBuffer
  endOfStream : Bool
deriving DecidableEq, Repr

/-- Session states (Table 12.5). -/
inductive SessState where
  | created | running | stopping | stopped | resync
deriving DecidableEq, Repr

/-- A divergence of a unit of work (R188): frame, unit, the two devices with their statistics as far as they are known, the
referee and when it was named. -/
structure Divergence where
  frame   : Nat
  unit    : Nat
  first   : Nat × Option UnitStats
  second  : Nat × Option UnitStats
  referee : Option Nat
  since   : Nat
deriving DecidableEq, Repr

/-- Where a session lives in the fabric (R170 to R192): the primary of each region, this device's roles, the other device of a
shadowed region; check values of own and other slices (R185), slices held or received, what COMMIT last said, strips received,
what waits for a confirmation, statistics received (R177), members whose messages about a region are discarded (R190), and the
packets that a shadow collator holds, with the frame and slice and the kind (R187). -/
structure DistState where
  fabricSession : Nat
  regions   : List (Nat × Nat)
  roles     : List (Nat × Nat)
  promoted  : List Nat
  peers     : Tbl Nat
  sliceCrcs : Tbl Nat
  peerCrcs  : Tbl Nat
  tailings  : List Nat
  received  : Nat
  released  : Nat
  commitFrame : Nat
  duplicates : Nat
  wrongEpoch : Nat
  badCrc    : Nat
  fragments : List SliceFrag
  slices    : Tbl Bytes
  strips    : List (Nat × Nat × Nat)
  seams     : List (Nat × Nat × Nat)
  unacked   : List (Nat × Nat × Nat × Nat)
  stats     : Tbl UnitStats
  diverging : List Divergence
  outcast   : List (Nat × Nat)
  retained  : List (Nat × Nat × Bytes)
deriving DecidableEq, Repr

/-- What a session reserves on one cluster (R214): core and Survey cycles per second, source (or output) and proxy pixels
per second of its PPU. -/
structure ClusterUse where
  cluster : Nat
  core    : Frac
  survey  : Frac
  ppu     : Frac
  proxy   : Frac
deriving DecidableEq, Repr

/-- One session (R238, R251, R252); `nextKey` is a chunk key that the next access unit takes (R441). -/
structure Session where
  id         : Nat
  fn         : Nat
  decode     : Bool
  placed     : Bool
  cfg        : Bytes
  state      : SessState
  report     : Ring
  motion     : Ring
  mapBase    : Nat
  pendingCfg : List (Nat × Bytes)
  stopNow    : Bool
  stopCids   : List (Nat × Nat)
  awaitKey   : Bool
  blocked    : Bool
  keyMatter  : Option Bytes
  nextKey    : Option Bytes
  uses       : List ClusterUse
  rsBytes    : Nat
  poolBytes  : Nat
  dmaIn      : Nat
  dmaOut     : Nat
  serving    : List Nat
  frames     : Nat
  bitsOut    : Nat
  retries    : Nat
  lossless   : Nat
  concealed  : Nat
  lateBands  : Nat
  enc        : EncState
  dec        : DecState
  dist       : DistState
deriving DecidableEq, Repr

/-- What a core works on: session, frame and the index of the unit in the frame. -/
structure WorkRef where
  session : Nat
  frame   : Nat
  unit    : Nat
deriving DecidableEq, Repr

/-- A coding unit in the pipeline with its floor attempts (R24, R90). -/
structure CuSlot where
  cu      : Nat
  attempt : Nat
  qp0     : Int
  lossless : Bool
  kept    : Option CuEntry
  decided : Bool
  assay   : List (List (Int × Int))
deriving DecidableEq, Repr

/-- What a class 2 fault has done to a core (R45): dispatch to it stopped, then its work taken over. -/
inductive CoreFault where
  | none | stopped | replaced
deriving DecidableEq, Repr

/-- One core (R15, R19, R24, R40 to R46).  `pipe` has one place for each engine FE, AS, MD, TQ, RL, EC, LD. -/
structure CoreState where
  fenced     : Bool
  lost       : Bool
  patchOk    : Bool
  patchRam   : Tbl (BitVec 160)
  matchRegs  : List (Bool × Nat × Nat)
  parity     : List Nat
  sleep      : CoreSleep
  waking     : Option Nat
  work       : Option WorkRef
  decoding   : Option (Nat × Nat)
  pipe       : List (Option CuSlot)
  ladle      : PackFifo
  sourceRetry : Bool
  fault      : CoreFault
  redoing    : Bool
  busy       : Nat
  stalled    : Nat
  gatedNs    : Nat
  powerGatedNs : Nat
deriving DecidableEq, Repr

/-- A band command in a cluster controller queue (R12). -/
structure BandCmd where
  session : Nat
  frame   : Nat
  unit    : Nat
  core    : Nat
deriving DecidableEq, Repr

/-- One cluster (R12, R45, R58, R64 to R68). -/
structure ClusterState where
  fenced       : Bool
  surveyFenced : Bool
  ppuFenced    : Bool
  spare        : Option Nat
  queue        : List BandCmd
deriving DecidableEq, Repr

end Sys2Proof.Machine
end

