-- ==== Sys2Proof/Machine/PartsMgmt.lean ====
section
/-! DEFINITION. State of fault collection, Larder, Foreman, security island, power, memory controllers, pins and TAP. -/

namespace Sys2Proof.Machine

/-- Fault collection (R399 to R406).  Keys of `recent` are Canary bits times 64 plus the unit within the bit;
keys of `counts` are Canary bit times 8 plus class. -/
structure CanaryState where
  status    : BitVec 64
  classMax  : BitVec 3
  recent    : Tbl (List Nat)
  counts    : Tbl Nat
  overrun   : Tbl Nat
  faultN    : Bool
  lastSevere : Nat
  afterClass4 : Bool
  gatedAt   : Option Nat
  thermtripN : Bool
  fencedUnits : List FenceUnit
  pendingFences : List FenceUnit
  lostUnits : List FenceUnit
  bist      : Bool
  dmaHalf   : Bool
deriving DecidableEq, Repr

/-- The Larder's changing header fields and LARDER_GEN (R205, R206, R212), and the dynamic section as the last completed
update left it, one list of field values for each entry, keyed by TYPE times 65,536 plus INSTANCE (R210). -/
structure LarderState where
  published : Bool
  reduced   : Bool
  dynGen    : BitVec 32
  larderGen : BitVec 32
  ptp       : Int
  signed    : Bool
  dyn       : Tbl (List Int)
deriving DecidableEq, Repr

/-- The platform configuration of Table 21.3 (R418). -/
structure PlatformCfg where
  neighbourN   : Nat
  headless     : Bool
  actThreshold : Nat
  scrubHours   : Nat
  perstWarm    : Bool
  autoCommit   : Bool
  fabricId     : Nat
  fabricPort   : Nat
  smbusAddr    : Nat
  rotation     : Bool
  rotateHours  : Nat
  groupAddress : Bytes
deriving DecidableEq, Repr

/-- The defaults of Table 21.3. -/
def PlatformCfg.default : PlatformCfg :=
  { neighbourN := 11, headless := false, actThreshold := 4096, scrubHours := 24, perstWarm := false,
    autoCommit := false, fabricId := 0, fabricPort := 48820, smbusAddr := 0x4C, rotation := true,
    rotateHours := 500, groupAddress := [] }

/-- One firmware slot of the flash (R412, R413). -/
structure SlotState where
  valid    : Bool
  image    : Bytes
  facts    : ImageFacts
  platform : PlatformCfg
deriving DecidableEq, Repr

/-- STATE of staging (Table 21.2). -/
inductive StageState where
  | idle | staging | verified | activationPending | trial
deriving DecidableEq, Repr

/-- Flash contents, staging, logs and background work of the Foreman (R411 to R427).  `sweep` holds what the last telemetry
sweep read: for each item of Table 21.4 the entries of its rows; item 16 holds the function of each session slot. -/
structure ForemanState where
  heartbeat    : BitVec 32
  lastService  : Nat
  bootRom      : Bool
  committed    : Nat
  slotA        : SlotState
  slotB        : SlotState
  bootSlot     : Nat
  stage        : StageState
  trialLeft    : Nat
  owner        : Nat
  imageLen     : Nat
  staged       : Bytes
  stagedFacts  : ImageFacts
  sidebandOpen : Bool
  restarting   : Bool
  platform     : PlatformCfg
  readySince   : Option Nat
  eid          : Nat
  ramLog       : List EventRec
  logIndex     : Nat
  flashPending : List EventRec
  flashLog     : List EventRec
  flashBlock   : Nat
  flashUsed    : Nat
  eraseCounts  : Tbl Nat
  retired      : List Nat
  rowErrors    : Tbl (List Nat)
  rowRepairs   : List Nat
  samplePtp    : Option Int
  sweep        : Tbl (Tbl (List Nat))
  sensors      : Tbl Int
  trimUntil    : Option (Nat × Nat)
  lastTrim     : Tbl Nat
  agingHours   : Tbl Nat
  agingFlash   : Tbl Nat
  rotating     : Tbl Nat
  lastRotation : Tbl Nat
deriving DecidableEq, Repr

/-- LIFECYCLE (Table 22.3). -/
inductive Lifecycle where
  | manufacturing | provisioned | deployed | decommissioned
deriving DecidableEq, Repr

/-- A key store entry (R439). -/
structure KeyEntry where
  typ       : Nat
  key       : Bytes
  functions : BitVec 64
deriving DecidableEq, Repr

/-- OTP items (R437); `none` is an absent item. -/
structure OtpState where
  lifecycle       : Lifecycle
  imageKey        : Option Bytes
  signKeyHashes   : Option Bytes
  dus             : Option Bytes
  identityWrapped : Option Bytes
  coKeyHash       : Option Bytes
  minSvn          : List Nat
deriving DecidableEq, Repr

/-- The security island (R428 to R452). -/
structure SecurityState where
  otp          : OtpState
  keys         : Tbl KeyEntry
  kem          : Option (Nat × Nat)
  kemCount     : Nat
  errorAlgs    : BitVec 16
  secError     : Bool
  identityOk   : Bool
  drbgRequests : Nat
  drbgSeededAt : Nat
  drbgCount    : Nat
  vddFuse      : Bool
  unavailable  : List Nat
  lastPeriodic : Nat
deriving DecidableEq, Repr

/-- Power states (Table 23.4). -/
inductive PowerState where
  | active | idle | banked | dormant
deriving DecidableEq, Repr

/-- Supplies, clocks, power state, AVS, droop and thermal state (R453 to R465), and the always-on record (R462). -/
structure PowerStateRec where
  supplies     : Bool
  ceiling      : PowerState
  current      : PowerState
  setpoint     : Nat
  oldSetpoint  : Option Nat
  changedAt    : Nat
  lastStep     : Option Nat
  avsFails     : Nat
  stretchSince : Option Nat
  stretchLong  : Bool
  above        : Option Nat
  warned       : Bool
  throttle     : Bool
  coolSince    : Option Nat
  lostClocks   : List RefClk
  trimmedAt    : Option Nat
  aonRecord    : List Nat
  digest       : Option Bytes
  perstWarm    : Bool
  pllOff       : List Nat
  selfRefresh  : List Nat
  lastHbmReq   : Tbl Nat
  srExit       : Tbl Nat
deriving DecidableEq, Repr

/-- A request that waits in, or has left, a controller queue (R266): `order` counts acceptances, `data` is what a write writes,
and what a read will return (R265). -/
structure HbmPend where
  addr      : Nat
  write     : Bool
  requester : Nat
  realTime  : Bool
  openHint  : Bool
  arrived   : Nat
  order     : Nat
  data      : Bytes
deriving DecidableEq, Repr

/-- One pseudo-channel (R266 to R271, R278 to R280). -/
structure PseudoChannel where
  readQ      : List HbmPend
  writeQ     : List HbmPend
  draining   : Bool
  issued     : List HbmPend
  openRows   : Tbl (Nat × Nat)
  acts       : Tbl Nat
  windowFrom : Nat
  spaced     : List (Nat × Nat × Nat)
  neighbours : Nat
  refreshes  : Nat
  nextRefresh : Tbl Nat
  trainTemp  : Int
  trainedAt  : Nat
  trained    : Bool
  retraining : Option Nat
  recovering : Bool
  driftSince : Option Nat
  tries      : Nat
  lastTry    : Nat
deriving DecidableEq, Repr

/-- One HBM stack: MEMORY_STACK of the Larder (R210, R268). -/
structure StackState where
  temp        : Int
  refreshMult : Nat
  ceCount     : Nat
  ueCount     : Nat
  retrainings : Nat
  bytesRead   : Nat
  bytesWritten : Nat
  trainFailed : Bool
deriving DecidableEq, Repr

/-- HBM contents and controllers (R263 to R281), the SRAM scrub results (R282). -/
structure HbmState where
  mem        : List (Nat × Byte)
  bad        : List Nat
  written    : Tbl Nat
  accepted   : Nat
  pcs        : Tbl PseudoChannel
  stackTab     : Tbl StackState
  patrolNext : Nat
  poolUsed   : Nat
  sramErrors : Tbl Nat
  hotWait    : Bool
deriving DecidableEq, Repr

/-- The TAP (R479 to R483): the instruction loaded, the one that acts, the Maintenance that it entered, and whether a TAP reset
has come since. -/
structure TapState where
  code        : BitVec 8
  pins        : BitVec 8
  maintenance : Bool
  resetSeen   : Bool
deriving DecidableEq, Repr

/-- Pins without another home (Table 24.2). -/
structure PinState where
  resetN  : Bool
  perstN  : Bool
  ppsOut  : Bool
  ethIdle : Bool
  holdAll : Bool
deriving DecidableEq, Repr

end Sys2Proof.Machine
end

