-- ==== Sys2Proof/Machine/PartsNet.lean ====
section
/-! DEFINITION. State of the pixel ports, the Essence Switch and Pantry, the tables, the Ethernet ports and Traffic
Manager, PTP and the Crew Fabric (chapters 15 to 19 of the manual). -/

namespace Sys2Proof.Machine

/-- Counters by name: the number is the counter's place in its table of the manual, from 0. -/
abbrev Counters := Tbl Nat

/-- Configuration of a pixel port (Table 15.4), with its defaults. -/
structure PxConfig where
  rxOn : Bool
  txOn : Bool
  rxLanes : Nat
  txLanes : Nat
  polarity : Nat
  high : Nat
  low : Nat
  txTotal : Nat
  txSegMax : Nat
deriving DecidableEq, Repr

/-- Defaults of Table 15.4. -/
def PxConfig.default : PxConfig :=
  { rxOn := false, txOn := false, rxLanes := 4, txLanes := 4, polarity := 0, high := 2560, low := 1024,
    txTotal := 0, txSegMax := 16384 }

/-- The picture that a pixel port is receiving (R303 to R305): its frame counter and format, the session that it serves and
the frame number there (none while the picture is discarded), whether LINE packets have begun, the bytes of each plane so
far without stride, segments filled, and the light levels of METADATA. -/
structure PxPicture where
  frame   : Nat
  fmt     : PxStart
  feeds   : Option (Nat × Nat)
  lines   : Bool
  arrived : List Bytes
  filled  : Nat
  cll     : Option (Nat × Nat)
deriving DecidableEq, Repr

/-- The picture that a pixel port is sending (R309): its session and picture, format, output time, frame period in ns, the next
line; `held` once a line was late (R145). -/
structure PxSending where
  session : Nat
  pic     : Nat
  fmt     : PxStart
  startAt : Nat
  period  : Frac
  line    : Nat
  held    : Bool
deriving DecidableEq, Repr

/-- A pixel port (R300 to R311). -/
structure PxPort where
  cfg      : PxConfig
  fenced   : Bool
  up       : Bool
  holdLow  : Bool
  fifo     : PackFifo
  picture  : Option PxPicture
  lastFrame : Option Nat
  skid     : Nat
  counters : Counters
  txFrame  : Nat
  sending  : Option PxSending
deriving DecidableEq, Repr

/-- A Pantry pool (R326 to R331). -/
structure Pool where
  size   : Nat
  inHbm  : Bool
  pfcMask : Nat
  count  : Nat
  notice : Nat
  backpressure : Nat
  critical : Nat
  hyst   : Nat
  freeList : Nat
  cache  : Nat
  minFree : Nat
  level  : Nat
  refill : Bool
  rrPtr  : Nat
  retired : Nat
  foreign : Nat
  doubles : Nat
  empties : Nat
  refused : Nat
  noticeCount : Nat
  merge  : Nat
deriving DecidableEq, Repr

/-- A pool entry of Table 16.9 as a new pool with every buffer free. -/
def Pool.make (size : Nat) (inHbm : Bool) (pfc count notice bp crit hyst : Nat) : Pool :=
  { size := size, inHbm := inHbm, pfcMask := pfc, count := count, notice := notice, backpressure := bp,
    critical := crit, hyst := hyst, freeList := count - min count 96, cache := min count 96, minFree := count, level := 0,
    refill := false, rrPtr := 0, retired := 0, foreign := 0, doubles := 0, empties := 0, refused := 0,
    noticeCount := 0, merge := 0 }

/-- The default pools of Table 16.5. -/
def Pool.defaults : List Pool :=
  [Pool.make 0 false 0 16384 4096 2048 1024 256, Pool.make 3 false 0 2048 512 256 128 32,
   Pool.make 5 false 0 819 204 102 51 12, Pool.make 8 true 0 16384 4096 2048 1024 256,
   Pool.make 0 false 0 0 0 0 0 1, Pool.make 0 false 0 0 0 0 0 1, Pool.make 0 false 0 0 0 0 0 1,
   Pool.make 0 false 0 0 0 0 0 1]

/-- State of a packet buffer (R329). -/
inductive BufState where
  | free | filling | queued | retired
deriving DecidableEq, Repr

/-- A packet and the buffer that it occupies (R319, R329): its pool, state, owner and reference count, the outputs that are
sending it; what arrived, and where it goes.  `eof` says that its last byte is held. -/
structure Buffer where
  pool   : Nat
  state  : BufState
  owner  : Nat
  refs   : Nat
  sending : List Nat
  len    : Nat
  inPort : Nat
  flow   : Nat
  colour : Nat
  cls    : Nat
  head   : Bytes
  bad    : Bool
  eof    : Bool
  readError : Bool
  arrived : Nat
  dests  : List (Nat × Nat)
  multicast : Bool
  generated : Bool
  clear  : Bool
  ptpEvent : Bool
deriving DecidableEq, Repr

/-- A copy waiting in an egress queue (R319, R370): its buffer, host sub-port, finish tag, and whether it is cut through. -/
structure Copy where
  buffer : Nat
  queue  : Nat
  sub    : Nat
  tag    : Nat
  cut    : Bool
deriving DecidableEq, Repr

/-- Curve of one colour of a drop profile (Table 16.7). -/
structure DropCurve where
  lo : Nat
  hi : Nat
  p  : Nat
deriving DecidableEq, Repr

/-- A drop profile (Table 16.7). -/
structure DropProfile where
  weight : Nat
  tail   : Nat
  green  : DropCurve
  yellow : DropCurve
  red    : DropCurve
deriving DecidableEq, Repr

/-- Profile 1 of Table 16.7. -/
def DropProfile.default : DropProfile :=
  { weight := 9, tail := 1048576, green := ⟨524288, 1048576, 26⟩, yellow := ⟨262144, 786432, 64⟩,
    red := ⟨131072, 524288, 128⟩ }

/-- A mirror rule (R323). -/
structure MirrorRule where
  enable : Bool
  direction : Nat
  port   : Nat
  flow   : Nat
  verdicts : Nat
  sample : Nat
  matched : Nat
deriving DecidableEq, Repr

/-- The capture ring (R325). -/
structure CaptureState where
  enable   : Bool
  depth    : Nat
  base     : Nat
  produced : Nat
  consumed : Nat
  dropped  : Nat
  recordSeq : Nat
  lastAt   : Option Nat
deriving DecidableEq, Repr

/-- A lookup that waits for the end of its frame (R316, R317); `buffer` is the buffer of a frame being cut through. -/
structure Staged where
  head    : EthHead
  verdict : Nat
  dest    : List (Nat × Nat)
  flow    : Nat
  colour  : Nat
  cls     : Nat
  buffer  : Option Nat
  routed  : Bool
deriving DecidableEq, Repr

/-- The Essence Switch and the Pantry (R312 to R332). -/
structure SwitchState where
  pools    : List Pool
  buffers  : Tbl Buffer
  nextBuf  : Nat
  profiles : Tbl DropProfile
  rules    : Tbl MirrorRule
  capture  : CaptureState
  counters : Tbl Nat
  staged   : Tbl Staged
  avg      : Tbl Nat
  waiting  : List (Buffer × Nat)
deriving DecidableEq, Repr

/-- A result of the lookups (R335). -/
structure EmtResult where
  destKind : Nat
  port     : Nat
  group    : Nat
  flow     : Nat
deriving DecidableEq, Repr

/-- An EMT entry at its first slot (R336, Table 17.1): its 20-byte or 44-byte key, and its result. -/
structure EmtEntry where
  typ       : Nat
  static    : Bool
  key       : Bytes
  result    : EmtResult
  ageStamp  : Nat
  moveStamp : Nat
deriving DecidableEq, Repr

/-- A route (R341): family 4 or 6, prefix length, prefix bits as a number, next hop. -/
structure Route where
  family  : Nat
  length  : Nat
  pfx     : Nat
  nextHop : Nat
deriving DecidableEq, Repr

/-- A next hop (R343). -/
structure NextHop where
  destKind : Nat
  port     : Nat
  group    : Nat
  vlan     : Nat
  flow     : Nat
  dstMac   : Nat
deriving DecidableEq, Repr

/-- A group (R344). -/
structure GroupEntry where
  ports : BitVec 64
  subs  : BitVec 64
deriving DecidableEq, Repr

/-- Learning parameters of one port (Table 17.3) and its flap state (R348). -/
structure LearnPort where
  flags    : Nat
  pvid     : Nat
  limit    : Nat
  flapLimit : Nat
  flapping : Bool
  flapSecond : Int
  flapCount : Nat
  lastFlap : Nat
deriving DecidableEq, Repr

/-- The defaults of SET_LEARN. -/
def LearnPort.default : LearnPort :=
  { flags := 0x0B, pvid := 1, limit := 131071, flapLimit := 10, flapping := false, flapSecond := 0, flapCount := 0,
    lastFlap := 0 }

/-- A waiting request of the Learn Engine (R345): 0 = learn, 1 = refresh, 2 = move. -/
structure LearnReq where
  kind : Nat
  port : Nat
  fid  : Nat
  mac  : Nat
deriving DecidableEq, Repr

/-- The tables (R333 to R352). -/
structure TableState where
  emt       : Tbl EmtEntry
  routes    : List Route
  hops      : Tbl NextHop
  groups    : Tbl GroupEntry
  requests  : List LearnReq
  ports     : Tbl LearnPort
  agingS    : Nat
  dampMs    : Nat
  routerMac : Nat
  counters  : Tbl Nat
deriving DecidableEq, Repr

/-- Configuration of an Ethernet port (Table 18.2), with defaults. -/
structure EthConfig where
  enable   : Bool
  quadMode : Nat
  link     : Nat
  flags    : Nat
  maxFrame : Nat
  pfcRx    : Nat
  pcpClass : Nat
  asymNs   : Int
deriving DecidableEq, Repr

/-- Defaults of Table 18.2. -/
def EthConfig.default : EthConfig :=
  { enable := false, quadMode := 2, link := 3, flags := 3, maxFrame := 9216, pfcRx := 0xFF,
    pcpClass := 0x76543210, asymNs := 0 }

/-- A MACsec association (R357 to R359). -/
structure MacsecSa where
  rxSc   : Option Nat
  an     : Nat
  keyId  : Nat
  sci    : Nat
  ssci   : Nat
  pn     : Nat
  window : Nat
  order  : Nat
  high   : Bool
  key    : Bytes
deriving DecidableEq, Repr

/-- MACsec state of a port. -/
structure MacsecState where
  sas      : List MacsecSa
  activeTx : Option Nat
  required : Bool
  ptpClear : Bool
  installs : Nat
deriving DecidableEq, Repr

/-- A gate control list (R373): base, cycle, entries of (open classes, interval). -/
structure GateList where
  base    : Nat
  cycle   : Nat
  entries : List (Nat × Nat)
deriving DecidableEq, Repr

/-- Class scheduling of a port (R372). -/
structure ClassState where
  strict   : Nat
  essence  : Nat
  weights  : List Nat
  credit   : List Nat
  lastClass : Nat
  lastSub  : Tbl Nat
deriving DecidableEq, Repr

/-- One Ethernet port (R353 to R360, R372 to R374).  `gateShift` is what steps of the clock have taken away that the gate
schedule takes over at its next cycle boundary only (R362). -/
structure EthPort where
  cfg      : EthConfig
  fenced   : Bool
  up       : Bool
  xoff     : List (Nat × Nat)
  macsec   : MacsecState
  classes  : ClassState
  gates    : Option GateList
  nextGates : Option (Nat × GateList)
  gateIdx  : Nat
  gateShift : Int
  sending  : Option Nat
  busyTo   : Nat
  counters : Counters
deriving DecidableEq, Repr

/-- A meter (R366). -/
structure Meter where
  mode : Nat
  cir  : Nat
  pir  : Nat
  cbs  : Nat
  pbs  : Nat
  tc   : Nat
  tp   : Nat
  at_  : Nat
  green : Nat
  yellow : Nat
  red  : Nat
deriving DecidableEq, Repr

/-- A flow record (Table 18.5). -/
structure FlowRecord where
  raw      : Bytes
  session  : Nat
  counters : Counters
deriving DecidableEq, Repr

/-- Merge state of a leg A flow (R367): the next expected number, the held numbers with their buffers, when each leg delivered
last and whether it is down, and runs of numbers that were declared lost. -/
structure MergeState where
  expected : Option Nat
  held     : List (Nat × Nat)
  lastA    : Nat
  lastB    : Nat
  downA    : Bool
  downB    : Bool
  lost     : List (Nat × Nat)
deriving DecidableEq, Repr

/-- An egress queue (R369, R370). -/
structure EgressQueue where
  port    : Nat
  profile : Nat
  sub     : Nat
  weight  : Nat
  limit   : Nat
  lastTag : Option Nat
  copies  : List Copy
  bytes   : Nat
  enqueued : Nat
  sent    : Nat
  highWater : Nat
deriving DecidableEq, Repr

/-- A subscriber (R369, R371). -/
structure Subscriber where
  port   : Nat
  cls    : Nat
  typ    : Nat
  rate   : Nat
  burst  : Nat
  rateNum : Nat
  rateDen : Nat
  tro    : Nat
  active : Nat
  total  : Nat
  tokens : Nat
  at_    : Nat
  vtime  : Nat
deriving DecidableEq, Repr

/-- PTP configuration (Table 18.3). -/
structure PtpConfig where
  mode : Nat
  domain : Nat
  priority1 : Nat
  priority2 : Nat
  portMask : Nat
  logSync : Int
  logAnnounce : Int
  logDelay : Int
  announceTimeout : Nat
  flags : Nat
  stepNs : Nat
  slewPpb : Nat
  ppsWidth : Nat
  tod : Nat
deriving DecidableEq, Repr

/-- Defaults of Table 18.3 (TOD_SECONDS has none: log entry 20). -/
def PtpConfig.default : PtpConfig :=
  { mode := 1, domain := 127, priority1 := 128, priority2 := 128, portMask := 1, logSync := -3, logAnnounce := -2,
    logDelay := -3, announceTimeout := 3, flags := 2, stepNs := 100000, slewPpb := 10000, ppsWidth := 100000, tod := 0 }

/-- The PTP clock (R360 to R363, Table 18.4).  PTP time is `now + offset` plus
what the frequency adjustment has added since `adjAt`. -/
structure PtpState where
  cfg      : PtpConfig
  offset   : Int
  state    : Nat
  slavePort : Nat
  steps    : Nat
  offsetNs : Int
  meanPath : Nat
  freq     : Int
  adjAt    : Nat
  gm       : Nat
  ppsInTime : Int
  lastMsg  : Tbl Nat
  announceAt : Option Nat
deriving DecidableEq, Repr

/-- Network configuration and Traffic Manager. -/
structure NetState where
  ports   : Tbl EthPort
  meters  : Tbl Meter
  flows   : Tbl FlowRecord
  merges  : Tbl MergeState
  queues  : Tbl EgressQueue
  subs    : Tbl Subscriber
  ptp     : PtpState
deriving DecidableEq, Repr

/-- A member of the fabric as the manager sees it (R377, R387, R395). -/
structure Member where
  serial   : Nat
  version  : Nat
  fw       : Nat
  headless : Bool
  quarantined : Bool
  status   : Nat
  offset   : Int
  gm       : Nat
  lastRenew : Nat
  unqualSince : Option Nat
  ackedEpoch : Bool
  naked    : Nat
  roles    : List (Nat × Nat × Nat)
deriving DecidableEq, Repr

/-- A unicast message waiting for its acknowledgement (R382). -/
structure Unacked where
  dest  : Nat
  seq   : Nat
  kind  : Nat
  tries : Nat
  sentAt : Nat
  fields : List Nat
deriving DecidableEq, Repr

/-- The receive window of one sender and stream (R381). -/
structure RxWindow where
  highest : Nat
  seen    : List Nat
deriving DecidableEq, Repr

/-- A pending epoch change (R391). -/
structure EpochChange where
  epoch   : Nat
  hash    : Nat
  version : Nat
  changes : List (Nat × Nat)
  commit  : Bool
deriving DecidableEq, Repr

/-- The Crew Fabric (R377 to R398).  `epochs` are the changes committed since the device joined, newest first; `heldMsgs` the
messages of a newer epoch that wait, with that epoch and their arrival (R394). -/
structure FabricState where
  fabricId  : Nat
  port      : Nat
  group     : Bytes
  joined    : Bool
  member    : Nat
  term      : Nat
  epoch     : Nat
  epochs    : List EpochChange
  prepared  : Option EpochChange
  standby   : Nat
  manager   : Nat
  current   : Nat
  next      : Nat
  timeLimit : Nat
  unqualHold : Nat
  leaseEnd  : Option Nat
  lastHello : Option Nat
  lastHelloSent : Option Nat
  lastRenew : Option Nat
  lastDigest : Option Nat
  lastCheck : Option Nat
  joining   : Option (Option CmdRef × Nat)
  joinSeen  : Bool
  rejoinAt  : Option Nat
  checkGm   : Nat
  qualSince : Option Nat
  qualified : Bool
  txSeq     : Tbl Nat
  rx        : Tbl RxWindow
  unacked   : List Unacked
  unreachable : Nat
  heldMsgs  : List (Instr × Nat × Nat)
  hashBad   : Bool
  draining  : Option (CmdRef × Nat × Nat)
  members   : Tbl Member
  discards  : Nat
  unprotected : Nat
  retransmits : Nat
  duplicates : Nat
  statsRequests : Nat
  nextSession : Nat
deriving DecidableEq, Repr

end Sys2Proof.Machine
end

