-- ==== Sys2Proof/Machine/State.lean ====
section
/-! DEFINITION. The state of the block, its reasons to stop, and its state right after reset. -/

namespace Sys2Proof.Machine

/-- Reasons for which a command stops the model. -/
inductive Fault where
  /-- Raised by a meaning whose operand names a unit that the part does not have (a core above 27, a port above 49,
  a function above 63 …) or a device address at or above the HBM capacity (R263).  Safe: the manual gives no such unit. -/
  | noSuchUnit
deriving DecidableEq, Repr

/-- Reasons for which the model gives a command no meaning. -/
inductive Refusal where
  /-- Raised by a dispatch arm whose command has no meaning yet.  Safe: nothing is claimed of it. -/
  | notModelled (mnemonic : String)
  /-- Raised by TAP_UPDATE_IR with a private code that the lifecycle leaves open (Table 24.10 lists no effect).  Safe: nothing
  is claimed of what it does. -/
  | privateTap
deriving DecidableEq, Repr

/-- The state of the H9 block: everything the manual gives the part, and, of the model's own, the time keeper `now`,
the counter `freeCtr` of free values, the outputs `out` and the queue of waiting commands `pending`. -/
structure State where
  pending   : List Instr
  now       : Nat
  freeCtr   : Nat
  out       : List OutItem
  mode      : OpMode
  degraded  : Bool
  ready     : Bool
  epochCtr  : BitVec 32
  vfEnabled : Bool
  fns       : Tbl FnState
  qps       : Tbl QueuePair
  round     : List Nat
  dma       : Tbl DmaChannel
  dmaCycle  : Nat
  sessions  : Tbl Session
  slotGen   : Tbl Nat
  cores     : Tbl CoreState
  clusters  : Tbl ClusterState
  canary    : CanaryState
  larder    : LarderState
  foreman   : ForemanState
  sec       : SecurityState
  power     : PowerStateRec
  hbm       : HbmState
  tap       : TapState
  pins      : PinState
  px        : Tbl PxPort
  sw        : SwitchState
  tables    : TableState
  net       : NetState
  fabric    : FabricState
deriving DecidableEq, Repr

/-- No authentication (R432). -/
def AuthState.empty : AuthState :=
  { role := .none, since := 0, keyId := 0, nonce := none, failures := 0, lockout := none }

/-- A function at reset: the grants of Table 11.3, the registers of Tables 11.4, 11.6 and 11.7. -/
def FnState.atReset (fn : Nat) : FnState :=
  { qpGrant := if fn = 0 then 64 else 0, sessGrant := if fn = 0 then 256 else 0,
    hbmUnits := if fn = 0 then 64 else 0, hbmBase := 0, hostOob := 0,
    intrCause := 0, intrMask := 0x1FF, mbEnable := false, mbEnabled := false, adminError := false,
    adminDepth := 0, adminSqBase := 0, adminCqBase := 0, vecMasked := [], vecPending := [],
    eventRing := none, suppressed := false, busMaster := false, auth := AuthState.empty }

/-- A host DMA channel at reset: owned by the PF, every register 0 (R284, R286). -/
def DmaChannel.atReset : DmaChannel :=
  { owner := 0, state := .idle, armed := false, shadowLate := false, done := false, error := false,
    mismatch := false, doneCount := 0, doneVec := 0, errVec := 0, shSrc := 0, shDst := 0, shLen := 0,
    shCfg := 0, shFill := 0, actSrc := 0, actDst := 0, actCount := 0, actCfg := 0, actFill := 0, setLen := 0,
    failAddr := 0, failInfo := 0, mismatchOff := 0, beats := [], lastBurst := none, handOver := none, handedAt := none,
    bytes := 0, halts := 0 }

/-- A core at reset: usable, awake, idle, its Ladle empty. -/
def CoreState.atReset : CoreState :=
  { fenced := false, lost := false, patchOk := false, patchRam := [], matchRegs := [], parity := [],
    sleep := .awake, waking := none, work := none, decoding := none, pipe := [none, none, none, none, none, none, none],
    ladle := PackFifo.empty 0 0 0, sourceRetry := false, fault := .none, redoing := false, busy := 0, stalled := 0,
    gatedNs := 0, powerGatedNs := 0 }

/-- A cluster at reset: usable, no spare named yet, an empty controller queue. -/
def ClusterState.atReset : ClusterState :=
  { fenced := false, surveyFenced := false, ppuFenced := false, spare := none, queue := [] }

/-- The fault collector at reset (Table 20.2): nothing recorded, FAULT_N and THERMTRIP_N released. -/
def CanaryState.atReset : CanaryState :=
  { status := 0, classMax := 0, recent := [], counts := [], overrun := [], faultN := true, lastSevere := 0,
    afterClass4 := false, gatedAt := none, thermtripN := true, fencedUnits := [], pendingFences := [], lostUnits := [],
    bist := false, dmaHalf := false }

/-- The Larder before publication (R206). -/
def LarderState.atReset : LarderState :=
  { published := false, reduced := false, dynGen := 0, larderGen := 0, ptp := 0, signed := false, dyn := [] }

/-- An unwritten firmware slot (log entry 22). -/
def SlotState.empty : SlotState :=
  { valid := false, image := [], facts := ⟨true, true, true, 0, 0, []⟩, platform := PlatformCfg.default }

/-- The Foreman and the flash of a new part (log entry 22): slot A holds a valid image, everything else is empty. -/
def ForemanState.atReset : ForemanState :=
  { heartbeat := 0, lastService := 0, bootRom := false, committed := 0,
    slotA := { SlotState.empty with valid := true }, slotB := SlotState.empty, bootSlot := 0, stage := .idle,
    trialLeft := 0, owner := 0, imageLen := 0, staged := [], stagedFacts := ⟨true, true, true, 0, 0, []⟩,
    sidebandOpen := false, restarting := false, platform := PlatformCfg.default, readySince := none, eid := 0, ramLog := [], logIndex := 0,
    flashPending := [], flashLog := [], flashBlock := 0, flashUsed := 0, eraseCounts := [], retired := [],
    rowErrors := [], rowRepairs := [], samplePtp := none, sweep := [], sensors := [], trimUntil := none, lastTrim := [],
    agingHours := [], agingFlash := [], rotating := [], lastRotation := [] }

/-- The security island of a new part: LIFECYCLE Manufacturing, an empty key store (log entry 21). -/
def SecurityState.atReset : SecurityState :=
  { otp := { lifecycle := .manufacturing, imageKey := some [], signKeyHashes := some [], dus := none,
             identityWrapped := none, coKeyHash := none, minSvn := [] },
    keys := [], kem := none, kemCount := 0, errorAlgs := 0, secError := false, identityOk := false,
    drbgRequests := 0, drbgSeededAt := 0, drbgCount := 0, vddFuse := false, unavailable := [], lastPeriodic := 0 }

/-- Supplies applied, ceiling Idle (R458), VDD_CORE at 0.75 V (R454). -/
def PowerStateRec.atReset : PowerStateRec :=
  { supplies := true, ceiling := .idle, current := .idle, setpoint := 750, oldSetpoint := none, changedAt := 0,
    lastStep := none, avsFails := 0, stretchSince := none, stretchLong := false, above := none, warned := false,
    throttle := false, coolSince := none, lostClocks := [], trimmedAt := none, aonRecord := [], digest := none,
    perstWarm := false, pllOff := [], selfRefresh := [], lastHbmReq := [], srExit := [] }

/-- An idle pseudo-channel. -/
def PseudoChannel.atReset : PseudoChannel :=
  { readQ := [], writeQ := [], draining := false, issued := [], openRows := [], acts := [], windowFrom := 0, spaced := [],
    neighbours := 0, refreshes := 0, nextRefresh := [], trainTemp := 0, trainedAt := 0, trained := true,
    retraining := none, recovering := false, driftSince := none, tries := 0, lastTry := 0 }

/-- A stack at reset. -/
def StackState.atReset : StackState :=
  { temp := 0, refreshMult := 1, ceCount := 0, ueCount := 0, retrainings := 0, bytesRead := 0, bytesWritten := 0,
    trainFailed := false }

/-- The HBM at reset: no byte listed (log entry 5); the device pool holds the buffers of P3 (Table 16.5). -/
def HbmState.atReset : HbmState :=
  { mem := [], bad := [], written := [], accepted := 0, pcs := [], stackTab := [], patrolNext := 0, poolUsed := 1073741824,
    sramErrors := [], hotWait := false }

/-- A pixel port at reset (Table 15.4, R307). -/
def PxPort.atReset : PxPort :=
  { cfg := PxConfig.default, fenced := false, up := false, holdLow := true,
    fifo := PackFifo.empty 4096 2560 1024, picture := none, lastFrame := none, skid := 0, counters := [],
    txFrame := 0, sending := none }

/-- Profile 0 (R321) takes its limit from the queue; its curves are never reached. -/
def DropProfile.tailOnly : DropProfile :=
  { weight := 0, tail := 268435456, green := ⟨0, 0, 0⟩, yellow := ⟨0, 0, 0⟩, red := ⟨0, 0, 0⟩ }

/-- A mirror rule at reset: disabled. -/
def MirrorRule.off : MirrorRule :=
  { enable := false, direction := 0, port := 0, flow := 0, verdicts := 0, sample := 0, matched := 0 }

/-- The switch at reset (Table 16.5). -/
def SwitchState.atReset : SwitchState :=
  { pools := Pool.defaults, buffers := [], nextBuf := 0, profiles := [], rules := [],
    capture := ⟨false, 0, 0, 0, 0, 0, 0, none⟩, counters := [], staged := [], avg := [], waiting := [] }

/-- The tables at reset (R344, Table 17.3). -/
def TableState.atReset : TableState :=
  { emt := [], routes := [], hops := [], groups := [], requests := [], ports := [], agingS := 300, dampMs := 1000,
    routerMac := 0, counters := [] }

/-- The group that an unlisted group number holds: 0 is empty, 1 to 4,094 hold ports 0 to 15 (R344). -/
def GroupEntry.atReset (g : Nat) : GroupEntry :=
  if g = 0 ∨ 4094 < g then ⟨0, 0⟩ else ⟨0xFFFF, 0⟩

/-- An Ethernet port at reset (Tables 18.2 and 18.9). -/
def EthPort.atReset : EthPort :=
  { cfg := EthConfig.default, fenced := false, up := false, xoff := [], macsec := ⟨[], none, false, false, 0⟩,
    classes := ⟨0x80, 0x60, [1, 1, 1, 1, 1, 1, 1, 1], [], 0, []⟩, gates := none, nextGates := none, gateIdx := 0,
    gateShift := 0, sending := none, busyTo := 0, counters := [] }

/-- A meter at reset. -/
def Meter.atReset : Meter := ⟨0, 0, 0, 0, 0, 0, 0, 0, 0, 0, 0⟩

/-- A flow record at reset: KIND 0x0. -/
def FlowRecord.atReset : FlowRecord := ⟨[], 0, []⟩

/-- The default queue of a port and class (R369); a created queue starts from it. -/
def EgressQueue.atReset (q : Nat) : EgressQueue :=
  { port := if q < 368 then q / 8 else 64, profile := if q % 8 = 5 ∨ q % 8 = 6 then 0 else 1,
    sub := q, weight := 1, limit := 1048576, lastTag := none, copies := [], bytes := 0, enqueued := 0, sent := 0,
    highWater := 0 }

/-- The unshaped subscriber of a default queue (R369). -/
def Subscriber.atReset (n : Nat) : Subscriber :=
  { port := if n < 128 then n / 8 else 64, cls := n % 8, typ := 0, rate := 0, burst := 0, rateNum := 0, rateDen := 0,
    tro := 0, active := 0, total := 0, tokens := 0, at_ := 0, vtime := 0 }

/-- The PTP clock at reset: FREE_RUN (log entry 20). -/
def PtpState.atReset : PtpState :=
  { cfg := PtpConfig.default, offset := 0, state := 0, slavePort := 0xFF, steps := 0, offsetNs := 0, meanPath := 0,
    freq := 0, adjAt := 0, gm := 0, ppsInTime := 0, lastMsg := [], announceAt := none }

/-- The network state at reset. -/
def NetState.atReset : NetState :=
  { ports := [], meters := [], flows := [], merges := [], queues := [], subs := [], ptp := PtpState.atReset }

/-- A device outside any fabric. -/
def FabricState.atReset : FabricState :=
  { fabricId := 0, port := 48820, group := [], joined := false, member := 0xFFFF, term := 0, epoch := 0, epochs := [],
    prepared := none, standby := 0xFFFF, manager := 0xFFFF, current := 0, next := 0, timeLimit := 1000,
    unqualHold := 10, leaseEnd := none, lastHello := none, lastHelloSent := none, lastRenew := none, lastDigest := none,
    lastCheck := none, joining := none, joinSeen := false, rejoinAt := none, checkGm := 0, qualSince := none,
    qualified := false, txSeq := [], rx := [], unacked := [], unreachable := 0xFFFF, heldMsgs := [], hashBad := false, draining := none,
    members := [], discards := 0, unprotected := 0, retransmits := 0, duplicates := 0, statsRequests := 0,
    nextSession := 1 }

/-- The TAP in Test-Logic-Reset: IDCODE selected (R479, R480). -/
def TapState.atReset : TapState := { code := 0x01, pins := 0x01, maintenance := false, resetSeen := true }

/-- Pins at reset (Table 24.2; RESET_N and PERST_N have risen). -/
def PinState.atReset : PinState :=
  { resetN := true, perstN := true, ppsOut := false, ethIdle := true, holdAll := false }

/-- The H9 right after a cold reset: MODE Secure Boot, READY 0 (Table 11.5), every register at the value of its table,
every queue and table empty, no command waiting. -/
def State.reset : State :=
  { pending := [], now := 0, freeCtr := 0, out := [], mode := .secureBoot, degraded := false, ready := false,
    epochCtr := 0, vfEnabled := false, fns := [], qps := [], round := [], dma := [], dmaCycle := 0,
    sessions := [], slotGen := [], cores := [], clusters := [], canary := CanaryState.atReset,
    larder := LarderState.atReset, foreman := ForemanState.atReset, sec := SecurityState.atReset,
    power := PowerStateRec.atReset, hbm := HbmState.atReset, tap := TapState.atReset, pins := PinState.atReset,
    px := [], sw := SwitchState.atReset, tables := TableState.atReset, net := NetState.atReset,
    fabric := FabricState.atReset }

/-- The outcome of a command. -/
abbrev Result := Host.Outcome State Fault Refusal

end Sys2Proof.Machine
end

