-- ==== Sys2Proof/Machine/Flags.lean ====
section
/-! DEFINITION. Codes and status words: mode codes, STATUS codes, INTR_CAUSE bits, Canary bits, DEVICE_STATUS. -/

namespace Sys2Proof.Machine

/-- MODE code of Table 12.1. -/
def modeCode : OpMode → Nat
  | .off => 0 | .dormant => 1 | .secureBoot => 2 | .provisioning => 3 | .ready => 4 | .standalone => 5
  | .manager => 6 | .standby => 7 | .worker => 8 | .quarantine => 9 | .maintenance => 10 | .lockdown => 11

/-- ROLE of Table 12.1. -/
def roleCode : OpMode → Nat
  | .manager => 1 | .standby => 2 | .worker => 3 | .quarantine => 3 | _ => 0

/-- READY of Table 12.1. -/
def readyIn : OpMode → Bool
  | .off => false | .dormant => false | .secureBoot => false | .lockdown => false | _ => true

/-- The service modes (R245). -/
def isService : OpMode → Bool
  | .standalone => true | .manager => true | .standby => true | .worker => true | _ => false

/-- STATUS codes of Table 11.12. -/
def stSuccess : Nat := 0
def stInvalidOpcode : Nat := 1
def stInvalidField : Nat := 2
def stBusy : Nat := 3
def stNoResource : Nat := 4
def stTableFull : Nat := 5
def stNotPermitted : Nat := 6
def stSecurityState : Nat := 7
def stEpochMismatch : Nat := 8
def stAborted : Nat := 9
def stDegraded : Nat := 10
def stTimeout : Nat := 11
def stInternalError : Nat := 12
def stVersionMismatch : Nat := 13

/-- Replies (R231): DETAIL is 0 for an offset in the entry and 1 for an offset in the data buffer. -/
def ok (result : Nat) : Reply := ⟨stSuccess, 0, result⟩
def badField (off : Nat) : Reply := ⟨stInvalidField, 0, off⟩
def badData (off : Nat) : Reply := ⟨stInvalidField, 1, off⟩
def failWith (st : Nat) : Reply := ⟨st, 0, 0⟩
def failDetail (st detail : Nat) : Reply := ⟨st, detail, 0⟩

/-- INTR_CAUSE bits of Table 11.6. -/
def icModeChange : Nat := 0
def icDegradedChange : Nat := 1
def icFault : Nat := 2
def icEventLost : Nat := 3
def icBrownout : Nat := 4
def icThermal : Nat := 5
def icLarder : Nat := 6
def icFwRestart : Nat := 7
def icSecError : Nat := 8

/-- Canary bit of a source (Table 20.2). -/
def canaryBit : FaultSrc → Nat
  | .core n => n | .cluster n => 28 + n | .hbm s => 32 + s | .switch => 34 | .tables => 35 | .port _ => 36
  | .host => 37 | .pixel _ => 38 | .ppu => 39 | .dma _ => 40 | .foreman => 41 | .security => 42
  | .clockPower => 43 | .thermal => 44 | .fabricLink => 45

/-- The unit within the bit. -/
def canaryUnit : FaultSrc → Nat
  | .port n => n | .pixel n => n | .dma n => n | _ => 0

/-- The DEVICE_STATUS word (Table 11.5). -/
def deviceStatus (s : State) : BitVec 32 :=
  BitVec.ofNat 32 (modeCode s.mode + 16 * roleCode s.mode + (if s.degraded then 64 else 0)
    + (if s.ready then 128 else 0) + (if s.sec.secError then 256 else 0))

/-- The HOST_CTRL word (Table 11.7). -/
def hostCtrl (f : FnState) : BitVec 32 :=
  BitVec.ofNat 32 ((if f.mbEnable then 1 else 0) + (if f.mbEnabled then 2 else 0) + (if f.adminError then 4 else 0))

/-- The STATUS word of a DMA channel (Table 14.4). -/
def dmaStatus (c : DmaChannel) : BitVec 32 :=
  BitVec.ofNat 32 ((match c.state with | .idle => 0 | .running => 1 | .haltedError => 2 | .haltedMismatch => 3)
    + (if c.armed then 8 else 0) + (if c.shadowLate then 16 else 0) + (if c.done then 32 else 0)
    + (if c.error then 64 else 0) + (if c.mismatch then 128 else 0))

/-- State code of a session (Table 12.5). -/
def sessCode : SessState → Nat
  | .created => 0 | .running => 1 | .stopping => 2 | .stopped => 3 | .resync => 4

/-- LIFECYCLE code (Table 22.9). -/
def lifecycleCode : Lifecycle → Nat
  | .manufacturing => 0 | .provisioned => 1 | .deployed => 2 | .decommissioned => 3

/-- STATE code of a power state (Table 23.4). -/
def powerCode : PowerState → Nat
  | .active => 0 | .idle => 1 | .banked => 2 | .dormant => 3

/-- ROLE code of SEC_QUERY. -/
def authCode : Role → Nat
  | .none => 0 | .user => 1 | .cryptoOfficer => 2

/-- STATE code of staging (Table 21.2). -/
def stageCode : StageState → Nat
  | .idle => 0 | .staging => 1 | .verified => 2 | .activationPending => 3 | .trial => 4

/-- Off, Lockdown: nothing but the events named in Table 12.2 has an effect (R409, R467). -/
def dead (s : State) : Bool :=
  match s.mode with
  | .off => true
  | .lockdown => true
  | _ => false

/-- Off, Lockdown or Dormant: no host access, packet or coding event reaches anything (R409, R460). -/
def asleep (s : State) : Bool :=
  match s.mode with
  | .off => true
  | .lockdown => true
  | .dormant => true
  | _ => false

/-- An effect that takes place when its condition holds; otherwise the event finds nothing to do (log entry 4). -/
def act (s : State) (c : Bool) (k : State) : Result := .next (if c then k else s)

/-- A command that names a unit the part does not have stops (see `Fault.noSuchUnit`). -/
def withUnit (c : Bool) (k : Result) : Result := if c then k else .fault .noSuchUnit

end Sys2Proof.Machine
end

