-- ==== Sys2Proof/Machine/Memory.lean ====
section
/-! DEFINITION. The bytes of the HBM (R263, R265, R272 to R274): one canonical list of (device address, byte) pairs,
read and written a byte, a block and a range at a time.  An unlisted address reads as zero (R467). -/

namespace Sys2Proof.Machine

/-- The HBM's contents. -/
abbrev Mem := List (Nat × Byte)

/-- Canonical form: addresses strictly rising, and no entry equal to what an unlisted address reads as. -/
def Memory.wf (m : Mem) : Bool := decide (m.Pairwise (fun a b => a.1 < b.1)) && m.all (fun p => p.2 != 0)

/-- The byte at an address. -/
def memByte (m : Mem) (a : Nat) : Byte := tget 0 m a

/-- Write one byte; writing what an unlisted address reads as removes the entry. -/
def memPut (m : Mem) (a : Nat) (b : Byte) : Mem := if b = 0 then tdel m a else tset m a b

/-- `n` bytes from an address. -/
def memRead (m : Mem) (a : Nat) : Nat → Bytes
  | 0 => []
  | n + 1 => memByte m a :: memRead m (a + 1) n

/-- Write a byte string from an address. -/
def memWrite (m : Mem) (a : Nat) : Bytes → Mem
  | [] => m
  | b :: l => memWrite (memPut m a b) (a + 1) l

/-- Zero the range from `lo` up to, not including, `hi`. -/
def memZero (m : Mem) (lo hi : Nat) : Mem := m.filter (fun p => p.1 < lo || hi ≤ p.1)

/-- Is a range inside the device? -/
def inHbm (a n : Nat) : Bool := a + n ≤ Config.hbmBytes

/-- The 64-byte ECC blocks that a range touches (R263). -/
def blocksOf (a n : Nat) : List Nat :=
  if n = 0 then [] else (List.range ((a + n - 1) / 64 - a / 64 + 1)).map (fun i => a / 64 + i)

/-- Does a read of the range fail in an uncorrectable block (R273)? -/
def readsBad (h : HbmState) (a n : Nat) : Bool := (blocksOf a n).any (h.bad.contains ·)

/-- The part of a write that falls in the block of its first byte. -/
def headLen (a : Nat) (data : Bytes) : Nat := min data.length (64 - a % 64)

/-- A write within one block: a part write to an uncorrectable block is not performed, a full-block write clears the
error (R274). -/
def writeBlock (h : HbmState) (a : Nat) (data : Bytes) : HbmState :=
  if h.bad.contains (a / 64) && data.length != 64 then h
  else { h with mem := memWrite h.mem a data, bad := h.bad.filter (· ≠ a / 64),
                written := tset h.written (a / 64) h.accepted }

/-- A write of any length, block by block; `n` bounds the blocks. -/
def writeBlocks (n : Nat) (h : HbmState) (a : Nat) (data : Bytes) : HbmState :=
  match n with
  | 0 => h
  | k + 1 =>
    if data.isEmpty then h
    else writeBlocks k (writeBlock h a (data.take (headLen a data))) (a + headLen a data) (data.drop (headLen a data))

/-- Write to the HBM in the order of acceptance (R265). -/
def hbmWrite (s : State) (a : Nat) (data : Bytes) : State :=
  { s with hbm := writeBlocks (data.length + 1) { s.hbm with accepted := s.hbm.accepted + 1 } a data }

/-- Read from the HBM; none when a block is uncorrectable. -/
def hbmRead (s : State) (a n : Nat) : Option Bytes :=
  if readsBad s.hbm a n then none else some (memRead s.hbm.mem a n)

/-- Zero a range of the HBM (R235, R244). -/
def hbmZero (s : State) (lo hi : Nat) : State :=
  { s with hbm := { s.hbm with mem := memZero s.hbm.mem lo hi, bad := s.hbm.bad.filter (fun b => b < lo / 64 || cdiv hi 64 ≤ b) } }

/-- Pseudo-channel, stack and controller of a device address (R264). -/
def pcOf (a : Nat) : Nat :=
  let f (k n : Nat) : Nat := a / 2 ^ k % 2 ^ n
  Nat.xor (Nat.xor (Nat.xor (Nat.xor (f 8 6) (f 14 6)) (f 20 6)) (f 26 6)) (f 32 3)
def stackOf (a : Nat) : Nat := pcOf a / 32

end Sys2Proof.Machine
end

