-- ==== Sys2Proof/Machine/Ops.lean ====
section
/-! DEFINITION. Named operations over the state: time, functions, messages, rings, the event log, modes, the Larder,
faults, fences and the ends of sessions. -/

namespace Sys2Proof.Machine

/-! ### Time, outputs, free values -/

/-- The event falls at time `t`; time never runs back (log entry 3). -/
def atTime (s : State) (t : Nat) : State := { s with now := max s.now t }

/-- PTP time in ns of a moment: the clock runs at its frequency adjustment from the last correction on (R361, R362). -/
def toPtp (s : State) (t : Nat) : Int :=
  (t : Int) + s.net.ptp.offset + ((t : Int) - (s.net.ptp.adjAt : Int)) * s.net.ptp.freq / 1000000000

/-- PTP time now. -/
def ptpTime (s : State) : Int := toPtp s s.now

/-- PTP time as a 64-bit count. -/
def ptp64 (s : State) : Nat := toBits 64 (ptpTime s)

/-- Put an item out. -/
def emit (s : State) (o : OutItem) : State := { s with out := o :: s.out }

/-- Take the next free value below `n` (log entry 10). -/
def draw (s : State) (n : Nat) : Nat × State :=
  (Config.freeNat s.freeCtr % n, { s with freeCtr := s.freeCtr + 1 })

/-! ### Functions and messages -/

/-- A function's state. -/
def fnGet (s : State) (fn : Nat) : FnState := tget (FnState.atReset fn) s.fns fn

/-- Change a function's state. -/
def fnSet (s : State) (fn : Nat) (f : FnState) : State := { s with fns := tset s.fns fn f }

/-- MSI-X table size (Table 11.3). -/
def vectors (fn : Nat) : Nat := if fn = 0 then 256 else 8

/-- The functions that exist: the PF, and the VFs while VF Enable is set. -/
def allFns (s : State) : List Nat := if s.vfEnabled then List.range 64 else [0]

/-- Does the function exist now? -/
def fnExists (s : State) (fn : Nat) : Bool := fn == 0 || (s.vfEnabled && fn < 64)

/-- Send an MSI-X message, or set the pending bit of a masked vector (R242). -/
def sendMsix (s : State) (fn v : Nat) : State :=
  if v < vectors fn then
    if (fnGet s fn).vecMasked.contains v then
      fnSet s fn { fnGet s fn with vecPending := if (fnGet s fn).vecPending.contains v then (fnGet s fn).vecPending
                                                 else v :: (fnGet s fn).vecPending }
    else emit s (.msix fn v)
  else s

/-- Set an INTR_CAUSE bit of a function; a 0-to-1 change sends vector 0 unless masked (R221). -/
def setCause (s : State) (fn bit : Nat) : State :=
  let f := fnGet s fn
  if f.intrCause.getLsbD bit then s
  else
    let s1 := fnSet s fn { f with intrCause := f.intrCause ||| BitVec.twoPow 32 bit }
    if f.intrMask.getLsbD bit then s1 else sendMsix s1 fn 0

/-- Set a cause bit in every function (log entry 23). -/
def causeAll (s : State) (bit : Nat) : State := (allFns s).foldl (fun s fn => setCause s fn bit) s

/-- Bytes of a function's grant, and the device address of a BAR2 byte offset (R218, R263). -/
def grantBytes (s : State) (fn : Nat) : Nat := (fnGet s fn).hbmUnits * 67108864
def grantAddr (s : State) (fn off : Nat) : Nat := (fnGet s fn).hbmBase * 67108864 + off

/-- Write bytes for a function: to host memory, or to its HBM grant as far as the grant reaches (R218, R228). -/
def hostWrite (s : State) (fn : Nat) (inHbm : Bool) (addr : Nat) (data : Bytes) : State :=
  if inHbm then hbmWrite s (grantAddr s fn addr) (data.take (grantBytes s fn - addr))
  else emit s (.hostData fn false addr data)

/-! ### Rings (R239) -/

/-- No ring. -/
def Ring.none : Ring := ⟨0, 0, 0, 0⟩

/-- Post entry PRODUCED of a ring: the entry, PRODUCED, then the vector; while R243 suppresses writes only PRODUCED counts. -/
def postRing (s : State) (fn : Nat) (r : Ring) (data : Bytes) : Ring × State :=
  if r.depth = 0 then (r, s)
  else
    ({ r with produced := r.produced + 1 },
     if (fnGet s fn).suppressed then s else sendMsix (emit s (.ringEntry fn r.base r.produced data)) fn r.vector)

/-! ### Sessions -/

/-- The session in a slot. -/
def sessAt (s : State) (slot : Nat) : Option Session := tfind s.sessions slot

/-- The live session of an ID (R238). -/
def sessById (s : State) (id : Nat) : Option Session :=
  match tfind s.sessions (id % 256) with
  | some x => if x.id = id then some x else none
  | none => none

/-- Write a session back. -/
def sessPut (s : State) (x : Session) : State := { s with sessions := tset s.sessions (x.id % 256) x }

/-- Every live session. -/
def sessList (s : State) : List Session := s.sessions.map (·.2)

/-- LABEL of a session (Table 12.7); DECODE_CONFIG has none. -/
def sessLabel (x : Session) : Bytes := if x.decode then zeros 16 else slice x.cfg 0x20 16

/-! ### The event log (R423, R424, R241) -/

/-- Post one event record to the event ring of its function, or set EVENT_LOST (R241); a headless worker posts
to the flash log only (R379). -/
def postEvent (s : State) (r : EventRec) : State :=
  if s.foreman.platform.headless then s
  else
    match (fnGet s r.fn).eventRing with
    | none => setCause s r.fn icEventLost
    | some g =>
      let f := fnGet s r.fn
      let s1 := fnSet s r.fn { f with eventRing := some { g with produced := g.produced + 1 } }
      if f.suppressed then s1 else sendMsix (emit s1 (.eventEntry r.fn g.base g.produced r)) r.fn g.vector

/-- Does the record go to the flash log (R424)? -/
def toFlash (r : EventRec) : Bool :=
  (1 ≤ r.cls && r.cls ≤ 5) || (0x0501 ≤ r.code && r.code ≤ 0x0701)

/-- Append one record to the RAM log of 8,192 records, to the flash queue and to the ring. -/
def logRec (s : State) (r : EventRec) : State :=
  let f := s.foreman
  let r1 := { r with seq := f.logIndex }
  let s1 := { s with foreman := { f with
    logIndex := (f.logIndex + 1) % 2 ^ 64
    ramLog := (r1 :: f.ramLog).take 8192
    flashPending := if toFlash r1 || f.platform.headless then f.flashPending ++ [r1] else f.flashPending } }
  postEvent s1 r1

/-- ARG0 or ARG1 of a record: the manual's value, or, where the manual states none, the next free value (log entry 10). -/
def argOf (s : State) (a : Option Nat) (bound : Nat) : Nat × State :=
  match a with
  | some v => (v, s)
  | none => draw s bound

/-- Log a device-wide event. -/
def logEvent (s : State) (code cls source : Nat) (arg0 arg1 : Option Nat) : State :=
  let (a0, s1) := argOf s arg0 (2 ^ 32)
  let (a1, s2) := argOf s1 arg1 (2 ^ 64)
  logRec s2 { time := ptpTime s, seq := 0, code := code, cls := cls, cont := false, deviceWide := true,
              source := source, session := 0, arg0 := a0, arg1 := a1, fn := 0, label := [] }

/-- Log an event of one function that concerns no session. -/
def logFor (s : State) (fn code cls source : Nat) (arg0 arg1 : Option Nat) : State :=
  let (a0, s1) := argOf s arg0 (2 ^ 32)
  let (a1, s2) := argOf s1 arg1 (2 ^ 64)
  logRec s2 { time := ptpTime s, seq := 0, code := code, cls := cls, cont := false, deviceWide := false,
              source := source, session := 0, arg0 := a0, arg1 := a1, fn := fn, label := [] }

/-- Log an event of one session: the record and its continuation with LABEL (R423). -/
def logSession (s : State) (x : Session) (code cls source : Nat) (arg0 arg1 : Option Nat) : State :=
  let (a0, s1) := argOf s arg0 (2 ^ 32)
  let (a1, s2) := argOf s1 arg1 (2 ^ 64)
  let r : EventRec := { time := ptpTime s, seq := 0, code := code, cls := cls, cont := true, deviceWide := false,
                        source := source, session := x.id, arg0 := a0, arg1 := a1, fn := x.fn, label := [] }
  logRec (logRec s2 r) { r with code := 0x0001, cont := false, session := 0, arg0 := 0, arg1 := 0, label := sessLabel x }

/-! ### Modes (R247) -/

/-- Change MODE by a transition of Table 12.2: MODE_CHANGE is raised and READY follows Table 12.1 (R247).
Entering Ready lets FAULT_N rise after a class 4 event (R406), and a headless worker joins its fabric (R379). -/
def setMode (s : State) (m : OpMode) : State :=
  causeAll { s with
    mode := m
    ready := readyIn m
    canary := { s.canary with afterClass4 := s.canary.afterClass4 && m != .ready }
    fabric := { s.fabric with rejoinAt :=
      if m == .ready && s.foreman.platform.headless && s.fabric.rejoinAt.isNone then some s.now else s.fabric.rejoinAt } }
    icModeChange

/-- The current configuration epoch (R230). -/
def curEpoch (s : State) : Nat := if s.fabric.joined then s.fabric.epoch else s.epochCtr.toNat

/-- A successful command changed a configuration (R230). -/
def bumpEpoch (s : State) : State := { s with epochCtr := s.epochCtr + 1 }

/-! ### Cores, clusters and the Larder -/

/-- A core and a cluster. -/
def coreGet (s : State) (c : Nat) : CoreState := tget CoreState.atReset s.cores c
def coreSet (s : State) (c : Nat) (x : CoreState) : State := { s with cores := tset s.cores c x }
def clGet (s : State) (k : Nat) : ClusterState := tget ClusterState.atReset s.clusters k
def clSet (s : State) (k : Nat) (x : ClusterState) : State := { s with clusters := tset s.clusters k x }

/-- The cores of a cluster (R2). -/
def clCores (k : Nat) : List Nat := (List.range 7).map (fun i => k * 7 + i)

/-- Neither fenced nor lost, in a cluster that is not fenced. -/
def coreUsable (s : State) (c : Nat) : Bool :=
  !(coreGet s c).fenced && !(coreGet s c).lost && !(clGet s (c / 7)).fenced

/-- Usable cores of a cluster, spare included (R210). -/
def usableCores (s : State) (k : Nat) : List Nat := (clCores k).filter (coreUsable s)

/-- Cores that may take work: usable and not the spare. -/
def activeCores (s : State) (k : Nat) : List Nat :=
  (usableCores s k).filter (fun c => (clGet s k).spare != some c)

/-- The core clock in MHz, after the throttle of R465; the stretch of R462 divides it by 1.25. -/
def coreClock (s : State) : Nat :=
  let f := if s.power.throttle then Config.fCoreMhz / 2 else Config.fCoreMhz
  if s.power.stretchSince.isSome then f * 4 / 5 else f

/-- Core cycles per second of one core that admission may use (R465, Table 23.5). -/
def coreHz (s : State) : Nat :=
  let f := if s.power.throttle then Config.fCoreMhz / 2 else Config.fCoreMhz
  (if s.power.stretchLong then f * 4 / 5 else f) * 1000000

/-- Sum of a resource that sessions reserve on a cluster. -/
def clusterUse (s : State) (k : Nat) (f : ClusterUse → Frac) : Frac :=
  (sessList s).foldl (fun n x => x.uses.foldl (fun n u => if u.cluster = k then fracAdd n (f u) else n) n) (fracOf 0)

/-- What is left of a resource of which a cluster has `n` per second. -/
def clusterFree (s : State) (k n : Nat) (f : ClusterUse → Frac) : Frac := fracSub (fracOf n) (clusterUse s k f)

/-- Unreserved core cycles per second of a cluster. -/
def coreFree (s : State) (k : Nat) : Frac := clusterFree s k ((activeCores s k).length * coreHz s) (·.core)

/-- Pixels per second of one PPU (R148). -/
def ppuRate : Nat := 8000000000

/-- Reference Store bytes that sessions take on a cluster (R64). -/
def rsUsed (s : State) (k : Nat) : Nat :=
  (sessList s).foldl (fun n x => if x.serving.contains k then n + x.rsBytes else n) 0

/-- Parity errors in the last 24 hours (PARITY_24H). -/
def parity24 (s : State) (c : Nat) : Nat :=
  ((coreGet s c).parity.filter (fun t => s.now < t + 86400000000000)).length

/-- STATE and POWER of a CORE entry (Table 10.3). -/
def coreStateCode (s : State) (c : Nat) : Nat :=
  let x := coreGet s c
  if x.lost then 3 else if x.fenced || (clGet s (c / 7)).fenced then 2
  else if (clGet s (c / 7)).spare = some c then 1 else 0
def corePowerCode (s : State) (c : Nat) : Nat :=
  let x := coreGet s c
  if x.fenced || x.lost then 3 else match x.sleep with | .awake => 0 | .clockGated => 1 | .powerGated => 2

/-- Stacks, ports. -/
def stackGet (s : State) (k : Nat) : StackState := tget StackState.atReset s.hbm.stackTab k
def stackSet (s : State) (k : Nat) (x : StackState) : State :=
  { s with hbm := { s.hbm with stackTab := tset s.hbm.stackTab k x } }
def ethGet (s : State) (p : Nat) : EthPort := tget EthPort.atReset s.net.ports p
def ethSet (s : State) (p : Nat) (x : EthPort) : State := { s with net := { s.net with ports := tset s.net.ports p x } }
def pxGet (s : State) (p : Nat) : PxPort := tget PxPort.atReset s.px p
def pxSet (s : State) (p : Nat) (x : PxPort) : State := { s with px := tset s.px p x }
def pcGet (s : State) (p : Nat) : PseudoChannel := tget PseudoChannel.atReset s.hbm.pcs p
def pcSet (s : State) (p : Nat) (x : PseudoChannel) : State := { s with hbm := { s.hbm with pcs := tset s.hbm.pcs p x } }

/-- Lanes of an Ethernet port under its quad's mode (Table 18.1); 0 when the mode leaves the port unused (R353). -/
def ethLanes (s : State) (p : Nat) : Nat :=
  match (ethGet s (p / 4 * 4)).cfg.quadMode with
  | 0 => 1
  | 1 => if p % 2 = 0 then 2 else 0
  | _ => if p % 4 = 0 then 4 else 0

/-- Speed of an Ethernet port in Mb/s. -/
def ethSpeed (s : State) (p : Nat) : Nat := ethLanes s p * 100000

/-- Lanes of a pixel port for the Larder: the receive side when enabled, otherwise the transmit side (R210). -/
def pxLanes (s : State) (p : Nat) : Nat :=
  let c := (pxGet s p).cfg
  if c.rxOn then c.rxLanes else if c.txOn then c.txLanes else 0

/-- TRAIN_TEMP of a stack: the pseudo-channel trained longest ago (R278). -/
def trainTemp (s : State) (k : Nat) : Int :=
  let ps := (List.range 32).map (fun i => pcGet s (k * 32 + i))
  match ps with
  | [] => 0
  | p :: l => (l.foldl (fun a b => if b.trainedAt < a.trainedAt then b else a) p).trainTemp

/-- Free Reference Store bytes of a cluster (R64): the takeover area counts once. -/
def rsFree (s : State) (k : Nat) : Nat := 20971520 - 458752 - rsUsed s k

/-- Entries of one TYPE, for instances 0 to n − 1. -/
def larderBlock (typ base n : Nat) (f : Nat → List Int) : Tbl (List Int) :=
  (List.range n).map fun k => (typ * 65536 + base + k, f k)

/-- A number and a truth value as Larder field values. -/
def fieldN (n : Nat) : Int := (n : Int)
def fieldB (b : Bool) : Int := if b then 1 else 0

/-- Dynamic entries of the Larder: field values in the order of Table 10.3, keyed by TYPE × 65,536 + INSTANCE. -/
def larderView (s : State) : Tbl (List Int) :=
  larderBlock 0x0002 0 4 (fun k =>
    [fieldN k, (match (clGet s k).spare with | some c => fieldN c | none => 0xFF), fieldN (usableCores s k).length,
     fieldB (clGet s k).surveyFenced + 2 * fieldB (clGet s k).ppuFenced + 4 * fieldB (!s.power.pllOff.contains k),
     fieldN (rsFree s k),
     fieldN (if (clGet s k).ppuFenced then 0 else fracFloor (clusterFree s k ppuRate (·.ppu)) / 1000000),
     fieldN (if (clGet s k).surveyFenced then 0 else fracFloor (clusterFree s k (coreHz s) (·.survey)) / 1000000),
     fieldN (fracFloor (coreFree s k) / 1000000)])
  ++ larderBlock 0x0003 0 28 (fun c =>
    [fieldN c, fieldN (coreStateCode s c), fieldN (corePowerCode s c), fieldN (parity24 s c),
     fieldN (tget 0 s.foreman.agingHours c)])
  ++ larderBlock 0x0004 0 2 (fun k =>
    [fieldN k, 0, (if Config.hbmGib = 32 then 8 else 4), 16, fieldN (Config.hbmGib * 512), 6400, 1,
     fieldN (stackGet s k).refreshMult, (stackGet s k).temp, trainTemp s k, fieldN (stackGet s k).ceCount,
     fieldN (stackGet s k).ueCount, 819200])
  ++ larderBlock 0x0005 0 16 (fun p =>
    [fieldN p, 0, fieldN (ethLanes s p), fieldB (ethGet s p).up, fieldN (ethSpeed s p), 1,
     fieldB (!(ethGet s p).macsec.sas.isEmpty)])
  ++ larderBlock 0x0005 16 4 (fun p =>
    [fieldN (46 + p), 1, fieldN (pxLanes s p), fieldB (pxGet s p).up, fieldN (pxLanes s p * 25000), 0, 0])
  ++ larderBlock 0x000B 0 64 (fun n => [fieldN n, fieldB (decide (40 ≤ n)), tget 0 s.foreman.sensors n])
  ++ larderBlock 0x000D 0 16 (fun n => [fieldN (n + 1), if s.sec.unavailable.contains (n + 1) then 1 else 3])

/-- One update of the dynamic section: DYN_GEN goes to its next even value and LARDER_GEN follows; INTR_CAUSE
LARDER_UPDATE is set (R212).  Before publication nothing is updated. -/
def larderUpdate (s : State) : State :=
  if s.larder.published then
    causeAll { s with larder := { s.larder with dynGen := s.larder.dynGen + 2, larderGen := s.larder.dynGen + 2,
                                                dyn := larderView s } } icLarder
  else s

/-- Publish the Larder at the end of Secure Boot: DYN_GEN counts from 0 (R206, R212). -/
def larderPublish (s : State) (reduced signed : Bool) : State :=
  { s with larder := { published := true, reduced := reduced, dynGen := 0, larderGen := 0, ptp := ptpTime s,
                       signed := signed, dyn := if reduced then [] else larderView s } }

/-! ### In-flight commands and completions -/

/-- Key of a queue pair. -/
def qpKey (fn qid : Nat) : Nat := fn * 64 + qid
def qpGet (s : State) (fn qid : Nat) : Option QueuePair := tfind s.qps (qpKey fn qid)
def qpPut (s : State) (q : QueuePair) : State := { s with qps := tset s.qps (qpKey q.fn q.qid) q }

/-- Announce one completion (R222, R228): QID 0 on vector 0 without coalescing, an I/O pair on its vector. -/
def announce (s : State) (q : QueuePair) (noIrq : Bool) : State :=
  if noIrq then qpPut s q
  else if q.qid = 0 then sendMsix (qpPut s q) q.fn 0
  else if q.coalCount ≤ 1 then sendMsix (qpPut s q) q.fn q.vector
  else
    let n := q.unannounced + 1
    if q.coalCount ≤ n then sendMsix (qpPut s { q with unannounced := 0 }) q.fn q.vector
    else qpPut s { q with unannounced := n, oldestAt := if q.unannounced = 0 then s.now else q.oldestAt }

/-- Write one completion entry (Table 11.10) and announce it; PHASE inverts on each wrap (R226). -/
def postCompletion (s : State) (q : QueuePair) (i : InFlight) (r : Reply) : State :=
  let s1 := emit s (.completion q.fn q.qid q.cqTail r.result q.sqHead i.cid r.status r.detail q.phase)
  let wrap := q.cqTail + 1 = q.depth
  announce s1 { q with cqTail := if wrap then 0 else q.cqTail + 1, phase := if wrap then !q.phase else q.phase,
                       posted := q.posted + 1, flight := q.flight.filter (fun j => j.order ≠ i.order) } (cmdNoIrq i.entry)

/-- May the command's completion be posted: no earlier command of the same TARGET of the SQ is unposted (R227, R261). -/
def turnOf (q : QueuePair) (i : InFlight) : Bool :=
  cmdTarget i.entry == 0 ||
    q.flight.all (fun j => !(j.order < i.order && cmdTarget j.entry == cmdTarget i.entry))

/-- The oldest decided command whose turn has come. -/
def nextPost (q : QueuePair) : Option (InFlight × Reply) :=
  q.flight.findSome? fun i => match i.reply with
    | some r => if turnOf q i then some (i, r) else none
    | none => none

/-- A command of a pair that DELETE_QP or MB_ENABLE = 0 is deleting leaves without a completion (R237). -/
def dropDecided (s : State) (q : QueuePair) : State :=
  qpPut s { q with flight := q.flight.filter (fun i => i.reply.isNone) }

/-- Remove a pair from which nothing is in flight any more; the last pair of a function whose mailbox was disabled
clears MB_ENABLED (R222). -/
def removePair (s : State) (q : QueuePair) : State :=
  let s1 := { s with qps := tdel s.qps (qpKey q.fn q.qid) }
  let f := fnGet s1 q.fn
  if !f.mbEnable && s1.qps.all (fun p => p.2.fn ≠ q.fn) then fnSet s1 q.fn { f with mbEnabled := false } else s1

/-- Set the outcome of an undecided command of a pair. -/
def decideCmd (s : State) (r : CmdRef) (a : Reply) : State :=
  match qpGet s r.fn r.qid with
  | none => s
  | some q => qpPut s { q with flight := q.flight.map (fun i =>
      if i.cid = r.cid && i.reply.isNone then { i with reply := some a } else i) }

/-- Post every decided completion whose turn has come, oldest first; a pair being deleted posts none and goes when its
last started command has finished, which completes the DELETE_QP with the number of commands aborted (R237).
`n` bounds the number. -/
def postReady (n : Nat) (s : State) (fn qid : Nat) : State :=
  match n with
  | 0 => s
  | k + 1 =>
    match qpGet s fn qid with
    | none => s
    | some q =>
      match q.deleting with
      | some d =>
        if (q.flight.filter (fun i => i.reply.isNone)).isEmpty then
          postReady k (decideCmd (removePair s q) d ⟨stSuccess, 0, q.aborted⟩) d.fn d.qid
        else dropDecided s q
      | none =>
        match nextPost q with
        | none => s
        | some (i, r) => postReady k (postCompletion s q i r) fn qid

/-- The in-flight command of a reference. -/
def inFlight (s : State) (r : CmdRef) : Option InFlight :=
  match qpGet s r.fn r.qid with
  | none => none
  | some q => q.flight.find? (fun i => i.cid = r.cid && i.reply.isNone)

/-- Change one in-flight command. -/
def editFlight (s : State) (r : CmdRef) (f : InFlight → InFlight) : State :=
  match qpGet s r.fn r.qid with
  | none => s
  | some q => qpPut s { q with flight := q.flight.map (fun i => if i.cid = r.cid && i.reply.isNone then f i else i) }

/-- Decide a command's completion and post what may be posted. -/
def finish (s : State) (r : CmdRef) (a : Reply) : State :=
  postReady 130 (decideCmd s r a) r.fn r.qid

/-- Write bytes to a command's data buffer (R228); a DATA_IN_HBM buffer lies in the function's grant. -/
def writeData (s : State) (fn : Nat) (e data : Bytes) : State :=
  if data.isEmpty then s else hostWrite s fn (cmdInHbm e) (cmdDataPtr e) data

/-- The bytes of a command's data buffer: of the grant with DATA_IN_HBM, otherwise `data`, as host memory holds them. -/
def readData (s : State) (fn : Nat) (e data : Bytes) : Bytes :=
  if cmdInHbm e then memRead s.hbm.mem (grantAddr s fn (cmdDataPtr e)) (cmdDataLen e)
  else (padTo (cmdDataLen e) data).take (cmdDataLen e)

/-! ### Faults (R399 to R408) -/

/-- Count an event of a class and, from class 1, set the bit; CANARY_CLASS_MAX keeps the highest class (R402). -/
def canaryCount (s : State) (bit cls : Nat) : State :=
  let c := s.canary
  { s with canary := { c with
      counts := tadd c.counts (bit * 8 + cls) 1
      status := if cls = 0 then c.status else c.status ||| BitVec.twoPow 64 bit
      classMax := if c.classMax.toNat < cls then BitVec.ofNat 3 cls else c.classMax } }

/-- Set DEGRADED and raise DEGRADED_CHANGE (R246, R404). -/
def setDegraded (s : State) : State := causeAll { s with degraded := true } icDegradedChange

/-- Record an event of a class: counts, event record, FAULT, DEGRADED from class 2 (log entry 43), FAULT_N from class 3 (R402,
R403, R406).  ERR_CODE is the block's own and the manual lists none (log entry 10). -/
def recordFault (s : State) (bit cls : Nat) (addr : Option Nat) : State :=
  let (code, s0) := draw (canaryCount s bit cls) 256
  let s1 := logEvent s0 (0x0100 + code) cls bit none addr
  let s2 := if 2 ≤ cls then setDegraded (causeAll s1 icFault) else s1
  if 3 ≤ cls then { s2 with canary := { s2.canary with faultN := false, lastSevere := s2.now,
                                                       afterClass4 := s2.canary.afterClass4 || cls = 4 } }
  else s2

/-- An event of a unit that is fenced already: counted and logged, no reaction (R400). -/
def logFault (s : State) (bit cls : Nat) (addr : Option Nat) : State :=
  let (code, s0) := draw (canaryCount s bit cls) 256
  logEvent s0 (0x0100 + code) cls bit none addr

/-- Class 1 times of a source within the last second, this event included (R400). -/
def recentClass1 (s : State) (key : Nat) : List Nat :=
  s.now :: (tget [] s.canary.recent key).filter (fun t => s.now < t + 1000000000)

/-- Escalation of R400: the eighth class 1 event of a source within 1 s is handled as class 2. -/
def escalate (s : State) (key : Nat) : Nat × State :=
  let l := recentClass1 s key
  if 8 ≤ l.length then (2, { s with canary := { s.canary with recent := tset s.canary.recent key [] } })
  else (1, { s with canary := { s.canary with recent := tset s.canary.recent key l } })

/-- The collector takes an event of a class from unit `unit` of a bit: the class that the escalation leaves, and the record. -/
def collect (s : State) (bit unit cls : Nat) (addr : Option Nat) : Nat × State :=
  let (k, s1) := if cls = 1 then escalate s (bit * 64 + unit) else (cls, s)
  (k, recordFault s1 bit k addr)

/-- An uncorrectable read: counted, logged with address and requester, class 1 on the stack's bit (R273). -/
def uncorrectable (s : State) (a : Nat) : State :=
  let k := stackOf a
  let s1 := stackSet s k { stackGet s k with ueCount := (stackGet s k).ueCount + 1 }
  (collect s1 (32 + k) 0 1 a).2

/-! ### Ends of sessions -/

/-- Commands of a session that are in flight, with their queue pairs. -/
def sessCmds (s : State) (x : Session) : List (CmdRef × InFlight) :=
  s.qps.flatMap fun p =>
    if p.2.fn = x.fn then
      (p.2.flight.filter (fun i => cmdTarget i.entry = x.id && i.reply.isNone)).map
        (fun i => (⟨p.2.fn, p.2.qid, i.cid⟩, i))
    else []

/-- Complete every buffer that STOP_SESSION leaves over (R262): a partly filled one with SUCCESS and DETAIL bit 1. -/
def releaseBuffers (s : State) (fn : Nat) (l : List OutBuffer) : State :=
  l.foldl (fun s b =>
    if b.filled.isEmpty then finish s ⟨fn, b.qid, b.cid⟩ (failWith stAborted)
    else finish (hostWrite s fn b.inHbm b.addr b.filled) ⟨fn, b.qid, b.cid⟩ ⟨stSuccess, 2, b.filled.length⟩) s

/-- RESULT of a stop: the last frame output, or 0xFFFF_FFFF (R253). -/
def lastFrameOut (x : Session) : Nat :=
  if x.decode then (match x.dec.lastOut with | some _ => (x.dec.outCount + 2 ^ 32 - 1) % 2 ^ 32 | none => 0xFFFFFFFF)
  else match x.enc.lastOutput with | some n => n % 2 ^ 32 | none => 0xFFFFFFFF

/-- Remove a session's work from cores and controller queues; uncommitted Ladle bytes are discarded (R109, R253). -/
def dropWork (s : State) (id : Nat) : State :=
  { s with
    cores := tmap (fun c =>
      let mine := (match c.work with | some w => w.session = id | none => false)
        || (match c.decoding with | some d => d.1 = id | none => false)
      { c with work := if mine then none else c.work,
               decoding := if mine then none else c.decoding,
               pipe := if mine then [none, none, none, none, none, none, none] else c.pipe,
               ladle := { c.ladle with
                 words := (c.ladle.words.zipIdx.filter (fun w => w.1.tag.head? ≠ some id)).map (·.1),
                 committed := ((c.ladle.words.take c.ladle.committed).filter (fun w => w.tag.head? ≠ some id)).length,
                 filling := if mine then [] else c.ladle.filling } }) s.cores
    clusters := tmap (fun k => { k with queue := k.queue.filter (fun b => b.session ≠ id) }) s.clusters }

/-- Pictures that have no band dispatched; a stop completes their commands with ABORTED (R262). -/
def undispatched (x : Session) : List SubPicture :=
  x.enc.submitted.filter (fun p => x.enc.frames.all (fun f => !(f.number == p.frame && f.dispatched != 0)))

/-- The session reaches STOPPED: what is left of its commands completes, and every waiting STOP_SESSION completes with
the same RESULT (R253, R262).  Pending reconfigurations not reached are discarded (R255). -/
def reachStopped (s : State) (x : Session) : State :=
  let s1 := (x.enc.submitted.filter (fun p => !p.complete)).foldl (fun s p => finish s ⟨x.fn, p.qid, p.cid⟩ (failWith stAborted)) s
  let s2 := x.dec.pendingIn.foldl (fun s p => finish s ⟨x.fn, p.1, p.2.1⟩ ⟨stAborted, 0, p.2.2⟩) s1
  let s3 := releaseBuffers (releaseBuffers s2 x.fn x.enc.buffers) x.fn x.dec.buffers
  let y : Session :=
    { x with state := .stopped, stopNow := false, stopCids := [], pendingCfg := [],
             enc := { x.enc with submitted := [], buffers := [], frames := [], backlog := [], chunkBuf := [],
                                 nextSubmit := (match x.enc.lastOutput with | some n => n + 1 | none => 0),
                                 nextFrame := (match x.enc.lastOutput with | some n => n + 1 | none => 0),
                                 refreshDue := true },
             dec := { x.dec with pendingIn := [], buffers := [], pics := [], started := false } }
  let s4 := sessPut (dropWork s3 x.id) y
  x.stopCids.foldl (fun s c => finish s ⟨x.fn, c.1, c.2⟩ (ok (lastFrameOut x))) s4

/-- Stop with WHEN 0x1: no further band, uncommitted work discarded, the session is STOPPED at once (R253). -/
def stopNow (s : State) (x : Session) : State := reachStopped s x

/-- Free a session's resources (R252, R365): flows become unbound, the slot becomes free. -/
def destroySession (s : State) (x : Session) : State :=
  { dropWork s x.id with
    sessions := tdel s.sessions (x.id % 256)
    hbm := { s.hbm with poolUsed := s.hbm.poolUsed - x.poolBytes }
    net := { s.net with flows := tmap (fun f => if f.session = x.id then { f with session := 0 } else f) s.net.flows } }

/-- Stop as by WHEN 0x1, without completions where the reset rules say so, then destroy (R249). -/
def stopAndDestroy (s : State) (x : Session) : State := destroySession (stopNow s x) x

/-- Every session stops as by WHEN 0x1 and is destroyed (R249, class 4). -/
def stopAll (s : State) : State := { (sessList s).foldl stopAndDestroy s with sessions := [] }

/-- Every session is destroyed without completions (R249, entry to Secure Boot, Lockdown or TAP Maintenance). -/
def destroyAll (s : State) : State := { (sessList s).foldl destroySession s with sessions := [] }

/-- Multicast and unicast addresses of Table 19.1. -/
def clpAll : Nat := 0xFFFF

/-- Send a Crew Link message: it takes the next SEQ of its destination (R381). -/
def sendClp (s : State) (kind dest : Nat) (fields : List Nat) : State :=
  let f := s.fabric
  let q := tget 0 f.txSeq dest
  emit { s with fabric := { f with txSeq := tset f.txSeq dest ((q + 1) % 2 ^ 32) } } (.clp kind dest q fields)

/-- Is the session one of a fabric (R383: a session of a fabric has a number of its own)? -/
def isDist (x : Session) : Bool := x.dist.fabricSession != 0

/-- A device whose part of a session with shadows a fault affects multicasts FENCE about itself for that session (R408). -/
def fenceSelf (s : State) (x : Session) : State :=
  if s.fabric.joined && u8 x.cfg 0x1CD == 1 && !x.decode && isDist x then
    sendClp s 0x0A clpAll [s.fabric.member, 0, x.dist.fabricSession]
  else s

/-- Class 3 of a session: it enters RESYNC, discards what it was coding and waits for its next sync point (R254).  Pictures
that it had begun are used up: their commands complete (log entry 37). -/
def enterResync (s : State) (x : Session) : State :=
  match x.state with
  | .running =>
    let gone := x.enc.submitted.filter (fun p => decide (p.frame < x.enc.nextFrame))
    let s1 := (gone.filter (fun p => !p.complete)).foldl (fun s p => finish s ⟨x.fn, p.qid, p.cid⟩ (ok 0)) (fenceSelf s x)
    sessPut (dropWork s1 x.id)
      { x with state := .resync,
               enc := { x.enc with frames := [], refreshDue := true, chunkBuf := [], codeBase := x.enc.nextFrame,
                                   codeCount := 0, hrdBase := x.enc.codeTotal,
                                   submitted := x.enc.submitted.filter (fun p => decide (x.enc.nextFrame ≤ p.frame)) },
               dec := { x.dec with started := false, pics := [] } }
  | _ => s

/-- Class 3 of the sessions that a test picks. -/
def resyncWhere (s : State) (p : Session → Bool) : State :=
  (sessList s).foldl (fun s x => if p x then enterResync s x else s) s

/-! ### Zeroisation and Lockdown (R450, R409) -/

/-- The keys of a port's MACsec associations, gone. -/
def clearSas (p : EthPort) : EthPort :=
  { p with macsec := { p.macsec with sas := p.macsec.sas.map (fun a => { a with key := [] }) } }

/-- Zeroise the volatile critical security parameters (R450); the DRBG then reseeds, and the identity and platform keys are
derived again from OTP when they are used. -/
def zeroize (s : State) : State :=
  { s with
    sec := { s.sec with keys := [], kem := none, drbgRequests := 0, drbgSeededAt := s.now },
    fns := tmap (fun f => { f with auth := AuthState.empty }) s.fns,
    net := { s.net with ports := tmap clearSas s.net.ports },
    sessions := tmap (fun x => { x with keyMatter := none, nextKey := none }) s.sessions }

/-- Does the session use a key (R439)? -/
def usesKey (x : Session) : Bool := u8 x.cfg (if x.decode then 0xC3 else 0x184) != 0
def keyIdOf (x : Session) : Nat := u16 x.cfg (if x.decode then 0xC8 else 0x186)

/-- Each session whose key was zeroised takes class 3 and waits for a key of the same KEY_ID (R451). -/
def keyLost (s : State) (p : Session → Bool) : State :=
  (sessList s).foldl (fun s x =>
    if usesKey x && p x then
      let s1 := recordFault s 42 3 none
      match sessById s1 x.id with
      | some y => enterResync (sessPut s1 { y with awaitKey := true }) { y with awaitKey := true }
      | none => s1
    else s) s

/-- Entry to Lockdown in hardware (R409): keys zeroised, sessions destroyed, transmitters idle, every PXn_HOLD_N low,
FAULT_N low, MODE Lockdown, READY 0; a reaction of a lower class is abandoned.  A test instruction acts as BYPASS (R483). -/
def lockdown (s : State) : State :=
  let s1 := destroyAll (zeroize s)
  { s1 with mode := .lockdown, ready := false,
            canary := { s1.canary with faultN := false, pendingFences := [], gatedAt := none },
            tap := { s1.tap with pins := if s1.tap.pins = 0x01 ∨ s1.tap.pins = 0x02 then s1.tap.pins else 0xFF },
            pins := { s1.pins with ethIdle := true, holdAll := true } }

/-- A class 5 event on a bit: recorded, then Lockdown; the Foreman writes one flash record (R409). -/
def class5 (s : State) (bit : Nat) : State :=
  let (code, s0) := draw (canaryCount s bit 5) 256
  let s1 := lockdown s0
  let r : EventRec :=
    { time := ptpTime s, seq := s1.foreman.logIndex, code := 0x0100 + code, cls := 5, cont := false,
      deviceWide := true, source := bit, session := 0, arg0 := 0, arg1 := 0, fn := 0, label := [] }
  { s1 with foreman := { s1.foreman with flashLog := s1.foreman.flashLog ++ [r] } }

/-! ### Leaving a fabric, class 4 -/

/-- FLAGS of Table 19.1 stand above the type: ACK_REQ, IS_ACK, RETRANSMIT, NAK. -/
def clpAckReq : Nat := 0x100
def clpIsAck : Nat := 0x200
def clpRetx : Nat := 0x400
def clpNak : Nat := 0x800

/-- Send a unicast message that asks for an acknowledgement (R382). -/
def sendAcked (s : State) (kind dest : Nat) (fields : List Nat) : State :=
  let q := tget 0 s.fabric.txSeq dest
  let s1 := sendClp s (kind + clpAckReq) dest fields
  { s1 with fabric := { s1.fabric with unacked := s1.fabric.unacked ++
      [{ dest := dest, seq := q, kind := kind, tries := 0, sentAt := s1.now, fields := fields }] } }

/-- Leave the fabric: sessions placed by the manager are withdrawn, a manager's own end here (R249, R389), MODE becomes Ready
(Table 12.2); a headless worker rejoins 1 s later (R379). -/
def leaveFabric (s : State) : State :=
  let s1 := (sessList s).foldl (fun s x => if x.placed then destroySession s x else stopAndDestroy s x) s
  let s2 := { s1 with fabric := { s1.fabric with
      joined := false, member := 0xFFFF, manager := 0xFFFF, standby := 0xFFFF, leaseEnd := none, members := [],
      unacked := [], prepared := none, epochs := [], heldMsgs := [], draining := none, joining := none, txSeq := [], rx := [],
      qualified := false, qualSince := none, hashBad := false, unreachable := 0xFFFF,
      rejoinAt := if s.foreman.platform.headless then some (s.now + 1000000000) else none } }
  setMode s2 .ready

/-- The modes from which a class 4 fault leads to Ready (Table 12.2). -/
def class4ToReady (m : OpMode) : Bool :=
  match m with
  | .standalone => true | .manager => true | .standby => true | .worker => true | .quarantine => true | _ => false

/-- Class 4 (Table 20.3): FENCE about itself in a fabric, every session stops and is destroyed, DEGRADED, MODE to Ready. -/
def class4 (s : State) : State :=
  let s1 := if s.fabric.joined then sendClp s 0x0A clpAll [s.fabric.member, 0, 0] else s
  let s2 := setDegraded (stopAll s1)
  if class4ToReady s2.mode then
    if s2.fabric.joined then leaveFabric s2 else setMode s2 .ready
  else { s2 with canary := { s2.canary with afterClass4 := s2.canary.afterClass4 && s2.mode != .ready } }

/-! ### Security services (Table 22.2) -/

/-- Algorithms that a service uses. -/
def serviceAlgs (n : Nat) : List Nat :=
  match n with
  | 0x2 => [5, 4] | 0x5 => [7, 5, 9] | 0x6 => [7, 8, 1] | 0x8 => [6, 5, 1] | 0xA => [5, 9] | 0xB => [9, 10]
  | 0xC => [2, 3] | 0xD => [1] | 0xE => [1, 8] | 0xF => [1, 8] | 0x10 => [4, 8]
  | _ => []

/-- Is a service unavailable (R431)? -/
def serviceOut (s : State) (n : Nat) : Bool :=
  (serviceAlgs n).any (s.sec.errorAlgs.getLsbD ·) || (n == 9 && !s.sec.vddFuse) || (n == 10 && !s.sec.identityOk)

/-- The security service that a session needs: 0xD packet, 0xE chunk protection (Table 22.2). -/
def keyService (decode : Bool) (c : Bytes) : Nat := u8 c (if decode then 0xC3 else 0x184) + 0xC

/-- Does the output or input of a session stop, because a service that it needs is in error (R447)? -/
def securityStops (s : State) (x : Session) : Bool := usesKey x && serviceOut s (keyService x.decode x.cfg)

/-- Bring AVAILABLE of every service up to date; the caller makes the Larder update. -/
def setServices (s : State) : State :=
  { s with sec := { s.sec with unavailable := ((List.range 16).map (· + 1)).filter (serviceOut s) } }

/-! ### Lost units (R404) -/

/-- Units by the number that the built-in self-tests use for them: cores, Survey engines, PPUs, cluster controllers,
Ethernet ports, pixel ports, the host channels (log entry 25). -/
def unitOf (n : Nat) : Option FenceUnit :=
  if n < 28 then some (.core n) else if n < 32 then some (.survey (n - 28)) else if n < 36 then some (.ppu (n - 32))
  else if n < 40 then some (.cluster (n - 36)) else if n < 56 then some (.ethPort (n - 40))
  else if n < 60 then some (.pixelPort (n - 56)) else if n = 60 then some .dmaHost else none

/-- Fence a unit in the state of its block, or release it. -/
def unitFence (s : State) (u : FenceUnit) (on : Bool) : State :=
  match u with
  | .core c => coreSet s c { coreGet s c with fenced := on }
  | .survey k => clSet s k { clGet s k with surveyFenced := on }
  | .ppu k => clSet s k { clGet s k with ppuFenced := on }
  | .cluster k => clSet s k { clGet s k with fenced := on }
  | .ethPort p => ethSet s p { ethGet s p with fenced := on, up := (ethGet s p).up && !on }
  | .pixelPort p => pxSet s p { pxGet s p with fenced := on, up := (pxGet s p).up && !on }
  | .dmaHost => s

/-- A unit that fails its self-test is lost: it stays fenced, and a core reads STATE 0x3. -/
def loseUnit (s : State) (u : FenceUnit) : State :=
  let s1 := unitFence s u true
  let s2 := match u with
    | .core c => coreSet s1 c { coreGet s1 c with lost := true }
    | _ => s1
  { s2 with canary := { s2.canary with
      lostUnits := if s2.canary.lostUnits.contains u then s2.canary.lostUnits else s2.canary.lostUnits ++ [u]
      fencedUnits := if s2.canary.fencedUnits.contains u then s2.canary.fencedUnits else s2.canary.fencedUnits ++ [u] } }

/-- The spare of a cluster at a Secure Boot: the most aged usable core, the highest index among equals (R488). -/
def bootSpare (s : State) (k : Nat) : Option Nat :=
  if (usableCores s k).length ≤ 1 then none
  else (usableCores s k).foldl (fun b c => match b with
    | none => some c
    | some d => if tget 0 s.foreman.agingFlash d ≤ tget 0 s.foreman.agingFlash c then some c else some d) none

/-! ### Fences (R404) -/

/-- Canary bit of a fenced unit. -/
def unitBit : FenceUnit → Nat
  | .core n => n | .survey k => 28 + k | .ppu k => 28 + k | .cluster k => 28 + k
  | .ethPort _ => 36 | .pixelPort _ => 38 | .dmaHost => 40

/-- The collector stops new work and the Foreman orders the fence (steps 1 and 2 of R404). -/
def orderFence (s : State) (u : FenceUnit) : State :=
  if s.canary.fencedUnits.contains u || s.canary.pendingFences.contains u then s
  else { s with canary := { s.canary with pendingFences := s.canary.pendingFences ++ [u] } }

/-- Is the unit fenced, or its fence ordered? -/
def fencing (s : State) (u : FenceUnit) : Bool := s.canary.fencedUnits.contains u || s.canary.pendingFences.contains u

/-- Take a port down (R404, R305): the Larder shows it; the caller makes the update. -/
def ethDown (s : State) (p : Nat) : State :=
  ethSet s p { ethGet s p with up := false, sending := none, xoff := [] }

/-- A fault in a cluster abandons a spare rotation that is under way there (R427). -/
def endRotation (s : State) (k : Nat) : State :=
  { s with foreman := { s.foreman with rotating := tdel s.foreman.rotating k } }

/-- A class 2 fault of a core stops dispatch to it and orders its fence; its uncommitted output is discarded (R45). -/
def stopCore (s : State) (c : Nat) : State :=
  orderFence (coreSet s c { coreGet s c with fault := if (coreGet s c).fault == .none then .stopped else (coreGet s c).fault }) (.core c)

/-- The collector takes a fault of a core (R400): logged only when the core is fenced; a class 1 fault of a core that takes over
work is a second fault, of class 2. -/
def coreFault (s : State) (c cls : Nat) (addr : Option Nat) : Nat × State :=
  if (coreGet s c).fenced || (coreGet s c).lost then (0, logFault s c cls addr)
  else
    let (k, s1) := collect (if cls = 0 then s else endRotation s (c / 7)) c 0 (if cls = 1 && (coreGet s c).redoing then 2 else cls) addr
    (k, if 2 ≤ k then stopCore s1 c else s1)

end Sys2Proof.Machine
end

