-- ==== Sys2Proof/WellFormed.lean ====
section
/-! DEFINITION. Which commands name units that the part has: cores, clusters, ports, functions, channels,
pseudo-channels, stacks and device addresses (R2, R263, Tables 10.3 and 11.3). -/

namespace Sys2Proof

/-- The units of the part. -/
def isCore (n : Nat) : Bool := n < 28
def isCluster (n : Nat) : Bool := n < 4
def isEth (n : Nat) : Bool := n < 16
def isPixel (n : Nat) : Bool := n < 4
def isFn (n : Nat) : Bool := n < 64
def isDma (n : Nat) : Bool := n < 16
def isPc (n : Nat) : Bool := n < 64
def isStack (n : Nat) : Bool := n < 2
def isVector (n : Nat) : Bool := n < 2048
def isPort (n : Nat) : Bool := n < 50
def isPool (n : Nat) : Bool := n < 8
def isEngine (n : Nat) : Bool := n < 7
def isEgress (n : Nat) : Bool := n < 46
def isSubPort (n : Nat) : Bool := 16 ≤ n && n ≤ 45
def isFlow (n : Nat) : Bool := n ≤ 16383
def isQueue (n : Nat) : Bool := n < 4096
def isSensor (n : Nat) : Bool := n < 64
/-- The scrubbed arrays: cluster reference storage and core buffers are one per unit (R282). -/
def isArray (array index : Nat) : Bool := array < 5 && (array != 0 || isCluster index) && (array != 1 || isCore index)
def isAddr (a n : Nat) : Bool := a + n ≤ Config.hbmBytes

/-- An error port that exists. -/
def isSrc : FaultSrc → Bool
  | .core n => isCore n | .cluster n => isCluster n | .hbm n => isStack n | .port n => isEth n
  | .pixel n => isPixel n | .dma n => n < 32
  | _ => true

/-- A unit that a fence can name. -/
def isUnit : FenceUnit → Bool
  | .core n => isCore n | .survey n => isCluster n | .ppu n => isCluster n | .cluster n => isCluster n
  | .ethPort n => isEth n | .pixelPort n => isPixel n | .dmaHost => true

/-- A host register that exists: channel registers name one of the 16 host channels, MSI-X masks a vector. -/
def isReg : HostReg → Bool
  | .dmaStatus ch => isDma ch | .dmaIrq ch => isDma ch | .dmaReadOnly ch _ => isDma ch
  | .msixMask v => isVector v
  | _ => true

/-- Does a command name units that the part has?  The manual gives no other command a check of its operands. -/
def Instr.wf : Instr → Bool
  | .identify _ => true
  | .setMode _ => true
  | .configureEvents _ => true
  | .createQp _ => true
  | .deleteQp _ => true
  | .reset _ => true
  | .setPowerState _ => true
  | .getLog _ => true
  | .getTelemetry _ => true
  | .abort _ => true
  | .setFunctionResources _ => true
  | .createSession _ _ => true
  | .startSession _ => true
  | .reconfigureSession _ _ => true
  | .stopSession _ => true
  | .destroySession _ => true
  | .querySession _ => true
  | .setSessionRings _ => true
  | .forceRefresh _ => true
  | .submitPicture _ => true
  | .submitBitstream _ _ => true
  | .returnBuffer _ => true
  | .flush _ => true
  | .setPort _ _ => true
  | .setMacsec _ => true
  | .setPtp _ _ => true
  | .queryPtp _ => true
  | .setMeter _ => true
  | .setFlow _ _ => true
  | .setQueue _ => true
  | .setSubscriber _ => true
  | .setClasses _ => true
  | .setGcl _ _ => true
  | .tableInsert _ _ => true
  | .tableDelete _ _ => true
  | .tableRead _ => true
  | .tableFlush _ => true
  | .routeAdd _ => true
  | .routeDelete _ => true
  | .setNextHop _ => true
  | .setLearn _ => true
  | .setGroup _ _ => true
  | .queryTables _ => true
  | .setPools _ _ => true
  | .queryPools _ => true
  | .setCapture _ => true
  | .setMirrorRule _ => true
  | .setDropProfile _ _ => true
  | .fabricCreate _ => true
  | .fabricJoin _ => true
  | .fabricLeave _ => true
  | .fabricQuery _ => true
  | .fabricDrain _ => true
  | .fabricSetStandby _ => true
  | .fabricSetVersion _ => true
  | .secQuery _ => true
  | .secAuthChallenge _ => true
  | .secAuthResponse _ _ => true
  | .secLogout _ => true
  | .secKemKeygen _ => true
  | .secKeyImport _ _ => true
  | .secKeyDelete _ => true
  | .secKeyQuery _ => true
  | .secZeroize _ => true
  | .secSelfTest _ _ => true
  | .secAttest _ _ => true
  | .secRandom _ => true
  | .secDigest _ _ => true
  | .secLifecycle _ _ => true
  | .updateOpen _ => true
  | .updateWrite _ _ => true
  | .updateVerify _ => true
  | .updateActivate _ => true
  | .updateCommit _ => true
  | .updateAbort _ => true
  | .updateStatus _ => true
  | .setPlatformConfig _ _ => true
  | .setChannelOwner _ => true
  | .queryChannels _ => true
  | .sqTailWrite fn _ _ => isFn fn
  | .cqHeadWrite fn _ _ => isFn fn
  | .commandFetch fn _ _ _ => isFn fn
  | .commandTimeout _ _ => true
  | .coalesceTimer fn _ _ => isFn fn
  | .mbEnable fn => isFn fn
  | .mbDisable fn => isFn fn
  | .intrMaskWrite fn _ => isFn fn
  | .registerWrite fn reg _ => isFn fn && isReg reg
  | .bar2Access fn _ _ => isFn fn
  | .dmaArm ch _ => isDma ch
  | .dmaDisable ch _ _ _ => isDma ch
  | .dmaClearHalt ch _ => isDma ch
  | .dmaShadowWrite ch _ _ _ => isDma ch
  | .dmaBurstIssue ch _ => isDma ch
  | .dmaBeatReturn ch _ _ _ => isDma ch
  | .dmaBeatError ch _ _ => isDma ch
  | .coldReset _ => true
  | .warmReset _ _ => true
  | .hostInterfaceReset _ => true
  | .flr fn => isFn fn
  | .vfEnableClear => true
  | .busMasterEnableSet fn => isFn fn
  | .powerRemoved => true
  | .secureBoot _ => true
  | .larderUpdate => true
  | .bankedEntry _ => true
  | .bankedExit _ => true
  | .hbmSelfRefreshTimer stack _ => isStack stack
  | .dormantWake _ _ _ => true
  | .coreSleep c => isCore c
  | .keepWarmWake c _ => isCore c
  | .coreWakeComplete c _ => isCore c
  | .clusterPllOff cluster => isCluster cluster
  | .avsStep _ _ _ => true
  | .avsRetry _ _ _ => true
  | .vddCoreWarn _ _ => true
  | .vddCoreRecover _ _ => true
  | .stretch2ms _ => true
  | .vddCoreResetThreshold _ _ => true
  | .railUndervoltage _ _ => true
  | .thermalWarn _ => true
  | .thermalThrottle _ => true
  | .throttleRelease _ _ => true
  | .thermtrip _ => true
  | .tamperDetect _ => true
  | .refclkLoss _ _ => true
  | .wakeOscTrim _ => true
  | .fwHeartbeat _ => true
  | .watchdogTimeout _ => true
  | .lockstepMismatch _ => true
  | .errorPortEvent src _ _ _ => isSrc src
  | .fenceEffect u _ => isUnit u
  | .faultNRelease _ => true
  | .bistComplete _ _ => true
  | .patchParityError core _ => isCore core
  | .coreBistReloadDone core _ _ => isCore core
  | .spareTakeover core _ => isCore core
  | .coreRestart core _ _ => isCore core
  | .bandDispatch _ _ _ _ _ => true
  | .bandStart core _ => isCore core
  | .cuStart core engine _ => isCore core && isEngine engine
  | .cuMeasure core _ => isCore core
  | .rowCommit core _ _ _ => isCore core
  | .surveyRowStart cluster _ _ _ _ => isCluster cluster
  | .ppuBand k _ _ => isCluster k
  | .packetRelease _ _ => true
  | .bandReleaseTime _ _ _ _ => true
  | .tsPsiTimer _ _ => true
  | .inputGapTimeout _ _ => true
  | .decodeUnitStart u => isCore u.core
  | .decodeRowCommit core _ _ _ _ => isCore core
  | .decodePictureEnd _ _ _ _ _ _ => true
  | .reorderTimeout _ _ => true
  | .rtpPacketRx _ => true
  | .decodeOutputStart _ _ _ => true
  | .pxTxLine port _ _ => isPixel port
  | .pxLinkUp port _ => isPixel port
  | .pxLinkDown port _ => isPixel port
  | .frameStart p => isPixel p.port
  | .line p => isPixel p.port
  | .frameEnd p => isPixel p.port
  | .metadata p => isPixel p.port
  | .pxFifoRead port => isPixel port
  | .ethFrameHead h => isEth h.port
  | .ethFrameEnd port _ _ _ _ => isEth port
  | .portPacketIn p => isSubPort p.port
  | .pantryRetry port _ => isEgress port
  | .poolCacheRefill pool => isPool pool
  | .egressSelect port _ _ => isEgress port
  | .copyDone port _ _ _ _ => isEgress port
  | .queueAvgDecay queue _ => isQueue queue
  | .gclBoundary port _ => isEth port
  | .pfcXoffRx port _ _ _ => isEth port
  | .pfcXoffExpire port _ _ => isEth port
  | .mergeLostTimeout flow _ => isFlow flow
  | .mergeLegDown flow _ _ => isFlow flow
  | .learn port _ _ _ => isEth port
  | .refresh port _ _ _ => isEth port
  | .move port _ _ _ => isEth port
  | .agingSweep _ => true
  | .flapClear port _ => isEth port
  | .ptpMessageRx m => isEth m.port
  | .ptpMessageTimer port _ _ => isEth port
  | .announceTimeout _ => true
  | .ppsInEdge _ => true
  | .ppsOut _ => true
  | .hello _ _ _ _ _ _ => true
  | .helloTimer _ => true
  | .joinReq _ _ _ _ _ _ _ _ _ => true
  | .joinAck _ _ _ _ _ _ => true
  | .joinRetry _ => true
  | .headlessRejoin _ => true
  | .leaseRenew _ _ _ _ _ => true
  | .leaseRenewTimer _ => true
  | .leaseExpiry _ => true
  | .memberLost _ _ => true
  | .managerTakeover _ => true
  | .assign _ _ _ _ _ _ => true
  | .ledger _ _ _ _ _ _ => true
  | .ledgerDigestTimer _ => true
  | .stats _ _ _ _ _ => true
  | .statsRequest _ _ _ _ => true
  | .statsTimeout _ _ _ _ => true
  | .commit _ _ _ _ _ => true
  | .seamCheck _ _ _ _ _ _ => true
  | .fence _ _ _ _ => true
  | .promote _ _ _ _ _ _ => true
  | .epochAdvance _ _ _ _ _ _ => true
  | .epochHoldTimeout _ _ => true
  | .timeCheck _ _ _ _ _ => true
  | .timeCheckTimer _ => true
  | .timeQualified _ => true
  | .unqualHoldExpiry _ _ => true
  | .clpRetransmit _ _ _ => true
  | .sliceTransfer _ _ => true
  | .sliceResendTimer _ _ _ _ => true
  | .haloStrip _ _ _ _ _ => true
  | .haloResendTimer _ _ _ _ => true
  | .seamStrip _ _ _ _ _ => true
  | .refereeResult _ _ _ _ _ _ => true
  | .selfTestPeriodic _ _ _ => true
  | .entropyHealthFail _ => true
  | .drbgReseed _ => true
  | .nonceExpiry fn _ => isFn fn
  | .authLockoutEnd fn _ => isFn fn
  | .roleExpiry fn _ => isFn fn
  | .decapKeyExpiry _ => true
  | .telemetrySweep _ _ => true
  | .sensorTrim sensor _ => isSensor sensor
  | .agingWrite _ _ => true
  | .rotationCheck _ => true
  | .autoCommit _ => true
  | .flashLogWrite _ _ => true
  | .mctpSetEndpointId _ _ => true
  | .mctpGetEndpointId => true
  | .mctpGetVersionSupport _ => true
  | .mctpGetMessageTypeSupport => true
  | .requestUpdate _ => true
  | .transferComplete _ _ => true
  | .activateFirmware _ _ => true
  | .hbmRequest q => isAddr q.addr (max 1 q.data.length)
  | .hbmReadReturn addr _ _ _ => isAddr addr 1
  | .bulkPromotion pc _ => isPc pc
  | .pageCloseTimeout pc _ _ => isPc pc
  | .hbmRefresh pc _ _ => isPc pc
  | .hbmTempRead stack _ _ => isStack stack
  | .actWindowEnd pc _ => isPc pc
  | .patrolScrub addr _ _ => isAddr addr 1
  | .retrainStart pc _ _ => isPc pc
  | .retrainDone pc _ _ => isPc pc
  | .sramScrub array index _ _ _ => isArray array index
  | .tapUpdateIr _ _ _ => true
  | .tapReset => true
  | .ethLinkUp port _ => isEth port
  | .ethLinkDown port _ => isEth port
  | .clpAckReceived _ _ _ _ _ => true
  | .refereeTimeout _ _ _ _ => true
  | .vddFuseChange _ _ => true
  | .avsSettled _ _ => true
  | .msixVectorUnmask fn _ => isFn fn

end Sys2Proof
end

