-- ==== Sys2Proof/Machine/Mailbox.lean ====
section
/-! DEFINITION. The mailbox (chapter 11 of the manual): doorbells, fetching, judging and starting commands, the Host
Control Block, MSI-X and BAR2. -/

namespace Sys2Proof.Machine

/-! ### Opcodes (R232, Tables 11.11 and 12.3) -/

/-- Opcodes that a chapter defines. -/
def opDefined (op : Nat) : Bool :=
  inRange op 0x01 0x0B || inRange op 0x20 0x27 || inRange op 0x40 0x43 || inRange op 0x50 0x68
  || inRange op 0x70 0x76 || inRange op 0x80 0x8D || inRange op 0x90 0x97 || inRange op 0xA0 0xA1

/-- Families that the admin queue pair takes; every other opcode belongs to I/O pairs (R223). -/
def opAdmin (op : Nat) : Bool := op < 0x20 || 0x70 ≤ op

/-- Families and commands that only the PF may issue. -/
def opPfOnly (op : Nat) : Bool :=
  op == 0x02 || op == 0x06 || op == 0x07 || op == 0x0B
  || (0x50 ≤ op && !([0x80, 0x81, 0x82, 0x83, 0x87, 0x8A, 0x8B, 0x8C].contains op))

/-- Modes of a command (Table 12.3). -/
def modeAllows (m : OpMode) (op : Nat) (e : Bytes) : Bool :=
  if op = 0x02 then m == .ready || m == .standalone || m == .maintenance
  else if op = 0x07 then m == .ready || (isService m && u8 e 24 != 3)
  else if op < 0x20 then readyIn m
  else if op < 0x50 then m == .standalone || m == .manager
  else if op < 0x70 then m == .ready || isService m || m == .quarantine
  else if op < 0x80 then m == .ready || isService m || m == .quarantine
  else if op < 0x90 then readyIn m
  else if op < 0xA0 then readyIn m && m != .provisioning
  else if op < 0xB0 then readyIn m
  else m == .maintenance

/-- NOT_PERMITTED carries the MODE code (Table 11.12). -/
def notPermitted (s : State) : Reply := ⟨stNotPermitted, 0, modeCode s.mode⟩

/-- The checks made of a fetched entry (R223, R230, R232): a CID in flight, the opcode, the queue pair, the function. -/
def fetchCheck (s : State) (q : QueuePair) (e : Bytes) : Option Reply :=
  let op := cmdOpcode e
  if q.flight.any (fun i => i.cid = cmdCid e && i.reply.isNone) then some (badField 2)
  else if 0xF0 ≤ op then
    if q.qid != 0 then some (failWith stInvalidOpcode)
    else if q.fn != 0 || s.sec.otp.lifecycle == .deployed || s.mode != .maintenance then some (notPermitted s)
    else some (failWith stInvalidOpcode)
  else if !opDefined op || (opAdmin op != (q.qid == 0)) then some (failWith stInvalidOpcode)
  else if q.fn != 0 && opPfOnly op then some (notPermitted s)
  else none

/-- What a command is judged against when it starts, before its own rules (R229, R230, R247, R250, R414): the boot ROM's
commands, the mode, the epoch, the common fields of the entry. -/
def startCheck (s : State) (fn : Nat) (e : Bytes) : Option Reply :=
  let op := cmdOpcode e
  if s.foreman.bootRom && !(op == 0x01 || (op == 0x08 && u8 e 24 == 1)) then some (notPermitted s)
  else if !modeAllows s.mode op e then some (notPermitted s)
  else if cmdEpoch e != 0 && cmdEpoch e != curEpoch s then some ⟨stEpochMismatch, 0, curEpoch s⟩
  else match firstFail [(decide (cmdDataPtr e % 64 = 0), 8),
      (!cmdInHbm e || decide (cmdDataPtr e + cmdDataLen e ≤ grantBytes s fn), 8), (decide (cmdDataLen e ≤ maxDataLen), 0x10)] with
    | some off => some (badField off)
    | none => none

/-- Commands that read a data buffer. -/
def opReads (op : Nat) : Bool :=
  [0x20, 0x22, 0x40, 0x41, 0x50, 0x52, 0x55, 0x58, 0x59, 0x60, 0x64, 0x65, 0x68, 0x82, 0x85, 0x8A, 0x8C, 0x8D, 0x91,
   0x97].contains op

/-- Does an HBM data buffer lie in an uncorrectable block (R273)?  Device firmware then cannot run the command. -/
def dataBad (s : State) (fn : Nat) (e : Bytes) : Bool :=
  cmdInHbm e && opReads (cmdOpcode e) && readsBad s.hbm (grantAddr s fn (cmdDataPtr e)) (cmdDataLen e)

/-- May a fetched command start: every earlier command of its SQ has started, and with FENCE none is left (R227). -/
def mayStart (q : QueuePair) (i : InFlight) : Bool :=
  !i.started && i.reply.isNone && q.deleting.isNone
  && q.flight.all (fun j => !(j.order < i.order) || j.started || j.reply.isSome)
  && (!cmdFence i.entry || q.flight.all (fun j => !(j.order < i.order)))

/-- The command of a reference that may start now with this opcode, on a device that serves its mailbox. -/
def startOf (s : State) (r : CmdRef) (op : Nat) : Option InFlight :=
  if asleep s || !s.ready then none
  else match qpGet s r.fn r.qid, inFlight s r with
    | some q, some i => if mayStart q i && cmdOpcode i.entry == op then some i else none
    | _, _ => none

/-- Mark a command as started (R227). -/
def markStarted (s : State) (r : CmdRef) : State :=
  editFlight s r (fun i => { i with started := true, startTime := s.now })

/-- Start the command of a reference: nothing when it may not start now; its completion when a check refuses it;
otherwise its own effect `k`. -/
def serve (s : State) (r : CmdRef) (op : Nat) (chk : State → Bytes → Option Reply) (k : State → Bytes → State) : Result :=
  match startOf s r op with
  | none => .next s
  | some i =>
    let s1 := markStarted s r
    match startCheck s1 r.fn i.entry with
    | some a => .next (finish s1 r a)
    | none =>
      if dataBad s1 r.fn i.entry then
        .next (finish (uncorrectable s1 (grantAddr s1 r.fn (cmdDataPtr i.entry))) r ⟨stInternalError, 0, s1.foreman.logIndex % 2 ^ 32⟩)
      else match chk s1 i.entry with
      | some a => .next (finish s1 r a)
      | none => .next (k s1 i.entry)

/-- No check of the command's own. -/
def noCheck (_ : State) (_ : Bytes) : Option Reply := none

/-- INVALID_FIELD at the lowest failing offset of the entry (R231). -/
def fieldCheck (l : List (Bool × Nat)) : Option Reply :=
  match firstFail l with
  | some off => some (badField off)
  | none => none

/-- INVALID_FIELD at the lowest failing offset of the data buffer (R231). -/
def dataCheck (l : List (Bool × Nat)) : Option Reply :=
  match firstFail l with
  | some off => some (badData off)
  | none => none

/-- The first refusal of two checks. -/
def orElse (a b : Option Reply) : Option Reply :=
  match a with
  | some x => some x
  | none => b

/-- Complete with SUCCESS. -/
def succeed (s : State) (r : CmdRef) (result : Nat) : State := finish s r (ok result)

/-- Complete a command that changed a network, table, traffic or fabric configuration: the epoch counter advances (R230). -/
def configured (s : State) (r : CmdRef) (result : Nat) : State := succeed (bumpEpoch s) r result

/-- A command that needs a role (R432): without it NOT_PERMITTED, DETAIL 1. -/
def holds (s : State) (fn : Nat) (officer : Bool) : Bool :=
  match (fnGet s fn).auth.role with
  | .none => false
  | .user => !officer
  | .cryptoOfficer => true
def roleCheck (s : State) (fn : Nat) (officer : Bool) : Option Reply :=
  if holds s fn officer then none else some (failDetail stNotPermitted 1)

/-- A command of an unavailable service completes with SECURITY_STATE (R431). -/
def serviceCheck (s : State) (n : Nat) : Option Reply :=
  if s.sec.unavailable.contains n then some (failWith stSecurityState) else none

/-- A command that needs a fenced or lost block completes with DEGRADED and the block's Canary bit (R405). -/
def fenceCheck (s : State) (u : FenceUnit) : Option Reply :=
  if fencing s u then some ⟨stDegraded, 0, unitBit u⟩ else none

/-- SUCCESS of a service of the security island carries DETAIL bit 7 (R429). -/
def approved : Nat := 128
def approve (s : State) (r : CmdRef) (result : Nat) : State := finish s r ⟨stSuccess, approved, result⟩

/-! ### Deleting queue pairs (R237, R262) -/

/-- CIDs of started commands of a pair whose buffers the H9 has not begun to use: unread pictures and unfilled output
buffers (R262). -/
def unusedCids (s : State) (fn qid : Nat) : List Nat :=
  (sessList s).flatMap fun x =>
    if x.fn = fn then
      (x.enc.submitted.filter (fun p => p.qid = qid && !p.read)).map (·.cid)
      ++ (x.enc.buffers.filter (fun b => b.qid = qid && b.filled.isEmpty)).map (·.cid)
      ++ (x.dec.buffers.filter (fun b => b.qid = qid && b.filled.isEmpty)).map (·.cid)
    else []

/-- Forget the unread pictures and the unfilled buffers that a pair's commands named: a forgotten picture's frame number
is again the session's next (R262). -/
def forgetUnused (s : State) (fn qid : Nat) : State :=
  { s with sessions := tmap (fun x =>
      if x.fn = fn then
        let lost := x.enc.submitted.filter (fun p => p.qid = qid && !p.read)
        { x with
          enc := { x.enc with submitted := x.enc.submitted.filter (fun p => !(p.qid = qid && !p.read)),
                              nextSubmit := lost.foldl (fun n p => min n p.frame) x.enc.nextSubmit,
                              buffers := x.enc.buffers.filter (fun b => !(b.qid = qid && b.filled.isEmpty)) },
          dec := { x.dec with buffers := x.dec.buffers.filter (fun b => !(b.qid = qid && b.filled.isEmpty)) } }
      else x) s.sessions }

/-- Delete a pair by the rule of DELETE_QP: `d` is the command that waits for it, if there is one. -/
def deletePair (s : State) (q : QueuePair) (d : Option CmdRef) : State :=
  let unused := unusedCids s q.fn q.qid
  let stays (i : InFlight) : Bool := i.started && i.reply.isNone && !unused.contains i.cid
  let q1 := { q with flight := q.flight.filter stays,
                     aborted := (q.flight.filter (fun i => i.reply.isNone && !stays i)).length,
                     deleting := some (d.getD ⟨q.fn, 64, 0⟩) }
  postReady 130 (qpPut (forgetUnused s q.fn q.qid) q1) q.fn q.qid

/-- The pairs of a function. -/
def fnPairs (s : State) (fn : Nat) : List QueuePair := (s.qps.map (·.2)).filter (fun q => q.fn = fn)

/-- Delete a function's pairs at once and without completions (R243, R244). -/
def cutPairs (s : State) (fn : Nat) : State :=
  { s with qps := s.qps.filter (fun p => p.2.fn ≠ fn) }

/-- A new queue pair (R223). -/
def QueuePair.make (fn qid depth vector count us sq cq : Nat) : QueuePair :=
  { fn := fn, qid := qid, depth := depth, vector := vector, coalCount := count, coalUs := us, sqBase := sq,
    cqBase := cq, sqTail := 0, sqHead := 0, cqTail := 0, cqHead := 0, posted := 0, phase := true, unannounced := 0,
    oldestAt := 0, fetchCount := 0, deleting := none, aborted := 0, flight := [] }

/-! ### Doorbells -/

/-- A bad doorbell is ignored and posts DOORBELL_ERROR (R224). -/
def doorbellError (s : State) (fn : Nat) : State := logFor s fn 0x0301 7 0xFF none none

/-- SQ_TAIL_WRITE (R224). -/
def execSqTailWrite (fn qid : Nat) (value : BitVec 32) (s : State) : Result :=
  withUnit (isFn fn) (act s (!asleep s && fnExists s fn)
    (match qpGet s fn qid with
      | some q => if value.toNat % 128 < q.depth then qpPut s { q with sqTail := value.toNat % 128 } else doorbellError s fn
      | none => doorbellError s fn))

/-- Completions that a CQ_HEAD value releases. -/
def released (q : QueuePair) (head : Nat) : Nat := min q.posted ((head + q.depth - q.cqHead) % q.depth)

/-- CQ_HEAD_WRITE (R224, R225). -/
def execCqHeadWrite (fn qid : Nat) (value : BitVec 32) (s : State) : Result :=
  withUnit (isFn fn) (act s (!asleep s && fnExists s fn)
    (match qpGet s fn qid with
      | some q =>
        if value.toNat % 128 < q.depth then
          qpPut s { q with cqHead := value.toNat % 128, posted := q.posted - released q (value.toNat % 128) }
        else doorbellError s fn
      | none => doorbellError s fn))

/-! ### Fetching (R225, R227) -/

/-- Has the pair an entry to fetch and room for its completion? -/
def fetchable (s : State) (q : QueuePair) : Bool :=
  (fnGet s q.fn).mbEnable && q.deleting.isNone && q.sqHead != q.sqTail && decide (q.flight.length + q.posted < q.depth)

/-- Keys of the pairs with fetchable entries. -/
def fetchKeys (s : State) : List Nat := (s.qps.filter (fun p => fetchable s p.2)).map (·.1)

/-- The keys that this round of the round robin has left; an exhausted round starts anew. -/
def roundLeft (s : State) : List Nat :=
  let l := (fetchKeys s).filter (fun k => !s.round.contains k)
  if l.isEmpty then fetchKeys s else l

/-- Is it the pair's turn: QID 0 of every function comes first in each round. -/
def fetchTurn (s : State) (key : Nat) : Bool :=
  (roundLeft s).contains key && (key % 64 == 0 || (roundLeft s).all (fun k => k % 64 != 0))

/-- Take the entry at SQ_HEAD into flight; a refused entry gets its completion at once. -/
def fetchEntry (s : State) (q : QueuePair) (e : Bytes) : State :=
  let i : InFlight := { cid := cmdCid e, entry := e, order := q.fetchCount, started := false, startTime := 0,
                        fetched := s.now, reply := fetchCheck s q e }
  let q1 := { q with sqHead := (q.sqHead + 1) % q.depth, fetchCount := q.fetchCount + 1, flight := q.flight ++ [i] }
  let key := qpKey q.fn q.qid
  let done := if (fetchKeys s).all (fun k => s.round.contains k) then [key] else key :: s.round
  postReady 130 (qpPut { s with round := done } q1) q.fn q.qid

/-- COMMAND_FETCH (R225 to R232): `entry` is the 64-byte SQ entry that the fetch reads. -/
def execCommandFetch (fn qid : Nat) (entry : Bytes) (t : Nat) (s : State) : Result :=
  withUnit (isFn fn) (act s (!asleep s && s.ready && fetchTurn s (qpKey fn qid))
    (match qpGet s fn qid with
      | some q => fetchEntry (atTime s t) q ((padTo 64 entry).take 64)
      | none => s))

/-- The commands that R234 gives no time bound. -/
def noBound (op : Nat) : Bool :=
  inRange op 0x40 0x43 || op == 0x05 || op == 0x23 || op == 0x71 || op == 0x74

/-- COMMAND_TIMEOUT (R234): 1 s has passed and the command has made no change (log entry 24). -/
def execCommandTimeout (r : CmdRef) (t : Nat) (s : State) : Result :=
  act s (!asleep s && s.ready)
    (match inFlight s r with
      | some i =>
        if !noBound (cmdOpcode i.entry) && decide (i.fetched + 1000000000 ≤ t) then
          finish (atTime s t) r (failWith stTimeout)
        else s
      | none => s)

/-- COALESCE_TIMER (R228): COALESCE_US after the oldest unannounced completion. -/
def execCoalesceTimer (fn qid : Nat) (t : Nat) (s : State) : Result :=
  withUnit (isFn fn) (act s (!asleep s)
    (match qpGet s fn qid with
      | some q =>
        if q.unannounced != 0 && decide (q.oldestAt + q.coalUs * 1000 ≤ t) then
          sendMsix (qpPut (atTime s t) { q with unannounced := 0 }) fn q.vector
        else s
      | none => s))

/-! ### Host Control Block (R220 to R222) -/

/-- The three conditions of R222. -/
def adminGood (f : FnState) : Bool :=
  inRange f.adminDepth 2 64 && f.adminSqBase % 4096 == 0 && f.adminCqBase % 4096 == 0 && decide (1 ≤ f.qpGrant)

/-- Bring a function's mailbox up, or refuse (R222). -/
def enableMailbox (s : State) (fn : Nat) : State :=
  let f := fnGet s fn
  if adminGood f then
    qpPut (fnSet s fn { f with mbEnable := true, mbEnabled := true, adminError := false })
      (QueuePair.make fn 0 f.adminDepth 0 0 0 f.adminSqBase f.adminCqBase)
  else fnSet s fn { f with mbEnable := false, adminError := true }

/-- MB_ENABLE (R222): a 0-to-1 write while READY is 0 is ignored. -/
def execMbEnable (fn : Nat) (s : State) : Result :=
  withUnit (isFn fn) (act s (!asleep s && s.ready && fnExists s fn && !(fnGet s fn).mbEnable && !(fnGet s fn).mbEnabled)
    (enableMailbox s fn))

/-- MB_DISABLE (R222): every pair of the function is deleted under the rule of DELETE_QP; the last one gone clears
MB_ENABLED. -/
def execMbDisable (fn : Nat) (s : State) : Result :=
  withUnit (isFn fn) (act s (!asleep s && fnExists s fn && (fnGet s fn).mbEnable)
    ((fnPairs s fn).foldl (fun s q => match qpGet s q.fn q.qid with
        | some q1 => deletePair s q1 none
        | none => s) (fnSet s fn { fnGet s fn with mbEnable := false })))

/-- INTR_MASK_WRITE (R221): a cleared mask bit whose cause bit is 1 sends vector 0. -/
def execIntrMaskWrite (fn : Nat) (value : BitVec 32) (s : State) : Result :=
  withUnit (isFn fn) (act s (!asleep s && fnExists s fn)
    (let f := fnGet s fn
     let m := value &&& 0x1FF
     let s1 := fnSet s fn { f with intrMask := m }
     if f.intrCause &&& f.intrMask &&& ~~~m = 0 then s1 else sendMsix s1 fn 0))

/-- Unmask a vector: a pending message is sent (R242). -/
def unmaskVector (s : State) (fn v : Nat) : State :=
  let f := fnGet s fn
  let s1 := fnSet s fn { f with vecMasked := f.vecMasked.filter (· ≠ v), vecPending := f.vecPending.filter (· ≠ v) }
  if f.vecPending.contains v then emit s1 (.msix fn v) else s1

/-- Mask a vector. -/
def maskVector (s : State) (fn v : Nat) : State :=
  let f := fnGet s fn
  if f.vecMasked.contains v then s else fnSet s fn { f with vecMasked := v :: f.vecMasked }

/-- A host DMA channel. -/
def dmaGet (s : State) (ch : Nat) : DmaChannel := tget DmaChannel.atReset s.dma ch
def dmaSet (s : State) (ch : Nat) (c : DmaChannel) : State := { s with dma := tset s.dma ch c }

/-- The effect of a register write by its access type (R8, Tables 11.4, 11.6, 14.2 and 14.4): read-only and reserved
registers ignore it, RW1C bits written as 1 clear, and a channel's registers answer to its owner only. -/
def writeReg (s : State) (fn : Nat) (reg : HostReg) (value : BitVec 64) : State :=
  let f := fnGet s fn
  match reg with
  | .intrCause => fnSet s fn { f with intrCause := f.intrCause &&& ~~~(value.truncate 32) }
  | .adminDepth => if f.mbEnabled then s else fnSet s fn { f with adminDepth := value.toNat % 128 }
  | .adminSqBase => if f.mbEnabled then s else fnSet s fn { f with adminSqBase := value.toNat }
  | .adminCqBase => if f.mbEnabled then s else fnSet s fn { f with adminCqBase := value.toNat }
  | .dmaStatus ch =>
    let c := dmaGet s ch
    if c.owner = fn then
      dmaSet s ch { c with shadowLate := c.shadowLate && !value.getLsbD 4, done := c.done && !value.getLsbD 5,
                           error := c.error && !value.getLsbD 6, mismatch := c.mismatch && !value.getLsbD 7 }
    else s
  | .dmaIrq ch =>
    let c := dmaGet s ch
    let d := value.toNat % 256
    let e := value.toNat / 256 % 256
    if c.owner = fn && decide (d < vectors fn) && decide (e < vectors fn) then dmaSet s ch { c with doneVec := d, errVec := e }
    else s
  | .msixMask v => if value.getLsbD 0 then maskVector s fn v else unmaskVector s fn v
  | .deviceStatus => s
  | .canaryStatus => s
  | .canaryClassMax => s
  | .fwHeartbeat => s
  | .larderGen => s
  | .hostCtrlRsvd => s
  | .larder _ => s
  | .unoccupied _ => s
  | .dmaReadOnly _ _ => s

/-- REGISTER_WRITE (R8, R204, R217, R220). -/
def execRegisterWrite (fn : Nat) (reg : HostReg) (value : BitVec 64) (s : State) : Result :=
  withUnit (isFn fn && isReg reg) (act s (!asleep s && fnExists s fn) (writeReg s fn reg value))

/-- MSIX_VECTOR_UNMASK (R242). -/
def execMsixVectorUnmask (fn vector : Nat) (s : State) : Result :=
  withUnit (isFn fn) (act s (!asleep s && fnExists s fn && decide (vector < vectors fn)) (unmaskVector s fn vector))

/-! ### BAR2 (R218) -/

/-- Bytes of an access that lie inside the grant. -/
def insideGrant (s : State) (fn off len : Nat) : Nat := min len (grantBytes s fn - off)

/-- Count an access beyond the grant. -/
def countOob (s : State) (fn off len : Nat) : State :=
  if off + len ≤ grantBytes s fn then s else fnSet s fn { fnGet s fn with hostOob := (fnGet s fn).hostOob + 1 }

/-- A BAR2 read: bytes beyond the grant read as zero; an uncorrectable block answers with poisoned data (Table 13.2). -/
def bar2Read (s : State) (fn off len : Nat) : State :=
  let n := insideGrant s fn off len
  let s1 := countOob s fn off len
  match hbmRead s1 (grantAddr s1 fn off) n with
  | some d => emit s1 (.readData fn (padTo len d) false)
  | none => emit (uncorrectable s1 (grantAddr s1 fn off)) (.readData fn (zeros len) true)

/-- A BAR2 write: bytes beyond the grant are discarded. -/
def bar2Write (s : State) (fn off : Nat) (data : Bytes) : State :=
  hbmWrite (countOob s fn off data.length) (grantAddr s fn off) (data.take (insideGrant s fn off data.length))

/-- BAR2_ACCESS (R218); in Dormant and Lockdown reads answer zero and writes are discarded (R409, R460). -/
def execBar2Access (fn offset : Nat) (op : Bar2Op) (s : State) : Result :=
  withUnit (isFn fn) (match op with
    | .read len =>
      if s.mode == .off then .next s
      else if asleep s then act s (fnExists s fn) (emit s (.readData fn (zeros len) false))
      else act s (fnExists s fn) (bar2Read s fn offset len)
    | .write data => act s (!asleep s && fnExists s fn) (bar2Write s fn offset data))

end Sys2Proof.Machine
end

