-- ==== Sys2Proof/Machine/Dma.lean ====
section
/-! DEFINITION. The host DMA channels (chapter 14 of the manual): active and shadow sets, beats, halts, DISABLE, and the
ownership of channels.  `cycle` is the fabric-clock cycle of a command. -/

namespace Sys2Proof.Machine

/-! ### Fields of a set (Table 14.5) -/

def cfgMode (c : BitVec 32) : Nat := c.toNat % 4
def cfgSrcHbm (c : BitVec 32) : Bool := c.getLsbD 2
def cfgDstHbm (c : BitVec 32) : Bool := c.getLsbD 3
def cfgIrqDone (c : BitVec 32) : Bool := c.getLsbD 5
def cfgRate (c : BitVec 32) : Nat := c.toNat / 256 % 256
/-- A RSVD bit of SH_CFG is set. -/
def cfgRsvd (c : BitVec 32) : Bool := c &&& 0xFFFF00C0 != 0

/-- The channel's clock: the latest cycle that a command named. -/
def atCycle (s : State) (cycle : Nat) : State := { s with dmaCycle := max s.dmaCycle cycle }

/-! ### Halts (R292 to R295) -/

/-- REASON codes of Table 14.6. -/
def beatReason : BeatFail → Nat
  | .unsupported => 1 | .timeout => 2 | .poisoned => 3 | .hbmUncorrectable => 4 | .outsideGrant => 5

/-- Enter HALTED_ERROR: latch address and information, set ERROR, send ERR_VEC (R292, R293). -/
def dmaHalt (s : State) (ch : Nat) (addr : Nat) (write inHbm last : Bool) (reason : Nat) : State :=
  let c := dmaGet s ch
  let info := (if write then 1 else 0) + (if inHbm then 2 else 0) + (if last then 4 else 0) + 16 * reason
  sendMsix (dmaSet s ch { c with state := .haltedError, error := true, failAddr := BitVec.ofNat 64 addr,
                                 failInfo := BitVec.ofNat 32 info, halts := c.halts + 1 }) c.owner c.errVec

/-- Enter HALTED_MISMATCH at a byte offset of the set (R295). -/
def dmaMismatch (s : State) (ch off : Nat) : State :=
  let c := dmaGet s ch
  sendMsix (dmaSet s ch { c with state := .haltedMismatch, mismatch := true, mismatchOff := BitVec.ofNat 64 off,
                                 actCount := c.setLen - BitVec.ofNat 32 off, beats := [], halts := c.halts + 1 })
    c.owner c.errVec

/-! ### Hand-over (R288 to R290) -/

/-- Does an HBM range of the set extend beyond the owner's grant; the first offset beyond it. -/
def beyond (s : State) (c : DmaChannel) (off : BitVec 64) (len : BitVec 32) : Option Nat :=
  if off.toNat + len.toNat ≤ grantBytes s c.owner then none else some (max off.toNat (grantBytes s c.owner))

/-- The defect of a shadow set, as REASON, address and direction: reason 6 carries no address of its own (R289). -/
def setDefect (s : State) (c : DmaChannel) : Option (Nat × Nat × Bool) :=
  if cfgMode c.shCfg = 3 || c.shLen = 0 || cfgRsvd c.shCfg then some (6, 0, false)
  else
    match (if cfgSrcHbm c.shCfg && cfgMode c.shCfg != 1 then beyond s c c.shSrc c.shLen else none) with
    | some a => some (5, a, false)
    | none =>
      match (if cfgDstHbm c.shCfg then beyond s c c.shDst c.shLen else none) with
      | some a => some (5, a, cfgMode c.shCfg != 2)
      | none => none

/-- The shadow set copied to the active set. -/
def copySet (c : DmaChannel) : DmaChannel :=
  { c with actSrc := c.shSrc, actDst := c.shDst, actCount := c.shLen, actCfg := c.shCfg, actFill := c.shFill,
           setLen := c.shLen, armed := false, state := .running }

/-- A hand-over in a cycle: with ARMED the set is copied and checked, without it the channel goes IDLE.  FAIL_ADDR of an
invalid set without a failing offset is a free value (log entry 10). -/
def handOver (s : State) (ch cycle : Nat) : State :=
  let c := { dmaGet s ch with handOver := none, handedAt := some cycle }
  if c.armed then
    match setDefect s c with
    | none => dmaSet s ch (copySet c)
    | some (6, _, _) =>
      let (a, s1) := draw (dmaSet s ch (copySet c)) (2 ^ 64)
      dmaHalt s1 ch a false false false 6
    | some (r, a, w) => dmaHalt (dmaSet s ch (copySet c)) ch a w true false r
  else dmaSet s ch { c with state := .idle }

/-- Perform the hand-over that falls in this cycle or an earlier one. -/
def settle (s : State) (ch cycle : Nat) : State :=
  match (dmaGet s ch).handOver with
  | some h => if h ≤ cycle then handOver s ch h else s
  | none => s

/-- Set ARMED; an IDLE channel hands over in the next cycle (R288). -/
def armChannel (s : State) (ch cycle : Nat) : State :=
  let c := dmaGet s ch
  if c.armed then s
  else dmaSet s ch { c with armed := true, handOver := if c.state = .idle then some (cycle + 1) else none }

/-- DMA_ARM (R288, R290). -/
def execDmaArm (ch cycle : Nat) (s : State) : Result :=
  withUnit (isDma ch) (act s (!asleep s) (armChannel (settle (atCycle s cycle) ch cycle) ch cycle))

/-- The shadow register's new value. -/
def putShadow (c : DmaChannel) (reg : ShadowReg) (v : BitVec 64) : DmaChannel :=
  match reg with
  | .src => { c with shSrc := v }
  | .dst => { c with shDst := v }
  | .len => { c with shLen := v.truncate 32 }
  | .cfg => { c with shCfg := v.truncate 32 }
  | .fill => { c with shFill := v }

/-- DMA_SHADOW_WRITE (R286, R290): in the cycle of a hand-over it is ordered after the copy and sets SHADOW_LATE. -/
def execDmaShadowWrite (ch : Nat) (reg : ShadowReg) (value : BitVec 64) (cycle : Nat) (s : State) : Result :=
  withUnit (isDma ch) (act s (!asleep s)
    (let s1 := settle (atCycle s cycle) ch cycle
     let c := putShadow (dmaGet s1 ch) reg value
     dmaSet s1 ch { c with shadowLate := c.shadowLate || c.handedAt == some cycle }))

/-! ### Bursts and beats (R287, R291) -/

/-- Bytes to the next 4 KiB boundary of host memory. -/
def toBoundary (inHbm : Bool) (a : Nat) : Nat := if inHbm then 512 else 4096 - a % 4096

/-- Bytes of the next burst. -/
def burstBytes (c : DmaChannel) : Nat :=
  let src := if cfgMode c.actCfg = 1 then 512 else toBoundary (cfgSrcHbm c.actCfg) c.actSrc.toNat
  min (min 512 c.actCount.toNat) (min src (toBoundary (cfgDstHbm c.actCfg) c.actDst.toNat))

/-- The limiter of R291: this burst may start. -/
def rateAllows (c : DmaChannel) (cycle : Nat) : Bool :=
  match c.lastBurst with
  | none => true
  | some (at', _) => cfgRate c.actCfg = 0 || at' + cdiv (128 * cdiv (burstBytes c) 64) (cfgRate c.actCfg) ≤ cycle

/-- The beats of a burst of `len` bytes. -/
def burstBeats (n src dst off len : Nat) : List DmaBeat :=
  match n with
  | 0 => []
  | k + 1 =>
    if len = 0 then []
    else ⟨src, dst, min 64 len, off⟩ :: burstBeats k (src + min 64 len) (dst + min 64 len) (off + min 64 len) (len - min 64 len)

/-- Issue a burst: ACT_COUNT falls and the active addresses advance. -/
def issueBurst (c : DmaChannel) (cycle : Nat) : DmaChannel :=
  let n := burstBytes c
  { c with beats := c.beats ++ burstBeats 8 c.actSrc.toNat c.actDst.toNat (c.setLen.toNat - c.actCount.toNat) n,
           actSrc := c.actSrc + BitVec.ofNat 64 n, actDst := c.actDst + BitVec.ofNat 64 n,
           actCount := c.actCount - BitVec.ofNat 32 n, lastBurst := some (cycle, cdiv n 64) }

/-- DMA_BURST_ISSUE (R287, R291). -/
def execDmaBurstIssue (ch cycle : Nat) (s : State) : Result :=
  withUnit (isDma ch) (act s (!asleep s)
    (let s1 := settle (atCycle s cycle) ch cycle
     let c := dmaGet s1 ch
     if c.state == .running && c.actCount != 0 && rateAllows c cycle && !s1.canary.fencedUnits.contains .dmaHost then
       dmaSet s1 ch (issueBurst c cycle)
     else s1))

/-- The fill bytes of a beat: destination byte i of the set receives byte i mod 8 of the pattern (R287). -/
def fillBytes (pattern : BitVec 64) (off len : Nat) : Bytes :=
  (List.range len).map (fun i => BitVec.ofNat 8 (pattern.toNat / 256 ^ ((off + i) % 8)))

/-- Bytes of one side of a beat: of the owner's grant, or as the host returned them; none for an uncorrectable block. -/
def beatBytes (s : State) (c : DmaChannel) (inHbm : Bool) (a len : Nat) (host : Bytes) : Option Bytes :=
  if inHbm then hbmRead s (grantAddr s c.owner a) len else some ((padTo len host).take len)

/-- Write a beat's destination. -/
def beatWrite (s : State) (c : DmaChannel) (a : Nat) (data : Bytes) : State :=
  if cfgDstHbm c.actCfg then hbmWrite s (grantAddr s c.owner a) data else emit s (.dmaWrite c.owner a data)

/-- The first differing byte. -/
def firstDiff (i : Nat) : Bytes → Bytes → Option Nat
  | a :: l, b :: m => if a = b then firstDiff (i + 1) l m else some i
  | _, _ => none

/-- End of count without error: DONE, DONE_COUNT and DONE_VEC (R292). -/
def dmaDone (s : State) (ch : Nat) : State :=
  let c := dmaGet s ch
  let s1 := dmaSet s ch { c with done := true, doneCount := c.doneCount + 1 }
  if cfgIrqDone c.actCfg then sendMsix s1 c.owner c.doneVec else s1

/-- Has the set ended: ACT_COUNT is 0 and every issued beat has returned. -/
def setEnded (c : DmaChannel) : Bool := c.state == .running && c.actCount == 0 && c.beats.isEmpty

/-- An undefined destination byte range (R293, R294): free bytes (log entry 10). -/
def freeBytes (s : State) (n : Nat) : Bytes × State :=
  ((List.range n).map (fun i => Config.freeByte (s.freeCtr + i)), { s with freeCtr := s.freeCtr + n })

/-- Destination bytes of beats become undefined. -/
def undefineBeats (s : State) (c : DmaChannel) (l : List DmaBeat) : State :=
  if cfgMode c.actCfg = 2 then s
  else l.foldl (fun s b => let (d, s1) := freeBytes s b.len; beatWrite s1 c b.dst d) s

/-- A failing beat halts the channel; the beats issued after it leave undefined bytes (R293, R294).  `write` names the
destination side; in compare mode that side is read too, so WRITE of FAIL_INFO stays 0 (R287). -/
def failBeat (s : State) (ch : Nat) (b : DmaBeat) (write : Bool) (reason : Nat) : State :=
  let c := dmaGet s ch
  let inHbm := if write then cfgDstHbm c.actCfg else cfgSrcHbm c.actCfg
  let last := c.actCount == 0 && decide (c.beats.length ≤ 1)
  let s1 := undefineBeats s c c.beats
  dmaHalt (dmaSet s1 ch { dmaGet s1 ch with beats := [] }) ch (if write then b.dst else b.src)
    (write && cfgMode c.actCfg != 2) inHbm last reason

/-- The oldest beat returns: its data lands, or is compared (R287, R295); the end of the set is left to the caller. -/
def landBeat (s : State) (ch : Nat) (b : DmaBeat) (src dst : Bytes) : State :=
  let c := dmaGet s ch
  let s1 := dmaSet s ch { c with beats := c.beats.tail, bytes := c.bytes + b.len }
  let bad := cfgDstHbm c.actCfg && b.len != 64 && readsBad s.hbm (grantAddr s c.owner b.dst) b.len
  match cfgMode c.actCfg with
  | 1 => if bad then failBeat s ch b true 4 else beatWrite s1 c b.dst (fillBytes c.actFill b.offset b.len)
  | 2 =>
    match beatBytes s c (cfgSrcHbm c.actCfg) b.src b.len src, beatBytes s c (cfgDstHbm c.actCfg) b.dst b.len dst with
    | some x, some y =>
      match firstDiff 0 x y with
      | some i => dmaMismatch s1 ch (b.offset + i)
      | none => s1
    | none, _ => failBeat s ch b false 4
    | some _, none => failBeat s ch b true 4
  | _ =>
    match beatBytes s c (cfgSrcHbm c.actCfg) b.src b.len src with
    | some x => if bad then failBeat s ch b true 4 else beatWrite s1 c b.dst x
    | none => failBeat s ch b false 4

/-- DMA_BEAT_RETURN (R287, R288, R292, R295): `src` and `dst` are the bytes that host memory returns. -/
def execDmaBeatReturn (ch : Nat) (src dst : Bytes) (cycle : Nat) (s : State) : Result :=
  withUnit (isDma ch) (act s (!asleep s)
    (match (dmaGet s ch).beats with
      | [] => s
      | b :: _ =>
        let s1 := landBeat (atCycle s cycle) ch b src dst
        if setEnded (dmaGet s1 ch) then handOver (dmaDone s1 ch) ch cycle else s1))

/-- DMA_BEAT_ERROR (R293, R294). -/
def execDmaBeatError (ch : Nat) (write : Bool) (reason : BeatFail) (s : State) : Result :=
  withUnit (isDma ch) (act s (!asleep s)
    (match (dmaGet s ch).beats with
      | [] => s
      | b :: _ => if (dmaGet s ch).state == .running then failBeat s ch b write (beatReason reason) else s))

/-- DMA_CLEAR_HALT (R296). -/
def execDmaClearHalt (ch cycle : Nat) (s : State) : Result :=
  withUnit (isDma ch) (act s (!asleep s)
    (let c := dmaGet s ch
     if c.state == .haltedError || c.state == .haltedMismatch then
       dmaSet (atCycle s cycle) ch { c with state := .idle, handOver := if c.armed then some (cycle + 1) else none }
     else s))

/-! ### DISABLE (R297, R298) -/

/-- Writes already issued may or may not land: a free value decides for each beat (log entry 10). -/
def maybeLand (s : State) (c : DmaChannel) : State :=
  if cfgMode c.actCfg = 2 then s
  else c.beats.foldl (fun s b =>
    let (v, s1) := draw s 2
    let (d, s2) := freeBytes s1 b.len
    let x := if cfgMode c.actCfg = 1 then fillBytes c.actFill b.offset b.len
             else if cfgSrcHbm c.actCfg then memRead s.hbm.mem (grantAddr s c.owner b.src) b.len else d
    if v = 0 then s2 else beatWrite s2 c b.dst x) s

/-- DISABLE: beats dropped, ARMED cleared, IDLE; the ACT_ counts and addresses are undefined. -/
def disableChannel (s : State) (ch : Nat) : State :=
  let c := dmaGet s ch
  let s1 := maybeLand s c
  let (a, s2) := draw s1 (2 ^ 64)
  let (b, s3) := draw s2 (2 ^ 64)
  let (n, s4) := draw s3 (2 ^ 32)
  dmaSet s4 ch { c with beats := [], armed := false, handOver := none, state := .idle, actSrc := BitVec.ofNat 64 a,
                        actDst := BitVec.ofNat 64 b, actCount := BitVec.ofNat 32 n }

/-- DMA_DISABLE (R297): `ending` holds the bytes of a beat whose return falls in the same cycle; with `arm` the shadow is
armed after the DISABLE. -/
def execDmaDisable (ch : Nat) (arm : Bool) (ending : Option (Bytes × Bytes)) (cycle : Nat) (s : State) : Result :=
  withUnit (isDma ch) (act s (!asleep s)
    (let s1 := settle (atCycle s cycle) ch cycle
     let s2 := match ending, (dmaGet s1 ch).beats with
       | some d, b :: _ =>
         let s' := landBeat s1 ch b d.1 d.2
         if setEnded (dmaGet s' ch) then dmaDone s' ch else s1
       | _, _ => s1
     let s3 := disableChannel s2 ch
     if arm then armChannel s3 ch cycle else s3))

/-! ### Ownership (R284, R285) -/

/-- Give a channel to a function: every register takes its reset value. -/
def giveChannel (s : State) (ch fn : Nat) : State := dmaSet s ch { DmaChannel.atReset with owner := fn }

/-- The checks of SET_CHANNEL_OWNER (R285). -/
def chkChannelOwner (s : State) (e : Bytes) : Option Reply :=
  orElse (fieldCheck [(decide (u8 e 24 < 16), 24), (fnExists s (u8 e 25), 25)])
    (let c := dmaGet s (u8 e 24)
     if c.state != .idle || c.armed then some (failWith stBusy) else fenceCheck s .dmaHost)

/-- SET_CHANNEL_OWNER (R285). -/
def execSetChannelOwner (r : CmdRef) (s : State) : Result :=
  serve s r 0xA0 chkChannelOwner (fun s e =>
    let old := (dmaGet s (u8 e 24)).owner
    succeed (if old = u8 e 25 then s else giveChannel s (u8 e 24) (u8 e 25)) r old)

/-- QUERY_CHANNELS (R285). -/
def execQueryChannels (r : CmdRef) (s : State) : Result :=
  serve s r 0xA1 noCheck (fun s e =>
    succeed (writeData s r.fn e ((List.range 32).map (fun n =>
      if n < 16 then BitVec.ofNat 8 (dmaGet s n).owner else 0xFF))) r 0)

end Sys2Proof.Machine
end

