-- ==== Sys2Proof/Machine/Resets.lean ====
section
/-! DEFINITION. The resets of Table 23.7 and what survives them (Table 23.8), Secure Boot (R414, R442), and the Larder
update. -/

namespace Sys2Proof.Machine

/-! ### Function resets (R243, R244) -/

/-- The functions of a set, as the table of functions lists them. -/
def fnsOf (s : State) (p : Nat → Bool) : List Nat := (s.fns.map (·.1)).filter p ++ (if p 0 && (tfind s.fns 0).isNone then [0] else [])

/-- Zero a function's HBM grant. -/
def zeroGrant (s : State) (fn : Nat) : State := hbmZero s (grantAddr s fn 0) (grantAddr s fn (grantBytes s fn))

/-- Return a channel to the PF with every register at its reset value (R298). -/
def returnChannel (s : State) (ch : Nat) : State := giveChannel (disableChannel s ch) ch 0

/-- A function after its reset: its grants and counters stay, everything else takes its reset value (Table 23.8). -/
def fnAfterReset (fn : Nat) (f : FnState) : FnState :=
  { FnState.atReset fn with qpGrant := f.qpGrant, sessGrant := f.sessGrant, hbmUnits := f.hbmUnits, hbmBase := f.hbmBase,
                            hostOob := f.hostOob }

/-- Is every function that an entry's mask names in the set, and at least one (R439)? -/
def keyOnlyOf (p : Nat → Bool) (k : KeyEntry) : Bool :=
  k.functions != 0 && (List.range 64).all (fun n => !k.functions.getLsbD n || p n)

/-- Reset a set of functions (R244): queue pairs, sessions, grant contents, channels, rings, keys and roles. -/
def resetFns (s : State) (p : Nat → Bool) : State :=
  let s1 := { s with qps := s.qps.filter (fun q => !p q.2.fn) }
  let s1' := (sessList s1).foldl (fun s x => if p x.fn then destroySession s x else s) s1
  let s2 := { s1' with sessions := s1'.sessions.filter (fun x => !p x.2.fn) }
  let s3 := ((s2.dma.filter (fun c => p c.2.owner)).map (·.1)).foldl returnChannel s2
  let s4 := (fnsOf s3 p).foldl zeroGrant s3
  { s4 with fns := s4.fns.map (fun f => if p f.1 then (f.1, fnAfterReset f.1 f.2) else f),
            sec := { s4.sec with keys := s4.sec.keys.filter (fun k => !keyOnlyOf p k.2) } }

/-- FLR (R244): an FLR of the PF covers the PF and every VF and clears VF Enable (log entry 26). -/
def execFlr (fn : Nat) (s : State) : Result :=
  withUnit (isFn fn) (act s (!dead s && fnExists s fn)
    (if fn = 0 then { resetFns s (fun _ => true) with vfEnabled := false } else resetFns s (· == fn)))

/-- VF_ENABLE_CLEAR (R244). -/
def execVfEnableClear (s : State) : Result :=
  .next (if !dead s && s.vfEnabled then { resetFns s (· != 0) with vfEnabled := false } else s)

/-- Does the session read or write host memory (R243)? -/
def usesHostMemory (x : Session) : Bool :=
  if x.decode then u8 x.cfg 0x14 == 0 || u8 x.cfg 0x15 != 1 else u8 x.cfg 0x001 == 0 || u8 x.cfg 0x002 == 0

/-- Is the session coding, stopping or in RESYNC? -/
def isLive (x : Session) : Bool :=
  match x.state with
  | .running => true | .stopping => true | .resync => true | _ => false

/-- The host-interface reset (R243, R298). -/
def hostInterfaceReset (s : State) : State :=
  let s1 := { resetFns s (· != 0) with vfEnabled := false }
  let f := fnGet s1 0
  let s2 := fnSet (cutPairs s1 0) 0 { fnAfterReset 0 f with eventRing := f.eventRing, suppressed := true }
  let s3 := (sessList s2).foldl (fun s x => if isLive x && usesHostMemory x then stopNow s x else s) s2
  (List.range 16).foldl disableChannel s3

/-- HOST_INTERFACE_RESET (R243). -/
def execHostInterfaceReset (t : Nat) (s : State) : Result := act s (!dead s) (hostInterfaceReset (atTime s t))

/-- BUS_MASTER_ENABLE_SET (R243): the PF's ring writes start again. -/
def execBusMasterEnableSet (fn : Nat) (s : State) : Result :=
  withUnit (isFn fn) (act s (!dead s && fnExists s fn) (fnSet s fn { fnGet s fn with busMaster := true, suppressed := false }))

/-! ### Warm and soft reset (R466, R467) -/

/-- What PCIe configuration space holds of a function: a soft reset keeps it. -/
def keepPcie (f : Nat × FnState) : Nat × FnState :=
  (f.1, { FnState.atReset f.1 with busMaster := f.2.busMaster, vecMasked := f.2.vecMasked })

/-- What flash holds and what continues from it; staging that is not recorded in the boot control block ends
(log entry 22). -/
def keepFlash (f : ForemanState) : ForemanState :=
  { ForemanState.atReset with
    committed := f.committed, slotA := f.slotA, slotB := f.slotB, trialLeft := f.trialLeft
    stage := (match f.stage with | .activationPending => .activationPending | .trial => .trial | _ => .idle)
    owner := f.owner
    logIndex := f.logIndex, flashLog := f.flashLog, flashBlock := f.flashBlock, flashUsed := f.flashUsed
    eraseCounts := f.eraseCounts, retired := f.retired, rowErrors := f.rowErrors, rowRepairs := f.rowRepairs
    agingFlash := f.agingFlash, agingHours := f.agingFlash }

/-- Canary state that every reset but the cold one keeps. -/
def keepCanary (c : CanaryState) : CanaryState :=
  { CanaryState.atReset with status := c.status, classMax := c.classMax, faultN := c.faultN, lastSevere := c.lastSevere,
                             afterClass4 := c.afterClass4, thermtripN := c.thermtripN, lostUnits := c.lostUnits }

/-- Supply, clock and always-on state that a warm reset keeps. -/
def keepPower (p : PowerStateRec) : PowerStateRec :=
  { PowerStateRec.atReset with supplies := p.supplies, setpoint := p.setpoint, stretchSince := p.stretchSince,
                               throttle := p.throttle, above := p.above, warned := p.warned, coolSince := p.coolSince,
                               lostClocks := p.lostClocks, trimmedAt := p.trimmedAt, aonRecord := p.aonRecord,
                               perstWarm := p.perstWarm }

/-- The state after a warm reset, or after a soft one, which keeps the PCIe link and configuration space; Secure Boot
follows (Table 23.8).  A TAP reset before a warm reset ends the TAP's hold on Maintenance (R481). -/
def resetCore (s : State) (soft : Bool) : State :=
  { State.reset with
    pending := s.pending, now := s.now, freeCtr := s.freeCtr, out := s.out, dmaCycle := s.dmaCycle
    vfEnabled := soft && s.vfEnabled
    fns := if soft then s.fns.map keepPcie else []
    canary := keepCanary s.canary
    foreman := { keepFlash s.foreman with restarting := true }
    sec := { SecurityState.atReset with otp := s.sec.otp, vddFuse := s.sec.vddFuse, secError := s.sec.secError,
                                        errorAlgs := s.sec.errorAlgs, drbgSeededAt := s.now }
    power := keepPower s.power
    tap := { s.tap with maintenance := s.tap.maintenance && (soft || !s.tap.resetSeen) }
    pins := PinState.atReset
    net := { NetState.atReset with ptp := { PtpState.atReset with offset := ptpTime s - (s.now : Int), adjAt := s.now } } }

/-- The state right after a cold reset of a part whose OTP and flash are kept. -/
def coldCore (s : State) : State :=
  { State.reset with
    pending := s.pending, now := s.now, freeCtr := s.freeCtr, out := s.out, dmaCycle := s.dmaCycle
    canary := { CanaryState.atReset with lostUnits := s.canary.lostUnits }
    foreman := keepFlash s.foreman
    sec := { SecurityState.atReset with otp := s.sec.otp, drbgSeededAt := s.now }
    net := { NetState.atReset with ptp := { PtpState.atReset with offset := -(s.now : Int), adjAt := s.now } } }

/-- COLD_RESET (Table 12.2): from Off, with the supplies applied. -/
def execColdReset (t : Nat) (s : State) : Result :=
  act s (s.mode == .off) (coldCore (atTime s t))

/-- A warm reset from any trigger. -/
def warmReset (s : State) : State := resetCore s false

/-- Has the trigger of a warm reset come: the reset of a lockstep mismatch follows 1 ms after its gate (R408)? -/
def warmDue (s : State) (trigger : WarmTrigger) (t : Nat) : Bool :=
  trigger != .lockstep || (match s.canary.gatedAt with | some g => decide (g + 1000000 ≤ max s.now t) | none => false)

/-- WARM_RESET (Table 23.7): PERST_N acts as a host-interface reset unless PERST_SCOPE in force is 0x1. -/
def execWarmReset (trigger : WarmTrigger) (t : Nat) (s : State) : Result :=
  act s (!dead s && warmDue s trigger t)
    (if trigger == .perstN && !s.power.perstWarm then hostInterfaceReset (atTime s t) else warmReset (atTime s t))

/-- POWER_REMOVED (R455): the device is Off; OTP and flash stay. -/
def execPowerRemoved (s : State) : Result :=
  act s (s.mode != .off)
    (let s1 := coldCore s
     { s1 with mode := .off, ready := false,
               power := { s1.power with supplies := false },
               pins := { s1.pins with resetN := false, perstN := false } })

/-- RESET (R237): KIND 0x0 completes before the soft reset starts. -/
def execReset (r : CmdRef) (s : State) : Result :=
  serve s r 0x06 (fun _ e => fieldCheck [(u8 e 24 == 0, 24)]) (fun s _ => resetCore (succeed s r 0) true)

/-! ### Secure Boot -/

/-- Does a slot verify (R414, R442)? -/
def slotVerifies (s : State) (i : BootInput) (slot : Nat) : Bool :=
  let sl := if slot = 0 then s.foreman.slotA else s.foreman.slotB
  let inOk := if slot = 0 then i.slotAOk else i.slotBOk
  i.selfTestOk && i.islandFwOk && inOk && sl.valid && sl.facts.familyOk && sl.facts.signaturesOk && sl.facts.tagOk
    && s.sec.otp.imageKey.isSome
    && sl.facts.svns.zipIdx.all (fun v => s.sec.otp.minSvn.getD v.2 0 ≤ v.1)

/-- Is a trial recorded in the boot control block? -/
def trialRecorded (f : ForemanState) : Bool :=
  match f.stage with
  | .activationPending => true | .trial => true | _ => false

/-- The choice of R414: the slot to boot, and the state with TRIAL_LEFT and STATE as the choice leaves them. -/
def chooseSlot (s : State) (i : BootInput) : Option Nat × State :=
  let f := s.foreman
  let left := { s with foreman := { f with stage := .trial, trialLeft := f.trialLeft - 1, owner := 0 } }
  if trialRecorded f && f.trialLeft != 0 && slotVerifies s i (1 - f.committed) then (some (1 - f.committed), left)
  else
    let s1 := if trialRecorded f then
        logEvent { s with foreman := { f with stage := .idle, trialLeft := 0, owner := 0 } } 0x0602 7 41 none none
      else s
    if slotVerifies s i f.committed then (some f.committed, s1)
    else if slotVerifies s i (1 - f.committed) then (some (1 - f.committed), s1)
    else (none, s1)

/-- The end of a boot without firmware: the boot ROM serves Maintenance with a reduced Larder (R414); a failed self-test
leaves SEC_ERROR and class 2 on bit 42 (R442, R446). -/
def bootRom (s : State) (i : BootInput) : State :=
  let s1 := larderPublish { s with foreman := { s.foreman with bootRom := true } } true false
  let s2 := if i.selfTestOk then s1
    else recordFault (causeAll { s1 with sec := { s1.sec with secError := true } } icSecError) 42 2 none
  setMode s2 .maintenance

/-- The platform record in force: the booted slot's, or the defaults with PLATFORM_DEFAULTS (R418). -/
def bootPlatform (s : State) (i : BootInput) (slot : Nat) : State :=
  let sl := if slot = 0 then s.foreman.slotA else s.foreman.slotB
  let p := if i.platformTagOk then sl.platform else PlatformCfg.default
  let s1 := { s with foreman := { s.foreman with platform := p, bootSlot := slot, bootRom := false }
                     power := { s.power with perstWarm := p.perstWarm }
                     fabric := { s.fabric with port := p.fabricPort, group := p.groupAddress } }
  if i.platformTagOk then s1 else logEvent s1 0x0603 7 41 none none

/-- Load the patch image into every core; a core whose patch fails stays fenced (R41). -/
def loadPatch (s : State) (version : Nat) (fail : List Nat) : State :=
  (List.range 28).foldl (fun s c =>
    if fail.contains c then unitFence (coreSet s c { coreGet s c with patchOk := false }) (.core c) true
    else coreSet s c { coreGet s c with patchOk := true, patchRam := Config.patchWords version,
                                        matchRegs := Config.patchMatch version }) s

/-- The lost units of this boot's self-tests, each recorded (R404, R424). -/
def bootBist (s : State) (failed : List Nat) : State :=
  failed.foldl (fun s n => match unitOf n with
    | some u => logEvent (loseUnit s u) 0x0501 7 (unitBit u) none (some 0)
    | none => s) { s with canary := { s.canary with lostUnits := [], fencedUnits := [] } }

/-- Train the HBM: temperatures in 1/16 °C, refresh multiplier, and class 2 for a stack with a pseudo-channel that fails
(R268, R278, R280). -/
def trainHbm (s : State) (i : BootInput) : State :=
  let one (s : State) (k : Nat) (temp : Int) : State :=
    let bad := (i.trainFail.any (fun p => p / 32 == k))
    let s1 := stackSet s k { stackGet s k with temp := temp, refreshMult := if 1360 < temp then 2 else 1, trainFailed := bad }
    let s2 := (List.range 32).foldl (fun s j =>
      pcSet s (k * 32 + j) { pcGet s (k * 32 + j) with trainTemp := temp, trainedAt := s.now,
                                                       trained := !i.trainFail.contains (k * 32 + j) }) s1
    if bad then recordFault s2 (32 + k) 2 none else s2
  one (one s 0 i.stackTemp0) 1 i.stackTemp1

/-- Has a fence or loss left the device with less capacity? -/
def capacityLost (s : State) : Bool :=
  !s.canary.lostUnits.isEmpty || !s.canary.fencedUnits.isEmpty || s.cores.any (fun c => c.2.fenced || c.2.lost)
    || s.clusters.any (fun c => c.2.fenced || c.2.surveyFenced || c.2.ppuFenced)
    || s.hbm.stackTab.any (·.2.trainFailed) || s.net.ports.any (·.2.fenced) || s.px.any (·.2.fenced)
    || s.power.stretchLong || s.power.throttle

/-- The mode that Secure Boot ends in (Table 12.2, R481). -/
def bootMode (s : State) : OpMode :=
  if s.tap.maintenance then .maintenance
  else match s.sec.otp.lifecycle with
    | .deployed => .ready
    | .manufacturing => .provisioning
    | .provisioned => .provisioning
    | .decommissioned => .maintenance

/-- Copy the always-on record to the flash log (R462). -/
def copyAon (s : State) : State :=
  { s.power.aonRecord.foldl (fun s b => logEvent s 0x0100 4 b none none) s with
    power := { s.power with aonRecord := [] } }

/-- Hard post-package repair of the rows recorded in the flash log (R275): whether a bank has a spare row left is not stated
(log entry 10); a row that cannot be repaired stays recorded and is reported at each start. -/
def repairRows (s : State) : State :=
  s.foreman.rowRepairs.foldl (fun s row =>
    let (ok, s1) := draw s 2
    if ok = 1 then
      { s1 with foreman := { s1.foreman with rowRepairs := s1.foreman.rowRepairs.filter (· ≠ row),
                                             rowErrors := tdel s1.foreman.rowErrors row } }
    else
      let (code, s2) := draw s1 256
      logEvent s2 (0x0100 + code) 0 (32 + row % 64 / 32) none (some row)) s

/-- The end of a boot: the Larder is published, READY and the mode follow, with FW_RESTART after a reset that was not cold. -/
def finishBoot (s : State) : State :=
  let s6 := larderPublish { s with hbm := { s.hbm with hotWait := false } } false s.sec.identityOk
  let s7 := setMode s6 (bootMode s6)
  let s8 := if s7.foreman.restarting then causeAll s7 icFwRestart else s7
  { s8 with foreman := { s8.foreman with restarting := false, readySince := some s8.now, lastService := s8.now } }

/-- A stack above 110 °C: the start waits until it has cooled (R281). -/
def stackHot (s : State) : Bool := decide (1760 < (stackGet s 0).temp) || decide (1760 < (stackGet s 1).temp)

/-- A boot with verified firmware: security, platform, HBM, patches, spares, Larder, READY. -/
def bootFirmware (s : State) (i : BootInput) (slot : Nat) : State :=
  let s1 := bootPlatform { s with sec := { s.sec with secError := false, errorAlgs := 0,
                                                      identityOk := i.identityOk && s.sec.otp.identityWrapped.isSome } } i slot
  let s2 := trainHbm (repairRows (bootBist (copyAon s1) i.bistFail)) i
  let s3 := loadPatch s2 (if slot = 0 then s2.foreman.slotA else s2.foreman.slotB).facts.version i.patchFail
  let s4 := (List.range 4).foldl (fun s k => clSet s k { clGet s k with spare := bootSpare s k }) s3
  let s5 := setServices { s4 with degraded := capacityLost s4 }
  if stackHot s5 then { s5 with hbm := { s5.hbm with hotWait := true } } else finishBoot s5

/-- SECURE_BOOT (R414, R442, R443, R488). -/
def execSecureBoot (i : BootInput) (s : State) : Result :=
  act s (s.mode == .secureBoot && s.power.supplies && !s.hbm.hotWait)
    (match chooseSlot (atTime s i.t) i with
      | (none, s1) => bootRom s1 i
      | (some slot, s1) => bootFirmware s1 i slot)

/-- LARDER_UPDATE (R212). -/
def execLarderUpdate (s : State) : Result := act s (!asleep s && s.ready) (larderUpdate s)

end Sys2Proof.Machine
end

