-- ==== Sys2Proof/Machine/Admin.lean ====
section
/-! DEFINITION. Device and admin commands (Table 11.13): IDENTIFY, SET_MODE, CONFIGURE_EVENTS, CREATE_QP, DELETE_QP, ABORT,
SET_FUNCTION_RESOURCES. -/

namespace Sys2Proof.Machine

/-! ### IDENTIFY (R210, R233) -/

/-- PART_NUMBER in ASCII, padded (Table 10.3). -/
def partNumber : Bytes := [0x48, 0x39, 0x2D, 0x32, 0x38, 0x33, 0x32] ++ zeros 9

/-- The DEVICE entry of the Larder. -/
def deviceEntry : Bytes :=
  le 2 1 ++ le 2 48 ++ le 2 0 ++ [1, 0] ++ partNumber ++ [4, 7, 24, 2] ++ le 4 Config.hbmGib ++ le 8 Config.serial
    ++ le 2 256 ++ le 2 4 ++ le 2 16 ++ le 2 0

/-- The facts of the image that runs; the boot ROM has none. -/
def activeFacts (s : State) : ImageFacts :=
  if s.foreman.bootRom then ⟨true, true, true, 0, 0, []⟩
  else (if s.foreman.bootSlot = 0 then s.foreman.slotA else s.foreman.slotB).facts

/-- Host channels of a function, bit n = channel n. -/
def ownedMask (s : State) (fn : Nat) : Nat :=
  (List.range 16).foldl (fun m n => if (dmaGet s n).owner = fn then m + 2 ^ n else m) 0

/-- The function structure of Table 11.14. -/
def functionEntry (s : State) (fn : Nat) : Bytes :=
  let f := fnGet s fn
  le 1 fn ++ le 1 f.qpGrant ++ le 2 f.sessGrant ++ le 4 f.hbmUnits ++ le 2 (ownedMask s fn) ++ le 2 (vectors fn)
    ++ le 4 (curEpoch s) ++ le 4 (activeFacts s).determinismVersion ++ le 4 (activeFacts s).version

/-- IDENTIFY (R233). -/
def execIdentify (r : CmdRef) (s : State) : Result :=
  serve s r 0x01 (fun _ e => fieldCheck [(decide (256 ≤ cmdDataLen e), 0x10), (decide (u8 e 24 ≤ 1), 24)]) (fun s e =>
    succeed (writeData s r.fn e (padTo 256 (if u8 e 24 = 0 then deviceEntry else functionEntry s r.fn))) r 0)

/-! ### SET_MODE (R248, R410) -/

/-- Every unit that the self-test of Maintenance covers. -/
def allUnits : List FenceUnit := (List.range 61).filterMap unitOf

/-- Fence every unit and start the BIST (R410). -/
def startBist (s : State) : State :=
  let s1 := allUnits.foldl (fun s u => unitFence s u true) s
  larderUpdate (setDegraded { s1 with canary := { s1.canary with bist := true, fencedUnits := allUnits } })

/-- The reaction to a target code other than the current mode. -/
def setModeTo (s : State) (r : CmdRef) (target : Nat) : State :=
  match s.mode, target with
  | .ready, 5 => succeed (setMode s .standalone) r 5
  | .ready, 10 => succeed (startBist (setMode s .maintenance)) r 10
  | .standalone, 4 => if (sessList s).isEmpty then succeed (setMode s .ready) r 4 else finish s r (failWith stBusy)
  | .maintenance, 4 =>
    if s.canary.bist || s.tap.maintenance then finish s r (failWith stBusy) else succeed (setMode s .ready) r 4
  | _, _ => finish s r (notPermitted s)

/-- SET_MODE (R248). -/
def execSetMode (r : CmdRef) (s : State) : Result :=
  serve s r 0x02 (fun _ e => fieldCheck [(decide (u8 e 24 < 0xC), 24)]) (fun s e =>
    if u8 e 24 = modeCode s.mode then succeed s r (modeCode s.mode) else setModeTo s r (u8 e 24))

/-! ### Rings and queue pairs -/

/-- A ring depth: 0, or a power of two from 16 to 4,096 (R238). -/
def depthOk (d : Nat) : Bool := [0, 16, 32, 64, 128, 256, 512, 1024, 2048, 4096].contains d

/-- CONFIGURE_EVENTS (R233, R238, R241). -/
def execConfigureEvents (r : CmdRef) (s : State) : Result :=
  serve s r 0x03 (fun _ e => fieldCheck [(u64 e 24 % 4096 == 0, 24), (depthOk (u16 e 32), 32),
      (decide (u16 e 34 < vectors r.fn), 34)]) (fun s e =>
    succeed (fnSet s r.fn { fnGet s r.fn with
      eventRing := if u16 e 32 = 0 then none else some ⟨u64 e 24, u16 e 32, u16 e 34, 0⟩ }) r 0)

/-- CREATE_QP (R223, R233). -/
def execCreateQp (r : CmdRef) (s : State) : Result :=
  serve s r 0x04 (fun s e =>
      orElse (fieldCheck [(inRange (u16 e 24) 1 ((fnGet s r.fn).qpGrant - 1), 24), (inRange (u16 e 26) 2 64, 26),
        (decide (u16 e 28 < vectors r.fn), 28), (u64 e 32 % 4096 == 0, 32), (u64 e 40 % 4096 == 0, 40),
        (decide (u16 e 48 ≤ 1000), 48)])
      (if (qpGet s r.fn (u16 e 24)).isSome then some (failWith stBusy) else none))
    (fun s e => succeed (qpPut s (QueuePair.make r.fn (u16 e 24) (u16 e 26) (u16 e 28) (u16 e 30) (u16 e 48)
      (u64 e 32) (u64 e 40))) r 0)

/-- DELETE_QP (R237): the completion comes when the pair's last started command has finished. -/
def execDeleteQp (r : CmdRef) (s : State) : Result :=
  serve s r 0x05 (fun s e =>
      orElse (fieldCheck [(u16 e 24 != 0 && (qpGet s r.fn (u16 e 24)).isSome, 24)])
        (match qpGet s r.fn (u16 e 24) with
          | some q => if q.deleting.isSome then some (failWith stBusy) else none
          | none => none))
    (fun s e => match qpGet s r.fn (u16 e 24) with
      | some q => deletePair s q (some r)
      | none => s)

/-- ABORT (R236). -/
def execAbort (r : CmdRef) (s : State) : Result :=
  serve s r 0x0A noCheck (fun s e =>
    let v : CmdRef := ⟨r.fn, u16 e 24, u16 e 26⟩
    match inFlight s v with
    | none => succeed s r 0
    | some i => if i.started then succeed s r 2 else succeed (finish s v (failWith stAborted)) r 1)

/-! ### SET_FUNCTION_RESOURCES (R219, R235) -/

/-- A device total with the request of one function in place of its grant. -/
def grantTotal (s : State) (fn req : Nat) (f : FnState → Nat) : Nat :=
  (List.range 64).foldl (fun n k => n + if k = fn then req else f (fnGet s k)) 0

/-- Does a range of units overlap no grant of another function? -/
def unitsFree (s : State) (fn base n : Nat) : Bool :=
  (List.range 64).all fun k =>
    let f := fnGet s k
    k == fn || f.hbmUnits == 0 || decide (base + n ≤ f.hbmBase) || decide (f.hbmBase + f.hbmUnits ≤ base)

/-- The lowest place for a grant of `n` units (log entry 27). -/
def placeGrant (s : State) (fn n : Nat) : Option Nat :=
  ((List.range 512).filter (fun b => decide (b + n ≤ Config.hbmGib * 16) && unitsFree s fn b n)).head?

/-- The checks of SET_FUNCTION_RESOURCES. -/
def chkResources (s : State) (e : Bytes) : Option Reply :=
  let fn := u8 e 24
  orElse (fieldCheck [(decide (fn < 64), 24)])
    (if (fnGet s fn).mbEnabled || (sessList s).any (fun x => x.fn == fn) then some (failWith stBusy)
     else if 64 < grantTotal s fn (u8 e 25) (·.qpGrant) || 256 < grantTotal s fn (u16 e 26) (·.sessGrant)
        || Config.hbmBytes < grantTotal s fn (u32 e 28) (·.hbmUnits) * 67108864 + s.hbm.poolUsed
        || (placeGrant s fn (u32 e 28)).isNone then some (failWith stNoResource)
     else none)

/-- SET_FUNCTION_RESOURCES: the new grant is zeroed. -/
def execSetFunctionResources (r : CmdRef) (s : State) : Result :=
  serve s r 0x0B chkResources (fun s e =>
    let s1 := fnSet s (u8 e 24) { fnGet s (u8 e 24) with
      qpGrant := u8 e 25, sessGrant := u16 e 26, hbmUnits := u32 e 28,
      hbmBase := (placeGrant s (u8 e 24) (u32 e 28)).getD 0 }
    succeed (zeroGrant s1 (u8 e 24)) r 0)

end Sys2Proof.Machine
end

