-- ==== Sys2Proof/Machine/Fifo.lean ====
section
/-! DEFINITION. The packing FIFO of R103 to R107: the one design behind the Ladle of every core and the receive FIFO of every
pixel port. -/

namespace Sys2Proof.Machine

/-- Occupancy in words, the word being filled included (R105). -/
def fifoOccupancy (f : PackFifo) : Nat := f.words.length + (if f.filling.isEmpty then 0 else 1)

/-- HOLD after a write or read (R105). -/
def fifoHold (f : PackFifo) : PackFifo :=
  { f with hold := if f.high ≤ fifoOccupancy f then true else if fifoOccupancy f ≤ f.low then false else f.hold }

/-- Close full words of the bytes that wait; `n` bounds them. -/
def fifoClose (n : Nat) (tag : List Nat) (f : PackFifo) : PackFifo :=
  match n with
  | 0 => f
  | k + 1 =>
    if f.filling.length < 64 then f
    else fifoClose k tag { f with words := f.words ++ [⟨f.filling.take 64, false, tag⟩], filling := f.filling.drop 64 }

/-- One write: discarded, and counted, when no free word can take it (R103, R106). -/
def fifoWrite (tag : List Nat) (b : Bytes) (f : PackFifo) : PackFifo :=
  if f.capacity * 64 < f.words.length * 64 + f.filling.length + b.length then { f with overflow := f.overflow + 1 }
  else fifoHold (fifoClose (b.length / 64 + 1) tag { f with filling := f.filling ++ b })

/-- A flush event closes the word being filled; with nothing pending it closes none (R103). -/
def fifoFlush (tag : List Nat) (f : PackFifo) : PackFifo :=
  if f.filling.isEmpty then f else fifoHold { f with words := f.words ++ [⟨f.filling, true, tag⟩], filling := [] }

/-- The tag of Table 5.2 of a read: COUNT, VALID, IDLE, END. -/
def wordTag : Option FifoWord → BitVec 16
  | some w => BitVec.ofNat 16 (w.bytes.length + 128 + (if w.ended then 512 else 0))
  | none => 256

/-- The 64 bytes of a read: the unwritten bytes of a word, and every byte of the idle word, are 0x00 (R103, R104). -/
def wordBytes : Option FifoWord → Bytes
  | some w => w.bytes ++ List.replicate (64 - w.bytes.length) 0
  | none => List.replicate 64 0

/-- Read the oldest closed word; none is the idle word (R104). -/
def fifoRead (f : PackFifo) : Option FifoWord × PackFifo :=
  match f.words with
  | [] => (none, f)
  | w :: l => (some w, fifoHold { f with words := l, committed := f.committed - 1 })

/-- A commit: flush, and the commit pointer moves past the word that the flush closed (R107). -/
def fifoCommit (tag : List Nat) (f : PackFifo) : PackFifo :=
  let g := fifoFlush tag f
  { g with committed := g.words.length }

/-- The write pointer goes back to the commit pointer (R109). -/
def fifoRewind (f : PackFifo) : PackFifo := fifoHold { f with words := f.words.take f.committed, filling := [] }

/-- Take the committed words of one tag (R107, R110): their bytes, and the FIFO without them. -/
def fifoTake (tag : List Nat) (f : PackFifo) : Bytes × PackFifo :=
  let mine := (f.words.take f.committed).filter (fun w => w.tag = tag)
  (mine.flatMap (·.bytes),
   fifoHold { f with words := (f.words.take f.committed).filter (fun w => w.tag ≠ tag) ++ f.words.drop f.committed,
                     committed := f.committed - mine.length })

end Sys2Proof.Machine
end

