-- ==== Sys2Proof/Machine/ConfigFields.lean ====
section
/-! DEFINITION. The fields of ENCODE_CONFIG, the picture extension and DECODE_CONFIG as tables of offset, size, class of
change and range (Tables 2.8, 3.5, 4.4, 5.9, 6.5 to 6.8, 7.5 to 7.7, 8.4, 12.7), and the values derived from them. -/

namespace Sys2Proof.Machine

/-- One field: offset, size, when it may change (0 = at any frame, 1 = at a refresh start, 2 = never), its range with a step,
and further values that it may hold. -/
structure CfgField where
  off  : Nat
  size : Nat
  cls  : Nat
  lo   : Nat
  hi   : Nat
  step : Nat
  also : List Nat
deriving DecidableEq, Repr

/-- A field of any value. -/
def anyF (off size cls : Nat) : CfgField := ⟨off, size, cls, 0, 2 ^ 64, 1, []⟩
/-- A field with an inclusive range. -/
def rangeF (off size cls lo hi : Nat) : CfgField := ⟨off, size, cls, lo, hi, 1, []⟩

/-- Table 12.7, general. -/
def fieldsGeneral : List CfgField :=
  [rangeF 0x000 1 2 0 3, rangeF 0x001 1 2 0 2, rangeF 0x002 1 2 0 2, rangeF 0x003 1 2 0 3, rangeF 0x004 1 2 0 64,
   rangeF 0x005 1 0 0 7, rangeF 0x006 2 0 0 50000, anyF 0x008 4 2, anyF 0x00C 4 2, rangeF 0x010 1 0 0 15,
   rangeF 0x011 1 2 0 1, rangeF 0x012 2 2 1 32, rangeF 0x014 4 2 16 4096, anyF 0x018 8 0, anyF 0x020 16 0]

/-- Table 7.5, picture format. -/
def fieldsPicture : List CfgField :=
  [rangeF 0x040 1 2 0 2, ⟨0x041, 1, 2, 0, 4, 1, [6, 7]⟩, rangeF 0x042 1 2 0 3, ⟨0x043, 1, 2, 8, 16, 2, []⟩,
   rangeF 0x044 2 2 64 32768, rangeF 0x046 2 2 64 17280, rangeF 0x048 4 2 1 480000, rangeF 0x04C 4 2 1 1001000,
   anyF 0x050 2 0, anyF 0x052 2 0, anyF 0x054 2 2, anyF 0x056 2 2, ⟨0x058, 2, 2, 64, 32768, 1, [0]⟩,
   ⟨0x05A, 2, 2, 64, 17280, 1, [0]⟩, ⟨0x05C, 1, 2, 0, 3, 1, [0xFF]⟩, ⟨0x05D, 1, 2, 8, 12, 2, [0, 16]⟩,
   rangeF 0x05E 1 2 0 2, rangeF 0x05F 1 2 0 3, ⟨0x060, 1, 2, 1, 1, 1, [9]⟩, ⟨0x061, 1, 2, 1, 1, 1, [14, 16, 18]⟩,
   ⟨0x062, 1, 2, 0, 1, 1, [9]⟩, rangeF 0x063 1 0 0 1, rangeF 0x064 1 0 0 15, rangeF 0x065 1 2 0 1,
   ⟨0x066, 1, 2, 0, 0, 1, [2]⟩, rangeF 0x067 1 2 0 8, ⟨0x068, 4, 2, 0, 2 ^ 32, 256, []⟩, ⟨0x06C, 4, 2, 0, 2 ^ 32, 256, []⟩,
   ⟨0x070, 4, 2, 0, 2 ^ 32, 4096, []⟩, ⟨0x074, 4, 2, 0, 2 ^ 32, 4096, []⟩, rangeF 0x078 1 2 0 1]

/-- Table 2.8, coding tools and structure. -/
def fieldsTools : List CfgField :=
  [anyF 0x080 1 2, anyF 0x081 1 2, rangeF 0x082 1 2 0 1, rangeF 0x083 1 1 0 7, rangeF 0x084 1 2 0 3,
   ⟨0x085, 1, 2, 0, 0, 1, [8, 16, 32]⟩, rangeF 0x086 1 2 1 7, rangeF 0x087 1 1 1 4, anyF 0x088 4 1, rangeF 0x08C 1 2 0 2,
   rangeF 0x08D 1 2 0 1, rangeF 0x08E 2 1 1 256, rangeF 0x090 1 2 0 1, rangeF 0x091 1 2 0 3, rangeF 0x092 1 2 1 64,
   rangeF 0x093 1 2 1 64, rangeF 0x094 1 2 0 1, rangeF 0x095 1 1 0 2, rangeF 0x096 1 2 0 1, anyF 0x098 32 2,
   anyF 0x0B8 32 2, anyF 0x0D8 8 1, anyF 0x0E0 8 1, rangeF 0x0E8 1 1 0 4, anyF 0x0E9 1 0, anyF 0x0EA 1 0,
   rangeF 0x0EB 1 1 0 1, rangeF 0x0EC 1 1 0 1, rangeF 0x0ED 1 1 0 1]

/-- Table 3.5, SEARCH_CONTROL. -/
def fieldsSearch : List CfgField :=
  [⟨0x0F0, 1, 0, 0, 4, 1, [0xFF]⟩, rangeF 0x0F1 1 0 0 4, ⟨0x0F2, 1, 0, 2, 16, 1, [0]⟩, ⟨0x0F3, 1, 0, 0, 64, 4, []⟩,
   ⟨0x0F4, 2, 0, 0, 256, 32, []⟩, ⟨0x0F6, 2, 0, 0, 128, 16, []⟩, ⟨0x0F8, 2, 0, 64, 32764, 4, [0]⟩,
   ⟨0x0FA, 2, 0, 64, 32764, 4, [0]⟩, rangeF 0x0FC 1 0 0 4, rangeF 0x0FD 1 0 0 1, rangeF 0x0FE 1 0 0 1]

/-- Table 4.4, rate and fidelity. -/
def fieldsRate : List CfgField :=
  [rangeF 0x100 1 1 0 4, rangeF 0x101 1 1 0 1, rangeF 0x102 1 1 1 8, rangeF 0x103 1 1 0 1,
   ⟨0x104, 4, 0, 64, 50000000, 1, [0]⟩, anyF 0x108 4 0, anyF 0x10C 4 1, anyF 0x110 4 1, anyF 0x114 2 0, anyF 0x116 2 0,
   anyF 0x118 2 0, anyF 0x11A 2 0, rangeF 0x11C 2 0 5120 25344, rangeF 0x11E 1 0 0 8, ⟨0x120, 2, 0, 5120, 25344, 1, [0]⟩,
   ⟨0x122, 2, 0, 5120, 25344, 1, [0]⟩, ⟨0x124, 2, 0, 0x4000, 0xFFFF, 1, [0]⟩, rangeF 0x126 1 0 0 3, rangeF 0x127 1 0 1 12,
   rangeF 0x128 1 0 0 100, rangeF 0x129 1 0 0 16, ⟨0x130, 8, 0, 0, 2 ^ 64, 4096, []⟩, anyF 0x138 8 0]

/-- Table 5.9, output and packetisation. -/
def fieldsOutput : List CfgField :=
  [rangeF 0x180 1 2 0 1, rangeF 0x181 1 0 0 1, rangeF 0x182 1 0 0 0x7F, rangeF 0x183 1 0 0 2, rangeF 0x184 1 2 0 2,
   rangeF 0x185 1 2 12 24, anyF 0x186 2 2, rangeF 0x188 2 0 256 8952, rangeF 0x18A 1 2 96 127, rangeF 0x18B 1 0 10 100,
   anyF 0x18C 4 2, anyF 0x190 2 2, rangeF 0x192 2 2 0x20 0x1FFE, anyF 0x194 4 2, rangeF 0x198 2 2 0x20 0x1FFE,
   anyF 0x19A 2 0]

/-- Table 8.4, distribution and determinism. -/
def fieldsDist : List CfgField :=
  [rangeF 0x1C0 1 2 0 1, rangeF 0x1C1 1 2 0 1, ⟨0x1C2, 1, 2, 0, 64, 1, [0xFF]⟩, ⟨0x1C3, 1, 2, 0, 64, 1, [0xFF]⟩,
   ⟨0x1C4, 4, 2, 256, 65536, 1, [0]⟩, ⟨0x1C8, 4, 2, 256, 32768, 1, [0]⟩, rangeF 0x1CC 1 2 0 1, rangeF 0x1CD 1 0 0 1,
   rangeF 0x1CE 1 0 0 1, rangeF 0x1CF 1 0 0 1, anyF 0x1D0 4 2, anyF 0x1D4 4 2, ⟨0x1D8, 8, 2, 0, 2 ^ 64, 2, []⟩,
   ⟨0x1E0, 8, 2, 0, 2 ^ 64, 2, []⟩, rangeF 0x1E8 2 0 10 5000, anyF 0x1EA 2 0]

/-- Every field of ENCODE_CONFIG. -/
def encodeFields : List CfgField :=
  fieldsGeneral ++ fieldsPicture ++ fieldsTools ++ fieldsSearch ++ fieldsRate ++ fieldsOutput ++ fieldsDist

/-- Table 7.6, the picture extension; its rungs are checked one by one. -/
def fieldsExt : List CfgField :=
  [rangeF 0x200 1 2 0 3, rangeF 0x201 1 2 0 2, anyF 0x202 1 2, rangeF 0x203 1 2 0 1, anyF 0x204 8 2, anyF 0x20C 2 2,
   anyF 0x20E 8 2]

/-- Table 7.7, a rung at its base offset. -/
def fieldsRung (b : Nat) : List CfgField :=
  [rangeF b 2 2 64 32768, rangeF (b + 2) 2 2 64 17280, rangeF (b + 4) 1 2 0 4, rangeF (b + 5) 1 2 0 3,
   ⟨b + 6, 1, 2, 8, 12, 2, [16]⟩, rangeF (b + 7) 1 2 2 16, ⟨b + 8, 8, 2, 0, 2 ^ 64, 4096, []⟩]

/-- Tables 6.5 to 6.8, DECODE_CONFIG. -/
def decodeFields : List CfgField :=
  [rangeF 0x00 1 2 0 3, anyF 0x01 1 2, rangeF 0x02 1 2 0 3, ⟨0x03, 1, 2, 8, 12, 2, [16]⟩, rangeF 0x04 2 2 64 32768,
   rangeF 0x06 2 2 64 17280, rangeF 0x08 4 2 1 480000, rangeF 0x0C 4 2 1 1001000, rangeF 0x10 4 2 64 50000000,
   rangeF 0x14 1 2 0 2, rangeF 0x15 1 2 0 2, rangeF 0x16 1 2 0 3, rangeF 0x17 1 2 0 1, rangeF 0x18 1 2 0 1,
   rangeF 0x40 1 0 0 4, ⟨0x41, 1, 0, 0, 3, 1, [0xFF]⟩, ⟨0x42, 1, 0, 8, 12, 2, [0, 16]⟩, rangeF 0x43 1 0 0 1,
   ⟨0x44, 2, 0, 64, 32768, 1, [0]⟩, ⟨0x46, 2, 0, 64, 17280, 1, [0]⟩, rangeF 0x48 1 0 0 4, rangeF 0x49 1 2 0 1,
   rangeF 0x4A 1 2 0 1] ++
  [rangeF 0x80 1 0 0 4, rangeF 0x81 1 0 0 1, anyF 0x82 2 0, anyF 0x84 2 0, anyF 0x86 2 0, rangeF 0x88 1 0 0 1,
   rangeF 0x89 1 0 0 1, rangeF 0x8A 1 2 0 16, ⟨0x90, 8, 2, 0, 2 ^ 64, 4096, []⟩, rangeF 0x98 4 0 0 1000000,
   rangeF 0xC0 1 2 0 1, rangeF 0xC1 1 2 96 127, rangeF 0xC2 1 2 0 1, rangeF 0xC3 1 2 0 2, anyF 0xC4 4 2, anyF 0xC8 2 2,
   ⟨0xCA, 2, 2, 0x20, 0x1FFE, 1, [0]⟩, rangeF 0xCC 4 2 0 10000, anyF 0xD0 4 2]

/-- Is a field's value within its range? -/
def fieldOk (c : Bytes) (f : CfgField) : Bool :=
  if 8 < f.size then true
  else let v := ule c f.off f.size; (f.lo ≤ v && v ≤ f.hi && v % f.step == 0) || f.also.contains v

/-- Range checks of a table. -/
def rangeChecks (c : Bytes) (l : List CfgField) : List (Bool × Nat) := l.map (fun f => (fieldOk c f, f.off))

/-! ### Derived values of ENCODE_CONFIG -/

def cStd (c : Bytes) : Nat := u8 c 0x000
def cSource (c : Bytes) : Nat := u8 c 0x001
def cSink (c : Bytes) : Nat := u8 c 0x002
def cRaw (c : Bytes) : Bool := u8 c 0x040 == 2
def cStructure (c : Bytes) : Nat := u8 c 0x084
def cEffort (c : Bytes) : Nat := u8 c 0x083
def cRateMode (c : Bytes) : Nat := u8 c 0x100
def cDist (c : Bytes) : Bool := u8 c 0x1C0 == 1
def cDelay (c : Bytes) : Nat := u8 c 0x102

/-- The coded chroma format (R161, Table 7.5). -/
def cChroma (c : Bytes) : Nat := if cRaw c then 0 else if u8 c 0x05C = 0xFF then u8 c 0x042 else u8 c 0x05C

/-- The coded bit depth (R161, Table 7.5). -/
def cDepth (c : Bytes) : Nat :=
  if cRaw c then (if u8 c 0x043 = 12 then 12 else 16) else if u8 c 0x05D = 0 then u8 c 0x043 else u8 c 0x05D

/-- CTU size of a standard (Table 0.4). -/
def ctuSize (std sb : Nat) : Nat :=
  match std with
  | 0 => 128 | 1 => 64 | 2 => 16 | _ => if sb = 1 then 64 else 128
def cCtu (c : Bytes) : Nat := ctuSize (cStd c) (u8 c 0x090)
def cuLog2 (s : Nat) : Nat := if s = 128 then 7 else if s = 64 then 6 else if s = 32 then 5 else 4

/-- Width and height of the cropped source (R155). -/
def cropW (c : Bytes) : Nat := if u16 c 0x054 = 0 then u16 c 0x044 - u16 c 0x050 else u16 c 0x054
def cropH (c : Bytes) : Nat := if u16 c 0x056 = 0 then u16 c 0x046 - u16 c 0x052 else u16 c 0x056

/-- A raw dimension as coded (R161). -/
def rawDim (w s : Nat) : Nat := cdiv (w / 2) s * s + w / 2

/-- Coded width and height before padding (R155, R161, R172). -/
def codeW (c : Bytes) : Nat :=
  if cDist c then u32 c 0x1C4 else if cRaw c then rawDim (u16 c 0x044) (cCtu c)
  else if u16 c 0x058 = 0 then cropW c else u16 c 0x058
def codeH (c : Bytes) : Nat :=
  if cDist c then u32 c 0x1C8 else if cRaw c then rawDim (u16 c 0x046) (cCtu c)
  else if u16 c 0x05A = 0 then cropH c else u16 c 0x05A

/-- Padding of R157. -/
def padUnit (c : Bytes) : Nat := if cStd c = 2 then 16 else 8
def padW (c : Bytes) : Nat := roundUp (codeW c) (padUnit c)
def padH (c : Bytes) : Nat := roundUp (codeH c) (padUnit c)

/-- Picture size in coding units. -/
def wCtu (c : Bytes) : Nat := cdiv (codeW c) (cCtu c)
def hCtu (c : Bytes) : Nat := cdiv (codeH c) (cCtu c)

/-- Are tiles on? -/
def tilesOn (c : Bytes) : Bool := u8 c 0x091 == 1 || u8 c 0x091 == 3
/-- Is wavefront on? -/
def wavefrontOn (c : Bytes) : Bool := u8 c 0x091 == 2 || u8 c 0x091 == 3

/-- Uniform tile sizes of n tiles over w coding units: the even split, or AV1's equal steps (Table 2.8). -/
def uniformTiles (std w n : Nat) : List Nat :=
  if std = 3 then
    let step := cdiv w n
    (List.range (cdiv w step)).map (fun i => min step (w - i * step))
  else (List.range n).map (fun i => (i + 1) * w / n - i * w / n)

/-- Explicit tile sizes at an offset. -/
def explicitTiles (c : Bytes) (off n : Nat) : List Nat := (List.range (min n 16)).map (fun i => u16 c (off + 2 * i))

/-- Tile column widths and row heights in coding units. -/
def tileCols (c : Bytes) : List Nat :=
  if !tilesOn c then [wCtu c] else if u8 c 0x094 = 1 then uniformTiles (cStd c) (wCtu c) (u8 c 0x092)
  else explicitTiles c 0x098 (u8 c 0x092)
def tileRows (c : Bytes) : List Nat :=
  if !tilesOn c then [hCtu c] else if u8 c 0x094 = 1 then uniformTiles (cStd c) (hCtu c) (u8 c 0x093)
  else explicitTiles c 0x0B8 (u8 c 0x093)

/-- CTU rows of a band, and the bands of a picture (R27, Table 12.7). -/
def bandRows (c : Bytes) : Nat := if u8 c 0x004 = 0 then hCtu c else min (u8 c 0x004) (hCtu c)
def bandCount (c : Bytes) : Nat := cdiv (hCtu c) (bandRows c)

/-- Slices of a picture (Table 2.8). -/
def sliceCount (c : Bytes) : Nat :=
  match u8 c 0x095 with
  | 1 => hCtu c * (tileCols c).length
  | 2 => bandCount c
  | _ => (tileCols c).length * (tileRows c).length

/-- Effort defaults of Table 3.2: SURVEY_REFS, SURVEY_CANDS, ASSAY_CANDS, ASSAY_RANGE, WIN_X, WIN_Y, SUBPEL (0x2 half, 0x3
quarter, 0x4 eighth), Survey cycles per cell and reference. -/
structure SearchDefaults where
  refs : Nat
  cands : Nat
  assay : Nat
  range : Nat
  winX : Nat
  winY : Nat
  subpel : Nat
  cost : Nat
deriving DecidableEq, Repr

/-- Table 3.2. -/
def searchDefaults (std effort : Nat) : SearchDefaults :=
  let fine := if std = 3 then 4 else 3
  match effort with
  | 0 => ⟨0, 0, 3, 4, 32, 16, 2, 0⟩
  | 1 => ⟨1, 1, 4, 8, 32, 16, 3, 150⟩
  | 2 => ⟨2, 1, 5, 8, 64, 32, 3, 150⟩
  | 3 => ⟨2, 2, 6, 12, 64, 32, 3, 150⟩
  | 4 => ⟨2, 2, 8, 16, 64, 64, 3, 150⟩
  | 5 => ⟨3, 3, 10, 16, 96, 64, fine, 200⟩
  | 6 => ⟨4, 3, 12, 24, 128, 64, fine, 200⟩
  | _ => ⟨4, 4, 16, 32, 128, 96, fine, 275⟩

/-- References surveyed (R55). -/
def surveyRefs (c : Bytes) : Nat :=
  if cStructure c = 0 then 0
  else if u8 c 0x0F0 = 0xFF then 0
  else if u8 c 0x0F0 = 0 then min (searchDefaults (cStd c) (cEffort c)).refs (u8 c 0x087)
  else u8 c 0x0F0

/-- A search field, or its effort default when 0. -/
def orDefault (v d : Nat) : Nat := if v = 0 then d else v
def surveyCands (c : Bytes) : Nat := orDefault (u8 c 0x0F1) (searchDefaults (cStd c) (cEffort c)).cands
def assayCands (c : Bytes) : Nat := orDefault (u8 c 0x0F2) (searchDefaults (cStd c) (cEffort c)).assay
def assayRange (c : Bytes) : Nat := orDefault (u8 c 0x0F3) (searchDefaults (cStd c) (cEffort c)).range
def winX (c : Bytes) : Nat := orDefault (u16 c 0x0F4) (searchDefaults (cStd c) (cEffort c)).winX
def winY (c : Bytes) : Nat := orDefault (u16 c 0x0F6) (searchDefaults (cStd c) (cEffort c)).winY
def subpel (c : Bytes) : Nat := orDefault (u8 c 0x0FC) (searchDefaults (cStd c) (cEffort c)).subpel

/-- Cells of a picture (R54). -/
def cellCols (c : Bytes) : Nat := cdiv (codeW c) 64
def cellCount (c : Bytes) : Nat := cellCols c * cdiv (codeH c) 64

/-- Bytes of the motion map area: eight slots (R73). -/
def motionMapBytes (c : Bytes) : Nat := 8 * (cdiv (8 * cellCount c) 4096 * 4096)

/-- Bytes of one fidelity map (R98). -/
def fmapSlot (c : Bytes) : Nat := cdiv (64 + 16 * (wCtu c * hCtu c)) 4096 * 4096

/-- Is a floor configured (R87)? -/
def floorPsnrC (c : Bytes) : Nat := if cChroma c = 0 then 0 else u16 c 0x122
def floorOn (c : Bytes) : Bool := u16 c 0x120 != 0 || floorPsnrC c != 0 || u16 c 0x124 != 0
/-- The offset of the first floor field set. -/
def firstFloor (c : Bytes) : Nat := if u16 c 0x120 != 0 then 0x120 else if floorPsnrC c != 0 then 0x122 else 0x124

/-- The quantiser scale of the standard (R75). -/
def qpLow (c : Bytes) : Int := if cStd c = 3 then 0 else -6 * ((cDepth c : Int) - 8)
def qpHigh (c : Bytes) : Int := if cStd c = 3 then 255 else if cStd c = 0 then 63 else 51
def minQp (c : Bytes) : Int := if u16 c 0x118 = 0x8000 then qpLow c else s16 c 0x118
def maxQp (c : Bytes) : Int := if u16 c 0x11A = 0x8000 then qpHigh c else s16 c 0x11A

/-- Chroma subsampling factors of a format. -/
def subX (chroma : Nat) : Nat := if chroma = 1 ∨ chroma = 2 then 2 else 1
def subY (chroma : Nat) : Nat := if chroma = 1 then 2 else 1

/-! ### Frame layouts (Table 7.2, R151) -/

/-- Row bytes for `w` samples. -/
def rowBytes (layout depth w : Nat) : Nat :=
  match layout with
  | 2 => 4 * cdiv w 3
  | 3 => 2 * w
  | 4 => 4 * w
  | 6 => 2 * w
  | 7 => 3 * cdiv w 2
  | _ => if depth = 8 then w else 2 * w

/-- Planes of a picture: row bytes and rows of each. -/
def planesOf (layout chroma depth w h : Nat) : List (Nat × Nat) :=
  let cw := cdiv w (subX chroma)
  let ch := cdiv h (subY chroma)
  if layout = 4 ∨ layout = 6 ∨ layout = 7 then [(rowBytes layout depth w, h)]
  else if chroma = 0 then [(rowBytes layout depth w, h)]
  else if layout = 1 then [(rowBytes layout depth w, h), (rowBytes layout depth (2 * cw), ch)]
  else [(rowBytes layout depth w, h), (rowBytes layout depth cw, ch), (rowBytes layout depth cw, ch)]

/-- Bytes of a picture in the default packing (R151). -/
def packedBytes (l : List (Nat × Nat)) : Nat := l.foldl (fun n p => roundUp n 4096 + roundUp p.1 256 * p.2) 0

/-- Does a layout admit a format (Table 7.2)? -/
def layoutAdmits (layout chroma depth w : Nat) (raw : Bool) : Bool :=
  match layout with
  | 0 => !raw
  | 1 => !raw && (chroma == 1 || chroma == 2)
  | 2 => !raw && depth == 10
  | 3 => !raw && decide (8 < depth)
  | 4 => !raw && chroma == 2 && w % 2 == 0
  | 6 => raw
  | 7 => raw && depth == 12 && w % 2 == 0
  | _ => false

/-- Source size as the buffers hold it. -/
def srcW (c : Bytes) : Nat := if cDist c then u32 c 0x1C4 else u16 c 0x044
def srcH (c : Bytes) : Nat := if cDist c then u32 c 0x1C8 else u16 c 0x046

/-- Planes of the source. -/
def srcPlanes (c : Bytes) : List (Nat × Nat) := planesOf (u8 c 0x041) (u8 c 0x042) (u8 c 0x043) (srcW c) (srcH c)

/-- Bytes that a picture buffer must hold (R151, R257). -/
def srcBytes (c : Bytes) : Nat :=
  if u32 c 0x068 = 0 then packedBytes (srcPlanes c)
  else
    match srcPlanes c with
    | [] => 0
    | p :: l =>
      let offs := [u32 c 0x070, u32 c 0x074]
      (l.zip offs).foldl (fun n q => max n (q.2 + u32 c 0x06C * q.1.2)) (u32 c 0x068 * p.2)

/-! ### Derived values of DECODE_CONFIG -/

/-- Coding-unit sizes of a standard, largest first (R127). -/
def decodeSizes (std : Nat) : List Nat :=
  match std with
  | 0 => [128, 64, 32] | 1 => [64, 32, 16] | 2 => [16] | _ => [128, 64]

/-- Bytes of one concealment map (R143). -/
def cmapSlot (c : Bytes) : Nat :=
  let s := (decodeSizes (u8 c 0)).getLastD 16
  cdiv (64 + 2 * (cdiv (u16 c 4) s * cdiv (u16 c 6) s)) 4096 * 4096

/-- Largest output picture of a decode session (R258): as decoded where no size or format is named. -/
def decOutBytes (c : Bytes) : Nat :=
  let chroma := if u8 c 0x41 = 0xFF then u8 c 2 else u8 c 0x41
  let depth := if u8 c 0x42 = 0 then u8 c 3 else u8 c 0x42
  let w := if u16 c 0x44 = 0 then u16 c 4 else u16 c 0x44
  let h := if u16 c 0x46 = 0 then u16 c 6 else u16 c 0x46
  packedBytes (planesOf (u8 c 0x40) chroma depth w h)

end Sys2Proof.Machine
end

