-- ==== Sys2Proof/Machine/ConfigCheck.lean ====
section
/-! DEFINITION. The checks of a session's configuration (R39, R146, R485) and of a change of it (R255).  Each check is a
condition and the offset that its failure reports; the lowest failing offset is the one reported. -/

namespace Sys2Proof.Machine

/-! ### Levels (R31, R32, R36, R486) -/

/-- A limit of a level for the session. -/
def levelLim (c : Bytes) (level item : Nat) : Nat :=
  Config.levelLimit (cStd c) level (u8 c 0x082) (u8 c 0x080) (cChroma c) (cDepth c) item

/-- Highest level of Table 2.2, and the code that signals a session beyond it. -/
def highestLevel (std : Nat) : Nat := match std with | 0 => 105 | 1 => 186 | 2 => 62 | _ => 19
def beyondLevel (std : Nat) : Option Nat := match std with | 0 => some 255 | 1 => some 255 | 2 => none | _ => some 31

/-- The fields that set width, height and bit rate (R486). -/
def widthField (c : Bytes) : Nat :=
  if cDist c then 0x1C4 else if u16 c 0x058 != 0 then 0x058 else if u16 c 0x054 != 0 then 0x054 else 0x044
def heightField (c : Bytes) : Nat :=
  if cDist c then 0x1C8 else if u16 c 0x05A != 0 then 0x05A else if u16 c 0x056 != 0 then 0x056 else 0x046
def bitrateField (c : Bytes) : Nat := if u32 c 0x108 != 0 then 0x108 else 0x104
def bitrateOf (c : Bytes) : Nat := if u32 c 0x108 != 0 then u32 c 0x108 else u32 c 0x104
/-- The fields of tile columns and rows (R30). -/
def colField (c : Bytes) : Nat := if u8 c 0x094 = 1 then 0x092 else 0x098
def rowField (c : Bytes) : Nat := if u8 c 0x094 = 1 then 0x093 else 0x0B8

/-- Picture dimensions that a level judges: AVC counts whole macroblocks (R36). -/
def levelW (c : Bytes) : Nat := if cStd c = 2 then padW c else codeW c
def levelH (c : Bytes) : Nat := if cStd c = 2 then padH c else codeH c

/-- The limits of R486 at a level. -/
def levelChecks (c : Bytes) (level : Nat) : List (Bool × Nat) :=
  let cols := (tileCols c).length
  let rows := (tileRows c).length
  [(decide (levelW c * levelH c ≤ levelLim c level 0) && decide (levelW c ≤ levelLim c level 1), widthField c),
   (decide (levelH c ≤ levelLim c level 2), heightField c),
   (decide (levelW c * levelH c * u32 c 0x048 ≤ levelLim c level 3 * u32 c 0x04C), 0x048),
   (decide (bitrateOf c ≤ levelLim c level 4), bitrateField c),
   (decide (u32 c 0x10C ≤ levelLim c level 5), 0x10C),
   (decide (cols ≤ levelLim c level 6) && decide (cols * rows ≤ levelLim c level 8), colField c),
   (decide (rows ≤ levelLim c level 7), rowField c),
   (decide (sliceCount c ≤ levelLim c level 9), if u8 c 0x095 = 2 then 0x004 else 0x095),
   (cStructure c == 0 || cStd c == 3 || decide (u8 c 0x086 ≤ Config.levelRefs (cStd c) level (levelW c * levelH c)), 0x086)]

/-- Does the session meet a level? -/
def meetsLevel (c : Bytes) (level : Nat) : Bool :=
  Config.levelNamed (cStd c) level (u8 c 0x082) && (firstFail (levelChecks c level)).isNone

/-- Does the picture size, picture rate or bit rate exceed the highest level (R31)? -/
def exceedsHighest (c : Bytes) : Bool :=
  (firstFail ((levelChecks c (highestLevel (cStd c))).take 4)).isSome

/-- The level that the session signals: none when it lies beyond the highest level of Table 2.2. -/
def signalledLevel (c : Bytes) : Option Nat :=
  if u8 c 0x081 != 0 then (if some (u8 c 0x081) = beyondLevel (cStd c) then none else some (u8 c 0x081))
  else
    match (List.range (highestLevel (cStd c) + 1)).find? (meetsLevel c) with
    | some l => some l
    | none => if (beyondLevel (cStd c)).isSome && exceedsHighest c then none else some (highestLevel (cStd c))

/-- Coded picture buffer in force in 1,000 bits; 0 when there is none (Table 4.4). -/
def cpbOf (c : Bytes) : Nat :=
  if u32 c 0x10C != 0 then u32 c 0x10C
  else match signalledLevel c with | some l => levelLim c l 5 | none => 0

/-- Decoder input rate of R81 in 1,000 b/s. -/
def decoderRate (c : Bytes) : Nat := if cRateMode c = 0 then u32 c 0x104 else u32 c 0x108

/-- Checks of LEVEL and of what a level sets. -/
def levelRules (c : Bytes) : List (Bool × Nat) :=
  match signalledLevel c with
  | some l =>
    (Config.levelNamed (cStd c) l (u8 c 0x082), if Config.levelNamed (cStd c) l 0 then 0x082 else 0x081) :: levelChecks c l
  | none => [(u8 c 0x103 != 1 || u32 c 0x10C != 0, 0x10C)]

/-! ### Profiles (Table 2.8; which formats a profile admits is taken from the standards, log entry 29) -/

/-- Does a profile code admit the coded chroma format and bit depth? -/
def profileAdmits (std profile chroma depth : Nat) : Bool :=
  match std, profile with
  | 0, 1 => decide (chroma ≤ 1 ∧ depth ≤ 10)
  | 0, 2 => decide (chroma ≤ 1 ∧ depth ≤ 12)
  | 0, 10 => decide (chroma ≤ 1 ∧ depth ≤ 12)
  | 0, 33 => decide (depth ≤ 10)
  | 0, 34 => decide (depth ≤ 12)
  | 0, 42 => decide (depth ≤ 12)
  | 0, 43 => true
  | 1, 1 => decide (chroma = 1 ∧ depth = 8)
  | 1, 2 => decide (chroma = 1 ∧ depth ≤ 10)
  | 1, 4 => true
  | 2, 110 => decide (chroma ≤ 1 ∧ depth ≤ 10)
  | 2, 122 => decide (chroma ≤ 2 ∧ depth ≤ 10)
  | 2, 244 => decide (depth ≤ 12)
  | 3, 0 => decide (chroma ≤ 1 ∧ depth ≤ 10)
  | 3, 1 => decide (chroma = 3 ∧ depth ≤ 10)
  | 3, 2 => decide ((chroma = 2 ∧ depth ≤ 10) ∨ depth = 12)
  | _, _ => false

/-- VVC profiles that are intra-only by their code. -/
def intraCode (std profile : Nat) : Bool := std == 0 && (profile == 10 || profile == 42 || profile == 43)

/-- INTRA_PROFILE may be 0x1. -/
def intraAllowed (std profile : Nat) : Bool :=
  (std == 1 && profile == 4) || (std == 2 && (profile == 110 || profile == 122))

/-! ### Rules of each sub-block -/

/-- The flow that a session names for ingress or egress: the kind it must have, and unbound (R365). -/
def flowFree (s : State) (flow kind : Nat) : Bool :=
  decide (flow < 16384) && (match tfind s.net.flows flow with
    | some f => u8 f.raw 0 == kind && f.session == 0
    | none => false)

/-- General (Table 12.7); `bound` says that the flows are the session's own already. -/
def generalRules (s : State) (bound : Bool) (c : Bytes) : List (Bool × Nat) :=
  [(cSource c == 1 || u8 c 0x003 == 0, 0x003),
   (if cSource c = 2 then bound || flowFree s (u32 c 0x008) 2 else u32 c 0x008 == 0, 0x008),
   (if cSink c = 0 then u32 c 0x00C == 0 else bound || flowFree s (u32 c 0x00C) 3, 0x00C)]

/-- Crop in one direction: multiples of the subsampling factor, inside the source, at least 64 samples (R155). -/
def cropRules (size left width step oLeft oWidth : Nat) : List (Bool × Nat) :=
  [(left % step == 0 && decide (left < size) && (width != 0 || decide (left + 64 ≤ size)), oLeft),
   (width % step == 0 && (width == 0 || decide (left + width ≤ size ∧ 64 ≤ width)), oWidth)]

/-- Picture format (R150 to R166). -/
def pictureRules (c : Bytes) (reconf : Bool) : List (Bool × Nat) :=
  let chroma := u8 c 0x042
  let depth := u8 c 0x043
  let strided := cSource c == 0
  let rows := srcPlanes c
  [(!cRaw c || decide (cStd c < 2), 0x040),
   (layoutAdmits (u8 c 0x041) chroma depth (u16 c 0x044) (cRaw c), 0x041),
   (u8 c 0x040 != 1 || chroma == 3, 0x042),
   (if cRaw c then decide (12 ≤ depth) else depth != 14, 0x043),
   (!cRaw c || decide (128 ≤ u16 c 0x044 ∧ u16 c 0x044 % 2 = 0), 0x044),
   (!cRaw c || decide (128 ≤ u16 c 0x046 ∧ u16 c 0x046 % 2 = 0), 0x046),
   (decide (u32 c 0x04C ≤ u32 c 0x048 ∧ u32 c 0x048 ≤ 480 * u32 c 0x04C), 0x048),
   (u8 c 0x05E == 0 || u8 c 0x040 == 1, 0x05E),
   (u8 c 0x065 == 0 || (u8 c 0x064 != 0 && bitOf (u8 c 0x182) 4), if reconf && u8 c 0x064 == 0 then 0x064 else 0x065),
   ((!cRaw c && u8 c 0x067 == 0) || u8 c 0x078 == 1, 0x078)] ++
  (if cRaw c then
    [(u16 c 0x050 == 0, 0x050), (u16 c 0x052 == 0, 0x052), (u16 c 0x054 == 0, 0x054), (u16 c 0x056 == 0, 0x056),
     (u16 c 0x058 == 0, 0x058), (u16 c 0x05A == 0, 0x05A), (cRateMode c == 4, 0x100)]
   else cropRules (u16 c 0x044) (u16 c 0x050) (u16 c 0x054) (subX chroma) 0x050 0x054
     ++ cropRules (u16 c 0x046) (u16 c 0x052) (u16 c 0x056) (subY chroma) 0x052 0x056) ++
  (if cDist c then [(u16 c 0x054 == 0, 0x054), (u16 c 0x056 == 0, 0x056), (u16 c 0x058 == 0, 0x058),
     (u16 c 0x05A == 0, 0x05A)] else []) ++
  (if strided then
     (if u32 c 0x068 = 0 then [] else
       [(rows.head?.all (fun p => decide (p.1 ≤ u32 c 0x068)), 0x068),
        (rows.tail.all (fun p => decide (p.1 ≤ u32 c 0x06C)), 0x06C)])
   else [(u32 c 0x068 == 0, 0x068), (u32 c 0x06C == 0, 0x06C), (u32 c 0x070 == 0, 0x070), (u32 c 0x074 == 0, 0x074)])

/-- Explicit tile sizes: the first entries non-zero with the right sum, the rest 0. -/
def explicitOk (c : Bytes) (off n total : Nat) : Bool :=
  let l := (List.range 16).map (fun i => u16 c (off + 2 * i))
  (l.take n).all (· != 0) && (l.take n).foldl (· + ·) 0 == total && (l.drop n).all (· == 0)

/-- Is a number a power of two below 128? -/
def isPow2 (n : Nat) : Bool := [1, 2, 4, 8, 16, 32, 64].contains n

/-- The largest of a list. -/
def maxOf (l : List Nat) : Nat := l.foldl max 0

/-- Tiles (R30, Table 2.8). -/
def tileRules (c : Bytes) : List (Bool × Nat) :=
  let explicit := tilesOn c && u8 c 0x094 == 0
  let cols := tileCols c
  let rows := tileRows c
  let s := cCtu c
  [((tilesOn c || u8 c 0x092 == 1) && decide (u8 c 0x092 ≤ wCtu c) && (!explicit || decide (u8 c 0x092 ≤ 16)), 0x092),
   ((tilesOn c || u8 c 0x093 == 1) && decide (u8 c 0x093 ≤ hCtu c) && (!explicit || decide (u8 c 0x093 ≤ 16)), 0x093),
   (!explicit || explicitOk c 0x098 (u8 c 0x092) (wCtu c), 0x098),
   (!explicit || explicitOk c 0x0B8 (u8 c 0x093) (hCtu c), 0x0B8)] ++
  (if cStd c = 3 && tilesOn c && !explicit then
    [(isPow2 (u8 c 0x092) && cols.length == u8 c 0x092, 0x092), (isPow2 (u8 c 0x093) && rows.length == u8 c 0x093, 0x093)]
   else []) ++
  (if cStd c = 1 then
    [(cols.length ≤ 1 || cols.all (fun w => decide (256 ≤ w * s)), colField c),
     (rows.length ≤ 1 || rows.all (fun h => decide (64 ≤ h * s)), rowField c)] else []) ++
  (if cStd c = 3 then
    [(decide (maxOf cols * s ≤ 4096 ∧ maxOf cols * s * (maxOf rows * s) ≤ 4096 * 2304), colField c)] else [])

/-- Deblocking offset range of a standard. -/
def deblockLim (std : Nat) : Int := match std with | 0 => 12 | 1 => 6 | 2 => 6 | _ => 0

/-- Coding tools and structure (R36, R37, R39, Table 2.8). -/
def toolRules (c : Bytes) : List (Bool × Nat) :=
  let std := cStd c
  let st := cStructure c
  let prof := u8 c 0x080
  let sweep := u8 c 0x08D == 1
  [(profileAdmits std prof (cChroma c) (cDepth c), 0x080),
   (std != 2 || u8 c 0x082 == 0, 0x082),
   (!intraCode std prof || st == 0, 0x084),
   (if st = 3 then u8 c 0x085 != 0 && u32 c 0x088 % u8 c 0x085 == 0 else u8 c 0x085 == 0, 0x085),
   (decide (u8 c 0x087 ≤ u8 c 0x086), 0x086),
   (!sweep || u32 c 0x088 == 0, 0x088),
   (std < 2 || u8 c 0x08C == 0, 0x08C),
   (!sweep || (std != 3 && (st == 1 || st == 2)), 0x08D),
   (decide (u16 c 0x08E ≤ wCtu c), 0x08E),
   (std == 3 || u8 c 0x090 == 0, 0x090),
   ((std != 2 || u8 c 0x091 == 0 || u8 c 0x091 == 2) && (std != 3 || decide (u8 c 0x091 ≤ 1)), 0x091),
   ((u8 c 0x096 == 0 || (st == 0 && intraAllowed std prof)) && (!(std == 1 && cDepth c == 16) || u8 c 0x096 == 1), 0x096),
   (Nat.land (u64 c 0x0D8) (u64 c 0x0E0) == 0, 0x0D8),
   (std == 0 || u8 c 0x0E8 == 0, 0x0E8),
   (inRangeI (s8 c 0x0E9) (-deblockLim std) (deblockLim std), 0x0E9),
   (inRangeI (s8 c 0x0EA) (-deblockLim std) (deblockLim std), 0x0EA),
   (u8 c 0x0F0 == 0xFF || decide (u8 c 0x0F0 ≤ u8 c 0x087), 0x087),
   (std == 3 || u8 c 0x0FC != 4, 0x0FC)]

/-- Rate and fidelity (R74, R75, R82, R93, Table 4.4); `g` is the size of the function's grant. -/
def rateRules (c : Bytes) (g : Nat) : List (Bool × Nat) :=
  let m := cRateMode c
  let target := u32 c 0x104
  let maxRate := u32 c 0x108
  let avcLossy := cStd c == 2 && u8 c 0x080 != 244
  [(!(avcLossy && m == 4), 0x100),
   (if m = 0 then u8 c 0x103 == 1 else if m = 2 ∨ m = 4 then u8 c 0x103 == 0 else true, 0x103),
   (decide (2 ≤ m) || target != 0, 0x104),
   (if m = 0 then maxRate == 0 || maxRate == target else if m = 1 then decide (target ≤ maxRate) else true, 0x104),
   (!(m == 0 && u32 c 0x10C != 0) || decide (target * u32 c 0x04C ≤ u32 c 0x10C * u32 c 0x048), 0x10C),
   (u8 c 0x103 != 1 || u32 c 0x110 == 0 || decoderRate c == 0 || decide (u32 c 0x110 ≤ cpbOf c * 90000 / decoderRate c), 0x110),
   (inRangeI (s16 c 0x114) (qpLow c) (qpHigh c), 0x114),
   (inRangeI (s16 c 0x116) (qpLow c) (qpHigh c), 0x116),
   (inRangeI (minQp c) (qpLow c) (qpHigh c) && decide (minQp c ≤ maxQp c), 0x118),
   (inRangeI (maxQp c) (qpLow c) (qpHigh c), 0x11A),
   (!floorOn c || (m != 4 && !(avcLossy && u8 c 0x101 == 0)), firstFloor c),
   (u8 c 0x129 == 0 || decide (u64 c 0x130 + u8 c 0x129 * fmapSlot c ≤ g), 0x130)]

/-- An entry of the key store that a session of the function may name (R439). -/
def keyUsable (s : State) (fn keyId typ : Nat) : Bool :=
  match tfind s.sec.keys keyId with
  | some k => keyId != 0 && k.typ == typ && k.functions.getLsbD fn
  | none => false

/-- Output and packetisation (R125, R439, Table 5.9). -/
def outputRules (s : State) (fn : Nat) (c : Bytes) : List (Bool × Nat) :=
  let enc := u8 c 0x184
  [(bitOf (u8 c 0x182) 6 == cRaw c, 0x182),
   (if enc = 1 then cSink c == 1 else if enc = 2 then cSink c == 0 else true, 0x184),
   (enc == 0 || keyUsable s fn (u16 c 0x186) enc, 0x186),
   (u16 c 0x192 != u16 c 0x198, 0x192)]

/-- Tile boundaries that a split mask marks, and the CTU counts of the regions (R170). -/
def regionSizes (mask : Nat) (sizes : List Nat) : List Nat :=
  let r := sizes.zipIdx.foldl (fun (acc : List Nat × Nat) p =>
    if p.2 != 0 && bitOf mask p.2 then (acc.1 ++ [acc.2], p.1) else (acc.1, acc.2 + p.1)) ([], 0)
  r.1 ++ [r.2]

/-- Sizes of regions in luma samples: the last one ends at the picture edge. -/
def regionDims (mask : Nat) (sizes : List Nat) (s full : Nat) : List Nat :=
  let l := regionSizes mask sizes
  l.zipIdx.map (fun p => if p.2 + 1 = l.length then full - (l.dropLast.foldl (· + ·) 0) * s else p.1 * s)

/-- Regions (R170 to R172, Table 8.2). -/
def distRules (c : Bytes) : List (Bool × Nat) :=
  let std := cStd c
  if cDist c then
    let w := regionDims (u64 c 0x1D8) (tileCols c) (cCtu c) (u32 c 0x1C4)
    let h := regionDims (u64 c 0x1E0) (tileRows c) (cCtu c) (u32 c 0x1C8)
    let few := std == 0 && u8 c 0x1C1 == 0 && u8 c 0x1CC == 0
    [(std == 0 || u8 c 0x1C1 == 0, 0x1C1), (decide (256 ≤ u32 c 0x1C4), 0x1C4), (decide (256 ≤ u32 c 0x1C8), 0x1C8),
     (std != 1 || u8 c 0x1CC == 1 || u8 c 0x0EB == 0, 0x0EB),
     (std != 3 || u8 c 0x1CC == 1 || u8 c 0x0EC == 1, 0x1CC),
     (w.all (inRange · 256 32768) && decide (w.length ≤ if std = 2 then 1 else if few then 4 else 16), 0x1D8),
     (h.all (inRange · 256 17280) && (!few || decide (h.length ≤ 4)), 0x1E0)]
  else [(std == 0 || u8 c 0x1C1 == 0, 0x1C1), (u32 c 0x1C4 == 0, 0x1C4), (u32 c 0x1C8 == 0, 0x1C8)]

/-- Input size of the rungs (R163, R164). -/
def rungW (c : Bytes) : Nat := if cRaw c then u16 c 0x044 / 2 else cropW c
def rungH (c : Bytes) : Nat := if cRaw c then u16 c 0x046 / 2 else cropH c

/-- Bytes of one rung picture. -/
def rungBytes (c : Bytes) (b : Nat) : Nat :=
  packedBytes (planesOf (u8 c (b + 4)) (u8 c (b + 5)) (u8 c (b + 6)) (u16 c b) (u16 c (b + 2)))

/-- One rung (R164, Table 7.7). -/
def rungRules (c : Bytes) (g r : Nat) : List (Bool × Nat) :=
  let b := 0x240 + 24 * r
  rangeChecks c (fieldsRung b) ++
  [(decide (u16 c b ≤ rungW c) && u16 c b % subX (u8 c (b + 5)) == 0, b),
   (decide (u16 c (b + 2) ≤ rungH c) && u16 c (b + 2) % subY (u8 c (b + 5)) == 0, b + 2),
   (layoutAdmits (u8 c (b + 4)) (u8 c (b + 5)) (u8 c (b + 6)) (u16 c b) false, b + 4),
   (decide (u64 c (b + 8) + u8 c (b + 7) * rungBytes c b ≤ g), b + 8)]

/-- The picture extension (R166, Table 7.6); WHITE_LEVEL against BLACK_LEVEL reports the lower field. -/
def extRules (c : Bytes) (g : Nat) : List (Bool × Nat) :=
  if u8 c 0x078 = 1 then
    rangeChecks c fieldsExt ++
    [(if cRaw c && u8 c 0x067 != 0 then u8 c 0x203 == 1 else cRaw c || u8 c 0x203 == 0, 0x203),
     ((List.range 4).all (fun i => decide (u16 c (0x204 + 2 * i) < u16 c 0x20C)), 0x204)] ++
    (List.range (u8 c 0x067)).flatMap (rungRules c g)
  else []

/-- The whole check of ENCODE_CONFIG and its extension: the lowest failing offset. -/
def encodeCheck (s : State) (fn : Nat) (bound reconf : Bool) (c : Bytes) : Option Nat :=
  let g := grantBytes s fn
  firstFail (rangeChecks c encodeFields ++ generalRules s bound c ++ pictureRules c reconf ++ toolRules c ++ tileRules c
    ++ levelRules c ++ rateRules c g ++ outputRules s fn c ++ distRules c ++ extRules c g)

/-- The whole check of DECODE_CONFIG (R146, Tables 6.5 to 6.8). -/
def decodeCheck (s : State) (fn : Nat) (bound : Bool) (c : Bytes) : Option Nat :=
  let chroma := u8 c 0x41
  let depth := u8 c 0x42
  let layout := u8 c 0x40
  let level := u8 c 0x01
  firstFail (rangeChecks c decodeFields ++
    [(level == 0 || level == 0xFF || Config.levelNamed (u8 c 0) level 0, 0x01),
     (decide (u32 c 0x0C ≤ u32 c 0x08 ∧ u32 c 0x08 ≤ 480 * u32 c 0x0C), 0x08),
     ((layout != 1 || chroma == 0xFF || chroma == 1 || chroma == 2) && (layout != 4 || chroma == 0xFF || chroma == 2)
       && (layout != 2 || depth == 0 || depth == 10) && (layout != 3 || depth != 8)
       && (layout != 4 || u16 c 0x44 % 2 == 0), 0x40),
     (u8 c 0x8A == 0 || decide (u64 c 0x90 + u8 c 0x8A * cmapSlot c ≤ grantBytes s fn), 0x90),
     (if u8 c 0xC3 = 1 then u8 c 0x14 == 1 else if u8 c 0xC3 = 2 then u8 c 0x14 == 0 else true, 0xC3),
     (u8 c 0xC3 == 0 || keyUsable s fn (u16 c 0xC8) (u8 c 0xC3), 0xC8),
     (if u8 c 0x14 = 0 then u32 c 0xD0 == 0 else bound || flowFree s (u32 c 0xD0) 2, 0xD0)])

/-! ### Changes (R39, R70, R79, R125, R146, R165, R166, R193, R256) -/

/-- Do two configurations differ in a field? -/
def fieldDiffers (a b : Bytes) (f : CfgField) : Bool := slice a f.off f.size != slice b f.off f.size

/-- The first field of a class that differs. -/
def firstDiffOf (a b : Bytes) (l : List CfgField) (cls : Nat) : Option Nat :=
  firstFail (l.map (fun f => (!(f.cls == cls && fieldDiffers a b f), f.off)))

/-- SEI_ENABLE bits that are fixed (R125). -/
def seiFixed (a b : Bytes) : Bool := bitOf (u8 a 0x182) 4 == bitOf (u8 b 0x182) 4 && bitOf (u8 a 0x182) 6 == bitOf (u8 b 0x182) 6

/-- The fields of the extension, its rungs field by field. -/
def extAll : List CfgField := fieldsExt ++ (List.range 8).flatMap (fun r => fieldsRung (0x240 + 24 * r))

/-- The first changed field that is fixed for the life of the session. -/
def fixedChange (dec : Bool) (old new : Bytes) : Option Nat :=
  if dec then firstDiffOf old new decodeFields 2
  else firstFail ([(seiFixed old new, 0x182)] ++
    (match firstDiffOf old new encodeFields 2 with | some o => [(false, o)] | none => []) ++
    (if u8 old 0x078 = 1 then (match firstDiffOf old new extAll 2 with | some o => [(false, o)] | none => []) else []))

/-- The first changed field that needs a refresh start: a class 1 field, or a floor first configured while the lossless
signalling is off (R79, R94). -/
def refreshChange (dec : Bool) (old new : Bytes) : Option Nat :=
  if dec then none
  else firstFail ((match firstDiffOf old new encodeFields 1 with | some o => [(false, o)] | none => []) ++
    [(!floorOn new || floorOn old || cRateMode old == 4, firstFloor new)])

end Sys2Proof.Machine
end

