-- ==== Sys2Proof/Machine/Admission.lean ====
section
/-! DEFINITION. Scheduling costs and admission (R20 to R22, R35, R58, R59, R64, R71, R89, R101, R108, R127, R129, R148,
R214, R299). -/

namespace Sys2Proof.Machine

/-! ### Scheduling costs -/

/-- Cycles per coding unit at 4:2:2 (Table 1.5); what the table does not print is published in the Larder only.
`op`: 0 encode, 1 intra-only encode, 2 decode. -/
def cuCost (std op depth size effort : Nat) : Nat :=
  match std, op, depth, size with
  | 0, 0, 10, 128 => [8200, 12300, 16400, 20500, 26200, 32800, 41000, 57400].getD effort 0
  | 0, 1, 10, 128 => if effort = 4 then 11900 else Config.costUnpublished std op depth size effort
  | 1, 0, 10, 64 => if effort = 4 then 4680 else Config.costUnpublished std op depth size effort
  | 2, 0, 10, 16 => if effort = 4 then 228 else Config.costUnpublished std op depth size effort
  | 3, 0, 10, 128 => if effort = 4 then 29100 else Config.costUnpublished std op depth size effort
  | 0, 2, 10, 128 => 13100
  | _, _, _, _ => Config.costUnpublished std op depth size effort

/-- The format factor in 1/1,000, by chroma code (R21, Table 10.4). -/
def formatFactor (chroma : Nat) : Nat := match chroma with | 1 => 850 | 3 => 1300 | _ => 1000

/-- "From effort" of each tool (Tables 2.3 to 2.6): bit and effort. -/
def toolEfforts (std : Nat) : List (Nat × Nat) :=
  match std with
  | 0 => [(2, 1), (3, 1), (4, 2), (5, 3), (6, 4), (8, 4), (9, 3), (10, 5), (11, 2), (12, 3), (13, 2), (14, 5), (15, 6),
          (16, 6), (18, 2), (19, 3), (20, 3), (21, 1), (22, 1), (23, 4), (24, 4), (25, 5), (26, 5), (27, 6), (30, 1),
          (31, 3), (32, 5)]
  | 1 => [(40, 1), (41, 2), (42, 3), (43, 4), (44, 3), (45, 2), (46, 5)]
  | 2 => [(50, 1), (51, 2), (52, 3), (53, 5), (54, 6)]
  | _ => [(33, 5), (34, 5), (35, 6), (36, 4), (38, 1), (39, 3), (58, 1), (59, 4), (60, 5), (61, 6), (62, 2), (63, 3)]

/-- Tools of inter pictures, and tools of B slices (Notes of Tables 2.3 to 2.6). -/
def interTools (std : Nat) : List Nat :=
  match std with
  | 0 => [17, 18, 19, 20, 21, 22, 23, 24, 25, 26, 27]
  | 1 => [17, 43]
  | 2 => [17, 52, 53, 54]
  | _ => [17, 33, 34, 35, 36, 62, 63]
def bTools (std : Nat) : List Nat :=
  match std with
  | 0 => [21, 22, 24, 25, 27]
  | 2 => [53, 54]
  | _ => []

/-- May the session use a tool: its chroma format, profile and picture types permit it (R35). -/
def toolPermitted (c : Bytes) (b : Nat) : Bool :=
  let std := cStd c
  !(std == 0 && (b == 14 || b == 16) && cChroma c != 3)
  && !(((std == 0 && (b == 3 || b == 32)) || (std == 3 && b == 58)) && cChroma c == 0)
  && !(std == 1 && (b == 44 || b == 45 || b == 46) && u8 c 0x080 != 4)
  && !(std == 1 && b == 45 && decide (cDepth c < 12))
  && !(std == 1 && b == 46 && cChroma c != 3)
  && !(cStructure c == 0 && (interTools std).contains b)
  && !(decide (cStructure c < 2) && (bTools std).contains b)

/-- Lowest effort whose default depth is at least a depth (note to bit 0 of Table 2.3). -/
def mttEffort (d : Nat) : Nat := match d with | 2 => 2 | 3 => 4 | 4 => 6 | _ => 0

/-- The effort at which R35 schedules the tools and the depth in use. -/
def toolEffort (c : Bytes) : Nat :=
  let e := (toolEfforts (cStd c)).foldl (fun e t =>
    if bitOf (u64 c 0x0E0) t.1 && toolPermitted c t.1 then max e t.2 else e) (cEffort c)
  if cStd c = 0 then max e (mttEffort (u8 c 0x0E8)) else e

/-- Do the defaults of an effort cover every search value in use (R71)? -/
def searchCovered (c : Bytes) (e : Nat) : Bool :=
  let d := searchDefaults (cStd c) e
  decide (surveyRefs c ≤ d.refs)
  && (surveyRefs c == 0 || decide (surveyCands c ≤ d.cands))
  && (cStructure c == 0 || (decide (assayCands c ≤ d.assay) && decide (assayRange c ≤ d.range) && decide (subpel c ≤ d.subpel)))

/-- The lowest effort, from EFFORT on, whose defaults cover the search; 7 when none does (R71). -/
def searchEffort (c : Bytes) : Nat :=
  ((List.range 8).filter (fun e => decide (cEffort c ≤ e) && searchCovered c e)).headD 7

/-- ASSAY_RANGE beyond the effort 7 default raises the core cost by its square (R71). -/
def rangeBeyond (c : Bytes) : Bool := cStructure c != 0 && decide (32 < assayRange c)

/-- Operation of an encode session in CAPACITY_MODEL (R211). -/
def encodeOp (c : Bytes) : Nat := if cStructure c = 0 then 1 else 0

/-- Effort at which the session is scheduled. -/
def schedEffort (c : Bytes) : Nat := if rangeBeyond c then 7 else max (toolEffort c) (searchEffort c)

/-- Pipeline cost of a coding unit after the format factor and the raises, rounded up once (R21, R35, R71). -/
def pipelineCost (c : Bytes) : Nat :=
  let base := cuCost (cStd c) (encodeOp c) (cDepth c) (cCtu c) (schedEffort c)
  let r := if rangeBeyond c then assayRange c else 32
  cdiv (base * formatFactor (cChroma c) * (r * r)) (1000 * 1024)

/-- ENTROPY_BPP, or the Larder's default (R101). -/
def entropyBpp (c : Bytes) : Nat :=
  if u16 c 0x19A != 0 then u16 c 0x19A
  else if cRateMode c = 4 then Config.bppLossless (cStd c) (encodeOp c) (cDepth c) (cCtu c) (cChroma c)
  else Config.bppLossy (cStd c) (encodeOp c) (cDepth c) (cCtu c) (cChroma c)

/-- The scheduling cost C_s: the larger of the pipeline cost and the entropy cost at 4 bins per cycle (R101). -/
def schedCost (c : Bytes) : Nat := max (pipelineCost c) (cdiv (cCtu c * cCtu c * entropyBpp c) 1024)

/-- ρ in percent: RETRY_BUDGET while a floor is on (R22). -/
def retryPct (c : Bytes) : Nat := if floorOn c && cRateMode c != 4 then u8 c 0x128 else 0

/-- Survey cycles per cell and reference (R58, R71). -/
def surveyCost (c : Bytes) : Nat := (searchDefaults (cStd c) (if rangeBeyond c then 7 else searchEffort c)).cost

/-- Picture rate. -/
def rateOf (c : Bytes) : Frac := ⟨u32 c 0x048, max 1 (u32 c 0x04C)⟩

/-! ### Demand -/

/-- What a session asks for: core and Survey cycles, source and proxy pixels per second, Reference Store bytes on each
serving cluster, Ladle ring bytes, pool bytes, host DMA units in and out (R299). -/
structure Demand where
  core   : Frac
  survey : Frac
  ppu    : Frac
  proxy  : Frac
  rs     : Nat
  ladle  : Nat
  pool   : Nat
  dmaIn  : Nat
  dmaOut : Nat
deriving DecidableEq, Repr

/-- Reference Store areas of an encode session (Table 3.4), the takeover area apart. -/
def encodeRs (c : Bytes) : Nat :=
  if cStructure c = 0 then 0
  else
    let bps := if cDepth c = 8 then 1 else 2
    let s := cCtu c
    let f := s + 2 * assayRange c + 8
    let bandCells := cellCols c * cdiv (min (bandRows c * s) (codeH c)) 64
    surveyRefs c * cdiv (codeW c) 4 * cdiv (codeH c) 4
      + 6 * u8 c 0x087 * (s + 2 * winX c) * (s + 2 * winY c + 8) * bps
      + 6 * 4 * (f * f) * bps
      + 2 * bandCells * surveyRefs c * (if surveyRefs c = 0 then 0 else surveyCands c) * 8

/-- MAX_CU_BYTES: the manual prints it for VVC 4:2:2 10-bit; the others are published in the Larder only (R108, R211). -/
def maxCuBytes (c : Bytes) : Nat :=
  if cStd c = 0 ∧ cDepth c = 10 ∧ cChroma c = 2 then 51264
  else Config.maxCuBytes (cStd c) (encodeOp c) (cDepth c) (cuLog2 (cCtu c)) (cChroma c)

/-- Ladle ring bytes (R108). -/
def ladleBytes (c : Bytes) : Nat := roundUp (2 * maxOf (tileCols c) * maxCuBytes c + 4096) 65536

/-- Bytes of the coding-format picture (stage 9 of Table 7.1). -/
def codedBytes (c : Bytes) : Nat :=
  let ch := cChroma c
  let luma := codeW c * codeH c
  let chroma := if ch = 0 then 0 else 2 * (cdiv (codeW c) (subX ch) * cdiv (codeH c) (subY ch))
  (luma + chroma) * (if cDepth c = 8 then 1 else 2)

/-- RATE of R299 for a mean of `d` bytes per second. -/
def dmaUnits (d : Frac) : Nat := max 1 (fracCeil (fracMul ⟨2, 600000000⟩ d))

/-- Host DMA units of the source and of the sink of an encode session (R299). -/
def encodeDmaIn (c : Bytes) : Nat := if cSource c = 0 then dmaUnits (fracMul (rateOf c) (fracOf (srcBytes c))) else 0
def encodeDmaOut (c : Bytes) : Nat :=
  if cSink c != 0 then 0
  else
    let m := cRateMode c
    if m = 2 ∨ m = 4 ∨ (m = 3 ∧ u32 c 0x108 = 0) then dmaUnits (fracMul (rateOf c) (fracOf (codedBytes c)))
    else dmaUnits (fracOf ((if u32 c 0x108 != 0 then u32 c 0x108 else u32 c 0x104) * 125))

/-- Pixels of the rungs of the picture extension (R148, Table 7.7). -/
def rungPixels (c : Bytes) : Nat :=
  if c.length ≤ 512 then 0
  else ((List.range 8).filter (fun i => decide (i < u8 c 0x067))).foldl
    (fun n i => n + u16 c (0x240 + 24 * i) * u16 c (0x242 + 24 * i)) 0

/-- Device pool bytes of a session's own buffers: the backlog of a memory sink (R259). -/
def encodePool (c : Bytes) : Nat := if cSink c = 0 then u32 c 0x014 * 1048576 else 0

/-- Demand of an encode session. -/
def encodeDemand (c : Bytes) : Demand :=
  { core := fracMul (rateOf c) ⟨wCtu c * hCtu c * schedCost c * (100 + retryPct c), 100⟩
    survey := fracMul (rateOf c) (fracOf (cellCount c * surveyRefs c * surveyCost c))
    ppu := fracMul (rateOf c) (fracOf (srcW c * srcH c))
    proxy := fracMul (rateOf c) (fracOf (rungPixels c))
    rs := encodeRs c, ladle := ladleBytes c, pool := encodePool c
    dmaIn := encodeDmaIn c, dmaOut := encodeDmaOut c }

/-- Decode cost per coding unit after the format factor (R21, R127). -/
def decodeUnitCost (c : Bytes) (size : Nat) : Nat :=
  cdiv (cuCost (u8 c 0) 2 (u8 c 3) size 0 * formatFactor (u8 c 2)) 1000

/-- Core cycles per second of a decode session: the largest cost per pixel among the sizes, or the entropy cost at
1.30 bins per bit and 4 bins per cycle (R127). -/
def decodeCore (c : Bytes) : Frac :=
  let rate : Frac := ⟨u32 c 8, max 1 (u32 c 0xC)⟩
  let pipe := (decodeSizes (u8 c 0)).foldl (fun m size =>
    fracMax m (fracMul rate ⟨u16 c 4 * u16 c 6 * decodeUnitCost c size, size * size⟩)) (fracOf 0)
  fracMax pipe ⟨u32 c 0x10 * 1000 * 1300, 4000⟩

/-- Demand of a decode session (R127, R129, R148, R299). -/
def decodeDemand (c : Bytes) : Demand :=
  let rate : Frac := ⟨u32 c 8, max 1 (u32 c 0xC)⟩
  let s := (decodeSizes (u8 c 0)).headD 16
  { core := decodeCore c
    survey := fracOf 0
    ppu := fracMul rate (fracOf (u16 c 4 * u16 c 6))
    proxy := fracOf 0
    rs := 6 * 4 * ((s + 16) * (s + 16)) * (if u8 c 3 = 8 then 1 else 2), ladle := 0, pool := 0
    dmaIn := if u8 c 0x14 = 0 then dmaUnits (fracOf (u32 c 0x10 * 125)) else 0
    dmaOut := if u8 c 0x15 = 1 then 0 else dmaUnits (fracMul rate (fracOf (decOutBytes c))) }

/-! ### Placement -/

/-- Clusters that may serve: CLUSTER_MASK, 0 for any (Table 12.7). -/
def clustersAllowed (mask : Nat) : List Nat := (List.range 4).filter (fun k => mask % 16 == 0 || bitOf mask k)

/-- Fill the clusters in ascending order until the core demand is placed (the example of R22, log entry 31): a cluster serves when
it has core cycles left, room in its Reference Store (R64) and, for its share, Survey cycles (R59). -/
def fillClusters (s : State) (d : Demand) : List Nat → Frac → List ClusterUse
  | [], _ => []
  | k :: ks, left =>
    let free := coreFree s k
    let take := fracMin free left
    let part := if d.core.num = 0 then fracOf 0 else fracNorm ⟨d.survey.num * take.num * d.core.den, d.survey.den * take.den * d.core.num⟩
    if left.num = 0 || free.num = 0 || rsFree s k < d.rs || (d.survey.num != 0 && (clGet s k).surveyFenced)
        || !fracLe part (clusterFree s k (coreHz s) (·.survey)) then fillClusters s d ks left
    else { cluster := k, core := take, survey := part, ppu := fracOf 0, proxy := fracOf 0 } :: fillClusters s d ks (fracSub left take)

/-- Core cycles placed. -/
def placedCore (l : List ClusterUse) : Frac := l.foldl (fun n u => fracAdd n u.core) (fracOf 0)

/-- Has a PPU room for a strip (R148)? -/
def ppuFits (s : State) (k : Nat) (src prx : Frac) : Bool :=
  !(clGet s k).ppuFenced && fracLe src (clusterFree s k ppuRate (·.ppu)) && fracLe prx (clusterFree s k ppuRate (·.proxy))

/-- Strips of a source: one up to 8 Gpixel/s, otherwise the fewest that one PPU each can take (R148). -/
def stripCount (d : Demand) : Nat := max 1 (fracCeil (fracMul ⟨1, ppuRate⟩ d.ppu))

/-- Give the strips to the first serving clusters whose PPU has room. -/
def placeStrips (s : State) (d : Demand) (l : List ClusterUse) : Option (List ClusterUse) :=
  let n := stripCount d
  let src := fracMul ⟨1, n⟩ d.ppu
  let prx := fracMul ⟨1, n⟩ d.proxy
  let fit := ((l.map (·.cluster)).filter (fun k => ppuFits s k src prx)).take n
  if fit.length < n then none
  else some (l.map (fun u => if fit.contains u.cluster then { u with ppu := src, proxy := prx } else u))

/-- Cores whose Ladle rings a set of clusters brings into service. -/
def ringCores (l : List ClusterUse) : List Nat := l.flatMap (fun u => clCores u.cluster)

/-- Bytes by which the rings of those cores must grow to a size (R108). -/
def ringGrowth (s : State) (l : List ClusterUse) (bytes : Nat) : Nat :=
  (ringCores l).foldl (fun n c => n + (bytes - (coreGet s c).ladle.capacity * 64)) 0

/-- Free bytes of the device pool: HBM outside every grant and outside what sessions and rings hold (R219). -/
def poolFree (s : State) : Nat :=
  Config.hbmBytes - (List.range 64).foldl (fun n k => n + (fnGet s k).hbmUnits) 0 * 67108864 - s.hbm.poolUsed

/-- RATE units of a direction in use (R299). -/
def dmaInUsed (s : State) : Nat := (sessList s).foldl (fun n x => n + x.dmaIn) 0
def dmaOutUsed (s : State) : Nat := (sessList s).foldl (fun n x => n + x.dmaOut) 0

/-- The limit of each direction at x16 and 64 GT/s (R299). -/
def dmaLimit : Nat := 170

/-- Admission (R214): the clusters that serve and what each gives, or nothing when a resource is short. -/
def admitted (s : State) (mask : Nat) (d : Demand) : Option (List ClusterUse) :=
  let l := fillClusters s d (clustersAllowed mask) d.core
  if l.isEmpty || !fracLe d.core (placedCore l) || (d.dmaIn != 0 && dmaLimit < dmaInUsed s + d.dmaIn)
      || (d.dmaOut != 0 && dmaLimit < dmaOutUsed s + d.dmaOut) || poolFree s < ringGrowth s l d.ladle + d.pool then none
  else placeStrips s d l

/-- Size the rings of the serving cores: HIGH is one page below the ring, LOW half of it (R105). -/
def sizeRings (s : State) (l : List ClusterUse) (bytes : Nat) : State :=
  (ringCores l).foldl (fun s c =>
    let x := coreGet s c
    if x.ladle.capacity * 64 < bytes then
      coreSet { s with hbm := { s.hbm with poolUsed := s.hbm.poolUsed + (bytes - x.ladle.capacity * 64) } } c
        { x with ladle := { x.ladle with capacity := bytes / 64, high := bytes / 64 - 64, low := bytes / 128 } }
    else s) s

/-- Reserve: the session's resources and the Larder's capacity fields (R214). -/
def reserve (s : State) (x : Session) (d : Demand) (l : List ClusterUse) : State :=
  let s1 := sizeRings s l d.ladle
  let s2 := { s1 with hbm := { s1.hbm with poolUsed := s1.hbm.poolUsed - x.poolBytes + d.pool } }
  larderUpdate (sessPut s2 { x with uses := l, serving := l.map (·.cluster), rsBytes := d.rs, poolBytes := d.pool,
                                    dmaIn := d.dmaIn, dmaOut := d.dmaOut })

/-- A session without its reservation, for a repeated admission (R255). -/
def unreserved (x : Session) : Session :=
  { x with uses := [], serving := [], rsBytes := 0, dmaIn := 0, dmaOut := 0 }

/-! ### Regions (R170, R171) -/

/-- Set bits of a mask below n, bit 0 apart. -/
def splitsBelow (mask n : Nat) : Nat := ((List.range n).filter (fun t => t != 0 && bitOf mask t)).length

/-- Regions of a session in columns and in all, and the region of a tile (R170). -/
def regionCols (c : Bytes) : Nat := if cDist c then splitsBelow (u64 c 0x1D8) (tileCols c).length + 1 else 1
def regionCount (c : Bytes) : Nat :=
  if cDist c then regionCols c * (splitsBelow (u64 c 0x1E0) (tileRows c).length + 1) else 1
def regionOf (c : Bytes) (tile : Nat) : Nat :=
  let n := (tileCols c).length
  if cDist c then splitsBelow (u64 c 0x1E0) (tile / n + 1) * regionCols c + splitsBelow (u64 c 0x1D8) (tile % n + 1) else 0

/-- Does this device code a region: a session placed by a manager names its regions (R171). -/
def codesRegion (x : Session) (r : Nat) : Bool :=
  !isDist x || x.dist.roles.any (fun p => p.1 = r && (p.2 == 0 || p.2 == 1))

/-- Share of a picture's CTUs that lie in the regions that a test picks. -/
def regionShare (c : Bytes) (p : Nat → Bool) : Frac :=
  let n := (tileCols c).length
  let own := (tileRows c).zipIdx.foldl (fun a r => (tileCols c).zipIdx.foldl (fun a q =>
    if p (regionOf c (r.2 * n + q.2)) then a + r.1 * q.1 else a) a) 0
  fracNorm ⟨own, max 1 (wCtu c * hCtu c)⟩

/-- A part of a demand: the rates by a share. -/
def scaleDemand (d : Demand) (f : Frac) : Demand :=
  { d with core := fracMul d.core f, survey := fracMul d.survey f, ppu := fracMul d.ppu f, proxy := fracMul d.proxy f }

/-- Demand of a configuration. -/
def demandOf (decode : Bool) (c : Bytes) : Demand := if decode then decodeDemand c else encodeDemand c

/-- Clusters that a configuration allows. -/
def maskOf (decode : Bool) (c : Bytes) : Nat := if decode then 0 else u8 c 0x010

/-- Demand of a session under a configuration: of its regions only, where a fabric shares it out (R171). -/
def demandFor (x : Session) (c : Bytes) : Demand :=
  if isDist x && !x.decode then scaleDemand (encodeDemand c) (regionShare c (codesRegion x)) else demandOf x.decode c

/-- Admission of a demand; a session without work of its own here takes nothing. -/
def admitFor (s : State) (mask : Nat) (d : Demand) : Option (List ClusterUse) :=
  if d.core.num = 0 then some [] else admitted s mask d

/-- Re-place a session on the capacity that remains (R46, R465): it keeps what it holds where it still fits, and takes a
class 3 fault otherwise. -/
def replaceOne (s : State) (x : Session) : State :=
  let d := demandFor x x.cfg
  match admitFor s (maskOf x.decode x.cfg) d with
  | some l => sessPut s { x with uses := l, serving := l.map (·.cluster), rsBytes := d.rs, dmaIn := d.dmaIn, dmaOut := d.dmaOut }
  | none => enterResync (sessPut (recordFault s 43 3 none) x) x

/-- PRIORITY of a session; a decode session has no such field and takes the default (R256). -/
def priorityOf (x : Session) : Nat := if x.decode then 4 else u8 x.cfg 0x005

/-- Sessions in descending PRIORITY, then by ascending slot (R256). -/
def byPriority (s : State) : List Session :=
  (List.range 8).flatMap (fun p => (sessList s).filter (fun x => priorityOf x = 7 - p))

/-- Re-place every session after a loss of capacity (R46, R256, R465). -/
def replaceAll (s : State) : State :=
  let l := byPriority s
  let s0 := l.foldl (fun s x => sessPut s (unreserved x)) s
  larderUpdate (l.foldl (fun s x => replaceOne s (unreserved x)) s0)

end Sys2Proof.Machine
end

