-- ==== Sys2Proof/Machine/Placement.lean ====
section
/-! DEFINITION. The manager's placement of sessions over the fabric, the configuration hash and epochs (R171, R182, R185, R378,
R383, R391, R392). -/

namespace Sys2Proof.Machine

/-- The determinism version that this device runs. -/
def ownVersion (s : State) : Nat := (activeFacts s).determinismVersion

/-- A member of the manager's table. -/
def memberGet (s : State) (m : Nat) : Option Member := tfind s.fabric.members m
def memberPut (s : State) (m : Nat) (x : Member) : State :=
  { s with fabric := { s.fabric with members := tset s.fabric.members m x } }

/-- Members other than this device. -/
def otherMembers (s : State) : List Nat := (s.fabric.members.map (·.1)).filter (· ≠ s.fabric.member)

/-! ### Messages to members -/

/-- A copy for the standby manager of a message to a member: it names that member and takes the standby's stream (R388). -/
def copyToStandby (s : State) (kind m : Nat) (fields : List Nat) : State :=
  let b := s.fabric.standby
  if b = 0xFFFF || b = m || b = s.fabric.member then s
  else
    let q := tget 0 s.fabric.txSeq b
    let s1 := emit { s with fabric := { s.fabric with txSeq := tset s.fabric.txSeq b ((q + 1) % 2 ^ 32) } }
      (.clp (kind + clpAckReq) m q fields)
    { s1 with fabric := { s1.fabric with unacked := s1.fabric.unacked ++
        [{ dest := b, seq := q, kind := kind, tries := 0, sentAt := s1.now, fields := fields }] } }

/-- Send ASSIGN: session, role, region, first frame, configuration (Table 19.2). -/
def sendAssign (s : State) (m session role region from_ : Nat) (c : Bytes) : State :=
  let l := [session, role, region, from_, c.length] ++ c.map (·.toNat)
  copyToStandby (sendAcked s 0x05 m l) 0x05 m l

/-! ### Configuration hash (R392) -/

/-- Configuration bytes that R167 covers: the fields that Table 8.4 marks as placement-only are left out. -/
def coveredBytes (c : Bytes) : Bytes :=
  (c.zipIdx.filter (fun p => !(inRange p.2 0x1CD 0x1CF || inRange p.2 0x1E8 0x1EB))).map (·.1)

/-- Determinism version of a fabric session. -/
def sessVersion (s : State) (c : Bytes) : Nat := if u32 c 0x1D0 = 0 then s.fabric.current else u32 c 0x1D0

/-- Insert by ascending fabric session. -/
def insertSession (x : Session) : List Session → List Session
  | [] => [x]
  | y :: l => if x.dist.fabricSession ≤ y.dist.fabricSession then x :: y :: l else y :: insertSession x l

/-- CONFIG_HASH of a list of sessions: the first 8 bytes of the SHA-384 digest, numbers in network order (log entry 47). -/
def configHash (s : State) (l : List Session) : Nat :=
  ube (Config.sha384 ((l.foldr insertSession []).flatMap (fun x =>
    be 4 x.dist.fabricSession ++ be 4 (sessVersion s x.cfg) ++ coveredBytes x.cfg))) 0 8

/-- Fabric sessions on this device. -/
def fabricSessions (s : State) : List Session := (sessList s).filter isDist

/-- Has a member a role in a session? -/
def memberIn (x : Member) (session : Nat) : Bool := x.roles.any (fun r => r.1 == session)

/-- The hash that the manager computes for a member: over the sessions whose configuration it sent there (log entry 47). -/
def hashFor (s : State) (m : Nat) : Nat :=
  configHash s ((fabricSessions s).filter (fun x => m == s.fabric.standby || (match memberGet s m with
    | some y => memberIn y x.dist.fabricSession
    | none => false)))

/-! ### Epochs (R391) -/

/-- Fields of EPOCH_ADVANCE. -/
def epochFields (s : State) (p : EpochChange) (phase m : Nat) : List Nat :=
  [phase, p.epoch, hashFor s m, p.version, p.changes.length] ++ p.changes.flatMap (fun c => [c.1, c.2])

/-- Members that take part in an epoch change: all that are not quarantined. -/
def epochMembers (s : State) : List Nat :=
  (otherMembers s).filter (fun m => match memberGet s m with | some x => !x.quarantined | none => false)

/-- Commit: PHASE 0x1 to every member; the epoch is in force. -/
def commitEpoch (s : State) (p : EpochChange) : State :=
  let s1 := (epochMembers s).foldl (fun s m => sendAcked s 0x0C m (epochFields s p 1 m)) s
  { s1 with fabric := { s1.fabric with epoch := p.epoch, epochs := p :: s1.fabric.epochs, prepared := .none } }

/-- Commit once every member has acknowledged. -/
def settleEpoch (s : State) : State :=
  match s.fabric.prepared with
  | some p =>
    if (epochMembers s).all (fun m => match memberGet s m with | some x => x.ackedEpoch | none => true) then commitEpoch s p else s
  | none => s

/-- Begin an epoch change; changes that are being prepared join the new one. -/
def beginEpoch (s : State) (changes : List (Nat × Nat)) : State :=
  if s.mode != .manager then s
  else
    let epoch0 := match s.fabric.prepared with | some q => q.epoch | none => s.fabric.epoch
    let before := match s.fabric.prepared with | some q => q.changes | none => []
    let p : EpochChange :=
      { epoch := epoch0 + 1, hash := 0,
        version := s.fabric.current, changes := before ++ changes, commit := false }
    let l := tmap (fun (x : Member) => { x with ackedEpoch := false, naked := 0 }) s.fabric.members
    let s1 := { s with fabric := { s.fabric with prepared := some p, members := l } }
    settleEpoch ((epochMembers s1).foldl (fun s m => sendAcked s 0x0C m (epochFields s p 0 m)) s1)

/-! ### Placement -/

/-- May a member take a new role: not quarantined, time-qualified, of the version; with SHADOWS neither manager nor standby
(R378, R393). -/
def mayHold (s : State) (shadows : Bool) (version m : Nat) : Bool :=
  match memberGet s m with
  | some x => !x.quarantined && bitOf x.status 0 && x.version == version
      && !(shadows && (m == s.fabric.member || m == s.fabric.standby))
  | none => false

/-- Members that may take a role: this device first, then by number. -/
def holders (s : State) (shadows : Bool) (version : Nat) : List Nat :=
  (if !shadows && (s.fabric.members.isEmpty || version == ownVersion s) then [s.fabric.member] else [])
    ++ (otherMembers s).filter (mayHold s shadows version)

/-- The n-th of a list, around its end. -/
def around (l : List Nat) (n : Nat) : Nat := l.getD (n % max 1 l.length) 0xFFFF

/-- Roles of a session over a list of members (member, region, role): the primaries, the collating device, and with SHADOWS the
shadows and the shadow collator (R171, R182, R185, log entry 48); nothing when there are too few members. -/
def planRoles (l : List Nat) (regions : Nat) (shadows : Bool) : Option (List (Nat × Nat × Nat)) :=
  if l.isEmpty || (shadows && decide (l.length < 2)) then none
  else
    let prim := (List.range regions).map (fun r => (around l r, r, 0))
    let shad := if shadows then (List.range regions).map (fun r => (around l (r + 1), r, 1)) else []
    some (prim ++ [(around l 0, 0xFFFF, 2)] ++ shad ++ (if shadows then [(around l 1, 0xFFFF, 3)] else []))

/-- The plan for a configuration that host software gives on the manager. -/
def planFor (s : State) (c : Bytes) : Option (List (Nat × Nat × Nat)) :=
  planRoles (holders s (u8 c 0x1CD == 1) s.fabric.current) (regionCount c) (u8 c 0x1CD == 1)

/-- The regions of a plan that this device codes. -/
def planShare (s : State) (c : Bytes) (l : List (Nat × Nat × Nat)) : Frac :=
  regionShare c (fun r => l.any (fun p => p.1 == s.fabric.member && p.2.1 == r && p.2.2 ≤ 1))

/-- The demand of a new session on this device, and its admission. -/
def demandHere (s : State) (decode : Bool) (c : Bytes) : Demand :=
  if s.mode == .manager && !decode then
    match planFor s c with
    | some l => scaleDemand (encodeDemand c) (planShare s c l)
    | none => encodeDemand c
  else demandOf decode c
def admitHere (s : State) (decode : Bool) (c : Bytes) : Option (List ClusterUse) :=
  if s.mode == .manager && !decode && (planFor s c).isNone then none
  else admitFor s (maskOf decode c) (demandHere s decode c)

/-- Record a role with a member, and without one. -/
def addRole (s : State) (m session region role : Nat) : State :=
  match memberGet s m with
  | some x => memberPut s m { x with roles := x.roles ++ [(session, region, role)] }
  | none => s
def dropRole (s : State) (m session region role : Nat) : State :=
  match memberGet s m with
  | some x => memberPut s m { x with roles := x.roles.filter (· ≠ (session, region, role)) }
  | none => s

/-- Change a session, if it is live. -/
def editSession (s : State) (id : Nat) (f : Session → Session) : State :=
  match sessById s id with
  | some x => sessPut s (f x)
  | none => s

/-- Give a role of a session to a member: ASSIGN, or the session itself where the member is this device. -/
def giveRole (s : State) (id m region role from_ : Nat) : State :=
  match sessById s id with
  | none => s
  | some x =>
    let s1 := addRole s m x.dist.fabricSession region role
    let s2 := editSession s1 id (fun y => { y with dist := { y.dist with
      regions := if role = 0 then y.dist.regions.filter (fun p => p.1 ≠ region) ++ [(region, m)] else y.dist.regions
      roles := if m = s.fabric.member then y.dist.roles ++ [(region, role)] else y.dist.roles } })
    if m = s.fabric.member then s2 else sendAssign s2 m x.dist.fabricSession role region from_ x.cfg

/-- Withdraw a member's role. -/
def takeRole (s : State) (id m region role : Nat) : State :=
  match sessById s id with
  | none => s
  | some x =>
    let s1 := dropRole s m x.dist.fabricSession region role
    if m = s.fabric.member then
      editSession s1 id (fun y => { y with dist := { y.dist with roles := y.dist.roles.filter (· ≠ (region, role)) } })
    else sendAssign s1 m x.dist.fabricSession 0xFF region 0 []

/-- A session that host software creates on the manager becomes a fabric session: its roles are placed and the epoch changes. -/
def placeFabric (s : State) (id : Nat) (plan : List (Nat × Nat × Nat)) : State :=
  let n := s.fabric.nextSession
  let s1 := editSession { s with fabric := { s.fabric with nextSession := n + 1 } } id
    (fun y => { y with dist := { y.dist with fabricSession := n, roles := [], regions := [] } })
  beginEpoch (plan.foldl (fun s p => giveRole s id p.1 p.2.1 p.2.2 0) s1) [(n, 0)]

/-- A new configuration from a frame on goes to every member with a role. -/
def replanFabric (s : State) (x : Session) (frame : Nat) (c : Bytes) : State :=
  if s.mode != .manager || !isDist x then s
  else
    let one (s : State) (m : Nat) : State :=
      match memberGet s m with
      | some y => (y.roles.filter (fun r => r.1 == x.dist.fabricSession)).foldl
          (fun s r => sendAssign s m x.dist.fabricSession r.2.2 r.2.1 frame c) s
      | none => s
    beginEpoch ((otherMembers s).foldl one s) [(x.dist.fabricSession, frame)]

/-- Withdraw every role of a session that stops or goes. -/
def withdrawFabric (s : State) (x : Session) : State :=
  if s.mode != .manager || !isDist x then s
  else
    let one (s : State) (m : Nat) : State :=
      match memberGet s m with
      | some y =>
        let mine := y.roles.filter (fun r => r.1 == x.dist.fabricSession)
        let s1 := memberPut s m { y with roles := y.roles.filter (fun r => r.1 != x.dist.fabricSession) }
        if mine.isEmpty || m = s.fabric.member then s1 else sendAssign s1 m x.dist.fabricSession 0xFF 0xFFFF 0 []
      | none => s
    beginEpoch ((s.fabric.members.map (·.1)).foldl one s) [(x.dist.fabricSession, x.enc.nextFrame)]

end Sys2Proof.Machine
end

