-- ==== Sys2Proof/Machine/Session.lean ====
section
/-! DEFINITION. Session and picture commands (Tables 11.15 and 12.6): creating, starting, reconfiguring, stopping and
destroying sessions, their rings, and the buffers that host software hands over (chapter 12 of the manual). -/

namespace Sys2Proof.Machine

/-! ### New sessions -/

/-- The encode side of a new session. -/
def EncState.empty (c : Bytes) : EncState :=
  { nextSubmit := 0, nextFrame := 0, submitted := [], forced := [], sweepStart := 0, refreshDue := true, lastIntra := 0,
    frames := [], ledger := [], coded := 0, lastOutput := none, buffers := [], backlog := [], rtpSeq := u16 c 0x190,
    roc := 0, chunkIndex := 0, chunkBuf := [], lossless := floorOn c || cRateMode c == 4,
    codeBase := 0, codeCount := 0, codeTotal := 0, hrdBase := 0, hrdNext := 0, hrdAcc := fracOf 0, badRects := [],
    lastSource := none, arrivedAt := none, patAt := none, arrivals := 0, seqEnds := [], vectors := [], skipped := [],
    denoised := [], grain := [], pack := PackState.empty }

/-- The decode side of a new session. -/
def DecState.empty : DecState :=
  { started := false, recovery := 0, skipRasl := false, nextPic := 0, stream := 0, consumed := 0, pendingIn := [], reorder := [], expected := none,
    gapSince := none, lastCc := none, unsupported := 0, foreign := 0, replay := 0, lostPackets := 0, lostSeen := 0, srtpRoc := 0,
    chunks := [], pics := [], ages := [], outCount := 0, lastOut := none, lastShown := [], lastOutput := [], firstAt := none,
    firstPts := none, wantLatch := true, buffers := [], endOfStream := false }

/-- A session in one place. -/
def DistState.empty : DistState :=
  { fabricSession := 0, regions := [], roles := [], promoted := [], peers := [], sliceCrcs := [], peerCrcs := [],
    tailings := [], received := 0, released := 0, commitFrame := 0, duplicates := 0, wrongEpoch := 0, badCrc := 0,
    fragments := [], slices := [], strips := [], seams := [], unacked := [], stats := [], diverging := [], outcast := [], retained := [] }

/-- A new session in state CREATED. -/
def Session.make (id fn : Nat) (decode : Bool) (c : Bytes) (report motion : Ring) (mapBase : Nat) : Session :=
  { id := id, fn := fn, decode := decode, placed := false, cfg := c, state := .created, report := report, motion := motion,
    mapBase := mapBase, pendingCfg := [], stopNow := false, stopCids := [], awaitKey := false, blocked := false,
    keyMatter := none, nextKey := none, uses := [], rsBytes := 0, poolBytes := 0, dmaIn := 0, dmaOut := 0, serving := [], frames := 0,
    bitsOut := 0, retries := 0, lossless := 0, concealed := 0, lateBands := 0,
    enc := EncState.empty c, dec := DecState.empty, dist := DistState.empty }

/-! ### TARGET -/

/-- The live session of the issuing function that TARGET names (R238). -/
def targetOf (s : State) (fn : Nat) (e : Bytes) : Option Session :=
  match sessById s (cmdTarget e) with
  | some x => if x.fn = fn && !x.placed then some x else none
  | none => none

/-- A check of a command that names a session. -/
def chkSession (fn : Nat) (f : State → Session → Bytes → Option Reply) (s : State) (e : Bytes) : Option Reply :=
  match targetOf s fn e with
  | none => some (badField 4)
  | some x => f s x e

/-- The effect of a command that names a session. -/
def onSession (fn : Nat) (k : State → Session → Bytes → State) (s : State) (e : Bytes) : State :=
  match targetOf s fn e with
  | none => s
  | some x => k s x e

/-! ### CREATE_SESSION (R238, R251, R365, R485) -/

/-- Ring parameters of CREATE_SESSION and SET_SESSION_RINGS (R238). -/
def ringRules (fn : Nat) (decode : Bool) (e : Bytes) : List (Bool × Nat) :=
  [(depthOk (u16 e 26), 26), (u64 e 28 % 4096 == 0, 28), (decide (u16 e 36 < vectors fn), 36),
   (depthOk (u16 e 38) && (!decode || u16 e 38 == 0), 38), (u64 e 40 % 4096 == 0, 40), (decide (u16 e 48 < vectors fn), 48)]

/-- The map area of an encode session (R73, R238); a decode session has none. -/
def mapRule (s : State) (fn : Nat) (decode : Bool) (c e : Bytes) : Bool × Nat :=
  (if decode then u64 e 56 == 0
   else u8 c 0x0FE == 0 || (u64 e 56 % 4096 == 0 && decide (u64 e 56 + motionMapBytes c ≤ grantBytes s fn)), 56)

/-- Length of the data buffer of a configuration (Table 11.15). -/
def configLen (decode : Bool) (c : Bytes) : Nat := if decode then 256 else if u8 c 0x078 = 1 then 768 else 512

/-- Sessions that hold a pixel port in one direction (R308). -/
def portTaken (s : State) (p : Nat) (rx : Bool) : Bool :=
  (sessList s).any fun x =>
    if rx then !x.decode && cSource x.cfg == 1 && u8 x.cfg 0x003 == p
    else x.decode && u8 x.cfg 0x15 != 0 && u8 x.cfg 0x16 == p

/-- Packet bytes of one plane row (R302, R304, R308). -/
def pxRowBytes (n : Nat) : Nat := roundUp n 8 + 24 * max 1 (cdiv n 16384)

/-- Does a pixel port source fit its port (R308)? -/
def pxFits (s : State) (c : Bytes) : Bool :=
  let cap := fracOf ((pxGet s (u8 c 0x003)).cfg.rxLanes * 3125000000)
  let perFrame := (srcPlanes c).foldl (fun n p => n + pxRowBytes p.1 * p.2) 0
  let perLine := (srcPlanes c).foldl (fun n p => n + pxRowBytes p.1) 0
  fracLe (fracMul (rateOf c) (fracOf perFrame)) (fracMul cap ⟨97, 100⟩)
    && fracLe (fracMul (rateOf c) (fracOf (perLine * srcH c))) cap

/-- Resources that are not shares: the pixel port of a session (R308). -/
def portFree (s : State) (decode : Bool) (c : Bytes) : Bool :=
  if decode then u8 c 0x15 == 0 || !portTaken s (u8 c 0x16) false
  else cSource c != 1 || (!portTaken s (u8 c 0x003) true && pxFits s c)

/-- The lowest free slot (log entry 33). -/
def freeSlot (s : State) : Option Nat := ((List.range 256).filter (fun k => (tfind s.sessions k).isNone)).head?

/-- Sessions of a function. -/
def fnSessions (s : State) (fn : Nat) : Nat := ((sessList s).filter (fun x => x.fn = fn)).length

/-- A stack that failed its training at Secure Boot refuses every session (R280). -/
def trainFailed (s : State) : Option Reply :=
  if (stackGet s 0).trainFailed then some ⟨stDegraded, 0, 32⟩ else if (stackGet s 1).trainFailed then some ⟨stDegraded, 0, 33⟩
  else none

/-- A session whose pixel port is fenced (R405). -/
def pxFenced (s : State) (decode : Bool) (c : Bytes) : Option Reply :=
  if decode then (if u8 c 0x15 != 0 then fenceCheck s (.pixelPort (u8 c 0x16)) else none)
  else if cSource c = 1 then fenceCheck s (.pixelPort (u8 c 0x003)) else none

/-- Refusals of a valid configuration, in order: determinism version, role, security service, memory, resources. -/
def createLimits (s : State) (fn : Nat) (decode : Bool) (c : Bytes) : Option Reply :=
  let enc := u8 c (if decode then 0xC3 else 0x184)
  let dv := if decode then 0 else u32 c 0x1D0
  if dv != 0 && dv != (activeFacts s).determinismVersion then some ⟨stVersionMismatch, 0, (activeFacts s).determinismVersion⟩
  else if enc != 0 && (fnGet s fn).auth.role == .none then some (failDetail stNotPermitted 1)
  else if enc != 0 && s.sec.unavailable.contains (keyService decode c) then some (failWith stSecurityState)
  else match orElse (trainFailed s) (pxFenced s decode c) with
    | some b => some b
    | none =>
      if (fnGet s fn).sessGrant ≤ fnSessions s fn || (freeSlot s).isNone || !portFree s decode c
          || (admitHere s decode c).isNone then some (failWith stNoResource)
      else none

/-- The checks of CREATE_SESSION. -/
def chkCreate (r : CmdRef) (data : Bytes) (s : State) (e : Bytes) : Option Reply :=
  let decode := u8 e 24 == 1
  let c := readData s r.fn e data
  orElse (fieldCheck ([(if decode then cmdDataLen e == 256 else cmdDataLen e == configLen false c, 0x10),
      (decide (u8 e 24 ≤ 1), 24)] ++ ringRules r.fn decode e))
    (orElse (match (if decode then decodeCheck s r.fn false c else encodeCheck s r.fn false false c) with
        | some off => some (badData off)
        | none => none)
      (orElse (fieldCheck [mapRule s r.fn decode c e]) (createLimits s r.fn decode c)))

/-- Write a session's ID, or 0, into the flows that its configuration names (R365). -/
def bindFlow (s : State) (flow v : Nat) : State :=
  match tfind s.net.flows flow with
  | some f => { s with net := { s.net with flows := tset s.net.flows flow { f with session := v } } }
  | none => s
def bindFlows (s : State) (decode : Bool) (c : Bytes) (v : Nat) : State :=
  if decode then (if u8 c 0x14 = 0 then s else bindFlow s (u32 c 0xD0) v)
  else
    let s1 := if cSource c = 2 then bindFlow s (u32 c 0x008) v else s
    if cSink c = 0 then s1 else bindFlow s1 (u32 c 0x00C) v

/-- The key that a session takes from the key store (R439); its derived keys follow R438. -/
def keyOf (s : State) (decode : Bool) (c : Bytes) : Option Bytes :=
  if u8 c (if decode then 0xC3 else 0x184) = 0 then none
  else (tfind s.sec.keys (u16 c (if decode then 0xC8 else 0x186))).map (·.key)

/-- The new session's ID: the slot and the slot's next generation (R238). -/
def newId (s : State) (slot : Nat) : Nat := slot + 256 * ((tget 0 s.slotGen slot + 1) % 2 ^ 24)


/-- Create: reserve, bind, complete with the session ID (R214, R230, R365). -/
def createSession (s : State) (r : CmdRef) (e c : Bytes) : State :=
  let decode := u8 e 24 == 1
  match freeSlot s, admitHere s decode c with
  | some slot, some l =>
    let id := newId s slot
    let x := { Session.make id r.fn decode c ⟨u64 e 28, u16 e 26, u16 e 36, 0⟩ ⟨u64 e 40, u16 e 38, u16 e 48, 0⟩ (u64 e 56) with
               keyMatter := keyOf s decode c }
    let s1 := bindFlows (reserve { s with slotGen := tset s.slotGen slot (tget 0 s.slotGen slot + 1) } x (demandHere s decode c) l) decode c id
    let s2 := if s.mode == .manager && !decode then placeFabric s1 id ((planFor s c).getD []) else s1
    finish (bumpEpoch s2) r ⟨stSuccess, if usesKey x then approved else 0, id⟩
  | _, _ => s

/-- CREATE_SESSION. -/
def execCreateSession (r : CmdRef) (data : Bytes) (s : State) : Result :=
  serve s r 0x20 (chkCreate r data) (fun s e => createSession s r e ((readData s r.fn e data)))

/-! ### START, STOP, DESTROY, QUERY, SET_SESSION_RINGS (R252 to R254) -/

/-- A session that starts again is at a refresh start, and its frame numbers go on from the last output (R254). -/
def startEnc (x : EncState) : EncState :=
  { x with refreshDue := true, codeBase := x.nextFrame, codeCount := 0 }

/-- A stopped fabric session that starts again has its roles placed anew. -/
def restartFabric (s : State) (x : Session) : State :=
  if s.mode == .manager && isDist x then
    match planFor s x.cfg with
    | some l => beginEpoch (l.foldl (fun s p => giveRole s x.id p.1 p.2.1 p.2.2 x.enc.nextFrame)
        (editSession s x.id (fun y => { y with dist := { y.dist with roles := [], regions := [] } })))
        [(x.dist.fabricSession, x.enc.nextFrame)]
    | none => s
  else s

/-- START_SESSION (Table 12.6, R431). -/
def execStartSession (r : CmdRef) (s : State) : Result :=
  serve s r 0x21 (chkSession r.fn (fun s x _ =>
      if x.state == .stopping then some (failWith stBusy)
      else if securityStops s x then some (failWith stSecurityState) else none))
    (onSession r.fn (fun s x _ => match x.state with
      | .created => succeed (sessPut s { x with state := .running, enc := startEnc x.enc }) r 0
      | .stopped => succeed (restartFabric (sessPut s { x with state := .running, enc := startEnc x.enc }) x) r 0
      | _ => succeed s r 0))

/-- Is all started work of a stopping session out (R253): no frame in coding, nothing held back? -/
def drained (x : Session) : Bool :=
  if x.decode then x.dec.pics.all (·.going == 2)
  else x.enc.frames.isEmpty && x.enc.backlog.isEmpty && x.enc.chunkBuf.isEmpty

/-- A session that stops under WHEN 0x0 is STOPPED once its started work is out. -/
def settleStop (s : State) (id : Nat) : State :=
  match sessById s id with
  | some x => if x.state == .stopping && drained x then reachStopped s x else s
  | none => s

/-- Complete the pictures that no band has been dispatched of, and the bitstream not consumed (R262). -/
def dropUndispatched (s : State) (x : Session) : State :=
  let gone := undispatched x
  let s1 := (gone.filter (fun p => !p.complete)).foldl (fun s p => finish s ⟨x.fn, p.qid, p.cid⟩ (failWith stAborted)) s
  let s2 := x.dec.pendingIn.foldl (fun s p => finish s ⟨x.fn, p.1, p.2.1⟩ ⟨stAborted, 0, p.2.2⟩) s1
  sessPut s2 { x with enc := { x.enc with submitted := x.enc.submitted.filter (fun p => !gone.contains p) },
                      dec := { x.dec with pendingIn := [] } }

/-- Stop with WHEN 0x0: STOPPING, and STOPPED once the started frames are out (R253). -/
def stopAfter (s : State) (x : Session) : State :=
  settleStop (dropUndispatched s { x with state := .stopping }) x.id

/-- STOP_SESSION by state (Table 12.6, R253). -/
def stopSession (s : State) (r : CmdRef) (x : Session) (e : Bytes) : State :=
  let wait (x : Session) : Session := { x with stopCids := x.stopCids ++ [(r.qid, r.cid)] }
  match x.state with
  | .created => succeed s r 0xFFFFFFFF
  | .stopped => succeed s r (lastFrameOut x)
  | .resync => withdrawFabric (bumpEpoch (stopNow s (wait x))) x
  | .running => withdrawFabric (bumpEpoch (if u8 e 24 = 1 then stopNow s (wait x) else stopAfter s (wait x))) x
  | .stopping => if u8 e 24 = 1 then stopNow s (wait x) else sessPut s (wait x)

/-- STOP_SESSION. -/
def execStopSession (r : CmdRef) (s : State) : Result :=
  serve s r 0x23 (chkSession r.fn (fun _ _ e => fieldCheck [(decide (u8 e 24 ≤ 1), 24)]))
    (onSession r.fn (fun s x e => stopSession s r x e))

/-- May a session be destroyed (Table 12.6)? -/
def destroyable (x : Session) : Bool := x.state == .created || x.state == .stopped

/-- DESTROY_SESSION (R252): buffers held for later use complete with ABORTED (log entry 34). -/
def execDestroySession (r : CmdRef) (s : State) : Result :=
  serve s r 0x24 (chkSession r.fn (fun _ x _ => if destroyable x then none else some (failWith stBusy)))
    (onSession r.fn (fun s x _ =>
      let s1 := releaseBuffers (releaseBuffers s x.fn x.enc.buffers) x.fn x.dec.buffers
      succeed (withdrawFabric (bumpEpoch (larderUpdate (destroySession s1 x))) x) r 0))

/-- The configuration in force: a reconfiguration counts from its frame (R255). -/
def cfgInForce (x : Session) : Bytes := x.cfg

/-- QUERY_SESSION (R252). -/
def execQuerySession (r : CmdRef) (s : State) : Result :=
  serve s r 0x25 (chkSession r.fn (fun _ x e => fieldCheck [(decide ((cfgInForce x).length ≤ cmdDataLen e), 0x10)]))
    (onSession r.fn (fun s x e => succeed (writeData s r.fn e (cfgInForce x)) r (sessCode x.state)))

/-- SET_SESSION_RINGS (R238). -/
def execSetSessionRings (r : CmdRef) (s : State) : Result :=
  serve s r 0x26 (chkSession r.fn (fun s x e => fieldCheck (ringRules r.fn x.decode e ++ [mapRule s r.fn x.decode x.cfg e])))
    (onSession r.fn (fun s x e =>
      succeed (sessPut s { x with report := ⟨u64 e 28, u16 e 26, u16 e 36, 0⟩, motion := ⟨u64 e 40, u16 e 38, u16 e 48, 0⟩,
                                  mapBase := u64 e 56 }) r 0))

/-! ### Frames: which one comes next, refresh starts -/

/-- Coding order within a mini-GOP of random access, by halving: anchor first (log entry 35); `n` bounds the depth. -/
def halvings (n lo hi : Nat) : List Nat :=
  match n with
  | 0 => []
  | k + 1 => if hi ≤ lo + 1 then [] else let m := (lo + hi) / 2; m :: (halvings k lo m ++ halvings k m hi)
def gopOrder (g : Nat) : List Nat := g :: halvings 6 0 g

/-- Frame number of the n-th picture coded since the session last started (R36, R76). -/
def frameAt (x : Session) (n : Nat) : Nat :=
  let g := u8 x.cfg 0x085
  if cStructure x.cfg != 3 || n = 0 || g = 0 then x.enc.codeBase + n
  else x.enc.codeBase + (n - 1) / g * g + (gopOrder g).getD ((n - 1) % g) 0

/-- Has the first band of a frame been dispatched? -/
def isDispatched (x : Session) (f : Nat) : Bool :=
  decide (f < x.enc.codeBase) || (List.range x.enc.codeCount).any (fun n => frameAt x n == f)

/-- The configuration that a frame takes: the latest change at or before it (R255). -/
def cfgAt (x : Session) (f : Nat) : Bytes :=
  (x.pendingCfg.foldl (fun (b : Nat × Bytes) p => if p.1 ≤ f && (b.1 ≤ p.1) then p else b) (0, x.cfg)).2

/-- Pictures of a sweep (R37). -/
def sweepLen (c : Bytes) : Nat := max 1 (cdiv (wCtu c) (max 1 (u16 c 0x08E)))

/-- Is a frame a refresh start as scheduled: a periodic intra picture, the first picture of a sweep, a forced frame (R36 to
R38, R254)?  An intra-only session codes nothing else. -/
def refreshStart (x : Session) (c : Bytes) (f : Nat) : Bool :=
  cStructure c == 0 || x.enc.forced.contains f || (x.enc.refreshDue && f == frameAt x x.enc.codeCount)
  || (if u8 c 0x08D = 1 then (f - x.enc.sweepStart) % sweepLen c == 0
      else u32 c 0x088 != 0 && decide (x.enc.lastIntra < f) && (f - x.enc.lastIntra) % u32 c 0x088 == 0)

/-- The frame that FORCE_REFRESH uses: in random access the first of its GOP (R38). -/
def forcedFrame (c : Bytes) (f : Nat) : Nat := if cStructure c = 3 ∧ u8 c 0x085 ≠ 0 then f / u8 c 0x085 * u8 c 0x085 else f

/-- FORCE_REFRESH (R38). -/
def execForceRefresh (r : CmdRef) (s : State) : Result :=
  serve s r 0x27 (chkSession r.fn (fun _ x e => fieldCheck [(!x.decode, 4), (!isDispatched x (forcedFrame x.cfg (u64 e 24)), 24)]))
    (onSession r.fn (fun s x e =>
      let f := forcedFrame x.cfg (u64 e 24)
      succeed (sessPut s { x with enc := { x.enc with forced := f :: x.enc.forced } }) r (f % 2 ^ 32)))

/-! ### RECONFIGURE_SESSION (R255) -/

/-- The frame is still to come: encode counts dispatched frames, decode counts output pictures. -/
def frameAhead (x : Session) (f : Nat) : Bool := if x.decode then decide (x.dec.outCount ≤ f) else !isDispatched x f

/-- Does a refresh start fall on the frame, so that class 1 fields may change (step 3 of R255)? -/
def refreshThere (x : Session) (c : Bytes) (f : Nat) : Bool :=
  refreshStart x c f && (cStructure c != 3 || u8 c 0x085 == 0 || f % u8 c 0x085 == 0)

/-- The pending changes of other frames. -/
def otherChanges (x : Session) (f : Nat) : List (Nat × Bytes) := x.pendingCfg.filter (fun p => p.1 ≠ f)

/-- The configuration in force for the frame before. -/
def cfgBefore (x : Session) (f : Nat) : Bytes := cfgAt { x with pendingCfg := otherChanges x f } f

/-- The checks of RECONFIGURE_SESSION in the order of R255. -/
def chkReconfigure (r : CmdRef) (data : Bytes) (s : State) (x : Session) (e : Bytes) : Option Reply :=
  let f := u64 e 24
  let c := readData s r.fn e data
  let old := cfgBefore x f
  if x.state == .stopping then some (failWith stBusy)
  else orElse (fieldCheck [(cmdDataLen e == configLen x.decode c, 0x10), (frameAhead x f, 24)])
    (orElse (match (if x.decode then decodeCheck s r.fn true c else encodeCheck s r.fn true true c) with
        | some off => some (badData off)
        | none => none)
      (orElse (match fixedChange x.decode old c with
          | some off => some (badData off)
          | none => if refreshThere x old f then none else (refreshChange x.decode old c).map badData)
        (if 4 ≤ (otherChanges x f).length then some (failWith stBusy)
         else if (admitFor (sessPut s (unreserved x)) (maskOf x.decode c) (demandFor x c)).isNone then some (failWith stNoResource)
         else none)))

/-- Accept a change: it replaces one of the same frame, reserves what it needs and advances the epoch. -/
def acceptChange (s : State) (r : CmdRef) (x : Session) (f : Nat) (c : Bytes) : State :=
  let d := demandFor x c
  match admitFor (sessPut s (unreserved x)) (maskOf x.decode c) d with
  | some l => succeed (replanFabric (bumpEpoch (reserve s { x with pendingCfg := otherChanges x f ++ [(f, c)] } d l)) x f c) r 0
  | none => s

/-- RECONFIGURE_SESSION. -/
def execReconfigureSession (r : CmdRef) (data : Bytes) (s : State) : Result :=
  serve s r 0x22 (chkSession r.fn (chkReconfigure r data))
    (onSession r.fn (fun s x e => acceptChange s r x (u64 e 24) (readData s r.fn e data)))

/-! ### Buffers (R257 to R262) -/

/-- Bytes that the backlog of a memory sink holds, and whether it is full (R259). -/
def backlogBytes (x : Session) : Nat := x.enc.backlog.foldl (fun n b => n + b.length) 0
def backlogFull (x : Session) : Bool := decide (u32 x.cfg 0x014 * 1048576 ≤ backlogBytes x)

/-- Mark the submitted pictures that may be read: the first SUBMIT_DEPTH, while the backlog is not full (R257, R259). -/
def admitReads (x : Session) : Session :=
  let waiting := ((x.enc.submitted.filter (fun p => !p.complete)).take (u16 x.cfg 0x012)).map (·.frame)
  let l := x.enc.submitted.map fun p => if waiting.contains p.frame then { p with read := true } else p
  if backlogFull x && !x.decode && cSink x.cfg == 0 then x else { x with enc := { x.enc with submitted := l } }

/-- SUBMIT_PICTURE by state (Table 12.6, R257). -/
def chkSubmit (_ : State) (x : Session) (e : Bytes) : Option Reply :=
  orElse (fieldCheck [(!x.decode && cSource x.cfg == 0, 4)])
    (if x.state != .running && x.state != .resync then some (failWith stBusy)
     else fieldCheck [(cmdDataPtr e % 4096 == 0, 8), (decide (srcBytes (cfgAt x x.enc.nextSubmit) ≤ cmdDataLen e), 0x10),
                      (u64 e 24 == x.enc.nextSubmit, 24)])

/-- SUBMIT_PICTURE: the picture waits for its bands to be read; its completion follows its last read (R257). -/
def execSubmitPicture (r : CmdRef) (s : State) : Result :=
  serve s r 0x40 (chkSession r.fn chkSubmit) (onSession r.fn (fun s x e =>
    sessPut s (admitReads { x with enc := { x.enc with
      nextSubmit := x.enc.nextSubmit + 1,
      submitted := x.enc.submitted ++ [{ cid := r.cid, qid := r.qid, frame := u64 e 24, read := false,
                                          since := ((inFlight s r).map (·.fetched)).getD s.now, stamp := 0,
                                          rows := 0, complete := false, coded := [], quarter := [], arrived := [], cll := none }] } })))

/-- Chunk key and chunk salt of a key store entry's key (Table 22.5). -/
def chunkKey (key : Bytes) (keyId : Nat) : Bytes := Config.kdf key (ascii "GCHK key") (le 2 keyId) 32
def chunkSalt (key : Bytes) (keyId : Nat) : Bytes := Config.kdf key (ascii "GCHK salt") (le 2 keyId) 4

/-- Chunk records in a bitstream (R123): the plaintext of each record in turn; none where a tag fails.  `n` bounds them. -/
def openChunks (n : Nat) (key : Bytes) (b : Bytes) : List (Nat × Option Bytes) :=
  match n with
  | 0 => []
  | k + 1 =>
    if b.length < 48 || u32 b 0 != 0x4B484347 then []
    else
      let len := u32 b 0x18
      (u64 b 8, Config.gcmOpen (chunkKey key (u16 b 6)) (chunkSalt key (u16 b 6) ++ be 8 (u64 b 8)) (slice b 0 32) (slice b 32 len) (slice b (32 + len) 16))
        :: openChunks k key (b.drop (roundUp (48 + len) 64))

/-- Chunk records of a byte string: indices accepted, tags that fail (LOST_DATA), indices seen before under the key (REPLAY). -/
def sortChunks (seen : List Nat) (lost replay : Nat) : List (Nat × Option Bytes) → List Nat × Nat × Nat
  | [] => (seen, lost, replay)
  | (n, b) :: l =>
    if b.isNone then sortChunks seen (lost + 1) replay l
    else if seen.contains n then sortChunks seen lost (replay + 1) l
    else sortChunks (seen ++ [n]) lost replay l

/-- Feed bytes to the decoder (R131): the first bytes of a stream start the clock of R145.  A changed chunk
key takes effect with them (R441). -/
def feed (s : State) (x0 : Session) (b : Bytes) : Session :=
  let x := match x0.nextKey with
    | some k => { x0 with keyMatter := some k, nextKey := none, dec := { x0.dec with chunks := [] } }
    | none => x0
  let c := match x.keyMatter with
    | some key => if u8 x.cfg 0xC3 = 2 then sortChunks x.dec.chunks 0 0 (openChunks 64 key b) else (x.dec.chunks, 0, 0)
    | none => (x.dec.chunks, 0, 0)
  { x with dec := { x.dec with
      stream := x.dec.stream + b.length
      firstAt := some (x.dec.firstAt.getD s.now)
      lostPackets := x.dec.lostPackets + c.2.1
      replay := x.dec.replay + c.2.2
      chunks := c.1 } }

/-- SUBMIT_BITSTREAM: the bytes join the stream; the completion waits until the decoder has consumed them (R131, R257).  No chunk
record is accepted while chunk protection is in error (R447). -/
def execSubmitBitstream (r : CmdRef) (data : Bytes) (s : State) : Result :=
  serve s r 0x41 (chkSession r.fn (fun _ x _ =>
      orElse (fieldCheck [(x.decode && u8 x.cfg 0x14 == 0, 4)])
        (if x.state != .running && x.state != .resync then some (failWith stBusy) else none)))
    (onSession r.fn (fun s x e =>
      let b := if securityStops s x then [] else readData s r.fn e data
      let y := feed s x b
      sessPut s { y with dec := { y.dec with endOfStream := y.dec.endOfStream || bitOf (u8 e 24) 0,
                                             pendingIn := y.dec.pendingIn ++ [(r.qid, r.cid, b.length)] } }))

/-- Smallest output buffer of a session (R258). -/
def bufferMin (x : Session) : Nat :=
  if x.decode then max 4096 (decOutBytes x.cfg)
  else if u8 x.cfg 0x184 = 2 then max 4096 (roundUp (2 ^ u8 x.cfg 0x185 + 48) 64) else 4096

/-- Room that is left in an output buffer. -/
def OutBuffer.room (b : OutBuffer) : Nat := b.size - b.filled.length

/-- Close the first buffer of an encode session: its bytes are written, its command completes with their number and the
DETAIL bits (R258, Table 11.15). -/
def closeBuffer (s : State) (x : Session) (detail : Nat) : State × Session :=
  match x.enc.buffers with
  | [] => (s, x)
  | b :: l =>
    (finish (hostWrite s x.fn b.inHbm b.addr b.filled) ⟨x.fn, b.qid, b.cid⟩ ⟨stSuccess, detail, b.filled.length⟩,
     { x with enc := { x.enc with buffers := l } })

/-- Move one backlog item into the buffers: an item is the rest of an access unit, or one chunk record with its gap (R123,
R258).  An empty item ends an access unit, a second one the sequence (R260).  An access unit larger than the buffer continues
in the next one; a chunk record never straddles. -/
def pourItem (n : Nat) (s : State) (x : Session) : State × Session :=
  match n with
  | 0 => (s, x)
  | k + 1 =>
    match x.enc.backlog, x.enc.buffers with
    | item :: rest, b :: bl =>
      let whole := u8 x.cfg 0x184 == 2
      if item.isEmpty then
        if b.filled.isEmpty then pourItem k s { x with enc := { x.enc with backlog := rest } }
        else
          let last := rest.head? == some []
          let (s1, x1) := closeBuffer s { x with enc := { x.enc with backlog := if last then rest.tail else rest } } (if last then 3 else 1)
          pourItem k s1 x1
      else if whole && b.room < item.length then
        let (s1, x1) := closeBuffer s x 0
        pourItem k s1 x1
      else
        let b1 := { b with filled := b.filled ++ item.take b.room }
        let left := item.drop b.room
        let x1 := { x with enc := { x.enc with buffers := b1 :: bl,
                                               backlog := if left.isEmpty then rest else left :: rest } }
        if b1.room = 0 && !(left.isEmpty && rest.head? = some []) then
          let (s1, x2) := closeBuffer s x1 0
          pourItem k s1 x2
        else pourItem k s x1
    | _, _ => (s, x)

/-- FLUSH completes when every picture submitted before it is out and written (R260); RESULT counts the frames output. -/
def flushDone (x : Session) : Bool :=
  if x.decode then x.dec.pics.all (·.going == 2) && x.dec.pendingIn.isEmpty && x.dec.stream == x.dec.consumed
  else x.enc.submitted.isEmpty && x.enc.frames.isEmpty && x.enc.backlog.isEmpty

/-- Complete the FLUSH commands of a session that have nothing left to wait for. -/
def settleFlush (s : State) (x : Session) : State :=
  if flushDone x then
    (sessCmds s x).foldl (fun s c =>
      if cmdOpcode c.2.entry = 0x43 && c.2.started then finish s c.1 (ok (x.frames % 2 ^ 32)) else s) s
  else s

/-- Pour the backlog, let reading go on, and settle what waited for it. -/
def settleOutput (s : State) (id : Nat) : State :=
  match sessById s id with
  | none => s
  | some x =>
    let (s1, x1) := pourItem 4096 s x
    let s2 := sessPut s1 (admitReads x1)
    settleStop (match sessById s2 id with | some y => settleFlush s2 y | none => s2) id

/-- RETURN_BUFFER (R258): the buffer joins the queue and receives what waits. -/
def execReturnBuffer (r : CmdRef) (s : State) : Result :=
  serve s r 0x42 (chkSession r.fn (fun _ x e =>
      fieldCheck [(if x.decode then u8 x.cfg 0x15 != 1 else cSink x.cfg == 0, 4), (decide (bufferMin x ≤ cmdDataLen e), 0x10)]))
    (onSession r.fn (fun s x e =>
      let b : OutBuffer := { cid := r.cid, qid := r.qid, addr := cmdDataPtr e, inHbm := cmdInHbm e, size := cmdDataLen e, filled := [] }
      if x.decode then sessPut s { x with dec := { x.dec with buffers := x.dec.buffers ++ [b] } }
      else
        let y := { x with blocked := false, enc := { x.enc with buffers := x.enc.buffers ++ [b] } }
        settleOutput (sessPut s y) x.id))

end Sys2Proof.Machine
end

