-- ==== Sys2Proof/Machine/Floor.lean ====
section
/-! DEFINITION. The Fidelity Meter and the fidelity floor (R84 to R95), the hypothetical reference decoder (R80 to R83) and
CU_MEASURE. -/

namespace Sys2Proof.Machine

/-! ### Measures (R85, R87) -/

/-- Is SSE at or below N × (2^bd − 1)² × 10^(−F / 2,560), without rounding (R85)? -/
def psnrPass (n bd sse f : Nat) : Bool :=
  decide (sse ^ 2560 * 10 ^ f ≤ (n * ((2 ^ bd - 1) * (2 ^ bd - 1))) ^ 2560)

/-- The largest f of `lo` to `lo + 2^k − 1` that passes; the test only fails from some f on. -/
def psnrSearch (k n bd sse lo : Nat) : Nat :=
  match k with
  | 0 => lo
  | j + 1 => if psnrPass n bd sse (lo + 2 ^ j) then psnrSearch j n bd sse (lo + 2 ^ j) else psnrSearch j n bd sse lo

/-- The reported PSNR in 1/256 dB, rounded down; 0xFFFF for SSE 0 (R85). -/
def psnrCode (n bd sse : Nat) : Nat := if sse = 0 then 0xFFFF else min 0xFFFE (psnrSearch 16 n bd sse 0)

/-- Does a measured attempt pass every configured floor (R87)? -/
def floorPass (c : Bytes) (m : CuMeas) : Bool :=
  (u16 c 0x120 == 0 || psnrPass m.nY (cDepth c) m.sseY (u16 c 0x120))
    && (floorPsnrC c == 0 || psnrPass m.nC (cDepth c) m.sseC (floorPsnrC c))
    && (u16 c 0x124 == 0 || decide (u16 c 0x124 ≤ m.ssim))

/-! ### Quantisers and charges (R75, R89, R90) -/

/-- QP_min of R90. -/
def qpMin (c : Bytes) : Int := if cStd c = 3 then 1 else qpLow c

/-- A first quantiser lies from MIN_QP to MAX_QP (R75). -/
def clipQp (c : Bytes) (q : Int) : Int := max (minQp c) (min (maxQp c) q)

/-- Step of a retry. -/
def retryStep (c : Bytes) : Int := if cStd c = 3 then 4 * (u8 c 0x127 : Int) else (u8 c 0x127 : Int)

/-- Quantiser of attempt i: QP_0, then max(QP_min, QP_0 − i × RETRY_DQP) (R90). -/
def qpOf (c : Bytes) (qp0 : Int) (i : Nat) : Int := if i = 0 then qp0 else max (qpMin c) (qp0 - (i : Int) * retryStep c)

/-- Charge of a retry: 1.25 × C_s, rounded up (R89). -/
def retryCharge (c : Bytes) : Nat := cdiv (5 * schedCost c) 4

/-- Charge of a lossless recode (R89). -/
def losslessCharge (c : Bytes) (bins : Nat) : Nat := max (retryCharge c) (cdiv bins 4)

/-- B_u of a unit of `n` coding units (R89). -/
def unitBudget (c : Bytes) (n : Nat) : Nat := retryPct c * (n * schedCost c) / 100

/-- MIN_CU_BITS (R82). -/
def minCuBits (c : Bytes) : Nat := Config.minCuBits (cStd c) (encodeOp c) (cDepth c) (cuLog2 (cCtu c))

/-- STRICT_HRD. -/
def strictHrd (c : Bytes) : Bool := u8 c 0x101 == 1

/-- May a coding unit be coded losslessly (R93)? -/
def losslessAble (c : Bytes) : Bool := !(cStd c == 2 && u8 c 0x080 != 244)

/-! ### Entries (Table 4.6) -/

/-- STATE bits of the fidelity map. -/
def cuState (retries : Nat) (lossless miss short atMin capRefused : Bool) : Nat :=
  retries % 4 + (if lossless then 4 else 0) + (if miss then 8 else 0) + (if short then 16 else 0)
    + (if atMin then 32 else 0) + (if capRefused then 64 else 0) + 128

/-- The entry of a lossy attempt. -/
def lossyEntry (c : Bytes) (m : CuMeas) (cu i : Nat) (qp : Int) (miss short capRefused : Bool) : CuEntry :=
  { cu := cu, psnrY := psnrCode m.nY (cDepth c) m.sseY
    psnrC := if cChroma c = 0 then 0 else psnrCode m.nC (cDepth c) m.sseC
    ssim := m.ssim, qp := qp, state := cuState i false miss short (qp == qpMin c) capRefused, bits := m.bits, area := m.area
    final := if u8 c 0x0EC = 1 then psnrCode m.nY (cDepth c) m.sseY else psnrCode m.nY (cDepth c) m.sseFinal }

/-- The entry of a lossless coding: exact at the meter point (R95). -/
def losslessEntry (c : Bytes) (m : CuMeas) (cu i : Nat) (short : Bool) : CuEntry :=
  { cu := cu, psnrY := 0xFFFF, psnrC := if cChroma c = 0 then 0 else 0xFFFF, ssim := 0xFFFF, qp := -32768
    state := cuState i true false short false false, bits := m.llBits, area := m.area
    final := if u8 c 0x0EC = 1 || cRateMode c == 4 then 0xFFFF else psnrCode m.nY (cDepth c) m.llFinal }

/-! ### The floor loop (R90 to R93) -/

/-- What the loop decides on a measured attempt: keep an entry with its charge and flags, or start another retry. -/
inductive FloorDecision where
  | keep (e : CuEntry) (charge : Nat) (flags : Nat)
  | retry (prev : CuEntry)
deriving DecidableEq, Repr

/-- Would bits for this unit, with the rest of the unit at MIN_CU_BITS, break the unit cap (R92)? -/
def capBroken (c : Bytes) (u : UnitRec) (cu bits : Nat) : Bool :=
  match u.cap with
  | none => false
  | some cap => decide (cap < u.acc.bits + bits + (u.rows * u.cols - cu - 1) * minCuBits c)

/-- Mark an attempt that is kept although it fails the floor (R92). -/
def missed (e : CuEntry) (short capRefused : Bool) : CuEntry :=
  { e with state := e.state ||| (8 + (if short then 16 else 0) + (if capRefused then 64 else 0)) }

/-- The lossless step after the last attempt has failed (R91, R92). -/
def floorLast (c : Bytes) (u : UnitRec) (m : CuMeas) (cu i : Nat) (e : CuEntry) (short : Bool) : FloorDecision :=
  let charge := losslessCharge c m.llBins
  if !losslessAble c then .keep (missed e short false) 0 4
  else if !strictHrd c then
    .keep (losslessEntry c m cu i short) charge (if u.budget < u.acc.spent + charge then 2 else 0)
  else if u.budget < u.acc.spent + charge then .keep (missed e true false) 0 4
  else if capBroken c u cu m.llBits then .keep (missed e short true) charge 4
  else .keep (losslessEntry c m cu i short) charge 0

/-- The floor loop on attempt `i` of unit `cu` at quantiser `qp` (R90). -/
def floorStep (c : Bytes) (u : UnitRec) (m : CuMeas) (cu i : Nat) (qp : Int) (prev : Option CuEntry) : FloorDecision :=
  let e := lossyEntry c m cu i qp false false false
  if cRateMode c = 4 then .keep (losslessEntry c m cu 0 false) 0 0
  else match prev, strictHrd c && decide (0 < i) && capBroken c u cu m.bits with
    | some p, true => .keep (missed p false true) 0 4
    | _, _ =>
      if !floorOn c || floorPass c m then .keep e 0 0
      else
        let more := decide (i < u8 c 0x126) && decide (qpMin c < qp)
        let fits := decide (u.acc.spent + retryCharge c ≤ u.budget)
        if more && fits then .retry e else floorLast c u m cu i e (more && !fits)

/-! ### The hypothetical reference decoder (R80 to R83) -/

/-- Input rate in b/s, buffer in bits (R80, R81); no model without HRD_SIGNAL. -/
def hrdOn (c : Bytes) : Bool := u8 c 0x103 == 1 && decoderRate c != 0
def hrdRate (c : Bytes) : Nat := decoderRate c * 1000
def hrdSize (c : Bytes) : Nat := cpbOf c * 1000

/-- Initial removal delay in 90 kHz ticks (R81). -/
def initialDelay (c : Bytes) : Nat :=
  if u32 c 0x110 != 0 then u32 c 0x110 else 9 * cpbOf c * 90000 / (10 * max 1 (decoderRate c))

/-- Removal time in seconds of the n-th picture of the buffering period. -/
def removalTime (c : Bytes) (n : Nat) : Frac := fracAdd ⟨initialDelay c, 90000⟩ ⟨n * u32 c 0x04C, max 1 (u32 c 0x048)⟩

/-- Account one picture: CBR sums bits; otherwise the final arrival time, a picture arriving no earlier than its removal
time less the initial delay (from the standards' decoder models, log entry 36). -/
def hrdStep (c : Bytes) (n : Nat) (acc : Frac) (bits : Nat) : Frac :=
  if cRateMode c = 0 then fracAdd acc (fracOf bits)
  else fracAdd (fracMax acc (fracSub (removalTime c n) ⟨initialDelay c, 90000⟩)) ⟨bits, max 1 (hrdRate c)⟩

/-- Bits that may be removed at the n-th removal time (R82). -/
def hrdRoom (c : Bytes) (n : Nat) (acc : Frac) : Nat :=
  let t := removalTime c n
  if cRateMode c = 0 then fracFloor (fracSub (fracMul (fracOf (hrdRate c)) t) acc)
  else fracFloor (fracMul (fracOf (hrdRate c)) (fracSub t (fracMax acc (fracSub t ⟨initialDelay c, 90000⟩))))

/-- Actual bits of a picture that the ledger holds as final. -/
def ledgerBits (x : Session) (k : Nat) : Option Nat :=
  match tfind x.enc.ledger k with
  | some f => if f.final then some f.bits else none
  | none => none

/-- Fold the actual sizes of pictures `k` to `k + n − 1` into the account; it stops at a size that is not final. -/
def foldActual (c : Bytes) (x : Session) : Nat → Nat → Frac → Nat × Frac
  | 0, k, acc => (k, acc)
  | n + 1, k, acc =>
    match ledgerBits x k with
    | some b => foldActual c x n (k + 1) (hrdStep c (k - x.enc.hrdBase) acc b)
    | none => (k, acc)

/-- Cap of a picture that is not final: as its frame or the ledger holds it. -/
def capOf (x : Session) (k : Nat) : Nat :=
  match x.enc.frames.find? (fun f => f.code = k) with
  | some f => f.cap.getD 0
  | none => (((tfind x.enc.ledger k).map (·.cap)).getD none).getD 0

/-- Fold the caps of pictures `k` to `k + n − 1`: in CBR the padding that R83 then adds counts too. -/
def foldCaps (c : Bytes) (x : Session) : Nat → Nat → Frac → Frac
  | 0, _, acc => acc
  | n + 1, k, acc =>
    let a := hrdStep c (k - x.enc.hrdBase) acc (capOf x k)
    let least := fracSub (fracMul (fracOf (hrdRate c)) (removalTime c (k + 1 - x.enc.hrdBase))) (fracOf (hrdSize c))
    foldCaps c x n (k + 1) (if cRateMode c = 0 then fracMax a least else a)

/-- The cap of the next picture in coding order, from actual sizes up to N − d and caps after that (R82). -/
def frameCap (c : Bytes) (x : Session) : Option Nat :=
  if hrdOn c then
    let n := x.enc.codeTotal
    let known := n + 1 - cDelay c - x.enc.hrdNext
    let (k, acc) := foldActual c x known x.enc.hrdNext x.enc.hrdAcc
    some (hrdRoom c (n - x.enc.hrdBase) (foldCaps c x (n - k) k acc))
  else none

/-- Fewest bits of a filler data NAL unit or padding OBU (log entry 36). -/
def leastFiller (std : Nat) : Nat := match std with | 0 => 24 | 1 => 24 | 2 => 16 | _ => 16

/-- Padding bits of a CBR picture: the smallest whole number of bytes that prevents the overflow at the next arrival (R83). -/
def paddingOf (c : Bytes) (x : Session) (code bits : Nat) : Nat :=
  if cRateMode c = 0 && hrdOn c then
    let (_, acc) := foldActual c x (code - x.enc.hrdNext) x.enc.hrdNext x.enc.hrdAcc
    let excess := fracSub (fracMul (fracOf (hrdRate c)) (removalTime c (code + 1 - x.enc.hrdBase)))
                  (fracAdd (fracAdd acc (fracOf bits)) (fracOf (hrdSize c)))
    if excess.num = 0 then 0 else max (fracCeil (fracMul ⟨1, 8⟩ excess) * 8) (leastFiller (cStd c))
  else 0

/-! ### CU_MEASURE -/

/-- A frame in coding, and changing one. -/
def frameOf (x : Session) (f : Nat) : Option EncFrame := x.enc.frames.find? (fun e => e.number = f)
def framePut (x : Session) (e : EncFrame) : Session :=
  { x with enc := { x.enc with frames := x.enc.frames.map (fun g => if g.number = e.number then e else g) } }

/-- The session, frame and unit of a core's work; none for a core that a class 2 fault has stopped (R45). -/
def workOf (s : State) (core : Nat) : Option (Session × EncFrame × UnitRec × WorkRef) :=
  match if (coreGet s core).fault == .none then (coreGet s core).work else none with
  | none => none
  | some w =>
    match sessById s w.session with
    | none => none
    | some x =>
      match frameOf x w.frame with
      | none => none
      | some f => (f.units[w.unit]?).map (fun u => (x, f, u, w))

/-- Write a unit back. -/
def unitPut (s : State) (x : Session) (f : EncFrame) (i : Nat) (u : UnitRec) : State :=
  sessPut s (framePut x { f with units := lset f.units i u })

/-- First row of a unit that has not committed. -/
def openRow (u : UnitRec) : Nat := u.commits.length

/-- Is the coding unit in the unit's open row? -/
def inOpenRow (u : UnitRec) (cu : Nat) : Bool := cu / max 1 u.cols == openRow u

/-- The slot of an engine. -/
def slotOf (c : CoreState) (e : Nat) : Option CuSlot := (c.pipe[e]?).getD none

/-- Does the remaining cap force the rest of the unit to MAX_QP without residual (R82)? -/
def capShort (c : Bytes) (u : UnitRec) (cu : Nat) : Bool :=
  match u.cap with
  | none => false
  | some cap => decide (cap - u.acc.bits < (u.rows * u.cols - cu) * minCuBits c)

/-- First quantiser of a coding unit: the ledger's, clipped; MAX_QP when the cap is short. -/
def firstQp (c : Bytes) (u : UnitRec) (cu : Nat) (q : Int) : Int := if capShort c u cu then maxQp c else clipQp c q

/-- Scheduled entropy cycles of a coding unit (R101). -/
def entropyCost (c : Bytes) : Nat := cdiv (cCtu c * cCtu c * entropyBpp c) 1024

/-- Sum of two motion totals. -/
def addMotion (a b : CuMotion) : CuMotion :=
  { intra := a.intra + b.intra, skip := a.skip + b.skip, inter := a.inter + b.inter, mvSum := a.mvSum + b.mvSum,
    maxX := max a.maxX b.maxX, maxY := max a.maxY b.maxY,
    won := (List.range 4).map (fun i => a.won.getD i 0 + b.won.getD i 0),
    fetches := a.fetches + b.fetches, fetchBytes := a.fetchBytes + b.fetchBytes }

/-- Account a kept coding unit in its unit of work. -/
def keepCu (c : Bytes) (u : UnitRec) (m : CuMeas) (e : CuEntry) (charge flags : Nat) : UnitRec :=
  let ll := e.state / 4 % 2
  let late := if entropyCost c < cdiv (if ll = 1 then m.llBins else m.bins) 4 then 16 else 0
  { u with acc := { u.acc with spent := u.acc.spent + charge, bits := u.acc.bits + e.bits,
                               lossless := u.acc.lossless + ll, flags := u.acc.flags ||| flags ||| late,
                               motion := addMotion u.acc.motion m.motion, entries := u.acc.entries ++ [e] } }

/-- A retry of a coding unit: the younger units of the row leave the pipeline, the unit codes again from MD (R25, R90). -/
def retryPipe (c : CoreState) (sl : CuSlot) (prev : CuEntry) : CoreState :=
  { c with pipe := [none, none, some { sl with attempt := sl.attempt + 1, kept := some prev }, none, none,
                    slotOf c 5, slotOf c 6] }

/-- The Meter's result for the coding unit in RL. -/
def measureCu (s : State) (core : Nat) (m : CuMeas) (sl : CuSlot) (x : Session) (f : EncFrame) (u : UnitRec) (w : WorkRef) : State :=
  let c := f.cfg
  let qp0 := if sl.attempt = 0 then firstQp c u sl.cu m.qp else sl.qp0
  match floorStep c u m sl.cu sl.attempt (qpOf c qp0 sl.attempt) sl.kept with
  | .keep e charge flags =>
    let k := coreGet s core
    let s1 := coreSet s core { k with pipe := lset k.pipe 4 (some { sl with qp0 := qp0, kept := some e, decided := true,
                                                                            lossless := e.state / 4 % 2 == 1 }) }
    unitPut s1 x f w.unit (keepCu c u m e charge flags)
  | .retry prev =>
    let s1 := coreSet s core (retryPipe (coreGet s core) { sl with qp0 := qp0 } prev)
    unitPut s1 x f w.unit { u with nextCu := sl.cu + 1,
                                   acc := { u.acc with spent := u.acc.spent + retryCharge c, retries := u.acc.retries + 1 } }

/-- CU_MEASURE (R84 to R92). -/
def execCuMeasure (core : Nat) (m : CuMeas) (s : State) : Result :=
  withUnit (isCore core) (act s (!asleep s)
    (match workOf s core, slotOf (coreGet s core) 4 with
      | some (x, f, u, w), some sl => if !sl.decided && inOpenRow u sl.cu then measureCu s core m sl x f u w else s
      | _, _ => s))

end Sys2Proof.Machine
end

