-- ==== Sys2Proof/Machine/Ppu.lean ====
section
/-! DEFINITION. The Picture Processing Unit (chapter 7 of the manual): frame layouts, the stages of Table 7.1, the
quarter-resolution copy, proxy rungs, raw mosaics, and PPU_BAND. -/

namespace Sys2Proof.Machine

/-- A plane of samples, row by row. -/
abbrev Plane := List (List Nat)

/-! ### Samples -/

/-- Clip to 16 bits (R147). -/
def clip16 (v : Int) : Nat := min 65535 v.toNat

/-- Rounded Q2.14 (R152): an arithmetic shift. -/
def q14 (v : Int) : Int := (v + 8192) / 16384

/-- Row and sample with edge repetition. -/
def rowAt (p : Plane) (j : Int) : List Nat := p.getD (min j.toNat (p.length - 1)) []
def sampAt (r : List Nat) (i : Int) : Nat := r.getD (min i.toNat (r.length - 1)) 0

/-- Columns as rows. -/
def flipPlane (p : Plane) : Plane := (List.range ((p.headD []).length)).map (fun x => p.map (fun r => r.getD x 0))

/-- Repeat the last row until a plane has `n` rows. -/
def fillRows (n : Nat) (p : Plane) : Plane := p ++ List.replicate (n - p.length) (p.getLastD [])

/-- Change every sample. -/
def mapPlane (f : Nat → Nat) (p : Plane) : Plane := p.map (fun r => r.map f)

/-- Combine planes of one size sample by sample. -/
def zipPlanes (f : Nat → Nat → Nat → Nat) (a b c : Plane) : Plane :=
  a.zipIdx.map (fun r => r.1.zipIdx.map (fun v => f v.1 ((b.getD r.2 []).getD v.2 0) ((c.getD r.2 []).getD v.2 0)))

/-! ### Frame layouts (Table 7.2, R151) -/

/-- Samples of one row. -/
def unpackRow (layout depth w : Nat) (b : Bytes) : List Nat :=
  (List.range w).map fun i =>
    match layout with
    | 2 => u32 b (4 * (i / 3)) / 2 ^ (10 * (i % 3)) % 1024
    | 3 => u16 b (2 * i) / 2 ^ (16 - depth)
    | 6 => u16 b (2 * i)
    | 7 => if i % 2 = 0 then u8 b (3 * (i / 2)) + 256 * (u8 b (3 * (i / 2) + 1) % 16)
           else u8 b (3 * (i / 2) + 1) / 16 + 16 * u8 b (3 * (i / 2) + 2)
    | _ => if depth = 8 then u8 b i else u16 b (2 * i)

/-- Bytes of one row. -/
def packRow (layout depth : Nat) (r : List Nat) : Bytes :=
  match layout with
  | 2 => (List.range (cdiv r.length 3)).flatMap (fun k =>
      le 4 (r.getD (3 * k) 0 + 1024 * r.getD (3 * k + 1) 0 + 1048576 * r.getD (3 * k + 2) 0))
  | 3 => r.flatMap (fun v => le 2 (v * 2 ^ (16 - depth)))
  | 7 => (List.range (cdiv r.length 2)).flatMap (fun k =>
      let a := r.getD (2 * k) 0
      let b := r.getD (2 * k + 1) 0
      [BitVec.ofNat 8 a, BitVec.ofNat 8 (a / 256 + 16 * (b % 16)), BitVec.ofNat 8 (b / 16)])
  | _ => r.flatMap (fun v => if depth = 8 ∧ layout ≠ 6 then le 1 v else le 2 v)

/-- Start and stride of each plane in the default packing. -/
def defaultPlaces : List (Nat × Nat) → Nat → List (Nat × Nat)
  | [], _ => []
  | p :: l, at0 => (at0, roundUp p.1 256) :: defaultPlaces l (roundUp (at0 + roundUp p.1 256 * p.2) 4096)

/-- Start and stride of each plane of a source buffer. -/
def sourcePlaces (c : Bytes) : List (Nat × Nat) :=
  if u32 c 0x068 = 0 then defaultPlaces (srcPlanes c) 0
  else (srcPlanes c).zipIdx.map (fun p =>
    match p.2 with
    | 0 => (0, u32 c 0x068)
    | 1 => (u32 c 0x070, u32 c 0x06C)
    | _ => (u32 c 0x074, u32 c 0x06C))

/-- Rows of one stored plane. -/
def unpackPlane (layout depth w h : Nat) (place : Nat × Nat) (data : Bytes) : Plane :=
  (List.range h).map (fun j => unpackRow layout depth w (data.drop (place.1 + place.2 * j)))

/-- The component planes of a picture in a layout (stage 1). -/
def unpackPic (layout chroma depth w h : Nat) (places : List (Nat × Nat)) (data : Bytes) : List Plane :=
  let cw := cdiv w (subX chroma)
  let ch := cdiv h (subY chroma)
  let at_ (k : Nat) := places.getD k (0, 0)
  let pick (f : List Nat → List Nat) (p : Plane) := p.map f
  let every (n k : Nat) (r : List Nat) := (List.range (cdiv (r.length - k) n)).map (fun i => r.getD (n * i + k) 0)
  if layout = 4 then
    let p := unpackPlane 0 depth (2 * w) h (at_ 0) data
    [pick (every 2 0) p, pick (every 4 1) p, pick (every 4 3) p]
  else if chroma = 0 ∨ layout = 6 ∨ layout = 7 then [unpackPlane layout depth w h (at_ 0) data]
  else if layout = 1 then
    let p := unpackPlane 0 depth (2 * cw) ch (at_ 1) data
    [unpackPlane 0 depth w h (at_ 0) data, pick (every 2 0) p, pick (every 2 1) p]
  else [unpackPlane layout depth w h (at_ 0) data, unpackPlane layout depth cw ch (at_ 1) data,
        unpackPlane layout depth cw ch (at_ 2) data]

/-- Two rows interleaved. -/
def weave (a b : List Nat) : List Nat := (a.zip b).flatMap (fun p => [p.1, p.2])

/-- The stored planes of component planes. -/
def storedPlanes (layout : Nat) (ps : List Plane) : List Plane :=
  match ps with
  | [y, u, v] =>
    if layout = 1 then [y, (u.zip v).map (fun p => weave p.1 p.2)]
    else if layout = 4 then [(y.zip (u.zip v)).map (fun p => weave p.1 (weave p.2.1 p.2.2))]
    else [y, u, v]
  | _ => ps

/-- A picture in the default packing of a layout (R151). -/
def packPic (layout depth : Nat) (ps : List Plane) : Bytes :=
  (storedPlanes layout ps).foldl (fun b p =>
    let rows := p.map (fun r => packRow (if layout = 1 ∨ layout = 4 then 0 else layout) depth r)
    padTo (roundUp b.length 4096) b ++ rows.flatMap (fun r => padTo (roundUp r.length 256) r)) []

/-! ### Stages 3 to 5 -/

/-- Crop (R155). -/
def cropPlanes (c : Bytes) (ps : List Plane) : List Plane :=
  let ch := u8 c 0x042
  ps.zipIdx.map fun p =>
    let sx := if p.2 = 0 then 1 else subX ch
    let sy := if p.2 = 0 then 1 else subY ch
    ((p.1.drop (u16 c 0x052 / sy)).take (cdiv (cropH c) sy)).map (fun r => (r.drop (u16 c 0x050 / sx)).take (cdiv (cropW c) sx))

/-- Range conversion of one component (R153). -/
def toFull (chroma : Bool) (v : Nat) : Nat :=
  if chroma then clip16 (q14 (((v : Int) - 32768) * 18724) + 32768) else clip16 (q14 (((v : Int) - 4096) * 19152))
def toNarrow (chroma : Bool) (v : Nat) : Nat :=
  if chroma then clip16 (32768 + q14 (((v : Int) - 32768) * 14336)) else clip16 (4096 + q14 ((v : Int) * 14016))

/-- Coefficients of Table 7.3, rows 1 and 2, for R', G', B'. -/
def rgbMatrix (m : Nat) : List (Int × Int × Int) :=
  if m = 1 then [(3483, 11718, 1183), (-1877, -6315, 8192), (8192, -7441, -751)]
  else [(4304, 11108, 972), (-2288, -5904, 8192), (8192, -7533, -659)]

/-- R'G'B' in the plane order G, B, R to Y'CbCr, full range (R150, R152). -/
def rgbToYuv (m : Nat) (ps : List Plane) : List Plane :=
  match ps with
  | [g, b, r] =>
    (rgbMatrix m).zipIdx.map fun k =>
      zipPlanes (fun r g b => clip16 (q14 (k.1.1 * (r : Int) + k.1.2.1 * (g : Int) + k.1.2.2 * (b : Int))
                                        + (if k.2 = 0 then 0 else 32768))) r g b
  | _ => ps

/-- Y'CbCr, full range and 4:4:4, to R'G'B' in the plane order G, B, R (Table 7.3, rows 3 and 4). -/
def yuvToRgb (m : Nat) (ps : List Plane) : List Plane :=
  match ps with
  | [y, u, v] =>
    let out (cb cr : Int) : Plane := zipPlanes (fun y u v =>
      clip16 (q14 (16384 * (y : Int) + cb * ((u : Int) - 32768) + cr * ((v : Int) - 32768)))) y u v
    if m = 3 then [out (-3069) (-7670), out 30402 0, out 0 25802] else [out (-2696) (-9361), out 30825 0, out 0 24160]
  | _ => ps

/-- Change the range of every component; R'G'B' components are all of the luma kind. -/
def mapRange (rgb : Bool) (f : Bool → Nat → Nat) (ps : List Plane) : List Plane :=
  ps.zipIdx.map (fun p => mapPlane (f (p.2 != 0 && !rgb)) p.1)

/-- Stage 4: narrow sources are brought to full range before a matrix and back after it (R152, R153). -/
def matrixStage (m : Nat) (rgb srcFull outFull : Bool) (ps : List Plane) : List Plane :=
  if m = 0 then
    if srcFull == outFull then ps else mapRange rgb (if outFull then toFull else toNarrow) ps
  else
    let yuv := rgbToYuv m (if srcFull then ps else mapRange true toFull ps)
    if outFull then yuv else mapRange false toNarrow yuv

/-- A weighted sum: add half the divisor, divide, clip (R154). -/
def weigh (d : Int) (l : List (Int × Nat)) : Nat := clip16 ((l.foldl (fun n p => n + p.1 * (p.2 : Int)) 0 + d / 2) / d)

/-- Taps laid from a first position over a sampler. -/
def tapsFrom (ts : List Int) (f : Int → Nat) (i : Int) : List (Int × Nat) := ts.zipIdx.map (fun t => (t.1, f (i + (t.2 : Int))))

/-- The filters of Table 7.4 along one line: halving at co-sited samples, halving between samples, doubling. -/
def downCosited (l : List Nat) : List Nat :=
  (List.range (cdiv l.length 2)).map (fun (m : Nat) => weigh 128 (tapsFrom [-4, 0, 36, 64, 36, 0, -4] (sampAt l) (2 * (m : Int) - 3)))
def downMid (l : List Nat) : List Nat :=
  (List.range (cdiv l.length 2)).map (fun (m : Nat) => weigh 256 (tapsFrom [-8, 24, 112, 112, 24, -8] (sampAt l) (2 * (m : Int) - 2)))
def upCosited (n : Nat) (l : List Nat) : List Nat :=
  (List.range n).map (fun j => if j % 2 = 0 then sampAt l (j / 2 : Nat)
    else weigh 64 (tapsFrom [-8, 40, 40, -8] (sampAt l) ((j / 2 : Nat) - 1)))
def upMid (n : Nat) (l : List Nat) : List Nat :=
  (List.range n).map (fun j => if j % 2 = 0 then weigh 64 (tapsFrom [-2, 16, 54, -4] (sampAt l) ((j / 2 : Nat) - 2))
    else weigh 64 (tapsFrom [-4, 54, 16, -2] (sampAt l) ((j / 2 : Nat) - 1)))

/-- Along columns. -/
def alongCols (f : List Nat → List Nat) (p : Plane) : Plane := flipPlane ((flipPlane p).map f)

/-- One chroma plane between formats (R154): horizontal before vertical going down, the reverse going up. -/
def chromaPlane (loc a b w h : Nat) (p : Plane) : Plane :=
  let mid := if a = 3 then p.map downCosited
    else if a = 1 then alongCols (if loc = 0 then upMid h else upCosited h) p else p
  if b = 3 then mid.map (upCosited w)
  else if b = 1 then alongCols (if loc = 0 then downMid else downCosited) mid else mid

/-- Stage 5: 4:0:0 gains the chroma centre, and loses chroma (log entry 38). -/
def chromaStage (loc a b w h : Nat) (ps : List Plane) : List Plane :=
  if a = b then ps
  else if b = 0 then ps.take 1
  else if a = 0 then
    let grey := List.replicate (cdiv h (subY b)) (List.replicate (cdiv w (subX b)) 32768)
    ps.take 1 ++ [grey, grey]
  else ps.zipIdx.map (fun p => if p.2 = 0 then p.1 else chromaPlane loc a b w h p.1)

/-! ### Stage 6: scaling and padding (R156, R157) -/

/-- Halve while the input exceeds twice the output; an odd size rounds up (log entry 38). -/
def halveLine (n out : Nat) (l : List Nat) : List Nat :=
  match n with
  | 0 => l
  | k + 1 =>
    if l.length ≤ 2 * out then l
    else halveLine k out ((List.range (cdiv l.length 2)).map (fun (j : Nat) =>
      weigh 8 (tapsFrom [1, 3, 3, 1] (sampAt l) (2 * (j : Int) - 1))))

/-- Position of an output sample in 1/64. -/
def scalePos (cosited : Bool) (inn out j : Nat) : Int :=
  if cosited then (128 * (j : Int) * inn + out) / (2 * out)
  else (64 * (2 * (j : Int) + 1) * inn - 63 * out) / (2 * out)

/-- The eight taps of a phase: they sum to 128, the residue at offset 0 or 1. -/
def scaleTaps (inn out p : Nat) : List Int :=
  let raw := (List.range 8).map (Config.scaleTap inn out p)
  let rest := 128 - raw.foldl (· + ·) 0
  let k := if p < 32 then 3 else 4
  lset raw k (raw.getD k 0 + rest)

/-- Scale one line. -/
def scaleLine (cosited : Bool) (out : Nat) (l : List Nat) : List Nat :=
  if l.length = out then l
  else
    let m := halveLine 16 out l
    (List.range out).map fun j =>
      let pos := scalePos cosited m.length out j
      weigh 128 (tapsFrom (scaleTaps m.length out (pos % 64).toNat) (sampAt m) (pos / 64 - 3))

/-- Scale a plane: the horizontal pass first. -/
def scalePlane (cx cy : Bool) (w h : Nat) (p : Plane) : Plane := alongCols (scaleLine cy h) (p.map (scaleLine cx w))

/-- Scale the planes of a picture to a luma size. -/
def scaleStage (loc chroma w h : Nat) (ps : List Plane) : List Plane :=
  ps.zipIdx.map fun p =>
    if p.2 = 0 then scalePlane false false w h p.1
    else scalePlane (chroma == 1 || chroma == 2) (chroma == 1 && loc == 2) (cdiv w (subX chroma)) (cdiv h (subY chroma)) p.1

/-- Pad by repeating the last column and the last row. -/
def padPlane (w h : Nat) (p : Plane) : Plane :=
  fillRows h (p.map (fun r => r ++ List.replicate (w - r.length) (r.getLastD 0)))
def padStage (c : Bytes) (ps : List Plane) : List Plane :=
  ps.zipIdx.map (fun p => if p.2 = 0 then padPlane (padW c) (padH c) p.1
    else padPlane (cdiv (padW c) (subX (cChroma c))) (cdiv (padH c) (subY (cChroma c))) p.1)

/-! ### Stages 7 and 8 (R158, R159) -/

/-- Stage 7: a function of the picture, the picture denoised before it, the frame number and the strength. -/
def denoiseStage (c : Bytes) (frame : Nat) (before ps : List Plane) : List Plane :=
  if u8 c 0x064 = 0 then ps
  else ps.zipIdx.map fun p => p.1.zipIdx.map fun r => (List.range r.1.length).map fun x =>
    Config.denoise (u8 c 0x064) frame p.2 r.2 x (before.getD p.2 []) p.1 % 65536

/-- One step of the dither generator. -/
def xorshift (x : Nat) : Nat :=
  let a := Nat.xor x (x * 8192 % 2 ^ 32)
  let b := Nat.xor a (a / 131072)
  Nat.xor b (b * 32 % 2 ^ 32)

/-- Seed of a row. -/
def ditherSeed (frame comp row : Nat) : Nat :=
  let s := Nat.xor ((frame * 65537 + comp * 8191 + row) % 2 ^ 32) 0x9E3779B9
  if s = 0 then 1 else s

/-- Dither one row by k bits. -/
def ditherRow (k : Nat) : Nat → List Nat → List Nat
  | _, [] => []
  | seed, v :: l =>
    let a := xorshift seed
    let b := xorshift a
    let sum : Int := (v : Int) + (a % 2 ^ k : Nat) - (b % 2 ^ k : Nat) + (2 ^ (k - 1) : Nat)
    min (2 ^ (16 - k) - 1) (sum / (2 ^ k : Nat)).toNat :: ditherRow k b l

/-- Stage 8: to a bit depth, rounded or dithered. -/
def depthStage (depth : Nat) (dither : Bool) (frame : Nat) (ps : List Plane) : List Plane :=
  let k := 16 - depth
  if k = 0 then ps
  else ps.zipIdx.map fun p => p.1.zipIdx.map fun r =>
    if dither then ditherRow k (ditherSeed frame p.2 r.2) r.1
    else r.1.map (fun v => min (2 ^ depth - 1) ((v + 2 ^ (k - 1)) / 2 ^ k))

/-! ### The quarter-resolution copy (R53) -/

/-- One sample. -/
def quarterSample (bd : Nat) (p : Plane) (x y : Nat) : Nat :=
  let sum := (List.range 16).foldl (fun n i => n + sampAt (rowAt p ((4 * y + i / 4 : Nat) : Int)) ((4 * x + i % 4 : Nat) : Int)) 0
  min 255 ((sum + 2 ^ (bd - 5)) / 2 ^ (bd - 4))

/-- The copy of a luma plane. -/
def quarterCopy (bd w h : Nat) (p : Plane) : Plane :=
  (List.range (cdiv h 4)).map (fun y => (List.range (cdiv w 4)).map (fun x => quarterSample bd p x y))

/-! ### Raw mosaics (R161 to R163) -/

/-- Sites of one colour position (0 to 3 in raster order of the 2 × 2 quad). -/
def sitePlane (site : Nat) (p : Plane) : Plane :=
  (List.range (p.length / 2)).map fun j =>
    let r := p.getD (2 * j + site / 2) []
    (List.range (r.length / 2)).map (fun i => r.getD (2 * i + site % 2) 0)

/-- Site position that a subpicture holds, by SUBPIC_MAP. -/
def siteOf (c : Bytes) (sub : Nat) : Nat := ((List.range 4).find? (fun k => u8 c 0x202 / 4 ^ k % 4 == sub)).getD 0

/-- Plane packing: the 2 × 2 grid, the upper and left subpictures padded to whole CTUs. -/
def packRaw (c : Bytes) (p : Plane) : Plane :=
  let s := cCtu c
  let w := u16 c 0x044 / 2
  let h := u16 c 0x046 / 2
  let sub (k : Nat) := sitePlane (siteOf c k) p
  let beside (a b : Plane) := (a.zip b).map (fun r => r.1 ++ r.2)
  beside (padPlane (roundUp w s) (roundUp h s) (sub 0)) (padPlane w (roundUp h s) (sub 1))
    ++ beside (padPlane (roundUp w s) h (sub 2)) (sub 3)

/-- RAW_SHIFT (R162). -/
def rawShift (c : Bytes) (p : Plane) : Plane :=
  let k := u8 c 0x201
  if k = 0 then p else mapPlane (fun s => min ((s + 2 ^ (k - 1)) / 2 ^ k) ((2 ^ u8 c 0x043 - 1) / 2 ^ k)) p

/-- Colours of the sites, by PATTERN: 0 red, 1 green, 2 blue. -/
def siteColours (pattern : Nat) : List Nat :=
  match pattern with | 0 => [0, 1, 1, 2] | 1 => [1, 0, 2, 1] | 2 => [1, 2, 0, 1] | _ => [2, 1, 1, 0]

/-- One site after black level and white balance. -/
def siteValue (c : Bytes) (site v : Nat) : Nat := ((v - u16 c (0x204 + 2 * site)) * u16 c (0x20E + 2 * site) + 2048) / 4096

/-- The proxy demosaic: R'G'B' planes in the order G, B, R. -/
def demosaic (c : Bytes) (p : Plane) : List Plane :=
  let cols := siteColours (u8 c 0x200)
  let sites := (List.range 4).map (fun k => mapPlane (siteValue c k) (sitePlane k p))
  let blacks := (List.range 4).map (fun k => u16 c (0x204 + 2 * k))
  let out (f : List Nat → Nat) : Plane :=
    (sites.headD []).zipIdx.map fun r => (List.range r.1.length).map fun x =>
      min 65535 (Config.scaleRaw (f (sites.map (fun q => (q.getD r.2 []).getD x 0))) blacks (u16 c 0x20C))
  let ofCol (k : Nat) (l : List Nat) : List Nat := ((l.zip cols).filter (fun q => q.2 = k)).map (·.1)
  [out (fun l => cdiv ((ofCol 1 l).foldl (· + ·) 0) 2), out (fun l => (ofCol 2 l).headD 0), out (fun l => (ofCol 0 l).headD 0)]

/-! ### The whole path of a source picture -/

/-- Bring samples to 16 bits (R147). -/
def liftPlanes (bd : Nat) (ps : List Plane) : List Plane := ps.map (mapPlane (· * 2 ^ (16 - bd)))

/-- Unpacked source planes, of which `rows` luma rows have arrived; the rest repeats the last one and no ready row reads it. -/
def sourcePlanes (c data : Bytes) (rows : Nat) : List Plane :=
  let ps := unpackPic (u8 c 0x041) (u8 c 0x042) (u8 c 0x043) (srcW c) (srcH c) (sourcePlaces c) data
  ps.zipIdx.map fun p =>
    if p.2 = 0 then fillRows (srcH c) (p.1.take rows)
    else fillRows (cdiv (srcH c) (subY (u8 c 0x042))) (p.1.take (cdiv rows (subY (u8 c 0x042))))

/-- Stages 3 to 5 of a source that is not raw. -/
def stage5 (c : Bytes) (src : List Plane) : List Plane :=
  let ps := cropPlanes c (liftPlanes (u8 c 0x043) src)
  let m := matrixStage (u8 c 0x05E) (u8 c 0x040 == 1) (bitOf (u8 c 0x05F) 0) (bitOf (u8 c 0x05F) 1) ps
  chromaStage (u8 c 0x066) (u8 c 0x042) (cChroma c) (cropW c) (cropH c) m

/-- Stages 2 to 6: the picture in coding format at 16 bits, padded. -/
def stage6 (c : Bytes) (src : List Plane) : List Plane :=
  if cRaw c then
    padStage c [mapPlane (· * 2 ^ (16 - cDepth c)) (packRaw c (rawShift c (src.headD [])))]
  else padStage c (scaleStage (u8 c 0x066) (cChroma c) (codeW c) (codeH c) (stage5 c src))

/-- Stages 7 and 8. -/
def stage8 (c : Bytes) (frame : Nat) (ps : List Plane) : List Plane := depthStage (cDepth c) (u8 c 0x063 == 1) frame ps

/-- Input of the rungs (R163, R164) and its chroma format: a raw mosaic's rungs come from 4:4:4. -/
def rungChroma (c : Bytes) : Nat := if cRaw c then 3 else cChroma c
def rungSrc (c : Bytes) (src : List Plane) : List Plane :=
  if cRaw c then matrixStage 1 true true (bitOf (u8 c 0x05F) 1) (demosaic c (src.headD [])) else stage5 c src

/-- One rung's picture in its layout. -/
def rungPicture (c : Bytes) (frame r : Nat) (src : List Plane) : Bytes :=
  let b := 0x240 + 24 * r
  let w := if cRaw c then srcW c / 2 else cropW c
  let h := if cRaw c then srcH c / 2 else cropH c
  let ps := chromaStage (u8 c 0x066) (rungChroma c) (u8 c (b + 5)) w h (rungSrc c src)
  packPic (u8 c (b + 4)) (u8 c (b + 6))
    (depthStage (u8 c (b + 6)) (u8 c 0x063 == 1) frame (scaleStage (u8 c 0x066) (u8 c (b + 5)) (u16 c b) (u16 c (b + 2)) ps))

/-- Write every rung of a picture into its ring (R164). -/
def writeRungs (s : State) (fn : Nat) (c : Bytes) (frame : Nat) (src : List Plane) : State :=
  (List.range (if u8 c 0x078 = 1 then u8 c 0x067 else 0)).foldl (fun s r =>
    let slots := max 1 (u8 c (0x247 + 24 * r))
    hostWrite s fn true (u64 c (0x248 + 24 * r) + frame % slots * rungBytes c (0x240 + 24 * r)) (rungPicture c frame r src)) s

/-! ### Which source rows a coded row needs (R487) -/

/-- Sizes of a halving chain, from the input on. -/
def halveSizes (n inn out : Nat) : List Nat :=
  match n with
  | 0 => []
  | k + 1 => if inn ≤ 2 * out then [inn] else inn :: halveSizes k (cdiv inn 2) out

/-- Last input row that scaling reads for output row j (R156). -/
def scaleReach (cosited : Bool) (inn out j : Nat) : Nat :=
  if inn = out then j
  else
    let sizes := halveSizes 16 inn out
    let m := sizes.getLastD inn
    let last := min (m - 1) ((scalePos cosited m out j / 64 + 4).toNat)
    (sizes.dropLast).foldl (fun r _ => 2 * r + 2) last

/-- Last source chroma row that a chroma row of the coding format reads in stage 5. -/
def chromaReach (loc a b j : Nat) : Nat :=
  if a = b ∨ a = 0 ∨ b = 0 then j
  else if 2 ≤ a ∧ b = 1 then 2 * j + 3
  else if a = 1 ∧ 2 ≤ b then (if loc = 0 then (j + 1) / 2 + 1 else if j % 2 = 0 then j / 2 else j / 2 + 2)
  else j

/-- Source rows (luma) that coded rows up to j need, counted from the top of the source. -/
def rowsNeeded (c : Bytes) (j : Nat) : Nat :=
  if cRaw c then
    let half := u16 c 0x046 / 2
    if j < half then 2 * j + 2 else srcH c
  else
    let a := u8 c 0x042
    let b := cChroma c
    let luma := scaleReach false (cropH c) (codeH c) (min j (codeH c - 1))
    let jc := min j (codeH c - 1) / subY b
    let cin := scaleReach (b == 1 && u8 c 0x066 == 2) (cdiv (cropH c) (subY b)) (cdiv (codeH c) (subY b)) jc
    let cs := chromaReach (u8 c 0x066) a b cin
    let chroma := if b = 0 ∨ a = 0 then 0 else (cs + 1) * subY a
    min (srcH c) (u16 c 0x052 + max (luma + 1) chroma)

/-- Coded rows whose source rows have all arrived: the leading ones. -/
def readyRows (c : Bytes) (rows : Nat) : Nat :=
  if srcH c ≤ rows then codeH c
  else ((List.range (codeH c)).filter (fun j => decide (rowsNeeded c j ≤ rows))).length

/-- Guard rows (Table 9.2, R196). -/
def guardRows (c : Bytes) : Nat :=
  if u8 c 0x0EC = 1 ∨ cRateMode c = 4 then 0 else match cStd c with | 2 => 4 | 1 => 8 | _ => 12

/-! ### PPU_BAND -/

/-- The source picture of a frame number. -/
def sourceOf (x : Session) (frame : Nat) : Option SubPicture := x.enc.submitted.find? (fun p => p.frame = frame)
def sourcePut (x : Session) (p : SubPicture) : Session :=
  { x with enc := { x.enc with submitted := x.enc.submitted.map (fun q => if q.frame = p.frame then p else q) } }

/-- Does the cluster's PPU work for the session (R148)? -/
def ppuServes (s : State) (x : Session) (k : Nat) : Bool :=
  !(clGet s k).ppuFenced && !(clGet s k).fenced && x.uses.any (fun u => u.cluster = k && u.ppu.num ≠ 0)

/-- The bytes of a picture's planes that a pixel port has received so far, or all of them once the picture has ended. -/
def portBytes (s : State) (x : Session) (p : SubPicture) : List Bytes :=
  match (pxGet s (u8 x.cfg 0x003)).picture with
  | some g => if g.feeds = some (x.id, p.frame) then g.arrived else p.arrived
  | none => p.arrived

/-- Plane rows laid out as in a source buffer. -/
def layRows (stride n : Nat) (row : Nat) (b : Bytes) : Bytes :=
  (List.range n).flatMap (fun j => padTo stride (slice b (j * row) row))
def layPlanes (c : Bytes) (planes : List Bytes) : Bytes :=
  ((srcPlanes c).zip (sourcePlaces c)).zipIdx.foldl (fun b p =>
    padTo p.1.2.1 b ++ layRows (max p.1.2.2 p.1.1.1) p.1.1.2 p.1.1.1 (planes.getD p.2 [])) []

/-- The source bytes that the PPU reads: the grant's with DATA_IN_HBM, those that a pixel port has received, otherwise those
that the band brings. -/
def ppuData (s : State) (x : Session) (p : SubPicture) (i : PpuInput) : Bytes :=
  if cSource x.cfg = 1 then layPlanes x.cfg (portBytes s x p)
  else match inFlight s ⟨x.fn, p.qid, p.cid⟩ with
    | some f => if cSource x.cfg = 0 then readData s x.fn f.entry i.data else i.data
    | none => i.data

/-- Source rows of which every plane is there (R303 to R305). -/
def portRows (s : State) (x : Session) (p : SubPicture) : Nat :=
  (((srcPlanes x.cfg).zip (portBytes s x p)).map (fun q =>
    if q.1.2 * q.1.1 ≤ q.2.length then srcH x.cfg else q.2.length / max 1 q.1.1 * cdiv (srcH x.cfg) (max 1 q.1.2))).foldl min (srcH x.cfg)

/-- May these rows of the source be read: they have arrived, and none is given up (R257). -/
def rowsReadable (s : State) (x : Session) (p : SubPicture) (rows : Nat) : Bool :=
  p.read && decide (p.rows ≤ rows) && decide (rows ≤ srcH x.cfg)
    && (cSource x.cfg != 1 || decide (rows ≤ portRows s x p))

/-- The SUBMIT_PICTURE completes once its last row has been read (R257). -/
def completeSource (s : State) (x : Session) (p : SubPicture) : State :=
  if p.complete then s else succeed s ⟨x.fn, p.qid, p.cid⟩ 0

/-- A band of a source picture: the coding-format rows that are ready, the quarter-resolution copy unless Survey is off,
and, with the last row, the rungs, the denoiser's state and the grain estimate (R147 to R164). -/
def ppuSource (s : State) (x : Session) (p : SubPicture) (i : PpuInput) : State :=
  let c := cfgAt x p.frame
  let src := sourcePlanes c (ppuData s x p i) i.rows
  let d := denoiseStage c p.frame x.enc.denoised (stage6 c src)
  let out := stage8 c p.frame d
  let n := readyRows c i.rows
  let whole := decide (srcH c ≤ i.rows)
  let cut := out.zipIdx.map (fun q => q.1.take (if whole then q.1.length else if q.2 = 0 then n else n / subY (cChroma c)))
  let quarter := if surveyRefs c = 0 then []
    else (quarterCopy (cDepth c) (codeW c) (codeH c) ((out.headD []).take (codeH c))).take (if whole then cdiv (codeH c) 4 else n / 4)
  let y := sourcePut x { p with rows := i.rows, complete := p.complete || whole, coded := cut, quarter := quarter }
  if whole then
    let z := { y with enc := { y.enc with
      lastSource := some { p with rows := i.rows, complete := true, coded := cut, quarter := quarter }
      denoised := if u8 c 0x064 = 0 then y.enc.denoised else d
      grain := if u8 c 0x065 = 1 then tset y.enc.grain p.frame i.flat else y.enc.grain } }
    writeRungs (completeSource (sessPut s z) x p) x.fn c p.frame src
  else sessPut s y

/-- Depth and chroma format of decode output (Table 6.6). -/
def outChroma (c : Bytes) (h : DecHead) : Nat := if u8 c 0x41 = 0xFF then h.chroma else u8 c 0x41
def outDepth (c : Bytes) (h : DecHead) : Nat := if u8 c 0x42 = 0 then h.depth else u8 c 0x42

/-- The cropped size of a decoded picture (R126), and its output size. -/
def shownW (c : Bytes) (h : DecHead) : Nat := if u8 c 0x49 = 1 then h.width - h.crop.1 - h.crop.2.1 else h.width
def shownH (c : Bytes) (h : DecHead) : Nat := if u8 c 0x49 = 1 then h.height - h.crop.2.2.1 - h.crop.2.2.2 else h.height
def outW (c : Bytes) (h : DecHead) : Nat := if u16 c 0x44 = 0 then shownW c h else u16 c 0x44
def outH (c : Bytes) (h : DecHead) : Nat := if u16 c 0x46 = 0 then shownH c h else u16 c 0x46

/-- Can OUT_LAYOUT hold the picture (Table 6.6)? -/
def layoutHolds (c : Bytes) (h : DecHead) : Bool := layoutAdmits (u8 c 0x40) (outChroma c h) (outDepth c h) (outW c h) false

/-- Decoded planes within the conformance window. -/
def windowPlanes (c : Bytes) (h : DecHead) (ps : List Plane) : List Plane :=
  if u8 c 0x49 = 0 then ps
  else ps.zipIdx.map fun p =>
    let sx := if p.2 = 0 then 1 else subX h.chroma
    let sy := if p.2 = 0 then 1 else subY h.chroma
    ((p.1.drop (h.crop.2.2.1 / sy)).take (cdiv (shownH c h) sy)).map (fun r => (r.drop (h.crop.1 / sx)).take (cdiv (shownW c h) sx))

/-- Film grain of a decoded picture: AV1 as the stream says, otherwise seeded from the picture order count and the SSRC (R126). -/
def grainPlanes (c : Bytes) (h : DecHead) (ps : List Plane) : List Plane :=
  match h.grain with
  | some g =>
    if u8 c 0x4A = 0 then ps
    else
      let seed := toBits 32 h.order + 2 ^ 32 * (if u8 c 0x14 = 1 then u32 c 0xC4 else 0)
      ps.zipIdx.map fun p => p.1.zipIdx.map fun r => (List.range r.1.length).map fun x =>
        Config.filmGrain (u8 c 0x00) seed g p.2 r.2 x p.1 % 2 ^ h.depth
  | none => ps

/-- A decoded picture in the output format (Tables 6.6 and 7.1): a conversion to R'G'B' works at 4:4:4 and full range
(R153, log entry 38). -/
def outputPlanes (c : Bytes) (frame : Nat) (h : DecHead) (planes : List Plane) : List Plane :=
  let w0 := shownW c h
  let h0 := shownH c h
  let ps := liftPlanes h.depth (grainPlanes c h (windowPlanes c h planes))
  let m := u8 c 0x48
  let q := if m = 3 ∨ m = 4 then
      yuvToRgb m (chromaStage 0 h.chroma 3 w0 h0 (if h.full then ps else mapRange false toFull ps))
    else if m = 1 ∨ m = 2 then matrixStage m true h.full h.full ps
    else ps
  let ch := if m = 0 then h.chroma else 3
  let oc := outChroma c h
  depthStage (outDepth c h) (u8 c 0x43 == 1) frame (scaleStage 0 oc (outW c h) (outH c h) (chromaStage 0 ch oc w0 h0 q))

/-- Luma rows of a picture that are final: whole CTU rows from the top less the guard rows, or all of it (R128, R145). -/
def finalRows (std : Nat) (p : DecPicture) : Nat :=
  let rows := cdiv p.head.height (2 ^ p.head.cuLog2)
  if p.ended then p.head.height
  else
    let n := ((List.range rows).filter (fun r => (List.range (r + 1)).all (p.rowsDone.contains ·))).length
    n * 2 ^ p.head.cuLog2 - (match std with | 2 => 4 | 1 => 8 | _ => 12)

/-- Output rows that the first `rows` luma rows of a decoded picture give. -/
def outReady (c : Bytes) (h : DecHead) (rows : Nat) : Nat :=
  if h.height ≤ rows then outH c h
  else
    let top := if u8 c 0x49 = 1 then h.crop.2.2.1 else 0
    let oc := outChroma c h
    ((List.range (outH c h)).filter (fun j =>
      let luma := scaleReach false (shownH c h) (outH c h) j
      let cs := chromaReach 0 h.chroma oc (scaleReach false (cdiv (shownH c h) (subY oc)) (cdiv (outH c h) (subY oc)) (j / subY oc))
      decide (top + max (luma + 1) (if oc = 0 then 0 else (cs + 1) * subY h.chroma) ≤ rows))).length

/-- A band of a decoded picture: the conversion of the rows that are final (R144, R145). -/
def ppuOutput (s : State) (x : Session) (i : PpuInput) : State :=
  let upd (p : DecPicture) : DecPicture :=
    if p.id = i.frame && decide (i.rows ≤ finalRows (u8 x.cfg 0) p) then
      { p with outRows := max p.outRows (outReady x.cfg p.head i.rows), output := outputPlanes x.cfg p.number p.head p.planes }
    else p
  sessPut s { x with dec := { x.dec with pics := x.dec.pics.map upd } }

/-- A live source picture that begins to arrive; `stamp` is the port's frame counter or the RTP timestamp. -/
def liveSource (s : State) (frame stamp : Nat) : SubPicture :=
  { cid := 0, qid := 0, frame := frame, read := true, since := s.now, stamp := stamp, rows := 0, complete := true,
    coded := [], quarter := [], arrived := [], cll := none }

/-- A live source over Ethernet begins a picture with its first rows (R251); while the backlog is full pictures are discarded
(R259). -/
def arrivingSource (s : State) (x : Session) (i : PpuInput) : Session :=
  if !x.decode && cSource x.cfg == 2 && i.frame == x.enc.nextSubmit && (sourceOf x i.frame).isNone then
    if x.blocked then { x with enc := { x.enc with nextSubmit := x.enc.nextSubmit + 1, skipped := x.enc.skipped ++ [i.frame] } }
    else
    { x with enc := { x.enc with
        nextSubmit := x.enc.nextSubmit + 1, arrivedAt := some s.now,
        submitted := x.enc.submitted ++ [liveSource s i.frame i.stamp] } }
  else x

/-- PPU_BAND. -/
def execPpuBand (k : Nat) (i : PpuInput) (t : Nat) (s : State) : Result :=
  withUnit (isCluster k) (act s (!asleep s) (
    let s1 := atTime s t
    match sessById s1 i.session with
    | none => s1
    | some x0 =>
      if !ppuServes s1 x0 k || x0.state == .created || x0.state == .stopped then s1
      else
        let x := arrivingSource s1 x0 i
        if x.decode then ppuOutput s1 x i
        else match sourceOf x i.frame with
          | some p => if rowsReadable s1 x p i.rows then ppuSource s1 x p i else s1
          | none => s1))

end Sys2Proof.Machine
end

