-- ==== Sys2Proof/Machine/Cores.lean ====
section
/-! DEFINITION. Bands and units of work, the cores' sleep, restarts from a commit snapshot, and takeovers (R19, R27, R40 to R51). -/

namespace Sys2Proof.Machine

/-! ### Units of work (R27, R170) -/

/-- Start positions of consecutive sizes. -/
def startsFrom (at0 : Nat) : List Nat → List (Nat × Nat)
  | [] => []
  | n :: l => (at0, n) :: startsFrom (at0 + n) l

/-- A unit of work that no core has begun. -/
def UnitRec.make (index band tile row0 rows col0 cols : Nat) : UnitRec :=
  { index := index, band := band, tile := tile, row0 := row0, rows := rows, col0 := col0, cols := cols, core := 0,
    started := false, startAt := 0, due := 0, nextCu := 0, budget := 0, cap := none, acc := UnitAcc.zero,
    snap := UnitAcc.zero, commits := [], done := false }

/-- Coding units of a unit of work. -/
def unitCus (u : UnitRec) : Nat := u.rows * u.cols

/-- The parts (tile, first row, rows, first column, columns) of the tiles that lie in a band, in bitstream order; with wavefront
every CTU row is a part of its own. -/
def bandParts (c : Bytes) (b : Nat) : List (Nat × Nat × Nat × Nat × Nat) :=
  let lo := b * bandRows c
  let hi := min (hCtu c) (lo + bandRows c)
  let cols := startsFrom 0 (tileCols c)
  (startsFrom 0 (tileRows c)).zipIdx.flatMap fun tr =>
    let y0 := max lo tr.1.1
    let y1 := min hi (tr.1.1 + tr.1.2)
    if y1 ≤ y0 then []
    else cols.zipIdx.flatMap fun tc =>
      let tile := tr.2 * cols.length + tc.2
      if wavefrontOn c then (List.range (y1 - y0)).map (fun k => (tile, y0 + k, 1, tc.1.1, tc.1.2))
      else [(tile, y0, y1 - y0, tc.1.1, tc.1.2)]

/-- Units of work of the bands before a band. -/
def unitsBefore (c : Bytes) (b : Nat) : Nat := (List.range b).foldl (fun n k => n + (bandParts c k).length) 0

/-- Every unit of work of a picture, numbered in the order of bands. -/
def pictureUnits (c : Bytes) : List UnitRec :=
  ((List.range (bandCount c)).flatMap (fun b => (bandParts c b).map (fun p => (b, p)))).zipIdx.map
    (fun q => UnitRec.make q.2 q.1.1 q.1.2.1 q.1.2.2.1 q.1.2.2.2.1 q.1.2.2.2.2.1 q.1.2.2.2.2.2)

/-- Does this device code a unit of work? -/
def codesUnit (x : Session) (c : Bytes) (u : UnitRec) : Bool := codesRegion x (regionOf c u.tile)

/-- Does every unit of a picture run on this device? -/
def codesAll (x : Session) (c : Bytes) : Bool := (List.range (regionCount c)).all (codesRegion x)

/-! ### Sleep (R19, Table 1.4) -/

/-- Wake times in ns: clock-gated, power-gated, with the cluster PLL off. -/
def wakeTime (s : State) (c : Nat) : Nat :=
  match (coreGet s c).sleep with
  | .awake => 0
  | .clockGated => if s.power.pllOff.contains (c / 7) then 35050 else 50
  | .powerGated => if s.power.pllOff.contains (c / 7) then 43000 else 8000

/-- Sessions that a core may serve. -/
def coreSessions (s : State) (c : Nat) : List Session := (sessList s).filter (fun x => x.serving.contains (c / 7))

/-- KEEP_WARM_US of a session; a decode session has no such field and takes the default. -/
def keepWarm (x : Session) : Nat := if x.decode then 10 else u16 x.cfg 0x006

/-- The shortest keep-warm lead of a core's sessions in ns; none without a session; 0 keeps the core awake. -/
def coreLead (s : State) (c : Nat) : Option Nat :=
  (coreSessions s c).foldl (fun b x => some (match b with | none => keepWarm x * 1000 | some d => min d (keepWarm x * 1000))) none

/-- Is a session of the core spare-ready (R48)? -/
def spareReady (s : State) (c : Nat) : Bool :=
  (coreSessions s c).any (fun x => u8 x.cfg (if x.decode then 0x18 else 0x0ED) == 1)

/-- The deepest state whose wake time fits the lead; the spare of a spare-ready session stays clock-gated, and with a ceiling of
Active every core does (R458). -/
def sleepState (s : State) (c : Nat) : CoreSleep :=
  match coreLead s c with
  | none => if s.power.ceiling == .active then .clockGated else .powerGated
  | some d =>
    if d = 0 then .awake
    else if d < 50 then .awake
    else if d < 8000 || s.power.ceiling == .active || (spareReady s c && (clGet s (c / 7)).spare == some c) then .clockGated
    else .powerGated

/-- Has the core nothing to do? -/
def coreIdle (s : State) (c : Nat) : Bool :=
  (coreGet s c).work.isNone && (coreGet s c).decoding.isNone && (clGet s (c / 7)).queue.all (fun b => b.core ≠ c)

/-- CORE_SLEEP. -/
def execCoreSleep (c : Nat) (s : State) : Result :=
  withUnit (isCore c) (act s (!asleep s && coreIdle s c && (coreGet s c).waking.isNone && (coreGet s c).sleep == .awake)
    (coreSet s c { coreGet s c with sleep := sleepState s c }))

/-- A rotation ends once the core that leaves has committed its last dispatched unit: it becomes the spare and the spare becomes
active in one step and one Larder update (R427). -/
def settleRotation (s : State) (k : Nat) : State :=
  match tfind s.foreman.rotating k, (clGet s k).spare with
  | some x, some sp =>
    if coreIdle s x then
      let s1 := { clSet s k { clGet s k with spare := some x } with
        foreman := { s.foreman with rotating := tdel s.foreman.rotating k, lastRotation := tset s.foreman.lastRotation k s.now } }
      logEvent (larderUpdate s1) 0x0701 7 0xFF (some sp) (some x)
    else s
  | _, _ => s

/-- Begin a core's wake: it ends after the wake time; a cluster PLL that is off starts first. -/
def beginWake (s : State) (c : Nat) : State :=
  let k := c / 7
  let s1 := coreSet s c { coreGet s c with waking := some (s.now + wakeTime s c) }
  { s1 with power := { s1.power with pllOff := s1.power.pllOff.filter (· ≠ k) } }

/-- KEEP_WARM_WAKE. -/
def execKeepWarmWake (c t : Nat) (s : State) : Result :=
  withUnit (isCore c) (act s (!asleep s && (coreGet s c).sleep != .awake && (coreGet s c).waking.isNone && !(coreGet s c).fenced
      && !(coreGet s c).lost) (beginWake (atTime s t) c))

/-- CORE_WAKE_COMPLETE. -/
def execCoreWakeComplete (c t : Nat) (s : State) : Result :=
  withUnit (isCore c) (act s (!asleep s) (
    let s1 := atTime s t
    match (coreGet s1 c).waking with
    | some d => if d ≤ s1.now then coreSet s1 c { coreGet s1 c with sleep := .awake, waking := none } else s1
    | none => s1))

/-! ### Restart (R44, R49, R50, R109) -/

/-- A unit of work as its last commit left it. -/
def rewindUnit (u : UnitRec) : UnitRec := { u with acc := u.snap, nextCu := u.commits.length * u.cols }

/-- Discard the uncommitted coding units of a core and go back to the snapshot of its unit of work. -/
def restartCore (s : State) (core : Nat) : State :=
  let k := coreGet s core
  let s1 := coreSet s core { k with pipe := [none, none, none, none, none, none, none], ladle := fifoRewind k.ladle }
  match workOf s1 core with
  | some (x, f, u, w) => unitPut s1 x f w.unit (rewindUnit u)
  | none => s1

/-- A decoding core that restarts decodes again what it has not committed (R130). -/
def restartDecoder (s : State) (core : Nat) : State :=
  { s with sessions := tmap (fun x => { x with dec := { x.dec with pics := x.dec.pics.map (fun p =>
      { p with cus := p.cus.filter (fun k => !p.uncommitted.contains (core, k.1)),
               uncommitted := p.uncommitted.filter (fun k => k.1 ≠ core) }) } }) s.sessions }

/-- A core goes back to its last commit. -/
def restartAny (s : State) (core : Nat) : State :=
  if (coreGet s core).decoding.isSome then restartDecoder s core else restartCore s core

/-- A rectangle of a reference picture becomes unusable until the picture leaves the stored set (R49). -/
def markReference (s : State) (core : Nat) (r : BadRect) : State :=
  match workOf s core with
  | some (x, _, _, _) => sessPut s { x with enc := { x.enc with badRects := r :: x.enc.badRects } }
  | none => s

/-- The coding units whose source could not be read are coded from the data returned and counted as concealed (R50). -/
def concealSource (s : State) (core n : Nat) : State :=
  match workOf s core with
  | some (x, f, _, _) =>
    recordFault (sessPut s (framePut x { f with concealed := f.concealed + n })) core 3 none
  | none => s

/-- CORE_RESTART. -/
def execCoreRestart (core : Nat) (cause : RestartCause) (t : Nat) (s : State) : Result :=
  withUnit (isCore core) (act s (!asleep s && ((workOf s core).isSome || (coreGet s core).decoding.isSome)) (
    let s1 := atTime s t
    match cause with
    | .interrupt => restartAny s1 core
    | .fault => match coreFault s1 core 1 none with
      | (k, s2) => if k = 1 then restartAny s2 core else s2
    | .refError f x0 y0 x1 y1 => restartCore (markReference s1 core ⟨f, x0, y0, x1, y1⟩) core
    | .sourceError n =>
      if (coreGet s1 core).sourceRetry then concealSource s1 core n
      else
        let s2 := restartCore s1 core
        coreSet s2 core { coreGet s2 core with sourceRetry := true }))

end Sys2Proof.Machine
end

