-- ==== Sys2Proof/Machine/Frames.lean ====
section
/-! DEFINITION. What a coded picture leaves behind: the picture-level vector (R57), the motion record and map (R72, R73), the
fidelity map (R98), the frame report (R240), the ledger entry (R76), padding (R83) and HRD_VIOLATION (R91). -/

namespace Sys2Proof.Machine

/-! ### The picture-level vector (R57) -/

/-- Representative of a vector's bin. -/
def binOf (v : Int × Int) : Int × Int := (8 * (v.1 / 8), 8 * (v.2 / 8))

/-- Add to a count. -/
def addBin (v : Int × Int) (n : Nat) : List ((Int × Int) × Nat) → List ((Int × Int) × Nat)
  | [] => [(v, n)]
  | p :: l => if p.1 = v then (p.1, p.2 + n) :: l else p :: addBin v n l

/-- Does bin a rank before bin b: more cells, then smaller |x| + |y|, |y|, |x|, y, x? -/
def binBefore (a b : (Int × Int) × Nat) : Bool :=
  let key (p : (Int × Int) × Nat) : List Int :=
    [-(p.2 : Int), (p.1.1.natAbs : Int) + p.1.2.natAbs, p.1.2.natAbs, p.1.1.natAbs, p.1.2, p.1.1]
  decide (key a < key b)

/-- The first bin of a list. -/
def firstBin (l : List ((Int × Int) × Nat)) : Option ((Int × Int) × Nat) :=
  l.foldl (fun b p => match b with | none => some p | some q => if binBefore p q then some p else some q) none

/-- The n first bins. -/
def topBins (n : Nat) (l : List ((Int × Int) × Nat)) : List ((Int × Int) × Nat) :=
  match n with
  | 0 => []
  | k + 1 => match firstBin l with
    | none => []
    | some p => p :: topBins k (l.filter (· ≠ p))

/-- Best vector of a cell on the nearest reference. -/
def cellBest (k : SurveyCell) : Option (Int × Int) := (k.vecs.headD []).head?

/-- Bins of a list of cells. -/
def cellBins (l : List SurveyCell) : List ((Int × Int) × Nat) :=
  l.foldl (fun b k => match cellBest k with | some v => addBin (binOf v) 1 b | none => b) []

/-- Index of the part that holds a position. -/
def partAt (sizes : List Nat) (v : Nat) : Nat :=
  ((startsFrom 0 sizes).filter (fun p => decide (p.1 + p.2 ≤ v))).length

/-- Region of a Survey cell. -/
def cellRegion (c : Bytes) (cell : Nat) : Nat :=
  let x := cell % cellCols c * 64 / cCtu c
  let y := cell / cellCols c * 64 / cCtu c
  regionOf c (partAt (tileRows c) y * (tileCols c).length + partAt (tileCols c) x)

/-- Unit statistics of a frame that other devices have sent, by the key of R177. -/
def statsKey (frame unit : Nat) : Nat := frame * 4096 + unit

/-- Bins of a picture: all cells, or, with regions, the sixteen first bins of every region (R176). -/
def pictureBins (x : Session) (f : EncFrame) : List ((Int × Int) × Nat) :=
  let cells := f.cells.map (·.2)
  if !cDist f.cfg then cellBins cells
  else
    let here := (List.range (regionCount f.cfg)).filter (codesRegion x)
    let mine := here.flatMap (fun r => topBins 16 (cellBins (cells.filter (fun k => cellRegion f.cfg k.cell = r))))
    let theirs := (pictureUnits f.cfg).flatMap (fun u =>
      if here.contains (regionOf f.cfg u.tile) then []
      else match tfind x.dist.stats (statsKey f.number u.index) with
        | some st => st.bins.map (fun b => ((b.1, b.2.1), b.2.2))
        | none => [])
    (mine ++ theirs).foldl (fun b p => addBin p.1 p.2 b) []

/-- The vector that picture N uses: that of picture N − d (R57). -/
def lagVector (x : Session) (f : EncFrame) : Option (Int × Int) :=
  if f.code < cDelay f.cfg then none else tfind x.enc.vectors (f.code - cDelay f.cfg)

/-- Division with halves rounded away from zero. -/
def roundAway (a b : Int) : Int :=
  if b = 0 then 0 else
    let n := a.natAbs
    let d := b.natAbs
    let q : Int := ((2 * n + d) / (2 * d) : Nat)
    if (a < 0) = (b < 0) then q else -q

/-! ### The motion record and the motion map -/

/-- Was the picture surveyed (R55)? -/
def surveyed (f : EncFrame) : Bool := surveyRefs f.cfg != 0 && !f.intra

/-- Motion totals of a frame. -/
def frameMotion (f : EncFrame) : CuMotion := f.units.foldl (fun m u => addMotion m u.acc.motion) UnitAcc.zero.motion

/-- Q0.16 share. -/
def share16 (a b : Nat) : Nat := if b = 0 then 0 else min 0xFFFF (a * 65536 / b)

/-- Two signed 16-bit values. -/
def packVec (v : Int × Int) : Nat := toBits 16 v.1 + 65536 * toBits 16 v.2

/-- Is a motion map written for the picture? -/
def mapWritten (f : EncFrame) : Bool := u8 f.cfg 0x0FE == 1 && !f.intra

/-- Offset of a picture's motion map (R73). -/
def mapOffset (x : Session) (f : EncFrame) : Nat := x.mapBase + f.number % 8 * (motionMapBytes f.cfg / 8)

/-- Within 8 luma samples in both components. -/
def nearVec (d : Nat) (a b : Int × Int) : Bool := decide ((a.1 - b.1).natAbs ≤ d) && decide ((a.2 - b.2).natAbs ≤ d)

/-- The motion statistics record (Table 3.6). -/
def motionRecord (x : Session) (f : EncFrame) : Bytes :=
  let c := f.cfg
  let m := frameMotion f
  let bins := pictureBins x f
  let g := (firstBin bins).map (·.1)
  let g2 := ((topBins 2 bins)[1]?).map (·.1)
  let gv := g.getD (0, 0)
  let close := (f.cells.filter (fun k => match cellBest k.2 with | some v => g.isSome && nearVec 8 v gv | none => false)).length
  let share (i : Nat) : Nat := if m.inter = 0 then 0 else min 255 (m.won.getD i 0 * 256 / m.inter)
  le 8 f.number ++ le 4 (cellCount c) ++ le 1 (if surveyed f then surveyRefs c else 0)
    ++ le 1 ((if surveyed f then 0 else 1) + (if f.copyError then 2 else 0)
             + (if (lagVector x f).isSome then 4 else 0) + (if mapWritten f then 8 else 0))
    ++ le 2 (share16 close (cellCount c)) ++ le 4 (packVec gv) ++ le 4 (packVec (g2.getD (0, 0)))
    ++ le 4 (if m.inter = 0 then 0 else m.mvSum / m.inter) ++ le 4 (m.maxX % 65536 + 65536 * (m.maxY % 65536))
    ++ le 2 (share16 m.intra (codeW c * codeH c)) ++ le 2 (share16 m.skip (codeW c * codeH c))
    ++ le 4 (share 0 + 256 * share 1 + 65536 * share 2 + 16777216 * share 3)
    ++ le 4 m.fetches ++ le 4 (cdiv m.fetchBytes 1024) ++ le 8 (if mapWritten f then mapOffset x f else 0)
    ++ le 4 (if surveyed f then cdiv (cellCount c * surveyRefs c * surveyCost c) 1024 else 0) ++ zeros 4

/-- One entry of the motion map. -/
def mapEntry (f : EncFrame) (cell : Nat) : Bytes :=
  match tfind f.cells cell with
  | none => zeros 8
  | some k =>
    match cellBest k with
    | none => zeros 7 ++ le 1 (if k.copyErr then 4 else 0)
    | some v => le 2 (toBits 16 v.1) ++ le 2 (toBits 16 v.2) ++ le 2 (min k.cost 0xFFFF) ++ le 1 0
                  ++ le 1 (1 + (if k.clipped then 2 else 0) + (if k.copyErr then 4 else 0))

/-- Post the motion record of an inter picture and write its map. -/
def postMotion (s : State) (x : Session) (f : EncFrame) : State × Session :=
  if f.intra then (s, x)
  else
    let s1 := if mapWritten f then
        hostWrite s x.fn true (mapOffset x f) ((List.range (cellCount f.cfg)).flatMap (mapEntry f)) else s
    let (r, s2) := postRing s1 x.fn x.motion (motionRecord x f)
    (s2, { x with motion := r })

/-! ### The fidelity map (Table 4.6) -/

/-- Picture raster index of a coding unit of a unit of work. -/
def cuIndex (c : Bytes) (u : UnitRec) (cu : Nat) : Nat := (u.row0 + cu / max 1 u.cols) * wCtu c + u.col0 + cu % max 1 u.cols

/-- One entry of the map. -/
def fmapEntry (e : CuEntry) : Bytes :=
  le 2 e.psnrY ++ le 2 e.psnrC ++ le 2 e.ssim ++ le 2 e.final ++ le 2 (toBits 16 e.qp) ++ le 1 e.state ++ zeros 1 ++ le 4 e.bits

/-- Header of the map. -/
def fmapHeader (f : EncFrame) : Bytes :=
  le 8 f.number ++ le 2 (wCtu f.cfg) ++ le 2 (hCtu f.cfg) ++ le 2 (u16 f.cfg 0x120) ++ le 2 (u16 f.cfg 0x122)
    ++ le 2 (u16 f.cfg 0x124) ++ zeros 46

/-- Write the map: header and the entries of the units coded here; others stay as found (R99). -/
def writeFmap (s : State) (x : Session) (f : EncFrame) : State :=
  let c := f.cfg
  if u8 c 0x129 = 0 then s
  else
    let base := u64 c 0x130 + f.number % u8 c 0x129 * fmapSlot c
    f.units.foldl (fun s u => u.acc.entries.foldl (fun s e =>
        hostWrite s x.fn true (base + 64 + 16 * cuIndex c u e.cu) (fmapEntry e)) s)
      (hostWrite s x.fn true base (fmapHeader f))

/-! ### The ledger (R76, R77) -/

/-- Statistics of a unit of work that has committed. -/
def unitStats (u : UnitRec) (bins : List ((Int × Int) × Nat)) : UnitStats :=
  { bits := u.acc.bits, qpSum := u.acc.entries.foldl (fun n e => if e.state / 4 % 2 = 1 then n else n + e.qp) 0
    complexity := u.acc.complexity, charge := u.acc.spent, lossless := u.acc.lossless, retries := u.acc.retries
    minPsnr := u.acc.entries.foldl (fun n e => min n e.psnrY) 0xFFFF, flags := u.acc.flags
    bins := bins.map (fun b => (b.1.1, b.1.2, b.2)) }

/-- Statistics of every unit of a frame, and whether all of them are there. -/
def gatherStats (x : Session) (f : EncFrame) : List UnitStats × Bool :=
  let l := (pictureUnits f.cfg).map (fun u =>
    match f.units.find? (fun v => v.index = u.index) with
    | some v => if v.done then some (unitStats v []) else none
    | none => tfind x.dist.stats (statsKey f.number u.index))
  (l.filterMap id, l.all (·.isSome))

/-- The ledger's entry for a frame. -/
def ledgerEntry (x : Session) (f : EncFrame) : FrameStats :=
  let (l, all) := gatherStats x f
  { number := f.number, bits := l.foldl (fun n u => n + u.bits) 0 + f.padding, cap := f.cap,
    complexity := l.foldl (fun n u => n + u.complexity) 0, final := all, units := l }

/-- May the first band of the next frame be dispatched: the statistics of frame N − d are final (R77).  A frame that a fault
discarded has none to wait for. -/
def ledgerReady (x : Session) (c : Bytes) : Bool :=
  if x.enc.codeTotal < cDelay c then true
  else
    let k := x.enc.codeTotal - cDelay c
    x.enc.frames.all (fun f => f.code != k || f.reported)
      && (match tfind x.enc.ledger k with | some f => f.final | none => true)

/-! ### The frame report (Table 11.16) -/

/-- Are all units of a frame that run here committed, and all its bands dispatched? -/
def frameCoded (f : EncFrame) : Bool := f.dispatched == f.bands && f.units.all (·.done)

/-- Coding units of a frame with their entries. -/
def frameEntries (f : EncFrame) : List CuEntry := f.units.flatMap (fun u => u.acc.entries)

/-- Lossy entries, their area, and the area-weighted sum of their quantisers. -/
def lossyArea (f : EncFrame) : Nat := (frameEntries f).foldl (fun n e => if e.state / 4 % 2 = 1 then n else n + e.area) 0
def lossyQp (f : EncFrame) : Int :=
  (frameEntries f).foldl (fun n e => if e.state / 4 % 2 = 1 then n else n + e.qp * (e.area : Int)) 0

/-- MEAN_QP: rounded down (log entry 40). -/
def meanQp (f : EncFrame) : Int :=
  let scale : Int := if cStd f.cfg = 3 then 1 else 16
  if lossyArea f = 0 then 0 else lossyQp f * scale / (lossyArea f : Int)

/-- FLAGS: the unit flags hold BUDGET_OVERRUN, FLOOR_MISS and ENTROPY_LATE at their places. -/
def reportFlags (f : EncFrame) : Nat :=
  (f.units.foldl (fun n u => n ||| u.acc.flags) 0) ||| ((if f.violation then 1 else 0) + (if f.padding = 0 then 0 else 8)
    + (if f.late then 32 else 0) + (if f.changed then 64 else 0))

/-- A timestamp after the first one: saturating, an event at TS0 reads 1 (Table 11.16). -/
def tsDelta (ts0 : Nat) (t : Option Nat) : Nat :=
  match t with | none => 0 | some v => min 0xFFFFFFFF (max 1 (v - ts0))

/-- Coded bits of a frame here, with padding. -/
def frameBits (f : EncFrame) : Nat := f.units.foldl (fun n u => n + u.acc.bits) 0 + f.padding

/-- The frame report of an encoded picture. -/
def encodeReport (x : Session) (f : EncFrame) (noQp : Nat) : Bytes :=
  le 8 f.number ++ le 8 (frameBits f) ++ le 4 x.id
    ++ le 2 (if lossyArea f = 0 then noQp else toBits 16 (meanQp f))
    ++ le 2 ((frameEntries f).foldl (fun n e => min n e.psnrY) 0xFFFF)
    ++ le 4 (f.units.foldl (fun n u => n + u.acc.retries) 0) ++ le 4 (f.units.foldl (fun n u => n + u.acc.lossless) 0)
    ++ le 4 f.concealed ++ le 4 (reportFlags f) ++ le 8 f.ts0
    ++ (List.range 4).flatMap (fun k => le 4 (tsDelta f.ts0 (f.ts.getD k none)))

/-- Frames that may be reported now: coded, and in CBR every earlier frame reported before (R83). -/
def reportable (x : Session) : Option EncFrame :=
  x.enc.frames.find? (fun f => frameCoded f && !f.reported
    && (cRateMode f.cfg != 0 || x.enc.frames.all (fun g => decide (f.code ≤ g.code) || g.reported)))

/-- Report one frame: padding, HRD_VIOLATION with its event, maps, rings, ledger and counters. -/
def reportFrame (s : State) (x : Session) (f0 : EncFrame) : State :=
  let pad := paddingOf f0.cfg x f0.code (frameBits f0)
  let f1 := { f0 with padding := pad }
  let excess := match f1.cap with | some cap => decide (cap < frameBits f1) | none => false
  let f := { f1 with violation := excess, reported := true }
  let y := framePut x f
  let z : Session :=
    { y with
      frames := y.frames + 1, bitsOut := y.bitsOut + frameBits f, concealed := y.concealed + f.concealed
      retries := y.retries + f.units.foldl (fun n u => n + u.acc.retries) 0
      lossless := y.lossless + f.units.foldl (fun n u => n + u.acc.lossless) 0
      enc := { y.enc with
        ledger := tset y.enc.ledger f.code (ledgerEntry y f)
        coded := y.enc.coded + 1
        submitted := y.enc.submitted.filter (fun p => p.frame ≠ f.number)
        vectors := if surveyed f then
            (match firstBin (pictureBins y f) with | some b => tset y.enc.vectors f.code b.1 | none => y.enc.vectors)
          else y.enc.vectors } }
  let (noQp, s1) := draw s 65536
  let (s2, z2) := postMotion (writeFmap s1 z f) z f
  let (r, s3) := postRing s2 z2.fn z2.report (encodeReport z2 f noQp)
  let (k, acc) := foldActual f.cfg { z2 with report := r } (z2.enc.codeTotal - z2.enc.hrdNext) z2.enc.hrdNext z2.enc.hrdAcc
  let z3 : Session := { z2 with report := r, enc := { z2.enc with hrdNext := k, hrdAcc := acc } }
  let s4 := sessPut s3 z3
  if excess then logSession s4 z3 0x0201 0 0 none none else s4

/-- Report every frame that may be reported; `n` bounds them. -/
def reportFrames (n : Nat) (s : State) (id : Nat) : State :=
  match n with
  | 0 => s
  | k + 1 =>
    match sessById s id with
    | none => s
    | some x =>
      match reportable x with
      | none => s
      | some f => reportFrames k (reportFrame s x f) id

end Sys2Proof.Machine
end

