-- ==== Sys2Proof/Machine/CodecArray.lean ====
section
/-! DEFINITION. The codec array at work: dispatch of bands, their start, the coding pipeline, Survey and Assay, and commits
(R12 to R29, R43, R52 to R68, R76 to R78, R107, R177). -/

namespace Sys2Proof.Machine

/-! ### BAND_DISPATCH -/

/-- The frame whose bands are being dispatched. -/
def openFrame (x : Session) : Option EncFrame := x.enc.frames.find? (fun f => decide (f.dispatched < f.bands))

/-- Is a frame number passed over: skipped by INPUT_GAP, or beyond the end of a sequence that FLUSH closed (R256, R260)? -/
def passedOver (x : Session) (f : Nat) : Bool :=
  x.enc.skipped.contains f || (match x.enc.seqEnds.head? with | some n => decide (n ≤ f) | none => false)

/-- Place of the next picture in coding order. -/
def nextCode (x : Session) : Nat :=
  ((List.range (x.enc.skipped.length + 33)).map (x.enc.codeCount + ·)).find? (fun n => !passedOver x (frameAt x n))
    |>.getD x.enc.codeCount

/-- A sequence that FLUSH ended is over once nothing of it is left to dispatch: the next picture starts a new one. -/
def newSequence (x : Session) : Session :=
  match x.enc.seqEnds with
  | [] => x
  | n :: l =>
    if x.enc.submitted.all (fun p => decide (n ≤ p.frame) || x.enc.frames.any (fun f => f.number = p.frame)) then
      { x with enc := { x.enc with seqEnds := l, codeBase := n, codeCount := 0, refreshDue := true } }
    else x

/-- Is a picture of the frame number coded as an intra picture (R36 to R38)? -/
def intraPicture (x : Session) (c : Bytes) (f : Nat) : Bool :=
  cStructure c == 0 || x.enc.codeTotal == 0 || (u8 c 0x08D == 0 && refreshStart x c f)

/-- Pictures that the stored set still holds, by code (R49). -/
def storedSince (x : Session) (c : Bytes) : Nat := x.enc.codeTotal - u8 c 0x086

/-- A new frame (R76 to R78, R82): its budget is the target, the cap and the shares. -/
def newFrame (x : Session) (c : Bytes) (number target : Nat) (shares : List Nat) (since : Nat) (stamp : Option Nat) : EncFrame :=
  { number := number, code := x.enc.codeTotal, cfg := c, intra := intraPicture x c number, refresh := refreshStart x c number,
    changed := x.pendingCfg.any (fun p => p.1 = number), target := target, cap := frameCap c x, shares := shares,
    bands := bandCount c, dispatched := 0, units := [], forceIntra := x.enc.badRects.map (fun r =>
      { r with x0 := r.x0 - 1, y0 := r.y0 - 1, x1 := r.x1 + 1, y1 := r.y1 + 1 }),
    copyError := false, concealed := 0, padding := 0, violation := false, late := false, ts0 := since,
    ts := [none, none, none, none], stamp := stamp, holds := [], opened := [], reported := false, cells := [],
    cll := (sourceOf x number).bind (·.cll) }

/-- Last frame number of which every earlier one has been dispatched (for random access: a whole GOP). -/
def settledFrame (x : Session) (c : Bytes) (n number : Nat) : Nat :=
  if cStructure c = 3 ∧ u8 c 0x085 ≠ 0 then x.enc.codeBase + n / u8 c 0x085 * u8 c 0x085 else number

/-- Begin a frame: the session's configuration, refresh state, stored set and coding order move on (R94, R254, R255). -/
def beginFrame (x : Session) (c : Bytes) (n : Nat) (f : EncFrame) : Session :=
  let settled := settledFrame x c n f.number
  let due := x.pendingCfg.filter (fun p => decide (p.1 ≤ settled))
  let restart := x.enc.refreshDue
  { x with
    state := if x.state == .resync then .running else x.state
    cfg := if due.isEmpty then x.cfg else cfgAt { x with pendingCfg := due } settled
    pendingCfg := x.pendingCfg.filter (fun p => decide (settled < p.1))
    enc := { x.enc with
      frames := x.enc.frames ++ [f], codeCount := n + 1, codeTotal := x.enc.codeTotal + 1,
      nextFrame := max x.enc.nextFrame (f.number + 1), refreshDue := false,
      forced := x.enc.forced.filter (· ≠ f.number),
      sweepStart := if f.refresh then f.number else x.enc.sweepStart,
      lastIntra := if f.intra then f.number else x.enc.lastIntra,
      lossless := if f.refresh then (floorOn c || cRateMode c == 4) else x.enc.lossless,
      hrdBase := if restart then f.code else x.enc.hrdBase,
      hrdNext := if restart then f.code else x.enc.hrdNext,
      hrdAcc := if restart then fracOf 0 else x.enc.hrdAcc,
      badRects := x.enc.badRects.filter (fun r => decide (storedSince x c ≤ r.frame)),
      skipped := x.enc.skipped.filter (fun k => decide (f.number < k)) } }

/-- Shares without history: proportional to the coding units, rounded down to 1/65,536 (R78). -/
def evenShares (c : Bytes) : List Nat :=
  (pictureUnits c).map (fun u => unitCus u * 65536 / max 1 (wCtu c * hCtu c))

/-- Does the ledger hold history of the picture (R78)? -/
def hasHistory (x : Session) (c : Bytes) : Bool :=
  decide (cDelay c ≤ x.enc.codeTotal) && (tfind x.enc.ledger (x.enc.codeTotal - cDelay c)).isSome

/-- May a core take a unit of work of the session (R28): usable, not its cluster's spare, awake or waking, of a serving
cluster, no rotation waits for it (R427), and, for a session with Survey, of a cluster whose Survey engine works (R68). -/
def placeable (s : State) (x : Session) (c : Bytes) (core : Nat) : Bool :=
  decide (core < 28) && (coreGet s core).fault == .none && !s.foreman.rotating.any (fun r => r.2 == core) && (activeCores s (core / 7)).contains core && x.serving.contains (core / 7)
    && ((coreGet s core).sleep == .awake || (coreGet s core).waking.isSome)
    && (surveyRefs c == 0 || !(clGet s (core / 7)).surveyFenced)

/-- The units of a band with their cores, budgets and caps (R82, R89). -/
def bandUnits (x : Session) (f : EncFrame) (b : Nat) (place : List Nat) : List UnitRec :=
  (((pictureUnits f.cfg).filter (fun u => u.band = b && codesUnit x f.cfg u)).zip place).map fun p =>
    { p.1 with core := p.2, budget := unitBudget f.cfg (unitCus p.1),
               cap := f.cap.map (fun n => n * f.shares.getD p.1.index 0 / 65536) }

/-- Add the band commands to the controllers' queues, in order (R12). -/
def queueUnits (s : State) (x : Session) (f : EncFrame) (first : Nat) (l : List UnitRec) : State :=
  l.zipIdx.foldl (fun s p =>
    let k := p.1.core / 7
    clSet s k { clGet s k with queue := (clGet s k).queue ++ [⟨x.id, f.number, first + p.2, p.1.core⟩] }) s

/-- The session stops as under WHEN 0x0 once its last permitted frame has been dispatched (FRAME_LIMIT, log entry 39). -/
def limitReached (s : State) (id : Nat) (f : EncFrame) : State :=
  match sessById s id with
  | some x =>
    if u64 x.cfg 0x018 != 0 && decide (u64 x.cfg 0x018 ≤ x.enc.codeTotal) && f.dispatched == f.bands && x.state == .running
    then stopAfter s x else s
  | none => s

/-- Dispatch the next band of a frame to the cores of `place`. -/
def dispatchBand (s : State) (x : Session) (f : EncFrame) (place : List Nat) : State :=
  let us := bandUnits x f f.dispatched place
  if us.length = place.length && place.all (placeable s x f.cfg)
      && us.length == ((pictureUnits f.cfg).filter (fun u => u.band = f.dispatched && codesUnit x f.cfg u)).length then
    let g := { f with units := f.units ++ us, dispatched := f.dispatched + 1 }
    limitReached (queueUnits (sessPut s (framePut x g)) x g f.units.length us) x.id g
  else s

/-- May a new frame begin: the session runs, its key is there, the frame limit is not reached (R254, R256, R451)? -/
def mayBegin (x : Session) : Bool :=
  (x.state == .running || x.state == .resync) && !x.awaitKey && !x.blocked
    && (u64 x.cfg 0x018 == 0 || decide (x.enc.codeTotal < u64 x.cfg 0x018))

/-- Begin the next frame and dispatch its first band (R77). -/
def dispatchFrame (s : State) (x0 : Session) (place : List Nat) (target : Nat) (shares : List Nat) : State :=
  let x := newSequence x0
  let n := nextCode x
  let number := frameAt x n
  let c := cfgAt x number
  match sourceOf x number with
  | none => s
  | some p =>
    let w := if hasHistory x c then shares else evenShares c
    if mayBegin x && !securityStops s x && ledgerReady x c && w.length == (pictureUnits c).length && decide (w.foldl (· + ·) 0 ≤ 65536)
        && place.all (placeable s x c)
        && place.length == ((pictureUnits c).filter (fun u => u.band = 0 && codesUnit x c u)).length then
      let x1 := { x with enc := { x.enc with codeCount := n } }
      let h := if x.enc.refreshDue then { x1 with enc := { x1.enc with hrdBase := x1.enc.codeTotal, hrdNext := x1.enc.codeTotal,
                                                                       hrdAcc := fracOf 0 } } else x1
      let f := newFrame h c number target w (toBits 64 (toPtp s p.since)) (if cSource c = 2 then some p.stamp else none)
      let y := beginFrame h c n f
      dispatchBand (sessPut s y) y f place
    else s

/-- BAND_DISPATCH (R27, R28, R77). -/
def execBandDispatch (session : Nat) (place : List Nat) (targetBits : Nat) (shares : List Nat) (t : Nat) (s : State) : Result :=
  act s (!asleep s) (
    let s1 := atTime s t
    match sessById s1 session with
    | none => s1
    | some x =>
      if x.decode then s1
      else match openFrame x with
        | some f => dispatchBand s1 x f place
        | none => dispatchFrame s1 x place targetBits shares)

/-! ### BAND_START (R13) -/

/-- Temporal layer of a frame in random access. -/
def layerOf (x : Session) (c : Bytes) (number : Nat) : Nat :=
  let g := u8 c 0x085
  let p := (number - x.enc.codeBase) % max 1 g
  if p = 0 then 0 else ((List.range 6).find? (fun k => p % (g / 2 ^ k) == 0)).getD 5

/-- Must picture g be final before picture f can read it (R13, R36, log entry 41)? -/
def dependsOn (x : Session) (f g : EncFrame) : Bool :=
  decide (g.code < f.code) && !f.intra
    && (if cStructure f.cfg = 3 then
          decide (layerOf x f.cfg g.number < layerOf x f.cfg f.number) || layerOf x f.cfg f.number == 0
        else decide (f.code ≤ g.code + u8 f.cfg 0x087))

/-- Regions of other devices that share a seam with a region of this device (R180). -/
def seamRegions (x : Session) (c : Bytes) : List Nat :=
  let n := regionCols c
  (List.range (regionCount c)).filter (fun r => !codesRegion x r
    && ((r % n != 0 && codesRegion x (r - 1)) || (decide (r % n + 1 < n) && codesRegion x (r + 1))
        || (decide (n ≤ r) && codesRegion x (r - n)) || (decide (r + n < regionCount c) && codesRegion x (r + n))))

/-- Do filters cross the seams, and have the neighbours' strips of a band arrived (R179, R180)? -/
def seamsCross (x : Session) (c : Bytes) : Bool := isDist x && u8 c 0x1CC == 1 && !(seamRegions x c).isEmpty
def seamsReady (x : Session) (f : EncFrame) (b : Nat) : Bool :=
  !seamsCross x f.cfg || (seamRegions x f.cfg).all (fun r => x.dist.seams.contains (f.number, b, r))

/-- Have the pictures that f refers to committed here, filtered across the seams (R43, R56, R180)? -/
def refsReady (x : Session) (f : EncFrame) : Bool :=
  x.enc.frames.all (fun g => !dependsOn x f g || (frameCoded g && (List.range g.bands).all (seamsReady x g)))

/-- Have the halo strips of the referenced pictures arrived from the other devices (R175)? -/
def stripsReady (x : Session) (f : EncFrame) : Bool :=
  f.intra || codesAll x f.cfg || cStructure f.cfg == 3 ||
    (List.range (u8 f.cfg 0x087)).all (fun k =>
      decide (f.number ≤ x.enc.codeBase + k) ||
        (List.range f.bands).all (fun b => (List.range (regionCount f.cfg)).all (fun r =>
          codesRegion x r || x.dist.strips.contains (f.number - 1 - k, b, r))))

/-- Coded rows of the source that the unit of work reads, guard rows included (R196, R487). -/
def sourceReady (x : Session) (f : EncFrame) (u : UnitRec) : Bool :=
  let c := f.cfg
  let need := min (codeH c) ((u.row0 + u.rows) * cCtu c + guardRows c)
  match sourceOf x f.number with
  | some p => decide (need ≤ readyRows c p.rows)
  | none => false

/-- Survey cells that a rectangle of coding units overlaps, in cell raster order. -/
def cellsOver (c : Bytes) (row0 rows col0 cols : Nat) : List Nat :=
  let s := cCtu c
  let y0 := row0 * s / 64
  let y1 := min (cdiv (codeH c) 64) (cdiv ((row0 + rows) * s) 64)
  let x0 := col0 * s / 64
  let x1 := min (cellCols c) (cdiv ((col0 + cols) * s) 64)
  (List.range (y1 - y0)).flatMap (fun j => (List.range (x1 - x0)).map (fun i => (y0 + j) * cellCols c + x0 + i))

/-- Are the Survey candidates of the unit of work present? -/
def surveyReady (f : EncFrame) (u : UnitRec) : Bool :=
  !surveyed f || (cellsOver f.cfg u.row0 u.rows u.col0 u.cols).all (fun k => (tfind f.cells k).isSome)

/-- The first band command of a core in its cluster's queue (R12). -/
def headCommand (s : State) (core : Nat) : Option BandCmd := (clGet s (core / 7)).queue.find? (fun b => b.core = core)

/-- T_band in ns of a band: the most coding units on one core, at the scheduling cost with the retry share (R22, R194, R198). -/
def bandTime (f : EncFrame) (b : Nat) : Nat :=
  let us := f.units.filter (fun u => u.band = b)
  let most := us.foldl (fun n u => max n ((us.filter (fun v => v.core = u.core)).foldl (fun k v => k + unitCus v) 0)) 0
  cdiv (most * schedCost f.cfg * (100 + retryPct f.cfg) * 1000) (100 * Config.fCoreMhz)

/-- The release time of a band in a spare-ready session: scheduled commit plus T_band and RESTART_US (R48, R199). -/
def holdFrom (f : EncFrame) (b now : Nat) : List (Nat × Nat) :=
  if u8 f.cfg 0x0ED = 1 && !f.holds.any (fun h => h.1 = b) then [(b, now + 2 * bandTime f b + 1000)] else []

/-- Record a timestamp once (Table 11.17). -/
def stampAt (f : EncFrame) (k t : Nat) : EncFrame :=
  if (f.ts.getD k none).isSome then f else { f with ts := lset f.ts k (some t) }

/-- The core takes its unit of work: from the first coding unit, or from the last commit of a core that it replaces (R45). -/
def startUnit (s : State) (core : Nat) (b : BandCmd) (x : Session) (f : EncFrame) (u : UnitRec) : State :=
  let k := core / 7
  let s1 := clSet s k { clGet s k with queue := (clGet s k).queue.erase b }
  let s2 := coreSet s1 core { coreGet s1 core with
    work := some ⟨b.session, b.frame, b.unit⟩, pipe := [none, none, none, none, none, none, none], sourceRetry := false }
  let f1 := stampAt (if u.band = 0 then stampAt f 0 (ptp64 s) else f) (if u.band + 1 = f.bands then 2 else 0) (ptp64 s)
  let f2 := { f1 with holds := f1.holds ++ holdFrom f1 u.band s.now }
  unitPut s2 x f2 b.unit { rewindUnit u with started := true, startAt := s.now, due := s.now + bandTime f u.band }

/-- May the core start the unit: idle, usable, awake, all input present (R13)? -/
def startable (s : State) (core : Nat) (x : Session) (f : EncFrame) (u : UnitRec) : Bool :=
  (coreGet s core).work.isNone && (coreGet s core).decoding.isNone && coreUsable s core && (coreGet s core).sleep == .awake
    && (coreGet s core).fault == .none && refsReady x f && stripsReady x f && sourceReady x f u && surveyReady f u

/-- BAND_START. -/
def execBandStart (core t : Nat) (s : State) : Result :=
  withUnit (isCore core) (act s (!asleep s) (
    let s1 := atTime s t
    match headCommand s1 core with
    | none => s1
    | some b =>
      match sessById s1 b.session with
      | none => s1
      | some x =>
        match frameOf x b.frame with
        | none => s1
        | some f =>
          match f.units[b.unit]? with
          | none => s1
          | some u => if startable s1 core x f u then startUnit s1 core b x f u else s1))

/-! ### Assay (R60, R63) -/

/-- Motion limits in 1/16 luma sample: smallest x, largest x, smallest y, largest y (Table 3.3). -/
def mvLimits (std : Nat) : Int × Int × Int × Int :=
  match std with
  | 0 => (-131072, 131071, -131072, 131071)
  | 1 => (-131072, 131068, -131072, 131068)
  | 2 => (-32768, 32764, -8192, 8188)
  | _ => (-32766, 32766, -32766, 32766)

/-- The rectangle, in luma samples, that motion may reach: the picture with one coding unit around it, and with regions the
region with its halo (R63, R174). -/
def reachOf (c : Bytes) (u : UnitRec) : Int × Int × Int × Int :=
  let s : Int := cCtu c
  if !cDist c then (-s, (codeW c : Int) + s, -s, (codeH c : Int) + s)
  else
    let tiles (sizes : List Nat) (f : Nat → Bool) : List (Nat × Nat) :=
      (((startsFrom 0 sizes).zipIdx).filter (fun p => f p.2)).map (·.1)
    let n := (tileCols c).length
    let r := regionOf c u.tile
    let cs := tiles (tileCols c) (fun t => regionOf c (u.tile / n * n + t) == r)
    let rs := tiles (tileRows c) (fun t => regionOf c (t * n + u.tile % n) == r)
    let lo (l : List (Nat × Nat)) : Int := ((l.head?).map (fun p => (p.1 : Int))).getD 0
    let hi (l : List (Nat × Nat)) : Int := ((l.getLast?).map (fun p => ((p.1 + p.2 : Nat) : Int))).getD 0
    let hx : Int := u8 c 0x1C2
    let hy : Int := u8 c 0x1C3
    let edgeX := hi cs = wCtu c ∨ u8 c 0x1C2 = 0xFF
    let edgeY := hi rs = hCtu c ∨ u8 c 0x1C3 = 0xFF
    (if lo cs = 0 ∨ u8 c 0x1C2 = 0xFF then -s else (lo cs - hx) * s, if edgeX then (codeW c : Int) + s else (hi cs + hx) * s,
     if lo rs = 0 ∨ u8 c 0x1C3 = 0xFF then -s else (lo rs - hy) * s, if edgeY then (codeH c : Int) + s else (hi rs + hy) * s)

/-- Clip a candidate of a coding unit. -/
def clipCand (c : Bytes) (u : UnitRec) (cu : Nat) (v : Int × Int) : Int × Int :=
  let (lx, hx, ly, hy) := mvLimits (cStd c)
  let (x0, x1, y0, y1) := reachOf c u
  let s : Int := cCtu c
  let px : Int := ((u.col0 + cu % max 1 u.cols : Nat) : Int) * s
  let py : Int := ((u.row0 + cu / max 1 u.cols : Nat) : Int) * s
  (max (max lx (16 * (x0 - px))) (min (min hx (16 * (x1 - px - s))) v.1),
   max (max ly (16 * (y0 - py))) (min (min hy (16 * (y1 - py - s))) v.2))

/-- Drop a candidate within 4 luma samples of an earlier one. -/
def dropNear : List (Int × Int) → List (Int × Int) → List (Int × Int)
  | kept, [] => kept
  | kept, v :: l => if kept.any (nearVec 64 v) then dropNear kept l else dropNear (kept ++ [v]) l

/-- The candidate list of one searched reference, in 1/16 luma sample (R60). -/
def assayList (x : Session) (f : EncFrame) (u : UnitRec) (cu r : Nat) (a : AssayIn) : List (Int × Int) :=
  let c := f.cfg
  let row := u.row0 + cu / max 1 u.cols
  let col := u.col0 + cu % max 1 u.cols
  let survey := if surveyed f && decide (r < surveyRefs c) then
      (cellsOver c row 1 col 1).flatMap (fun k => match tfind f.cells k with
        | some e => (e.vecs.getD r []).map (fun v => (16 * v.1, 16 * v.2))
        | none => [])
    else []
  let lag := (lagVector x f).getD (0, 0)
  let pic := if u8 c 0x0FD = 1 && surveyed f then
      [(16 * roundAway (lag.1 * a.num) a.den, 16 * roundAway (lag.2 * a.num) a.den)] else []
  let l := dropNear [] (a.predictor.toList ++ survey ++ pic ++ a.colocated.toList ++ a.neighbours ++ [(0, 0)])
  (l.map (clipCand c u cu)).take (assayCands c)

/-! ### CU_START (R24, R29) -/

/-- The unit of work above in the same tile. -/
def unitAbove (f : EncFrame) (u : UnitRec) : Option UnitRec :=
  f.units.find? (fun v => v.tile = u.tile && v.row0 + v.rows = u.row0 && v.row0 < u.row0)

/-- Coding units of a unit of work that have completed MD. -/
def mdDone (s : State) (u : UnitRec) : Nat :=
  if u.done then unitCus u
  else
    let k := coreGet s u.core
    ((k.pipe.take 3).filterMap id).foldl (fun n sl => min n sl.cu) u.nextCu

/-- May coding unit `cu` of a unit of work be coded, for the rows above it (R29, R62)? -/
def rowAboveDone (s : State) (f : EncFrame) (u : UnitRec) (cu : Nat) : Bool :=
  if cStd f.cfg = 2 && wavefrontOn f.cfg then true
  else if u.cols ≤ cu then true
  else match unitAbove f u with
    | none => true
    | some v =>
      if wavefrontOn f.cfg then
        let above := (v.rows - 1) * v.cols
        decide (min (unitCus v) (above + cu + 2) ≤ mdDone s v)
      else v.done

/-- Take the next coding unit of the unit of work into the Front End. -/
def enterFront (s : State) (core : Nat) (x : Session) (f : EncFrame) (u : UnitRec) (w : WorkRef) : State :=
  let k := coreGet s core
  if (slotOf k 0).isSome || decide (unitCus u ≤ u.nextCu) then s
  else
    let sl : CuSlot := { cu := u.nextCu, attempt := 0, qp0 := 0, lossless := cRateMode f.cfg == 4, kept := none,
                         decided := false, assay := [] }
    unitPut (coreSet s core { k with pipe := lset k.pipe 0 (some sl) }) x f w.unit { u with nextCu := u.nextCu + 1 }

/-- May the coding unit in the engine before `e` go on: rows above before Assay, the Meter's decision before EC, HOLD stalls
EC (R29, R90, Table 5.1)? -/
def mayEnter (s : State) (core e : Nat) (f : EncFrame) (u : UnitRec) (sl : CuSlot) : Bool :=
  if e = 1 then rowAboveDone s f u sl.cu
  else if e = 5 then sl.decided && !(coreGet s core).ladle.hold
  else true

/-- Move a coding unit into engine `e`; the Ladle engine takes the next unit when it has packed the last. -/
def moveInto (s : State) (core e : Nat) (around : List AssayIn) (x : Session) (f : EncFrame) (u : UnitRec) : State :=
  let k := coreGet s core
  match slotOf k (e - 1) with
  | none => s
  | some sl =>
    if ((slotOf k e).isSome && e != 6) || !mayEnter s core e f u sl then s
    else
      let sl1 := if e = 1 && !f.intra then { sl with assay := around.zipIdx.map (fun a => assayList x f u sl.cu a.2 a.1) } else sl
      coreSet s core { k with pipe := lset (lset k.pipe (e - 1) none) e (some sl1) }

/-- CU_START: a coding unit enters an engine (0 FE to 6 LD). -/
def execCuStart (core engine : Nat) (around : List AssayIn) (s : State) : Result :=
  withUnit (isCore core && isEngine engine) (act s (!asleep s)
    (match workOf s core with
      | none => s
      | some (x, f, u, w) =>
        if engine = 0 then enterFront s core x f u w else moveInto s core engine around x f u))

/-! ### SURVEY_ROW_START (R54, R56, R58) -/

/-- May a displacement of a cell be returned (R54, R63, Table 3.5)?  Vectors are in luma samples. -/
def surveyAllows (c : Bytes) (cell : Nat) (v : Int × Int) : Bool :=
  let (lx, hx, ly, hy) := mvLimits (cStd c)
  let px : Int := (cell % cellCols c * 64 : Nat)
  let py : Int := (cell / cellCols c * 64 : Nat)
  v.1 % 4 == 0 && v.2 % 4 == 0
    && inRangeI (16 * v.1) lx hx && inRangeI (16 * v.2) ly hy
    && (u16 c 0x0F8 == 0 || decide (v.1.natAbs ≤ u16 c 0x0F8)) && (u16 c 0x0FA == 0 || decide (v.2.natAbs ≤ u16 c 0x0FA))
    && inRangeI (px + v.1) (-64) (codeW c) && inRangeI (py + v.2) (-64) (codeH c)

/-- Candidates within 8 quarter-resolution samples of a chosen one, in both components, are not chosen. -/
def spaced : List (Int × Int) → List (Int × Int) → List (Int × Int)
  | kept, [] => kept
  | kept, v :: l => if kept.any (nearVec 32 v) then spaced kept l else spaced (kept ++ [v]) l

/-- What Survey keeps of a cell's result; a copy error removes its candidates (R67). -/
def keepCell (c : Bytes) (k : SurveyCell) : SurveyCell :=
  { k with vecs := if k.copyErr then [] else
      (k.vecs.take (surveyRefs c)).map (fun l => (spaced [] (l.filter (surveyAllows c k.cell))).take (surveyCands c)) }

/-- May the cells of a row be surveyed: their source rows have passed the PPU, the surveyed copies are complete, the session
is placed on the cluster (R56, R58)? -/
def surveyable (s : State) (cluster row : Nat) (x : Session) (f : EncFrame) (cells : List SurveyCell) : Bool :=
  let c := f.cfg
  surveyed f && x.serving.contains cluster && !(clGet s cluster).surveyFenced && !(clGet s cluster).fenced
    && refsReady x f && stripsReady x f
    && (match sourceOf x f.number with
        | some p => decide (min (codeH c) (64 * (row + 1)) ≤ readyRows c p.rows)
        | none => false)
    && cells.all (fun k => k.cell / cellCols c == row && decide (k.cell < cellCount c) && (tfind f.cells k.cell).isNone)

/-- SURVEY_ROW_START. -/
def execSurveyRowStart (cluster session frame row : Nat) (cells : List SurveyCell) (s : State) : Result :=
  withUnit (isCluster cluster) (act s (!asleep s)
    (match sessById s session with
      | none => s
      | some x =>
        match frameOf x frame with
        | none => s
        | some f =>
          if surveyable s cluster row x f cells then
            sessPut s (framePut x { f with
              cells := cells.foldl (fun t k => tset t k.cell (keepCell f.cfg k)) f.cells
              copyError := f.copyError || cells.any (·.copyErr) })
          else s))

/-! ### ROW_COMMIT (R43, R107) -/

/-- Has every coding unit of the open row left EC (R43)? -/
def rowOut (s : State) (core : Nat) (u : UnitRec) : Bool :=
  let edge := (openRow u + 1) * u.cols
  !u.done && decide (edge ≤ u.nextCu) && decide (edge ≤ u.acc.entries.length)
    && ((coreGet s core).pipe.take 6).all (fun p => match p with | some sl => decide (edge ≤ sl.cu) | none => true)

/-- Tag of a row's words. -/
def rowTag (w : WorkRef) (row : Nat) : List Nat := [w.session, w.frame, w.unit, row]

/-- Has every unit of a band that runs here committed? -/
def bandCommitted (f : EncFrame) (b : Nat) : Bool :=
  decide (b < f.dispatched) && (f.units.filter (fun u => u.band = b)).all (·.done)

/-- The device multicasts a unit's statistics to the devices of its session (R177). -/
def sendStats (s : State) (x : Session) (f : EncFrame) (u : UnitRec) : State :=
  if !isDist x then s
  else
    let r := regionOf f.cfg u.tile
    let region := (pictureUnits f.cfg).filter (fun v => regionOf f.cfg v.tile = r)
    let lastOf := (region.getLast?.map (·.index)) == some u.index
    let bins := if lastOf then topBins 16 (cellBins ((f.cells.map (·.2)).filter (fun k => cellRegion f.cfg k.cell = r))) else []
    let st := unitStats u bins
    sendClp s 0x07 clpAll ([x.dist.fabricSession, f.number, u.index, st.bits, toBits 64 st.qpSum, st.complexity, st.charge,
      st.lossless, st.retries, st.minPsnr, (st.flags % 8) + (if lastOf then 8 else 0)]
      ++ st.bins.flatMap (fun b => [toBits 32 b.1, toBits 32 b.2.1, b.2.2]))

/-- Send the neighbours the pre-filter samples of a band along the seams, with the filter parameters of their CTUs (R180). -/
def sendSeams (s : State) (x : Session) (f : EncFrame) (b : Nat) : State :=
  if seamsCross x f.cfg && bandCommitted f b then
    emit s (.packet x.id 0xF2 [x.dist.fabricSession, f.number, b] (Config.unitBytes 0xF2 f.cfg f.number [b]))
  else s

/-- A committed band's final samples go to the devices whose extended region overlaps it (R175), once the filters across the
seams have run. -/
def sendStrips (s : State) (x : Session) (f : EncFrame) (b : Nat) : State :=
  if !isDist x || codesAll x f.cfg || !bandCommitted f b || !seamsReady x f b then s
  else
    let s1 := emit s (.packet x.id 0xF0 [x.dist.fabricSession, f.number, b] (Config.unitBytes 0xF0 f.cfg f.number [b]))
    sessPut s1 { x with dist := { x.dist with unacked := x.dist.unacked ++ [(f.number, b, 0, s.now)] } }

/-- Timestamps of the commits of the first and the last band. -/
def commitStamps (f : EncFrame) (b t : Nat) : EncFrame :=
  let g := if b = 0 && bandCommitted f 0 then stampAt f 1 t else f
  if b + 1 = f.bands && bandCommitted f b then stampAt g 3 t else g

/-- What a commit of the last row of a unit of work does beyond the row. -/
def finishUnit (s : State) (core : Nat) (x : Session) (f : EncFrame) (i : Nat) (u : UnitRec) : State :=
  let f1 := { f with units := lset f.units i u }
  let f2 := commitStamps f1 u.band (ptp64 s)
  let late := bandCommitted f2 u.band && f2.holds.any (fun h => h.1 = u.band && decide (h.2 < s.now))
  let y := framePut { x with lateBands := x.lateBands + (if late then 1 else 0) } f2
  let s1 := coreSet (sessPut s y) core { coreGet s core with work := none, redoing := false, pipe := [none, none, none, none, none, none, none] }
  let s2 := sendStrips (sendSeams (sendStats s1 y f2 u) y f2 u.band) y f2 u.band
  reportFrames 64 s2 x.id

/-- The commit of a row: its bytes reach the Ladle and are flushed, the snapshot is taken, the row is final. -/
def commitRow (s : State) (core : Nat) (b : Bytes) (complexity : Nat) (x : Session) (f : EncFrame) (u : UnitRec) (w : WorkRef) : State :=
  let k := coreGet s core
  let ladle := fifoWrite (rowTag w (openRow u)) b k.ladle
  if ladle.overflow ≠ k.ladle.overflow then
    match coreFault (coreSet s core { k with ladle := ladle }) core 1 none with
    | (n, s1) => if n = 1 then restartCore s1 core else s1
  else
    let s1 := coreSet s core { k with ladle := fifoCommit (rowTag w (openRow u)) ladle, pipe := lset k.pipe 6 none }
    let acc := { u.acc with complexity := u.acc.complexity + complexity }
    let v := { u with acc := acc, snap := acc, commits := u.commits ++ [⟨openRow u, core, false⟩],
                      done := u.commits.length + 1 == u.rows }
    if v.done then finishUnit s1 core x f w.unit v else unitPut s1 x f w.unit v

/-- ROW_COMMIT. -/
def execRowCommit (core : Nat) (bytes : Bytes) (complexity t : Nat) (s : State) : Result :=
  withUnit (isCore core) (act s (!asleep s) (
    let s1 := atTime s t
    match workOf s1 core with
    | some (x, f, u, w) =>
      if rowOut s1 core u then settleRotation (commitRow s1 core bytes complexity x f u w) (core / 7) else s1
    | none => s1))

/-! ### INPUT_GAP_TIMEOUT (R256) -/

/-- Frame period in ns. -/
def framePeriod (c : Bytes) : Nat := 1000000000 * u32 c 0x04C / max 1 (u32 c 0x048)

/-- A live picture is missing one frame period after its expected time: it is replaced by the previous source picture, or its
number is skipped. -/
def fillGap (s : State) (x : Session) (last : Nat) : State :=
  let n := x.enc.nextSubmit
  let moved := { x.enc with nextSubmit := n + 1, arrivedAt := some (last + framePeriod x.cfg) }
  if u8 x.cfg 0x011 = 1 then sessPut s { x with enc := { moved with skipped := moved.skipped ++ [n] } }
  else match x.enc.lastSource with
    | some p => sessPut s { x with enc := { moved with submitted := moved.submitted ++ [{ p with frame := n, since := s.now }] } }
    | none => s

/-- INPUT_GAP_TIMEOUT. -/
def execInputGapTimeout (session t : Nat) (s : State) : Result :=
  act s (!asleep s) (
    let s1 := atTime s t
    match sessById s1 session with
    | none => s1
    | some x =>
      match x.enc.arrivedAt with
      | none => s1
      | some last =>
        if !x.decode && cSource x.cfg != 0 && (x.state == .running || x.state == .resync)
            && decide (last + 2 * framePeriod x.cfg ≤ s1.now) then fillGap s1 x last else s1)

end Sys2Proof.Machine
end

