-- ==== Sys2Proof/Machine/DecodeOutput.lean ====
section
/-! DEFINITION. The end of decoding: what a decoded picture reports (R142, R143), the pictures that a session keeps, and the
end of an output (R144, R145). -/

namespace Sys2Proof.Machine

/-! ### The grid of a decoded picture -/

/-- Columns and rows of coding units, and their number. -/
def gridW (h : DecHead) : Nat := cdiv h.width (2 ^ h.cuLog2)
def gridH (h : DecHead) : Nat := cdiv h.height (2 ^ h.cuLog2)
def gridN (h : DecHead) : Nat := gridW h * gridH h

/-- Luma area of a coding unit inside the picture. -/
def cuArea (h : DecHead) (cu : Nat) : Nat :=
  let n := 2 ^ h.cuLog2
  min n (h.width - cu % gridW h * n) * min n (h.height - cu / gridW h * n)

/-- The state of a coding unit that nothing has decoded. -/
def DecCuState.blank : DecCuState :=
  { damaged := false, method := 0, lost := false, syn := false, tainted := false, refErr := false, subst := false, age := 0,
    qp := 0, intra := false, bottom := none, centre := none }

/-- A coding unit of a picture. -/
def cuAt (p : DecPicture) (cu : Nat) : DecCuState := tget DecCuState.blank p.cus cu

/-- Areas of the coding units that a test picks, and their number. -/
def areaWhere (p : DecPicture) (f : DecCuState → Bool) : Nat :=
  p.cus.foldl (fun n k => if f k.2 then n + cuArea p.head k.1 else n) 0
def countWhere (p : DecPicture) (f : DecCuState → Bool) : Nat := (p.cus.filter (fun k => f k.2)).length

/-- Picture area. -/
def picArea (h : DecHead) : Nat := h.width * h.height

/-- A Q0.16 share, rounded down. -/
def q16Share (a b : Nat) : Nat := if b = 0 then 0 else a * 65536 / b

/-- The picture of a number, and writing it back. -/
def picOf (x : Session) (id : Nat) : Option DecPicture := x.dec.pics.find? (fun p => p.id = id)
def picPut (x : Session) (p : DecPicture) : Session :=
  { x with dec := { x.dec with pics := x.dec.pics.map (fun q => if q.id = p.id then p else q) } }

/-- Pictures that are neither stored nor waiting leave. -/
def dropPics (x : Session) : Session :=
  { x with dec := { x.dec with pics := x.dec.pics.filter (fun p => !p.ended || p.isRef || p.going != 2) } }

/-! ### The report and the map (Tables 6.3 and 6.4) -/

/-- FLAGS bits of Table 11.16. -/
def flLost : Nat := 256
def flSyntax : Nat := 512
def flHash : Nat := 1024
def flRefError : Nat := 2048
def flTainted : Nat := 4096
def flHeld : Nat := 8192
def flLate : Nat := 16384
def flNotOutput : Nat := 32768
def flReconfigured : Nat := 64

/-- Area-weighted mean quantiser of the coding units that are not concealed; as in an encode report it is scaled by 16 but for
AV1, and rounded down. -/
def decMeanQp (std : Nat) (p : DecPicture) : Int :=
  let sum := p.cus.foldl (fun (n : Int) k => if k.2.damaged then n else n + k.2.qp * (cuArea p.head k.1 : Int)) 0
  let area := areaWhere p (fun k => !k.damaged)
  if area = 0 then 0 else sum * (if std = 3 then 1 else 16) / (area : Int)

/-- Concealed coding units: the whole picture when it was held. -/
def concealedOf (p : DecPicture) : Nat := if p.method = 3 then gridN p.head else countWhere p (fun k => k.damaged)

/-- The frame report of a decoded picture. -/
def decodeReport (x : Session) (p : DecPicture) (noQp : Nat) : Bytes :=
  let ts0 := (p.ts.getD 0 none).getD 0
  le 8 p.number ++ le 8 p.bits ++ le 4 x.id
    ++ le 2 (if areaWhere p (fun k => !k.damaged) = 0 then noQp else toBits 16 (decMeanQp (u8 x.cfg 0) p))
    ++ zeros 2 ++ zeros 4 ++ zeros 4 ++ le 4 (concealedOf p) ++ le 4 p.flags ++ le 8 ts0
    ++ (List.range 4).flatMap (fun k => le 4 (tsDelta ts0 (p.ts.getD (k + 1) none)))

/-- Bytes of one concealment map: the smallest coding units of the standard over the largest picture (R143). -/
def cmapBytes (c : Bytes) : Nat :=
  let n := match u8 c 0 with | 0 => 32 | 3 => 64 | _ => 16
  roundUp (64 + 2 * (cdiv (u16 c 0x04) n * cdiv (u16 c 0x06) n)) 4096

/-- STATE of a coding unit. -/
def cuStateByte (k : DecCuState) : Nat :=
  (if k.damaged then k.method else 0) + (if k.lost then 4 else 0) + (if k.syn then 8 else 0) + (if k.tainted then 16 else 0)
    + (if k.refErr then 32 else 0) + (if k.subst then 64 else 0)

/-- The concealment map of a picture. -/
def cmapOf (p : DecPicture) : Bytes :=
  le 8 p.number ++ le 2 (gridW p.head) ++ le 2 (gridH p.head) ++ le 4 (toBits 32 p.head.order) ++ le 4 (concealedOf p)
    ++ le 4 (countWhere p (·.tainted)) ++ le 4 p.lostPackets ++ le 2 p.synErrors ++ le 1 p.method ++ zeros 33
    ++ (List.range (gridN p.head)).flatMap (fun n => le 1 (cuStateByte (cuAt p n)) ++ le 1 (if (cuAt p n).tainted then (cuAt p n).age else 0))

/-- Write the map of an output picture. -/
def writeCmap (s : State) (x : Session) (p : DecPicture) : State :=
  if u8 x.cfg 0x8A = 0 then s
  else hostWrite s x.fn true (u64 x.cfg 0x90 + p.number % u8 x.cfg 0x8A * cmapBytes x.cfg) (cmapOf p)

/-! ### Output -/

/-- Samples of value 2^(bd − 1) in place of a picture. -/
def greyPlanes (chroma depth w h : Nat) : List Plane :=
  let plane (w h : Nat) : Plane := List.replicate h (List.replicate w (2 ^ (depth - 1)))
  if chroma = 0 then [plane w h]
  else [plane w h, plane (cdiv w (subX chroma)) (cdiv h (subY chroma)), plane (cdiv w (subX chroma)) (cdiv h (subY chroma))]

/-- The output picture before, in the output format. -/
def lastOutPlanes (x : Session) (h : DecHead) : List Plane :=
  if x.dec.lastOutput.isEmpty then greyPlanes (outChroma x.cfg h) (outDepth x.cfg h) (outW x.cfg h) (outH x.cfg h) else x.dec.lastOutput

/-- Write a picture into the first output buffer (R144, R258). -/
def writeOutput (s : State) (x : Session) (p : DecPicture) : State × Session :=
  match x.dec.buffers with
  | [] => (s, x)
  | b :: l =>
    let data := (packPic (u8 x.cfg 0x40) (outDepth x.cfg p.head) p.output).take b.size
    let last := x.dec.endOfStream && x.dec.stream == x.dec.consumed && x.dec.pics.all (fun q => q.going == 2 || q.id == p.id)
    (finish (hostWrite s x.fn b.inHbm b.addr data) ⟨x.fn, b.qid, b.cid⟩ ⟨stSuccess, if last then 3 else 1, data.length⟩,
     { x with dec := { x.dec with buffers := l } })

/-- The end of a picture's output: memory output, the map, then the frame report; commands that waited for it complete. -/
def finishOutput (s : State) (id pic : Nat) : State :=
  match sessById s id with
  | none => s
  | some x0 =>
    match picOf x0 pic with
    | none => s
    | some p0 =>
      let bare := bitOf p0.flags 15
      let toMem := !bare && u8 x0.cfg 0x15 != 1
      let p1 := if toMem && x0.dec.buffers.isEmpty then { p0 with flags := p0.flags ||| flNotOutput } else p0
      let (s1, x1) := if toMem then writeOutput s x0 p1 else (s, x0)
      let p := { p1 with going := 2, ts := if bitOf p1.flags 15 then p1.ts else lset p1.ts 4 (some (ptp64 s)) }
      let (noQp, s2) := draw (writeCmap s1 x1 p) 65536
      let (r, s3) := postRing s2 x1.fn x1.report (decodeReport x1 p noQp)
      let x2 := picPut { x1 with report := r, frames := x1.frames + 1, concealed := x1.concealed + concealedOf p } p
      let x3 := { x2 with dec := { x2.dec with
        lastOut := some p.number
        lastShown := if bitOf p.flags 15 || bitOf p.flags 13 then x2.dec.lastShown else p.planes
        lastOutput := if bitOf p.flags 15 then x2.dec.lastOutput else p.output } }
      let s4 := sessPut s3 (dropPics x3)
      settleStop (match sessById s4 id with | some y => settleFlush s4 y | none => s4) id

/-- A line of a picture was not final at its send time: DECODE_LATE and HELD (R145). -/
def markLate (s : State) (id pic : Nat) : State :=
  match sessById s id with
  | none => s
  | some x => match picOf x pic with
    | none => s
    | some p => sessPut s (picPut x { p with flags := p.flags ||| (flLate + flHeld) })

end Sys2Proof.Machine
end

