-- ==== Sys2Proof/Machine/PixelPort.lean ====
section
/-! DEFINITION. The pixel ports (chapter 15 of the manual): links, the receive FIFO and its hold pin, the pictures that arrive,
and monitor output. -/

namespace Sys2Proof.Machine

/-! ### Counters and the hold pin -/

/-- Add to counter k of Table 15.5: 64 bits, wrapping (R311). -/
def countPx (p : PxPort) (k n : Nat) : PxPort :=
  { p with counters := tset p.counters k ((tget 0 p.counters k + n) % 2 ^ 64) }

/-- Raise SKID_MAX to a value. -/
def maxSkid (p : PxPort) : PxPort :=
  { p with counters := tset p.counters 12 (max (tget 0 p.counters 12) p.skid) }

/-- PXn_HOLD_N is low while the FIFO holds, the receive side is off or the port is down (R307). -/
def pxPin (p : PxPort) : PxPort :=
  let low := !p.up || !p.cfg.rxOn || p.fifo.hold
  if low && !p.holdLow then { countPx p 11 1 with holdLow := true, skid := 0 } else { p with holdLow := low }

/-! ### Packets -/

/-- Header of a packet (Table 15.2). -/
def pxHeader (typ len frame line plane offset : Nat) : Bytes :=
  be 1 typ ++ zeros 1 ++ be 2 len ++ be 4 frame ++ be 2 line ++ be 1 plane ++ zeros 1 ++ be 4 offset

/-- The receive status of R306. -/
def pxStatus (p : PxPkt) (excess : Bool) : Nat :=
  (if p.crcOk then 0 else 1) + (if excess then 2 else 0) + (if p.ended then 0 else 4) + (if p.eccBad then 8 else 0)

/-- Write a packet's data blocks, 8 bytes each; `n` bounds them. -/
def writeBlocksPx (n : Nat) (tag : List Nat) (b : Bytes) (f : PackFifo) : PackFifo :=
  match n with
  | 0 => f
  | k + 1 => if b.isEmpty then f else writeBlocksPx k tag (b.drop 8) (fifoWrite tag (b.take 8) f)

/-- The blocks of a packet before its trailer: header, payload and padding. -/
def pxBody (typ : Nat) (p : PxPkt) : Bytes :=
  pxHeader typ p.len p.frame p.line p.plane p.offset ++ padTo (roundUp p.payload.length 8) p.payload

/-- Is the packet bad for its reader (R306)? -/
def pxBad (p : PxPkt) (excess : Bool) : Bool :=
  pxStatus p excess != 0 || roundUp p.payload.length 8 != roundUp p.len 8

/-- Bytes of a packet that count as skid after an assertion of the hold pin (R307). -/
def pxSkid (before : PxPort) (total : Nat) : Nat :=
  if before.holdLow then roundUp total 64
  else roundUp (total - (before.fifo.high * 64 - min (before.fifo.high * 64) (before.fifo.words.length * 64))) 64

/-- Receive one packet into the FIFO (R306, R307): its counters, status, hold pin and skid; answers whether it is good.  A bad
CRC is what the wire carried (log entry 10). -/
def pxReceive (s : State) (typ : Nat) (p : PxPkt) : Bool × State :=
  let q := pxGet s p.port
  let body := pxBody typ p
  let (wire, s1) := if p.crcOk then (crc32c body, s) else draw s (2 ^ 32)
  let tag := [typ, p.frame, p.line, p.plane, p.offset]
  let f1 := writeBlocksPx (body.length / 8 + 1) tag body q.fifo
  let over1 := f1.overflow != q.fifo.overflow
  let f2 := writeBlocksPx 2 tag (be 4 wire ++ be 4 (pxStatus p over1)) f1
  let f := fifoFlush tag f2
  let excess := f2.overflow != q.fifo.overflow
  let good := !pxBad p excess
  let q1 := { q with fifo := f }
  let q2 := countPx (countPx (countPx (countPx q1 0 (if good then 1 else 0)) 2 (if p.crcOk then 0 else 1))
    3 (if p.ended then 0 else 1)) 4 (f.overflow - q.fifo.overflow)
  let q3 := pxPin q2
  let q4 := if q3.holdLow then maxSkid { q3 with skid := q3.skid + pxSkid q (body.length + 8) } else q3
  let s2 := pxSet s1 p.port q4
  (good, if p.eccBad then (collect s2 38 p.port 1 none).2 else s2)

/-- Does the port receive packets: enabled, up, not fenced (R301)? -/
def pxReceives (s : State) (p : Nat) : Bool := (pxGet s p).cfg.rxOn && (pxGet s p).up && !(pxGet s p).fenced

/-! ### The order of a picture's bytes (R304) -/

/-- Planes of a picture: bytes of a row, rows. -/
def fmtPlanes (f : PxStart) : List (Nat × Nat) := planesOf f.layout f.chroma f.depth f.width f.height

/-- Luma rows that one row of a plane covers. -/
def rowSpan (f : PxStart) (rows : Nat) : Nat := cdiv f.height (max 1 rows)

/-- Rows of a plane whose last covered luma row lies before luma row y. -/
def rowsBefore (f : PxStart) (rows y : Nat) : Nat := if f.height ≤ y then rows else min rows (y / max 1 (rowSpan f rows))

/-- The luma row after which a row of a plane is sent. -/
def lastLuma (f : PxStart) (rows row : Nat) : Nat := min (f.height - 1) (row * rowSpan f rows + rowSpan f rows - 1)

/-- Bytes of plane q that come before the segment of plane `plane`, row `row`, offset `off`. -/
def planeReach (f : PxStart) (q plane row off : Nat) : Nat :=
  let l := fmtPlanes f
  let y := lastLuma f ((l.getD plane (0, 0)).2) row
  if q = plane then (l.getD q (0, 0)).1 * row + off
  else (l.getD q (0, 0)).1 * rowsBefore f (l.getD q (0, 0)).2 (if q < plane then y + 1 else y)

/-- Bytes that every plane needs before a segment; and of a whole picture. -/
def reachBefore (f : PxStart) (plane row off : Nat) : List Nat :=
  (List.range (fmtPlanes f).length).map (fun q => planeReach f q plane row off)
def reachAll (f : PxStart) : List Nat := (fmtPlanes f).map (fun p => p.1 * p.2)

/-- Segments that the bytes from a to b of a plane make up: each row in segments of at most 16,384 bytes. -/
def segmentsOf (row a b : Nat) : Nat :=
  if b ≤ a then 0
  else (b / max 1 row * cdiv row 16384 + cdiv (b % max 1 row) 16384) - (a / max 1 row * cdiv row 16384 + a % max 1 row / 16384)

/-- Does a segment lie in its row? -/
def segmentFits (f : PxStart) (p : PxPkt) : Bool :=
  match (fmtPlanes f)[p.plane]? with
  | some q => decide (p.line < q.2) && decide (p.offset + p.len ≤ q.1) && decide (p.len ≤ 16384)
  | none => false

/-- Does a segment arrive late: some plane is beyond it already? -/
def segmentLate (g : PxPicture) (p : PxPkt) : Bool :=
  ((reachBefore g.fmt p.plane p.line p.offset).zip g.arrived).any (fun q => decide (q.1 < q.2.length))

/-! ### Filling what is missing (R305) -/

/-- The planes of the session's previous source picture. -/
def prevPlanes (x : Session) (n : Nat) : List Bytes :=
  match (x.enc.submitted.filter (fun p => decide (p.frame < n) && !p.arrived.isEmpty)).getLast? with
  | some p => p.arrived
  | none => match x.enc.lastSource with
    | some p => p.arrived
    | none => []

/-- A row of a plane whose samples are 2^(bd − 1). -/
def greyRow (f : PxStart) (row : Nat) : Bytes :=
  (packRow (if f.layout = 1 ∨ f.layout = 4 then 0 else f.layout) f.depth (List.replicate row (2 ^ (f.depth - 1)))).take row

/-- Bytes a to b of the filler of a plane. -/
def fillerBytes (f : PxStart) (old : List Bytes) (q row a b : Nat) : Bytes :=
  match old[q]? with
  | some o => if b ≤ o.length then slice o a (b - a)
              else (List.range (b - a)).map (fun i => (greyRow f row).getD ((a + i) % max 1 row) 0)
  | none => (List.range (b - a)).map (fun i => (greyRow f row).getD ((a + i) % max 1 row) 0)

/-- Fill every plane up to the given lengths, counting the segments filled. -/
def fillTo (g : PxPicture) (old : List Bytes) (reach : List Nat) : PxPicture :=
  let rows := (fmtPlanes g.fmt).map (·.1)
  { g with
    arrived := g.arrived.zipIdx.map (fun p =>
      if p.1.length < reach.getD p.2 0 then p.1 ++ fillerBytes g.fmt old p.2 (rows.getD p.2 0) p.1.length (reach.getD p.2 0) else p.1)
    filled := g.filled + g.arrived.zipIdx.foldl (fun n p => n + segmentsOf (rows.getD p.2 0) p.1.length (reach.getD p.2 0)) 0 }

/-- What fills a picture's gaps. -/
def fillerOf (s : State) (g : PxPicture) : List Bytes :=
  match g.feeds with
  | some (id, n) => match sessById s id with
    | some x => prevPlanes x n
    | none => []
  | none => []

/-- End the picture that a port receives: what is missing is filled, counted, and posts one event record; the planes stay with
the session's picture (R305). -/
def endPicture (s : State) (p : Nat) : State :=
  match (pxGet s p).picture with
  | none => s
  | some g0 =>
    match g0.feeds with
    | none => pxSet s p { pxGet s p with picture := none }
    | some (id, n) =>
      let g := fillTo g0 (fillerOf s g0) (reachAll g0.fmt)
      let s1 := pxSet s p { countPx (pxGet s p) 10 g.filled with picture := none }
      match sessById s1 id with
      | none => s1
      | some x =>
        let y := { x with enc := { x.enc with submitted := x.enc.submitted.map (fun q => if q.frame = n then { q with arrived := g.arrived } else q) } }
        let s2 := sessPut s1 y
        if g.filled = 0 then s2 else logSession s2 y 0x0203 0 38 (some g.filled) (some g.fmt.sourceTime)

/-! ### FRAME_START (R303, R305, R308) -/

/-- Read a FRAME_START payload (Table 15.3). -/
def readStart (b : Bytes) : PxStart :=
  { width := ube b 0 2, height := ube b 2 2, totalLines := ube b 4 2, layout := u8 b 6, chroma := u8 b 7, depth := u8 b 8,
    kind := u8 b 9, sourceTime := ube b 16 8 }

/-- The session that takes its source from the port. -/
def pxSession (s : State) (p : Nat) : Option Session :=
  (sessList s).find? (fun x => !x.decode && cSource x.cfg == 1 && u8 x.cfg 0x003 == p && (x.state == .running || x.state == .resync))

/-- Do the values equal the session's picture-format sub-block, and does a line fit its period? -/
def startAgrees (s : State) (p : Nat) (c : Bytes) (f : PxStart) : Bool :=
  f.width == srcW c && f.height == srcH c && f.layout == u8 c 0x041 && f.chroma == u8 c 0x042 && f.depth == u8 c 0x043
    && f.kind == u8 c 0x040 && decide (f.height ≤ f.totalLines)
    && fracLe (fracMul (rateOf c) (fracOf ((srcPlanes c).foldl (fun n q => n + pxRowBytes q.1) 0 * f.totalLines)))
        (fracOf ((pxGet s p).cfg.rxLanes * 3125000000))

/-- Begin a picture of a session: it takes the next frame number; while the backlog is full its number is skipped (R259). -/
def beginPicture (s : State) (p : PxPkt) (f : PxStart) (x : Session) : State :=
  let n := x.enc.nextSubmit
  let g : PxPicture := { frame := p.frame, fmt := f, feeds := if x.blocked then none else some (x.id, n), lines := false,
                         arrived := (fmtPlanes f).map (fun _ => []), filled := 0, cll := none }
  let s1 := pxSet s p.port { pxGet s p.port with picture := some g }
  let y := { x with enc := { x.enc with nextSubmit := n + 1 } }
  if x.blocked then sessPut s1 { y with enc := { y.enc with skipped := y.enc.skipped ++ [n] } }
  else sessPut s1 { y with enc := { y.enc with arrivedAt := some s.now, submitted := y.enc.submitted ++ [liveSource s n p.frame] } }

/-- Discard the pictures of a port until the next FRAME_START. -/
def discardPicture (s : State) (p : PxPkt) (f : PxStart) : State :=
  pxSet s p.port { pxGet s p.port with picture := some { frame := p.frame, fmt := f, feeds := none, lines := false,
                                                          arrived := [], filled := 0, cll := none } }

/-- A good FRAME_START. -/
def startPicture (s : State) (p : PxPkt) : State :=
  let s1 := endPicture s p.port
  let q := pxGet s1 p.port
  let gap := match q.lastFrame with
    | some n => p.frame != (n + 1) % 2 ^ 32
    | none => false
  let s2 := pxSet s1 p.port { countPx q 9 (if gap then 1 else 0) with lastFrame := some p.frame }
  let f := readStart p.payload
  match pxSession s2 p.port with
  | none => discardPicture s2 p f
  | some x =>
    if startAgrees s2 p.port (cfgAt x x.enc.nextSubmit) f then beginPicture s2 p f x
    else discardPicture (pxSet s2 p.port (countPx (pxGet s2 p.port) 8 1)) p f

/-- FRAME_START. -/
def execFrameStart (p : PxPkt) (s : State) : Result :=
  withUnit (isPixel p.port) (act s (!asleep s && pxReceives s p.port)
    (match pxReceive (atTime s p.t) 1 p with
      | (true, s1) => startPicture s1 p
      | (false, s1) => s1))

/-! ### LINE, FRAME_END, METADATA (R304, R305) -/

/-- Count a packet out of order. -/
def orderError (s : State) (p : Nat) : State := pxSet s p (countPx (pxGet s p) 5 1)

/-- A good LINE packet: late or outside its picture it is out of order; what it overtakes is missing; its bytes join their
plane. -/
def takeLine (s : State) (p : PxPkt) : State :=
  match (pxGet s p.port).picture with
  | none => orderError s p.port
  | some g =>
    if g.feeds.isNone then s
    else if !segmentFits g.fmt p || segmentLate g p then orderError s p.port
    else
      let h := fillTo g (fillerOf s g) (reachBefore g.fmt p.plane p.line p.offset)
      let k := { h with lines := true, arrived := lset h.arrived p.plane (h.arrived.getD p.plane [] ++ p.payload.take p.len) }
      pxSet s p.port { pxGet s p.port with picture := some k }

/-- LINE. -/
def execLine (p : PxPkt) (s : State) : Result :=
  withUnit (isPixel p.port) (act s (!asleep s && pxReceives s p.port)
    (match pxReceive (atTime s p.t) 2 p with
      | (true, s1) => takeLine s1 p
      | (false, s1) => s1))

/-- FRAME_END. -/
def execFrameEnd (p : PxPkt) (s : State) : Result :=
  withUnit (isPixel p.port) (act s (!asleep s && pxReceives s p.port)
    (match pxReceive (atTime s p.t) 3 p with
      | (true, s1) => if (pxGet s1 p.port).picture.isNone then orderError s1 p.port else endPicture s1 p.port
      | (false, s1) => s1))

/-- The light levels of a picture, for the CLL message of the picture. -/
def putLevels (x : Session) (n : Nat) (l : Nat × Nat) : Session :=
  { x with enc := { x.enc with
      submitted := x.enc.submitted.map (fun q => if q.frame = n then { q with cll := some l } else q)
      frames := x.enc.frames.map (fun f => if f.number = n then { f with cll := some l } else f) } }

/-- A good METADATA packet. -/
def takeMetadata (s : State) (p : PxPkt) : State :=
  match (pxGet s p.port).picture with
  | none => orderError s p.port
  | some g =>
    if g.lines then orderError s p.port
    else if u8 p.payload 0 ≠ 1 ∨ p.payload.isEmpty then pxSet s p.port (countPx (pxGet s p.port) 6 1)
    else
      let l := (ube p.payload 2 2, ube p.payload 4 2)
      let s1 := pxSet s p.port { pxGet s p.port with picture := some { g with cll := some l } }
      match g.feeds with
      | some (id, n) => match sessById s1 id with
        | some x => sessPut s1 (putLevels x n l)
        | none => s1
      | none => s1

/-- METADATA. -/
def execMetadata (p : PxPkt) (s : State) : Result :=
  withUnit (isPixel p.port) (act s (!asleep s && pxReceives s p.port)
    (match pxReceive (atTime s p.t) 4 p with
      | (true, s1) => takeMetadata s1 p
      | (false, s1) => s1))

/-! ### Reading the FIFO (R104, R105, R307) -/

/-- PX_FIFO_READ: one word with its tag, or the idle word. -/
def execPxFifoRead (port : Nat) (s : State) : Result :=
  withUnit (isPixel port) (act s (!asleep s)
    (match fifoRead (pxGet s port).fifo with
      | (w, f) => emit (pxSet s port (pxPin { pxGet s port with fifo := f })) (.fifoWord port (wordTag w) (wordBytes w))))

/-! ### Links (R301) -/

/-- PX_LINK_UP: every bonded lane has lock and the markers agree. -/
def execPxLinkUp (port t : Nat) (s : State) : Result :=
  withUnit (isPixel port) (act s (!asleep s && !(pxGet s port).up && !fencing s (.pixelPort port) && (pxGet s port).cfg.rxOn)
    (larderUpdate (pxSet (atTime s t) port (pxPin { pxGet s port with up := true }))))

/-- Take a pixel port down: the picture in arrival ends (R305). -/
def pxDown (s : State) (p : Nat) : State :=
  if (pxGet s p).up then
    let s1 := endPicture s p
    pxSet s1 p (pxPin { countPx (pxGet s1 p) 13 1 with up := false })
  else s

/-- PX_LINK_DOWN. -/
def execPxLinkDown (port t : Nat) (s : State) : Result :=
  withUnit (isPixel port) (act s (!asleep s && (pxGet s port).up) (larderUpdate (pxDown (atTime s t) port)))

/-! ### Monitor output (R309, R145) -/

/-- Rows of every plane of a layout as bytes. -/
def planeRows (layout depth : Nat) (ps : List Plane) : List (List Bytes) :=
  (storedPlanes layout ps).map (fun p => p.map (packRow (if layout = 1 ∨ layout = 4 then 0 else layout) depth))

/-- Payload of FRAME_START (Table 15.3). -/
def startPayload (f : PxStart) : Bytes :=
  be 2 f.width ++ be 2 f.height ++ be 2 f.totalLines ++ be 1 f.layout ++ be 1 f.chroma ++ be 1 f.depth ++ be 1 f.kind ++ zeros 6
    ++ be 8 f.sourceTime ++ zeros 8

/-- Start sending a picture at its output time (R309); the picture sent before becomes the previous one. -/
def pxStartOutput (s : State) (port : Nat) (o : PxSending) : State :=
  let q := pxGet s port
  let q1 := { countPx q 1 1 with txFrame := (q.txFrame + 1) % 2 ^ 32, sending := some o }
  emit (pxSet s port q1) (.pixel port 1 q.txFrame 0 0 0 (startPayload o.fmt))

/-- Segments of a row. -/
def rowSegments (n at0 seg : Nat) (b : Bytes) : List (Nat × Bytes) :=
  match n with
  | 0 => []
  | k + 1 => if b.isEmpty then [] else (at0, b.take seg) :: rowSegments k (at0 + seg) seg (b.drop seg)

/-- Rows of line y: the luma row, then every chroma row whose last covered luma row it is (R304). -/
def rowsOfLine (f : PxStart) (planes : List (List Bytes)) (y : Nat) : List (Nat × Nat × Bytes) :=
  planes.zipIdx.flatMap fun p =>
    if p.2 = 0 then [(0, y, p.1.getD y [])]
    else ((List.range p.1.length).filter (fun j => lastLuma f p.1.length j == y)).map (fun j => (p.2, j, p.1.getD j []))

/-- Send the packets of one line. -/
def sendLine (s : State) (port : Nat) (o : PxSending) (planes : List (List Bytes)) : State :=
  let q := pxGet s port
  (rowsOfLine o.fmt planes o.line).foldl (fun s r =>
    (rowSegments 4096 0 (max 8 q.cfg.txSegMax) r.2.2).foldl (fun s g =>
      emit (pxSet s port (countPx (pxGet s port) 1 1)) (.pixel port 2 (q.txFrame - 1) r.2.1 r.1 g.1 g.2)) s) s

/-- Lines that a picture takes on the wire: TX_TOTAL_LINES, or its height (Table 15.4). -/
def txLines (q : PxPort) (f : PxStart) : Nat := if q.cfg.txTotal = 0 then f.height else q.cfg.txTotal

/-- The earliest time of a line: the output time plus line × t_line_out. -/
def lineTime (q : PxPort) (o : PxSending) (y : Nat) : Nat :=
  o.startAt + o.period.num * y / max 1 (o.period.den * txLines q o.fmt)

/-- The planes from which line y goes out, and whether it goes out late: not yet final, or after a late line of the picture
(R145, R309). -/
def linePlanes (x : Session) (p : DecPicture) (o : PxSending) : List Plane × Bool :=
  if o.held || (!bitOf p.flags 13 && decide (p.outRows ≤ o.line)) then (lastOutPlanes x p.head, true) else (p.output, false)

/-- Send the next line; after the last one FRAME_END, and the output ends. -/
def nextLineOut (s : State) (port : Nat) (o : PxSending) : State :=
  match sessById s o.session with
  | none => pxSet s port { pxGet s port with sending := none }
  | some x =>
    match picOf x o.pic with
    | none => pxSet s port { pxGet s port with sending := none }
    | some p =>
      let (planes, late) := linePlanes x p o
      let s1 := if late then pxSet (markLate s o.session o.pic) port (countPx (pxGet s port) 14 1) else s
      let s2 := sendLine s1 port o (planeRows o.fmt.layout o.fmt.depth planes)
      let q := pxGet s2 port
      if o.fmt.height ≤ o.line + 1 then
        finishOutput (emit (pxSet s2 port { countPx q 1 1 with sending := none }) (.pixel port 3 (q.txFrame - 1) 0 0 0 []))
          o.session o.pic
      else pxSet s2 port { q with sending := some { o with line := o.line + 1, held := late } }

/-- PX_TX_LINE. -/
def execPxTxLine (port line t : Nat) (s : State) : Result :=
  withUnit (isPixel port) (act s (!asleep s && s.canary.gatedAt.isNone && (pxGet s port).cfg.txOn && !(pxGet s port).fenced) (
    let s1 := atTime s t
    match (pxGet s1 port).sending with
    | some o => if o.line = line && decide (lineTime (pxGet s1 port) o line ≤ s1.now) then nextLineOut s1 port o else s1
    | none => s1))

end Sys2Proof.Machine
end

