-- ==== Sys2Proof/Machine/DecodeSession.lean ====
section
/-! DEFINITION. Decode sessions at work (chapter 6 of the manual): input, decoding of coding units, damage, concealment, taint
and output times. -/

namespace Sys2Proof.Machine

/-! ### DECODE_UNIT_START (R128, R132, R133, R138, R141) -/

/-- Pictures in flight (R128). -/
def inFlightPics (x : Session) : Nat := (x.dec.pics.filter (fun p => !p.ended)).length

/-- Does a picture exceed the configuration's limits (LIMIT of Table 6.1)? -/
def exceedsLimits (c : Bytes) (h : DecHead) : Bool :=
  decide (u16 c 0x04 < h.width) || decide (u16 c 0x06 < h.height) || decide (u8 c 0x02 < h.chroma) || decide (u8 c 0x03 < h.depth)

/-- Does an AV1 frame load CDFs that a damaged frame did not save (R139)? -/
def cdfLost (x : Session) (h : DecHead) : Bool :=
  u8 x.cfg 0 == 3 && (match h.loadsCdf with
    | some q => (match picOf x q with | some p => p.cdfBad | none => true)
    | none => false)

/-- Does decoding go on with this picture: started, at a sync point, or, with START_MODE 0x1, anywhere; out of RESYNC only at a
sync point; RASL pictures of a starting CRA are skipped (R141, R254). -/
def picAccepted (x : Session) (h : DecHead) : Bool :=
  if x.dec.started then !(h.rasl && x.dec.skipRasl)
  else h.sync != 0 || (u8 x.cfg 0x17 == 1 && x.state != .resync)

/-- A picture of which no coding unit is decoded yet. -/
def DecPicture.make (s : State) (x : Session) (id : Nat) (h : DecHead) (shown whole noParams : Bool) : DecPicture :=
  { id := id, head := h, cus := [], planes := greyPlanes h.chroma h.depth h.width h.height, uncommitted := [], rowsDone := [],
    whole := whole, noParams := noParams, cdfBad := false, isRef := true, shown := shown, ended := false, method := 0, flags := 0,
    bits := 0, lostPackets := 0, synErrors := 0,
    ts := [some (toBits 64 (toPtp s h.arrived)), some (ptp64 s), none, none, none], outRows := 0, output := [],
    number := x.dec.outCount, going := 0 }

/-- Begin a picture: the decoder starts or resynchronises, pictures that are no longer referred to leave the stored set (R128,
R141, R254). -/
def beginDecode (s : State) (x : Session) (u : DecCu) : Session :=
  let h := u.head
  let recovery := if x.dec.started then x.dec.recovery - 1 else if h.sync = 2 then h.recovery else 0
  let whole := exceedsLimits x.cfg h || cdfLost x h || u.error == 4
  let p := DecPicture.make s x u.pic h (recovery == 0) whole (cdfLost x h || u.error == 4)
  let y := { x with
    state := if x.state == .resync && h.sync != 0 then .running else x.state
    dec := { x.dec with
      started := true, recovery := recovery, nextPic := u.pic + 1,
      skipRasl := if h.sync = 1 then !x.dec.started else x.dec.skipRasl
      pics := x.dec.pics.map (fun q => { q with isRef := h.keep.contains q.id }) ++ [p] } }
  dropPics y

/-- Place of a coding unit in the order of its tile. -/
def tilePos (h : DecHead) (u : DecCu) (cu : Nat) : Nat := cu / gridW h * u.tileW + (cu % gridW h - u.tileX)

/-- The damaged region of an error: from the first coding unit of the row in the tile to the end of the slice, or of the tile for
AV1 (R133). -/
def damagedRegion (h : DecHead) (u : DecCu) : List Nat :=
  (List.range (gridN h)).filter (fun c =>
    decide (u.tileX ≤ c % gridW h) && decide (c % gridW h < u.tileX + u.tileW)
      && decide (u.cu / gridW h ≤ c / gridW h) && decide (tilePos h u c ≤ tilePos h u u.sliceEnd))

/-- Mark a region damaged. -/
def markDamaged (p : DecPicture) (l : List Nat) (lost syn : Bool) : DecPicture :=
  { p with cus := l.foldl (fun t c => tset t c { tget DecCuState.blank t c with
      damaged := true, tainted := true, lost := lost, syn := syn, bottom := none, centre := none }) p.cus }

/-- Does a coding unit read a reference that is not stored (NO_REF, R138)? -/
def readsMissing (x : Session) (u : DecCu) : Bool :=
  u.reads.any (fun r => r.1 != u.pic && !x.dec.pics.any (fun p => p.id == r.1 && p.isRef))

/-- Does it read a tainted coding unit? -/
def readsTainted (x : Session) (u : DecCu) : Bool :=
  u.reads.any (fun r => match picOf x r.1 with
    | some p => (cuAt p r.2).tainted
    | none => false)

/-- Put a block of samples into a plane. -/
def pasteBlock (p : Plane) (x0 y0 : Nat) (b : Plane) : Plane :=
  p.zipIdx.map fun r =>
    if y0 ≤ r.2 then
      match b[r.2 - y0]? with
      | some row => r.1.zipIdx.map (fun v => if x0 ≤ v.2 then row.getD (v.2 - x0) v.1 else v.1)
      | none => r.1
    else r.1

/-- Put a coding unit's samples into the picture. -/
def pasteUnit (p : DecPicture) (cu : Nat) (b : List Plane) : List Plane :=
  let n := 2 ^ p.head.cuLog2
  let x0 := cu % gridW p.head * n
  let y0 := cu / gridW p.head * n
  p.planes.zipIdx.map fun q =>
    if q.2 = 0 then pasteBlock q.1 x0 y0 (b.getD 0 [])
    else pasteBlock q.1 (x0 / subX p.head.chroma) (y0 / subY p.head.chroma) (b.getD q.2 [])

/-- Decode one coding unit, or meet its error. -/
def decodeUnit (x : Session) (p : DecPicture) (u : DecCu) : DecPicture :=
  if p.whole then p
  else if u.error = 1 ∨ u.error = 2 ∨ u.error = 3 then
    { markDamaged p (damagedRegion p.head u) (u.error == 1) (u.error != 1) with
      synErrors := p.synErrors + (if u.error = 1 then 0 else 1) }
  else
    let subst := readsMissing x u
    let k : DecCuState :=
      { damaged := false, method := 0, lost := false, syn := false, refErr := u.error == 7, subst := subst, age := 0, qp := u.qp,
        tainted := subst || u.error == 7 || u.missingAps || readsTainted x u, intra := u.intra, bottom := u.bottom,
        centre := u.centre }
    { p with cus := tset p.cus u.cu k, planes := pasteUnit p u.cu u.samples, uncommitted := p.uncommitted ++ [(u.core, u.cu)] }

/-- May the core take the coding unit (R128): usable, awake, of a serving cluster, not busy with other work? -/
def decodable (s : State) (x : Session) (u : DecCu) : Bool :=
  let k := coreGet s u.core
  k.fault == .none && !s.foreman.rotating.any (fun r => r.2 == u.core) && (activeCores s (u.core / 7)).contains u.core && x.serving.contains (u.core / 7) && k.sleep == .awake
    && k.work.isNone && u.refsFinal
    && (match k.decoding with
        | none => true
        | some d => d == (u.session, u.pic) || (match sessById s d.1 with
            | some y => (match picOf y d.2 with
                | some p => p.uncommitted.all (fun c => c.1 != u.core)
                | none => true)
            | none => true))

/-- DECODE_UNIT_START. -/
def execDecodeUnitStart (u : DecCu) (s : State) : Result :=
  withUnit (isCore u.core) (act s (!asleep s) (
    let s1 := atTime s u.t
    match sessById s1 u.session with
    | none => s1
    | some x =>
      if !x.decode || !isLive x || !decodable s1 x u then s1
      else
        let fresh := (picOf x u.pic).isNone
        if fresh && !(u.pic == x.dec.nextPic && x.state != .stopping && picAccepted x u.head && decide (inFlightPics x < 4)) then s1
        else
          let y := if fresh then beginDecode s1 x u else x
          match picOf y u.pic with
          | none => s1
          | some p =>
            if p.ended || (tfind p.cus u.cu).isSome || decide (gridN p.head ≤ u.cu) then s1
            else coreSet (sessPut s1 (picPut y (decodeUnit y p u))) u.core
              { coreGet s1 u.core with decoding := some (u.session, u.pic) }))

/-! ### DECODE_ROW_COMMIT (R130) -/

/-- Is a CTU row final: every coding unit decoded or damaged, none waiting for a commit? -/
def rowFinal (p : DecPicture) (row : Nat) : Bool :=
  (List.range (gridW p.head)).all (fun c =>
    (tfind p.cus (row * gridW p.head + c)).isSome && p.uncommitted.all (fun q => q.2 != row * gridW p.head + c))

/-- Commit a core's coding units of a row. -/
def commitDecoded (s : State) (core row : Nat) (p : DecPicture) : DecPicture :=
  let q := { p with uncommitted := p.uncommitted.filter (fun c => !(c.1 == core && c.2 / gridW p.head == row))
                    ts := lset p.ts 2 (some (ptp64 s)) }
  if rowFinal q row && !q.rowsDone.contains row then { q with rowsDone := q.rowsDone ++ [row] } else q

/-- DECODE_ROW_COMMIT. -/
def execDecodeRowCommit (core session pic row t : Nat) (s : State) : Result :=
  withUnit (isCore core) (act s (!asleep s) (
    let s1 := atTime s t
    match sessById s1 session with
    | none => s1
    | some x =>
      match picOf x pic with
      | none => s1
      | some p =>
        if p.ended || p.uncommitted.all (fun c => !(c.1 == core && c.2 / gridW p.head == row)) then s1
        else
          let q := commitDecoded s1 core row p
          let s2 := sessPut s1 (picPut x q)
          if q.uncommitted.all (fun c => c.1 != core) then
            settleRotation (coreSet s2 core { coreGet s2 core with decoding := none }) (core / 7)
          else s2))

/-! ### Concealment (R135, R136) -/

/-- The stored picture nearest in output order before a picture. -/
def tempRef (x : Session) (p : DecPicture) : Option DecPicture :=
  (x.dec.pics.filter (fun q => q.isRef && q.id != p.id && decide (q.head.order < p.head.order))).foldl (fun b q =>
    match b with
    | none => some q
    | some r => if r.head.order < q.head.order then some q else some r) none

/-- The method of a picture (Table 6.2); 0 where nothing is damaged. -/
def chooseMethod (x : Session) (p : DecPicture) : Nat :=
  let c := x.cfg
  let damaged := areaWhere p (·.damaged)
  let share := q16Share damaged (picArea p.head)
  let decoded := areaWhere p (fun k => !k.damaged)
  let spatialOr := if (tempRef x p).isNone then 2 else 1
  if damaged = 0 then 0
  else if p.noParams then 3
  else match u8 c 0x80 with
    | 1 => spatialOr
    | 2 => 2
    | 3 => 3
    | 4 => 3
    | _ =>
      if damaged = picArea p.head ∨ u16 c 0x82 < share then 3
      else if p.head.sync = 1 ∨ p.head.intraOnly ∨ (tempRef x p).isNone then 2
      else if u16 c 0x84 ≤ q16Share (areaWhere p (fun k => !k.damaged && k.intra)) decoded then 2
      else 1

/-- A vector scaled to the reference and rounded to whole luma samples, halves away from zero. -/
def scaleVec (p r : DecPicture) (v : DecVec) : Int × Int :=
  let d := p.head.order - r.head.order
  (roundAway (v.x * d) (v.dist * 16), roundAway (v.y * d) (v.dist * 16))

/-- The vector of a concealed coding unit (R135). -/
def concealVec (p r : DecPicture) (cu : Nat) : Int × Int :=
  let above := if gridW p.head ≤ cu then tfind p.cus (cu - gridW p.head) else none
  match (above.bind (fun k => if k.damaged then none else k.bottom)) with
  | some v => scaleVec p r v
  | none => match (cuAt r cu).centre with
    | some v => scaleVec p r v
    | none => (0, 0)

/-- The block of a component that a vector names in the reference, with edge repetition. -/
def copyBlock (ref : Plane) (x0 y0 w h : Nat) (v : Int × Int) : Plane :=
  (List.range h).map (fun j => (List.range w).map (fun i =>
    sampAt (rowAt ref ((y0 + j : Nat) + v.2)) ((x0 + i : Nat) + v.1)))

/-- Conceal one coding unit by copying. -/
def copyUnit (p r : DecPicture) (planes : List Plane) (cu : Nat) : List Plane :=
  let n := 2 ^ p.head.cuLog2
  let v := concealVec p r cu
  let x0 := cu % gridW p.head * n
  let y0 := cu / gridW p.head * n
  planes.zipIdx.map fun q =>
    let sx := if q.2 = 0 then 1 else subX p.head.chroma
    let sy := if q.2 = 0 then 1 else subY p.head.chroma
    pasteBlock q.1 (x0 / sx) (y0 / sy)
      (copyBlock (r.planes.getD q.2 []) (x0 / sx) (y0 / sy) (n / sx) (n / sy) (Int.tdiv v.1 sx, Int.tdiv v.2 sy))

/-- Fill the damaged runs of one column: `t` is the decoded sample above; `n` bounds the runs. -/
def fillColumn (n bd : Nat) (t : Option Nat) (l : List (Option Nat)) : List Nat :=
  match n with
  | 0 => []
  | k + 1 =>
    match l with
    | [] => []
    | some v :: rest => v :: fillColumn k bd (some v) rest
    | none :: _ =>
      let h := (l.takeWhile (·.isNone)).length
      let rest := l.drop h
      let b := rest.head?.bind id
      let fill := match t, b with
        | some t, some b => (List.range h).map (fun j => ((h - j) * t + (j + 1) * b + (h + 1) / 2) / (h + 1))
        | some t, none => List.replicate h t
        | none, some b => List.replicate h b
        | none, none => List.replicate h (2 ^ (bd - 1))
      fill ++ fillColumn k bd t rest

/-- Spatial concealment of one component. -/
def fillSpatial (p : DecPicture) (comp : Nat) (q : Plane) : Plane :=
  let n := 2 ^ p.head.cuLog2
  let sx := if comp = 0 then 1 else subX p.head.chroma
  let sy := if comp = 0 then 1 else subY p.head.chroma
  let cols := (flipPlane q).zipIdx.map fun c =>
    fillColumn (c.1.length + 1) p.head.depth none
      (c.1.zipIdx.map fun v => if (cuAt p (v.2 * sy / n * gridW p.head + c.2 * sx / n)).damaged then none else some v.1)
  flipPlane cols

/-- The last output picture as samples, for hold. -/
def heldPlanes (x : Session) (p : DecPicture) : List Plane :=
  if x.dec.lastShown.isEmpty then greyPlanes p.head.chroma p.head.depth p.head.width p.head.height else x.dec.lastShown

/-- Samples of a concealed picture. -/
def concealPlanes (x : Session) (p : DecPicture) (m : Nat) : List Plane :=
  if m = 3 then heldPlanes x p
  else if m = 2 then p.planes.zipIdx.map (fun q => fillSpatial p q.2 q.1)
  else match tempRef x p with
    | some r => ((p.cus.filter (fun k => k.2.damaged)).map (·.1)).foldl (copyUnit p r) p.planes
    | none => p.planes

/-! ### DECODE_PICTURE_END (R128, R133, R136 to R139) -/

/-- Everything that never arrived is damaged in full. -/
def damageMissing (p : DecPicture) : DecPicture :=
  markDamaged p ((List.range (gridN p.head)).filter (fun c => (tfind p.cus c).isNone)) (!p.whole) false

/-- Age of a unit's taint, from the ages of the picture decoded before. -/
def ageOf (ages : Tbl Nat) (cu : Nat) : Nat := match tfind ages cu with | some a => min 255 (a + 1) | none => 0

/-- Does a damaged coding unit lie in the tile whose CDFs are saved? -/
def ctxDamaged (p : DecPicture) : Bool :=
  let (x0, w, y0, h) := p.head.ctxTile
  p.cus.any (fun k => k.2.damaged && decide (x0 ≤ k.1 % gridW p.head) && decide (k.1 % gridW p.head < x0 + w)
    && decide (y0 ≤ k.1 / gridW p.head) && decide (k.1 / gridW p.head < y0 + h))

/-- The picture at its end: method, samples, states, flags. -/
def closePicture (x : Session) (p0 : DecPicture) (bits : Nat) (hashBad : Bool) : DecPicture :=
  let p := damageMissing p0
  let m := chooseMethod x p
  let planes := if m = 0 then p.planes else concealPlanes x p m
  let cus := p.cus.map (fun k => (k.1, { k.2 with
    method := m, damaged := k.2.damaged || m == 3, tainted := k.2.tainted || m == 3
    age := if k.2.tainted || m == 3 then ageOf x.dec.ages k.1 else 0 }))
  let q := { p with planes := planes, cus := cus, method := m, ended := true, bits := bits, lostPackets := x.dec.lostSeen,
                    uncommitted := [], cdfBad := u8 x.cfg 0 == 3 && (p.whole || ctxDamaged p) }
  let fl : Nat := (if q.cus.any (·.2.lost) || x.dec.lostSeen != 0 then flLost else 0) + (if p.synErrors = 0 then 0 else flSyntax)
    + (if hashBad && u8 x.cfg 0x89 == 1 then flHash else 0) + (if q.cus.any (·.2.refErr) then flRefError else 0)
    + (if m != 0 && u8 x.cfg 0x80 == 4 then flNotOutput else 0)
  { q with flags := q.flags ||| fl, going := if q.shown then q.going else 2 }

/-- Complete the SUBMIT_BITSTREAM commands whose bytes the decoder has consumed, in order (R131). -/
def consumeInput (n : Nat) (s : State) (fn before consumed : Nat) : List (Nat × Nat × Nat) → State × List (Nat × Nat × Nat)
  | [] => (s, [])
  | p :: l =>
    match n with
    | 0 => (s, p :: l)
    | k + 1 =>
      if before + p.2.2 ≤ consumed then consumeInput k (finish s ⟨fn, p.1, p.2.1⟩ (ok p.2.2)) fn (before + p.2.2) consumed l
      else (s, p :: l)

/-- Bytes of the stream before the oldest buffer that waits. -/
def pendingStart (x : Session) : Nat := x.dec.stream - x.dec.pendingIn.foldl (fun n p => n + p.2.2) 0

/-- Cores that were decoding a picture have finished it. -/
def releaseDecoders (s : State) (id pic : Nat) : State :=
  { s with cores := tmap (fun c => if c.decoding = some (id, pic) then { c with decoding := none } else c) s.cores }

/-- End a picture. -/
def endDecode (s : State) (x : Session) (p : DecPicture) (bits consumed : Nat) (hashBad : Bool) : State :=
  let q := closePicture x p bits hashBad
  let upTo := min x.dec.stream (max x.dec.consumed consumed)
  let (s1, left) := consumeInput 4096 s x.fn (pendingStart x) upTo x.dec.pendingIn
  let y := picPut x q
  let z := dropPics { y with dec := { y.dec with
    consumed := upTo, pendingIn := left, lostSeen := 0
    ages := (q.cus.filter (fun k => k.2.tainted)).map (fun k => (k.1, k.2.age)) } }
  let s2 := releaseDecoders (sessPut s1 z) x.id p.id
  settleStop (match sessById s2 x.id with | some w => settleFlush s2 w | none => s2) x.id

/-- DECODE_PICTURE_END: every part of the picture is decoded and committed, or declared damaged. -/
def execDecodePictureEnd (session pic bits consumed : Nat) (hashBad : Bool) (t : Nat) (s : State) : Result :=
  act s (!asleep s) (
    let s1 := atTime s t
    match sessById s1 session with
    | none => s1
    | some x =>
      match picOf x pic with
      | none => s1
      | some p => if p.ended || !p.uncommitted.isEmpty then s1 else endDecode s1 x p bits consumed hashBad)

/-! ### Input from the network (R131, R132) -/

/-- Sequence number b relative to a, in 16 bits. -/
def seqAhead (a b : Nat) : Int := signed 16 ((b + 65536 - a % 65536) % 65536)

/-- A packet in its place: lost where its tag fails or it is marked BAD, its unit lost where its type is not used, otherwise its
bytes join the stream. -/
def deliverRtp (s : State) (x : Session) (p : RtpPkt) : Session :=
  let lost := p.bad || (u8 x.cfg 0xC3 == 1 && !p.tagOk)
  let d := { x.dec with expected := some ((p.seq + 1) % 65536)
                        srtpRoc := if p.seq = 65535 then x.dec.srtpRoc + 1 else x.dec.srtpRoc }
  if lost then { x with dec := { d with lostPackets := d.lostPackets + 1, lostSeen := d.lostSeen + 1 } }
  else if p.unsupported then { x with dec := { d with unsupported := d.unsupported + 1, lostSeen := d.lostSeen + 1 } }
  else { x with dec := { d with stream := d.stream + p.len, firstAt := some (d.firstAt.getD s.now) } }

/-- Deliver the packets that wait in order; `n` bounds them. -/
def drainRtp (n : Nat) (s : State) (x : Session) : Session :=
  match n with
  | 0 => x
  | k + 1 =>
    match x.dec.reorder.find? (fun p => some p.seq = x.dec.expected) with
    | none => x
    | some p =>
      let y := deliverRtp s { x with dec := { x.dec with reorder := x.dec.reorder.filter (· ≠ p) } } p
      drainRtp k s y

/-- When the packet that follows the open gap arrived. -/
def gapStart (x : Session) : Option Nat :=
  (x.dec.reorder.map (·.t)).foldl (fun b t => some (match b with | none => t | some v => min v t)) none

/-- An RTP packet of the session: in order, ahead of a gap, or too late (discarded). -/
def takeRtp (s : State) (x : Session) (p : RtpPkt) : Session :=
  match x.dec.expected with
  | none => deliverRtp s x p
  | some e =>
    let d := seqAhead e p.seq
    if d < 0 ∨ x.dec.reorder.any (fun q => q.seq == p.seq) then x
    else
      let y := drainRtp (x.dec.reorder.length + 1) s { x with dec := { x.dec with reorder := x.dec.reorder ++ [p] } }
      { y with dec := { y.dec with gapSince := gapStart y } }

/-- TS packets of the video PID: a discontinuity or an error indicator is a loss (Table 6.1). -/
def takeTs (x : Session) : List (Nat × Bool) → Session
  | [] => x
  | (cc, tei) :: l =>
    let broken := tei || (match x.dec.lastCc with | some v => cc != (v + 1) % 16 | none => false)
    let n := if broken then 1 else 0
    takeTs { x with dec := { x.dec with lastCc := some cc, lostPackets := x.dec.lostPackets + n, lostSeen := x.dec.lostSeen + n } } l

/-- RTP_PACKET_RX. -/
def execRtpPacketRx (p : RtpPkt) (s : State) : Result :=
  act s (!asleep s) (
    let s1 := atTime s p.t
    match sessById s1 p.session with
    | none => s1
    | some x =>
      if !x.decode || (x.state != .running && x.state != .resync) || securityStops s1 x then s1
      else if u8 x.cfg 0x14 = 1 then
        if p.pt ≠ u8 x.cfg 0xC1 ∨ (u8 x.cfg 0xC2 = 1 ∧ p.ssrc ≠ u32 x.cfg 0xC4) then
          sessPut s1 { x with dec := { x.dec with foreign := x.dec.foreign + 1 } }
        else sessPut s1 (takeRtp s1 x p)
      else if u8 x.cfg 0x14 = 2 then
        let y := takeTs x p.ts
        sessPut s1 { y with dec := { y.dec with stream := y.dec.stream + p.len, firstAt := some (y.dec.firstAt.getD s1.now) } }
      else s1)

/-- The nearest packet behind the open gap. -/
def nextBehind (x : Session) (e : Nat) : Option RtpPkt :=
  x.dec.reorder.foldl (fun b p => match b with
    | none => some p
    | some q => if seqAhead e p.seq < seqAhead e q.seq then some p else some q) none

/-- REORDER_TIMEOUT: the gap is lost, and the packets behind it follow. -/
def execReorderTimeout (session t : Nat) (s : State) : Result :=
  act s (!asleep s) (
    let s1 := atTime s t
    match sessById s1 session with
    | none => s1
    | some x =>
      match x.dec.gapSince, x.dec.expected with
      | some g, some e =>
        if g + u32 x.cfg 0xCC * 1000 ≤ s1.now then
          match nextBehind x e with
          | none => s1
          | some p =>
            let lost := (seqAhead e p.seq).toNat
            let y := drainRtp (x.dec.reorder.length + 1) s1 { x with dec := { x.dec with
              expected := some p.seq, lostPackets := x.dec.lostPackets + lost, lostSeen := x.dec.lostSeen + lost } }
            sessPut s1 { y with dec := { y.dec with gapSince := gapStart y } }
        else s1
      | _, _ => s1)

/-! ### DECODE_OUTPUT_START (R140, R142, R144, R145) -/

/-- The PTP time of an RTP timestamp: the 90 kHz media clock is aligned to the PTP epoch, and the timestamp is the one nearest
to now. -/
def mediaTime (s : State) (stamp : Nat) : Int :=
  let ticks := ptpTime s * 90000 / 1000000000
  let d := signed 32 (toBits 32 ((stamp : Int) - ticks))
  (ticks + d) * 1000000000 / 90000

/-- PTS difference in ns, in 33 bits. -/
def ptsAfter (a b : Nat) : Nat := (b + 2 ^ 33 - a % 2 ^ 33) % 2 ^ 33 * 1000000000 / 90000

/-- Frame period of an output in ns: the stream's signalled rate, otherwise MAX_RATE (R145). -/
def outPeriod (c : Bytes) (h : DecHead) : Frac :=
  if h.rateNum = 0 then ⟨u32 c 0x0C * 1000000000, max 1 (u32 c 0x08)⟩ else ⟨h.rateDen * 1000000000, h.rateNum⟩

/-- Output time of the next picture, in PTP time (R145). -/
def outputDue (s : State) (x : Session) (p : DecPicture) : Int :=
  let delay : Int := u32 x.cfg 0x98 * 1000
  let first : Int := toPtp s (x.dec.firstAt.getD 0)
  match u8 x.cfg 0x14 with
  | 1 => mediaTime s p.head.stamp + delay
  | 2 => match x.dec.firstPts with
    | some (pts, at_) => toPtp s at_ + delay + ptsAfter pts p.head.stamp
    | none => toPtp s p.head.arrived + delay
  | _ => first + delay + x.dec.outCount * (outPeriod x.cfg p.head).num / max 1 (outPeriod x.cfg p.head).den

/-- Does the session send to a pixel port, and does it write to memory (Table 6.5)? -/
def sinksToPort (c : Bytes) : Bool := u8 c 0x15 != 0
def sinksToMemory (c : Bytes) : Bool := u8 c 0x15 != 1

/-- Is it time for the picture: at the port its output time, in memory its last row; a memory source waits for a buffer (R144). -/
def outputReady (s : State) (x : Session) (p : DecPicture) : Bool :=
  p.going == 0 && p.shown
    && (if sinksToPort x.cfg then decide (outputDue s x p ≤ ptpTime s) else p.ended)
    && (!sinksToMemory x.cfg || u8 x.cfg 0x14 != 0 || bitOf p.flags 15 || !x.dec.buffers.isEmpty)

/-- The picture as it goes out: its number, what has been reconfigured, taint, hold and lateness (R140, R255). -/
def outPicture (x : Session) (p : DecPicture) (changed : Bool) : DecPicture :=
  let n := x.dec.outCount
  let tainted := p.cus.any (·.2.tainted)
  let held := tainted && u8 x.cfg 0x81 == 1 && decide (u16 x.cfg 0x86 < q16Share (areaWhere p (·.tainted)) (picArea p.head))
  let fl := (if tainted then flTainted else 0) + (if held then flHeld else 0) + (if p.ended then 0 else flLate)
    + (if changed then flReconfigured else 0)
  let out := if held then lastOutPlanes x p.head else outputPlanes x.cfg n p.head p.planes
  { p with number := n, flags := p.flags ||| fl ||| (if layoutHolds x.cfg p.head then 0 else flNotOutput), output := out,
           outRows := if p.ended || held then outH x.cfg p.head else p.outRows, going := 1 }

/-- REFRESH_WANTED on the first tainted picture after a clean one (R140). -/
def refreshWanted (s : State) (x : Session) (p : DecPicture) : State × Session :=
  let tainted := bitOf p.flags 12
  let y := { x with dec := { x.dec with wantLatch := tainted } }
  if tainted && !x.dec.wantLatch && u8 x.cfg 0x88 == 1 then (logSession s y 0x0202 0 0xFF (some (p.number % 2 ^ 32)) (some 0), y) else (s, y)

/-- The pixel port's view of a picture. -/
def sendingOf (s : State) (x : Session) (p : DecPicture) : PxSending :=
  let c := x.cfg
  let q := pxGet s (u8 c 0x16)
  let kind := if u8 c 0x48 = 3 ∨ u8 c 0x48 = 4 then 1 else if u8 c 0x48 = 0 ∧ p.head.rgb then 1 else 0
  { session := x.id, pic := p.id, startAt := s.now, period := outPeriod c p.head, line := 0, held := false
    fmt := { width := outW c p.head, height := outH c p.head,
             totalLines := if q.cfg.txTotal = 0 then outH c p.head else q.cfg.txTotal, layout := u8 c 0x40,
             chroma := outChroma c p.head, depth := outDepth c p.head, kind := kind, sourceTime := ptp64 s } }

/-- A picture that is still going out when the next one starts ends there. -/
def closeSending (s : State) (port : Nat) : State :=
  match (pxGet s port).sending with
  | some o => finishOutput (pxSet s port { pxGet s port with sending := none }) o.session o.pic
  | none => s

/-- The output of a picture starts. -/
def startOutput (s : State) (x0 : Session) (p0 : DecPicture) : State :=
  let n := x0.dec.outCount
  let changed := x0.pendingCfg.any (fun c => c.1 = n)
  let x1 := { x0 with cfg := cfgAt x0 n, pendingCfg := x0.pendingCfg.filter (fun c => decide (n < c.1)) }
  let p := outPicture x1 p0 changed
  let bare := bitOf p.flags 15
  let q := { p with ts := if bare then p.ts else lset p.ts 3 (some (ptp64 s)) }
  let x2 := picPut x1 q
  let x3 := { x2 with dec := { x2.dec with outCount := n + 1,
                                           firstPts := some (x2.dec.firstPts.getD (p.head.stamp, p.head.arrived)) } }
  let (s1, x4) := refreshWanted s x3 q
  let s2 := sessPut s1 x4
  let port := u8 x4.cfg 0x16
  if sinksToPort x4.cfg && !bare && (pxGet s2 port).cfg.txOn && !(pxGet s2 port).fenced then
    pxStartOutput (closeSending s2 port) port (sendingOf s2 x4 q)
  else finishOutput s2 x4.id q.id

/-- DECODE_OUTPUT_START. -/
def execDecodeOutputStart (session pic t : Nat) (s : State) : Result :=
  act s (!asleep s) (
    let s1 := atTime s t
    match sessById s1 session with
    | none => s1
    | some x =>
      if !x.decode then s1
      else match picOf x pic with
        | none => s1
        | some p => if outputReady s1 x p then startOutput s1 x p else s1)

end Sys2Proof.Machine
end

