-- ==== Sys2Proof/Machine/Tables.lean ====
section
/-! DEFINITION. Flow tables, prefixes and learning (R333 to R352). -/

namespace Sys2Proof.Machine

/-! ### Parts of the table state -/

/-- Change the tables. -/
def tabSet (s : State) (x : TableState) : State := { s with tables := x }

/-- Counter places of Table 17.4 in their order, from 0. -/
def tcFlowHits : Nat := 0
def tcL2Hits : Nat := 1
def tcL2Floods : Nat := 2
def tcRouteMisses : Nat := 3
def tcTtlExpired : Nat := 4
def tcLimitHits : Nat := 6
def tcMoves : Nat := 7
def tcFlaps : Nat := 8
def tcStatic : Nat := 9
def tcLearnDrops : Nat := 10
def tcTableFull : Nat := 11

/-- Count in a port's 64-bit counter (R352). -/
def countTab (x : TableState) (port k : Nat) : TableState :=
  { x with counters := tset x.counters (port * 16 + k) ((tget 0 x.counters (port * 16 + k) + 1) % 2 ^ 64) }

/-- Learning parameters of a port. -/
def learnPort (x : TableState) (p : Nat) : LearnPort := tget LearnPort.default x.ports p

/-- PTP seconds and milliseconds mod 65,536. -/
def ptpSec16 (s : State) : Nat := toBits 16 (ptpTime s / 1000000000)
def ptpMs16 (s : State) : Nat := toBits 16 (ptpTime s / 1000000)

/-! ### The Exact Match Table (R336 to R340) -/

/-- The two hash functions (R337). -/
def emtHash (h : Nat) (key : Bytes) : Nat := (if h = 0 then crc32c key else crc32 key) % 16384

/-- First slot of the bucket of a key in a hash. -/
def emtBucket (h : Nat) (key : Bytes) : Nat := h * 65536 + emtHash h key * 4

/-- Occupants of a bucket, in way order. -/
def bucketOf (t : Tbl EmtEntry) (b : Nat) : List (Nat × EmtEntry) :=
  [b, b + 1, b + 2, b + 3].filterMap (fun k => (tfind t k).map (fun e => (k, e)))

/-- Is a slot free: no entry starts there and none of an IPv6 pair ends there? -/
def slotFree (t : Tbl EmtEntry) (k : Nat) : Bool :=
  (tfind t k).isNone && (k % 2 == 0 || (match tfind t (k - 1) with | some e => e.typ != 3 | none => true))

/-- First free place in a bucket for an entry of a type: a slot, or an aligned pair for IPv6 (R338). -/
def freePlace (t : Tbl EmtEntry) (b typ : Nat) : Option Nat :=
  if typ = 3 then [b, b + 2].find? (fun k => slotFree t k && slotFree t (k + 1))
  else [b, b + 1, b + 2, b + 3].find? (slotFree t)

/-- The entry of a key: both buckets are compared (R337). -/
def emtFind (t : Tbl EmtEntry) (key : Bytes) : Option (Nat × EmtEntry) :=
  (bucketOf t (emtBucket 0 key) ++ bucketOf t (emtBucket 1 key)).find? (fun p => p.2.key = key)

/-- The other bucket of an occupant of bucket `b`. -/
def otherBucket (b : Nat) (e : EmtEntry) : Nat := emtBucket (if b / 65536 = 0 then 1 else 0) e.key

/-- Occupants that leave room for an entry of type `need` when they move, with their other buckets. -/
def movable (t : Tbl EmtEntry) (b need : Nat) : List (Nat × EmtEntry × Nat) :=
  ((bucketOf t b).filter (fun p => (freePlace (tdel t p.1) b need).isSome)).map (fun p => (p.1, p.2, otherBucket b p.2))

/-- Breadth-first search for a relocation path (R338): a node is a bucket, the type that needs room in it and the moves that
lead there, last first; `fuel` counts the buckets examined. -/
def relocate (t : Tbl EmtEntry) (fuel : Nat) (seen : List Nat) (queue : List (Nat × Nat × List (Nat × Nat))) :
    Option (List (Nat × Nat)) :=
  match fuel with
  | 0 => none
  | n + 1 =>
    match queue with
    | [] => none
    | (b, need, path) :: rest =>
      let l := movable t b need
      match l.find? (fun o => (freePlace t o.2.2 o.2.1.typ).isSome) with
      | some o => some ((o.1, o.2.2) :: path)
      | none =>
        if 8 ≤ path.length + 1 then relocate t n seen rest
        else
          let next := (l.filter (fun o => !seen.contains o.2.2)).map (fun o => (o.2.2, o.2.1.typ, (o.1, o.2.2) :: path))
          relocate t n (seen ++ next.map (·.1)) (rest ++ next)

/-- Carry out the moves of a path, from its far end. -/
def moveEntries (t : Tbl EmtEntry) : List (Nat × Nat) → Tbl EmtEntry
  | [] => t
  | (k, b) :: l =>
    match tfind t k with
    | none => moveEntries t l
    | some e =>
      match freePlace t b e.typ with
      | none => moveEntries t l
      | some p => moveEntries (tset (tdel t k) p e) l

/-- First bucket of a path's end: the bucket in which the new entry goes. -/
def lastBucket (l : List (Nat × Nat)) (d : Nat) : Nat := match l.getLast? with | some m => m.1 / 4 * 4 | none => d

/-- Insert an entry (R338): the moves made and the new table; none when no path exists (R340). -/
def emtInsert (t : Tbl EmtEntry) (e : EmtEntry) : Option (Nat × Tbl EmtEntry) :=
  let b0 := emtBucket 0 e.key
  let b1 := emtBucket 1 e.key
  match emtFind t e.key with
  | some p => some (0, tset t p.1 e)
  | none =>
    match freePlace t b0 e.typ, freePlace t b1 e.typ with
    | some k, _ => some (0, tset t k e)
    | none, some k => some (0, tset t k e)
    | none, none =>
      match relocate t 512 [b0, b1] [(b0, e.typ, []), (b1, e.typ, [])] with
      | none => none
      | some path =>
        let t1 := moveEntries t path
        (freePlace t1 (lastBucket path b0) e.typ).map (fun k => (path.length, tset t1 k e))

/-- Learned entries on a port (R347). -/
def learnedOn (x : TableState) (p : Nat) : Nat :=
  (x.emt.filter (fun q => !q.2.static && q.2.result.port = p)).length

/-! ### Slots as bytes (Table 17.1) -/

/-- Key of an L2 entry. -/
def l2Key (fid mac : Nat) : Bytes := [1, 0] ++ le 2 fid ++ be 6 mac ++ zeros 10

/-- Key of a flow entry. -/
def flowKey (ip fid : Nat) (src dst : Bytes) (sp dp ssrc : Nat) : Bytes :=
  if ip = 4 then [2, 17] ++ le 2 fid ++ padTo 4 (src.take 4) ++ padTo 4 (dst.take 4) ++ be 2 sp ++ be 2 dp ++ be 4 ssrc
  else [3, 17] ++ le 2 fid ++ padTo 16 (src.take 16) ++ padTo 16 (dst.take 16) ++ be 2 sp ++ be 2 dp ++ be 4 ssrc

/-- HEAD with STATIC, and SECOND for the second slot of a pair. -/
def slotHead (e : EmtEntry) (second : Bool) : Byte :=
  BitVec.ofNat 8 (e.typ + (if second then 4 else 0) + (if e.static then 8 else 0))

/-- The first slot of an entry. -/
def slotFirst (e : EmtEntry) : Bytes :=
  [slotHead e false] ++ slice e.key 1 19 ++ le 1 e.result.destKind ++ le 1 e.result.port ++ le 2 e.result.group
    ++ le 4 e.result.flow ++ le 2 e.ageStamp ++ le 2 e.moveStamp

/-- The second slot of an IPv6 entry. -/
def slotSecond (e : EmtEntry) : Bytes := [slotHead e true, 0] ++ slice e.key 2 2 ++ slice e.key 20 24 ++ zeros 4

/-- The 32 bytes of a slot. -/
def slotBytes (t : Tbl EmtEntry) (k : Nat) : Bytes :=
  match tfind t k with
  | some e => slotFirst e
  | none =>
    match (if k % 2 = 1 then tfind t (k - 1) else none) with
    | some e => if e.typ = 3 then slotSecond e else zeros 32
    | none => zeros 32

/-- Key of an entry given as slots (R337). -/
def keyOfSlots (d : Bytes) : Bytes :=
  [BitVec.ofNat 8 (u8 d 0 % 4)] ++ slice d 1 19 ++ (if u8 d 0 % 4 = 3 then slice d 36 24 else [])

/-- Rules of HEAD and the key fields (R351). -/
def keyRules (d : Bytes) : List (Bool × Nat) :=
  let typ := u8 d 0 % 4
  [(typ != 0 && !bitOf (u8 d 0) 2 && decide (u8 d 0 < 16), 0), (typ != 1 || u8 d 1 == 0, 1), (inRange (u16 d 2) 1 4094, 2),
   (typ != 1 || allZero d 10 10, 10)]
  ++ (if typ = 3 then [(u8 d 32 % 8 == 7 && decide (u8 d 32 < 16), 32), (u8 d 33 == 0, 33)] else [])

/-- DATA_LEN is 32, or 64 for IPv6 (R351). -/
def lenRule (e d : Bytes) : List (Bool × Nat) := [(cmdDataLen e == (if u8 d 0 % 4 = 3 then 64 else 32), 0x10)]

/-- Rules of a result (R312, R335). -/
def resultRules (kind port group : Nat) (off : Nat) : List (Bool × Nat) :=
  [(decide (kind ≤ 4), off), (kind != 0 || isPort port, off + 1), (kind != 1 || decide (group < 4096), off + 2)]

/-- The result fields of slots. -/
def resultOf (d : Bytes) : EmtResult := ⟨u8 d 0x14, u8 d 0x15, u16 d 0x16, u32 d 0x18⟩

/-! ### Table commands (R351) -/

/-- TABLE_INSERT. -/
def execTableInsert (r : CmdRef) (data : Bytes) (s : State) : Result :=
  serve s r 0x58 (fun s e =>
      let d := readData s r.fn e data
      orElse (fieldCheck (lenRule e d ++ [(decide (u8 e 24 ≤ 1), 24)]))
        (orElse (dataCheck (keyRules d ++ resultRules (u8 d 0x14) (u8 d 0x15) (u16 d 0x16) 0x14))
          (match emtFind s.tables.emt (keyOfSlots d) with
            | some p => if p.2.static && u8 e 24 % 2 == 0 then some (failWith stBusy) else none
            | none => none)))
    (fun s e =>
      let d := readData s r.fn e data
      let x : EmtEntry := { typ := u8 d 0 % 4, static := true, key := keyOfSlots d, result := resultOf d, ageStamp := 0, moveStamp := 0 }
      match emtInsert s.tables.emt x with
      | some (n, t) => configured (tabSet s { s.tables with emt := t }) r n
      | none => finish s r (failWith stTableFull))

/-- TABLE_DELETE. -/
def execTableDelete (r : CmdRef) (data : Bytes) (s : State) : Result :=
  serve s r 0x59 (fun s e =>
      let d := readData s r.fn e data
      orElse (fieldCheck (lenRule e d)) (dataCheck (keyRules d)))
    (fun s e =>
      match emtFind s.tables.emt (keyOfSlots (readData s r.fn e data)) with
      | some p => configured (tabSet s { s.tables with emt := tdel s.tables.emt p.1 }) r 1
      | none => succeed s r 0)

/-- TABLE_READ: slots beyond the table are not written. -/
def execTableRead (r : CmdRef) (s : State) : Result :=
  serve s r 0x5A (fun _ e => fieldCheck [(decide (u32 e 24 < 131072), 24), (inRange (u32 e 28) 1 4096, 28),
      (decide (32 * u32 e 28 ≤ cmdDataLen e), 0x10)]) (fun s e =>
    let n := min (u32 e 28) (131072 - u32 e 24)
    succeed (writeData s r.fn e ((List.range n).flatMap (fun i => slotBytes s.tables.emt (u32 e 24 + i)))) r n)

/-- Does a scope of TABLE_FLUSH take an entry: learned, and on PORT or in FID? -/
def flushes (e : Bytes) (x : EmtEntry) : Bool :=
  !x.static && (u8 e 24 == 0 || (u8 e 24 == 1 && x.result.port == u8 e 25) || (u8 e 24 == 2 && u16 x.key 2 == u16 e 26))

/-- TABLE_FLUSH. -/
def execTableFlush (r : CmdRef) (s : State) : Result :=
  serve s r 0x5B (fun _ e => fieldCheck [(decide (u8 e 24 ≤ 2), 24), (u8 e 24 != 1 || isPort (u8 e 25), 25),
      (u8 e 24 != 2 || inRange (u16 e 26) 1 4094, 26)]) (fun s e =>
    let kept := s.tables.emt.filter (fun p => !flushes e p.2)
    configured (tabSet s { s.tables with emt := kept }) r (s.tables.emt.length - kept.length))

/-- Rules of FAMILY, LENGTH (R341). -/
def routeRules (e : Bytes) : List (Bool × Nat) :=
  [(u8 e 24 == 4 || u8 e 24 == 6, 24), (decide (u8 e 25 ≤ (if u8 e 24 = 4 then 32 else 64)), 25)]

/-- The prefix of a route command: its first LENGTH bits. -/
def routePfx (e : Bytes) : Nat :=
  if u8 e 24 = 4 then ube e 32 4 / 2 ^ (32 - u8 e 25) else ube e 32 8 / 2 ^ (64 - u8 e 25)

/-- Does a route hold the prefix of a command? -/
def sameRoute (e : Bytes) (x : Route) : Bool := x.family == u8 e 24 && x.length == u8 e 25 && x.pfx == routePfx e

/-- Units of the Prefix Trie in use: 1 for an IPv4 and 4 for an IPv6 prefix (R341). -/
def trieUnits (l : List Route) : Nat := l.foldl (fun n x => n + (if x.family = 4 then 1 else 4)) 0

/-- ROUTE_ADD: a present prefix gets a new next hop (R342). -/
def execRouteAdd (r : CmdRef) (s : State) : Result :=
  serve s r 0x5C (fun _ e => fieldCheck (routeRules e ++ [(decide (u16 e 26 < 4096), 26)])) (fun s e =>
    let l := s.tables.routes
    if l.any (sameRoute e) then
      configured (tabSet s { s.tables with routes := l.map (fun x => if sameRoute e x then { x with nextHop := u16 e 26 } else x) }) r 0
    else if 32768 < trieUnits l + (if u8 e 24 = 4 then 1 else 4) then finish s r (failWith stTableFull)
    else configured (tabSet s { s.tables with routes := l ++ [⟨u8 e 24, u8 e 25, routePfx e, u16 e 26⟩] }) r 0)

/-- ROUTE_DELETE. -/
def execRouteDelete (r : CmdRef) (s : State) : Result :=
  serve s r 0x5D (fun _ e => fieldCheck (routeRules e)) (fun s e =>
    if s.tables.routes.any (sameRoute e) then
      configured (tabSet s { s.tables with routes := s.tables.routes.filter (fun x => !sameRoute e x) }) r 1
    else succeed s r 0)

/-- SET_NEXT_HOP (R343). -/
def execSetNextHop (r : CmdRef) (s : State) : Result :=
  serve s r 0x5E (fun _ e => fieldCheck ([(decide (u16 e 24 < 4096), 24)] ++ resultRules (u8 e 26) (u8 e 27) (u16 e 28) 26))
    (fun s e => configured (tabSet s { s.tables with
      hops := tset s.tables.hops (u16 e 24) ⟨u8 e 26, u8 e 27, u16 e 28, u16 e 30, u32 e 32, ube e 36 6⟩ }) r 0)

/-- Rules of SET_LEARN. -/
def learnRules (e : Bytes) : List (Bool × Nat) :=
  if u8 e 24 = 0xFF then [(inRange (u32 e 28) 1 65535, 28), (decide (u16 e 32 ≤ 60000), 32)]
  else [(isEth (u8 e 24), 24), (decide (u8 e 25 < 64), 25), (inRange (u16 e 26) 1 4094, 26), (decide (u32 e 28 ≤ 131071), 28),
        (inRange (u16 e 32) 1 1000, 32)]

/-- SET_LEARN: CLEAR_FLAP clears the port's flag. -/
def execSetLearn (r : CmdRef) (s : State) : Result :=
  serve s r 0x5F (fun _ e => fieldCheck (learnRules e)) (fun s e =>
    let x := s.tables
    if u8 e 24 = 0xFF then
      configured (tabSet s { x with agingS := u32 e 28, dampMs := u16 e 32, routerMac := ube e 34 6 }) r 0
    else
      let p := learnPort x (u8 e 24)
      let q := { p with flags := u8 e 25 % 32, pvid := u16 e 26, limit := u32 e 28, flapLimit := u16 e 32,
                        flapping := p.flapping && !bitOf (u8 e 25) 5 }
      configured (tabSet s { x with ports := tset x.ports (u8 e 24) q }) r 0)

/-- SET_GROUP (R344): only ports 0 to 49 are valid. -/
def execSetGroup (r : CmdRef) (data : Bytes) (s : State) : Result :=
  serve s r 0x65 (fun s e => orElse (fieldCheck [(inRange (u16 e 24) 1 4095, 24), (decide (16 ≤ cmdDataLen e), 0x10)])
      (dataCheck [(decide (u64 (readData s r.fn e data) 0 < 2 ^ 50), 0)]))
    (fun s e =>
      let d := readData s r.fn e data
      configured (tabSet s { s.tables with
        groups := tset s.tables.groups (u16 e 24) ⟨BitVec.ofNat 64 (u64 d 0), BitVec.ofNat 64 (u64 d 8)⟩ }) r 0)

/-- Slots of an entry. -/
def slotsOf (e : EmtEntry) : Nat := if e.typ = 3 then 2 else 1

/-- Slots that the entries of a test occupy (R352). -/
def slotsWhere (x : TableState) (f : EmtEntry → Bool) : Nat := x.emt.foldl (fun n p => if f p.2 then n + slotsOf p.2 else n) 0

/-- QUERY_TABLES. -/
def execQueryTables (r : CmdRef) (s : State) : Result :=
  serve s r 0x66 (fun _ e => fieldCheck [(decide (32 ≤ cmdDataLen e), 0x10)]) (fun s e =>
    let x := s.tables
    let flags := (List.range 16).foldl (fun n p => if (learnPort x p).flapping then n + 2 ^ p else n) 0
    succeed (writeData s r.fn e (le 4 (slotsWhere x (fun _ => true)) ++ le 4 (slotsWhere x (·.static))
      ++ le 4 (slotsWhere x (fun k => !k.static)) ++ le 4 (trieUnits x.routes) ++ le 2 x.requests.length ++ le 2 flags ++ zeros 12)) r 0)

/-! ### Lookups (R333, R335, R341 to R344) -/

/-- Longest prefix that matches an address (R333): its next hop. -/
def routeFind (l : List Route) (family : Nat) (addr : Bytes) : Option Nat :=
  let w := if family = 4 then 32 else 64
  let a := ube addr 0 (w / 8)
  ((l.filter (fun x => x.family = family && a / 2 ^ (w - x.length) == x.pfx)).foldl (fun b x => match b with
    | none => some x
    | some y => if y.length < x.length then some x else some y) (none : Option Route)).map (·.nextHop)

/-- The FID of a frame (R333): VID 0 and untagged frames take the port's PVID. -/
def frameFid (x : TableState) (h : EthHead) : Nat :=
  match h.vlan with
  | some v => if v = 0 then (learnPort x h.port).pvid else v
  | none => (learnPort x h.port).pvid

/-- A multicast or broadcast MAC address. -/
def macGroup (m : Nat) : Bool := bitOf m 40

/-- SSRC of the flow key (R333). -/
def flowSsrc (x : TableState) (h : EthHead) : Nat :=
  if bitOf (learnPort x h.port).flags 4 && decide (12 ≤ h.udpData.length) && u8 h.udpData 0 / 64 == 2 then ube h.udpData 8 4 else 0

/-- Put a learn request in the queue of 1,024; refreshes stop at 768 (R345, R346). -/
def learnRequest (x : TableState) (q : LearnReq) : TableState :=
  if q.kind = 1 then (if 768 < x.requests.length then x else { x with requests := x.requests ++ [q] })
  else if 1024 ≤ x.requests.length then countTab x q.port tcLearnDrops
  else { x with requests := x.requests ++ [q] }

/-- The source step (R333, R346, R347): the tables, and false when EXCESS_FLOOD = 0 drops the frame. -/
def sourceStep (s : State) (x : TableState) (h : EthHead) (fid : Nat) : Bool × TableState :=
  let p := learnPort x h.port
  let stopped := p.flapping && bitOf p.flags 2
  if !bitOf p.flags 0 || macGroup h.srcMac then (true, x)
  else match emtFind x.emt (l2Key fid h.srcMac) with
    | none =>
      if p.limit ≤ learnedOn x h.port then (bitOf p.flags 1, countTab x h.port tcLimitHits)
      else (true, if stopped then x else learnRequest x ⟨0, h.port, fid, h.srcMac⟩)
    | some (_, e) =>
      if e.static then (true, if e.result.destKind == 0 && e.result.port == h.port then x else countTab x h.port tcStatic)
      else if e.result.port = h.port then (true, if e.ageStamp = ptpSec16 s then x else learnRequest x ⟨1, h.port, fid, h.srcMac⟩)
      else (true, if stopped then x else learnRequest x ⟨2, h.port, fid, h.srcMac⟩)

/-- The outcome of the lookups: a verdict (0 = forward), the result, the next hop of a routed frame. -/
structure Looked where
  verdict : Nat
  result  : EmtResult
  hop     : Option NextHop
deriving DecidableEq, Repr

/-- A drop. -/
def Looked.drop (v : Nat) : Looked := ⟨v, ⟨3, 0, 0, 0xFFFFFFFF⟩, none⟩

/-- The route step: a miss drops with verdict 0x5, a TTL of 1 or less goes to the Foreman, an unset next hop drops. -/
def routeStep (x : TableState) (h : EthHead) : Looked × TableState :=
  match routeFind x.routes h.ip h.dstIp with
  | none => (Looked.drop 5, countTab x h.port tcRouteMisses)
  | some i =>
    if h.ttl ≤ 1 then (⟨0, ⟨4, 0, 0, 0xFFFFFFFF⟩, none⟩, countTab x h.port tcTtlExpired)
    else match tfind x.hops i with
      | none => (Looked.drop 5, x)
      | some n => (⟨if n.destKind = 3 then 0xA else 0, ⟨n.destKind, n.port, n.group, n.flow⟩, some n⟩, x)

/-- The L2 step: the entry of the destination, or the flood group of the FID. -/
def l2Step (x : TableState) (h : EthHead) (fid : Nat) : Looked × TableState :=
  match emtFind x.emt (l2Key fid h.dstMac) with
  | some (_, e) => (⟨if e.result.destKind = 3 then 0xA else 0, e.result, none⟩, countTab x h.port tcL2Hits)
  | none => (⟨0, ⟨2, 0, fid, 0xFFFFFFFF⟩, none⟩, countTab x h.port tcL2Floods)

/-- Steps 3 to 5 of R333. -/
def destStep (x : TableState) (h : EthHead) (fid : Nat) : Looked × TableState :=
  let hit := if bitOf (learnPort x h.port).flags 3 && !h.frag && (h.ip == 4 || h.ip == 6) && h.proto == 17 then
      emtFind x.emt (flowKey h.ip fid h.srcIp h.dstIp h.srcPort h.dstPort (flowSsrc x h))
    else none
  match hit with
  | some (_, e) => (⟨if e.result.destKind = 3 then 0xA else 0, e.result, none⟩, countTab x h.port tcFlowHits)
  | none => if (h.ip == 4 || h.ip == 6) && h.dstMac == x.routerMac then routeStep x h else l2Step x h fid

/-- The lookups of a frame (R333). -/
def lookup (s : State) (h : EthHead) : Looked × State :=
  let x := s.tables
  if h.vlan = some 4095 then (Looked.drop 0xA, s)
  else
    let fid := frameFid x h
    let (go, x1) := sourceStep s x h fid
    if go then
      let (l, x2) := destStep x1 h fid
      -- the flood group of a FID is the group of the same number (R344)
      let l1 := if l.result.destKind = 2 then { l with result := { l.result with group := fid } } else l
      (l1, tabSet s x2)
    else (Looked.drop 0xA, tabSet s x1)

/-- A group (R344): group 0 is empty and fixed. -/
def groupGet (x : TableState) (g : Nat) : GroupEntry := if g = 0 then ⟨0, 0⟩ else tget (GroupEntry.atReset g) x.groups g

/-- Members of a group: ports, then host sub-ports. -/
def groupMembers (x : TableState) (g : Nat) : List (Nat × Nat) :=
  let e := groupGet x g
  ((List.range 50).filter (fun p => p != 16 && e.ports.getLsbD p)).map (fun p => (p, 0xFF))
    ++ (if e.ports.getLsbD 16 then [(16, 0)] else [])
    ++ ((List.range 64).filter (fun n => e.subs.getLsbD n && !(n == 0 && e.ports.getLsbD 16))).map (fun n => (16, n))

/-- Ports and sub-ports of a result (R335). -/
def destsOf (x : TableState) (r : EmtResult) : List (Nat × Nat) :=
  match r.destKind with
  | 0 => [(r.port, if r.port = 16 then r.group % 64 else 0xFF)]
  | 1 => groupMembers x r.group
  | 2 => groupMembers x r.group
  | 4 => [(17, 0xFF)]
  | _ => []

/-! ### The Learn Engine (R345 to R349) -/

/-- A learned entry. -/
def learnedEntry (s : State) (q : LearnReq) : EmtEntry :=
  { typ := 1, static := false, key := l2Key q.fid q.mac, result := ⟨0, q.port, 0, 0xFFFFFFFF⟩,
    ageStamp := ptpSec16 s, moveStamp := ptpMs16 s }

/-- A new address: at LEARN_LIMIT it is discarded, without a place it is counted (R340, R347). -/
def learnNew (s : State) (q : LearnReq) : State :=
  let x := s.tables
  if (learnPort x q.port).limit ≤ learnedOn x q.port then tabSet s (countTab x q.port tcLimitHits)
  else match emtInsert x.emt (learnedEntry s q) with
    | some (_, t) => tabSet s { x with emt := t }
    | none => tabSet s (countTab x q.port tcTableFull)

/-- A flap of a port: FLAP_LIMIT of them in one whole second of PTP time flag it and post one record (R348). -/
def countFlap (s : State) (port : Nat) : State :=
  let x := countTab s.tables port tcFlaps
  let p := learnPort x port
  let sec := ptpTime s / 1000000000
  let n := if p.flapSecond = sec then p.flapCount + 1 else 1
  let q := { p with flapSecond := sec, flapCount := n, lastFlap := s.now, flapping := p.flapping || decide (p.flapLimit ≤ n) }
  let s1 := tabSet s { x with ports := tset x.ports port q }
  if !p.flapping && p.flapLimit ≤ n then logEvent s1 0x0402 7 0xFF none none else s1

/-- A request on an address that another port holds: accepted after MOVE_DAMP_MS and below LEARN_LIMIT, otherwise refused; a
refusal for damping is a flap (R348). -/
def moveEntry (s : State) (q : LearnReq) (k : Nat) (e : EmtEntry) : State :=
  let x := s.tables
  let gone := (ptpMs16 s + 65536 - e.moveStamp) % 65536
  if gone < x.dampMs then countFlap s q.port
  else if (learnPort x q.port).limit ≤ learnedOn x q.port then s
  else tabSet s (countTab { x with emt := tset x.emt k { e with
    result := { e.result with port := q.port }, ageStamp := ptpSec16 s, moveStamp := ptpMs16 s } } q.port tcMoves)

/-- Judge a request against the table as it stands (R345). -/
def judge (s : State) (q : LearnReq) : State :=
  match emtFind s.tables.emt (l2Key q.fid q.mac) with
  | none => learnNew s q
  | some (k, e) =>
    if e.static then s
    else if e.result.port = q.port then tabSet s { s.tables with emt := tset s.tables.emt k { e with ageStamp := ptpSec16 s } }
    else moveEntry s q k e

/-- Take the oldest request if it is this one (R345). -/
def takeRequest (s : State) (q : LearnReq) : Option State :=
  match s.tables.requests with
  | [] => none
  | p :: l => if p = q then some (tabSet s { s.tables with requests := l }) else none

/-- LEARN. -/
def execLearn (port fid mac t : Nat) (s : State) : Result :=
  withUnit (isEth port) (act s (!asleep s) (
    match takeRequest (atTime s t) ⟨0, port, fid, mac⟩ with
    | some s1 => judge s1 ⟨0, port, fid, mac⟩
    | none => s))

/-- REFRESH: processed after a removal it is a learn (R349). -/
def execRefresh (port fid mac t : Nat) (s : State) : Result :=
  withUnit (isEth port) (act s (!asleep s) (
    match takeRequest (atTime s t) ⟨1, port, fid, mac⟩ with
    | some s1 => judge s1 ⟨1, port, fid, mac⟩
    | none => s))

/-- MOVE. -/
def execMove (port fid mac t : Nat) (s : State) : Result :=
  withUnit (isEth port) (act s (!asleep s) (
    match takeRequest (atTime s t) ⟨2, port, fid, mac⟩ with
    | some s1 => judge s1 ⟨2, port, fid, mac⟩
    | none => s))

/-- Is a learned entry's age at least AGING_S (R349)? -/
def aged (s : State) (e : EmtEntry) : Bool :=
  !e.static && decide (s.tables.agingS ≤ (ptpSec16 s + 65536 - e.ageStamp) % 65536)

/-- AGING_SWEEP. -/
def execAgingSweep (t : Nat) (s : State) : Result :=
  act s (!asleep s) (
    let s1 := atTime s t
    tabSet s1 { s1.tables with emt := s1.tables.emt.filter (fun p => !aged s1 p.2) })

/-- FLAP_CLEAR (R348): 60 s without a flap. -/
def execFlapClear (port t : Nat) (s : State) : Result :=
  withUnit (isEth port) (act s (!asleep s) (
    let s1 := atTime s t
    let p := learnPort s1.tables port
    if p.flapping && decide (p.lastFlap + 60000000000 ≤ s1.now) then
      tabSet s1 { s1.tables with ports := tset s1.tables.ports port { p with flapping := false } }
    else s1))

end Sys2Proof.Machine
end

