-- ==== Sys2Proof/Machine/Shaping.lean ====
section
/-! DEFINITION. What the Traffic Manager computes for a packet: flow records, meters, gates, shapers and the ST 2022-7 merge
(R364 to R367, R371, R373, R374). -/

namespace Sys2Proof.Machine

/-! ### Flow records (R364, R365, Table 18.5) -/

/-- A flow record. -/
def flowGet (s : State) (f : Nat) : FlowRecord := tget FlowRecord.atReset s.net.flows f
def flowSet (s : State) (f : Nat) (x : FlowRecord) : State := { s with net := { s.net with flows := tset s.net.flows f x } }

/-- A flow that counts as one: up to 16,383, with a KIND other than 0x0 (R364). -/
def flowReal (s : State) (f : Nat) : Bool := decide (f ≤ 16383) && u8 (flowGet s f).raw 0 != 0

/-- Count in a flow (R376): 0 PACKETS, 1 BYTES, 2 LEG_A_USED, 3 LEG_B_USED, 4 MERGE_LOST, 5 MERGE_LATE, 6 MERGE_RESYNC. -/
def countFlow (s : State) (f k n : Nat) : State :=
  let x := flowGet s f
  flowSet s f { x with counters := tset x.counters k ((tget 0 x.counters k + n) % 2 ^ 64) }

/-! ### Meters (R366; RFC 2697, RFC 2698) -/

/-- A meter; its buckets hold 1/8,000,000 byte, so that 1 kb/s adds one unit each nanosecond. -/
def meterGet (s : State) (m : Nat) : Meter := tget Meter.atReset s.net.meters m
def meterPut (s : State) (m : Nat) (x : Meter) : State := { s with net := { s.net with meters := tset s.net.meters m x } }

/-- Bucket units of a byte. -/
def unitsPerByte : Nat := 8000000

/-- Refill both buckets: in srTCM what the first cannot hold goes to the second. -/
def refillMeter (m : Meter) (now : Nat) : Meter :=
  let dt := now - m.at_
  let c := m.tc + m.cir * dt
  let tc := min (m.cbs * unitsPerByte) c
  let tp := if m.mode % 2 = 1 then m.tp + m.pir * dt else m.tp + (c - tc)
  { m with tc := tc, tp := min (m.pbs * unitsPerByte) tp, at_ := now }

/-- Colour of a packet, 0 green, 1 yellow, 2 red, and the buckets after it.  `yellow` is the incoming colour. -/
def meterColour (m : Meter) (len : Nat) (yellow : Bool) : Nat × Meter :=
  let b := len * unitsPerByte
  let y := yellow && m.mode / 2 % 2 = 1
  if m.mode % 2 = 1 then
    if m.tp < b then (2, m)
    else if y || decide (m.tc < b) then (1, { m with tp := m.tp - b })
    else (0, { m with tp := m.tp - b, tc := m.tc - b })
  else if !y && decide (b ≤ m.tc) then (0, { m with tc := m.tc - b })
  else if b ≤ m.tp then (1, { m with tp := m.tp - b })
  else (2, m)

/-- Judge a packet once (R366). -/
def meterPacket (s : State) (k len : Nat) (yellow : Bool) : Nat × State :=
  let (c, m) := meterColour (refillMeter (meterGet s k) s.now) len yellow
  (c, meterPut s k (match c with
    | 0 => { m with green := m.green + 1 }
    | 1 => { m with yellow := m.yellow + 1 }
    | _ => { m with red := m.red + 1 }))

/-! ### Gates (R373, R374) -/

/-- Entries as (mask, start, end) in the cycle: cut at the cycle's end, the last extended to it. -/
def gateTimes (cycle at0 : Nat) : List (Nat × Nat) → List (Nat × Nat × Nat)
  | [] => []
  | [(m, _)] => if at0 < cycle then [(m, at0, cycle)] else []
  | (m, n) :: l => if cycle ≤ at0 then [] else (m, at0, min cycle (at0 + n)) :: gateTimes cycle (at0 + n) l

/-- The windows of a list. -/
def gateWindows (g : GateList) : List (Nat × Nat × Nat) := gateTimes g.cycle 0 g.entries

/-- PTP time of a moment as the gates and shapers of a port take it: a step counts from the port's next gate cycle boundary
on (R362). -/
def portTime (s : State) (p t : Nat) : Int := toPtp s t + (ethGet s p).gateShift

/-- Place in the cycle. -/
def gatePos (s : State) (p : Nat) (g : GateList) : Nat :=
  ((portTime s p s.now - (g.base : Int)) % (max 1 g.cycle : Nat)).toNat

/-- Length of the run of windows, from the front, in which a class is open. -/
def openRun (c : Nat) : List (Nat × Nat × Nat) → Nat
  | [] => 0
  | (m, a, b) :: l => if bitOf m c then (b - a) + openRun c l else 0

/-- An unlimited window. -/
def gateForever : Nat := 2 ^ 64

/-- The windows from number `i` on, around the cycle. -/
def windowsFrom (g : GateList) (i : Nat) : List (Nat × Nat × Nat) := (gateWindows g).drop i ++ (gateWindows g).take i

/-- How long the gate of a class stays open from now; none when it is closed. -/
def gateLeft (s : State) (p c : Nat) : Option Nat :=
  match (ethGet s p).gates with
  | none => some gateForever
  | some g =>
    let ws := windowsFrom g (ethGet s p).gateIdx
    match ws with
    | [] => some gateForever
    | (m, a, _) :: _ =>
      if !bitOf m c then none
      else if ws.all (fun w => bitOf w.1 c) then some gateForever
      else some (openRun c ws - (gatePos s p g - a))

/-- Longest open window of a class in the cycle. -/
def gateLongest (g : GateList) (c : Nat) : Nat :=
  let ws := gateWindows g
  if ws.all (fun w => bitOf w.1 c) then gateForever
  else (List.range ws.length).foldl (fun n i => max n (openRun c (windowsFrom g i))) 0

/-- Time on the wire times the speed in Mb/s: the frame, preamble and gap, and the MACsec overhead of a protected port. -/
def wireBits (s : State) (p len : Nat) : Nat := (len + 20 + (if (ethGet s p).macsec.sas.isEmpty then 0 else 32)) * 8 * 1000

/-- Does a frame fit in a time on a port (R374)? -/
def fitsIn (s : State) (p len ns : Nat) : Bool := decide (wireBits s p len ≤ ns * ethSpeed s p)

/-- Is a frame too long for every window of its class (R374)? -/
def gateOversize (s : State) (p c len : Nat) : Bool :=
  match (ethGet s p).gates with
  | none => false
  | some g => !fitsIn s p len (gateLongest g c)

/-! ### Shapers (R371) -/

/-- A subscriber and a queue. -/
def subGet (s : State) (n : Nat) : Subscriber := tget (Subscriber.atReset n) s.net.subs n
def subSet (s : State) (n : Nat) (x : Subscriber) : State := { s with net := { s.net with subs := tset s.net.subs n x } }
def queueGet (s : State) (q : Nat) : EgressQueue := tget (EgressQueue.atReset q) s.net.queues q
def queueSet (s : State) (q : Nat) (x : EgressQueue) : State := { s with net := { s.net with queues := tset s.net.queues q x } }

/-- Default queues belong to an unshaped subscriber of their class (R369). -/
def unshaped (n : Nat) : Bool := decide (n < 128)

/-- Active time of type N up to PTP time `t`, times RATE_NUM × TOTAL_LINES: the active part of each frame period starts at TRO
after the frame epoch and covers ACTIVE_LINES of TOTAL_LINES. -/
def activeTime (x : Subscriber) (t : Int) : Int :=
  let period : Int := (1000000000 * x.rateDen * x.total : Nat)
  let active : Int := (1000000000 * x.rateDen * x.active : Nat)
  let u : Int := (t - (x.tro : Int)) * (x.rateNum * x.total : Nat)
  u / period * active + min (u % period) active

/-- Token units that accrue between two times. -/
def accrued (s : State) (x : Subscriber) : Nat :=
  if x.typ = 1 then
    let d := activeTime x (portTime s x.port s.now) - activeTime x (portTime s x.port x.at_)
    x.rate * d.toNat / max 1 (x.active * x.rateNum)
  else x.rate * (s.now - x.at_)

/-- A subscriber with its tokens brought up to now; BURST bounds them. -/
def refillSub (s : State) (x : Subscriber) : Subscriber :=
  { x with tokens := min (x.burst * unitsPerByte) (x.tokens + accrued s x), at_ := s.now }

/-- May a packet of the subscriber start (R371)? -/
def shaperFree (s : State) (n len : Nat) : Bool := unshaped n || decide (len * unitsPerByte ≤ (refillSub s (subGet s n)).tokens)

/-- A packet of the subscriber starts: its length leaves the bucket and its tag is V; the last packet takes the tokens along. -/
def shaperSend (s : State) (n len tag : Nat) (last : Bool) : State :=
  let x := refillSub s (subGet s n)
  subSet s n { x with tokens := if last then 0 else x.tokens - len * unitsPerByte, vtime := tag }

/-! ### ST 2022-7 merge (R367) -/

/-- Merge state of a flow. -/
def MergeState.start : MergeState :=
  { expected := none, held := [], lastA := 0, lastB := 0, downA := false, downB := false, lost := [] }
def mergeGet (s : State) (f : Nat) : MergeState := tget MergeState.start s.net.merges f
def mergeSet (s : State) (f : Nat) (m : MergeState) : State := { s with net := { s.net with merges := tset s.net.merges f m } }

/-- Leg A of a flow: the flow itself when it names a leg B, or the flow that names it as leg B. -/
def legA (s : State) (f : Nat) : Option (Nat × Bool) :=
  if flowReal s f && u16 (flowGet s f).raw 0xA != 0xFFFF then some (f, false)
  else (s.net.flows.find? (fun p => u8 p.2.raw 0 != 0 && u16 p.2.raw 0xA == f)).map (fun p => (p.1, true))

/-- Distance of 32-bit sequence numbers. -/
def seqDist (a b : Nat) : Nat := (a + 2 ^ 32 - b) % 2 ^ 32
def seqBefore (a b : Nat) : Bool := decide (2 ^ 31 ≤ seqDist a b)

/-- A 16-bit number extended to the 32-bit number nearest the expected one. -/
def extend16 (expected : Option Nat) (n : Nat) : Nat :=
  match expected with
  | none => n
  | some x =>
    let d := (n + 65536 - x % 65536) % 65536
    if d < 32768 then (x + d) % 2 ^ 32 else (x + 2 ^ 32 - (65536 - d)) % 2 ^ 32

/-- The merge key of a packet: extended and RTP sequence number of ST 2110-20, otherwise the RTP sequence number extended. -/
def mergeKey (s : State) (a : Nat) (udp : Bytes) : Nat :=
  if u8 (flowGet s a).raw 0xC = 1 then ube udp 12 2 * 65536 + ube udp 2 2
  else extend16 (mergeGet s a).expected (ube udp 2 2)

/-- MERGE_SKEW_US in ns. -/
def skewNs (s : State) (a : Nat) : Nat := u32 (flowGet s a).raw 0x10 * 1000

/-- Smallest held number, counted from the expected one. -/
def nextHeld (m : MergeState) : Option (Nat × Nat) :=
  match m.expected with
  | none => none
  | some x => m.held.foldl (fun b h => match b with
      | none => some h
      | some c => if seqDist h.1 x < seqDist c.1 x then some h else some c) none

/-- Was a number declared lost? -/
def wasLost (m : MergeState) (n : Nat) : Bool := m.lost.any (fun r => decide (seqDist n r.1 < r.2))

end Sys2Proof.Machine
end

