-- ==== Sys2Proof/Machine/Switch.lean ====
section
/-! DEFINITION. The Essence Switch and the Pantry (R312 to R332), the MACsec check of received and sent frames (R357 to R359) and
the egress scheduler (R369 to R374). -/

namespace Sys2Proof.Machine

/-! ### Counters -/

def swSet (s : State) (x : SwitchState) : State := { s with sw := x }

/-- Counter places of Table 16.10, from 0. -/
def scCut : Nat := 0
def scStomped : Nat := 1
def scBad : Nat := 2
def scFcs : Nat := 3
def scOversize : Nat := 4
def scMc : Nat := 5
def scTail : Nat := 6
def scEarly : Nat := 7
def scPool : Nat := 10
def scMem : Nat := 11
def scCapture : Nat := 12

/-- Count in a switch port (R332). -/
def countPort (s : State) (p k : Nat) : State :=
  swSet s { s.sw with counters := tset s.sw.counters (p * 16 + k) ((tget 0 s.sw.counters (p * 16 + k) + 1) % 2 ^ 64) }

/-- Count in an Ethernet port (Table 18.10): 0 RX_FRAMES, 1 RX_BYTES, 2 TX_FRAMES, 3 TX_BYTES, 6 PFC_RX_XOFF, 7 PFC_TX_XOFF,
8 MACSEC_UNTAGGED, 9 MACSEC_ICV_FAIL, 10 MACSEC_REPLAY, 11 MACSEC_TX_STOP, 12 PTP_RX, 13 PTP_TX, 14 GATE_OVERSIZE. -/
def countEth (s : State) (p k n : Nat) : State :=
  let x := ethGet s p
  ethSet s p { x with counters := tset x.counters k ((tget 0 x.counters k + n) % 2 ^ 64) }

/-- Speed class of a switch port in Mb/s (Table 16.1). -/
def portSpeed (s : State) (p : Nat) : Nat :=
  if p < 16 then ethSpeed s p else if p = 16 then 512000 else if p = 17 then 8000 else if p < 46 then 614400
  else pxLanes s (p - 46) * 25000

/-! ### Mirroring and capture (R323 to R325) -/

/-- Does a rule match? -/
def ruleMatches (m : MirrorRule) (dir port flow verdict : Nat) : Bool :=
  m.enable && bitOf m.direction dir && (m.port == 0xFF || m.port == port) && (m.flow == 0xFFFFFFFF || m.flow == flow)
    && bitOf m.verdicts verdict

/-- Count a match of every rule, and say whether one of them records it (SAMPLE = n records every nth match). -/
def countRules (s : State) (dir port flow verdict : Nat) : Bool × State :=
  let hits := s.sw.rules.filter (fun r => ruleMatches r.2 dir port flow verdict)
  (hits.any (fun r => (r.2.matched + 1) % max 1 r.2.sample == 0),
   swSet s { s.sw with rules := tmap (fun m => if ruleMatches m dir port flow verdict then { m with matched := m.matched + 1 } else m) s.sw.rules })

/-- The 192 bytes of a record (Table 16.3). -/
def captureBytes (time : Int) (port flags verdict colour flow len queue sub seq : Nat) (head : Bytes) : Bytes :=
  le 8 (toBits 64 time) ++ le 1 port ++ le 1 flags ++ le 1 verdict ++ le 1 colour ++ le 4 flow ++ le 4 len ++ le 2 queue
    ++ le 1 sub ++ le 1 (min 160 head.length) ++ le 4 seq ++ zeros 4 ++ padTo 160 (head.take 160)

/-- CONSUMED, as host software left it in the ring header. -/
def captureConsumed (s : State) : Nat := ule (memRead s.hbm.mem (grantAddr s 0 (s.sw.capture.base + 8)) 8) 0 8

/-- Write a record, or drop it when the ring is full or the rate of 19.2 GB/s, one record in 10 ns, is exceeded (R325). -/
def writeCapture (s : State) (rec : Nat → Bytes) : State :=
  let c := s.sw.capture
  let consumed := if c.produced - c.consumed < c.depth then c.consumed else captureConsumed s
  let fast := match c.lastAt with | some t => decide (s.now < t + 10) | none => false
  let c1 := { c with recordSeq := (c.recordSeq + 1) % 2 ^ 32, consumed := consumed }
  if fast || decide (c.depth ≤ c.produced - consumed) then
    hostWrite (swSet s { s.sw with capture := { c1 with dropped := c.dropped + 1 } }) 0 true (c.base + 0x10) (le 8 (c.dropped + 1))
  else
    let s1 := swSet s { s.sw with capture := { c1 with produced := c.produced + 1, lastAt := some s.now } }
    let s2 := hostWrite s1 0 true (c.base + 64 + 192 * (c.produced % max 1 c.depth)) (rec c.recordSeq)
    hostWrite s2 0 true c.base (le 8 (c.produced + 1))

/-- Record a packet in one direction (0 ingress, 1 egress) if a rule asks for it. -/
def capture (s : State) (dir port verdict queue sub : Nat) (cut : Bool) (time : Int) (head : Bytes) (b : Buffer) : State :=
  let (hit, s1) := countRules s dir port b.flow verdict
  if hit && s1.sw.capture.enable then
    countPort (writeCapture s1 (fun n => captureBytes time port (dir + (if cut then 2 else 0) + (if b.multicast then 4 else 0))
      verdict b.colour b.flow b.len queue sub n head)) port scCapture
  else s1

/-- The ingress record of a packet. -/
def captureIn (s : State) (verdict : Nat) (cut : Bool) (b : Buffer) : State :=
  capture s 0 b.inPort verdict 0xFFFF 0xFF cut (toPtp s b.arrived) b.head b

/-! ### The Pantry (R326 to R330) -/

/-- Bytes of a size code (R326). -/
def bufBytes : Nat → Nat
  | 0 => 256 | 1 => 512 | 2 => 1024 | 3 => 2048 | 4 => 4096 | 5 => 10240 | 6 => 16384 | 7 => 32768 | _ => 65536

def poolAt (s : State) (k : Nat) : Pool := s.sw.pools.getD k (Pool.make 0 false 0 0 0 0 0 1)
def poolPut (s : State) (k : Nat) (p : Pool) : State := swSet s { s.sw with pools := lset s.sw.pools k p }

/-- Free buffers: in cache and ring together (R327). -/
def poolFreeCount (p : Pool) : Nat := p.freeList + p.cache

/-- Smallest pool whose buffers hold a packet (R313). -/
def poolFor (s : State) (len : Nat) : Option Nat :=
  (List.range 8).find? (fun k => (poolAt s k).count != 0 && decide (len ≤ bufBytes (poolAt s k).size))

/-- Is a threshold in force: reached, or entered before and not yet left by more than HYST (R328)? -/
def inForce (p : Pool) (k thr : Nat) : Bool :=
  decide (poolFreeCount p ≤ (if k ≤ p.level then thr + p.hyst else thr))

/-- The level of a pool (QUERY_POOLS): 0 none, 1 Notice, 2 Backpressure, 3 Critical. -/
def poolLevel (p : Pool) : Nat :=
  if p.count = 0 then 0 else if inForce p 3 p.critical then 3 else if inForce p 2 p.backpressure then 2
  else if inForce p 1 p.notice then 1 else 0

/-- XOFF (or XON, 0 quanta) for the priorities in PFC_MASK on every Ethernet port with PFC enabled (R328); the quanta of an
XOFF are not stated (log entry 10). -/
def sendPfc (s : State) (mask : Nat) (xoff : Bool) : State :=
  let (q, s0) := if xoff then draw s 65536 else (0, s)
  (List.range 16).foldl (fun s p =>
    if bitOf (ethGet s p).cfg.flags 0 && (ethGet s p).up then
      (List.range 8).foldl (fun s k =>
        if bitOf mask k then countEth (emit s (.pause p k q)) p 7 (if xoff then 1 else 0) else s) s
    else s) s0

/-- Bring a pool's level up to date, with the actions of Table 16.6. -/
def settlePool (s : State) (k : Nat) : State :=
  let p := poolAt s k
  let n := poolLevel p
  let s1 := poolPut s k { p with level := n, minFree := min p.minFree (poolFreeCount p),
                                 noticeCount := p.noticeCount + (if p.level = 0 ∧ n ≠ 0 then 1 else 0) }
  let s2 := if p.level < 2 ∧ 2 ≤ n then sendPfc s1 p.pfcMask true else if 2 ≤ p.level ∧ n < 2 then sendPfc s1 p.pfcMask false else s1
  if p.level < 3 ∧ n = 3 then logEvent s2 0x0401 7 0xFF none none else s2

/-- A refill or write-back of the pointer cache is needed (R327). -/
def needsRefill (p : Pool) : Bool := (decide (p.cache < 32) && p.freeList != 0) || decide (96 < p.cache)

/-- Take a free buffer: 0 GRANT, 1 REFUSED, 2 EMPTY (R327, R328).  The round-robin pointer moves past the requester (R330). -/
def allocate (s : State) (k requester colour : Nat) : Nat × State :=
  let p := poolAt s k
  if (colour = 2 ∧ 2 ≤ p.level) ∨ (colour = 1 ∧ p.level = 3) then (1, poolPut s k { p with refused := p.refused + 1 })
  else if p.cache = 0 then (2, poolPut s k { p with empties := p.empties + 1, refill := needsRefill p })
  else
    let q := { p with cache := p.cache - 1, rrPtr := (requester + 1) % 256 }
    (0, settlePool (poolPut s k { q with refill := needsRefill q }) k)

/-- Return a buffer: scrubbed, read back, and free again or RETIRED (R318). -/
def giveBack (s : State) (id : Nat) (b : Buffer) (readback : Bool) : State :=
  let p := poolAt s b.pool
  if readback then
    let q := { p with cache := p.cache + 1 }
    settlePool (poolPut (swSet s { s.sw with buffers := tdel s.sw.buffers id }) b.pool { q with refill := needsRefill q }) b.pool
  else
    poolPut (swSet s { s.sw with buffers := tset s.sw.buffers id { b with state := .retired, refs := 0, sending := [] } }) b.pool
      { p with retired := p.retired + 1 }

/-- Put a packet in a new buffer: state FILLING, owned by its input (R329). -/
def fillBuffer (s : State) (k : Nat) (b : Buffer) (owner : Nat) : Nat × State :=
  let id := s.sw.nextBuf * 8 + k
  (id, swSet s { s.sw with nextBuf := s.sw.nextBuf + 1,
                           buffers := tset s.sw.buffers id { b with pool := k, state := .filling, owner := owner, refs := 0, sending := [] } })

def bufGet (s : State) (id : Nat) : Option Buffer := tfind s.sw.buffers id
def bufPut (s : State) (id : Nat) (b : Buffer) : State := swSet s { s.sw with buffers := tset s.sw.buffers id b }

/-- A copy leaves the count; at 0 the switch frees the buffer (R319). -/
def leaveCount (s : State) (id : Nat) (readback : Bool) : State :=
  match bufGet s id with
  | none => s
  | some b => if b.refs ≤ 1 then giveBack s id b readback else bufPut s id { b with refs := b.refs - 1 }

/-- A free by a requester that is not the owner, or of a buffer that is free or retired: rejected, counted, class 0 (R329). -/
def badFree (s : State) (id : Nat) (double : Bool) : State :=
  let p := poolAt s (id % 8)
  let s1 := poolPut s (id % 8) (if double then { p with doubles := p.doubles + 1 } else { p with foreign := p.foreign + 1 })
  (collect s1 34 0 0 none).2

/-- A free request (R329): a FILLING buffer by its input, when it aborts a packet. -/
def freeRequest (s : State) (id requester : Nat) (readback : Bool) : State :=
  match bufGet s id with
  | none => badFree s id true
  | some b =>
    match b.state with
    | .retired => badFree s id true
    | .free => badFree s id true
    | .filling => if b.owner = requester then giveBack s id b readback else badFree s id false
    | .queued => badFree s id false

/-! ### Queues (R319 to R322, R369, R370) -/

/-- Egress queue of a packet on a port: the flow's QUEUE on the port that it belongs to, otherwise the default of CLASS (R365). -/
def queueFor (s : State) (p cls flow : Nat) : Nat :=
  let q := u16 (flowGet s flow).raw 8
  if flowReal s flow && decide (q < 4096) && (queueGet s q).port == p then q else p * 8 + cls

/-- A drop profile; profile 0 is tail drop at the queue's own limit (R321). -/
def profileOf (s : State) (q : EgressQueue) : DropProfile :=
  if q.profile = 0 then { DropProfile.tailOnly with tail := q.limit } else tget DropProfile.default s.sw.profiles q.profile

/-- One step of avg, in 1/256 byte (R322). -/
def avgStep (a q w : Nat) : Nat := ((a : Int) + ((q : Int) * 256 - (a : Int)) / (2 ^ w : Nat)).toNat

def curveOf (p : DropProfile) (colour : Nat) : DropCurve :=
  match colour with | 0 => p.green | 1 => p.yellow | _ => p.red

/-- Judge a copy at a queue (R321): the verdict, and the state with the new avg. -/
def judgeCopy (s : State) (n colour len : Nat) : Nat × State :=
  let q := queueGet s n
  let p := profileOf s q
  let a := avgStep (tget 0 s.sw.avg n) q.bytes p.weight
  let s1 := swSet s { s.sw with avg := tset s.sw.avg n a }
  let c := curveOf p colour
  if p.tail < q.bytes + len then (1, s1)
  else if q.profile = 0 then (0, s1)
  else if c.hi * 256 ≤ a then (2, s1)
  else if c.lo * 256 ≤ a ∧ c.p ≠ 0 then
    let (v, s2) := draw s1 65536
    (if v * (c.hi - c.lo) < c.p * (a - c.lo * 256) then 2 else 0, s2)
  else (0, s1)

/-- Put a copy in a queue with its finish tag (R370). -/
def putCopy (s : State) (n id sub len : Nat) (cut : Bool) : State :=
  let q := queueGet s n
  let v := (subGet s q.sub).vtime
  let tag := max v (q.lastTag.getD 0) + cdiv (len * 4096) (max 1 q.weight)
  queueSet s n { q with copies := q.copies ++ [⟨id, n, sub, tag, cut⟩], bytes := q.bytes + len, lastTag := some tag,
                        enqueued := q.enqueued + 1, highWater := max q.highWater (q.bytes + len) }

/-- May a copy go to the port at all: it uses packet memory, its link is up, the sub-port has a queue group (R312)? -/
def reachable (s : State) (p sub : Nat) : Bool :=
  if p < 16 then (ethGet s p).up else if p = 16 then Config.queueGroup sub else decide (p < 46)

/-- Verdict of a copy at its output. -/
def outVerdict (s : State) (p sub n : Nat) (b : Buffer) : Nat × State :=
  if !reachable s p sub then (5, s)
  else if decide (p < 16) && gateOversize s p b.cls b.len then (1, countEth s p 14 1)
  else judgeCopy s n b.colour b.len

/-- Count a refused copy (R320, Table 16.10). -/
def countRefused (s : State) (p v : Nat) (b : Buffer) : State :=
  let s1 := if b.multicast then countPort s p scMc else s
  match v with
  | 1 => countPort s1 p scTail
  | 2 => countPort s1 p (scEarly + min 2 b.colour)
  | _ => s1

/-- Decide one copy: true when it is enqueued. -/
def decideCopy (s : State) (id : Nat) (b : Buffer) (cuts : List (Nat × Nat)) (d : Nat × Nat) : Bool × State :=
  let n := queueFor s d.1 b.cls b.flow
  let (v, s1) := outVerdict s d.1 d.2 n b
  if v = 0 then (true, putCopy s1 n id d.2 b.len (cuts.contains d))
  else (false, capture (countRefused s1 d.1 v b) 1 d.1 v n d.2 false (ptpTime s) b.head b)

/-- Decide all copies of a packet at one moment: QUEUED with the count of copies enqueued, or freed at once (R319). -/
def decideCopies (s : State) (id : Nat) (b : Buffer) (cuts : List (Nat × Nat)) : State :=
  let (n, s1) := b.dests.foldl (fun a d =>
    let (okay, t) := decideCopy a.2 id b cuts d
    (a.1 + (if okay then 1 else 0), t)) (0, s)
  match bufGet s1 id with
  | none => s1
  | some c => if n = 0 then giveBack s1 id c true else bufPut s1 id { c with state := .queued, owner := 0x40, refs := n }

/-- Drop the waiting copies that a test picks, as by a queue flush or a port going down (R319, R320). -/
def dropCopies (s : State) (p : Nat → EgressQueue → Copy → Bool) (readback : Bool) : State :=
  s.net.queues.foldl (fun s e =>
    let q := queueGet s e.1
    let gone := q.copies.filter (p e.1 q)
    let lens := gone.foldl (fun n c => n + ((bufGet s c.buffer).map (·.len)).getD 0) 0
    let kept := q.copies.filter (fun c => !p e.1 q c)
    let s1 := queueSet s e.1 { q with copies := kept, bytes := q.bytes - lens, lastTag := if kept.isEmpty then none else q.lastTag }
    gone.foldl (fun s c =>
      let s2 := if ((bufGet s c.buffer).map (·.multicast)).getD false then countPort s q.port scMc else s
      leaveCount s2 c.buffer readback) s1) s

/-- An Ethernet port's link goes down: copies queued to it, and the one in transmission, leave the count (R319, R404). -/
def portDown (s : State) (p : Nat) : State :=
  let s1 := match (ethGet s p).sending with
    | some id => leaveCount s id true
    | none => s
  ethDown (dropCopies s1 (fun _ q _ => q.port == p) true) p

/-! ### Ingress (R313, R314, R364) -/

/-- A packet dropped at ingress. -/
def dropIn (s : State) (v : Nat) (b : Buffer) : State :=
  let s1 := match v with
    | 3 => countPort s b.inPort scPool
    | 6 => countPort s b.inPort scOversize
    | 7 => countPort s b.inPort scFcs
    | _ => s
  captureIn s1 v false b

/-- Hold a packet until its input's next try (R330). -/
def holdPacket (s : State) (b : Buffer) : State := swSet s { s.sw with waiting := s.sw.waiting ++ [(b, s.now)] }

/-- Give a whole packet its buffer and decide its copies; an internal port waits under backpressure (R328). -/
def placePacket (s : State) (b : Buffer) : State :=
  match poolFor s b.len with
  | none => dropIn s 6 b
  | some k =>
    if decide (16 ≤ b.inPort) && decide (2 ≤ (poolAt s k).level) then holdPacket s b
    else
      let (a, s1) := allocate s k b.inPort b.colour
      match a with
      | 0 =>
        let (id, s2) := fillBuffer s1 k b b.inPort
        decideCopies (captureIn s2 0 false b) id b []
      | 1 => if b.inPort < 16 then dropIn s1 3 b else holdPacket s1 b
      | _ => holdPacket s1 b

/-- Meter a packet (R366): its colour; packets of the H9's own packetisers pass no meter and are green. -/
def colourPacket (s : State) (b : Buffer) : Nat × State :=
  let f := (flowGet s b.flow).raw
  if b.generated || !flowReal s b.flow || decide (8191 < u16 f 2) then (0, s) else meterPacket s (u16 f 2) b.len (b.colour == 1)

/-- A red packet of a flow whose RED_ACTION drops it. -/
def redDrop (s : State) (b : Buffer) (colour : Nat) : Bool := colour == 2 && u8 (flowGet s b.flow).raw 0xD == 0

/-- The packet after its merge: flow counters, meter, buffer, copies. -/
def deliver (s : State) (b : Buffer) : State :=
  let s1 := if flowReal s b.flow then countFlow (countFlow s b.flow 0 1) b.flow 1 b.len else s
  let (c, s2) := colourPacket s1 b
  let b1 := { b with colour := c }
  if redDrop s2 b c then dropIn s2 4 b1
  else if b1.dests.isEmpty then dropIn s2 5 b1
  else placePacket s2 b1

/-! ### The merge (R367, R368) -/

/-- Smallest HBM pool whose buffers fit a packet (R368). -/
def mergePool (s : State) (len : Nat) : Option Nat :=
  (List.range 8).find? (fun k => (poolAt s k).inHbm && (poolAt s k).count != 0 && decide (len ≤ bufBytes (poolAt s k).size))

/-- Free the buffer of a held packet and hand the packet on. -/
def releaseHeld (s : State) (id : Nat) : State :=
  match bufGet s id with
  | none => s
  | some b => deliver (giveBack s id b true) b

/-- Release every held packet with a consecutive number; `n` bounds them. -/
def releaseRun (n : Nat) (s : State) (a : Nat) : State :=
  match n with
  | 0 => s
  | k + 1 =>
    let m := mergeGet s a
    match m.expected, nextHeld m with
    | some x, some h =>
      if h.1 = x then
        releaseRun k (releaseHeld (mergeSet s a { m with expected := some ((x + 1) % 2 ^ 32), held := m.held.filter (fun e => e.1 ≠ x) }) h.2) a
      else s
    | _, _ => s

/-- Declare the numbers before the smallest held one lost, and go on with it (R367 step 4). -/
def declareLost (s : State) (a : Nat) : State :=
  let m := mergeGet s a
  match m.expected, nextHeld m with
  | some x, some h =>
    let n := seqDist h.1 x
    releaseRun (m.held.length + 1) (mergeSet (countFlow s a 4 n) a
      { m with expected := some h.1, lost := ((x, n) :: m.lost).filter (fun r => decide (seqDist h.1 r.1 < 2 ^ 20 + r.2)) }) a
  | _, _ => s

/-- While a leg is down a missing number is declared lost at once. -/
def settleMerge (s : State) (a : Nat) : State :=
  let m := mergeGet s a
  if (m.downA || m.downB) && !m.held.isEmpty then declareLost s a else s

/-- Release the packet with the expected number, and those that follow it. -/
def mergeNext (s : State) (a n : Nat) (b : Buffer) : State :=
  let m := mergeGet s a
  settleMerge (releaseRun (m.held.length + 1) (deliver (mergeSet s a { m with expected := some ((n + 1) % 2 ^ 32) }) b) a) a

/-- Hold a packet that is ahead; without a buffer it is discarded. -/
def mergeHold (s : State) (a n : Nat) (b : Buffer) : State :=
  match mergePool s b.len with
  | none => s
  | some k =>
    let (g, s1) := allocate s k 0x41 0
    if g = 0 then
      let (id, s2) := fillBuffer s1 k { b with arrived := s.now } 0x41
      let m := mergeGet s2 a
      settleMerge (mergeSet s2 a { m with held := m.held ++ [(n, id)] }) a
    else s1

/-- A packet more than 2^20 ahead restarts the merge: what is held is discarded. -/
def mergeRestart (s : State) (a n : Nat) (b : Buffer) : State :=
  let m := mergeGet s a
  let s1 := m.held.foldl (fun s h => match bufGet s h.2 with | some c => giveBack s h.2 c true | none => s) s
  mergeNext (countFlow (mergeSet s1 a { m with held := [], lost := [] }) a 6 1) a n b

/-- A packet of a merged pair (R367), under the record of leg A. -/
def mergePacket (s : State) (a : Nat) (legB : Bool) (b0 : Buffer) (udp : Bytes) : State :=
  let n := mergeKey s a udp
  let b := { b0 with flow := a, cls := u8 (flowGet s a).raw 1 }
  let m0 := mergeGet s a
  let m := if legB then { m0 with lastB := s.now, downB := false } else { m0 with lastA := s.now, downA := false }
  let s1 := mergeSet s a m
  let used (t : State) : State := countFlow t a (if legB then 3 else 2) 1
  match m.expected with
  | none => mergeNext (used s1) a n b
  | some x =>
    if seqBefore n x then (if wasLost m n then countFlow s1 a 5 1 else s1)
    else if n = x then mergeNext (used s1) a n b
    else if 2 ^ 20 < seqDist n x then mergeRestart (used s1) a n b
    else if m.held.any (fun h => h.1 == n) then s1
    else mergeHold (used s1) a n b

/-! ### MACsec on receive (R358) -/

/-- The receive association of a frame. -/
def rxSa (s : State) (h : EthHead) : Option MacsecSa :=
  (ethGet s h.port).macsec.sas.find? (fun a => a.rxSc = some h.sc && a.an = h.an)

/-- Is an unprotected frame exempt (R357)? -/
def macExempt (s : State) (h : EthHead) : Bool :=
  h.ether == 0x888E || (h.ptpEvent && (ethGet s h.port).macsec.ptpClear)

/-- The check before lookup: which counter drops the frame, if any.  While GCM is in the error state every protected frame is
dropped (Table 22.8). -/
def macsecRx (s : State) (h : EthHead) : Option Nat :=
  let m := (ethGet s h.port).macsec
  if h.macsec = 0 then (if m.required && !macExempt s h then some 8 else none)
  else if s.sec.errorAlgs.getLsbD 1 then some 9
  else if !m.required then none
  else match rxSa s h with
    | none => some 9
    | some a => if h.pn + a.window < a.pn then some 10 else none

/-- Does the frame fail its ICV? -/
def icvFails (s : State) (h : EthHead) : Bool := h.macsec != 0 && !h.icvOk && (ethGet s h.port).macsec.required

/-- The highest accepted PN of the association moves on. -/
def acceptPn (s : State) (h : EthHead) : State :=
  let x := ethGet s h.port
  let sas := x.macsec.sas.map (fun a => if a.rxSc = some h.sc && a.an = h.an then { a with pn := max a.pn h.pn } else a)
  if h.macsec = 0 then s else ethSet s h.port { x with macsec := { x.macsec with sas := sas } }

/-! ### ETH_FRAME_HEAD (R314 to R316, R333) -/

/-- Class of a frame: its flow's, or the port's class of its PCP (R364). -/
def classOf (s : State) (flow : Nat) (h : EthHead) : Nat :=
  if flowReal s flow then u8 (flowGet s flow).raw 1 % 8
  else (ethGet s h.port).cfg.pcpClass / 16 ^ h.pcp % 8

/-- PTP and Crew Link messages addressed to the H9 itself go to the Foreman port (R312). -/
def localDests (s : State) (h : EthHead) : List (Nat × Nat) :=
  let udp := (h.ip == 4 || h.ip == 6) && h.proto == 17
  if udp && (h.dstPort == 319 || h.dstPort == 320) && (h.dstMac == s.tables.routerMac || h.dstMac == 0x01005E000181) then [(17, 0xFF)]
  else if udp && h.dstPort == s.fabric.port && (h.dstMac == s.tables.routerMac || macGroup h.dstMac) then [(17, 0xFF)]
  else []

/-- Destinations of a frame: a copy to its own ingress port is suppressed (R335). -/
def frameDests (s : State) (h : EthHead) (l : Looked) : List (Nat × Nat) :=
  let own := localDests s h
  let rest := if own.isEmpty || macGroup h.dstMac then (destsOf s.tables l.result).filter (fun d => d.1 != h.port) else []
  own ++ rest.filter (fun d => !own.contains d)

/-- Length of a frame from its IP header's layer 3 length, the L2 header and the FCS (R314). -/
def declaredLen (h : EthHead) : Nat := h.declLen + 14 + (if h.vlan.isSome then 4 else 0) + 4

/-- Is a class held by a received XOFF (R356, R372)? -/
def classHeld (s : State) (p c : Nat) : Bool :=
  let x := ethGet s p
  x.xoff.any (fun o => decide (s.now < o.2) && x.cfg.pcpClass / 16 ^ o.1 % 8 == c)

/-- May a copy be cut through to an output (R316)? -/
def cutOk (s : State) (h : EthHead) (flow cls len : Nat) (d : Nat × Nat) : Bool :=
  let n := queueFor s d.1 cls flow
  decide (d.1 < 16) && (ethGet s d.1).up && (ethGet s d.1).sending.isNone && (queueGet s n).copies.isEmpty
    && (gateLeft s d.1 cls).isSome && shaperFree s (queueGet s n).sub len && decide (portSpeed s d.1 ≤ portSpeed s h.port)

/-- The packet of a frame. -/
def frameBuffer (s : State) (h : EthHead) (st : Staged) (len : Nat) (head : Bytes) (eof : Bool) : Buffer :=
  { pool := 0, state := .filling, owner := h.port, refs := 0, sending := [], len := len, inPort := h.port, flow := st.flow,
    colour := if h.vlan.isSome && h.dei then 1 else 0, cls := st.cls, head := head, bad := false, eof := eof,
    readError := false, arrived := h.t, dests := st.dest, multicast := decide (1 < st.dest.length), generated := false,
    clear := h.ether == 0x888E || (h.ptpEvent && (ethGet s h.port).macsec.ptpClear), ptpEvent := h.ptpEvent }

/-- Is the frame a candidate for cut-through: IP, not merged, not routed, no PTP event? -/
def cutCandidate (s : State) (h : EthHead) (l : Looked) (flow : Nat) : Bool :=
  (h.ip == 4 || h.ip == 6) && l.verdict == 0 && l.hop.isNone && !h.ptpEvent && (legA s flow).isNone

/-- Take a buffer for a frame that is cut through and decide its copies at the end of lookup (R316, R319). -/
def cutFrame (s : State) (h : EthHead) (st : Staged) (cuts : List (Nat × Nat)) : State :=
  let b := frameBuffer s h st (declaredLen h) h.udpData false
  let put (t : State) (x : Staged) : State := swSet t { t.sw with staged := tset t.sw.staged h.port x }
  match poolFor s b.len with
  | none => put s st
  | some k =>
    if (poolAt s k).cache = 0 then put s st
    else
      let s1 := if flowReal s st.flow then countFlow (countFlow s st.flow 0 1) st.flow 1 b.len else s
      let (c, s2) := colourPacket s1 b
      let b1 := { b with colour := c }
      if redDrop s2 b c then put s2 { st with verdict := 4 }
      else
        let (a, s3) := allocate s2 k h.port c
        if a = 0 then
          let (id, s4) := fillBuffer s3 k b1 h.port
          put (decideCopies (captureIn s4 0 true b1) id b1 cuts) { st with buffer := some id, colour := c }
        else put s3 { st with verdict := 3 }

/-- Lookup and copy decision of a frame (R316, R333). -/
def headFrame (s : State) (h : EthHead) : State :=
  match macsecRx s h with
  | some k =>
    let st : Staged := { head := h, verdict := 7, dest := [], flow := 0xFFFFFFFF, colour := 0, cls := 0, buffer := none, routed := false }
    let s1 := countEth s h.port k 1
    swSet s1 { s1.sw with staged := tset s1.sw.staged h.port st }
  | none =>
    let (l, s1) := lookup s h
    let flow := if flowReal s1 l.result.flow then l.result.flow else 0xFFFFFFFF
    let dest := frameDests s1 h l
    let st : Staged := { head := h, verdict := if l.verdict != 0 then l.verdict else if dest.isEmpty then 5 else 0, dest := dest,
                         flow := flow, colour := 0, cls := classOf s1 flow h, buffer := none, routed := l.hop.isSome }
    let cuts := if cutCandidate s1 h l flow then dest.filter (cutOk s1 h flow st.cls (declaredLen h)) else []
    if cuts.isEmpty then swSet s1 { s1.sw with staged := tset s1.sw.staged h.port st } else cutFrame s1 h st cuts

/-- ETH_FRAME_HEAD. -/
def execEthFrameHead (h : EthHead) (s : State) : Result :=
  withUnit (isEth h.port) (act s (!asleep s && (ethGet s h.port).up && !(ethGet s h.port).fenced
      && (tfind s.sw.staged h.port).isNone) (headFrame (atTime s h.t) h))

/-! ### ETH_FRAME_END (R317) -/

/-- The end of a frame that is being cut through: stored copies become eligible, or, when the frame is bad, every copy that has
not begun to leave is dropped with verdict 0x7 (Table 16.2 finishes the others). -/
def endCut (s : State) (id len : Nat) (bad : Bool) : State :=
  match bufGet s id with
  | none => s
  | some b =>
    let cut := decide (bufBytes (poolAt s b.pool).size < len)
    let b1 := { b with eof := true, bad := bad || cut, len := if cut then b.len else len }
    let s1 := bufPut s id b1
    if b1.bad then dropCopies (captureIn (countPort s1 b.inPort scFcs) 7 true b1) (fun _ _ c => c.buffer == id) true else s1

/-- The end of a stored frame. -/
def endStored (s : State) (st : Staged) (len : Nat) (bad : Bool) (head : Bytes) : State :=
  let b := frameBuffer s st.head st len head true
  if st.verdict != 0 then dropIn s st.verdict b
  else if (ethGet s st.head.port).cfg.maxFrame < len then dropIn s 6 b
  else if bad then dropIn s 7 b
  else match legA s st.flow with
    | some (a, legB) => mergePacket s a legB b st.head.udpData
    | none => deliver s b

/-- ETH_FRAME_END. -/
def execEthFrameEnd (port len : Nat) (fcsOk : Bool) (head : Bytes) (t : Nat) (s : State) : Result :=
  withUnit (isEth port) (act s (!asleep s)
    (match tfind s.sw.staged port with
      | none => s
      | some st =>
        let s1 := atTime s t
        let s2 := countEth (countEth (swSet s1 { s1.sw with staged := tdel s1.sw.staged port }) port 0 1) port 1 len
        let icv := icvFails s2 st.head
        let s3 := if icv then countEth s2 port 9 1 else acceptPn s2 st.head
        let s4 := if st.head.ptpEvent then countEth s3 port 12 1 else s3
        match st.buffer with
        | some id => endCut s4 id len (!fcsOk || icv)
        | none => endStored s4 st len (!fcsOk || icv) head))

/-! ### PORT_PACKET_IN, PANTRY_RETRY, POOL_CACHE_REFILL -/

/-- Result that a descriptor names: its flow's destination, a port, or a group (R333). -/
def packetResult (s : State) (p : PortPkt) : EmtResult :=
  let f := (flowGet s p.flow).raw
  if flowReal s p.flow then ⟨u8 f 0x18, u8 f 0x19, u16 f 0x1A, p.flow⟩
  else if p.dest < 64 then ⟨0, p.dest, p.group, 0xFFFFFFFF⟩ else ⟨1, 0, p.group, 0xFFFFFFFF⟩

/-- The packet that a host, Foreman or core port presents. -/
def portBuffer (s : State) (p : PortPkt) : Buffer :=
  let d := destsOf s.tables (packetResult s p)
  { pool := 0, state := .filling, owner := p.port, refs := 0, sending := [], len := p.len, inPort := p.port,
    flow := if flowReal s p.flow then p.flow else 0xFFFFFFFF, colour := 0,
    cls := if flowReal s p.flow then u8 (flowGet s p.flow).raw 1 % 8 else p.cls % 8, head := [], bad := false, eof := true,
    readError := false, arrived := s.now, dests := d, multicast := decide (1 < d.length),
    generated := decide (18 ≤ p.port), clear := false, ptpEvent := false }

/-- Packets of the port that wait already. -/
def portWaits (s : State) (p : Nat) : Bool := s.sw.waiting.any (fun w => w.1.inPort == p)

/-- PORT_PACKET_IN: host, Foreman and core inputs know the length, allocate, write the whole packet and present it. -/
def execPortPacketIn (p : PortPkt) (s : State) : Result :=
  withUnit (isSubPort p.port) (act s (!asleep s)
    (let s1 := atTime s p.t
     if portWaits s1 p.port then holdPacket s1 (portBuffer s1 p) else deliver s1 (portBuffer s1 p)))

/-- The first waiting packet of a port, and the others. -/
def firstWaiting (l : List (Buffer × Nat)) (p : Nat) : Option ((Buffer × Nat) × List (Buffer × Nat)) :=
  match l.find? (fun w => w.1.inPort == p) with
  | none => none
  | some w => some (w, l.erase w)

/-- PANTRY_RETRY (R330): an Ethernet input retries for up to 256 ns and then drops the frame with verdict 0x3. -/
def execPantryRetry (port t : Nat) (s : State) : Result :=
  withUnit (isEgress port) (act s (!asleep s) (
    let s1 := atTime s t
    match firstWaiting s1.sw.waiting port with
    | none => s1
    | some ((b, since), rest) =>
      let s2 := swSet s1 { s1.sw with waiting := rest }
      let s3 := placePacket s2 b
      match s3.sw.waiting.getLast? with
      | some w =>
        if s3.sw.waiting.length = rest.length + 1 && w.1.inPort == port then
          if port < 16 && since + 256 ≤ s1.now then dropIn { s3 with sw := { s3.sw with waiting := rest } } 3 b
          else swSet s3 { s3.sw with waiting := (b, since) :: rest }
        else s3
      | none => s3))

/-- POOL_CACHE_REFILL (R327): 64 pointers move between ring and cache. -/
def execPoolCacheRefill (pool : Nat) (s : State) : Result :=
  withUnit (isPool pool) (act s (!asleep s && (poolAt s pool).refill) (
    let p := poolAt s pool
    let n := min 64 p.freeList
    let q := if p.cache < 32 then { p with cache := p.cache + n, freeList := p.freeList - n }
             else if 96 < p.cache then { p with cache := p.cache - 64, freeList := p.freeList + 64 } else p
    poolPut s pool { q with refill := needsRefill q }))

/-! ### EGRESS_SELECT (R369 to R374) -/

/-- May the first copy of a queue start: its packet is whole, or it is cut through (R316)? -/
def headCopy (s : State) (q : EgressQueue) : Option (Copy × Buffer) :=
  match q.copies.head? with
  | none => none
  | some c =>
    match bufGet s c.buffer with
    | none => none
    | some b => if c.cut || b.eof then some (c, b) else none

/-- Class of a queue on an Ethernet port: the default's, or its subscriber's. -/
def queueClass (s : State) (n : Nat) (q : EgressQueue) : Nat := if n < 368 then n % 8 else (subGet s q.sub).cls

/-- Queues of a port with a copy that may start, with class and subscriber. -/
def ready (s : State) (p : Nat) : List (Nat × EgressQueue × Copy × Buffer) :=
  (s.net.queues.filter (fun e => e.2.port = p)).filterMap (fun e => (headCopy s e.2).map (fun c => (e.1, e.2, c.1, c.2)))

/-- WFQ within a subscriber: the smallest finish tag, the lower queue number among equals (R370). -/
def wfqFirst (l : List (Nat × EgressQueue × Copy × Buffer)) : Option (Nat × EgressQueue × Copy × Buffer) :=
  l.foldl (fun b e => match b with
    | none => some e
    | some c => if e.2.2.1.tag < c.2.2.1.tag then some e else some c) none

/-- Subscribers of a class that can start a packet: tokens, and the gate stays open long enough (R371, R374). -/
def startable' (s : State) (p c : Nat) : List (Nat × (Nat × EgressQueue × Copy × Buffer)) :=
  match gateLeft s p c with
  | none => []
  | some left =>
    let l := (ready s p).filter (fun e => queueClass s e.1 e.2.1 == c)
    let subs := (l.map (fun e => e.2.1.sub)).eraseDups
    subs.filterMap (fun n => match wfqFirst (l.filter (fun e => e.2.1.sub == n)) with
      | some e => if shaperFree s n e.2.2.2.len && fitsIn s p e.2.2.2.len left then some (n, e) else none
      | none => none)

/-- Eligible classes of an Ethernet port. -/
def eligible (s : State) (p : Nat) : List Nat :=
  (List.range 8).filter (fun c => !classHeld s p c && !(startable' s p c).isEmpty)

/-- Class that sends next, and the scheduler's state: strict classes from the highest, then weighted round robin (R372). -/
def pickClass (x : ClassState) (l : List Nat) : Option (Nat × ClassState) :=
  match (l.filter (fun c => bitOf x.strict c)).getLast? with
  | some c => some (c, x)
  | none =>
    let fresh := if l.any (fun c => x.credit.getD c 0 != 0) then x else { x with credit := x.weights }
    let order := ((List.range 8).map (fun i => (fresh.lastClass + i) % 8)).filter (fun c => l.contains c && fresh.credit.getD c 0 != 0)
    match order.head? with
    | none => none
    | some c =>
      let left := fresh.credit.getD c 0 - 1
      some (c, { fresh with credit := lset (padCredit fresh.credit) c left, lastClass := if left = 0 then (c + 1) % 8 else c })
where
  padCredit (l : List Nat) : List Nat := l ++ List.replicate (8 - l.length) 0

/-- Round robin among the subscribers of a class. -/
def pickSub (x : ClassState) (c : Nat) (l : List (Nat × (Nat × EgressQueue × Copy × Buffer))) :
    Option (Nat × (Nat × EgressQueue × Copy × Buffer)) :=
  let last := tget 0 x.lastSub c
  match l.filter (fun e => decide (last < e.1)) with
  | e :: r => some (r.foldl (fun b f => if f.1 < b.1 then f else b) e)
  | [] => match l with
    | [] => none
    | e :: r => some (r.foldl (fun b f => if f.1 < b.1 then f else b) e)

/-- The transmit association of a port (R359): the active one, or, when its PN is exhausted, the next installed. -/
def txSa (m : MacsecState) : Option MacsecSa :=
  let tx := m.sas.filter (fun a => a.rxSc.isNone && decide (a.pn < 2 ^ 64) && !a.key.isEmpty)
  match tx.find? (fun a => m.activeTx == some a.an) with
  | some a => some a
  | none => (tx.foldl (fun b a => match b with
      | none => some a
      | some c => if a.order < c.order then some a else some c) none)

/-- Has the port a transmit channel? -/
def protects (m : MacsecState) : Bool := m.sas.any (fun a => a.rxSc.isNone)

/-- Protect a frame that leaves (R357, R359): none when no protected frame may be sent.  At PN 0xC000_0000_0000_0000 one event
record is posted. -/
def protect (s : State) (p : Nat) (clear : Bool) : Option State :=
  let x := ethGet s p
  if clear || !protects x.macsec then some s
  else if s.sec.errorAlgs.getLsbD 1 then none
  else match txSa x.macsec with
    | none => none
    | some a =>
      let sas := x.macsec.sas.map (fun b => if b = a then { b with pn := b.pn + 1, high := b.high || decide (0xC000000000000000 ≤ b.pn + 1) } else b)
      let s1 := ethSet s p { x with macsec := { x.macsec with sas := sas, activeTx := some a.an } }
      some (if !a.high && 0xC000000000000000 ≤ a.pn + 1 then logEvent s1 0x0404 7 0xFF none none else s1)

/-- Take the first copy out of its queue: when the queue empties its finish tag is discarded (R370). -/
def takeCopy (s : State) (n : Nat) (q : EgressQueue) (len : Nat) : State :=
  queueSet s n { q with copies := q.copies.drop 1, bytes := q.bytes - len, sent := q.sent + 1,
                        lastTag := if (q.copies.drop 1).isEmpty then none else q.lastTag }

/-- The subscriber has nothing more queued. -/
def subEmpty (s : State) (n : Nat) : Bool := s.net.queues.all (fun e => e.2.sub != n || e.2.copies.isEmpty)

/-- Residence time that a forwarded PTP event message gets added to correctionField with TC set (R361). -/
def residence (s : State) (p : Nat) (b : Buffer) : Nat :=
  if b.ptpEvent && bitOf s.net.ptp.cfg.flags 1 && decide (b.inPort < 16) && decide (p < 16) then s.now - b.arrived else 0

/-- A frame starts on an output. -/
def startFrame (s : State) (p n : Nat) (q : EgressQueue) (c : Copy) (b : Buffer) (head : Bytes) : State :=
  let s1 := takeCopy s n q b.len
  let s2 := if p < 16 then shaperSend s1 q.sub b.len c.tag (subEmpty s1 q.sub) else s1
  if b.readError then
    leaveCount (capture (countPort s2 p scMem) 1 p 8 n c.sub c.cut (ptpTime s) head b) c.buffer true
  else match (if p < 16 then protect s2 p b.clear else some s2) with
    | none => leaveCount (countEth s2 p 11 1) c.buffer true
    | some s3 =>
      let s4 := bufPut s3 c.buffer { b with sending := b.sending ++ [p] }
      let s5 := if c.cut then countPort s4 p scCut else s4
      let s6 := if p < 16 then
          let t := countEth (countEth s5 p 2 1) p 3 b.len
          ethSet t p { ethGet t p with sending := some c.buffer, busyTo := t.now + cdiv (wireBits t p b.len) (max 1 (ethSpeed t p)) }
        else s5
      capture (emit s6 (.egress p c.buffer [n, b.len, b.cls, c.sub, residence s6 p b])) 1 p 0 n c.sub c.cut (ptpTime s) head b

/-- Choose and start the next frame of an Ethernet port. -/
def selectEth (s : State) (p : Nat) (head : Bytes) : State :=
  let x := ethGet s p
  if !x.up || x.sending.isSome then s
  else match pickClass x.classes (eligible s p) with
    | none => s
    | some (c, k) =>
      match pickSub k c (startable' s p c) with
      | none => s
      | some (n, e) =>
        let s1 := ethSet s p { x with classes := { k with lastSub := tset k.lastSub c n } }
        startFrame s1 p e.1 e.2.1 e.2.2.1 e.2.2.2 head

/-- Strict priority, highest class first, on the other outputs (R369). -/
def selectPort (s : State) (p : Nat) (head : Bytes) : State :=
  match (ready s p).getLast? with
  | none => s
  | some e => startFrame s p e.1 e.2.1 e.2.2.1 e.2.2.2 head

/-- EGRESS_SELECT; `head` is the packet's first bytes as they leave, for a capture record. -/
def execEgressSelect (port : Nat) (head : Bytes) (t : Nat) (s : State) : Result :=
  withUnit (isEgress port) (act s (!asleep s)
    (if port < 16 then selectEth (atTime s t) port head else selectPort (atTime s t) port head))

/-! ### COPY_DONE (R317 to R319) -/

/-- A copy ends on an output: a bad one is finished under Table 16.2. -/
def endCopy (s : State) (p id : Nat) (b : Buffer) (readback : Bool) : State :=
  let s1 := bufPut s id { b with sending := b.sending.erase p }
  let s2 := if p < 16 then ethSet s1 p { ethGet s1 p with sending := none } else s1
  let s3 := if b.bad || b.readError then
      capture (countPort s2 p (if p < 16 then scStomped else scBad)) 1 p 9 0xFFFF 0xFF false (ptpTime s) b.head b
    else s2
  leaveCount s3 id readback

/-- COPY_DONE: `requester` is 0x40 for the switch; any other requester frees a buffer on its own account (R329). -/
def execCopyDone (port buffer requester : Nat) (readback : Bool) (t : Nat) (s : State) : Result :=
  withUnit (isEgress port) (act s (!asleep s) (
    let s1 := atTime s t
    if requester != 0x40 then freeRequest s1 buffer requester readback
    else match bufGet s1 buffer with
      | none => s1
      | some b =>
        if b.sending.contains port && b.eof && (decide (16 ≤ port) || decide ((ethGet s1 port).busyTo ≤ s1.now)) then
          endCopy s1 port buffer b readback
        else s1))

/-- QUEUE_AVG_DECAY (R322): an empty queue's avg is updated with q = 0. -/
def execQueueAvgDecay (queue t : Nat) (s : State) : Result :=
  withUnit (isQueue queue) (act s (!asleep s && (queueGet s queue).copies.isEmpty) (
    let s1 := atTime s t
    swSet s1 { s1.sw with avg := tset s1.sw.avg queue (avgStep (tget 0 s1.sw.avg queue) 0 (profileOf s1 (queueGet s1 queue)).weight) }))

/-! ### Commands (R331) -/

/-- A pool entry of Table 16.9 at an offset. -/
def poolEntry (d : Bytes) (k : Nat) (old : Pool) : Pool :=
  let o := 24 * k
  { Pool.make (u8 d o) (u8 d (o + 1) == 1) (u8 d (o + 2)) (u32 d (o + 4)) (u32 d (o + 8)) (u32 d (o + 12)) (u32 d (o + 16)) (u32 d (o + 20)) with
    retired := old.retired, foreign := old.foreign, doubles := old.doubles, empties := old.empties, refused := old.refused }

/-- Sizes of the used pools before entry `k`. -/
def sizesBefore (d : Bytes) (k : Nat) : List Nat := ((List.range k).filter (fun i => u32 d (24 * i + 4) != 0)).map (fun i => u8 d (24 * i))

/-- Largest frame that an enabled port accepts. -/
def largestFrame (s : State) : Nat :=
  s.net.ports.foldl (fun n p => if p.2.cfg.enable then max n p.2.cfg.maxFrame else n) 0

/-- Bytes of the SRAM pools of entries. -/
def sramBytes (d : Bytes) : Nat :=
  (List.range 8).foldl (fun n k => if u8 d (24 * k + 1) = 0 then n + u32 d (24 * k + 4) * bufBytes (u8 d (24 * k)) else n) 0

/-- Threshold rules of an entry with COUNT `count`. -/
def thresholdRules (d : Bytes) (k count : Nat) : List (Bool × Nat) :=
  let o := 24 * k
  if count = 0 then []
  else [(decide (u32 d (o + 8) > u32 d (o + 12)) && decide (u32 d (o + 8) + u32 d (o + 20) ≤ count), o + 8),
        (decide (u32 d (o + 12) > u32 d (o + 16)), o + 12), (decide (1 ≤ u32 d (o + 16)), o + 16), (decide (1 ≤ u32 d (o + 20)), o + 20)]

/-- Rules of SET_POOLS over the whole data. -/
def poolRules (s : State) (d : Bytes) : List (Bool × Nat) :=
  (List.range 8).flatMap (fun k =>
    let o := 24 * k
    [(u32 d (o + 4) == 0 || (decide (u8 d o ≤ 8) && (sizesBefore d k).all (fun z => decide (z < u8 d o))), o),
     (decide (u8 d (o + 1) ≤ 1), o + 1), (u8 d (o + 3) == 0, o + 3)] ++ thresholdRules d k (u32 d (o + 4)))
  ++ [(decide (sramBytes d ≤ 16777216), 4),
      ((List.range 8).any (fun k => u32 d (24 * k + 4) != 0 && decide (largestFrame s ≤ bufBytes (u8 d (24 * k)))), 0)]

/-- HBM bytes of a pool. -/
def poolHbm (p : Pool) : Nat := if p.inHbm then p.count * bufBytes p.size else 0

/-- HBM bytes of pools. -/
def poolsHbm (l : List Pool) : Nat := l.foldl (fun n p => n + poolHbm p) 0

/-- A pool with new thresholds only. -/
def rethreshold (d : Bytes) (k : Nat) (p : Pool) : Pool :=
  let o := 24 * k
  if p.count = 0 then p
  else { p with notice := u32 d (o + 8), backpressure := u32 d (o + 12), critical := u32 d (o + 16), hyst := u32 d (o + 20),
                pfcMask := u8 d (o + 2) }

/-- Is a buffer FILLING or QUEUED? -/
def buffersBusy (s : State) : Bool := s.sw.buffers.any (fun b => b.2.state == .filling || b.2.state == .queued)

/-- The new pools of SET_POOLS. -/
def newPools (s : State) (e d : Bytes) : List Pool :=
  (List.range 8).map (fun k => if u8 e 24 % 2 = 1 then rethreshold d k (poolAt s k) else poolEntry d k (poolAt s k))

/-- Checks of SET_POOLS: HBM pools come out of the device pool (R219, R326). -/
def chkPools (fn : Nat) (data : Bytes) (s : State) (e : Bytes) : Option Reply :=
  let d := readData s fn e data
  let only := u8 e 24 % 2 == 1
  orElse (fieldCheck [(decide (192 ≤ cmdDataLen e), 0x10), (decide (u8 e 24 ≤ 1), 24)])
    (orElse (dataCheck (if only then (List.range 8).flatMap (fun k => thresholdRules d k (poolAt s k).count) else poolRules s d))
      (if only then none
       else if s.mode != .ready || buffersBusy s then some (failWith stBusy)
       else if poolFree s + poolsHbm s.sw.pools < poolsHbm (newPools s e d) then some (failWith stNoResource)
       else none))

/-- SET_POOLS. -/
def execSetPools (r : CmdRef) (data : Bytes) (s : State) : Result :=
  serve s r 0x60 (chkPools r.fn data) (fun s e =>
    let l := newPools s e (readData s r.fn e data)
    let s1 := { s with hbm := { s.hbm with poolUsed := s.hbm.poolUsed + poolsHbm l - poolsHbm s.sw.pools } }
    configured ((List.range 8).foldl settlePool (swSet s1 { s1.sw with pools := l })) r 0)

/-- One pool's 32 bytes of QUERY_POOLS. -/
def poolBytes (p : Pool) : Bytes :=
  le 4 (poolFreeCount p) ++ le 4 p.minFree ++ le 1 p.level ++ zeros 3 ++ le 4 p.retired ++ le 4 p.foreign ++ le 4 p.doubles
    ++ le 4 p.empties ++ le 4 p.refused

/-- QUERY_POOLS: MIN_FREE counts from each query. -/
def execQueryPools (r : CmdRef) (s : State) : Result :=
  serve s r 0x61 (fun _ e => fieldCheck [(decide (256 ≤ cmdDataLen e), 0x10)]) (fun s e =>
    let s1 := writeData s r.fn e (s.sw.pools.flatMap poolBytes)
    succeed (swSet s1 { s1.sw with pools := s1.sw.pools.map (fun p => { p with minFree := poolFreeCount p }) }) r 0)

/-- SET_CAPTURE: enabling zeroes the ring header; the ring lies in the PF's grant (R325). -/
def execSetCapture (r : CmdRef) (s : State) : Result :=
  serve s r 0x62 (fun s e => fieldCheck [(decide (u8 e 24 ≤ 1), 24), (u8 e 24 == 0 || inRange (u32 e 28) 16 5592405, 28),
      (u8 e 24 == 0 || (u64 e 32 % 4096 == 0 && decide (u64 e 32 + 64 + 192 * u32 e 28 ≤ grantBytes s 0)), 32)]) (fun s e =>
    let c := s.sw.capture
    if u8 e 24 = 1 then
      let c1 := { c with enable := true, depth := u32 e 28, base := u64 e 32, produced := 0, consumed := 0, dropped := 0 }
      configured (hostWrite (swSet s { s.sw with capture := c1 }) 0 true (u64 e 32) (zeros 64)) r 0
    else configured (swSet s { s.sw with capture := { c with enable := false } }) r 0)

/-- SET_MIRROR_RULE (R323). -/
def execSetMirrorRule (r : CmdRef) (s : State) : Result :=
  serve s r 0x63 (fun _ e => fieldCheck [(decide (u8 e 24 < 64), 24), (decide (u8 e 25 ≤ 1), 25), (decide (u8 e 26 < 4), 26),
      (u8 e 27 == 0xFF || isPort (u8 e 27), 27), (decide (u16 e 32 < 2048), 32)]) (fun s e =>
    let m : MirrorRule := ⟨u8 e 25 == 1, u8 e 26, u8 e 27, u32 e 28, u16 e 32, u16 e 34, 0⟩
    configured (swSet s { s.sw with rules := tset s.sw.rules (u8 e 24) m }) r 0)

/-- Rules of a drop profile (Table 16.7). -/
def profileRules (d : Bytes) : List (Bool × Nat) :=
  [(decide (u8 d 0 ≤ 15), 0), (allZero d 1 3, 1), (inRange (u32 d 4) 2048 268435456, 4), (u32 d 0x2C == 0, 0x2C)]
  ++ (List.range 3).flatMap (fun c =>
    [(decide (u32 d (8 + 12 * c) < u32 d (0xC + 12 * c)) && decide (u32 d (0xC + 12 * c) ≤ u32 d 4), 0xC + 12 * c),
     (allZero d (0x11 + 12 * c) 3, 0x11 + 12 * c)])

/-- SET_DROP_PROFILE: avg stays (R331). -/
def execSetDropProfile (r : CmdRef) (data : Bytes) (s : State) : Result :=
  serve s r 0x64 (fun s e => orElse (fieldCheck [(inRange (u8 e 24) 1 255, 24), (decide (48 ≤ cmdDataLen e), 0x10)])
      (dataCheck (profileRules (readData s r.fn e data))))
    (fun s e =>
      let d := readData s r.fn e data
      let c (k : Nat) : DropCurve := ⟨u32 d (8 + 12 * k), u32 d (0xC + 12 * k), u8 d (0x10 + 12 * k)⟩
      configured (swSet s { s.sw with profiles := tset s.sw.profiles (u8 e 24) ⟨u8 d 0, u32 d 4, c 0, c 1, c 2⟩ }) r 0)

end Sys2Proof.Machine
end

