-- ==== Sys2Proof/Machine/Traffic.lean ====
section
/-! DEFINITION. The commands of the Traffic Manager (Table 18.9) and the events of its ports: links, pauses, gates, the merge
(chapter 18 of the manual). -/

namespace Sys2Proof.Machine

/-! ### SET_PORT (R310, R353 to R355) -/

/-- Does the quad's mode use the port (R353)? -/
def portUsed (s : State) (p : Nat) : Bool := isEth p && ethLanes s p != 0

/-- Is the port a pixel port? -/
def isPxPort (p : Nat) : Bool := inRange p 46 49

/-- Ranges of Table 18.2; QUAD_MODE is the quad's, which only its first port sets. -/
def ethRules (s : State) (p : Nat) (d : Bytes) : List (Bool × Nat) :=
  [(decide (u8 d 0 ≤ 1), 0), (decide (u8 d 1 ≤ 2) && (p % 4 == 0 || u8 d 1 == (ethGet s (p / 4 * 4)).cfg.quadMode), 1),
   (decide (u8 d 2 ≤ 3), 2), (decide (u8 d 3 ≤ 3), 3), (inRange (u16 d 4) 64 9216, 4), (u8 d 7 == 0, 7),
   ((List.range 8).all (fun k => !bitOf (u32 d 8) (4 * k + 3)), 8), (allZero d 0x0E 18, 0x0E)]

/-- A configuration of Table 18.2. -/
def readEth (d : Bytes) : EthConfig :=
  { enable := u8 d 0 == 1, quadMode := u8 d 1, link := u8 d 2, flags := u8 d 3, maxFrame := u16 d 4, pfcRx := u8 d 6,
    pcpClass := u32 d 8, asymNs := s16 d 0x0C }

/-- Does a session's egress flow leave through the port (log entry 45)? -/
def carriesFlow (s : State) (p : Nat) : Bool :=
  s.net.flows.any (fun f => u8 f.2.raw 0 == 3 && f.2.session != 0
    && (destsOf s.tables ⟨u8 f.2.raw 0x18, u8 f.2.raw 0x19, u16 f.2.raw 0x1A, f.1⟩).any (fun d => d.1 == p))

/-- Is a port of the quad enabled? -/
def quadEnabled (s : State) (p : Nat) : Bool := (List.range 4).any (fun k => (ethGet s (p / 4 * 4 + k)).cfg.enable)

/-- BUSY of SET_PORT on an Ethernet port. -/
def ethBusy (s : State) (p : Nat) (d : Bytes) : Bool :=
  let old := (ethGet s p).cfg
  decide (old ≠ readEth d) && (carriesFlow s p || (p % 4 == 0 && old.quadMode != u8 d 1 && quadEnabled s p))

/-- Apply a change to an Ethernet port: the link of an enabled port goes down, and bring-up starts again. -/
def applyEth (s : State) (p : Nat) (d : Bytes) : State :=
  if (ethGet s p).cfg = readEth d then s
  else
    let s1 := if (ethGet s p).up then portDown s p else s
    larderUpdate (ethSet s1 p { ethGet s1 p with cfg := readEth d })

/-- Ranges of Table 15.4. -/
def pxRules (d : Bytes) : List (Bool × Nat) :=
  [(decide (u8 d 0 ≤ 3), 0), ([1, 2, 4].contains (u8 d 1), 1), ([1, 2, 4].contains (u8 d 2), 2),
   (inRange (u16 d 4) (u16 d 6 + 1) 3072, 4), (decide (u16 d 6 < u16 d 4), 6),
   (u16 d 0x0A % 8 == 0 && inRange (u16 d 0x0A) 256 16384, 0x0A), (allZero d 0x0C 20, 0x0C)]

/-- A configuration of Table 15.4. -/
def readPx (d : Bytes) : PxConfig :=
  { rxOn := bitOf (u8 d 0) 0, txOn := bitOf (u8 d 0) 1, rxLanes := u8 d 1, txLanes := u8 d 2, polarity := u8 d 3, high := u16 d 4,
    low := u16 d 6, txTotal := u16 d 8, txSegMax := u16 d 0x0A }

/-- Does a configuration change a direction? -/
def rxChanges (a b : PxConfig) : Bool :=
  a.rxOn != b.rxOn || a.rxLanes != b.rxLanes || a.polarity % 16 != b.polarity % 16 || a.high != b.high || a.low != b.low
def txChanges (a b : PxConfig) : Bool :=
  a.txOn != b.txOn || a.txLanes != b.txLanes || a.polarity / 16 != b.polarity / 16 || a.txTotal != b.txTotal
    || a.txSegMax != b.txSegMax

/-- BUSY of SET_PORT on a pixel port: a direction that a session uses. -/
def pxBusy (s : State) (p : Nat) (d : Bytes) : Bool :=
  let old := (pxGet s p).cfg
  (rxChanges old (readPx d) && portTaken s p true) || (txChanges old (readPx d) && portTaken s p false)

/-- Apply a change to a pixel port: its link goes down when the receive side changes, and comes up when the lanes lock again. -/
def applyPx (s : State) (p : Nat) (d : Bytes) : State :=
  let c := readPx d
  let s1 := if rxChanges (pxGet s p).cfg c then pxDown s p else s
  let q := pxGet s1 p
  larderUpdate (pxSet s1 p (pxPin { q with cfg := c, fifo := fifoHold { q.fifo with high := c.high, low := c.low } }))

/-- The checks of SET_PORT. -/
def chkPort (fn : Nat) (data : Bytes) (s : State) (e : Bytes) : Option Reply :=
  let p := u8 e 24
  let d := readData s fn e data
  orElse (fieldCheck [(decide (32 ≤ cmdDataLen e), 0x10), (portUsed s p || isPxPort p, 24)])
    (orElse (dataCheck (if isPxPort p then pxRules d else ethRules s p d))
      (if (if isPxPort p then pxBusy s (p - 46) d else ethBusy s p d) then some (failWith stBusy)
       else fenceCheck s (if isPxPort p then .pixelPort (p - 46) else .ethPort p)))

/-- SET_PORT. -/
def execSetPort (r : CmdRef) (data : Bytes) (s : State) : Result :=
  serve s r 0x50 (chkPort r.fn data) (fun s e =>
    let p := u8 e 24
    let d := readData s r.fn e data
    configured (if isPxPort p then applyPx s (p - 46) d else applyEth s p d) r 0)

/-! ### SET_MACSEC (R357 to R359, R439) -/

/-- May SET_MACSEC use the key: an entry of type MACSEC that the PF may use? -/
def macsecKey (s : State) (id : Nat) : Bool :=
  match tfind s.sec.keys id with
  | some k => k.typ == 3 && k.functions.getLsbD 0 && id != 0
  | none => false

/-- The checks of SET_MACSEC. -/
def chkMacsec (fn : Nat) (s : State) (e : Bytes) : Option Reply :=
  orElse (roleCheck s fn true) (orElse (serviceCheck s 0xF)
    (orElse (fieldCheck [(portUsed s (u8 e 24), 24), (decide (u8 e 25 ≤ 2), 25), (decide (u8 e 26 ≤ 3), 26),
      (u8 e 25 != 1 || decide (u8 e 27 ≤ 15), 27), (u8 e 25 == 2 || macsecKey s (u16 e 28), 28), (decide (u8 e 30 ≤ 7), 30)])
      (fenceCheck s (.ethPort (u8 e 24)))))

/-- The association that the command installs; its SAK stays in the port's key register. -/
def newSa (s : State) (m : MacsecState) (e : Bytes) : MacsecSa :=
  { rxSc := if u8 e 25 = 1 then some (u8 e 27) else none, an := u8 e 26, keyId := u16 e 28, sci := u64 e 32, ssci := u32 e 48,
    pn := u64 e 40, window := u32 e 52, order := m.installs, high := false,
    key := match tfind s.sec.keys (u16 e 28) with | some k => k.key | none => [] }

/-- Install or delete. -/
def changeMacsec (s : State) (m : MacsecState) (e : Bytes) : MacsecState :=
  let flags := u8 e 30
  let base := { m with required := bitOf flags 1, ptpClear := bitOf flags 2 }
  if u8 e 25 = 2 then
    { base with sas := m.sas.filter (fun a => !(a.an == u8 e 26 && a.sci == u64 e 32)) }
  else
    let a := newSa s m e
    { base with sas := m.sas.filter (fun b => !(b.rxSc == a.rxSc && b.an == a.an)) ++ [a], installs := m.installs + 1
                activeTx := if u8 e 25 = 0 ∧ bitOf flags 0 then some a.an else m.activeTx }

/-- SET_MACSEC. -/
def execSetMacsec (r : CmdRef) (s : State) : Result :=
  serve s r 0x51 (chkMacsec r.fn) (fun s e =>
    let p := u8 e 24
    let x := ethGet s p
    approve (bumpEpoch (larderUpdate (ethSet s p { x with macsec := changeMacsec s x.macsec e }))) r 0)

/-! ### SET_METER, SET_FLOW (R365, R366, R368) -/

/-- SET_METER: the buckets start full (RFC 2697, RFC 2698). -/
def execSetMeter (r : CmdRef) (s : State) : Result :=
  serve s r 0x54 (fun _ e => fieldCheck [(decide (u16 e 24 ≤ 8191), 24), (decide (u8 e 26 ≤ 3), 26),
      (decide (u32 e 28 ≤ 400000000), 28), (u8 e 26 % 2 == 0 || inRange (u32 e 32) (u32 e 28) 400000000, 32),
      (decide (u32 e 36 ≤ 16777215), 36), (decide (u32 e 40 ≤ 16777215), 40)])
    (fun s e =>
      let old := meterGet s (u16 e 24)
      configured (meterPut s (u16 e 24) { old with
        mode := u8 e 26, cir := u32 e 28, pir := u32 e 32, cbs := u32 e 36, pbs := u32 e 40,
        tc := u32 e 36 * unitsPerByte, tp := u32 e 40 * unitsPerByte, at_ := s.now }) r 0)

/-- Is leg B named? -/
def mergeNamed (d : Bytes) : Bool := u16 d 0xA != 0xFFFF

/-- Buffers that a merge reserves (R368). -/
def mergeBuffers (d : Bytes) : Nat := if u8 d 0 != 0 && mergeNamed d then cdiv (u32 d 0x14 * u32 d 0x10) 9600 else 0

/-- Reservations of the other flows, and the buffers that the HBM pools have free or already hold for merges. -/
def mergeReserved (s : State) (f : Nat) : Nat := s.net.flows.foldl (fun n p => if p.1 = f then n else n + mergeBuffers p.2.raw) 0
def mergeHeld (s : State) : Nat := s.net.merges.foldl (fun n m => n + m.2.held.length) 0
def hbmBuffersFree (s : State) : Nat :=
  s.sw.pools.foldl (fun n p => if p.inHbm && p.count != 0 then n + poolFreeCount p else n) 0 + mergeHeld s

/-- Ranges of Table 18.5. -/
def flowRules (s : State) (f : Nat) (d : Bytes) : List (Bool × Nat) :=
  let kind := u8 d 0
  let merge := mergeNamed d
  [(decide (kind ≤ 3), 0), (decide (u8 d 1 ≤ 7), 1), (decide (u16 d 2 ≤ 8191) || u16 d 2 == 0xFFFF, 2), (u32 d 4 == 0, 4),
   (decide (u16 d 8 ≤ 4095) || u16 d 8 == 0xFFFF, 8), (!merge || (decide (u16 d 0xA ≤ 16383) && u16 d 0xA != f), 0xA),
   (decide (u8 d 0xC ≤ 1), 0xC), (decide (u8 d 0xD ≤ 1), 0xD), (u16 d 0xE == 0, 0xE),
   (!merge || inRange (u32 d 0x10) 1000 (if u8 d 0xC = 1 then 20000 else 150000), 0x10),
   (!merge || inRange (u32 d 0x14) 1 400000, 0x14)]
  ++ (if kind = 3 then resultRules (u8 d 0x18) (u8 d 0x19) (u16 d 0x1A) 0x18
        ++ [(u8 d 0x18 != 0 || decide (15 < u8 d 0x19) || portUsed s (u8 d 0x19), 0x19), (u8 d 0x1E == 4 || u8 d 0x1E == 6, 0x1E)]
      else [])
  ++ [(decide (u8 d 0x1F ≤ 63), 0x1F), (u8 d 0x27 == 0, 0x27), (u32 d 0x2C == 0, 0x2C), (allZero d 0x50 16, 0x50)]

/-- The checks of SET_FLOW. -/
def chkFlow (fn : Nat) (data : Bytes) (s : State) (e : Bytes) : Option Reply :=
  let f := u32 e 24
  let d := readData s fn e data
  orElse (fieldCheck [(decide (96 ≤ cmdDataLen e), 0x10), (decide (f ≤ 16383), 24)])
    (orElse (dataCheck (flowRules s f d))
      (if (flowGet s f).session ≠ 0 then some (failWith stBusy)
       else if mergeBuffers d ≠ 0 ∧ hbmBuffersFree s < mergeBuffers d + mergeReserved s f then some (failWith stNoResource)
       else none))

/-- A merge that starts anew gives its held packets' buffers back. -/
def clearMerge (s : State) (f : Nat) : State :=
  let s1 := (mergeGet s f).held.foldl (fun s h => match bufGet s h.2 with | some b => giveBack s h.2 b true | none => s) s
  mergeSet s1 f { MergeState.start with lastA := s.now, lastB := s.now }

/-- SET_FLOW. -/
def execSetFlow (r : CmdRef) (data : Bytes) (s : State) : Result :=
  serve s r 0x55 (chkFlow r.fn data) (fun s e =>
    let f := u32 e 24
    let s1 := clearMerge s f
    configured (flowSet s1 f { flowGet s1 f with raw := (readData s r.fn e data).take 96 }) r 0)

/-! ### SET_QUEUE, SET_SUBSCRIBER, SET_CLASSES (R369 to R372, R375) -/

/-- Is the subscriber there: a default one of an Ethernet port, or a created one? -/
def subExists (s : State) (n : Nat) : Bool := decide (n < 128) || (tfind s.net.subs n).isSome

/-- Port of a subscriber. -/
def subPort (s : State) (n : Nat) : Nat := (subGet s n).port

/-- The checks of SET_QUEUE: a default queue keeps its port and its subscriber. -/
def chkQueue (s : State) (e : Bytes) : Option Reply :=
  let n := u16 e 24
  let q := queueGet s n
  orElse (fieldCheck [(decide (n ≤ 4095), 24), (if n < 368 then u8 e 26 == n / 8 else portUsed s (u8 e 26), 26),
      (if n < 368 then u16 e 28 == q.sub
       else decide (u16 e 28 ≤ 1023) && subExists s (u16 e 28) && subPort s (u16 e 28) == u8 e 26, 28),
      (inRange (u16 e 30) 1 4096, 30), (inRange (u32 e 32) 2048 268435456, 32)])
    (if !q.copies.isEmpty && (q.port != u8 e 26 || q.sub != u16 e 28) then some (failWith stBusy) else none)

/-- SET_QUEUE. -/
def execSetQueue (r : CmdRef) (s : State) : Result :=
  serve s r 0x56 chkQueue (fun s e =>
    let q := queueGet s (u16 e 24)
    configured (queueSet s (u16 e 24) { q with port := u8 e 26, profile := u8 e 27, sub := u16 e 28, weight := u16 e 30,
                                               limit := u32 e 32 }) r 0)

/-- The smallest BURST: MAX_FRAME, and the narrow CMAX of types N and NL (R371). -/
def leastBurst (s : State) (e : Bytes) : Nat :=
  let typ := u8 e 28
  max (ethGet s (u8 e 26)).cfg.maxFrame
    (if typ = 1 ∨ typ = 2 then Config.narrowCmax typ (u32 e 32) (u16 e 52) (u16 e 54) else 0)

/-- The checks of SET_SUBSCRIBER. -/
def chkSubscriber (s : State) (e : Bytes) : Option Reply :=
  let n := u16 e 24
  let x := subGet s n
  let typ := u8 e 28
  orElse (fieldCheck [(inRange n 128 1023, 24), (portUsed s (u8 e 26), 26), (decide (u8 e 27 ≤ 7), 27), (decide (typ ≤ 3), 28),
      (decide (u32 e 32 ≤ 400000000), 32), (inRange (u32 e 36) (leastBurst s e) 16777215, 36),
      (typ == 0 || decide (1 ≤ u32 e 40), 40), (typ == 0 || decide (1 ≤ u32 e 44), 44),
      (typ != 1 || inRange (u16 e 52) 1 (u16 e 54), 52)])
    (if !subEmpty s n && (x.port != u8 e 26 || x.cls != u8 e 27 || x.typ != typ || x.rateNum != u32 e 40 || x.rateDen != u32 e 44
        || x.tro != u32 e 48 || x.active != u16 e 52 || x.total != u16 e 54) then some (failWith stBusy) else none)

/-- SET_SUBSCRIBER. -/
def execSetSubscriber (r : CmdRef) (s : State) : Result :=
  serve s r 0x57 chkSubscriber (fun s e =>
    let x := refillSub s (subGet s (u16 e 24))
    configured (subSet s (u16 e 24) { x with
      port := u8 e 26, cls := u8 e 27, typ := u8 e 28, rate := u32 e 32, burst := u32 e 36, rateNum := u32 e 40, rateDen := u32 e 44,
      tro := u32 e 48, active := u16 e 52, total := u16 e 54 }) r 0)

/-- SET_CLASSES. -/
def execSetClasses (r : CmdRef) (s : State) : Result :=
  serve s r 0x67 (fun s e => fieldCheck ((portUsed s (u8 e 24), 24)
      :: (List.range 8).map (fun k => (decide (1 ≤ u8 e (32 + k)), 32 + k))))
    (fun s e =>
      let x := ethGet s (u8 e 24)
      configured (ethSet s (u8 e 24) { x with classes := { x.classes with
        strict := u8 e 25, essence := u8 e 26, weights := (List.range 8).map (fun k => u8 e (32 + k)), credit := [] } }) r 0)

/-! ### Gates (R373) -/

/-- The list of a SET_GCL buffer. -/
def readGates (d : Bytes) : GateList :=
  { base := u64 d 0, cycle := u32 d 8, entries := (List.range (u16 d 0xC)).map (fun k => (u8 d (32 + 8 * k), u32 d (36 + 8 * k))) }

/-- The first cycle boundary at or after 1 ms past now. -/
def gateStart (s : State) (g : GateList) : Int :=
  let c : Int := (max 1 g.cycle : Nat)
  let from_ := ptpTime s + 1000000 - (g.base : Int)
  (g.base : Int) + (from_ + c - 1) / c * c

/-- The checks of SET_GCL. -/
def chkGcl (fn : Nat) (data : Bytes) (s : State) (e : Bytes) : Option Reply :=
  let d := readData s fn e data
  let n := u16 d 0xC
  orElse (fieldCheck [(decide (32 ≤ cmdDataLen e) && (decide (256 < n) || decide (32 + 8 * n ≤ cmdDataLen e)), 0x10),
      (portUsed s (u8 e 24), 24)])
    (dataCheck ([(n == 0 || inRange (u32 d 8) 1000 1000000000, 8), (decide (n ≤ 256), 0xC)]
      ++ (List.range (min n 256)).map (fun k => (u32 d (36 + 8 * k) % 8 == 0, 36 + 8 * k))))

/-- SET_GCL: COUNT 0 removes the list. -/
def execSetGcl (r : CmdRef) (data : Bytes) (s : State) : Result :=
  serve s r 0x68 (chkGcl r.fn data) (fun s e =>
    let d := readData s r.fn e data
    let p := u8 e 24
    let x := ethGet s p
    let g := readGates d
    configured (ethSet s p (if g.entries.isEmpty then { x with gates := none, nextGates := none, gateIdx := 0, gateShift := 0 }
                            else { x with nextGates := some ((gateStart s g).toNat, g) })) r g.entries.length)

/-- Number of the window that holds the current place in the cycle. -/
def gateIndex (s : State) (p : Nat) (g : GateList) : Nat :=
  ((gateWindows g).filter (fun w => decide (w.2.2 ≤ gatePos s p g))).length

/-- The index at a boundary; a cycle boundary takes the steps of the clock over (R362). -/
def gateTurn (s : State) (p : Nat) (y : EthPort) (g : GateList) : State :=
  let s1 := ethSet s p { y with gateIdx := gateIndex s p g }
  if gateIndex s p g = 0 then
    let s2 := ethSet s1 p { y with gateShift := 0 }
    ethSet s2 p { y with gateShift := 0, gateIdx := gateIndex s2 p g }
  else s1

/-- GCL_BOUNDARY: an entry or the cycle ends; a loaded list takes over at its first boundary. -/
def execGclBoundary (port t : Nat) (s : State) : Result :=
  withUnit (isEth port) (act s (!asleep s) (
    let s1 := atTime s t
    let x := ethGet s1 port
    let y := match x.nextGates with
      | some (at_, g) => if (at_ : Int) ≤ ptpTime s1 then { x with gates := some g, nextGates := none, gateShift := 0 } else x
      | none => x
    match y.gates with
    | some g => gateTurn (ethSet s1 port y) port y g
    | none => s1))

/-! ### PFC (R356) -/

/-- Pause time of quanta of 512 bit times at the port's speed, in ns. -/
def pauseNs (s : State) (p quanta : Nat) : Nat := cdiv (quanta * 512 * 1000) (max 1 (ethSpeed s p))

/-- PFC_XOFF_RX: `priorities` is the mask of the frame; quanta of 0 end a pause (802.1Qbb). -/
def execPfcXoffRx (port priorities quanta t : Nat) (s : State) : Result :=
  withUnit (isEth port) (act s (!asleep s && (ethGet s port).up && bitOf (ethGet s port).cfg.flags 0) (
    let s1 := atTime s t
    let x := ethGet s1 port
    let hit := (List.range 8).filter (fun p => bitOf priorities p && bitOf x.cfg.pfcRx p)
    let rest := x.xoff.filter (fun o => !hit.contains o.1)
    let added := if quanta = 0 then [] else hit.map (fun p => (p, s1.now + pauseNs s1 port quanta))
    let s2 := ethSet s1 port { x with xoff := rest ++ added }
    if quanta = 0 then s2 else countEth s2 port 6 1))

/-- PFC_XOFF_EXPIRE. -/
def execPfcXoffExpire (port priority t : Nat) (s : State) : Result :=
  withUnit (isEth port) (act s (!asleep s) (
    let s1 := atTime s t
    let x := ethGet s1 port
    ethSet s1 port { x with xoff := x.xoff.filter (fun o => !(o.1 == priority && decide (o.2 ≤ s1.now))) }))

/-! ### Merge timers (R367) -/

/-- When the first held packet of a merge arrived. -/
def heldSince (s : State) (a : Nat) : Option Nat :=
  (mergeGet s a).held.foldl (fun b h => match bufGet s h.2 with
    | some c => some (match b with | none => c.arrived | some v => min v c.arrived)
    | none => b) none

/-- MERGE_LOST_TIMEOUT. -/
def execMergeLostTimeout (flow t : Nat) (s : State) : Result :=
  withUnit (isFlow flow) (act s (!asleep s) (
    let s1 := atTime s t
    match heldSince s1 flow with
    | some at_ => if at_ + skewNs s1 flow ≤ s1.now then declareLost s1 flow else s1
    | none => s1))

/-- MERGE_LEG_DOWN: a leg that has delivered nothing for MERGE_SKEW_US. -/
def execMergeLegDown (flow : Nat) (legB : Bool) (t : Nat) (s : State) : Result :=
  withUnit (isFlow flow) (act s (!asleep s && flowReal s flow && mergeNamed (flowGet s flow).raw) (
    let s1 := atTime s t
    let m := mergeGet s1 flow
    if (if legB then m.lastB else m.lastA) + skewNs s1 flow ≤ s1.now then
      settleMerge (mergeSet s1 flow (if legB then { m with downB := true } else { m with downA := true })) flow
    else s1))

/-! ### Links (R355, R212) -/

/-- ETH_LINK_UP: auto-negotiation, training and FEC lock are done. -/
def execEthLinkUp (port t : Nat) (s : State) : Result :=
  withUnit (isEth port) (act s (!asleep s && portUsed s port && (ethGet s port).cfg.enable && !fencing s (.ethPort port)
      && !(ethGet s port).up)
    (larderUpdate (ethSet (atTime s t) port { ethGet s port with up := true })))

/-- ETH_LINK_DOWN. -/
def execEthLinkDown (port t : Nat) (s : State) : Result :=
  withUnit (isEth port) (act s (!asleep s && (ethGet s port).up) (larderUpdate (portDown (atTime s t) port)))

end Sys2Proof.Machine
end

