-- ==== Sys2Proof/Machine/Ptp.lean ====
section
/-! DEFINITION. The PTP clock (R360 to R363): configuration, servo, messages, and the PPS pins. -/

namespace Sys2Proof.Machine

/-- The clock. -/
def ptpGet (s : State) : PtpState := s.net.ptp
def ptpSet (s : State) (p : PtpState) : State := { s with net := { s.net with ptp := p } }

/-- The clock with what its frequency has added until now taken into its offset. -/
def ptpSettled (s : State) : PtpState :=
  { ptpGet s with offset := ptpTime s - (s.now : Int), adjAt := s.now }

/-- Change the time by an amount; the gate schedules follow at their next cycle boundary (R362). -/
def ptpShift (s : State) (by_ : Int) : State :=
  let p := ptpSettled s
  let s1 := ptpSet s { p with offset := p.offset + by_ }
  { s1 with net := { s1.net with ports := tmap (fun x => if x.gates.isSome then { x with gateShift := x.gateShift - by_ } else x)
                                               s1.net.ports } }

/-- A step posts an event record and increments STEPS, which saturates (R362, Table 18.4). -/
def ptpStep (s : State) (by_ : Int) : State :=
  let s1 := ptpShift s by_
  logEvent (ptpSet s1 { ptpGet s1 with steps := min 0xFFFF ((ptpGet s1).steps + 1) }) 0x0403 7 0xFF none none

/-- The three conditions of R393. -/
def timeHolds (s : State) : Bool :=
  let p := ptpGet s
  (p.state == 3 || p.state == 4) && p.gm == s.fabric.checkGm && decide (p.offsetNs.natAbs ≤ s.fabric.timeLimit)

/-- Follow the conditions of time qualification: a gap ends it, and the 1 s before it starts when they come to hold (R393). -/
def timeJudge (s : State) : State :=
  if timeHolds s then
    { s with fabric := { s.fabric with qualSince := if s.fabric.qualSince.isNone then some s.now else s.fabric.qualSince } }
  else { s with fabric := { s.fabric with qualSince := none, qualified := false } }

/-- The configuration of a SET_PTP buffer (Table 18.3). -/
def readPtp (d : Bytes) : PtpConfig :=
  { mode := u8 d 0, domain := u8 d 1, priority1 := u8 d 2, priority2 := u8 d 3, portMask := u16 d 4, logSync := s8 d 6,
    logAnnounce := s8 d 7, logDelay := s8 d 8, announceTimeout := u8 d 9, flags := u8 d 0xA, stepNs := u32 d 0xC,
    slewPpb := u32 d 0x10, ppsWidth := u32 d 0x14, tod := u64 d 0x18 }

/-- The ranges of Table 18.3. -/
def chkPtp (fn : Nat) (data : Bytes) (s : State) (e : Bytes) : Option Reply :=
  let d := readData s fn e data
  orElse (fieldCheck [(decide (32 ≤ cmdDataLen e), 0x10)])
    (dataCheck [([0, 1, 2, 3, 5].contains (u8 d 0), 0), (decide (u8 d 1 ≤ 127), 1), (inRangeI (s8 d 6) (-7) 1, 6),
      (inRangeI (s8 d 7) (-3) 1, 7), (inRangeI (s8 d 8) (-7) 1, 8), (inRange (u8 d 9) 2 10, 9), (decide (u8 d 0xA ≤ 3), 0xA),
      (u8 d 0xB == 0, 0xB), (inRange (u32 d 0xC) 1000 1000000000, 0xC), (inRange (u32 d 0x10) 1000 500000, 0x10),
      (inRange (u32 d 0x14) 1 500000, 0x14)])

/-- STATE after SET_PTP: a change of MODE starts the clock anew (log entry 46). -/
def ptpStart (p : PtpState) (c : PtpConfig) : PtpState :=
  if c.mode = p.cfg.mode then { p with cfg := c }
  else { p with cfg := c, state := if c.mode = 0 then 0 else 1, slavePort := 0xFF, announceAt := none }

/-- SET_PTP. -/
def execSetPtp (r : CmdRef) (data : Bytes) (s : State) : Result :=
  serve s r 0x52 (chkPtp r.fn data) (fun s e =>
    configured (timeJudge (ptpSet s (ptpStart (ptpGet s) (readPtp (readData s r.fn e data))))) r 0)

/-- The 32 bytes of Table 18.4. -/
def ptpReport (p : PtpState) : Bytes :=
  le 1 p.state ++ le 1 p.slavePort ++ le 2 p.steps ++ le 4 (toBits 32 p.offsetNs) ++ le 4 p.meanPath ++ le 4 (toBits 32 p.freq)
    ++ le 8 p.gm ++ le 8 (toBits 64 p.ppsInTime)

/-- QUERY_PTP. -/
def execQueryPtp (r : CmdRef) (s : State) : Result :=
  serve s r 0x53 (fun _ e => fieldCheck [(decide (32 ≤ cmdDataLen e), 0x10)]) (fun s e =>
    succeed (writeData s r.fn e (ptpReport (ptpGet s))) r 0)

/-- Does PTP run on a port: the clock is not free-running, PORT_MASK names the port, its PTP flag is set and it is up? -/
def ptpRuns (s : State) (p : Nat) : Bool :=
  (ptpGet s).cfg.mode != 0 && bitOf (ptpGet s).cfg.portMask p && bitOf (ethGet s p).cfg.flags 1 && (ethGet s p).up

/-- Has a clock a master that it follows (UNCALIBRATED or SLAVE)? -/
def ptpFollows (p : PtpState) : Bool := p.state == 2 || p.state == 3

/-- Is a port in master role: the clock is MASTER, or it is a boundary clock and follows a master on another port? -/
def ptpMaster (p : PtpState) (port : Nat) : Bool :=
  p.state == 4 || (p.cfg.mode == 3 && ptpFollows p && p.slavePort != port)

/-- STATE that the best master clock algorithm decides, within the role of MODE: a slave-only clock is never MASTER and a PPS
reference follows no master (log entry 46). -/
def ptpRole (c : PtpConfig) (st : Nat) : Nat :=
  if c.mode = 1 then (if st = 4 then 1 else min st 5)
  else if c.mode = 5 then (if st = 4 then 4 else 1)
  else min st 5

/-- The servo (R362): an offset above STEP_NS steps the clock; otherwise the frequency changes by at most SLEW_PPB. -/
def ptpServo (s : State) (m : PtpIn) : State :=
  let s1 := ptpSet s { ptpGet s with offsetNs := m.offset, meanPath := m.meanPath, state := ptpRole (ptpGet s).cfg m.bmcState }
  if (ptpGet s).cfg.stepNs < m.offset.natAbs then ptpStep s1 (-m.offset)
  else
    let p := ptpSettled s1
    let w : Int := p.cfg.slewPpb
    ptpSet s1 { p with freq := max (p.freq - w) (min (p.freq + w) m.freq) }

/-- An Announce message: the state decision, its grandmaster and the port that follows it. -/
def ptpAnnounce (s : State) (m : PtpIn) : State :=
  let p := ptpGet s
  let st := ptpRole p.cfg m.bmcState
  let follows := st = 2 || st = 3
  ptpSet s { p with state := st, slavePort := if follows then m.port else 0xFF, gm := m.gm,
                    announceAt := if follows then some s.now else p.announceAt }

/-- Send a PTP message: the PTP time at which it leaves, and the clock's data. -/
def ptpSend (s : State) (port kind : Nat) : State :=
  let c := (ptpGet s).cfg
  countEth (emit s (.ptp port kind [ptpTime s, (c.domain : Int), (c.priority1 : Int), (c.priority2 : Int)])) port 13 1

/-- PTP_MESSAGE_RX: kinds 0 Sync, 1 Announce, 2 Delay_Req, 3 Delay_Resp.  A measurement counts when it comes from the
followed master; a port in master role answers a Delay_Req. -/
def execPtpMessageRx (m : PtpIn) (s : State) : Result :=
  withUnit (isEth m.port) (act s (!asleep s && ptpRuns s m.port && m.domain == (ptpGet s).cfg.domain) (
    let s1 := atTime s m.t
    match m.kind with
    | 1 => timeJudge (ptpAnnounce (countEth s1 m.port 12 1) m)
    | 2 => if ptpMaster (ptpGet s1) m.port then ptpSend s1 m.port 3 else s1
    | 3 =>
      let s2 := countEth s1 m.port 12 1
      if ptpFollows (ptpGet s2) && (ptpGet s2).slavePort == m.port then timeJudge (ptpServo s2 m) else s2
    | _ => if ptpFollows (ptpGet s1) && (ptpGet s1).slavePort == m.port then timeJudge (ptpServo s1 m) else s1))

/-- An interval of 2 to the power `k` seconds, in ns. -/
def logInterval (k : Int) : Nat := if k < 0 then 1000000000 / 2 ^ k.natAbs else 1000000000 * 2 ^ k.natAbs

/-- The interval of a message kind. -/
def ptpInterval (c : PtpConfig) (kind : Nat) : Nat :=
  logInterval (match kind with | 0 => c.logSync | 1 => c.logAnnounce | _ => c.logDelay)

/-- May the port send the kind now: Sync and Announce in master role, Delay_Req on the port that follows a master? -/
def ptpMaySend (s : State) (port kind : Nat) : Bool :=
  let p := ptpGet s
  ptpRuns s port && (match kind with
    | 0 => ptpMaster p port
    | 1 => ptpMaster p port
    | 2 => ptpFollows p && p.slavePort == port
    | _ => false)

/-- Has the interval since the port's last message of the kind passed? -/
def ptpDue (s : State) (port kind t : Nat) : Bool :=
  match tfind (ptpGet s).lastMsg (port * 4 + kind) with
  | some at_ => decide (at_ + ptpInterval (ptpGet s).cfg kind ≤ t)
  | none => true

/-- PTP_MESSAGE_TIMER: without ONE_STEP a Follow_Up (kind 4) carries the time of the Sync. -/
def execPtpMessageTimer (port kind t : Nat) (s : State) : Result :=
  withUnit (isEth port) (act s (!asleep s && ptpMaySend s port kind && ptpDue s port kind (max s.now t)) (
    let s1 := atTime s t
    let s2 := ptpSend (ptpSet s1 { ptpGet s1 with lastMsg := tset (ptpGet s1).lastMsg (port * 4 + kind) s1.now }) port kind
    if kind = 0 && !bitOf (ptpGet s2).cfg.flags 0 then ptpSend s2 port 4 else s2))

/-- ANNOUNCE_TIMEOUT: the last master is lost; the clock holds its frequency (R362). -/
def execAnnounceTimeout (t : Nat) (s : State) : Result :=
  act s (!asleep s && ptpFollows (ptpGet s)
      && decide ((ptpGet s).announceAt.getD 0 + (ptpGet s).cfg.announceTimeout * logInterval (ptpGet s).cfg.logAnnounce ≤ max s.now t))
    (timeJudge (ptpSet (atTime s t) { ptpGet s with state := 5, slavePort := 0xFF }))

/-- The clock of MODE 0x5 takes its phase from the edge and its seconds from TOD_SECONDS. -/
def ptpFromPps (s : State) : State :=
  let p := ptpGet s
  let by_ := (p.cfg.tod : Int) * 1000000000 - ptpTime s
  let s1 := if p.cfg.stepNs < by_.natAbs then ptpStep s by_ else ptpShift s by_
  let q := ptpGet s1
  ptpSet s1 { q with cfg := { q.cfg with tod := (q.cfg.tod + 1) % 2 ^ 64 } }

/-- PPS_IN_EDGE (R363): the edge is timestamped. -/
def execPpsInEdge (t : Nat) (s : State) : Result :=
  act s (!asleep s) (
    let s1 := atTime s t
    let s2 := if (ptpGet s1).cfg.mode = 5 then ptpFromPps s1 else s1
    ptpSet s2 { ptpGet s2 with ppsInTime := ptpTime s2 })

/-- PPS_OUT (R363): high for PPS_WIDTH_US from each whole second of PTP time on. -/
def execPpsOut (t : Nat) (s : State) : Result :=
  act s (!dead s) (
    let s1 := atTime s t
    { s1 with pins := { s1.pins with ppsOut := decide ((ptpTime s1) % 1000000000 < ((ptpGet s1).cfg.ppsWidth * 1000 : Nat)) } })

end Sys2Proof.Machine
end

