-- ==== Sys2Proof/Machine/Fabric.lean ====
section
/-! DEFINITION. The Crew Fabric: membership, leases, failover, time qualification and the fabric commands (R377 to R398). -/

namespace Sys2Proof.Machine

/-! ### Receiving (R380 to R382, R394) -/

/-- Change the fabric state. -/
def fabSet (s : State) (f : FabricState → FabricState) : State := { s with fabric := f s.fabric }

/-- Count a discard (CLP_DISCARDS). -/
def clpDiscard (s : State) : State := fabSet s (fun f => { f with discards := f.discards + 1 })

/-- The newest epoch that this device holds. -/
def heldEpoch (s : State) : Nat :=
  match s.fabric.prepared with
  | some p => max s.fabric.epoch p.epoch
  | none => s.fabric.epoch

/-- The epoch in force for a frame of a session: the newest committed one with a change of the session at or before the frame. -/
def epochFor (s : State) (session frame : Nat) : Nat :=
  match s.fabric.epochs.find? (fun p => p.changes.any (fun c => c.1 == session && decide (c.2 ≤ frame))) with
  | some p => p.epoch
  | none => 0

/-- Receive window of a sender's stream, unicast or multicast (R381). -/
def rxKey (h : ClpHdr) : Nat := h.sender * 2 + (if h.dest = clpAll then 1 else 0)

/-- Is the message a duplicate? -/
def rxDup (s : State) (h : ClpHdr) : Bool :=
  match tfind s.fabric.rx (rxKey h) with
  | some w => decide (h.seq + 64 < w.highest) || w.seen.contains h.seq
  | none => false

/-- Mark a message in its window. -/
def rxMark (s : State) (h : ClpHdr) : State :=
  let w := (tfind s.fabric.rx (rxKey h)).getD ⟨h.seq, []⟩
  let top := max w.highest h.seq
  fabSet s (fun f => { f with rx := tset f.rx (rxKey h) ⟨top, h.seq :: w.seen.filter (fun n => decide (top ≤ n + 64))⟩ })

/-- Acknowledge a message that asks for it: same type and SEQ (R382). -/
def clpAck (s : State) (h : ClpHdr) (kind : Nat) (fields : List Nat) : State :=
  if h.ackReq then emit s (.clp (kind + clpIsAck) h.sender h.seq fields) else s

/-- Do the header checks before TERM discard the message: no MACsec, another fabric, another major version? -/
def clpForeign (s : State) (h : ClpHdr) : Option State :=
  if !h.macsec then some (fabSet s (fun f => { f with unprotected := f.unprotected + 1 }))
  else if h.fabric != s.fabric.fabricId || h.verMajor != 1 then some (clpDiscard s)
  else none

/-- Receive a message of the fabric (Table 19.4): `old` says that its epoch is older than the one in force for its frame, `i` is
the message, held while its epoch is not known (EPOCH_ADVANCE itself is never held); `k` is its effect and `a` the body of its acknowledgement, sent after it. -/
def clpIn (s0 : State) (h : ClpHdr) (kind : Nat) (i : Option Instr) (old : Bool) (k : State → State) (a : List Nat) : State :=
  let s := atTime s0 h.t
  match clpForeign s h with
  | some s1 => s1
  | none =>
    if !s.fabric.joined || decide (h.term < s.fabric.term) || old then clpDiscard s
    else if s.mode == .manager && decide (s.fabric.term < h.term) then leaveFabric s
    else if i.isSome && decide (heldEpoch s < h.epoch) then
      fabSet (sendClp s 0x0C s.fabric.manager []) (fun f => { f with heldMsgs := f.heldMsgs ++ (i.map (fun m => (m, h.epoch, s.now))).toList })
    else if rxDup s h then clpAck (fabSet s (fun f => { f with duplicates := f.duplicates + 1 })) h kind a
    else clpAck (k (rxMark s h)) h kind a

/-- One event record for a reaction other than a discard (R394); the manual lists no code of its own (log entry 10). -/
def logFabric (s : State) : State :=
  let (c, s1) := draw s 256
  logEvent s1 (0x0100 + c) 7 45 none none

/-- Enter Quarantine: no session runs and no work is assigned (Table 12.1). -/
def quarantine (s : State) : State :=
  let s1 := (sessList s).foldl (fun s x => if x.placed then destroySession s x else s) s
  logFabric (setMode (larderUpdate s1) .quarantine)

/-! ### LEASE_RENEW (R386, R393) -/

/-- STATUS of LEASE_RENEW. -/
def memberStatus (s : State) : Nat :=
  (if s.fabric.qualified then 1 else 0) + (if s.degraded then 2 else 0) + (if s.mode == .quarantine then 4 else 0)

/-- Send LEASE_RENEW to a manager. -/
def sendRenew (s : State) (dst : Nat) : State :=
  let p := ptpGet s
  fabSet (sendAcked s 0x04 dst [memberStatus s, s.fabric.unreachable, toBits 32 p.offsetNs, p.gm])
    (fun f => { f with lastRenew := some s.now })

/-- LEASE_RENEW_TIMER: every 100 ms. -/
def execLeaseRenewTimer (t : Nat) (s : State) : Result :=
  act s (!asleep s && s.fabric.joined && s.mode != .manager
      && (match s.fabric.lastRenew with | some v => decide (v + 100000000 ≤ max s.now t) | none => true))
    (sendRenew (atTime s t) s.fabric.manager)

/-- LEASE_EXPIRY: the lease ends, which is class 4 of the fabric link (R386, Table 20.2). -/
def execLeaseExpiry (t : Nat) (s : State) : Result :=
  act s (!asleep s && s.fabric.joined && s.mode != .manager
      && (match s.fabric.leaseEnd with | some v => decide (v ≤ max s.now t) | none => false))
    (class4 (recordFault (atTime s t) 45 4 none))

/-! ### Loss of a member and promotion (R178, R190, R387) -/

/-- The session of a fabric number. -/
def sessOfFabric (s : State) (n : Nat) : Option Session := (fabricSessions s).find? (fun x => x.dist.fabricSession == n && n != 0)

/-- The member that holds a role. -/
def roleHolder (s : State) (session region role : Nat) : Option Nat :=
  (s.fabric.members.find? (fun p => p.2.roles.contains (session, region, role))).map (·.1)

/-- A session that needs a new role holder: any member that may hold it and is not to be used (log entry 48). -/
def newHolder (s : State) (x : Session) (not_ : List Nat) : Option Nat :=
  ((holders s (u8 x.cfg 0x1CD == 1) (sessVersion s x.cfg)).filter (fun m => !not_.contains m)).head?

/-- Assign a new holder of a role from the next sync point on. -/
def reassign (s : State) (x : Session) (region role : Nat) (not_ : List Nat) : State :=
  match newHolder s x not_ with
  | some m => giveRole s x.id m region role x.enc.nextFrame
  | none => s

/-- Send PROMOTE: multicast, then to the promoted device, naming the first slice that COMMIT does not cover. -/
def sendPromote (s : State) (x : Session) (region dst : Nat) : State :=
  let first := if region = 0xFFFF then x.dist.released else x.dist.received
  let l := [x.dist.fabricSession, region, dst, x.dist.commitFrame, first]
  let s1 := sendClp s 0x0B clpAll l
  if dst = s.fabric.member then s1 else sendAcked s1 0x0B dst l

/-- Promote the shadow of a region, or the shadow collator (region 0xFFFF), and give the session a new shadow; without one the
region takes class 3 and is placed anew (R178, R190, R191). -/
def promote (s : State) (id session region lost : Nat) : State :=
  let (from_, to_) := if region = 0xFFFF then (3, 2) else (1, 0)
  match sessById s id with
  | none => s
  | some x =>
    match roleHolder s session region from_ with
    | some m =>
      let s1 := addRole (dropRole s m session region from_) m session region to_
      let s2 := editSession s1 id (fun y => { y with dist := { y.dist with
        regions := if region = 0xFFFF then y.dist.regions else y.dist.regions.filter (fun p => p.1 ≠ region) ++ [(region, m)]
        roles := if m = s.fabric.member then (y.dist.roles.filter (· ≠ (region, from_))) ++ [(region, to_)] else y.dist.roles
        promoted := if m = s.fabric.member then region :: y.dist.promoted else y.dist.promoted } })
      reassign (sendPromote s2 x region m) x region from_ [m, lost]
    | none =>
      let s1 := reassign (enterResync (recordFault s 45 3 none) x) x region to_ [lost]
      s1

/-- What losing one role asks of the manager. -/
def loseRole (s : State) (lost : Nat) (r : Nat × Nat × Nat) : State :=
  match sessOfFabric s r.1 with
  | none => s
  | some x =>
    let s1 := dropRole s lost r.1 r.2.1 r.2.2
    match r.2.2 with
    | 0 => promote s1 x.id r.1 r.2.1 lost
    | 2 => if regionCount x.cfg = 1 && (roleHolder s1 r.1 0xFFFF 3).isNone then reassign s1 x 0xFFFF 2 [lost]
           else promote s1 x.id r.1 0xFFFF lost
    | k => reassign s1 x r.2.1 k ([lost] ++ (roleHolder s1 r.1 r.2.1 (if k = 3 then 2 else 0)).toList)

/-- The manager loses a member (R387): FENCE unless it fenced itself, its roles go to others, its entry goes. -/
def loseMember (s : State) (m reason : Nat) (tell : Bool) : State :=
  match memberGet s m with
  | none => s
  | some x =>
    if m = s.fabric.member then s
    else
      let s1 := if tell then sendAcked s 0x0A m [m, reason, 0] else s
      let s2 := x.roles.foldl (fun s r => loseRole s m r) s1
      let s3 := fabSet s2 (fun f => { f with members := tdel f.members m, standby := if f.standby = m then 0xFFFF else f.standby })
      settleEpoch (logFabric s3)

/-- MEMBER_LOST: no LEASE_RENEW for 500 ms. -/
def execMemberLost (member t : Nat) (s : State) : Result :=
  act s (!asleep s && s.mode == .manager
      && (match memberGet s member with | some x => decide (x.lastRenew + 500000000 ≤ max s.now t) | none => false))
    (loseMember (atTime s t) member 1 true)

/-- Withdraw a member's roles of some kinds and give them to others (R393). -/
def moveRoles (s : State) (m : Nat) (p : Nat → Bool) : State :=
  match memberGet s m with
  | none => s
  | some x =>
    (x.roles.filter (fun r => p r.2.2)).foldl (fun s r =>
      match sessOfFabric s r.1 with
      | some y => takeRole (loseRole s m r) y.id m r.2.1 r.2.2
      | none => s) s

/-- The manager takes a LEASE_RENEW: the member's state, a collator that lost qualification, an unreachable member. -/
def renewIn (s : State) (h : ClpHdr) (status unreachable : Nat) (offset : Int) (gm : Nat) : State :=
  if s.mode != .manager then s
  else
    let x := (memberGet s h.sender).getD
      { serial := 0, version := s.fabric.current, fw := 0, headless := true, quarantined := false, status := 0, offset := 0,
        gm := 0, lastRenew := 0, unqualSince := none, ackedEpoch := false, naked := 0, roles := [] }
    let s1 := memberPut s h.sender { x with
      status := status, offset := offset, gm := gm, lastRenew := s.now, quarantined := bitOf status 2,
      unqualSince := if bitOf status 0 then none else if x.unqualSince.isSome then x.unqualSince else some s.now }
    let s2 := if bitOf status 0 then s1 else moveRoles s1 h.sender (fun r => r == 2 || r == 3)
    if unreachable = 0xFFFF then s2 else loseMember s2 unreachable 3 true

/-- LEASE_RENEW: the acknowledgement carries LEASE_MS. -/
def leaseRenewIn (h : ClpHdr) (status unreachable : Nat) (offset : Int) (gm : Nat) (s : State) : State :=
  clpIn s h 0x04 (some (.leaseRenew h status unreachable offset gm)) false (fun s => renewIn s h status unreachable offset gm) [500]
def execLeaseRenew (h : ClpHdr) (status unreachable : Nat) (offset : Int) (gm : Nat) (s : State) : Result :=
  act s (!asleep s) (leaseRenewIn h status unreachable offset gm s)

/-- UNQUAL_HOLD_EXPIRY (R393). -/
def execUnqualHoldExpiry (member t : Nat) (s : State) : Result :=
  act s (!asleep s && s.mode == .manager
      && (match memberGet s member with
          | some x => (match x.unqualSince with
              | some v => decide (v + s.fabric.unqualHold * 1000000000 ≤ max s.now t)
              | none => false)
          | none => false))
    (moveRoles (atTime s t) member (fun r => r == 0 || r == 1))

/-! ### HELLO (R383, R388, R389) -/

/-- Multicast HELLO. -/
def sendHello (s : State) : State :=
  fabSet (sendClp s 0x01 clpAll [s.fabric.standby, s.fabric.members.length, (ptpGet s).gm, s.fabric.current, s.fabric.next])
    (fun f => { f with lastHelloSent := some s.now })

/-- HELLO_TIMER: every 100 ms. -/
def execHelloTimer (t : Nat) (s : State) : Result :=
  act s (!asleep s && s.mode == .manager
      && (match s.fabric.lastHelloSent with | some v => decide (v + 100000000 ≤ max s.now t) | none => true))
    (sendHello (atTime s t))

/-- Send JOIN_REQ to the manager (R385). -/
def sendJoin (s : State) : State :=
  let cores := (List.range 4).foldl (fun n k => n + (usableCores s k).length) 0
  let s1 := fabSet s (fun f => { f with joining := f.joining.map (fun j => (j.1, s.now)), joinSeen := true })
  sendAcked s1 0x02 s.fabric.manager [Config.serial, ownVersion s, (activeFacts s).version,
    if s.foreman.platform.headless then 1 else 0, if s.fabric.qualified then 1 else 0, cores, poolFree s / 1048576]

/-- The role that HELLO names for this device (R377, log entry 49). -/
def helloRole (s : State) (standby : Nat) : State :=
  if s.mode == .worker && standby == s.fabric.member then setMode s .standby
  else if s.mode == .standby && standby != s.fabric.member then setMode s .worker
  else s

/-- A quarantined member whose version and hash now match is a worker (Table 12.2). -/
def leaveQuarantine (s : State) : State :=
  let v := ownVersion s
  if s.mode == .quarantine && !s.fabric.hashBad && (v == s.fabric.current || (s.fabric.next != 0 && v == s.fabric.next)) then
    setMode s .worker
  else s

/-- What a member takes from HELLO: the manager, its versions and standby; a higher TERM is answered at once. -/
def helloMember (s : State) (h : ClpHdr) (standby current next : Nat) : State :=
  let higher := decide (s.fabric.term < h.term)
  let s1 := fabSet s (fun f => { f with lastHello := some s.now, manager := h.sender, term := h.term, standby := standby,
                                        current := current, next := next })
  let s2 := leaveQuarantine (helloRole s1 standby)
  if higher then sendRenew s2 h.sender else s2

/-- HELLO: a joining device answers with JOIN_REQ; of two managers of one TERM the higher member number leaves. -/
def helloIn (h : ClpHdr) (standby current next : Nat) (s0 : State) : State :=
  let s := atTime s0 h.t
  match clpForeign s h with
  | some s1 => s1
  | none =>
    if s.fabric.joining.isSome then
      if s.fabric.joinSeen then s
      else sendJoin (fabSet s (fun f => { f with manager := h.sender, term := h.term, current := current, next := next }))
    else if !s.fabric.joined || decide (h.term < s.fabric.term) then clpDiscard s
    else if s.mode == .manager then
      if s.fabric.term < h.term || (h.sender < s.fabric.member) then leaveFabric s else s
    else helloMember s h standby current next
def execHello (h : ClpHdr) (standby _members _gm current nextVersion : Nat) (s : State) : Result :=
  act s (!asleep s) (helloIn h standby current nextVersion s)

/-- The standby takes over (R388): TERM rises, HELLO goes out at once, a new standby is named from the workers that are known and
not headless. -/
def takeOver (s : State) : State :=
  let s1 := fabSet s (fun f => { f with term := f.term + 1, manager := f.member, leaseEnd := none, lastCheck := none })
  let me : Member := { serial := Config.serial, version := ownVersion s, fw := (activeFacts s).version, headless := false,
                       quarantined := false, status := memberStatus s, offset := (ptpGet s).offsetNs, gm := (ptpGet s).gm,
                       lastRenew := s.now, unqualSince := none, ackedEpoch := true, naked := 0,
                       roles := (fabricSessions s).flatMap (fun x => x.dist.roles.map (fun r => (x.dist.fabricSession, r.1, r.2))) }
  let s2 := memberPut s1 s1.fabric.member me
  let s3 := fabSet s2 (fun f => { f with
    members := tmap (fun x => { x with lastRenew := s.now }) f.members
    standby := (((f.members.filter (fun p => p.1 != f.member && !p.2.headless && !p.2.quarantined)).map (·.1)).head?).getD 0xFFFF })
  sendHello (setMode s3 .manager)

/-- MANAGER_TAKEOVER: no HELLO for 310 ms; time-qualified and in the current epoch. -/
def execManagerTakeover (t : Nat) (s : State) : Result :=
  act s (!asleep s && s.mode == .standby && s.fabric.qualified && s.fabric.heldMsgs.isEmpty
      && (match s.fabric.lastHello with | some v => decide (v + 310000000 ≤ max s.now t) | none => false))
    (takeOver (atTime s t))

/-! ### Joining (R379, R385) -/

/-- The lowest free member number. -/
def freeMember (s : State) : Option Nat := ((List.range 1024).filter (fun m => (memberGet s m).isNone)).head?

/-- RESULT, ROLE and member number of a JOIN_REQ, by the steps of R385; a device that rejoins keeps its number. -/
def judgeJoin (s : State) (h : ClpHdr) (serial version : Nat) (headless : Bool) : Nat × Nat × Nat :=
  let again := (s.fabric.members.find? (fun p => p.2.serial == serial)).map (·.1)
  let claims := match memberGet s h.sender with | some x => x.serial != serial | none => false
  if h.verMajor != 1 then (3, 0, 0xFFFF)
  else match again, freeMember s with
    | none, none => (2, 0, 0xFFFF)
    | a, b =>
      let m := a.getD (b.getD 0xFFFF)
      if claims then (2, 0, 0xFFFF)
      else if !(version == s.fabric.current || (s.fabric.next != 0 && version == s.fabric.next)) then (1, 3, m)
      else if s.fabric.standby = 0xFFFF && !headless then (0, 2, m)
      else (0, 3, m)

/-- The manager answers a JOIN_REQ with JOIN_ACK: RESULT, ROLE, MEMBER, LEASE_MS, CONFIG_HASH. -/
def answerJoin (s : State) (h : ClpHdr) (serial version fw : Nat) (headless qual : Bool) : State :=
  let (res, role, m) := judgeJoin s h serial version headless
  let x : Member := { serial := serial, version := version, fw := fw, headless := headless, quarantined := decide (res = 1),
                      status := if qual then 1 else 0, offset := 0, gm := 0, lastRenew := s.now, unqualSince := none,
                      ackedEpoch := true, naked := 0, roles := [] }
  let s1 := if res ≤ 1 then
      fabSet (memberPut s m x) (fun f => { f with standby := if role = 2 then m else f.standby, txSeq := tdel f.txSeq m,
                                                  rx := tdel (tdel f.rx (m * 2)) (m * 2 + 1) })
    else s
  emit s1 (.clp (0x03 + clpIsAck) h.sender h.seq [res, role, m, 500, hashFor s1 m])

/-- JOIN_REQ: only a manager answers; a differing VER_MAJOR is answered too (Table 19.4). -/
def execJoinReq (h : ClpHdr) (serial version fwVersion : Nat) (headless timeQualified : Bool) (_cores _hbmMib _configHash : Nat)
    (s : State) : Result :=
  act s (!asleep s) (
    let s1 := atTime s h.t
    if !h.macsec then fabSet s1 (fun f => { f with unprotected := f.unprotected + 1 })
    else if h.fabric != s1.fabric.fabricId || s1.mode != .manager then clpDiscard s1
    else answerJoin s1 h serial version fwVersion headless timeQualified)

/-- The end of a join: FABRIC_JOIN completes, if one waits. -/
def endJoin (s : State) (a : Reply) : State :=
  let s1 := fabSet s (fun f => { f with joining := none, joinSeen := false, unacked := f.unacked.filter (fun u => u.kind ≠ 2) })
  match s.fabric.joining with
  | some (some r, _) => finish s1 r a
  | _ => s1

/-- A device becomes a member: its lease runs from the send time of JOIN_REQ. -/
def becomeMember (s : State) (h : ClpHdr) (sentAt result role m leaseMs configHash : Nat) : State :=
  let s1 := fabSet s (fun f => { f with
    joined := true, member := m, term := h.term, epoch := h.epoch, epochs := [], manager := h.sender,
    leaseEnd := some (sentAt + leaseMs * 1000000), lastHello := some s.now, lastRenew := none, txSeq := [], rx := [],
    unacked := [], hashBad := false })
  let bad := decide (result = 1) || configHash != Sys2Proof.Machine.configHash s1 (fabricSessions s1)
  let s2 := if result = 0 && bad then fabSet s1 (fun f => { f with hashBad := true }) else s1
  setMode s2 (if bad then .quarantine else if role = 2 then .standby else .worker)

/-- JOIN_ACK (R385). -/
def execJoinAck (h : ClpHdr) (result role member leaseMs configHash : Nat) (s : State) : Result :=
  act s (!asleep s && s.fabric.joining.isSome && s.fabric.joinSeen && h.macsec && h.fabric == s.fabric.fabricId) (
    let s1 := atTime s h.t
    let sentAt := (s.fabric.joining.map (·.2)).getD 0
    match result with
    | 3 => endJoin s1 ⟨stVersionMismatch, 0, h.verMajor⟩
    | 2 => endJoin s1 (failWith stNoResource)
    | _ => endJoin { becomeMember s1 h sentAt result role member leaseMs configHash with
        fabric := { (becomeMember s1 h sentAt result role member leaseMs configHash).fabric with joining := s.fabric.joining } }
        (ok member))

/-- JOIN_RETRY: 1 s after the retransmissions of R382 went unanswered. -/
def execJoinRetry (t : Nat) (s : State) : Result :=
  act s (!asleep s && s.fabric.joinSeen && s.fabric.unacked.all (fun u => u.kind != 2)
      && (match s.fabric.joining with | some j => decide (j.2 + 1001200000 ≤ max s.now t) | none => false))
    (sendJoin (atTime s t))

/-- Begin to join: wait for a HELLO of the fabric. -/
def startJoin (s : State) (id : Nat) (group : Bytes) (r : Option CmdRef) : State :=
  fabSet s (fun f => { f with fabricId := id, group := group, joining := some (r, s.now), joinSeen := false, rejoinAt := none })

/-- HEADLESS_REJOIN (R379). -/
def execHeadlessRejoin (t : Nat) (s : State) : Result :=
  act s (!asleep s && s.mode == .ready && s.foreman.platform.headless && s.fabric.joining.isNone
      && (match s.fabric.rejoinAt with | some v => decide (v ≤ max s.now t) | none => false))
    (startJoin (atTime s t) s.foreman.platform.fabricId s.foreman.platform.groupAddress none)

/-! ### Time qualification (R393) -/

/-- TIME_CHECK: GM_IDENTITY and TIME_LIMIT_NS are the manager's. -/
def timeCheckIn (h : ClpHdr) (managerPtp gm domain limit : Nat) (s : State) : State :=
  clpIn s h 0x0D (some (.timeCheck h managerPtp gm domain limit)) false
    (fun s => timeJudge (fabSet s (fun f => { f with checkGm := gm, timeLimit := limit, lastCheck := some s.now }))) []
def execTimeCheck (h : ClpHdr) (managerPtp gm domain limit : Nat) (s : State) : Result :=
  act s (!asleep s && s.mode != .manager) (timeCheckIn h managerPtp gm domain limit s)

/-- TIME_CHECK_TIMER: the manager multicasts every 1 s, and is judged by it as well. -/
def execTimeCheckTimer (t : Nat) (s : State) : Result :=
  act s (!asleep s && s.mode == .manager
      && (match s.fabric.lastCheck with | some v => decide (v + 1000000000 ≤ max s.now t) | none => true)) (
    let s1 := atTime s t
    let s2 := sendClp s1 0x0D clpAll [ptp64 s1, (ptpGet s1).gm, (ptpGet s1).cfg.domain, s1.fabric.timeLimit]
    timeJudge (fabSet s2 (fun f => { f with checkGm := (ptpGet s1).gm, lastCheck := some s1.now })))

/-- TIME_QUALIFIED: the three conditions have held for 1 s. -/
def execTimeQualified (t : Nat) (s : State) : Result :=
  act s (!asleep s && s.fabric.joined && timeHolds s
      && (match s.fabric.qualSince with | some v => decide (v + 1000000000 ≤ max s.now t) | none => false)) (
    let s1 := fabSet (atTime s t) (fun f => { f with qualified := true })
    match memberGet s1 s1.fabric.member with
    | some x => memberPut s1 s1.fabric.member { x with status := memberStatus s1 }
    | none => s1)

/-! ### Retransmission and acknowledgements (R382, R391) -/

/-- After the fifth retransmission: the destination is reported unreachable, class 1 of the fabric link; the manager fences it. -/
def giveUp (s : State) (u : Unacked) : State :=
  if u.kind = 2 then s
  else
    let s1 := (collect s 45 0 1 none).2
    if s1.mode == .manager then loseMember s1 u.dest 3 true
    else fabSet s1 (fun f => { f with unreachable := u.dest })

/-- CLP_RETRANSMIT: 200 µs after the last send. -/
def execClpRetransmit (dest seq t : Nat) (s : State) : Result :=
  act s (!asleep s) (
    match s.fabric.unacked.find? (fun u => u.dest == dest && u.seq == seq) with
    | none => s
    | some u =>
      let s1 := atTime s t
      if s1.now < u.sentAt + (u.tries + 1) * 200000 then s
      else if u.tries < 5 then
        emit (fabSet s1 (fun f => { f with
          retransmits := f.retransmits + 1
          unacked := f.unacked.map (fun v => if v = u then { v with tries := v.tries + 1 } else v) }))
          (.clp (u.kind + clpAckReq + clpRetx) dest seq u.fields)
      else giveUp (fabSet s1 (fun f => { f with unacked := f.unacked.filter (· ≠ u) })) u)

/-- Expel a member from an epoch change: PHASE 0x2 to it alone; it enters Quarantine and its roles move (R391, R392). -/
def abortMember (s : State) (m : Nat) (p : EpochChange) : State :=
  match memberGet s m with
  | none => s
  | some x =>
    let s1 := sendAcked s 0x0C m (epochFields s p 2 m)
    let s2 := x.roles.foldl (fun s r => loseRole s m r) s1
    settleEpoch (logFabric (memberPut s2 m { x with quarantined := true, roles := [] }))

/-- A NAK of EPOCH_ADVANCE: for a version Quarantine, for a hash the configurations again and a second check (R391). -/
def epochNak (s : State) (m : Nat) (p : EpochChange) : State :=
  match memberGet s m with
  | none => s
  | some x =>
    if x.version != p.version || x.naked != 0 then abortMember s m p
    else
      let s1 := memberPut s m { x with naked := 1 }
      let s2 := x.roles.foldl (fun s r => match sessOfFabric s r.1 with
        | some y => sendAssign s m r.1 r.2.2 r.2.1 y.enc.nextFrame y.cfg
        | none => s) s1
      sendAcked s2 0x0C m (epochFields s2 p 0 m)

/-- What an acknowledgement does: the lease, the epoch change, the strips of R175 (kind 0xF0). -/
def ackIn (s : State) (u : Unacked) (nak : Bool) (leaseMs : Nat) : State :=
  match u.kind with
  | 0x04 => fabSet s (fun f => { f with leaseEnd := some (u.sentAt + leaseMs * 1000000), unreachable := 0xFFFF })
  | 0x0C =>
    match s.fabric.prepared with
    | none => s
    | some p =>
      if s.mode != .manager || u.fields.head? != some 0 then s
      else if nak then epochNak s u.dest p
      else match memberGet s u.dest with
        | some x => settleEpoch (memberPut s u.dest { x with ackedEpoch := true })
        | none => s
  | _ => s

/-- CLP_ACK_RECEIVED. -/
def execClpAckReceived (h : ClpHdr) (kind seq : Nat) (nak : Bool) (leaseMs : Nat) (s : State) : Result :=
  act s (!asleep s) (
    let s1 := atTime s h.t
    match clpForeign s1 h with
    | some s2 => s2
    | none =>
      if !s1.fabric.joined || decide (h.term < s1.fabric.term) then clpDiscard s1
      else match s1.fabric.unacked.find? (fun u => u.dest == h.sender && u.seq == seq && u.kind == kind) with
        | none => s1
        | some u => ackIn (fabSet s1 (fun f => { f with unacked := f.unacked.filter (· ≠ u) })) u nak leaseMs)

/-! ### Fabric commands (Table 19.5) -/

/-- Modes of R395: in Standalone only FABRIC_QUERY; some commands only on the manager; creating and joining from Ready. -/
def fabricMode (s : State) (ok : OpMode → Bool) : Option Reply := if ok s.mode then none else some (notPermitted s)

/-- FABRIC_CREATE. -/
def execFabricCreate (r : CmdRef) (s : State) : Result :=
  serve s r 0x70 (fun s e =>
      orElse (if s.foreman.platform.headless then some (notPermitted s) else fabricMode s (· == .ready))
        (orElse (fieldCheck [(inRange (u32 e 28) 100 100000, 28), (inRange (u16 e 34) 1 600, 34)])
          (if s.fabric.joining.isSome then some (failWith stBusy) else none)))
    (fun s e =>
      let me : Member := { serial := Config.serial, version := ownVersion s, fw := (activeFacts s).version, headless := false,
                           quarantined := false, status := 0, offset := 0, gm := 0, lastRenew := s.now, unqualSince := none,
                           ackedEpoch := true, naked := 0, roles := [] }
      let s1 := fabSet s (fun f => { f with
        fabricId := u32 e 24, timeLimit := u32 e 28, port := u16 e 32, unqualHold := u16 e 34, group := slice e 36 16,
        joined := true, member := 0, manager := 0, standby := 0xFFFF, term := 1, epoch := 1, epochs := [],
        current := ownVersion s, next := 0, members := [(0, me)], txSeq := [], rx := [], unacked := [], nextSession := 1,
        lastHelloSent := none, lastCheck := none, qualSince := none, qualified := false })
      configured (setMode s1 .manager) r 0)

/-- FABRIC_JOIN: it completes when JOIN_ACK arrives. -/
def execFabricJoin (r : CmdRef) (s : State) : Result :=
  serve s r 0x71 (fun s _ => orElse (fabricMode s (· == .ready)) (if s.fabric.joining.isSome then some (failWith stBusy) else none))
    (fun s e => startJoin s (u32 e 24) (slice e 32 16) (some r))

/-- FABRIC_LEAVE: a leaving device tells the fabric with FENCE about itself (log entry 49). -/
def execFabricLeave (r : CmdRef) (s : State) : Result :=
  serve s r 0x72 (fun s e =>
      orElse (fabricMode s (fun m => m != .standalone && (m != .ready || s.fabric.joining.isSome)))
        (if s.mode == .manager && !(fabricSessions s).isEmpty && !bitOf (u8 e 24) 0 then some (failWith stBusy) else none))
    (fun s _ =>
      if s.fabric.joined then configured (leaveFabric (sendClp s 0x0A clpAll [s.fabric.member, 4, 0])) r 0
      else configured (endJoin s (failWith stAborted)) r 0)

/-- MODE of a member as the fabric knows it. -/
def memberMode (s : State) (m : Nat) (x : Member) : Nat :=
  if m = s.fabric.member then modeCode s.mode else if x.quarantined then 9
  else if m = s.fabric.manager then 6 else if m = s.fabric.standby then 7 else 8

/-- The 64 bytes of a member. -/
def memberEntry (s : State) (m : Nat) (x : Member) : Bytes :=
  padTo 64 (le 2 m ++ le 1 (memberMode s m x) ++ le 1 x.status ++ le 8 x.serial ++ le 4 x.version ++ le 4 x.roles.length
    ++ le 4 (toBits 32 x.offset) ++ le 4 s.fabric.epoch ++ le 4 s.fabric.term)

/-- This device as a member. -/
def selfMember (s : State) : Member :=
  { serial := Config.serial, version := ownVersion s, fw := (activeFacts s).version, headless := s.foreman.platform.headless,
    quarantined := false, status := memberStatus s, offset := (ptpGet s).offsetNs, gm := (ptpGet s).gm, lastRenew := s.now,
    unqualSince := none, ackedEpoch := true, naked := 0,
    roles := (fabricSessions s).flatMap (fun x => x.dist.roles.map (fun r => (x.dist.fabricSession, r.1, r.2))) }

/-- FABRIC_QUERY: as many members as the buffer holds. -/
def execFabricQuery (r : CmdRef) (s : State) : Result :=
  serve s r 0x73 (fun _ e => fieldCheck [(decide (u8 e 24 ≤ 1), 24)]) (fun s e =>
    let l := if u8 e 24 = 0 then [(s.fabric.member, selfMember s)]
             else s.fabric.members.map (fun p => if p.1 = s.fabric.member then (p.1, selfMember s) else p)
    let out := l.take (cmdDataLen e / 64)
    succeed (writeData s r.fn e (out.flatMap (fun p => memberEntry s p.1 p.2))) r out.length)

/-- FABRIC_SET_STANDBY. -/
def execFabricSetStandby (r : CmdRef) (s : State) : Result :=
  serve s r 0x75 (fun s e =>
      let m := u16 e 24
      orElse (fabricMode s (· == .manager))
        (fieldCheck [(m == 0xFFFF || (m != s.fabric.member && (match memberGet s m with
            | some x => !x.headless && !x.quarantined
            | none => false)), 24)]))
    (fun s e => configured (fabSet s (fun f => { f with standby := u16 e 24 })) r s.fabric.standby)

/-- Can every role of a member go to another one (R396)? -/
def drainable (s : State) (m : Nat) : Bool :=
  match memberGet s m with
  | none => false
  | some x => x.roles.all (fun r => match sessOfFabric s r.1 with
      | some y => (newHolder s y [m]).isSome || (roleHolder s r.1 r.2.1 (if r.2.2 = 2 then 3 else 1)).isSome
      | none => true)

/-- Complete a FABRIC_DRAIN whose member holds no role any more. -/
def settleDrain (s : State) : State :=
  match s.fabric.draining with
  | some (r, m, n) =>
    if (match memberGet s m with | some x => x.roles.isEmpty | none => true) then
      configured (fabSet s (fun f => { f with draining := none })) r n
    else s
  | none => s

/-- Move a role of a draining member: a primary gives way to its shadow, and gets one first where there is none (R396). -/
def drainRole (s : State) (m : Nat) (r : Nat × Nat × Nat) : State :=
  match sessOfFabric s r.1 with
  | none => dropRole s m r.1 r.2.1 r.2.2
  | some x =>
    if r.2.2 = 0 && (roleHolder s r.1 r.2.1 1).isNone then reassign s x r.2.1 1 [m]
    else takeRole (loseRole s m r) x.id m r.2.1 r.2.2

/-- FABRIC_DRAIN: it completes when the member holds no role. -/
def execFabricDrain (r : CmdRef) (s : State) : Result :=
  serve s r 0x74 (fun s e =>
      orElse (fabricMode s (· == .manager))
        (orElse (fieldCheck [((memberGet s (u16 e 24)).isSome, 24)])
          (if s.fabric.draining.isSome then some (failWith stBusy)
           else if drainable s (u16 e 24) then none else some (failWith stNoResource))))
    (fun s e =>
      let roles := match memberGet s (u16 e 24) with | some x => x.roles | none => []
      let s1 := fabSet s (fun f => { f with draining := some (r, u16 e 24, roles.length) })
      settleDrain (beginEpoch (roles.foldl (fun s q => drainRole s (u16 e 24) q) s1) (roles.map (fun q => (q.1, 0)))))

/-! ### Versions (R397, R398) -/

/-- The configuration with another determinism version. -/
def withVersion (c : Bytes) (v : Nat) : Bytes := c.take 0x1D0 ++ le 4 v ++ c.drop 0x1D4

/-- The ledger statistics of a session as snapshot fields. -/
def ledgerFields (x : Session) : List Nat :=
  x.enc.ledger.flatMap (fun p => [p.2.number, p.2.bits, p.2.complexity])

/-- When no session uses CURRENT_VERSION, NEXT_VERSION becomes current in one epoch advance (R398). -/
def settleVersion (s : State) : State :=
  if s.fabric.next != 0 && !(fabricSessions s).isEmpty
      && (fabricSessions s).all (fun x => sessVersion s (cfgAt x (x.enc.nextFrame + 2 ^ 63)) == s.fabric.next) then
    beginEpoch (fabSet s (fun f => { f with current := f.next, next := 0 })) []
  else s

/-- Move a session to members of NEXT_VERSION at a frame, which is coded as an intra picture. -/
def moveVersion (s : State) (x : Session) (v frame : Nat) (plan : List (Nat × Nat × Nat)) : State :=
  let n := x.dist.fabricSession
  let s1 := withdrawFabric s x
  let c := withVersion (cfgAt x frame) v
  let s2 := editSession s1 x.id (fun y => { y with
    pendingCfg := y.pendingCfg ++ [(frame, c)], enc := { y.enc with forced := frame :: y.enc.forced }
    dist := { y.dist with regions := [], roles := [] } })
  let s3 := plan.foldl (fun s p => giveRole s x.id p.1 p.2.1 p.2.2 frame) s2
  let s4 := ((plan.map (·.1)).eraseDups.filter (· ≠ s.fabric.member)).foldl
    (fun s m => sendAcked s 0x06 m ([n, 1, frame] ++ ledgerFields x)) s3
  settleVersion (beginEpoch s4 [(n, frame)])

/-- FABRIC_SET_VERSION: RESULT is the epoch of the change. -/
def execFabricSetVersion (r : CmdRef) (s : State) : Result :=
  serve s r 0x76 (fun s e =>
      orElse (fabricMode s (· == .manager))
        (if u32 e 28 = 0 then none
         else match sessOfFabric s (u32 e 28) with
          | none => some (badField 28)
          | some x => orElse (fieldCheck [(u32 e 24 != 0 && u32 e 24 == s.fabric.next, 24), (!isDispatched x (u64 e 32), 32)])
              (if (planRoles (holders s (u8 x.cfg 0x1CD == 1) (u32 e 24)) (regionCount x.cfg) (u8 x.cfg 0x1CD == 1)).isNone then
                some (failWith stNoResource) else none)))
    (fun s e =>
      let s1 := match sessOfFabric s (u32 e 28) with
        | none => beginEpoch (fabSet s (fun f => { f with next := u32 e 24 })) []
        | some x => moveVersion s x (u32 e 24) (u64 e 32)
            ((planRoles (holders s (u8 x.cfg 0x1CD == 1) (u32 e 24)) (regionCount x.cfg) (u8 x.cfg 0x1CD == 1)).getD [])
      configured s1 r (heldEpoch s1))

end Sys2Proof.Machine
end

