-- ==== Sys2Proof/Machine/Packetiser.lean ====
section
/-! DEFINITION. The packetiser (R110 to R124, R199, R260): release in bitstream order, the units around the coded data, memory
output, RTP, transport streams and chunk records; PACKET_RELEASE, BAND_RELEASE_TIME, TS_PSI_TIMER and FLUSH.  Formats that
the manual names by their standards are in log entry 42. -/

namespace Sys2Proof.Machine

/-! ### Bitstream order (R110 to R112) -/

/-- Slice of each row of a picture: (slice, unit of work, row in the unit), in bitstream order. -/
def rowsInOrder (c : Bytes) : List (Nat × Nat × Nat) :=
  let us := pictureUnits c
  let rows (l : List UnitRec) : List (UnitRec × Nat) := l.flatMap (fun u => (List.range u.rows).map (fun r => (u, r)))
  let tiles := (List.range ((tileCols c).length * (tileRows c).length)).flatMap (fun t => us.filter (fun u => u.tile = t))
  if cStd c = 3 then (rows tiles).map (fun p => (p.1.tile, p.1.index, p.2))
  else match u8 c 0x095 with
    | 1 => (rows tiles).zipIdx.map (fun p => (p.2, p.1.1.index, p.1.2))
    | 2 => (rows us).map (fun p => (p.1.band, p.1.index, p.2))
    | _ => (rows tiles).map (fun p => (p.1.tile, p.1.index, p.2))

/-- Does a slice wait for its last row: entry points, or a size that comes before the data (R111)? -/
def sliceWhole (c : Bytes) : Bool :=
  (wavefrontOn c && u8 c 0x095 != 1 && cStd c != 3) || (u8 c 0x095 == 2 && cStd c != 3 && 1 < (tileCols c).length * (tileRows c).length)
    || (cSink c == 0 && (u8 c 0x180 == 1 || cStd c == 3))

/-- Does the whole temporal unit wait (AV1 Annex B, R111)? -/
def unitWhole (c : Bytes) : Bool := cStd c == 3 && cSink c == 0 && u8 c 0x180 == 1

/-- Release groups: rows that leave together. -/
def releaseGroups (c : Bytes) : List (List (Nat × Nat × Nat)) :=
  let l := rowsInOrder c
  if unitWhole c then [l]
  else if sliceWhole c then (List.range (sliceCount c + l.length)).filterMap (fun k =>
    let g := l.filter (fun p => p.1 = k)
    if g.isEmpty then none else some g)
  else l.map (fun p => [p])

/-- The record of a committed row of a unit of work. -/
def rowRec (f : EncFrame) (unit row : Nat) : Option (Nat × RowRec) :=
  match f.units.findIdx? (fun u => u.index = unit) with
  | none => none
  | some i => (((f.units[i]?).bind (fun u => u.commits[row]?))).map (fun r => (i, r))

/-- Band of a unit of work. -/
def unitBand (c : Bytes) (unit : Nat) : Nat := (((pictureUnits c)[unit]?).map (·.band)).getD 0

/-- Is a band's hold over (R199)? -/
def holdOver (s : State) (f : EncFrame) (b : Nat) : Bool :=
  f.opened.contains b || f.holds.all (fun h => h.1 ≠ b || decide (h.2 ≤ s.now))

/-- Is a row of this device committed, or a slice of another device received (R110, R184)? -/
def rowThere (x : Session) (f : EncFrame) (p : Nat × Nat × Nat) : Bool :=
  if codesUnit x f.cfg (((pictureUnits f.cfg)[p.2.1]?).getD (UnitRec.make 0 0 0 0 0 0 0)) then (rowRec f p.2.1 p.2.2).isSome
  else (tfind x.dist.slices (statsKey f.number p.1)).isSome

/-- Has a gate of SEAM_CHECK_GATE opened for a slice: the check values of primary and shadow agree (R186)? -/
def gateOpen (x : Session) (f : EncFrame) (slice : Nat) : Bool :=
  !isDist x || u8 f.cfg 0x1CE != 1 || u8 f.cfg 0x1CD != 1
    || (tfind x.dist.sliceCrcs (statsKey f.number slice)).isNone
    || (match tfind x.dist.sliceCrcs (statsKey f.number slice), tfind x.dist.peerCrcs (statsKey f.number slice) with
        | some a, some b => a == b
        | _, _ => false)

/-- Has a group been released already? -/
def groupOut (x : Session) (f : EncFrame) (g : List (Nat × Nat × Nat)) : Bool :=
  g.all (fun p => match rowRec f p.2.1 p.2.2 with
    | some r => r.2.released
    | none => x.dist.tailings.contains (statsKey f.number p.1))

/-- May a group be released now? -/
def groupReady (s : State) (x : Session) (f : EncFrame) (g : List (Nat × Nat × Nat)) : Bool :=
  g.all (fun p => rowThere x f p && holdOver s f (unitBand f.cfg p.2.1) && gateOpen x f p.1)

/-! ### Units around the slices (R114 to R117) -/

/-- UUIDs of Table 5.4. -/
def mosaicUuid : Bytes := be 16 0x47D281AF03C54E6B9A175C20E8B41D63
def fidelityUuid : Bytes := be 16 0x6B10C93E57A24F08B4D12E9C70F5A816

/-- The raw-mosaic payload (Table 5.5). -/
def mosaicPayload (c : Bytes) : Bytes :=
  let k := u8 c 0x201
  le 1 1 ++ le 1 (u8 c 0x200) ++ le 1 (u8 c 0x043) ++ le 1 (if k = 0 then 0 else 1) ++ be 2 (u16 c 0x044) ++ be 2 (u16 c 0x046)
    ++ le 1 (u8 c 0x202) ++ le 1 (if k = 0 then 0 else 2 ^ (k - 1))
    ++ (List.range 4).flatMap (fun i => be 2 (u16 c (0x204 + 2 * i))) ++ be 2 (u16 c 0x20C)
    ++ (List.range 4).flatMap (fun i => be 2 (u16 c (0x20E + 2 * i))) ++ zeros 4

/-- The fidelity payload (Table 5.6): counts of every device's coding units. -/
def fidelityPayload (s : State) (x : Session) (f : EncFrame) : Bytes :=
  let c := f.cfg
  let l := (gatherStats x f).1
  let flags := l.foldl (fun n u => n ||| u.flags) (if f.violation then 1 else 0)
  le 1 1 ++ le 1 (flags % 8) ++ be 2 (l.foldl (fun n u => min n u.minPsnr) 0xFFFF)
    ++ be 4 (l.foldl (fun n u => n + u.retries) 0) ++ be 4 (l.foldl (fun n u => n + u.lossless) 0)
    ++ be 2 (u16 c 0x120) ++ be 2 (floorPsnrC c) ++ be 2 (u16 c 0x124) ++ zeros 2
    ++ be 4 (activeFacts s).determinismVersion ++ be 4 f.number

/-- A user_data_unregistered SEI NAL unit of a payload, or the AV1 metadata OBU of its type. -/
def payloadUnit (std : Nat) (suffix : Bool) (uuid : Bytes) (obuType : Nat) (payload : Bytes) : Bytes :=
  let hdr := match std with
    | 0 => [0x00#8, if suffix then 0xC1#8 else 0xB9#8]
    | 1 => [if suffix then 0x50#8 else 0x4E#8, 0x01#8]
    | _ => [0x06#8]
  if std = 3 then le 1 0x28 ++ le 1 obuType ++ payload ++ le 1 0x80
  else hdr ++ le 1 5 ++ le 1 (payload.length + 16) ++ uuid ++ payload ++ le 1 0x80

/-- Are parameter sets sent with the picture (R114)? -/
def withParams (f : EncFrame) : Bool := f.refresh || u8 f.cfg 0x181 == 1

/-- Facts of a picture that its headers carry: intra, refresh start, lossless signalling, grain estimate of picture N − d valid. -/
def headerFacts (x : Session) (f : EncFrame) : List Nat :=
  [if f.intra then 1 else 0, if f.refresh then 1 else 0, if x.enc.lossless then 1 else 0,
   if tget false x.enc.grain (f.number - cDelay f.cfg) then 1 else 0, f.code]

/-- A unit whose bytes the standards and the determinism version fix (log entry 16). -/
def stdUnit (x : Session) (f : EncFrame) (kind : Nat) : Bytes := Config.unitBytes kind f.cfg f.number (headerFacts x f)

/-- The CLL message: the light levels that METADATA brought for the picture are its own (R304). -/
def cllUnit (x : Session) (f : EncFrame) : Bytes :=
  Config.unitBytes 7 f.cfg f.number (headerFacts x f ++ (match f.cll with
    | some l => [l.1, l.2]
    | none => []))

/-- Units before the slices, positions 1 to 4 of Table 5.3. -/
def leadUnits (x : Session) (f : EncFrame) : List Bytes :=
  let c := f.cfg
  let std := cStd c
  let sei := u8 c 0x182
  let one (b : Bool) (k : Nat) : List Bytes := if b then [stdUnit x f k] else []
  let fid := match x.enc.pack.fidelity with | some p => [payloadUnit std false fidelityUuid 25 p] | none => []
  let raw := if cRaw c then [payloadUnit std false mosaicUuid 24 (mosaicPayload c)] else []
  if std = 3 then
    one (cSink c == 0) 1 ++ one (withParams f) 3 ++ one (bitOf sei 2) 6 ++ (if bitOf sei 3 then [cllUnit x f] else []) ++ fid ++ raw ++ one true 9
  else
    one (bitOf sei 0) 1 ++ one (withParams f && std == 1) 2 ++ one (withParams f) 3 ++ one (withParams f) 4
      ++ one (std == 0 && withParams f) 5 ++ one (hrdOn c && withParams f) 10 ++ one (hrdOn c) 11
      ++ one (f.refresh && u8 c 0x08D == 1) 12 ++ one (bitOf sei 2) 6 ++ (if bitOf sei 3 then [cllUnit x f] else [])
      ++ one (bitOf sei 4 && u8 c 0x065 == 1) 8 ++ raw ++ (if std = 2 then fid else [])

/-- Units after the slices, positions 6 and 7. -/
def tailUnits (s : State) (x : Session) (f : EncFrame) : List Bytes :=
  let c := f.cfg
  let std := cStd c
  (if bitOf (u8 c 0x182) 1 && std < 2 then [stdUnit x f 13] else [])
    ++ (if bitOf (u8 c 0x182) 5 && std < 2 then [payloadUnit std true fidelityUuid 25 (fidelityPayload s x f)] else [])
    ++ (if f.padding = 0 then [] else [(stdUnit x f 14 ++ List.replicate (f.padding / 8) 0xFF#8).take (f.padding / 8)])

/-! ### Transport state -/

/-- Change the packetiser's state of a session. -/
def withPack (x : Session) (p : PackState) : Session := { x with enc := { x.enc with pack := p } }

/-- Insert emulation prevention bytes after `z` trailing zero bytes (R113). -/
def preventEmulation (z : Nat) : Bytes → Bytes × Nat
  | [] => ([], z)
  | b :: l =>
    if 2 ≤ z && b.toNat ≤ 3 then
      let (r, k) := preventEmulation (if b = 0 then 1 else 0) l
      (0x03#8 :: b :: r, k)
    else
      let (r, k) := preventEmulation (if b = 0 then z + 1 else 0) l
      (b :: r, k)

/-- Bytes of a unit as they leave: emulation prevention for VVC, HEVC and AVC, carried on from piece to piece. -/
def coded (x : Session) (first : Bool) (b : Bytes) : Bytes × Session :=
  if cStd x.cfg = 3 then (b, x)
  else
    let (r, z) := preventEmulation (if first then 0 else x.enc.pack.zeros) b
    (r, withPack x { x.enc.pack with zeros := z })

/-! ### Memory output and chunk records (R118, R123, R124) -/

/-- Unsigned LEB128. -/
def leb128 (n v : Nat) : Bytes :=
  match n with
  | 0 => []
  | k + 1 => if v < 128 then le 1 v else le 1 (v % 128 + 128) ++ leb128 k (v / 128)

/-- A class 3 fault of a session whose backlog or chunk index has run out (R124, R259). -/
def sinkFault (s : State) (x : Session) : State :=
  let s1 := recordFault (sessPut s { x with blocked := true }) 40 3 none
  match sessById s1 x.id with | some y => enterResync s1 y | none => s1

/-- One chunk record (Table 5.8), with the gap before the next. -/
def chunkRecord (x : Session) (plain : Bytes) (last : Bool) : Bytes :=
  let c := x.cfg
  let key := x.keyMatter.getD []
  let hdr := le 4 0x4B484347 ++ le 1 1 ++ le 1 (if last then 1 else 0) ++ le 2 (u16 c 0x186) ++ le 8 x.enc.chunkIndex
    ++ le 8 x.enc.pack.chunkOf ++ le 4 plain.length ++ zeros 4
  let box := Config.gcmSeal (chunkKey key (u16 c 0x186)) (chunkSalt key (u16 c 0x186) ++ be 8 x.enc.chunkIndex) hdr plain
  let b := hdr ++ box.1 ++ box.2
  padTo (roundUp b.length 64) b

/-- Put an item on the backlog of a memory sink; a live source's overflow is a class 3 fault (R259). -/
def toBacklog (s : State) (x : Session) (item : Bytes) : State × Session :=
  (s, { x with enc := { x.enc with backlog := x.enc.backlog ++ [item] } })

/-- Close full chunks, and at the end of an access unit the last one; `n` bounds them.  At index 2^32 none is written (R124). -/
def closeChunks (n : Nat) (last : Bool) (x : Session) : Session :=
  match n with
  | 0 => x
  | k + 1 =>
    let size := 2 ^ u8 x.cfg 0x185
    let full := decide (size ≤ x.enc.chunkBuf.length)
    if x.enc.chunkBuf.isEmpty || !(full || last) || decide (2 ^ 32 ≤ x.enc.chunkIndex) then x
    else
      let plain := x.enc.chunkBuf.take size
      let ends := last && decide (x.enc.chunkBuf.length ≤ size)
      let rec1 := chunkRecord x plain ends
      closeChunks k last { x with enc := { x.enc with
        chunkBuf := x.enc.chunkBuf.drop size, chunkIndex := x.enc.chunkIndex + 1, backlog := x.enc.backlog ++ [rec1],
        pack := { x.enc.pack with chunkOf := x.enc.pack.frame } } }

/-- A changed chunk key takes effect: CHUNK_INDEX restarts at 0 (R124, R441). -/
def rekey (x : Session) : Session :=
  match x.nextKey with
  | some k => { x with keyMatter := some k, nextKey := none, enc := { x.enc with chunkIndex := 0 } }
  | none => x

/-- Bytes of the memory format reach the backlog or the chunk being filled. -/
def toMemory (x : Session) (b : Bytes) : Session :=
  if b.isEmpty then x
  else if u8 x.cfg 0x184 = 2 then
    let z := if x.enc.chunkBuf.isEmpty && (x.enc.chunkIndex == 0 || x.enc.pack.chunkOf != x.enc.pack.frame) then rekey x else x
    let y := if z.enc.chunkBuf.isEmpty then withPack z { z.enc.pack with chunkOf := z.enc.pack.frame } else z
    closeChunks (b.length + 1) false { y with enc := { y.enc with chunkBuf := y.enc.chunkBuf ++ b } }
  else { x with enc := { x.enc with backlog := x.enc.backlog ++ [b] } }

/-! ### RTP (R119 to R121) -/

/-- RTP timestamp of a frame (R120). -/
def rtpTime (c : Bytes) (number : Nat) (stamp : Option Nat) : Nat :=
  match stamp with
  | some v => v % 2 ^ 32
  | none => (u32 c 0x194 + number * 90000 * u32 c 0x04C / max 1 (u32 c 0x048)) % 2 ^ 32

/-- Does this device send the stream (R182)? -/
def collator (x : Session) : Bool :=
  !isDist x || x.dist.roles.any (fun p => p.2 == 2) || (regionCount x.cfg == 1 && x.dist.roles.any (fun p => p.2 == 0))

/-- Does this device assemble the stream: it sends it, or is the shadow collator (R182, R187)? -/
def collates (x : Session) : Bool := collator x || x.dist.roles.any (fun p => p.2 == 3)

/-- A packet leaves; a shadow collator holds it until a COMMIT reports its slice as released (R187). -/
def putPacket (s : State) (x : Session) (kind : Nat) (b : Bytes) : State × Session :=
  if collator x then (emit s (.packet x.id kind [] b), x)
  else (s, { x with dist := { x.dist with
    retained := x.dist.retained ++ [(statsKey x.enc.pack.frame x.enc.pack.slice, kind, b)] } })

/-- Send one RTP packet. -/
def sendRtp (s : State) (x : Session) (time : Nat) (payload : Bytes) (marker : Bool) : State × Session :=
  let c := x.cfg
  let hdr := le 1 0x80 ++ le 1 ((if marker then 128 else 0) + u8 c 0x18A) ++ be 2 x.enc.rtpSeq ++ be 4 time ++ be 4 (u32 c 0x18C)
  let body := if u8 c 0x184 = 1 then Config.srtpSeal (x.keyMatter.getD []) x.enc.roc x.enc.rtpSeq hdr payload else payload
  putPacket s { x with enc := { x.enc with
    rtpSeq := (x.enc.rtpSeq + 1) % 65536, roc := if x.enc.rtpSeq = 65535 then x.enc.roc + 1 else x.enc.roc } } 1 (hdr ++ body)

/-- A payload is complete: the one held back goes out without the marker, and this one is held (R83, R119). -/
def holdPayload (s : State) (x : Session) (time : Nat) (p : Bytes) : State × Session :=
  let (s1, y) := match x.enc.pack.held with
    | some q => sendRtp s x time q false
    | none => (s, x)
  (s1, withPack y { y.enc.pack with held := some p })

/-- Payload of aggregated units (Table 5.7). -/
def aggregate (std : Nat) (l : List Bytes) : Bytes :=
  let sized (b : Bytes) : Bytes := be 2 b.length ++ b
  match std, l with
  | _, [] => []
  | 3, l =>
    let n := l.length
    le 1 (if n ≤ 3 then 16 * n else 0) ++ l.zipIdx.flatMap (fun p =>
      if n ≤ 3 && p.2 + 1 = n then p.1 else leb128 4 p.1.length ++ p.1)
  | _, [b] => b
  | 0, l => [0x00#8, 0xE1#8] ++ l.flatMap sized
  | 1, l => [0x60#8, 0x01#8] ++ l.flatMap sized
  | _, l => le 1 (l.foldl (fun n b => max n (u8 b 0 / 32 % 4 * 32)) 0 + 24) ++ l.flatMap sized

/-- Largest fragment data, and a fragment's payload: unit header, data, first, last. -/
def fragRoom (c : Bytes) : Nat := u16 c 0x188 - (if cStd c = 3 then 1 else if cStd c = 2 then 2 else 3)
def unitHeader (std : Nat) : Nat := match std with | 3 => 0 | 2 => 1 | _ => 2
def fragment (std : Nat) (hdr data : Bytes) (first last : Bool) : Bytes :=
  let se := (if first then 128 else 0) + (if last then 64 else 0)
  match std with
  | 0 => le 1 (u8 hdr 0) ++ le 1 (u8 hdr 1 % 8 + 232) ++ le 1 (se + u8 hdr 1 / 8) ++ data
  | 1 => le 1 (u8 hdr 0 % 2 + u8 hdr 0 / 128 * 128 + 98) ++ le 1 (u8 hdr 1) ++ le 1 (se + u8 hdr 0 / 2 % 64) ++ data
  | 2 => le 1 (u8 hdr 0 / 32 * 32 + 28) ++ le 1 (se + u8 hdr 0 % 32) ++ data
  | _ => le 1 ((if first then 0 else 128) + (if last then 0 else 64) + 16) ++ data

/-- Close the packet of aggregated units. -/
def closeAggregate (s : State) (x : Session) (time : Nat) : State × Session :=
  if x.enc.pack.agg.isEmpty then (s, x)
  else holdPayload s (withPack x { x.enc.pack with agg := [] }) time (aggregate (cStd x.cfg) x.enc.pack.agg)

/-- Send whole fragments while more than one fragment's data waits; `n` bounds them. -/
def sendFragments (n : Nat) (s : State) (x : Session) (time : Nat) : State × Session :=
  match n with
  | 0 => (s, x)
  | k + 1 =>
    let p := x.enc.pack
    let room := fragRoom x.cfg
    match p.frag with
    | some hdr =>
      if p.nal.length ≤ room then (s, x)
      else
        let (s1, y) := holdPayload s x time (fragment (cStd x.cfg) hdr (p.nal.take room) (!p.begun) false)
        sendFragments k s1 (withPack y { y.enc.pack with nal := p.nal.drop room, begun := true }) time
    | none =>
      if p.nal.length ≤ u16 x.cfg 0x188 then (s, x)
      else
        let (s1, y) := closeAggregate s x time
        let h := unitHeader (cStd x.cfg)
        sendFragments k s1 (withPack y { y.enc.pack with frag := some (p.nal.take h), nal := p.nal.drop h, begun := false }) time

/-- A piece of a unit reaches the RTP packetiser; with its last piece it is aggregated, or its last fragment closes (R119). -/
def toRtp (s : State) (x : Session) (time : Nat) (b : Bytes) (last : Bool) : State × Session :=
  let p := x.enc.pack
  let (s1, y) := sendFragments (b.length + 2) s (withPack x { p with nal := p.nal ++ b }) time
  if !last then (s1, y)
  else
    let q := y.enc.pack
    match q.frag with
    | some hdr =>
      let (s2, z) := holdPayload s1 y time (fragment (cStd y.cfg) hdr q.nal (!q.begun) true)
      (s2, withPack z { z.enc.pack with nal := [], frag := none, begun := false })
    | none =>
      if (aggregate (cStd y.cfg) (q.agg ++ [q.nal])).length ≤ u16 y.cfg 0x188 then
        (s1, withPack y { q with agg := q.agg ++ [q.nal], nal := [] })
      else
        let (s2, z) := closeAggregate s1 y time
        (s2, withPack z { z.enc.pack with agg := [q.nal], nal := [] })

/-! ### Transport streams (R122) -/

/-- Send a datagram of the TS packets that wait: seven, or fewer at the end of an access unit. -/
def sendDatagram (s : State) (x : Session) (all : Bool) : State × Session :=
  let l := x.enc.pack.tsOut
  if l.length < 7 && (!all || l.isEmpty) then (s, x)
  else putPacket s (withPack x { x.enc.pack with tsOut := l.drop 7 }) 2 ((l.take 7).flatMap id)

/-- One TS packet: PID, unit start, payload of at most 184 bytes, stuffed by an adaptation field when shorter. -/
def tsPacket (pid cc : Nat) (start : Bool) (p : Bytes) : Bytes :=
  let hdr (afc : Nat) : Bytes := le 1 0x47 ++ le 1 ((if start then 64 else 0) + pid / 256) ++ le 1 pid ++ le 1 (afc * 16 + cc % 16)
  let n := p.length
  if 184 ≤ n then hdr 1 ++ p.take 184
  else if n = 183 then hdr 3 ++ le 1 0 ++ p
  else hdr 3 ++ le 1 (183 - n) ++ le 1 0 ++ List.replicate (182 - n) 0xFF#8 ++ p

/-- Queue a TS packet on a PID. -/
def putTs (s : State) (x : Session) (pid : Nat) (start : Bool) (p : Bytes) : State × Session :=
  let k := x.enc.pack
  sendDatagram s (withPack x { k with tsOut := k.tsOut ++ [tsPacket pid (tget 0 k.tsCc pid) start p],
                                      tsCc := tset k.tsCc pid ((tget 0 k.tsCc pid + 1) % 16) }) false

/-- A packet with a PCR alone on the video PID, every PCR_INTERVAL of stream time. -/
def putPcr (s : State) (x : Session) (number : Nat) : State × Session :=
  let c := x.cfg
  let now := number * 1000 * u32 c 0x04C / max 1 (u32 c 0x048)
  let k := x.enc.pack
  if (match k.pcrAt with | some v => decide (now < v + u8 c 0x18B) | none => false) then (s, x)
  else
    let v := Config.pcr c number k.tsOut.length
    let base := v / 300 % 2 ^ 33
    let field := be 6 (base * 32768 + 0x7E00 + v % 300)
    let p := le 1 0x47 ++ be 2 (u16 c 0x192) ++ le 1 (0x20 + tget 0 k.tsCc (u16 c 0x192) % 16) ++ le 1 183 ++ le 1 0x10 ++ field
      ++ List.replicate 176 0xFF#8
    sendDatagram s (withPack x { k with tsOut := k.tsOut ++ [p], pcrAt := some now }) false

/-- PAT and PMT. -/
def putPsi (s : State) (x : Session) (number : Nat) : State × Session :=
  let (s1, y) := putTs s x 0 true (le 1 0 ++ Config.unitBytes 0x51 x.cfg number [])
  let (s2, z) := putTs s1 y (u16 x.cfg 0x198) true (le 1 0 ++ Config.unitBytes 0x52 x.cfg number [])
  (s2, withPack z { z.enc.pack with psiDue := false })

/-- Full TS packets of the PES bytes that wait; `n` bounds them. -/
def drainPes (n : Nat) (s : State) (x : Session) : State × Session :=
  match n with
  | 0 => (s, x)
  | k + 1 =>
    let p := x.enc.pack
    if p.nal.length < 184 then (s, x)
    else
      let (s1, y) := putTs s (withPack x { p with nal := p.nal.drop 184, begun := true }) (u16 x.cfg 0x192) (!p.begun) (p.nal.take 184)
      drainPes k s1 y

/-- Bytes of the elementary stream. -/
def toTs (s : State) (x : Session) (b : Bytes) : State × Session :=
  drainPes (b.length / 184 + 2) s (withPack x { x.enc.pack with nal := x.enc.pack.nal ++ b })

/-! ### One unit through the sink -/

/-- A unit or OBU in the byte formats of R118: its first piece carries the start code, the length or the OBU size. -/
def wrapUnit (c b : Bytes) : Bytes :=
  if cStd c = 3 then
    if u8 c 0x180 = 1 && cSink c = 0 then leb128 5 b.length ++ b
    else le 1 (u8 b 0 / 4 * 4 + u8 b 0 % 2 + 2) ++ leb128 5 (b.length - 1) ++ b.drop 1
  else if u8 c 0x180 = 1 && cSink c = 0 then be 4 b.length ++ b
  else be 4 1 ++ b

/-- Send a piece of a unit: first and last piece of it or not. -/
def sendPiece (s : State) (x : Session) (time : Nat) (b : Bytes) (first last : Bool) : State × Session :=
  let (e, y) := coded x first b
  match cSink x.cfg with
  | 1 => toRtp s y time e last
  | 0 => (s, toMemory y (if first then wrapUnit x.cfg e else e))
  | _ => toTs s y (if first then wrapUnit x.cfg e else e)

/-- Send whole units. -/
def sendUnits (s : State) (x : Session) (time : Nat) (l : List Bytes) : State × Session :=
  l.foldl (fun p b => if b.isEmpty then p else sendPiece p.1 p.2 time b true true) (s, x)

/-- Start an access unit: TS gets PAT and PMT when due, a PCR when due, and the PES header. -/
def openUnit (s : State) (x : Session) (f : EncFrame) : State × Session :=
  let x0 := withPack x { x.enc.pack with frame := f.number, zeros := 0 }
  if cSink x.cfg != 2 then (s, x0)
  else
    let (s1, y) := if x0.enc.pack.psiDue then putPsi s x0 f.number else (s, x0)
    let (s2, z) := putPcr s1 y f.number
    toTs s2 (withPack z { z.enc.pack with begun := false })
      (Config.unitBytes 0x50 f.cfg f.number [rtpTime f.cfg f.number f.stamp])

/-- End an access unit: the held packet with the marker, the last TS packets, the last chunk, the end mark of the backlog. -/
def closeUnit (s : State) (x : Session) (time : Nat) (ends : Bool) : State × Session :=
  match cSink x.cfg with
  | 1 =>
    let (s1, y) := closeAggregate s x time
    match y.enc.pack.held with
    | some p =>
      let (s2, z) := sendRtp s1 y time p true
      (s2, withPack z { z.enc.pack with held := none })
    | none => (s1, y)
  | 0 =>
    let y := if u8 x.cfg 0x184 = 2 then closeChunks 2 true x else x
    (s, { y with enc := { y.enc with backlog := y.enc.backlog ++ (if ends then [[], []] else [[]]) } })
  | _ =>
    let p := x.enc.pack
    let (s1, y) := if p.nal.isEmpty then (s, x)
      else putTs s (withPack x { p with nal := [], begun := true }) (u16 x.cfg 0x192) (!p.begun) p.nal
    sendDatagram s1 y true

/-! ### Ends of sequences (R117, R260) -/

/-- The end-of-sequence units: the last fidelity payload of AVC and AV1, and the end-of-sequence NAL unit. -/
def eosUnits (x : Session) : List Bytes :=
  let std := cStd x.cfg
  (match x.enc.pack.fidelity with
    | some p => (if std = 3 && cSink x.cfg = 0 then [le 1 0x10] else []) ++ [payloadUnit std false fidelityUuid 25 p]
    | none => [])
    ++ (match std with | 0 => [[0x00#8, 0xA9#8]] | 1 => [[0x48#8, 0x01#8]] | 2 => [[0x0A#8]] | _ => [])

/-- Is everything before a frame number out? -/
def seqDrained (x : Session) (n : Nat) : Bool :=
  x.enc.submitted.all (fun p => decide (n ≤ p.frame)) && x.enc.frames.all (fun f => decide (n ≤ f.number))

/-- Emit the end of a sequence that is out; a payload of AV1 is a temporal unit of its own, with the next frame's time. -/
def endSequence (s : State) (x : Session) : State × Session :=
  match x.enc.pack.eos with
  | [] => (s, x)
  | n :: l =>
    if !seqDrained x n then (s, x)
    else
      let y := withPack x { x.enc.pack with eos := l }
      let time := rtpTime x.cfg n none
      let (s1, z) := sendUnits s y time (eosUnits x)
      closeUnit s1 (withPack z { z.enc.pack with fidelity := none }) time true

/-! ### PACKET_RELEASE -/

/-- Bytes of a committed row, taken out of its Ladle (R107). -/
def takeRow (s : State) (x : Session) (f : EncFrame) (i : Nat) (r : RowRec) : Bytes × State :=
  let k := coreGet s r.core
  let (b, ladle) := fifoTake [x.id, f.number, i, r.row] k.ladle
  (b, coreSet s r.core { k with ladle := ladle })

/-- Mark a row as released. -/
def rowOutMark (f : EncFrame) (i row : Nat) : EncFrame :=
  match f.units[i]? with
  | some u => { f with units := lset f.units i { u with commits := u.commits.map (fun r => if r.row = row then { r with released := true } else r) } }
  | none => f

/-- Is a row the first, the last of its slice? -/
def firstOfSlice (c : Bytes) (p : Nat × Nat × Nat) : Bool := ((rowsInOrder c).find? (fun q => q.1 = p.1)) == some p
def lastOfSlice (c : Bytes) (p : Nat × Nat × Nat) : Bool := ((rowsInOrder c).filter (fun q => q.1 = p.1)).getLast? == some p

/-- Header of a slice or tile group: with its entry points, sizes of the rows (R111). -/
def sliceHeader (x : Session) (f : EncFrame) (slice : Nat) (sizes : List Nat) : Bytes :=
  Config.unitBytes 0x40 f.cfg f.number (slice :: headerFacts x f ++ sizes)

/-- Take every row of a group, in order: its bytes, or, of another device, the slice received. -/
def takeRows (s : State) (x : Session) (f : EncFrame) : List (Nat × Nat × Nat) → List (Nat × Nat × Nat × Bytes) × State × EncFrame × Session
  | [] => ([], s, f, x)
  | p :: l =>
    match rowRec f p.2.1 p.2.2 with
    | some r =>
      let (b, s1) := takeRow s x f r.1 r.2
      let (rest, s2, g, y) := takeRows s1 x (rowOutMark f r.1 r.2.row) l
      ((p.1, p.2.1, p.2.2, b) :: rest, s2, g, y)
    | none =>
      let key := statsKey f.number p.1
      let b := if lastOfSlice f.cfg p then (tfind x.dist.slices key).getD [] else []
      let y := if lastOfSlice f.cfg p then { x with dist := { x.dist with tailings := key :: x.dist.tailings } } else x
      let (rest, s1, g, z) := takeRows s y f l
      ((p.1, p.2.1, p.2.2, b) :: rest, s1, g, z)

/-- Send a taken row: the slice header comes before the first row of a slice that this device coded. -/
def sendRow (s : State) (x : Session) (f : EncFrame) (time : Nat) (sizes : List Nat) (q : Nat × Nat × Nat × Bytes) : State × Session :=
  let p := (q.1, q.2.1, q.2.2.1)
  let here := codesUnit x f.cfg (((pictureUnits f.cfg)[q.2.1]?).getD (UnitRec.make 0 0 0 0 0 0 0))
  let first := firstOfSlice f.cfg p
  let hdr := if first && here then sliceHeader x f q.1 sizes else []
  sendPiece s (withPack x { x.enc.pack with slice := q.1 }) time (hdr ++ q.2.2.2) (if here then first else lastOfSlice f.cfg p) (lastOfSlice f.cfg p)

/-- The last group of a picture is out: the units after the slices, the end of the access unit, the frame leaves. -/
def finishFrame (s : State) (x : Session) (f : EncFrame) (time : Nat) : State × Session :=
  let (s1, y) := sendUnits s x time (tailUnits s x f)
  let keep := bitOf (u8 f.cfg 0x182) 5 && (cStd f.cfg == 2 || cStd f.cfg == 3)
  let z0 := withPack y { y.enc.pack with fidelity := if keep then some (fidelityPayload s x f) else none }
  let z := { z0 with enc := { z0.enc with frames := z0.enc.frames.filter (fun g => g.number ≠ f.number), lastOutput := some f.number } }
  let last := match z.enc.pack.eos with | n :: _ => seqDrained z n | [] => false
  if last && cStd f.cfg != 3 then
    let (s2, w) := sendUnits s1 z time (eosUnits z)
    let w1 := withPack w { w.enc.pack with fidelity := none, eos := w.enc.pack.eos.drop 1 }
    closeUnit s2 w1 time true
  else
    let (s2, w) := closeUnit s1 z time (last && z0.enc.pack.fidelity.isNone)
    if last then endSequence s2 w else (s2, w)

/-- AV1 Annex B: the units of a whole temporal unit with their sizes (R111, R118). -/
def temporalUnit (l : List Bytes) : Bytes :=
  let obus := (l.filter (fun b => !b.isEmpty)).flatMap (fun b => leb128 5 b.length ++ b)
  let frame := leb128 5 obus.length ++ obus
  leb128 5 frame.length ++ frame

/-- A whole-picture unit leaves as one access unit or temporal unit. -/
def sendWhole (s : State) (y : Session) (f : EncFrame) (time : Nat) (rows : List (Nat × Nat × Nat × Bytes)) : State × Session :=
  let slices := (List.range (sliceCount f.cfg)).map (fun k =>
    sliceHeader y f k [] ++ (rows.filter (fun q => q.1 = k)).flatMap (fun q => q.2.2.2))
  let tu := temporalUnit (leadUnits y f ++ slices ++ tailUnits s y f)
  let (s2, z) := openUnit s y f
  let w := toMemory z tu
  let keep := bitOf (u8 f.cfg 0x182) 5
  let v := withPack w { w.enc.pack with fidelity := if keep then some (fidelityPayload s y f) else none }
  let v1 := { v with enc := { v.enc with frames := v.enc.frames.filter (fun h => h.number ≠ f.number), lastOutput := some f.number } }
  let (s3, v2) := closeUnit s2 v1 time false
  endSequence s3 v2

/-- The first group of a picture is preceded by the units that lead its access unit. -/
def openGroup (s : State) (y : Session) (f : EncFrame) (time : Nat) (head : Bool) : State × Session :=
  if head then
    let (s3, w) := openUnit s y f
    let (s4, v) := sendUnits s3 w time (leadUnits w f)
    (s4, withPack v { v.enc.pack with fidelity := none })
  else (s, y)

/-- Release one group of rows of a picture. -/
def releaseGroup (s : State) (x : Session) (f : EncFrame) (g : List (Nat × Nat × Nat)) (head tail : Bool) : State :=
  let time := rtpTime f.cfg f.number f.stamp
  let (rows, s1, f1, x1) := takeRows s x f g
  let y := framePut x1 f1
  if !collates x then sessPut s1 y
  else if unitWhole f.cfg then
    let (s4, v3) := sendWhole s1 y f1 time rows
    sessPut s4 v3
  else
    let (s5, u) := rows.foldl (fun p q => sendRow p.1 p.2 f1 time (rows.map (fun q => q.2.2.2.length)) q) (openGroup s1 y f1 time head)
    let (s6, v) := if tail then finishFrame s5 u f1 time else (s5, u)
    sessPut s6 v

/-- Slice transfer packets of a region device (R183): fragments of at most 8,900 bytes behind the header of Table 8.3. -/
def fragmentsOf (n : Nat) (x : Session) (f : EncFrame) (epoch slice region off : Nat) (b : Bytes) : List Bytes :=
  match n with
  | 0 => []
  | k + 1 =>
    let part := b.drop off
    if part.isEmpty then []
    else
      let last := decide (part.length ≤ 8900)
      let d := part.take 8900
      (be 4 0x47534C54 ++ le 1 1 ++ le 1 ((if last then 1 else 0) + (if x.dist.promoted.contains region then 2 else 0)) ++ be 2 slice
        ++ be 4 x.dist.fabricSession ++ be 4 epoch ++ be 8 f.number ++ be 4 off ++ be 2 d.length ++ be 2 region
        ++ be 4 (if last then crc32 b else 0) ++ d) :: fragmentsOf k x f epoch slice region (off + 8900) b

/-- REF_CRC of a region's final samples (R185); the samples are not part of the model (log entry 50). -/
def refCrcOf (f : EncFrame) (region : Nat) : Nat := crc32 (Config.unitBytes 0xF1 f.cfg f.number [region])

/-- Region of a slice, and is the slice the last one of its region? -/
def sliceRegion (f : EncFrame) (slice : Nat) : Nat :=
  match (rowsInOrder f.cfg).find? (fun q => q.1 = slice) with
  | some q => regionOf f.cfg ((((pictureUnits f.cfg)[q.2.1]?).map (·.tile)).getD 0)
  | none => 0
def lastInRegion (f : EncFrame) (slice : Nat) : Bool :=
  (rowsInOrder f.cfg).all (fun q => decide (q.1 ≤ slice) || sliceRegion f q.1 != sliceRegion f slice)

/-- A region device's finished slice: its check value, its transfer by the primary or a promoted shadow, SEAM_CHECK (R182 to
R185, R190). -/
def transferSlice (s : State) (x : Session) (f : EncFrame) (slice region : Nat) (b : Bytes) : State :=
  let key := statsKey f.number slice
  let sends := x.dist.roles.any (fun p => p.1 = region && p.2 == 0) || x.dist.promoted.contains region
  let s1 := if sends && !collator x then
      (fragmentsOf (b.length / 8900 + 1) x f (curEpoch s) slice region 0 b).foldl (fun s p => emit s (.packet x.id 3 [slice] p)) s
    else s
  let y := { x with dist := { x.dist with
      sliceCrcs := tset x.dist.sliceCrcs key (crc32 b), slices := tset x.dist.slices key b,
      unacked := if sends && !collator x then x.dist.unacked ++ [(f.number, slice, 1, s.now)] else x.dist.unacked } }
  let s2 := sessPut s1 y
  if u8 f.cfg 0x1CD = 1 then sendAcked s2 0x09 (tget 0xFFFF x.dist.peers region) 
      ([x.dist.fabricSession, f.number, slice, crc32 b] ++ (if lastInRegion f slice then [refCrcOf f region] else []))
  else s2

/-- Rows of a device's own slices that have all committed and have not been checked yet (R185). -/
def finishedSlice (x : Session) (f : EncFrame) : Option (Nat × List (Nat × Nat × Nat)) :=
  ((List.range ((rowsInOrder f.cfg).length)).map (fun k => (k, (rowsInOrder f.cfg).filter (fun q => q.1 = k)))).find? (fun p =>
    !p.2.isEmpty && p.2.all (fun q => (rowRec f q.2.1 q.2.2).isSome)
      && (tfind x.dist.sliceCrcs (statsKey f.number p.1)).isNone)

/-- Bytes of a row where it lies. -/
def peekRow (s : State) (x : Session) (f : EncFrame) (q : Nat × Nat × Nat) : Bytes :=
  match rowRec f q.2.1 q.2.2 with
  | some r => (takeRow s x f r.1 r.2).1
  | none => []

/-- In a distributed session, deal with every finished slice of a frame; `n` bounds them. -/
def settleSlices (n : Nat) (s : State) (id number : Nat) : State :=
  match n with
  | 0 => s
  | k + 1 =>
    match sessById s id with
    | none => s
    | some x =>
      if !isDist x then s
      else match frameOf x number with
        | none => s
        | some f =>
          match finishedSlice x f with
          | none => s
          | some (slice, rows) =>
            let b := sliceHeader x f slice [] ++ rows.flatMap (peekRow s x f)
            let unit := ((rows.head?).map (·.2.1)).getD 0
            let region := regionOf f.cfg ((((pictureUnits f.cfg)[unit]?).map (·.tile)).getD 0)
            settleSlices k (transferSlice s x f slice region b) id number

/-- Is a frame of a device that does not collate done: its groups are all out? -/
def dropForeign (x : Session) : Session :=
  if collates x then x
  else { x with enc := { x.enc with frames := x.enc.frames.filter (fun f =>
    !(f.reported && f.units.all (fun u => u.commits.all (·.released)))) } }

/-- Release the next group of the first picture that has one. -/
def releaseNext (s : State) (x : Session) : State :=
  match x.enc.frames.head? with
  | none => s
  | some f =>
    let mine := if collates x then releaseGroups f.cfg
      else (releaseGroups f.cfg).filter (fun g => g.all (fun p => codesUnit x f.cfg (((pictureUnits f.cfg)[p.2.1]?).getD (UnitRec.make 0 0 0 0 0 0 0))))
    match (mine.filter (fun g => !groupOut x f g)) with
    | [] => s
    | g :: rest =>
      if groupReady s x f g && (!rest.isEmpty || f.reported) then
        releaseGroup s x f g (!(mine.any (groupOut x f))) rest.isEmpty
      else s

/-- After a release: a live source's full backlog and a spent chunk index are class 3 faults (R124, R259). -/
def checkSink (s : State) (id : Nat) : State :=
  match sessById s id with
  | none => s
  | some x =>
    let y := dropForeign x
    let s1 := sessPut s y
    if cSink y.cfg == 0 && ((cSource y.cfg != 0 && backlogFull y) || (decide (2 ^ 32 ≤ y.enc.chunkIndex) && !y.enc.chunkBuf.isEmpty))
    then sinkFault s1 y else s1

/-- PACKET_RELEASE (R110). -/
def execPacketRelease (session t : Nat) (s : State) : Result :=
  act s (!asleep s) (
    let s1 := atTime s t
    match sessById s1 session with
    | none => s1
    | some x =>
      if x.decode || securityStops s1 x || s1.canary.gatedAt.isSome then s1
      else
        let number := ((x.enc.frames.head?).map (·.number)).getD 0
        let s2 := settleSlices 64 s1 session number
        match sessById s2 session with
        | none => s2
        | some y => settleOutput (checkSink (releaseNext s2 y) session) session)

/-- BAND_RELEASE_TIME: the hold of a band ends at its release time (R48, R199). -/
def execBandReleaseTime (session frame band t : Nat) (s : State) : Result :=
  act s (!asleep s) (
    let s1 := atTime s t
    match sessById s1 session with
    | none => s1
    | some x =>
      match frameOf x frame with
      | none => s1
      | some f =>
        if f.holds.any (fun h => h.1 = band && decide (h.2 ≤ s1.now)) && !f.opened.contains band then
          sessPut s1 (framePut x { f with opened := band :: f.opened })
        else s1)

/-- Stream time of a session in ms (R122). -/
def streamMs (x : Session) : Nat := x.enc.pack.frame * 1000 * u32 x.cfg 0x04C / max 1 (u32 x.cfg 0x048)

/-- TS_PSI_TIMER: every 100 ms of stream time PAT and PMT are due with the next access unit. -/
def execTsPsiTimer (session t : Nat) (s : State) : Result :=
  act s (!asleep s) (
    let s1 := atTime s t
    match sessById s1 session with
    | none => s1
    | some x =>
      if !x.decode && s1.canary.gatedAt.isNone && cSink x.cfg == 2 && (match x.enc.patAt with | some v => decide (v + 100 ≤ streamMs x) | none => true) then
        let (s2, y) := putPsi s1 { x with enc := { x.enc with patAt := some (streamMs x) } } x.enc.pack.frame
        sessPut s2 y
      else s1)

/-- FLUSH (R260): MODE 0x1 also ends the sequence, and the next picture coded is a refresh start. -/
def execFlush (r : CmdRef) (s : State) : Result :=
  serve s r 0x43 (chkSession r.fn (fun _ x e =>
      orElse (fieldCheck [(decide (u8 e 24 ≤ 1), 24)]) (if x.state == .stopping then some (failWith stBusy) else none)))
    (onSession r.fn (fun s x e =>
      if x.state == .created || x.state == .stopped then succeed s r 0
      else if u8 e 24 = 1 && !x.decode then
        let y := { x with enc := { x.enc with seqEnds := x.enc.seqEnds ++ [x.enc.nextSubmit],
                                              pack := { x.enc.pack with eos := x.enc.pack.eos ++ [x.enc.nextSubmit] } } }
        let (s1, z) := endSequence s y
        settleOutput (sessPut s1 z) x.id
      else
        settleOutput (sessPut s { x with dec := { x.dec with endOfStream := x.dec.endOfStream || u8 e 24 == 1 } }) x.id))

end Sys2Proof.Machine
end

