-- ==== Sys2Proof/Machine/Dist.lean ====
section
/-! DEFINITION. Distributed sessions on the Crew Link: assignments, statistics, seam checks, slices, strips, promotion, divergence
and epochs (R174 to R192, R383, R384, R391, R394). -/

namespace Sys2Proof.Machine

/-- Change a fabric session, if it is here. -/
def distEdit (s : State) (session : Nat) (f : DistState → DistState) : State :=
  match sessOfFabric s session with
  | some x => sessPut s { x with dist := f x.dist }
  | none => s

/-! ### ASSIGN (R383) -/

/-- Take a role away; a session placed by the manager goes with its last role. -/
def dropOwnRole (s : State) (x : Session) (region : Nat) : State :=
  let left := if region = 0xFFFF then [] else x.dist.roles.filter (fun r => r.1 ≠ region)
  if left.isEmpty && x.placed then larderUpdate (destroySession s x)
  else sessPut s { x with dist := { x.dist with roles := left } }

/-- A session that the manager places here: it takes a slot, and the capacity that its regions need. -/
def newPlaced (s : State) (session role region : Nat) (c : Bytes) : Option (State × Session) :=
  match freeSlot s with
  | none => none
  | some slot =>
    let x0 := Session.make (newId s slot) 0 false c Ring.none Ring.none 0
    let x1 := { x0 with placed := true, state := .running, keyMatter := keyOf s false c,
                        dist := { x0.dist with fabricSession := session, roles := [(region, role)] } }
    let x2 := { x1 with enc := startEnc x1.enc, awaitKey := usesKey x1 && x1.keyMatter.isNone }
    match admitFor s (maskOf false c) (demandFor x2 c) with
    | some l => some (reserve { s with slotGen := tset s.slotGen slot (tget 0 s.slotGen slot + 1) } x2 (demandFor x2 c) l, x2)
    | none => none

/-- Can an ASSIGN for this device be carried out? -/
def assignOk (s : State) (h : ClpHdr) (session role region : Nat) (c : Bytes) : Bool :=
  session != 0 && (role == 0xFF || h.dest != s.fabric.member || (sessOfFabric s session).isSome
    || (encodeCheck s 0 false false c).isNone && (newPlaced s session role region c).isSome)

/-- The effect of an ASSIGN for this device. -/
def assignOwn (s : State) (session role region from_ : Nat) (c : Bytes) : State :=
  match sessOfFabric s session with
  | some x =>
    if role = 0xFF then dropOwnRole s x region
    else
      let y := { x with dist := { x.dist with roles := if x.dist.roles.contains (region, role) then x.dist.roles else x.dist.roles ++ [(region, role)] } }
      sessPut s (if c = x.cfg then y else { y with pendingCfg := y.pendingCfg.filter (fun p => p.1 ≠ from_) ++ [(from_, c)] })
  | none =>
    if role = 0xFF then s
    else match newPlaced s session role region c with
      | some (s1, x) => sessPut s1 (match sessById s1 x.id with | some y => { y with dist := x.dist } | none => x)
      | none => s

/-- A copy for the standby manager: it holds the same placement (R388). -/
def assignCopy (s : State) (m session role region : Nat) : State :=
  let x := (memberGet s m).getD
    { serial := 0, version := s.fabric.current, fw := 0, headless := true, quarantined := false, status := 0, offset := 0,
      gm := 0, lastRenew := s.now, unqualSince := none, ackedEpoch := true, naked := 0, roles := [] }
  memberPut s m { x with roles :=
    if role = 0xFF then x.roles.filter (fun r => !(r.1 == session && (region == 0xFFFF || r.2.1 == region)))
    else x.roles ++ [(session, region, role)] }

/-- ASSIGN; one that cannot be carried out is acknowledged with NAK. -/
def assignIn (h : ClpHdr) (session role region fromFrame : Nat) (config : Bytes) (s : State) : State :=
  clpIn s h (if assignOk s h session role region config then 0x05 else 0x05 + clpNak)
    (some (.assign h session role region fromFrame config)) (decide (h.epoch < epochFor s session fromFrame))
    (fun s =>
      if !assignOk s h session role region config then s
      else if h.dest = s.fabric.member then assignOwn s session role region fromFrame config
      else if s.mode == .standby then assignCopy s h.dest session role region
      else s) []
def execAssign (h : ClpHdr) (session role region fromFrame : Nat) (config : Bytes) (s : State) : Result :=
  act s (!asleep s) (assignIn h session role region fromFrame config s)

/-! ### LEDGER (R394) -/

/-- BUDGET_CRC of a frame: over its bit budget (log entry 50). -/
def budgetCrc (x : Session) (frame : Nat) : Option Nat := (frameOf x frame).map (fun f => crc32 (be 8 f.target))

/-- The manager fences a member from one session (Table 19.4): roles there go to others, and it is quarantined. -/
def expelFrom (s : State) (m session : Nat) : State :=
  match memberGet s m with
  | none => s
  | some x =>
    let s1 := sendAcked s 0x0A m [m, 2, session]
    let s2 := (x.roles.filter (fun r => r.1 == session)).foldl (fun s r => loseRole s m r) s1
    logFabric (match memberGet s2 m with | some y => memberPut s2 m { y with quarantined := true } | none => s2)

/-- LEDGER: the manager compares a digest with its own computation; a snapshot is loaded. -/
def ledgerIn (h : ClpHdr) (session form frame budgetCrc_ : Nat) (snapshot : List (Nat × UnitStats)) (s : State) : State :=
  clpIn s h 0x06 (some (.ledger h session form frame budgetCrc_ snapshot)) false (fun s =>
    match sessOfFabric s session with
    | none => s
    | some x =>
      if form = 0 then
        if s.mode == .manager && (match budgetCrc x frame with | some v => v != budgetCrc_ | none => false) then expelFrom s h.sender session
        else s
      else distEdit s session (fun d => { d with stats := snapshot.foldl (fun t p => tset t p.1 p.2) d.stats })) []
def execLedger (h : ClpHdr) (session form frame budgetCrc : Nat) (snapshot : List (Nat × UnitStats)) (s : State) : Result :=
  act s (!asleep s) (ledgerIn h session form frame budgetCrc snapshot s)

/-- LEDGER_DIGEST_TIMER: every 1 s each session of this device, its last dispatched frame. -/
def execLedgerDigestTimer (t : Nat) (s : State) : Result :=
  act s (!asleep s && s.fabric.joined && s.mode != .manager
      && (match s.fabric.lastDigest with | some v => decide (v + 1000000000 ≤ max s.now t) | none => true)) (
    let s1 := atTime s t
    (fabricSessions s1).foldl (fun s x => match x.enc.frames.getLast? with
      | some f => sendAcked s 0x06 s.fabric.manager [x.dist.fabricSession, 0, f.number, crc32 (be 8 f.target)]
      | none => s) (fabSet s1 (fun f => { f with lastDigest := some s1.now })))

/-! ### Divergence (R188, R189) -/

/-- The member that codes a region as primary, as far as this device knows. -/
def primaryOf (x : Session) (region : Nat) : Option Nat := (x.dist.regions.find? (fun p => p.1 == region)).map (·.2)

/-- Region of a unit of work. -/
def unitRegion (x : Session) (frame unit : Nat) : Nat :=
  let c := match frameOf x frame with | some f => f.cfg | none => x.cfg
  regionOf c ((((pictureUnits c)[unit]?).map (·.tile)).getD 0)

/-- The manager makes a device lose: a class 4 fault there, and the shadow's promotion where it was the primary (R188). -/
def loseDivergence (s : State) (m : Nat) : State :=
  if m = s.fabric.member then class4 (recordFault s 45 4 none) else loseMember s m 2 true

/-- Has a member logged a class 2 or higher fault: its DEGRADED status (R189, log entry 48)? -/
def memberDegraded (s : State) (m : Nat) : Bool :=
  if m = s.fabric.member then s.degraded else match memberGet s m with | some x => bitOf x.status 1 | none => true

/-- No majority (R189): the primary continues; a faulted device loses; otherwise the shadow is released, and a new one assigned. -/
def noMajority (s : State) (x : Session) (d : Divergence) : State :=
  let region := unitRegion x d.frame d.unit
  let p := (primaryOf x region).getD d.first.1
  let sh := if d.first.1 = p then d.second.1 else d.first.1
  if memberDegraded s p && !memberDegraded s sh then loseDivergence s p
  else if memberDegraded s sh then loseDivergence s sh
  else reassign (logFabric (takeRole s x.id sh region 1)) x region 1 [p, sh]

/-- Forget a divergence. -/
def dropDivergence (s : State) (session frame unit : Nat) : State :=
  distEdit s session (fun d => { d with diverging := d.diverging.filter (fun v => !(v.frame == frame && v.unit == unit)) })

/-- A unit of work has diverged: logged; the manager names a referee, or decides without one. -/
def diverge (s : State) (x : Session) (frame unit : Nat) (a b : Nat × Option UnitStats) : State :=
  if x.dist.diverging.any (fun v => v.frame == frame && v.unit == unit) then s
  else
    let d : Divergence := { frame := frame, unit := unit, first := a, second := b, referee := none, since := s.now }
    let s1 := logFabric (distEdit s x.dist.fabricSession (fun y => { y with diverging := y.diverging ++ [d] }))
    if s1.mode != .manager then s1
    else if u8 x.cfg 0x1CF != 1 then noMajority (dropDivergence s1 x.dist.fabricSession frame unit) x d
    else match newHolder s1 x [a.1, b.1] with
      | none => s1
      | some m =>
        distEdit (giveRole s1 x.id m (unitRegion x frame unit) 4 frame) x.dist.fabricSession (fun y => { y with
          diverging := y.diverging.map (fun v => if v = d then { v with referee := some m } else v) })

/-- Equal as outputs of a unit: everything but the bins and the message flags. -/
def sameStats (a b : UnitStats) : Bool :=
  a.bits == b.bits && a.qpSum == b.qpSum && a.complexity == b.complexity && a.charge == b.charge && a.lossless == b.lossless
    && a.retries == b.retries && a.minPsnr == b.minPsnr && a.flags % 8 == b.flags % 8

/-- The manager's decision on the referee's result: the output that matches wins (R188). -/
def decideReferee (s : State) (x : Session) (d : Divergence) (u : UnitStats) : State :=
  let s1 := dropDivergence s x.dist.fabricSession d.frame d.unit
  let s2 := match d.referee with | some m => takeRole s1 x.id m (unitRegion x d.frame d.unit) 4 | none => s1
  let fits (o : Nat × Option UnitStats) : Bool := match o.2 with | some v => sameStats v u | none => false
  if fits d.first && !fits d.second then loseDivergence s2 d.second.1
  else if fits d.second && !fits d.first then loseDivergence s2 d.first.1
  else noMajority s2 x d

/-- REFEREE_RESULT: the CRC values of the unit's slices and its STATS. -/
def refereeIn (h : ClpHdr) (session frame unit : Nat) (crcs : List (Nat × Nat)) (u : UnitStats) (s : State) : State :=
  clpIn s h 0x0E (some (.refereeResult h session frame unit crcs u)) false (fun s =>
    match sessOfFabric s session with
    | none => s
    | some x =>
      match x.dist.diverging.find? (fun v => v.frame == frame && v.unit == unit) with
      | none => s
      | some d =>
        if s.mode != .manager then dropDivergence s session frame unit
        else if d.referee != some h.sender then s
        else decideReferee s x d u) []
def execRefereeResult (h : ClpHdr) (session frame unit : Nat) (crcs : List (Nat × Nat)) (u : UnitStats) (s : State) : Result :=
  act s (!asleep s) (refereeIn h session frame unit crcs u s)

/-- STATS_TIMEOUT of a session in ns. -/
def statsTimeoutNs (x : Session) : Nat := u16 x.cfg 0x1E8 * 100000

/-- REFEREE_TIMEOUT (R189). -/
def execRefereeTimeout (session frame unit t : Nat) (s : State) : Result :=
  act s (!asleep s && s.mode == .manager) (
    let s1 := atTime s t
    match sessOfFabric s1 session with
    | none => s1
    | some x =>
      match x.dist.diverging.find? (fun v => v.frame == frame && v.unit == unit) with
      | none => s1
      | some d =>
        if s1.now < d.since + statsTimeoutNs x then s1
        else
          let s2 := match d.referee with | some m => takeRole s1 x.id m (unitRegion x frame unit) 4 | none => s1
          noMajority (dropDivergence s2 session frame unit) x d)

/-! ### STATS (R177, R178, R384) -/

/-- What this device knows of a unit, from its own coding or from STATS. -/
def knownStats (x : Session) (frame unit : Nat) : Option UnitStats :=
  match (frameOf x frame).bind (fun f => f.units.find? (fun u => u.index == unit && u.done)) with
  | some u => some (unitStats u [])
  | none => tfind x.dist.stats (statsKey frame unit)

/-- Late statistics complete the ledger's entry of a frame. -/
def ledgerTake (x : Session) (frame : Nat) (u : UnitStats) : Session :=
  let need := (pictureUnits x.cfg).length
  let one (e : FrameStats) : FrameStats :=
    if e.number = frame && !e.final then
      { e with bits := e.bits + u.bits, complexity := e.complexity + u.complexity, units := e.units ++ [u],
               final := decide (need ≤ e.units.length + 1) }
    else e
  { x with enc := { x.enc with ledger := tmap one x.enc.ledger } }

/-- Learn which devices code a region: the first sender is the primary, another one the other device. -/
def learnSender (d : DistState) (region m : Nat) : DistState :=
  match d.regions.find? (fun p => p.1 == region) with
  | none => { d with regions := d.regions ++ [(region, m)] }
  | some p => if p.2 = m then d else { d with peers := tset d.peers region m }

/-- Statistics of a unit arrive: the first are used; others that differ show a divergence. -/
def takeStats (s : State) (x : Session) (from_ frame unit : Nat) (u : UnitStats) : State :=
  let region := unitRegion x frame unit
  if x.dist.outcast.contains (region, from_) then clpDiscard s
  else
    let y := { x with dist := learnSender x.dist region from_ }
    match knownStats y frame unit with
    | none => sessPut s (ledgerTake { y with dist := { y.dist with stats := tset y.dist.stats (statsKey frame unit) u } } frame u)
    | some v =>
      if sameStats v u then sessPut s y
      else
        let other := if codesRegion y region then s.fabric.member else (primaryOf y region).getD from_
        diverge (sessPut s y) y frame unit (other, some v) (from_, some u)

/-- A REQUEST is answered by the unit's primary with the unit's STATS. -/
def answerStats (s : State) (x : Session) (dst frame unit : Nat) : State :=
  let region := unitRegion x frame unit
  match knownStats x frame unit with
  | some st =>
    if x.dist.roles.contains (region, 0) then
      sendAcked s 0x07 dst [x.dist.fabricSession, frame, unit, st.bits, toBits 64 st.qpSum, st.complexity, st.charge, st.lossless,
        st.retries, st.minPsnr, st.flags % 8]
    else s
  | none => s

/-- A shadow that the manager was waiting for in a drain has coded: the primary may go (R396). -/
def drainStats (s : State) (x : Session) (from_ frame unit : Nat) : State :=
  match s.fabric.draining with
  | none => s
  | some (_, m, _) =>
    let region := unitRegion x frame unit
    if s.mode == .manager && roleHolder s x.dist.fabricSession region 1 == some from_
        && roleHolder s x.dist.fabricSession region 0 == some m then
      settleDrain (takeRole (loseRole s m (x.dist.fabricSession, region, 0)) x.id m region 0)
    else s

/-- STATS: bit 4 of the flags is REQUEST. -/
def statsIn (h : ClpHdr) (session frame unit : Nat) (u : UnitStats) (s : State) : State :=
  clpIn s h 0x07 (some (.stats h session frame unit u)) (decide (h.epoch < epochFor s session frame)) (fun s =>
    match sessOfFabric s session with
    | none => s
    | some x =>
      if bitOf u.flags 4 then answerStats s x h.sender frame unit
      else drainStats (takeStats s x h.sender frame unit u) x h.sender frame unit) []
def execStats (h : ClpHdr) (session frame unit : Nat) (u : UnitStats) (s : State) : Result :=
  act s (!asleep s) (statsIn h session frame unit u s)

/-- When this device's own last unit of a frame committed: timestamp 4 of the frame, in the time keeper's ns. -/
def ownLast (s : State) (x : Session) (frame : Nat) : Option Nat :=
  ((frameOf x frame).bind (fun f => f.ts.getD 3 none)).map (fun v => ((v : Int) - (ptpTime s - (s.now : Int))).toNat)

/-- Are a unit's statistics still missing a time after the own last unit? -/
def statsMissing (s : State) (x : Session) (frame unit wait : Nat) : Bool :=
  (knownStats x frame unit).isNone && (match ownLast s x frame with | some v => decide (v + wait ≤ s.now) | none => false)

/-- STATS_REQUEST: 200 µs after the own last unit, until STATS_TIMEOUT. -/
def execStatsRequest (session frame unit t : Nat) (s : State) : Result :=
  act s (!asleep s) (
    let s1 := atTime s t
    match sessOfFabric s1 session with
    | none => s1
    | some x =>
      match primaryOf x (unitRegion x frame unit) with
      | some m =>
        if statsMissing s1 x frame unit 200000 && !statsMissing s1 x frame unit (statsTimeoutNs x) then
          fabSet (sendAcked s1 0x07 m [session, frame, unit, 0, 0, 0, 0, 0, 0, 0, 16]) (fun f => { f with statsRequests := f.statsRequests + 1 })
        else s1
      | none => s1)

/-- STATS_TIMEOUT (R178): the silent primary is reported to the manager, which treats it as failed; a shadow declares itself
diverged (R192). -/
def execStatsTimeout (session frame unit t : Nat) (s : State) : Result :=
  act s (!asleep s) (
    let s1 := atTime s t
    match sessOfFabric s1 session with
    | none => s1
    | some x =>
      if !statsMissing s1 x frame unit (statsTimeoutNs x) then s1
      else
        let s2 := if x.dist.roles.any (fun r => r.2 == 1) then sendClp s1 0x0A clpAll [s1.fabric.member, 2, session] else s1
        match primaryOf x (unitRegion x frame unit) with
        | none => s2
        | some m =>
          if s2.mode == .manager then loseMember s2 m 3 true
          else sendRenew (fabSet s2 (fun f => { f with unreachable := m })) s2.fabric.manager)

/-! ### Slices: COMMIT, SEAM_CHECK, transfers (R183 to R187) -/

/-- Forget what a COMMIT covers: slices waiting for it, a shadow's held slices (tailings), a shadow collator's packets. -/
def coverCommit (x : Session) (frame received released : Nat) : Session :=
  let keep := collates x
  { x with dist := { x.dist with
    commitFrame := frame, received := received, released := released
    unacked := x.dist.unacked.filter (fun u => !(u.2.2.1 == 1 && (decide (u.1 < frame) || (u.1 == frame && decide (u.2.1 < received)))))
    slices := if keep then x.dist.slices else x.dist.slices.filter (fun p => decide (statsKey frame received ≤ p.1))
    retained := x.dist.retained.filter (fun p => decide (statsKey frame released ≤ p.1)) } }

/-- COMMIT. -/
def commitIn (h : ClpHdr) (session frame received released : Nat) (s : State) : State :=
  clpIn s h 0x08 (some (.commit h session frame received released)) false (fun s =>
    match sessOfFabric s session with
    | some x => sessPut s (coverCommit x frame received released)
    | none => s) []
def execCommit (h : ClpHdr) (session frame received released : Nat) (s : State) : Result :=
  act s (!asleep s) (commitIn h session frame received released s)

/-- The other device's check values of a slice (R185): kept, and compared with this device's own. -/
def seamCheckTake (s : State) (x : Session) (from_ frame slice crc : Nat) (refCrc : Option Nat) : State :=
  let key := statsKey frame slice
  let y := { x with dist := { x.dist with peerCrcs := tset x.dist.peerCrcs key crc } }
  let s1 := sessPut s y
  match frameOf y frame with
  | none => s1
  | some f =>
    let region := sliceRegion f slice
    if y.dist.outcast.contains (region, from_) then clpDiscard s
    else
      let bad := (match tfind y.dist.sliceCrcs key with | some v => v != crc | none => false)
        || (match refCrc with | some v => v != refCrcOf f region | none => false)
      if bad then
        let unit := (((rowsInOrder f.cfg).find? (fun q => q.1 = slice)).map (·.2.1)).getD 0
        diverge s1 y frame unit (s.fabric.member, knownStats y frame unit) (from_, none)
      else s1

/-- SEAM_CHECK. -/
def seamCheckIn (h : ClpHdr) (session frame slice crc : Nat) (refCrc : Option Nat) (s : State) : State :=
  clpIn s h 0x09 (some (.seamCheck h session frame slice crc refCrc)) false (fun s =>
    match sessOfFabric s session with
    | some x => seamCheckTake s x h.sender frame slice crc refCrc
    | none => s) []
def execSeamCheck (h : ClpHdr) (session frame slice crc : Nat) (refCrc : Option Nat) (s : State) : Result :=
  act s (!asleep s) (seamCheckIn h session frame slice crc refCrc s)

/-- Number of slices, from 0 on, that are there, and that have been released. -/
def sliceThere (x : Session) (f : EncFrame) (k : Nat) : Bool :=
  ((rowsInOrder f.cfg).filter (fun q => q.1 = k)).all (rowThere x f)
def sliceOut (x : Session) (f : EncFrame) (k : Nat) : Bool := groupOut x f ((rowsInOrder f.cfg).filter (fun q => q.1 = k))
def leading (n : Nat) (p : Nat → Bool) : Nat := ((List.range n).takeWhile p).length

/-- The collating device multicasts COMMIT. -/
def sendCommit (s : State) (x : Session) (frame : Nat) : State :=
  match frameOf x frame with
  | none => s
  | some f =>
    let n := sliceCount f.cfg
    let r := leading n (sliceThere x f)
    let o := leading n (sliceOut x f)
    sendClp (sessPut s { x with dist := { x.dist with commitFrame := frame, received := r, released := o } }) 0x08 clpAll
      [x.dist.fabricSession, frame, r, o]

/-- Fragments of a slice as they have arrived. -/
def sliceParts (x : Session) (f : SliceFrag) : List SliceFrag :=
  x.dist.fragments.filter (fun g => g.frame == f.frame && g.index == f.index)

/-- The bytes of fragments that follow one another without a gap, up to the last one; `n` bounds them. -/
def joinParts (n : Nat) (l : List SliceFrag) (off : Nat) : Option Bytes :=
  match n with
  | 0 => none
  | k + 1 =>
    match l.find? (fun g => g.offset == off) with
    | none => none
    | some g => if bitOf g.flags 0 then some g.data else (joinParts k l (off + g.data.length)).map (g.data ++ ·)

/-- A fragment is new: kept; a complete slice is checked against SLICE_CRC, and confirmed or discarded (R184). -/
def takeFragment (s : State) (x : Session) (f : SliceFrag) : State :=
  let y := { x with dist := { x.dist with fragments := x.dist.fragments ++ [f] } }
  let parts := sliceParts y f
  let rest := y.dist.fragments.filter (fun g => !(g.frame == f.frame && g.index == f.index))
  match joinParts parts.length parts 0 with
  | none => sessPut s y
  | some b =>
    if parts.any (fun g => bitOf g.flags 0 && g.crc == crc32 b) then
      let z := { y with dist := { y.dist with fragments := rest, slices := tset y.dist.slices (statsKey f.frame f.index) b } }
      if collator z then sendCommit (sessPut s z) z f.frame else sessPut s z
    else sessPut s { y with dist := { y.dist with fragments := rest, badCrc := y.dist.badCrc + 1 } }

/-- SLICE_TRANSFER: duplicates, wrong epochs and the fragments of a fenced primary are discarded (R184, R190). -/
def execSliceTransfer (f : SliceFrag) (t : Nat) (s : State) : Result :=
  act s (!asleep s && s.fabric.joined) (
    let s1 := atTime s t
    match sessOfFabric s1 f.session with
    | none => s1
    | some x =>
      if !collates x then s1
      else if f.epoch < epochFor s1 f.session f.frame || heldEpoch s1 < f.epoch then
        sessPut s1 { x with dist := { x.dist with wrongEpoch := x.dist.wrongEpoch + 1 } }
      else if x.dist.outcast.contains (f.region, f.sender) then clpDiscard s1
      else if (tfind x.dist.slices (statsKey f.frame f.index)).isSome || (sliceParts x f).any (fun g => g.offset == f.offset) then
        sessPut s1 { x with dist := { x.dist with duplicates := x.dist.duplicates + 1 } }
      else takeFragment s1 x f)

/-- Send a held slice again. -/
def resendSlice (s : State) (x : Session) (f : EncFrame) (slice : Nat) : State :=
  match tfind x.dist.slices (statsKey f.number slice) with
  | some b => (fragmentsOf (b.length / 8900 + 1) x f (curEpoch s) slice (sliceRegion f slice) 0 b).foldl
      (fun s p => emit s (.packet x.id 3 [slice] p)) s
  | none => s

/-- Note that something was sent again now. -/
def resent (x : Session) (frame k kind now : Nat) : Session :=
  { x with dist := { x.dist with unacked := x.dist.unacked.map (fun u =>
      if u.1 == frame && u.2.1 == k && u.2.2.1 == kind then (u.1, u.2.1, u.2.2.1, now) else u) } }

/-- Does something wait for its confirmation for 200 µs? -/
def overdue (x : Session) (frame k kind now : Nat) : Bool :=
  x.dist.unacked.any (fun u => u.1 == frame && u.2.1 == k && u.2.2.1 == kind && decide (u.2.2.2 + 200000 ≤ now))

/-- SLICE_RESEND_TIMER. -/
def execSliceResendTimer (session frame slice t : Nat) (s : State) : Result :=
  act s (!asleep s) (
    let s1 := atTime s t
    match sessOfFabric s1 session with
    | none => s1
    | some x =>
      match frameOf x frame with
      | some f => if overdue x frame slice 1 s1.now then resendSlice (sessPut s1 (resent x frame slice 1 s1.now)) x f slice else s1
      | none => s1)

/-! ### Strips (R175, R180) -/

/-- Regions that a device codes, as far as this device knows. -/
def regionsOf (x : Session) (m : Nat) : List Nat := (x.dist.regions.filter (fun p => p.2 == m)).map (·.1)

/-- HALO_STRIP (kind 0xF0): the strips of a band of the sender's regions. -/
def haloIn (h : ClpHdr) (session frame band : Nat) (data : Bytes) (s : State) : State :=
  clpIn s h 0xF0 (some (.haloStrip h session frame band data)) false (fun s =>
    match sessOfFabric s session with
    | none => s
    | some x =>
      let more := ((regionsOf x h.sender).filter (fun r => !x.dist.outcast.contains (r, h.sender))).map (fun r => (frame, band, r))
      sessPut s { x with dist := { x.dist with strips := x.dist.strips ++ more } }) []
def execHaloStrip (h : ClpHdr) (session frame band : Nat) (data : Bytes) (s : State) : Result :=
  act s (!asleep s) (haloIn h session frame band data s)

/-- HALO_RESEND_TIMER. -/
def execHaloResendTimer (session frame band t : Nat) (s : State) : Result :=
  act s (!asleep s) (
    let s1 := atTime s t
    match sessOfFabric s1 session with
    | none => s1
    | some x =>
      match frameOf x frame with
      | some f =>
        if overdue x frame band 0 s1.now then
          emit (sessPut s1 (resent x frame band 0 s1.now))
            (.packet x.id 0xF0 [x.dist.fabricSession, frame, band] (Config.unitBytes 0xF0 f.cfg frame [band]))
        else s1
      | none => s1)

/-- SEAM_STRIP (kind 0xF2): the filters across the seam may run, and the band's final samples may go out. -/
def seamIn (h : ClpHdr) (session frame band : Nat) (data : Bytes) (s : State) : State :=
  clpIn s h 0xF2 (some (.seamStrip h session frame band data)) false (fun s =>
    match sessOfFabric s session with
    | none => s
    | some x =>
      let more := ((regionsOf x h.sender).filter (fun r => !x.dist.outcast.contains (r, h.sender))).map (fun r => (frame, band, r))
      let y := { x with dist := { x.dist with seams := x.dist.seams ++ more } }
      match frameOf y frame with
      | some f => if seamsReady x f band then sessPut s y else sendStrips (sessPut s y) y f band
      | none => sessPut s y) []
def execSeamStrip (h : ClpHdr) (session frame band : Nat) (data : Bytes) (s : State) : Result :=
  act s (!asleep s) (seamIn h session frame band data s)

/-! ### FENCE and PROMOTE (R387, R190, R191) -/

/-- Every role of the sessions that a FENCE names stops (0 = all). -/
def stopRoles (s : State) (session : Nat) : State :=
  (fabricSessions s).foldl (fun s x =>
    if session = 0 || x.dist.fabricSession = session then
      if x.placed then destroySession s x else sessPut s { x with dist := { x.dist with roles := [] } }
    else s) s

/-- A FENCE about this device: the roles stop; a loser of a divergence takes class 4, an expelled member leaves, one fenced from a
session is quarantined. -/
def fencedSelf (s : State) (reason session : Nat) : State :=
  let s1 := larderUpdate (stopRoles s session)
  match reason, session with
  | 2, 0 => class4 (recordFault s1 45 4 none)
  | 2, _ => quarantine s1
  | 4, _ => s1
  | _, 0 => logFabric (leaveFabric s1)
  | _, _ => logFabric s1

/-- The manager hears a member fence itself: from every session, or from one. -/
def fencedOther (s : State) (m session : Nat) : State :=
  if session = 0 then loseMember s m 0 false
  else match memberGet s m with
    | some x => (x.roles.filter (fun r => r.1 == session)).foldl (fun s r =>
        match sessOfFabric s r.1 with
        | some y => takeRole (loseRole s m r) y.id m r.2.1 r.2.2
        | none => s) s
    | none => s

/-- FENCE: a standby takes over at once when the manager leaves (FABRIC_LEAVE with FORCE). -/
def fenceIn (h : ClpHdr) (member reason session : Nat) (s : State) : State :=
  clpIn s h 0x0A (some (.fence h member reason session)) false (fun s =>
    if member = s.fabric.member then fencedSelf s reason session
    else if s.mode == .manager then fencedOther s member session
    else if s.mode == .standby && member == s.fabric.manager && session == 0 && s.fabric.qualified && s.fabric.heldMsgs.isEmpty then takeOver s
    else s) []
def execFence (h : ClpHdr) (member reason session : Nat) (s : State) : Result :=
  act s (!asleep s) (fenceIn h member reason session s)

/-- The promoted shadow sends its held and later slices with FROM_SHADOW. -/
def sendHeld (s : State) (x : Session) (region frame first : Nat) : State :=
  x.enc.frames.foldl (fun s f =>
    (List.range (sliceCount f.cfg)).foldl (fun s k =>
      if sliceRegion f k = region && decide (statsKey frame first ≤ statsKey f.number k)
          && (tfind x.dist.slices (statsKey f.number k)).isSome then resendSlice s x f k
      else s) s) s

/-- The promoted shadow collator sends the packets that it holds. -/
def sendRetained (s : State) (x : Session) : State :=
  x.dist.retained.foldl (fun s p => emit s (.packet x.id p.2.1 [] p.2.2)) s

/-- PROMOTE at a session device. -/
def promoteHere (s : State) (x : Session) (region newMember frame firstSlice : Nat) : State :=
  let me := newMember == s.fabric.member
  let from_ := if region = 0xFFFF then 3 else 1
  let to_ := if region = 0xFFFF then 2 else 0
  let gone := match primaryOf x region with | some m => if m = newMember then [] else [(region, m)] | none => []
  let roles := if me then (x.dist.roles.filter (· ≠ (region, from_))) ++ (if x.dist.roles.contains (region, to_) then [] else [(region, to_)])
               else x.dist.roles
  let again := if me && region = 0xFFFF then [] else x.dist.retained
  let y := { x with dist := { x.dist with
    regions := if region = 0xFFFF then x.dist.regions else x.dist.regions.filter (fun p => p.1 ≠ region) ++ [(region, newMember)]
    outcast := (x.dist.outcast.filter (· ≠ (region, newMember))) ++ gone
    fragments := x.dist.fragments.filter (fun g => !(g.region == region && g.sender != newMember))
    roles := roles
    promoted := if me && !x.dist.promoted.contains region then region :: x.dist.promoted else x.dist.promoted
    retained := again } }
  let s1 := sessPut s y
  if !me then s1
  else if region = 0xFFFF then sendRetained s1 x
  else sendHeld s1 y region frame firstSlice

/-- PROMOTE. -/
def promoteIn (h : ClpHdr) (session region newMember frame firstSlice : Nat) (s : State) : State :=
  clpIn s h 0x0B (some (.promote h session region newMember frame firstSlice)) false (fun s =>
    match sessOfFabric s session with
    | some x => promoteHere s x region newMember frame firstSlice
    | none => s) []
def execPromote (h : ClpHdr) (session region newMember frame firstSlice : Nat) (s : State) : Result :=
  act s (!asleep s) (promoteIn h session region newMember frame firstSlice s)

/-! ### Epochs (R391, R394) -/

/-- The effect of a message that was held until its epoch came. -/
def runHeld (s : State) (i : Instr) : State :=
  match i with
  | .leaseRenew h a b c d => leaseRenewIn h a b c d s
  | .timeCheck h a b c d => timeCheckIn h a b c d s
  | .assign h a b c d e => assignIn h a b c d e s
  | .ledger h a b c d e => ledgerIn h a b c d e s
  | .stats h a b c d => statsIn h a b c d s
  | .commit h a b c d => commitIn h a b c d s
  | .seamCheck h a b c d e => seamCheckIn h a b c d e s
  | .fence h a b c => fenceIn h a b c s
  | .promote h a b c d e => promoteIn h a b c d e s
  | .haloStrip h a b c d => haloIn h a b c d s
  | .seamStrip h a b c d => seamIn h a b c d s
  | .refereeResult h a b c d e => refereeIn h a b c d e s
  | _ => s

/-- Run the held messages whose epoch is known now, in the order of their arrival. -/
def replayHeld (s : State) : State :=
  let ready := s.fabric.heldMsgs.filter (fun m => decide (m.2.1 ≤ heldEpoch s))
  ready.foldl (fun s m => runHeld s m.1)
    (fabSet s (fun f => { f with heldMsgs := f.heldMsgs.filter (fun m => !decide (m.2.1 ≤ heldEpoch s)) }))

/-- The two checks of a prepare: the version and the hash. -/
def prepareOk (s : State) (hash version : Nat) : Bool := version == ownVersion s && hash == configHash s (fabricSessions s)

/-- A phase of an epoch change at a member. -/
def epochPhase (s : State) (phase epoch hash version : Nat) (changes : List (Nat × Nat)) : State :=
  let p : EpochChange := { epoch := epoch, hash := hash, version := version, changes := changes, commit := decide (phase = 1) }
  match phase with
  | 0 => replayHeld (fabSet s (fun f => { f with prepared := some p, hashBad := hash != configHash s (fabricSessions s) }))
  | 1 =>
    let s1 := replayHeld (fabSet s (fun f => { f with epoch := epoch, epochs := p :: f.epochs, prepared := none, current := version }))
    if version != ownVersion s1 || s1.fabric.hashBad then (if s1.mode == .quarantine then s1 else quarantine s1) else leaveQuarantine s1
  | _ => quarantine (fabSet s (fun f => { f with prepared := none, hashBad := true }))

/-- A member that lacks an epoch asked the manager for it. -/
def epochAgain (s : State) (m : Nat) : State :=
  match s.fabric.epochs with
  | p :: _ => sendAcked s 0x0C m (epochFields s p 1 m)
  | [] => s

/-- EPOCH_ADVANCE: a failed prepare is acknowledged with NAK. -/
def execEpochAdvance (h : ClpHdr) (phase newEpoch configHash version : Nat) (changes : List (Nat × Nat)) (s : State) : Result :=
  act s (!asleep s)
    (clpIn s h (if phase = 0 && !prepareOk s configHash version then 0x0C + clpNak else 0x0C) none false (fun s =>
      if s.mode == .manager then epochAgain s h.sender
      else epochPhase s phase newEpoch configHash version changes) [])

/-- EPOCH_HOLD_TIMEOUT: 10 ms without the epoch lead to Quarantine. -/
def execEpochHoldTimeout (epoch t : Nat) (s : State) : Result :=
  act s (!asleep s) (
    let s1 := atTime s t
    if s1.fabric.heldMsgs.any (fun m => m.2.1 == epoch && decide (m.2.2 + 10000000 ≤ s1.now)) && decide (heldEpoch s1 < epoch) then
      let s2 := fabSet s1 (fun f => { f with heldMsgs := f.heldMsgs.filter (fun m => m.2.1 ≠ epoch) })
      if s2.mode == .worker || s2.mode == .standby then quarantine s2 else s2
    else s1)

end Sys2Proof.Machine
end

