-- ==== Sys2Proof/Machine/Canary.lean ====
section
/-! DEFINITION. Fault collection and reaction (chapter 20 of the manual), the takeover of a core's work and the reload of its
patch RAM (R42, R45, R46). -/

namespace Sys2Proof.Machine

/-! ### Classes (Table 20.2) -/

/-- Class of an event of a block (R400); none for a pair that the policy does not know.  The generic signals ERR_CE, ERR_UE and
ERR_FATAL of a block without a line of its own are taken as classes 0, 1 and 2 (log entry 51). -/
def faultClass : FaultSrc → ErrEvent → Option Nat
  | .core _, .restart => some 1 | .core _, .ladleOverflow => some 1 | .core _, .patchParity => some 2
  | .core _, .unplaceable => some 3
  | .cluster _, .surveyRepeat => some 1 | .cluster _, .ppuRepeat => some 1 | .cluster _, .surveyFail => some 2
  | .cluster _, .ppuFail => some 2 | .cluster _, .pllLoss => some 2 | .cluster _, .takeoverUe => some 3
  | .hbm _, .retrainFail => some 1 | .hbm _, .trainFailBoot => some 2 | .hbm _, .driftUntrained => some 4
  | .switch, .freeError => some 0 | .switch, .memError => some 1
  | .tables, .entryError => some 1
  | .port _, .tmError => some 1 | .port _, .serdesFail => some 2
  | .host, .aer => some 1
  | .pixel _, .fifoError => some 1 | .pixel _, .laneFail => some 2
  | .dma _, .dmaParity => some 1
  | .foreman, .lockstep => some 4 | .foreman, .watchdog => some 4 | .foreman, .uncorrected => some 4
  | .foreman, .fatal => some 4
  | .security, .selfTestFail => some 2 | .security, .uncorrected => some 2 | .security, .integrity => some 5
  | .security, .tamper => some 5
  | .clockPower, .stretch => some 0 | .clockPower, .clockLoss => some 0 | .clockPower, .dip => some 2
  | .clockPower, .vddReset => some 4 | .clockPower, .collector => some 5
  | .thermal, .overTemp110 => some 0 | .thermal, .throttle => some 2 | .thermal, .trip => some 5
  | .fabricLink, .unreachable => some 1 | .fabricLink, .leaseEnd => some 4
  | _, .corrected => some 0 | _, .uncorrected => some 1 | _, .fatal => some 2
  | _, _ => none

/-- The units that class 2 of an event fences (R404). -/
def fencesOf : FaultSrc → ErrEvent → List FenceUnit
  | .core n, _ => [.core n]
  | .cluster _, .takeoverUe => []
  | .cluster k, .surveyRepeat => [.survey k] | .cluster k, .surveyFail => [.survey k]
  | .cluster k, .ppuRepeat => [.ppu k] | .cluster k, .ppuFail => [.ppu k]
  | .cluster k, _ => [.cluster k]
  | .port p, _ => [.ethPort p]
  | .pixel p, _ => [.pixelPort p]
  | .ppu, _ => [.ppu 0, .ppu 1, .ppu 2, .ppu 3]
  | .dma _, _ => [.dmaHost]
  | _, _ => []

/-! ### Sessions and units -/

/-- Has a session work, placed or running, on a core that a test picks? -/
def worksOn (s : State) (x : Session) (p : Nat → Bool) : Bool :=
  s.cores.any (fun c => p c.1 && ((match c.2.work with | some w => w.session == x.id | none => false)
      || (match c.2.decoding with | some d => d.1 == x.id | none => false)))
    || s.clusters.any (fun k => k.2.queue.any (fun b => b.session == x.id && p b.core))

/-- DEGRADED is cleared once every core, cluster engine and port is usable again (R246). -/
def settleDegraded (s : State) : State :=
  if s.degraded && !capacityLost s then causeAll { s with degraded := false } icDegradedChange else s

/-- A class 4 fault of a hardware cause (R16): recorded in hardware, and in the always-on island for the flash log. -/
def hardFault (s : State) (bit : Nat) : State :=
  let s1 := canaryCount s bit 4
  { s1 with canary := { s1.canary with faultN := false, lastSevere := s.now, afterClass4 := true },
            power := { s1.power with aonRecord := s1.power.aonRecord ++ [bit] } }

/-- The collector gates the egress of every session; the warm reset follows 1 ms later (R408). -/
def gateEgress (s : State) : State :=
  let s1 := hardFault s 41
  { s1 with canary := { s1.canary with gatedAt := some (s1.canary.gatedAt.getD s1.now) } }

/-- A sessions' key service fell into error: class 3 of every session that needs it (R446, R447, Table 20.2). -/
def securityFault (s : State) : State :=
  resyncWhere (recordFault s 42 3 none) (fun x => isLive x && securityStops s x)

/-- The error state (R446): the algorithms of a mask stop in every engine; SEC_ERROR, class 2 on bit 42, AVAILABLE in one Larder
update, and class 3 of the sessions that need a service. -/
def enterSecError (s : State) (mask : BitVec 16) : State :=
  let s1 := { s with sec := { s.sec with secError := true, errorAlgs := s.sec.errorAlgs ||| mask } }
  let s2 := larderUpdate (setServices (recordFault (causeAll s1 icSecError) 42 2 none))
  if (sessList s2).any (fun x => isLive x && securityStops s2 x) then securityFault s2 else s2

/-! ### ERROR_PORT_EVENT (R399 to R403) -/

/-- What a class 1 to class 4 event of a block does beyond its record and its fences. -/
def reactTo (s : State) (src : FaultSrc) (ev : ErrEvent) (addr : Nat) : State :=
  match src, ev with
  | .cluster k, .takeoverUe => replaceAll (resyncWhere s (fun x => worksOn s x (fun c => c / 7 == k)))
  | .hbm k, .trainFailBoot => stackSet s k { stackGet s k with trainFailed := true }
  | .hbm _, .driftUntrained => class4 s
  | .switch, .memError =>
    (match bufGet s addr with | some b => bufPut s addr { b with readError := true } | none => s)
  | .host, .fatal => hostInterfaceReset s
  | .dma ch, .dmaParity =>
    if ch < 16 && (dmaGet s ch).state == .running then dmaHalt s ch addr false false false 1 else s
  | .security, .selfTestFail => larderUpdate (setServices (causeAll { s with sec := { s.sec with secError := true } } icSecError))
  | .clockPower, .dip => replaceAll s
  | .thermal, .throttle => replaceAll { s with power := { s.power with throttle := true } }
  | .fabricLink, .leaseEnd => class4 s
  | _, _ => s

/-- An event of a core: a restart, a stop, or class 3 of the sessions whose units cannot be placed (R44 to R46). -/
def corePort (s : State) (c cls addr : Nat) : State :=
  match coreFault s c cls (some addr) with
  | (k, s1) =>
    if k = 1 then restartAny s1 c
    else if k = 3 then replaceAll (resyncWhere s1 (fun x => worksOn s x (· == c)))
    else s1

/-- An event of any other block: logged alone when its units are fenced; otherwise recorded under its class, which the
escalation may raise, with the fences of class 2 and what the block does. -/
def blockPort (s : State) (src : FaultSrc) (ev : ErrEvent) (cls addr : Nat) : State :=
  let us := fencesOf src ev
  if !us.isEmpty && us.all (s.canary.fencedUnits.contains ·) then logFault s (canaryBit src) cls (some addr)
  else
    let (k, s1) := collect s (canaryBit src) (canaryUnit src) cls (some addr)
    let s2 := match src with
      | .cluster n => if 1 ≤ k then endRotation s1 n else s1
      | _ => s1
    reactTo (if k = 2 then us.foldl orderFence s2 else s2) src ev addr

/-- An event in its class. -/
def portEvent (s : State) (src : FaultSrc) (ev : ErrEvent) (cls addr : Nat) : State :=
  if cls = 5 then
    class5 (if ev == .trip then { s with canary := { s.canary with thermtripN := false } } else s) (canaryBit src)
  else match src with
    | .core c => corePort s c cls addr
    | .foreman => if cls = 4 then (if ev == .watchdog then warmReset (hardFault s 41) else gateEgress s)
                  else blockPort s src ev cls addr
    | .clockPower => if ev == .vddReset then warmReset (hardFault s 43) else blockPort s src ev cls addr
    | _ => blockPort s src ev cls addr

/-- ERROR_PORT_EVENT: `addr` is the address, buffer or word that the event names.  A fifth queued event is lost, and its block's
OVERRUN counts it. -/
def execErrorPortEvent (src : FaultSrc) (ev : ErrEvent) (addr t : Nat) (s : State) : Result :=
  withUnit (isSrc src) (act s (!asleep s) (
    let s1 := atTime s t
    if ev == .overrun then
      { s1 with canary := { s1.canary with overrun := tadd s1.canary.overrun (canaryBit src * 64 + canaryUnit src) 1 } }
    else match faultClass src ev with
      | some cls => portEvent s1 src ev cls addr
      | none => s1))

/-! ### Takeover (R45, R46, R109) -/

/-- What a core has to do: the unit that runs, then its queued units, in their order. -/
def workOfCore (s : State) (c : Nat) : List BandCmd :=
  (match (coreGet s c).work with | some w => [⟨w.session, w.frame, w.unit, c⟩] | none => [])
    ++ (clGet s (c / 7)).queue.filter (fun b => b.core = c)

/-- The unit of a band command. -/
def unitOfCmd (s : State) (b : BandCmd) : Option (Session × EncFrame × UnitRec) :=
  match sessById s b.session with
  | none => none
  | some x => match frameOf x b.frame with
    | none => none
    | some f => (f.units[b.unit]?).map (fun u => (x, f, u))

/-- When a unit is predicted to commit if it starts at a time (R408): its coding units from the last commit on, at their nominal
cost. -/
def predictCommit (f : EncFrame) (u : UnitRec) (start : Nat) : Nat :=
  start + cdiv ((unitCus u - u.commits.length * u.cols) * schedCost f.cfg * (100 + retryPct f.cfg) * 1000) (100 * Config.fCoreMhz)

/-- The release time of a band: its hold, or the scheduled commit where nothing is held (R199). -/
def releaseAt (f : EncFrame) (u : UnitRec) : Nat :=
  match f.holds.find? (fun h => h.1 = u.band) with
  | some h => h.2
  | none => u.due

/-- Move a unit to another core, as its last commit left it; without SPARE_READY its frame reports the late takeover (R47), and in
a session with shadows a predicted late commit fences the device for the session (R408). -/
def reassignUnit (s : State) (b : BandCmd) (dst start : Nat) : State :=
  match unitOfCmd s b with
  | none => s
  | some (x, f, u) =>
    let f1 := if u8 x.cfg 0x0ED = 1 then f else { f with late := true }
    let s1 := unitPut s x f1 b.unit { rewindUnit u with core := dst }
    if u.started && decide (releaseAt f u < predictCommit f u start) then fenceSelf s1 x else s1

/-- Put units at the head of the queue of a core's cluster, in order, for that core (R15, R45). -/
def pushUnits (s : State) (l : List BandCmd) (dst start : Nat) : State :=
  let s1 := l.foldl (fun s b => reassignUnit s b dst start) s
  let k := dst / 7
  clSet s1 k { clGet s1 k with queue := l.map (fun b => { b with core := dst }) ++ (clGet s1 k).queue }

/-- Take everything from a core: its uncommitted output is discarded, its queued commands leave the queue (R45, R109). -/
def stripCore (s : State) (c : Nat) : State :=
  let s1 := restartDecoder s c
  let x := coreGet s1 c
  let s2 := coreSet s1 c { x with work := none, decoding := none, pipe := [none, none, none, none, none, none, none],
                                  ladle := fifoRewind x.ladle, redoing := false }
  clSet s2 (c / 7) { clGet s2 (c / 7) with queue := (clGet s2 (c / 7)).queue.filter (fun b => b.core ≠ c) }

/-- When a core can start: at once when awake, otherwise after its wake. -/
def readyAt (s : State) (c : Nat) : Nat :=
  match (coreGet s c).waking with
  | some d => d
  | none => s.now + wakeTime s c

/-- The core that takes over: the spare, or the lowest usable core of the cluster that has no assignment (R45, R46). -/
def takeoverCore (s : State) (c : Nat) : Option Nat :=
  let k := c / 7
  let fit (n : Nat) : Bool := n != c && coreUsable s n && (coreGet s n).fault == .none
  match (clGet s k).spare with
  | some n => if fit n then some n else ((clCores k).filter (fun n => fit n && coreIdle s n)).head?
  | none => ((clCores k).filter (fun n => fit n && coreIdle s n)).head?

/-- Hand the work of a core over to another one. -/
def handWork (s : State) (c dst : Nat) : State :=
  let l := workOfCore s c
  let d := (coreGet s c).decoding
  let start := readyAt s dst
  let s1 := pushUnits (stripCore s c) l dst start
  let busy := !l.isEmpty || d.isSome
  let y := coreGet s1 dst
  let s2 := coreSet s1 dst { y with decoding := if y.decoding.isNone then d else y.decoding, redoing := busy }
  if busy && y.sleep != .awake && y.waking.isNone then beginWake s2 dst else s2

/-- No core can take the work: class 3 of its sessions, which the Foreman re-places (R46). -/
def cannotPlace (s : State) (c : Nat) : State :=
  let hit (x : Session) : Bool := worksOn s x (· == c)
  if (sessList s).any hit then replaceAll (resyncWhere (recordFault s c 3 none) hit) else s

/-- SPARE_TAKEOVER: `core` is the core that a class 2 fault has stopped. -/
def execSpareTakeover (core t : Nat) (s : State) : Result :=
  withUnit (isCore core) (act s (!asleep s && (coreGet s core).fault == .stopped) (
    let s1 := atTime s t
    let s2 := match takeoverCore s1 core with
      | some dst => handWork s1 core dst
      | none => stripCore (cannotPlace s1 core) core
    let k := core / 7
    let used := (clGet s2 k).spare == some core || (clGet s2 k).spare == takeoverCore s1 core
    let s3 := clSet (coreSet s2 core { coreGet s2 core with fault := .replaced }) k
      { clGet s2 k with spare := if used then none else (clGet s2 k).spare }
    larderUpdate (setDegraded s3)))

/-! ### FENCE_EFFECT (R404) -/

/-- Cores that could take a unit from another cluster: the session's serving clusters, the shortest queue first. -/
def otherCore (s : State) (x : Session) (not : Nat) : Option Nat :=
  let l := (List.range 28).filter (fun c => c / 7 != not && x.serving.contains (c / 7) && (activeCores s (c / 7)).contains c
    && (coreGet s c).fault == .none)
  (List.range 64).findSome? (fun n => l.find? (fun c => (workOfCore s c).length == n))

/-- Move the units that need Survey off a cluster whose Survey engine is fenced; class 3 where no core takes them (R68, log entry 52). -/
def leaveSurvey (s : State) (k : Nat) : State :=
  ((clCores k).flatMap (workOfCore s)).foldl (fun s b =>
    match unitOfCmd s b with
    | none => s
    | some (x, f, u) =>
      if surveyRefs f.cfg = 0 || (u.started && surveyReady f u) then s
      else
        let cut := clSet s k { clGet s k with queue := (clGet s k).queue.filter (· ≠ b) }
        match otherCore s x k with
        | some c => pushUnits (if (coreGet s b.core).work == some ⟨b.session, b.frame, b.unit⟩ then stripCore cut b.core else cut)
            [b] c (readyAt s c)
        | none => enterResync (recordFault s (28 + k) 3 none) x) s

/-- The unit's clocks stop and its output is discarded. -/
def stopUnit (s : State) (u : FenceUnit) : State :=
  match u with
  | .core c =>
    let x := coreGet s c
    coreSet s c { x with pipe := [none, none, none, none, none, none, none], ladle := fifoRewind x.ladle,
                         fault := if x.fault == .none then .stopped else x.fault }
  | .survey k => leaveSurvey s k
  | .ppu _ => s
  | .cluster k =>
    let s1 := resyncWhere (if (sessList s).any (fun x => worksOn s x (fun c => c / 7 == k)) then recordFault s (28 + k) 3 none else s)
      (fun x => worksOn s x (fun c => c / 7 == k))
    (clCores k).foldl stripCore (clSet s1 k { clGet s1 k with spare := none, queue := [] })
  | .ethPort p => portDown s p
  | .pixelPort p => pxDown s p
  | .dmaHost => { (List.range 16).foldl disableChannel s with canary := { s.canary with dmaHalf := true } }

/-- Is a cluster's reservation above what remains of it? -/
def overcommitted (s : State) : Bool :=
  (List.range 4).any fun k =>
    let use := clusterUse s k
    !(fracLe (use (·.core)) (fracOf ((activeCores s k).length * coreHz s)))
      || ((clGet s k).fenced && (sessList s).any (fun x => x.serving.contains k))
      || ((clGet s k).surveyFenced && (use (·.survey)).num != 0)
      || ((clGet s k).ppuFenced && ((use (·.ppu)).num != 0 || (use (·.proxy)).num != 0))

/-- FENCE_EFFECT: the fence reaches its unit; the Larder shows it, and sessions are re-placed where the capacity that is left does
not hold them (R404, R405). -/
def execFenceEffect (u : FenceUnit) (t : Nat) (s : State) : Result :=
  withUnit (isUnit u) (act s (!asleep s && s.canary.pendingFences.contains u) (
    let s1 := stopUnit (atTime s t) u
    let s2 := unitFence s1 u true
    let s3 := { s2 with canary := { s2.canary with pendingFences := s2.canary.pendingFences.filter (· ≠ u)
                                                   fencedUnits := s2.canary.fencedUnits ++ [u] } }
    let s4 := larderUpdate (setDegraded s3)
    if overcommitted s4 then replaceAll s4 else s4))

/-! ### FAULT_N_RELEASE (R406) -/

/-- FAULT_N_RELEASE. -/
def execFaultNRelease (t : Nat) (s : State) : Result :=
  act s (!dead s && !s.canary.faultN && !s.canary.afterClass4 && decide (s.canary.lastSevere + 1000000 ≤ max s.now t)
      && (sessList s).all (fun x => x.state != .resync))
    (let s1 := atTime s t
     { s1 with canary := { s1.canary with faultN := true } })

/-! ### BIST in Maintenance (R410) -/

/-- Post the result of one unit; the manual states no packing of ARG0 (log entry 10). -/
def bistResult (s : State) (u : FenceUnit) (pass : Bool) : State :=
  logEvent s 0x0501 7 (unitBit u) none (some (if pass then 1 else 0))

/-- A core as its reset leaves it, with the patch RAM reloaded from the verified copy (Table 23.8). -/
def reloadCore (s : State) (c : Nat) : State :=
  let x := coreGet s c
  let v := (activeFacts s).version
  coreSet s c { CoreState.atReset with
    patchOk := true, patchRam := Config.patchWords v, matchRegs := Config.patchMatch v, parity := x.parity,
    ladle := PackFifo.empty x.ladle.capacity x.ladle.high x.ladle.low,
    busy := x.busy, stalled := x.stalled, gatedNs := x.gatedNs, powerGatedNs := x.powerGatedNs }

/-- A unit that passes returns to service. -/
def returnUnit (s : State) (u : FenceUnit) : State :=
  let s1 := unitFence s u false
  match u with
  | .core c => reloadCore s1 c
  | .dmaHost => { s1 with canary := { s1.canary with dmaHalf := false } }
  | _ => s1

/-- The result of one unit. -/
def settleUnit (failed : List FenceUnit) (s : State) (u : FenceUnit) : State :=
  if failed.contains u then bistResult (loseUnit s u) u false else bistResult (returnUnit s u) u true

/-- BIST_COMPLETE: `failed` holds the numbers of the units that fail (log entry 25). -/
def execBistComplete (failed : List Nat) (t : Nat) (s : State) : Result :=
  act s (!asleep s && s.canary.bist) (
    let s1 := atTime s t
    let s2 := { s1 with canary := { s1.canary with bist := false, fencedUnits := [], pendingFences := [], lostUnits := [] } }
    let s3 := allUnits.foldl (settleUnit (failed.filterMap unitOf)) s2
    let s4 := (List.range 4).foldl (fun s k => match (clGet s k).spare with
      | some c => if coreUsable s c then s else clSet s k { clGet s k with spare := none }
      | none => s) s3
    settleDegraded (larderUpdate s4))

/-! ### Patch RAM (R42) -/

/-- PATCH_PARITY_ERROR: the core stops with a class 2 fault; its patch RAM waits for the reload. -/
def execPatchParityError (core t : Nat) (s : State) : Result :=
  withUnit (isCore core) (act s (!asleep s) (
    let s1 := atTime s t
    if (coreGet s1 core).fenced || (coreGet s1 core).lost then logFault s1 core 2 none
    else (coreFault (coreSet s1 core { coreGet s1 core with
      patchOk := false, parity := s1.now :: (coreGet s1 core).parity }) core 2 none).2))

/-- CORE_BIST_RELOAD_DONE: the reload and the BIST of a core fenced by its first parity error in 24 hours end. -/
def execCoreBistReloadDone (core : Nat) (pass : Bool) (t : Nat) (s : State) : Result :=
  withUnit (isCore core) (act s (!asleep s && (coreGet s core).fenced && !(coreGet s core).patchOk && !(coreGet s core).lost
      && (coreGet s core).fault == .replaced && parity24 (atTime s t) core == 1) (
    let s1 := atTime s t
    if pass then
      let s2 := reloadCore (unitFence s1 (.core core) false) core
      let s3 := clSet s2 (core / 7) { clGet s2 (core / 7) with spare := some core }
      settleDegraded (larderUpdate
        { s3 with canary := { s3.canary with fencedUnits := s3.canary.fencedUnits.filter (· ≠ .core core) } })
    else larderUpdate (bistResult (loseUnit s1 (.core core)) (.core core) false)))

/-! ### The hardware causes of class 4 (R408, R411) -/

/-- LOCKSTEP_MISMATCH: egress is gated at once; the warm reset comes 1 ms later. -/
def execLockstepMismatch (t : Nat) (s : State) : Result := act s (!asleep s) (gateEgress (atTime s t))

/-- WATCHDOG_TIMEOUT: 200 ms without service. -/
def execWatchdogTimeout (t : Nat) (s : State) : Result :=
  act s (!asleep s && decide (s.foreman.lastService + 200000000 ≤ max s.now t)) (warmReset (hardFault (atTime s t) 41))

end Sys2Proof.Machine
end

