-- ==== Sys2Proof/Machine/Hbm.lean ====
section
/-! DEFINITION. The HBM controllers (R263 to R281) and the scrubbing of the on-chip SRAMs (R282).  What a request reads or writes
is decided when a controller accepts it (R265); queues, rows, refreshes and retraining decide only when it is served. -/

namespace Sys2Proof.Machine

/-! ### Rows and modes -/

/-- Row of an address within its pseudo-channel, its bank, and a number for the row among all (R264). -/
def rowOf (a : Nat) : Nat := a / 65536
def bankOf (a : Nat) : Nat := Config.hbmBank (rowOf a)
def rowId (a : Nat) : Nat := pcOf a + 64 * rowOf a

/-- Is a pseudo-channel throttled in place of neighbour refreshes: start-up, test, recovery (R270, R271)? -/
def throttles (s : State) (p : Nat) : Bool := s.mode == .secureBoot || s.mode == .maintenance || (pcGet s p).recovering

/-- Is a stack out of self-refresh (R269, R459)? -/
def stackAwake (s : State) (k : Nat) : Bool := !s.power.selfRefresh.contains k && decide (tget 0 s.power.srExit k ≤ s.now)

/-- Does a pseudo-channel serve requests: no retraining, no self-refresh? -/
def pcServes (s : State) (p : Nat) : Bool := (pcGet s p).retraining.isNone && stackAwake s (p / 32)

/-! ### Serving a request (R266, R267, R270, R271) -/

/-- Does the request hit an open row? -/
def rowHit (x : PseudoChannel) (r : HbmPend) : Bool :=
  match tfind x.openRows (bankOf r.addr) with
  | some o => o.1 == rowOf r.addr
  | none => false

/-- May the request be issued: a requester whose activates are spaced waits 2 µs between them (R271)? -/
def mayIssue (now : Nat) (x : PseudoChannel) (r : HbmPend) : Bool :=
  rowHit x r || !x.spaced.any (fun q => q.1 == r.requester && q.2.1 == bankOf r.addr && decide (now < q.2.2 + 2000))

/-- The next request of a queue: real-time first, then row hits, then the oldest. -/
def pickReq (now : Nat) (x : PseudoChannel) (l : List HbmPend) : Option HbmPend :=
  let may := l.filter (mayIssue now x)
  let pool := if (may.filter (·.realTime)).isEmpty then may else may.filter (·.realTime)
  match pool.find? (rowHit x) with
  | some r => some r
  | none => pool.head?

/-- An activate under throttling: counted for its row; at ACT_THRESHOLD the neighbours are refreshed and the requester's further
activates to the bank are spaced. -/
def countActivate (s : State) (x : PseudoChannel) (r : HbmPend) : PseudoChannel :=
  let n := tget 0 x.acts (rowOf r.addr) + 1
  let first := n = s.foreman.platform.actThreshold
  let moved := x.spaced.map (fun q => if q.1 = r.requester ∧ q.2.1 = bankOf r.addr then (q.1, q.2.1, s.now) else q)
  { x with acts := tset x.acts (rowOf r.addr) n, neighbours := x.neighbours + (if first then 1 else 0),
           spaced := if first ∧ ¬ x.spaced.any (fun q => q.1 = r.requester ∧ q.2.1 = bankOf r.addr)
                     then moved ++ [(r.requester, bankOf r.addr, s.now)] else moved }

/-- An activate: with probability 2^−NEIGHBOUR_N the neighbours are refreshed (R270), by a draw that the manual leaves to the
controller's generator (log entry 10). -/
def activateRow (s : State) (p : Nat) (r : HbmPend) : State :=
  if throttles s p then pcSet s p (countActivate s (pcGet s p) r)
  else
    let (v, s1) := draw s (2 ^ s.foreman.platform.neighbourN)
    if v = 0 then pcSet s1 p { pcGet s1 p with neighbours := (pcGet s1 p).neighbours + 1 } else s1

/-- Issue a request: the row opens, and an OPEN access leaves it open. -/
def issueReq (s : State) (p : Nat) (r : HbmPend) : State :=
  let s1 := if rowHit (pcGet s p) r then s else activateRow s p r
  let x := pcGet s1 p
  let rows := if r.openHint then tset x.openRows (bankOf r.addr) (rowOf r.addr, s1.now) else tdel x.openRows (bankOf r.addr)
  let s2 := pcSet s1 p { x with openRows := rows, issued := if r.write then x.issued else x.issued ++ [r] }
  let st := stackGet s2 (p / 32)
  stackSet s2 (p / 32) (if r.write then { st with bytesWritten := st.bytesWritten + r.data.length }
                        else { st with bytesRead := st.bytesRead + r.data.length })

/-- Serve the next read. -/
def serveRead (s : State) (p : Nat) : State :=
  match pickReq s.now (pcGet s p) (pcGet s p).readQ with
  | none => s
  | some r => issueReq (pcSet s p { pcGet s p with readQ := (pcGet s p).readQ.erase r }) p r

/-- Serve the next write that a test picks. -/
def serveWrite (s : State) (p : Nat) (f : HbmPend → Bool) : State :=
  match pickReq s.now (pcGet s p) ((pcGet s p).writeQ.filter f) with
  | none => s
  | some r => issueReq (pcSet s p { pcGet s p with writeQ := (pcGet s p).writeQ.erase r }) p r

/-- Drain the write queue to a length. -/
def drainWrites (n : Nat) (s : State) (p stop : Nat) : State :=
  match n with
  | 0 => s
  | k + 1 => if (pcGet s p).writeQ.length ≤ stop then s else drainWrites k (serveWrite s p (fun _ => true)) p stop

/-- Serve the queues after a change: writes from 48 entries down to 16 and those that have waited 4 µs, then a read. -/
def serveQueues (s : State) (p : Nat) : State :=
  if !pcServes s p then s
  else
    let s1 := if 48 ≤ (pcGet s p).writeQ.length then drainWrites 64 s p 16 else s
    let late := fun (r : HbmPend) => decide (r.arrived + 4000 ≤ s1.now)
    serveRead (((pcGet s1 p).writeQ.filter late).foldl (fun s _ => serveWrite s p late) s1) p

/-- Serve everything that waits. -/
def serveAll (s : State) (p : Nat) : State :=
  if !pcServes s p then s
  else (pcGet s p).readQ.foldl (fun s _ => serveRead s p) (drainWrites 64 s p 0)

/-! ### HBM_REQUEST (R265, R266, R274, R459) -/

/-- A request wakes its stack from self-refresh. -/
def touchStack (s : State) (k : Nat) : State :=
  { s with power := { s.power with
      lastHbmReq := tset s.power.lastHbmReq k s.now
      srExit := if s.power.selfRefresh.contains k then tset s.power.srExit k (s.now + 2000) else s.power.srExit
      selfRefresh := s.power.selfRefresh.filter (· ≠ k) } }

/-- Accept a request: a write takes effect, a read samples its block; a part write to an uncorrectable block gets the error
response. -/
def acceptReq (s : State) (q : HbmReq) : State :=
  let p := pcOf q.addr
  if q.write then
    let refused := (blocksOf q.addr q.data.length).any (fun b => s.hbm.bad.contains b
      && (decide (b * 64 < q.addr) || decide (q.addr + q.data.length < b * 64 + 64)))
    let s1 := hbmWrite s q.addr q.data
    let s2 := if refused then emit s1 (.hbmAnswer q.requester q.addr none) else s1
    pcSet s2 p { pcGet s2 p with writeQ := (pcGet s2 p).writeQ ++
      [⟨q.addr, true, q.requester, q.realTime, q.openHint, s2.now, s2.hbm.accepted, q.data⟩] }
  else
    pcSet s p { pcGet s p with readQ := (pcGet s p).readQ ++
      [⟨q.addr, false, q.requester, q.realTime, q.openHint, s.now, s.hbm.accepted, memRead s.hbm.mem (q.addr / 64 * 64) 64⟩] }

/-- HBM_REQUEST: a read reads the 64-byte block of its address, a write writes its bytes. -/
def execHbmRequest (q : HbmReq) (s : State) : Result :=
  withUnit (isAddr q.addr (max 1 q.data.length)) (act s (!asleep s
      && decide ((if q.write then (pcGet s (pcOf q.addr)).writeQ else (pcGet s (pcOf q.addr)).readQ).length < 64))
    (serveQueues (acceptReq (touchStack (atTime s q.t) (stackOf q.addr)) q) (pcOf q.addr)))

/-! ### Errors (R272 to R277) -/

/-- A class 0 record that goes to the flash log (R424). -/
def logFlash (s : State) (bit arg1 : Nat) : State :=
  let (code, s1) := draw s 256
  let s2 := logEvent s1 (0x0100 + code) 0 bit none (some arg1)
  match s2.foreman.ramLog.head? with
  | some r => if s2.foreman.platform.headless then s2
              else { s2 with foreman := { s2.foreman with flashPending := s2.foreman.flashPending ++ [r] } }
  | none => s2

/-- Note an error of a row: three corrected ones in 24 hours, or one that is not, record the row for repair (R275). -/
def noteRow (s : State) (a : Nat) (hard : Bool) : State :=
  let row := rowId a
  let l := s.now :: (tget [] s.foreman.rowErrors row).filter (fun t => s.now < t + 86400000000000)
  let s1 := { s with foreman := { s.foreman with rowErrors := tset s.foreman.rowErrors row l } }
  if (hard || decide (3 ≤ l.length)) && !s.foreman.rowRepairs.contains row then
    logFlash { s1 with foreman := { s1.foreman with rowRepairs := s1.foreman.rowRepairs ++ [row] } } (32 + stackOf a) a
  else s1

/-- A corrected read: CE_COUNT and a class 0 event; the write-back changes no data (R272, R277). -/
def correctedRead (s : State) (a : Nat) : State :=
  let k := stackOf a
  noteRow (recordFault (stackSet s k { stackGet s k with ceCount := (stackGet s k).ceCount + 1 }) (32 + k) 0 (some a)) a false

/-- An uncorrectable read: the block fails again until a full-block write replaces it; a write accepted since has done so (R273). -/
def failedRead (s : State) (a : Nat) (replaced : Bool) : State :=
  let b := a / 64
  let s1 := if replaced || s.hbm.bad.contains b then s else { s with hbm := { s.hbm with bad := b :: s.hbm.bad } }
  noteRow (uncorrectable s1 a) a true

/-- HBM_READ_RETURN: `symbols` is how many 16-bit symbols of the block are in error. -/
def execHbmReadReturn (addr requester symbols t : Nat) (s : State) : Result :=
  withUnit (isAddr addr 1) (act s (!asleep s) (
    let s1 := atTime s t
    let p := pcOf addr
    match (pcGet s1 p).issued.find? (fun r => r.addr == addr && r.requester == requester) with
    | none => s1
    | some r =>
      let s2 := pcSet s1 p { pcGet s1 p with issued := (pcGet s1 p).issued.erase r }
      let replaced := decide (r.order < tget 0 s2.hbm.written (addr / 64))
      if 2 ≤ symbols || (s2.hbm.bad.contains (addr / 64) && !replaced) then
        emit (failedRead s2 addr replaced) (.hbmAnswer requester addr none)
      else emit (if symbols = 1 then correctedRead s2 addr else s2) (.hbmAnswer requester addr (some r.data))))

/-- PATROL_SCRUB: one block is read; what it finds is logged, and the scrubber goes on (R276, Table 13.2). -/
def execPatrolScrub (addr symbols t : Nat) (s : State) : Result :=
  withUnit (isAddr addr 1) (act s (!asleep s && stackAwake s (stackOf addr)) (
    let s1 := atTime s t
    let s2 := { s1 with hbm := { s1.hbm with patrolNext := (addr / 64 * 64 + 64) % Config.hbmBytes } }
    if 2 ≤ symbols || s2.hbm.bad.contains (addr / 64) then failedRead s2 addr false
    else if symbols = 1 then correctedRead s2 addr
    else s2))

/-! ### Timers of a pseudo-channel -/

/-- BULK_PROMOTION (R266): bulk requests that have waited 2 µs are served as real-time. -/
def execBulkPromotion (pc t : Nat) (s : State) : Result :=
  withUnit (isPc pc) (act s (!asleep s) (
    let s1 := atTime s t
    let up (r : HbmPend) : HbmPend := if r.arrived + 2000 ≤ s1.now then { r with realTime := true } else r
    let x := pcGet s1 pc
    serveQueues (pcSet s1 pc { x with readQ := x.readQ.map up, writeQ := x.writeQ.map up }) pc))

/-- PAGE_CLOSE_TIMEOUT (R267): 1 µs without a hit. -/
def execPageCloseTimeout (pc bank t : Nat) (s : State) : Result :=
  withUnit (isPc pc) (act s (!asleep s) (
    let s1 := atTime s t
    match tfind (pcGet s1 pc).openRows bank with
    | some o => if o.2 + 1000 ≤ s1.now then pcSet s1 pc { pcGet s1 pc with openRows := tdel (pcGet s1 pc).openRows bank } else s1
    | none => s1))

/-- Refresh interval of a bank in ns (R268). -/
def refreshInterval (s : State) (pc : Nat) : Nat := if (stackGet s (pc / 32)).refreshMult = 2 then 1950 else 3900

/-- HBM_REFRESH (R268): the bank's row closes; the interval in force now sets the next refresh. -/
def execHbmRefresh (pc bank t : Nat) (s : State) : Result :=
  withUnit (isPc pc) (act s (!asleep s && stackAwake (atTime s t) (pc / 32)) (
    let s1 := atTime s t
    let x := pcGet s1 pc
    if tget 0 x.nextRefresh bank ≤ s1.now then
      pcSet s1 pc { x with refreshes := x.refreshes + 1, openRows := tdel x.openRows bank,
                           nextRefresh := tset x.nextRefresh bank (s1.now + refreshInterval s1 pc) }
    else s1))

/-- ACT_WINDOW_END (R271): a window of 32 ms ends; counts and spacing end with it. -/
def execActWindowEnd (pc t : Nat) (s : State) : Result :=
  withUnit (isPc pc) (act s (!asleep s && decide ((pcGet s pc).windowFrom + 32000000 ≤ max s.now t)) (
    let s1 := atTime s t
    pcSet s1 pc { pcGet s1 pc with acts := [], spaced := [], windowFrom := s1.now }))

/-! ### Temperature, training (R268, R278 to R281) -/

/-- Drift of a pseudo-channel in 1/16 °C. -/
def driftOf (x : PseudoChannel) (temp : Int) : Nat := (temp - x.trainTemp).natAbs

/-- Must a pseudo-channel be retrained at a temperature: more than 10 °C of drift, or trained below 0 °C and now past it? -/
def wantsRetrain (x : PseudoChannel) (temp : Int) : Bool := decide (160 < driftOf x temp) || (decide (x.trainTemp < 0) && decide (0 ≤ temp))

/-- The pseudo-channels of a stack. -/
def stackPcs (k : Nat) : List Nat := (List.range 32).map (fun i => k * 32 + i)

/-- HBM_TEMP_READ: TEMP, the refresh rate with its hysteresis, the retrainings it calls for, and class 4 for a pseudo-channel that
is still untrained when its drift passes 20 °C.  A start that waits for a hot stack ends when both are below 110 °C. -/
def execHbmTempRead (stack : Nat) (temp : Int) (t : Nat) (s : State) : Result :=
  withUnit (isStack stack) (act s (!asleep s) (
    let s1 := atTime s t
    let old := stackGet s1 stack
    let s2 := stackSet s1 stack { old with temp := temp, refreshMult := if 1360 < temp then 2 else if temp ≤ 1328 then 1 else old.refreshMult }
    let s3 := (stackPcs stack).foldl (fun s p =>
      let x := pcGet s p
      pcSet s p { x with driftSince := if wantsRetrain x temp then some (x.driftSince.getD s.now) else x.driftSince }) s2
    let lost (p : Nat) : Bool := !(pcGet s3 p).trained && decide (320 < driftOf (pcGet s3 p) temp)
      && !decide (320 < driftOf (pcGet s3 p) old.temp)
    let s4 := if s3.mode != .secureBoot && (stackPcs stack).any lost then class4 (recordFault s3 (32 + stack) 4 none) else s3
    if s4.hbm.hotWait && decide ((stackGet s4 0).temp < 1760) && decide ((stackGet s4 1).temp < 1760) then finishBoot s4 else s4))

/-- May a retraining start: in a frame gap with 25 µs left, or at once after 1 s or at 15 °C (R278, R279); a repetition 1 ms after
the failure (R280)? -/
def retrainDue (s : State) (pc gapNs : Nat) : Bool :=
  let x := pcGet s pc
  match x.driftSince with
  | none => false
  | some d =>
    if x.recovering then decide (x.lastTry + 1000000 ≤ s.now)
    else decide (25000 ≤ gapNs) || decide (d + 1000000000 ≤ s.now) || decide (240 ≤ driftOf x (stackGet s (pc / 32)).temp)

/-- RETRAIN_START: queued writes are drained first; one pseudo-channel of a stack at a time.  `gapNs` is what is left of the
predicted frame gap. -/
def execRetrainStart (pc : Nat) (gapNs : Nat) (t : Nat) (s : State) : Result :=
  withUnit (isPc pc) (act s (!asleep s) (
    let s1 := atTime s t
    if stackAwake s1 (pc / 32) && (stackPcs (pc / 32)).all (fun p => (pcGet s1 p).retraining.isNone) && retrainDue s1 pc gapNs then
      let s2 := drainWrites 64 s1 pc 0
      pcSet s2 pc { pcGet s2 pc with retraining := some s2.now, openRows := [] }
    else s1))

/-- The result of a retraining. -/
def settleRetrain (s : State) (pc : Nat) (ok : Bool) : State :=
  let k := pc / 32
  let x : PseudoChannel := { pcGet s pc with retraining := none, lastTry := s.now }
  if ok then
    let s1 := pcSet s pc { x with trainTemp := (stackGet s k).temp, trainedAt := s.now, trained := true, driftSince := none, tries := 0,
                                  recovering := false }
    stackSet s1 k { stackGet s1 k with retrainings := (stackGet s1 k).retrainings + 1 }
  else if x.tries < 3 then pcSet s pc { x with tries := x.tries + 1, recovering := true }
  else (collect (pcSet s pc { x with tries := 0, recovering := false, trained := false }) (32 + k) 0 1 none).2

/-- RETRAIN_DONE: 20 µs after the start; what waited is served. -/
def execRetrainDone (pc : Nat) (ok : Bool) (t : Nat) (s : State) : Result :=
  withUnit (isPc pc) (act s (!asleep s) (
    let s1 := atTime s t
    match (pcGet s1 pc).retraining with
    | some a => if a + 20000 ≤ s1.now then serveAll (settleRetrain s1 pc ok) pc else s1
    | none => s1))

/-! ### HBM_SELF_REFRESH_TIMER (R459) -/

/-- In Banked, a stack goes back to self-refresh after 50 µs without a request. -/
def execHbmSelfRefreshTimer (stack t : Nat) (s : State) : Result :=
  withUnit (isStack stack) (act s (!asleep s && s.power.current == .banked && !s.power.selfRefresh.contains stack
      && decide (tget 0 s.power.lastHbmReq stack + 50000 ≤ max s.now t)) (
    let s1 := (stackPcs stack).foldl serveAll (atTime s t)
    { s1 with power := { s1.power with selfRefresh := s1.power.selfRefresh ++ [stack] } }))

/-! ### SRAM_SCRUB (R282, Table 13.4) -/

/-- Canary bit of an array: 0 Reference Store of a cluster, 1 local buffer of a core, 2 packet memory, 3 EMT, 4 Prefix Trie. -/
def sramBit (array index : Nat) : Nat :=
  match array with
  | 0 => 28 + index
  | 1 => index
  | 2 => 34
  | _ => 35

/-- An uncorrectable error that the scrubber finds: the local buffer restarts its core, a packet's buffer reads as failed, a
learned EMT entry is invalidated, installed entries are rewritten from device firmware's copy. -/
def sramError (s : State) (array index word : Nat) : State :=
  match array with
  | 0 => blockPort s (.cluster index) .uncorrected 1 word
  | 1 => corePort s index 1 word
  | 2 => blockPort s .switch .memError 1 word
  | 3 =>
    let s1 := blockPort s .tables .entryError 1 word
    (match tfind s1.tables.emt word with
      | some e => if e.static then s1 else { s1 with tables := { s1.tables with emt := tdel s1.tables.emt word } }
      | none => s1)
  | _ => blockPort s .tables .entryError 1 word

/-- SRAM_SCRUB: a scrubber reads one word of an array; one bit in error is corrected. -/
def execSramScrub (array index word errors t : Nat) (s : State) : Result :=
  withUnit (isArray array index)
    (act s (!asleep s) (
      let s1 := atTime s t
      if errors = 0 then s1
      else
        let s2 := { s1 with hbm := { s1.hbm with sramErrors := tadd s1.hbm.sramErrors (sramBit array index) 1 } }
        if errors = 1 then recordFault s2 (sramBit array index) 0 (some word) else sramError s2 array index word))

end Sys2Proof.Machine
end

