-- ==== Sys2Proof/Machine/Security.lean ====
section
/-! DEFINITION. The security island (chapter 22 of the manual): roles, keys, lifecycle, self-tests and zeroisation.  The
algorithms are uninterpreted (log entry 11). -/

namespace Sys2Proof.Machine

/-! ### Shared parts -/

/-- Change the authentication state of a function. -/
def authSet (s : State) (fn : Nat) (a : AuthState) : State := fnSet s fn { fnGet s fn with auth := a }

/-- The role of a function ends (R434). -/
def endRole (s : State) (fn : Nat) : State := authSet s fn { (fnGet s fn).auth with role := .none, keyId := 0 }

/-- One generate request of the DRBG (R430): its number names the output. -/
def generate (s : State) : State :=
  { s with sec := { s.sec with drbgRequests := s.sec.drbgRequests + 1, drbgCount := s.sec.drbgCount + 1 } }

/-- Role, then service, then the checks of the command. -/
def secCheck (r : CmdRef) (officer : Bool) (service : Nat) (rest : State → Bytes → Option Reply) (s : State) (e : Bytes) : Option Reply :=
  orElse (roleCheck s r.fn officer) (orElse (serviceCheck s service) (rest s e))

/-- Sessions that use a key store entry. -/
def keySessions (s : State) (id : Nat) : List Session := (sessList s).filter (fun x => usesKey x && keyIdOf x = id)

/-- Is an entry in use: by a session, or by a port's association (R441)? -/
def keyInUse (s : State) (id : Nat) : Bool :=
  !(keySessions s id).isEmpty ||
    match tfind s.sec.keys id with
    | some k => k.typ == 3 && s.net.ports.any (fun p => p.2.macsec.sas.any (fun a => a.keyId == id))
    | none => false

/-! ### Status, roles (R432 to R434) -/

/-- Whole seconds until a role ends; 0 without a role (log entry 54). -/
def roleSeconds (s : State) (a : AuthState) : Nat :=
  if a.role == .none then 0 else (a.since + 3600000000000 - s.now) / 1000000000

/-- SEC_QUERY. -/
def execSecQuery (r : CmdRef) (s : State) : Result :=
  serve s r 0x80 (fun _ e => fieldCheck [(decide (16 ≤ cmdDataLen e), 0x10)]) (fun s e =>
    let a := (fnGet s r.fn).auth
    approve (writeData s r.fn e (le 1 (lifecycleCode s.sec.otp.lifecycle) ++ le 1 (authCode a.role) ++ le 2 s.sec.errorAlgs.toNat
      ++ le 4 (roleSeconds s a) ++ zeros 8)) r 0)

/-- SEC_AUTH_CHALLENGE: a nonce for 30 s and one response. -/
def execSecAuthChallenge (r : CmdRef) (s : State) : Result :=
  serve s r 0x81 (fun s e => orElse (serviceCheck s 2) (fieldCheck [(decide (48 ≤ cmdDataLen e), 0x10)])) (fun s e =>
    let nonce := Config.randomBytes s.sec.drbgCount 48
    let s1 := authSet (generate s) r.fn { (fnGet s r.fn).auth with nonce := some (nonce, s.now) }
    approve (writeData s1 r.fn e nonce) r 0)

/-- Is SEC_AUTH_RESPONSE of a function locked out (R433)? -/
def lockedOut (s : State) (a : AuthState) : Bool :=
  match a.lockout with
  | some t => decide (s.now < t + 60000000000)
  | none => false

/-- The message that a response covers: nonce, function number, role string. -/
def authMessage (nonce : Bytes) (fn : Nat) (tag : String) : Bytes := nonce ++ Config.fnBytes fn ++ ascii tag

/-- Does a response answer the function's nonce for the role that it names? -/
def responseGood (s : State) (fn : Nat) (e d : Bytes) : Bool :=
  match (fnGet s fn).auth.nonce with
  | none => false
  | some (n, t) =>
    decide (s.now < t + 30000000000) &&
    (if u8 e 24 = 2 then
       fn == 0 && s.sec.otp.coKeyHash == some (Config.sha384 (d.take 97))
         && Config.ecdsaVerify (d.take 97) (Config.sha384 (authMessage n fn "GCO1")) (slice d 97 96)
     else match tfind s.sec.keys (u16 e 26) with
       | some k => k.typ == 4 && k.functions.getLsbD fn && d.take 48 == Config.hmacSha384 k.key (authMessage n fn "GUS1")
       | none => false)

/-- The outcome of a response: the nonce is used up; the fifth failure in a row locks the command out for 60 s. -/
def answerResponse (s : State) (r : CmdRef) (e d : Bytes) : State :=
  let a := (fnGet s r.fn).auth
  if lockedOut s a then finish s r (failDetail stNotPermitted 3)
  else if responseGood s r.fn e d then
    approve (authSet s r.fn { role := if u8 e 24 = 2 then .cryptoOfficer else .user, since := s.now,
                              keyId := if u8 e 24 = 2 then 0 else u16 e 26, nonce := none, failures := 0, lockout := none }) r (u8 e 24)
  else
    let n := (if a.lockout.isSome then 0 else a.failures) + 1
    finish (authSet s r.fn { a with nonce := none, failures := n, lockout := if 5 ≤ n then some s.now else none }) r
      (failDetail stNotPermitted 2)

/-- SEC_AUTH_RESPONSE. -/
def execSecAuthResponse (r : CmdRef) (data : Bytes) (s : State) : Result :=
  serve s r 0x82 (fun s e => orElse (serviceCheck s 2)
      (fieldCheck [(u8 e 24 == 1 || u8 e 24 == 2, 24), (decide ((if u8 e 24 = 2 then 193 else 48) ≤ cmdDataLen e), 0x10)]))
    (fun s e => answerResponse s r e (readData s r.fn e data))

/-- SEC_LOGOUT. -/
def execSecLogout (r : CmdRef) (s : State) : Result :=
  serve s r 0x83 noCheck (fun s _ => approve (endRole s r.fn) r 0)

/-- NONCE_EXPIRY. -/
def execNonceExpiry (fn t : Nat) (s : State) : Result :=
  withUnit (isFn fn) (act s (!dead s) (
    let s1 := atTime s t
    let a := (fnGet s1 fn).auth
    match a.nonce with
    | some n => if n.2 + 30000000000 ≤ s1.now then authSet s1 fn { a with nonce := none } else s1
    | none => s1))

/-- AUTH_LOCKOUT_END. -/
def execAuthLockoutEnd (fn t : Nat) (s : State) : Result :=
  withUnit (isFn fn) (act s (!dead s) (
    let s1 := atTime s t
    let a := (fnGet s1 fn).auth
    match a.lockout with
    | some b => if b + 60000000000 ≤ s1.now then authSet s1 fn { a with lockout := none, failures := 0 } else s1
    | none => s1))

/-- ROLE_EXPIRY. -/
def execRoleExpiry (fn t : Nat) (s : State) : Result :=
  withUnit (isFn fn) (act s (!dead s) (
    let s1 := atTime s t
    let a := (fnGet s1 fn).auth
    if a.role != .none && decide (a.since + 3600000000000 ≤ s1.now) then endRole s1 fn else s1))

/-! ### Keys (R439 to R441) -/

/-- SEC_KEM_KEYGEN: a new pair replaces the old one. -/
def execSecKemKeygen (r : CmdRef) (s : State) : Result :=
  serve s r 0x84 (secCheck r true 5 (fun _ e => fieldCheck [(decide (1664 ≤ cmdDataLen e), 0x10)])) (fun s e =>
    let n := s.sec.kemCount
    let s1 := generate { s with sec := { s.sec with kem := some (n, s.now), kemCount := n + 1 } }
    let pub := padTo 1568 (Config.kemPublic n)
    let sig := if s.sec.identityOk then padTo 96 (Config.ecdsaSign pub) else zeros 96
    approve (writeData s1 r.fn e (pub.take 1568 ++ sig.take 96)) r 0)

/-- Length of a key of a type (R439). -/
def keyLength (typ : Nat) : Nat := if typ = 1 then 44 else if typ = 4 then 48 else 32

/-- The key that an import carries, unwrapped with the decapsulation key of the last SEC_KEM_KEYGEN (R440). -/
def unwrapKey (s : State) (d : Bytes) : Option Bytes :=
  match s.sec.kem with
  | none => none
  | some (n, t) =>
    if t + 600000000000 ≤ s.now then none
    else
      let wrap := Config.kdf (Config.kemDecap n (slice d 0 0x620)) (ascii "GKIM") (slice d 0x620 2 ++ slice d 0x622 1) 32
      Config.gcmOpen wrap (slice d 0x630 12) (slice d 0x620 16) (slice d 0x64C 48) (slice d 0x63C 16)

/-- A stored key reaches its sessions: those that wait for it go on, a used CHUNK entry takes effect at the next access unit. -/
def deliverKey (s : State) (id : Nat) (key : Bytes) : State :=
  (keySessions s id).foldl (fun s x =>
    sessPut s (if x.awaitKey then { x with awaitKey := false, keyMatter := some key } else { x with nextKey := some key, blocked := false })) s

/-- Store a key (R441). -/
def storeKey (s : State) (r : CmdRef) (d key : Bytes) : State :=
  let id := u16 d 0x620
  let typ := u8 d 0x622
  let k : KeyEntry := { typ := typ, key := key.take (keyLength typ), functions := BitVec.ofNat 64 (u64 d 0x624) }
  approve (deliverKey { s with sec := { s.sec with keys := tset s.sec.keys id k } } id k.key) r id

/-- May the entry be written: it is free; or REPLACE is set and it is unused or a CHUNK entry (R441)?  An entry whose sessions
wait for their key is free. -/
def mayStore (s : State) (d : Bytes) : Bool :=
  match tfind s.sec.keys (u16 d 0x620) with
  | none => true
  | some k => bitOf (u8 d 0x623) 0 && (!keyInUse s (u16 d 0x620) || (k.typ == 2 && u8 d 0x622 == 2))

/-- Field checks of Table 22.7. -/
def importRules (e d : Bytes) : Option Reply :=
  orElse (fieldCheck [(decide (1660 ≤ cmdDataLen e), 0x10)])
    (dataCheck [(inRange (u16 d 0x620) 1 1023, 0x620), (inRange (u8 d 0x622) 1 4, 0x622), (decide (u8 d 0x623 ≤ 1), 0x623),
      (allZero d 0x62C 4, 0x62C)])

/-- SEC_KEY_IMPORT: the decapsulation key is used up whether the import succeeds or fails. -/
def execSecKeyImport (r : CmdRef) (data : Bytes) (s : State) : Result :=
  serve s r 0x85 (secCheck r true 6 (fun _ _ => none)) (fun s e =>
    let d := readData s r.fn e data
    let s1 := { s with sec := { s.sec with kem := none } }
    match importRules e d with
    | some a => finish s1 r a
    | none =>
      match unwrapKey s d with
      | none => finish s1 r (failDetail stSecurityState 3)
      | some key => if mayStore s d then storeKey s1 r d key else finish s1 r (failWith stBusy))

/-- Roles that a USER_AUTH entry carries end with it (R434). -/
def endRolesOf (s : State) (id : Nat) : State :=
  { s with fns := tmap (fun f => if f.auth.role == .user && f.auth.keyId == id then
      { f with auth := { f.auth with role := .none, keyId := 0 } } else f) s.fns }

/-- SEC_KEY_DELETE. -/
def execSecKeyDelete (r : CmdRef) (s : State) : Result :=
  serve s r 0x86 (secCheck r true 7 (fun s e => orElse (fieldCheck [(inRange (u16 e 24) 1 1023, 24)])
      (if keyInUse s (u16 e 24) then some (failWith stBusy) else none))) (fun s e =>
    let id := u16 e 24
    match tfind s.sec.keys id with
    | none => approve s r 0
    | some k =>
      let s1 := { s with sec := { s.sec with keys := tdel s.sec.keys id } }
      approve (if k.typ = 4 then endRolesOf s1 id else s1) r 1)

/-- SEC_KEY_QUERY. -/
def execSecKeyQuery (r : CmdRef) (s : State) : Result :=
  serve s r 0x87 (secCheck r false 7 (fun _ e => fieldCheck [(decide (16 ≤ cmdDataLen e), 0x10), (inRange (u16 e 24) 1 1023, 24)]))
    (fun s e =>
      let b := match tfind s.sec.keys (u16 e 24) with
        | some k => le 1 k.typ ++ le 1 (if keyInUse s (u16 e 24) then 1 else 0) ++ zeros 6 ++ le 8 k.functions.toNat
        | none => zeros 16
      approve (writeData s r.fn e b) r 0)

/-- DECAP_KEY_EXPIRY: 600 s after the pair was generated. -/
def execDecapKeyExpiry (t : Nat) (s : State) : Result :=
  act s (!dead s) (
    let s1 := atTime s t
    match s1.sec.kem with
    | some k => if k.2 + 600000000000 ≤ s1.now then { s1 with sec := { s1.sec with kem := none } } else s1
    | none => s1)

/-- SEC_ZEROIZE (R450, R451). -/
def execSecZeroize (r : CmdRef) (s : State) : Result :=
  serve s r 0x88 (secCheck r true 4 (fun _ _ => none)) (fun s _ => approve (keyLost (zeroize s) (fun _ => true)) r 0)

/-! ### Self-tests (R445 to R448) -/

/-- The algorithms of a mask: codes 1 to 10; an entropy failure takes the DRBG with it (R446). -/
def algMask (m : Nat) : BitVec 16 :=
  let b := BitVec.ofNat 16 m &&& 0x07FE
  if b.getLsbD 10 then b ||| 0x0200 else b

/-- A self-test that passes every test clears SEC_ERROR, and AVAILABLE is set again in one Larder update (R448). -/
def clearSecError (s : State) : State :=
  larderUpdate (setServices { s with sec := { s.sec with secError := false, errorAlgs := 0 } })

/-- SEC_SELF_TEST: `failMask` is what the tests find; RESULT carries it. -/
def execSecSelfTest (r : CmdRef) (failMask : Nat) (s : State) : Result :=
  serve s r 0x89 (secCheck r true 3 (fun _ _ => none)) (fun s _ =>
    let m := algMask failMask
    approve (if m = 0 then clearSecError s else enterSecError { s with sec := { s.sec with errorAlgs := 0 } } m) r m.toNat)

/-- SELF_TEST_PERIODIC: every 24 hours; a failed check of the island's firmware is class 5 (R449). -/
def execSelfTestPeriodic (failMask : Nat) (fwDigestOk : Bool) (t : Nat) (s : State) : Result :=
  act s (!dead s && decide (s.sec.lastPeriodic + 86400000000000 ≤ max s.now t)) (
    let s0 := atTime s t
    let s1 := { s0 with sec := { s0.sec with lastPeriodic := s0.now } }
    if !fwDigestOk then class5 s1 42 else if algMask failMask = 0 then s1 else enterSecError s1 (algMask failMask))

/-- ENTROPY_HEALTH_FAIL: the entropy source and the DRBG fail together. -/
def execEntropyHealthFail (t : Nat) (s : State) : Result := act s (!dead s) (enterSecError (atTime s t) 0x0600)

/-- DRBG_RESEED: after 2^20 requests, and in any case every 24 hours (R430). -/
def execDrbgReseed (t : Nat) (s : State) : Result :=
  act s (!dead s && !s.sec.errorAlgs.getLsbD 10
      && (decide (2 ^ 20 ≤ s.sec.drbgRequests) || decide (s.sec.drbgSeededAt + 86400000000000 ≤ max s.now t)))
    (let s1 := atTime s t
     { s1 with sec := { s1.sec with drbgRequests := 0, drbgSeededAt := s1.now } })

/-- VDD_FUSE_CHANGE: service 0x9 follows, in one Larder update (R431). -/
def execVddFuseChange (present : Bool) (t : Nat) (s : State) : Result :=
  act s (!dead s) (
    let s1 := atTime s t
    larderUpdate (setServices { s1 with sec := { s1.sec with vddFuse := present } }))

/-! ### Attest, random bytes, digest -/

/-- The 160 bytes that an attestation signs: the nonce, the device's facts, the digest of the components' digests. -/
def attestBody (s : State) (nonce : Bytes) : Bytes :=
  let slot := if s.foreman.bootSlot = 0 then s.foreman.slotA else s.foreman.slotB
  let facts := Config.attestFacts Config.serial (lifecycleCode s.sec.otp.lifecycle) (activeFacts s).determinismVersion
  padTo 48 (nonce.take 48) ++ (padTo 64 facts).take 64 ++ (padTo 48 (Config.sha384 (Config.componentDigests slot.image))).take 48

/-- SEC_ATTEST: the report replaces the nonce in the data buffer. -/
def execSecAttest (r : CmdRef) (data : Bytes) (s : State) : Result :=
  serve s r 0x8A (secCheck r false 0xA (fun _ e => fieldCheck [(decide (256 ≤ cmdDataLen e), 0x10)])) (fun s e =>
    let body := attestBody s (readData s r.fn e data)
    approve (writeData (generate s) r.fn e (body ++ (padTo 96 (Config.ecdsaSign body)).take 96)) r 0)

/-- SEC_RANDOM. -/
def execSecRandom (r : CmdRef) (s : State) : Result :=
  serve s r 0x8B (secCheck r false 0xB (fun _ e =>
      fieldCheck [(decide (u32 e 24 ≤ cmdDataLen e), 0x10), (inRange (u32 e 24) 1 4096, 24)])) (fun s e =>
    approve (writeData (generate s) r.fn e ((padTo (u32 e 24) (Config.randomBytes s.sec.drbgCount (u32 e 24))).take (u32 e 24))) r 0)

/-- SEC_DIGEST: the digest follows the data in place. -/
def execSecDigest (r : CmdRef) (data : Bytes) (s : State) : Result :=
  serve s r 0x8C (secCheck r false 0xC (fun _ e => fieldCheck [(u8 e 24 == 2 || u8 e 24 == 3, 24)])) (fun s e =>
    let d := readData s r.fn e data
    let h := if u8 e 24 = 2 then (padTo 48 (Config.sha384 d)).take 48 else (padTo 64 (Config.sha512 d)).take 64
    approve (hostWrite s r.fn (cmdInHbm e) (cmdDataPtr e + cmdDataLen e) h) r 0)

/-! ### Lifecycle (R435, R436) -/

/-- The lifecycle state of a TARGET code. -/
def lifecycleOf (n : Nat) : Lifecycle :=
  match n with
  | 0 => .manufacturing
  | 1 => .provisioned
  | 2 => .deployed
  | _ => .decommissioned

/-- OTP after the transition: the items of Provisioned are written, the secrets of Table 22.4 are erased at Decommissioned. -/
def writeOtp (s : State) (target : Nat) (pub : Bytes) : OtpState :=
  let o := { s.sec.otp with lifecycle := lifecycleOf target }
  if target = 1 then
    let dus := Config.randomBytes s.sec.drbgCount 32
    { o with dus := some dus, identityWrapped := some (Config.wrapIdentity dus s.sec.drbgCount), coKeyHash := some (Config.sha384 (pub.take 97)) }
  else if target = 3 then { o with imageKey := none, dus := none, identityWrapped := none, coKeyHash := none }
  else o

/-- The checks of SEC_LIFECYCLE, in the order of R436; the step from Manufacturing to Provisioned needs no role (R435). -/
def lifecycleCheck (r : CmdRef) (s : State) (e : Bytes) : Option Reply :=
  let cur := lifecycleCode s.sec.otp.lifecycle
  orElse (fieldCheck [((u8 e 24 == cur + 1 || u8 e 24 == 3) && cur != 3, 24), (u8 e 24 != 1 || decide (97 ≤ cmdDataLen e), 0x10)])
    (orElse (if cur = 0 && u8 e 24 = 1 then none else roleCheck s r.fn true)
      (if s.sec.vddFuse then none else some (failDetail stSecurityState 4)))

/-- SEC_LIFECYCLE: OTP is written, the volatile parameters are zeroised, the completion is posted, and a soft reset follows. -/
def execSecLifecycle (r : CmdRef) (data : Bytes) (s : State) : Result :=
  serve s r 0x8D (lifecycleCheck r) (fun s e =>
    let o := writeOtp s (u8 e 24) (readData s r.fn e data)
    let s1 := zeroize { generate s with sec := { (generate s).sec with otp := o } }
    resetCore (approve s1 r 0) true)

end Sys2Proof.Machine
end

