-- ==== Sys2Proof/Machine/Foreman.lean ====
section
/-! DEFINITION. The Foreman (chapter 21 of the manual): firmware slots, the platform record, the sideband, telemetry, the event log
and background work. -/

namespace Sys2Proof.Machine

/-! ### Staging (R413 to R417) -/

/-- The slot that staging writes: the one that is not committed. -/
def stagingSlot (s : State) : Nat := 1 - s.foreman.committed

/-- A slot, and a change to it. -/
def slotGet (s : State) (n : Nat) : SlotState := if n = 0 then s.foreman.slotA else s.foreman.slotB
def slotPut (s : State) (n : Nat) (x : SlotState) : State :=
  { s with foreman := if n = 0 then { s.foreman with slotA := x } else { s.foreman with slotB := x } }

/-- STATE of staging changes: UPDATE_STATE is posted. -/
def stageTo (s : State) (x : StageState) : State :=
  logEvent { s with foreman := { s.foreman with stage := x } } 0x0601 7 41 none none

/-- Begin staging for an owner: 1 mailbox, 2 sideband.  The staging slot is invalid from now on. -/
def openStaging (s : State) (owner len : Nat) : State :=
  let s1 := slotPut s (stagingSlot s) { slotGet s (stagingSlot s) with valid := false }
  stageTo { s1 with foreman := { s1.foreman with owner := owner, imageLen := len, staged := [], stagedFacts := ⟨true, true, true, 0, 0, []⟩ } }
    .staging

/-- Is staging owned, or a trial in force? -/
def stagingBusy (s : State) : Bool := s.foreman.owner != 0 || s.foreman.stage == .trial

/-- A decommissioned part refuses firmware (R435). -/
def noFirmware (s : State) : Bool := s.sec.otp.lifecycle == .decommissioned

/-- What verification of an image finds wrong, in the order of R442: the tag FAMILY and STEPPING, signatures, SVN, GCM tag. -/
def imageDefect (s : State) (i : ImageFacts) : Option Reply :=
  if !i.familyOk then some ⟨stVersionMismatch, 0, i.version⟩
  else if !i.signaturesOk then some (failDetail stSecurityState 1)
  else if !(i.svns.zipIdx.all (fun v => s.sec.otp.minSvn.getD v.2 0 ≤ v.1)) then some (failDetail stSecurityState 2)
  else if !i.tagOk then some (failDetail stSecurityState 3)
  else none

/-- The staged image has verified. -/
def markVerified (s : State) (i : ImageFacts) : State :=
  stageTo { s with foreman := { s.foreman with stagedFacts := i } } .verified

/-- Activation: the staged slot takes the image and the committed slot's platform record, and a trial of three starts is
recorded (R416). -/
def activateStaged (s : State) : State :=
  let f := s.foreman
  let s1 := slotPut s (stagingSlot s)
    { valid := true, image := f.staged, facts := f.stagedFacts, platform := (slotGet s f.committed).platform }
  stageTo { s1 with foreman := { s1.foreman with trialLeft := 3 } } .activationPending

/-- Raise each OTP minimum to the image's SVN where that is higher. -/
def raiseSvn (l svns : List Nat) : List Nat :=
  (List.range (max l.length svns.length)).map (fun i => max (l.getD i 0) (svns.getD i 0))

/-- The trial slot becomes the committed slot. -/
def commitTrial (s : State) (raise : Bool) : State :=
  let n := stagingSlot s
  let otp := if raise then { s.sec.otp with minSvn := raiseSvn s.sec.otp.minSvn (slotGet s n).facts.svns } else s.sec.otp
  stageTo { s with foreman := { s.foreman with committed := n, trialLeft := 0, owner := 0 }, sec := { s.sec with otp := otp } } .idle

/-- UPDATE_ABORT by STATE. -/
def abortStaging (s : State) : State :=
  let bad := slotPut s (stagingSlot s) { slotGet s (stagingSlot s) with valid := false }
  match s.foreman.stage with
  | .idle => s
  | .staging => stageTo { bad with foreman := { bad.foreman with owner := 0, staged := [] } } .idle
  | .verified => stageTo { bad with foreman := { bad.foreman with owner := 0, staged := [] } } .idle
  | .activationPending => stageTo { s with foreman := { s.foreman with owner := 0, trialLeft := 0 } } .idle
  | .trial => { s with foreman := { s.foreman with trialLeft := 0 } }

/-! ### Update commands (Table 21.2) -/

/-- UPDATE_OPEN. -/
def execUpdateOpen (r : CmdRef) (s : State) : Result :=
  serve s r 0x90 (fun s e => orElse (serviceCheck s 8) (orElse (fieldCheck [(inRange (u32 e 24) 65536 25161728, 24)])
      (if noFirmware s then some (notPermitted s) else if stagingBusy s then some (failWith stBusy) else none))) (fun s e =>
    approve (openStaging s 1 (u32 e 24)) r (stagingSlot s))

/-- Does the mailbox hold staging in a state? -/
def mailboxIn (s : State) (x : StageState) : Bool := s.foreman.owner == 1 && s.foreman.stage == x

/-- UPDATE_WRITE: RESULT is the number of bytes written so far. -/
def execUpdateWrite (r : CmdRef) (data : Bytes) (s : State) : Result :=
  serve s r 0x91 (fun s e => orElse (serviceCheck s 8) (orElse
      (if mailboxIn s .staging then none else some (failWith stBusy))
      (fieldCheck [(inRange (cmdDataLen e) 1 262144 && decide (s.foreman.staged.length + cmdDataLen e ≤ s.foreman.imageLen), 0x10),
        (u32 e 24 % 65536 == 0 && u32 e 24 == s.foreman.staged.length, 24)]))) (fun s e =>
    let b := s.foreman.staged ++ readData s r.fn e data
    approve { s with foreman := { s.foreman with staged := b } } r b.length)

/-- UPDATE_VERIFY. -/
def execUpdateVerify (r : CmdRef) (s : State) : Result :=
  serve s r 0x92 (fun s _ => orElse (serviceCheck s 8)
      (if (mailboxIn s .staging || mailboxIn s .verified) && s.foreman.staged.length == s.foreman.imageLen then
         imageDefect s (Config.imageFacts s.foreman.staged)
       else some (failWith stBusy))) (fun s _ =>
    let i := Config.imageFacts s.foreman.staged
    approve (markVerified s i) r i.determinismVersion)

/-- UPDATE_ACTIVATE. -/
def execUpdateActivate (r : CmdRef) (s : State) : Result :=
  serve s r 0x93 (fun s e => orElse (serviceCheck s 8) (orElse (fieldCheck [(decide (u8 e 24 ≤ 1), 24)])
      (if !mailboxIn s .verified || (u8 e 24 == 1 && !(sessList s).isEmpty) then some (failWith stBusy) else none))) (fun s e =>
    let s1 := approve (activateStaged s) r 0
    if u8 e 24 = 1 then resetCore s1 true else s1)

/-- UPDATE_COMMIT. -/
def execUpdateCommit (r : CmdRef) (s : State) : Result :=
  serve s r 0x94 (fun s e => orElse (if bitOf (u8 e 24) 0 then roleCheck s r.fn true else none)
      (orElse (fieldCheck [(decide (u8 e 24 ≤ 1), 24)])
        (if s.foreman.stage != .trial then some (failWith stBusy)
         else if bitOf (u8 e 24) 0 && !s.sec.vddFuse then some (failDetail stSecurityState 4) else none))) (fun s e =>
    let raise := bitOf (u8 e 24) 0
    if raise then approve (commitTrial s true) r 0 else succeed (commitTrial s false) r 0)

/-- UPDATE_ABORT. -/
def execUpdateAbort (r : CmdRef) (s : State) : Result :=
  serve s r 0x95 noCheck (fun s _ => succeed (abortStaging s) r 0)

/-- UPDATE_STATUS. -/
def execUpdateStatus (r : CmdRef) (s : State) : Result :=
  serve s r 0x96 (fun _ e => fieldCheck [(decide (32 ≤ cmdDataLen e), 0x10)]) (fun s e =>
    let f := s.foreman
    succeed (writeData s r.fn e (padTo 32 (le 1 f.committed ++ le 1 (stageCode f.stage) ++ le 1 f.trialLeft ++ le 1 f.owner
      ++ le 4 f.staged.length ++ le 4 f.stagedFacts.determinismVersion ++ le 4 f.stagedFacts.version
      ++ le 4 (activeFacts s).version))) r 0)

/-- AUTO_COMMIT: 60 s after READY, with RAISE_SVN; without VDD_FUSE nothing changes (R416). -/
def execAutoCommit (t : Nat) (s : State) : Result :=
  act s (!asleep s && s.foreman.platform.autoCommit && s.foreman.stage == .trial && s.sec.vddFuse
      && (match s.foreman.readySince with | some a => decide (a + 60000000000 ≤ max s.now t) | none => false))
    (commitTrial (atTime s t) true)

/-! ### SET_PLATFORM_CONFIG (R418) -/

/-- Ranges of Table 21.3. -/
def platformRules (d : Bytes) : List (Bool × Nat) :=
  [(u32 d 0 == 0x47464350, 0), (u16 d 4 == 1, 4), (inRange (u8 d 6) 8 14, 6), (decide (u8 d 7 ≤ 1), 7),
   (inRange (u32 d 8) 1024 65536, 8), (inRange (u16 d 0x0C) 1 168, 0x0C), (decide (u8 d 0x0E ≤ 1), 0x0E), (decide (u8 d 0x0F ≤ 1), 0x0F),
   (inRange (u8 d 0x16) 0x08 0x77, 0x16), (decide (u8 d 0x17 ≤ 1), 0x17), (inRange (u16 d 0x18) 100 10000, 0x18),
   (allZero d 0x1A 6, 0x1A), (allZero d 0x30 16, 0x30)]

/-- The record of Table 21.3. -/
def readPlatform (d : Bytes) : PlatformCfg :=
  { neighbourN := u8 d 6, headless := u8 d 7 == 1, actThreshold := u32 d 8, scrubHours := u16 d 0x0C, perstWarm := u8 d 0x0E == 1,
    autoCommit := u8 d 0x0F == 1, fabricId := u32 d 0x10, fabricPort := u16 d 0x14, smbusAddr := u8 d 0x16, rotation := u8 d 0x17 == 1,
    rotateHours := u16 d 0x18, groupAddress := slice d 0x20 16 }

/-- SET_PLATFORM_CONFIG: the committed slot's record, in force from the next Secure Boot. -/
def execSetPlatformConfig (r : CmdRef) (data : Bytes) (s : State) : Result :=
  serve s r 0x97 (fun s e => secCheck r true 0x10 (fun s e => orElse (fieldCheck [(decide (64 ≤ cmdDataLen e), 0x10)])
      (dataCheck (platformRules (readData s r.fn e data)))) s e) (fun s e =>
    let n := s.foreman.committed
    approve (slotPut s n { slotGet s n with platform := readPlatform (readData s r.fn e data) }) r 0)

/-! ### Sideband (R419, R420); response codes of DSP0236, DSP0240 and DSP0267 (log entry 55) -/

/-- Is the sideband served: in every mode but Off and Lockdown?  In Dormant a packet is a wake source instead. -/
def sidebandOn (s : State) : Bool := !asleep s

/-- Answer on the sideband. -/
def answerSide (s : State) (fields : List Nat) : State := emit s (.sideband fields)

/-- MCTP_SET_ENDPOINT_ID: set or force takes a valid EID; reset takes none; setting the discovered flag changes no EID. -/
def execMctpSetEndpointId (operation eid : Nat) (s : State) : Result :=
  act s (sidebandOn s)
    (if operation ≤ 1 then
       if inRange eid 8 254 then answerSide { s with foreman := { s.foreman with eid := eid } } [0, 0, eid, 0]
       else answerSide s [2, 0, s.foreman.eid, 0]
     else if operation = 2 then answerSide { s with foreman := { s.foreman with eid := 0 } } [0, 0, 0, 0]
     else answerSide s [0, 0, s.foreman.eid, 0])

/-- MCTP_GET_ENDPOINT_ID. -/
def execMctpGetEndpointId (s : State) : Result := act s (sidebandOn s) (answerSide s [0, s.foreman.eid, 0, 0])

/-- MCTP_GET_VERSION_SUPPORT: base, control and PLDM messages are supported; the version numbers are not stated (log entry 10). -/
def execMctpGetVersionSupport (msgType : Nat) (s : State) : Result :=
  act s (sidebandOn s)
    (if msgType = 0 || msgType = 1 || msgType = 0xFF then
       let (v, s1) := draw s (2 ^ 32)
       answerSide s1 [0, 1, v]
     else answerSide s [0x80])

/-- MCTP_GET_MESSAGE_TYPE_SUPPORT: PLDM. -/
def execMctpGetMessageTypeSupport (s : State) : Result := act s (sidebandOn s) (answerSide s [0, 1, 1])

/-- REQUEST_UPDATE: takes ownership; while staging is owned it completes with ALREADY_IN_UPDATE_MODE. -/
def execRequestUpdate (t : Nat) (s : State) : Result :=
  act s (sidebandOn s) (
    let s1 := atTime s t
    if s1.foreman.owner != 0 then answerSide s1 [0x81]
    else if noFirmware s1 || s1.sec.unavailable.contains 8 || s1.foreman.stage == .trial then answerSide s1 [1]
    else answerSide (openStaging s1 2 25161728) [0])

/-- TRANSFER_COMPLETE: the image is staged and verified as by UPDATE_VERIFY. -/
def execTransferComplete (image : Bytes) (t : Nat) (s : State) : Result :=
  act s (sidebandOn s) (
    let s1 := atTime s t
    if s1.foreman.owner = 2 && (s1.foreman.stage == .staging || s1.foreman.stage == .verified) then
      let s2 := { s1 with foreman := { s1.foreman with staged := image, imageLen := image.length } }
      match imageDefect s2 (Config.imageFacts image) with
      | some a => answerSide s2 [1, a.status, a.detail]
      | none => answerSide (markVerified s2 (Config.imageFacts image)) [0]
    else answerSide s1 [0x80])

/-- ACTIVATE_FIRMWARE: as UPDATE_ACTIVATE with WHEN 0x0; self-contained activation resets at once and needs that no session
exists. -/
def execActivateFirmware (selfContained : Bool) (t : Nat) (s : State) : Result :=
  act s (sidebandOn s) (
    let s1 := atTime s t
    if s1.foreman.owner = 2 && s1.foreman.stage == .verified then
      if selfContained && !(sessList s1).isEmpty then answerSide s1 [1]
      else
        let s2 := answerSide (activateStaged s1) [0]
        if selfContained then resetCore s2 true else s2
    else answerSide s1 [0x80])

/-! ### Watchdog and heartbeat (R411) -/

/-- FW_HEARTBEAT: every 1 ms while device firmware runs. -/
def execFwHeartbeat (t : Nat) (s : State) : Result :=
  act s (!asleep s && s.ready && !s.foreman.bootRom && s.canary.gatedAt.isNone
      && decide (s.foreman.lastService + 1000000 ≤ max s.now t))
    (let s1 := atTime s t
     { s1 with foreman := { s1.foreman with heartbeat := s1.foreman.heartbeat + 1, lastService := s1.now } })

/-! ### Telemetry (R421, R422) -/

/-- Rows and 64-bit entries per row of an item of Table 21.4: the rails of Table 23.1 are fifteen. -/
def itemShape (n : Nat) : Nat × Nat :=
  ([(1, 16), (64, 1), (28, 5), (256, 6), (2, 6), (16, 15), (50, 13), (16, 12), (4, 15), (8192, 3), (16384, 7), (4096, 3), (1, 5),
    (9, 2), (46, 6), (32, 3)] : List (Nat × Nat)).getD n (0, 0)

/-- The next `n` free 64-bit values. -/
def freeWords (s : State) (n : Nat) : List Nat × State :=
  ((List.range n).map (fun i => Config.freeNat (s.freeCtr + i) % 2 ^ 64), { s with freeCtr := s.freeCtr + n })

/-- Counters 0 to n − 1 of a table of counters. -/
def countersOf (c : Counters) (base n : Nat) : List Nat := (List.range n).map (fun k => tget 0 c (base + k))

/-- Rows 0 to n − 1, by a function of the row. -/
def rowsBelow (n : Nat) (f : Nat → List Nat) : Tbl (List Nat) := (List.range n).map (fun k => (k, f k))

/-- A sensor that is being trimmed keeps its last value. -/
def keepTrimmed (s : State) (n : Nat) (v : Int) : Int :=
  match s.foreman.trimUntil with
  | some (k, e) => if k = n ∧ s.now < e then tget 0 s.foreman.sensors n else v
  | none => v

/-- Cycle and sleep counters of the cores: the model keeps no cycles, so each sweep finds free values (log entry 10). -/
def countCores (s : State) : State :=
  (List.range 28).foldl (fun s c =>
    match freeWords s 4 with
    | ([a, b, g, p], s1) => coreSet s1 c { coreGet s1 c with busy := a, stalled := b, gatedNs := g, powerGatedNs := p }
    | (_, s1) => s1) s

/-- What a sweep reads; power and background use are not part of the model and are free (log entry 10). -/
def sweepItems (s : State) (power back refresh fw : List Nat) : Tbl (Tbl (List Nat)) :=
  [(0, [(0, power)]),
   (1, (List.range 64).map (fun n => (n, [toBits 64 (tget 0 s.foreman.sensors n)]))),
   (2, rowsBelow 28 (fun c => let k := coreGet s c
                              [k.busy, k.stalled, k.gatedNs, k.powerGatedNs, tget 0 s.foreman.agingHours c])),
   (3, s.sessions.map (fun x => (x.1, [x.2.frames, x.2.bitsOut, x.2.retries, x.2.lossless, x.2.concealed, x.2.lateBands]))),
   (4, rowsBelow 2 (fun k => let h := stackGet s k
                             [h.bytesRead, h.bytesWritten, h.ceCount, h.ueCount, h.retrainings, refresh.getD k 0])),
   (5, s.net.ports.map (fun p => (p.1, countersOf p.2.counters 0 15))),
   (6, rowsBelow 50 (fun p => countersOf s.sw.counters (p * 16) 13)),
   (7, rowsBelow 16 (fun p => countersOf s.tables.counters (p * 16) 12)),
   (8, rowsBelow 4 (fun p => countersOf (pxGet s p).counters 0 15)),
   (9, s.net.meters.map (fun m => (m.1, [m.2.green, m.2.yellow, m.2.red]))),
   (10, s.net.flows.map (fun f => (f.1, countersOf f.2.counters 0 7))),
   (11, s.net.queues.map (fun q => (q.1, [q.2.enqueued, q.2.sent, q.2.highWater]))),
   (12, [(0, [s.fabric.discards, s.fabric.unprotected, s.fabric.retransmits, s.fabric.duplicates, s.fabric.statsRequests])]),
   (13, rowsBelow 9 (fun k => slice' back (k * 2) 2)),
   (14, rowsBelow 46 (fun b => (List.range 6).map (fun c => tget 0 s.canary.counts (b * 8 + c)))),
   (15, rowsBelow 32 (fun ch => if ch < 16 then [(dmaGet s ch).bytes, (dmaGet s ch).doneCount.toNat, (dmaGet s ch).halts]
                                else slice' fw ((ch - 16) * 3) 3)),
   (16, s.sessions.map (fun x => (x.1, [x.2.fn])))]
where
  slice' (l : List Nat) (i n : Nat) : List Nat := (l.drop i).take n

/-- The sweep: sensors, counters, the time at which it ended, and one Larder update. -/
def runSweep (s : State) (sensors : List Int) : State :=
  let s1 := { s with foreman := { s.foreman with
    sensors := sensors.zipIdx.foldl (fun l v => if v.2 < 64 then tset l v.2 (keepTrimmed s v.2 v.1) else l) s.foreman.sensors } }
  let s2 := countCores s1
  let (power, s3) := freeWords s2 16
  let (back, s4) := freeWords s3 18
  let (refresh, s5) := freeWords s4 2
  let (fw, s6) := freeWords s5 48
  larderUpdate { s6 with foreman := { s6.foreman with sweep := sweepItems s6 power back refresh fw, samplePtp := some (ptpTime s6) } }

/-- TELEMETRY_SWEEP: one for each whole multiple of 10 ms of PTP time. -/
def execTelemetrySweep (sensors : List Int) (t : Nat) (s : State) : Result :=
  act s (!asleep s && s.ready && !s.foreman.bootRom
      && (match s.foreman.samplePtp with
          | some p => decide (p / 10000000 < ptpTime (atTime s t) / 10000000)
          | none => true))
    (runSweep (atTime s t) sensors)

/-- SENSOR_TRIM: each sensor once per hour, one at a time, for 2 ms. -/
def execSensorTrim (sensor t : Nat) (s : State) : Result :=
  withUnit (isSensor sensor) (act s (!asleep s
      && (match s.foreman.trimUntil with | some (_, e) => decide (e ≤ max s.now t) | none => true)
      && (match tfind s.foreman.lastTrim sensor with | some a => decide (a + 3600000000000 ≤ max s.now t) | none => true))
    (let s1 := atTime s t
     { s1 with foreman := { s1.foreman with trimUntil := some (sensor, s1.now + 2000000)
                                            lastTrim := tset s1.foreman.lastTrim sensor s1.now } }))

/-- Rows of an item that a function may see: a VF sees its own sessions. -/
def visibleRows (s : State) (fn n : Nat) : List Nat :=
  let rows := List.range (itemShape n).1
  if fn = 0 || n != 3 then rows
  else rows.filter (fun k => tget [] (tget [] s.foreman.sweep 16) k == [fn])

/-- One item: header and entries. -/
def itemBytes (s : State) (fn n : Nat) : Bytes :=
  let w := (itemShape n).2
  let rows := visibleRows s fn n
  let body := rows.flatMap (fun k => ((List.range w).flatMap (fun j => le 8 ((tget [] (tget [] s.foreman.sweep n) k).getD j 0))))
  le 1 n ++ zeros 1 ++ le 2 (rows.length * w) ++ le 4 (16 + body.length) ++ le 8 (toBits 64 (s.foreman.samplePtp.getD 0)) ++ body

/-- Size of an item. -/
def itemSize (s : State) (fn n : Nat) : Nat := 16 + (visibleRows s fn n).length * (itemShape n).2 * 8

/-- The items of a mask. -/
def itemsOf (mask : Nat) : List Nat := (List.range 16).filter (bitOf mask)

/-- Bytes that a mask needs. -/
def itemsSize (s : State) (fn mask : Nat) : Nat := (itemsOf mask).foldl (fun a n => a + itemSize s fn n) 0

/-- The items; before the first sweep has completed their contents are not stated (log entry 10). -/
def telemetryBytes (s : State) (fn mask : Nat) : Bytes × State :=
  match s.foreman.samplePtp with
  | some _ => ((itemsOf mask).flatMap (itemBytes s fn), s)
  | none => freeBytes s (itemsSize s fn mask)

/-- GET_TELEMETRY. -/
def execGetTelemetry (r : CmdRef) (s : State) : Result :=
  serve s r 0x09 (fun s e => fieldCheck
      [(cmdDataLen e == 0 || decide (itemsSize s r.fn (u32 e 24) ≤ cmdDataLen e), 0x10),
       (decide (u32 e 24 < 65536) && (r.fn == 0 || u32 e 24 &&& 0xFFF5 == 0), 24)]) (fun s e =>
    let n := itemsSize s r.fn (u32 e 24)
    if cmdDataLen e = 0 then succeed s r n
    else match telemetryBytes s r.fn (u32 e 24) with
      | (b, s1) => succeed (writeData s1 r.fn e b) r n)

/-! ### The event log (R423, R424) -/

/-- A record of Table 21.5. -/
def recordBytes (r : EventRec) : Bytes :=
  le 8 (toBits 64 r.time) ++ le 4 r.seq ++ le 2 r.code
    ++ le 1 (r.cls % 8 + (if r.cont then 8 else 0) + (if r.deviceWide then 16 else 0)) ++ le 1 r.source
    ++ (if r.code = 1 then (padTo 16 r.label).take 16 else le 4 r.session ++ le 4 r.arg0 ++ le 8 r.arg1)

/-- The records of a log from an index on, oldest first; a VF receives its own. -/
def logFrom (s : State) (fn log start : Nat) : List EventRec :=
  (if log = 0 then s.foreman.ramLog.reverse else s.foreman.flashLog).filter
    (fun r => decide (start ≤ r.seq) && (fn == 0 || r.fn == fn))

/-- GET_LOG: as many records as the data buffer holds. -/
def execGetLog (r : CmdRef) (s : State) : Result :=
  serve s r 0x08 (fun _ e => fieldCheck [(decide (u8 e 24 ≤ 1), 24)]) (fun s e =>
    let l := (logFrom s r.fn (u8 e 24) (u64 e 28)).take (cmdDataLen e / 32)
    succeed (writeData s r.fn e (l.flatMap recordBytes)) r l.length)

/-- Records of an erased block that are still in force: unrepaired rows and lost units (R424). -/
def stillInForce (s : State) (r : EventRec) : Bool :=
  (r.code == 0x0501 && r.arg1 == 0 && s.canary.lostUnits.any (fun u => unitBit u == r.source))
    || (r.cls == 0 && (r.source == 32 || r.source == 33) && s.foreman.rowRepairs.contains (rowId r.arg1))

/-- The next block in ring order that is not retired; `n` bounds the search. -/
def nextBlock (n : Nat) (f : ForemanState) (b : Nat) : Nat :=
  match n with
  | 0 => b
  | k + 1 => if f.retired.contains ((b + 1) % 240) then nextBlock k f ((b + 1) % 240) else (b + 1) % 240

/-- Go to the next block: it is erased, after the records in force that it holds are copied forward; at 90,000 erases, or when the
erase fails, it is retired and skipped. -/
def advanceBlock (n : Nat) (s : State) (eraseOk : Bool) : State :=
  match n with
  | 0 => s
  | k + 1 =>
    let f := s.foreman
    let b := nextBlock 240 f f.flashBlock
    let c := tget 0 f.eraseCounts b + 1
    let room := (239 - f.retired.length) * 2046
    let old := f.flashLog.take (f.flashLog.length - room)
    let kept := f.flashLog.drop (f.flashLog.length - room)
    let forward := old.filter (stillInForce s)
    let s1 := { s with foreman := { f with eraseCounts := tset f.eraseCounts b c, flashBlock := b, flashUsed := forward.length,
                                           flashLog := kept ++ forward } }
    if eraseOk && decide (c < 90000) then s1
    else advanceBlock k { s1 with foreman := { s1.foreman with retired := s1.foreman.retired ++ [b] } } true

/-- Write one record; a block holds 2,046. -/
def writeFlash (eraseOk : Bool) (s : State) (r : EventRec) : State :=
  let s1 := if s.foreman.flashUsed < 2046 then s else advanceBlock 240 s eraseOk
  { s1 with foreman := { s1.foreman with flashLog := s1.foreman.flashLog ++ [r], flashUsed := s1.foreman.flashUsed + 1 } }

/-- FLASH_LOG_WRITE. -/
def execFlashLogWrite (eraseOk : Bool) (t : Nat) (s : State) : Result :=
  act s (!asleep s && !s.foreman.flashPending.isEmpty)
    (let s1 := atTime s t
     let s2 := s1.foreman.flashPending.foldl (writeFlash eraseOk) s1
     { s2 with foreman := { s2.foreman with flashPending := [] } })

/-! ### Aging and rotation (R426, R427) -/

/-- AGING_WRITE: an hour ends; `activeMinutes` holds the minutes in which each core was active in it. -/
def execAgingWrite (activeMinutes : List Nat) (t : Nat) (s : State) : Result :=
  act s (!asleep s) (
    let s1 := atTime s t
    let l := (List.range 28).foldl (fun l c => if activeMinutes.getD c 0 = 0 then l else tadd l c 1) s1.foreman.agingHours
    { s1 with foreman := { s1.foreman with agingHours := l, agingFlash := l } })

/-- The most aged active core of a cluster, the highest index among equals. -/
def mostAged (s : State) (k : Nat) : Option Nat :=
  (activeCores s k).foldl (fun b c => match b with
    | none => some c
    | some d => if tget 0 s.foreman.agingHours d ≤ tget 0 s.foreman.agingHours c then some c else some d) none

/-- The check of one cluster: dispatch to the most aged core stops, and the rotation ends when it has nothing left. -/
def rotateCluster (s : State) (k : Nat) : State :=
  match (clGet s k).spare, mostAged s k with
  | some sp, some x =>
    let due := match tfind s.foreman.lastRotation k with | some a => decide (a + 86400000000000 ≤ s.now) | none => true
    if due && (tfind s.foreman.rotating k).isNone && coreUsable s sp
        && decide (tget 0 s.foreman.agingHours sp + s.foreman.platform.rotateHours < tget 0 s.foreman.agingHours x) then
      settleRotation { s with foreman := { s.foreman with rotating := tset s.foreman.rotating k x } } k
    else s
  | _, _ => s

/-- ROTATION_CHECK: hourly, with ROTATION = 0x1. -/
def execRotationCheck (t : Nat) (s : State) : Result :=
  act s (!asleep s && s.foreman.platform.rotation) ((List.range 4).foldl rotateCluster (atTime s t))

end Sys2Proof.Machine
end

