-- ==== Sys2Proof/Machine/Power.lean ====
section
/-! DEFINITION. Power states, clocks, adaptive voltage scaling, supply dips, the other rails, and temperature (R453 to R465). -/

namespace Sys2Proof.Machine

/-! ### Power states (R458 to R460) -/

/-- The clock leaves STATE SLAVE in Banked and Dormant (R363). -/
def ptpSleep (s : State) : State :=
  if (ptpGet s).state = 3 then ptpSet s { ptpGet s with state := 2 } else s

/-- Every core power-gated, every cluster PLL off, both stacks in self-refresh. -/
def gateArray (s : State) : State :=
  { s with
    cores := (List.range 28).foldl (fun l c => tset l c { coreGet s c with sleep := .powerGated, waking := none }) s.cores
    power := { s.power with pllOff := [0, 1, 2, 3], selfRefresh := [0, 1], lastHbmReq := [], srExit := [] } }

/-- Entry to Dormant (R460): the digest of the retained image is recorded, every port goes down, the roles end, learned entries go
(Table 23.8), the Foreman is gated.  The reserved area of the HBM belongs to no function and is not shown by address. -/
def enterDormant (s : State) : State :=
  let slot := if s.foreman.bootSlot = 0 then s.foreman.slotA else s.foreman.slotB
  let s1 := (List.range 16).foldl portDown s
  let s2 := (List.range 4).foldl pxDown s1
  let s3 := gateArray (ptpSleep s2)
  setMode { s3 with
    power := { s3.power with ceiling := .dormant, current := .dormant, digest := some (Config.sha384 slot.image) }
    fns := tmap (fun f => { f with auth := AuthState.empty }) s3.fns
    tables := { s3.tables with emt := s3.tables.emt.filter (·.2.static), requests := [] } } .dormant

/-- State of a STATE code, Dormant apart (Table 23.4). -/
def ceilingOf (n : Nat) : PowerState :=
  match n with
  | 0 => .active
  | 1 => .idle
  | _ => .banked

/-- SET_POWER_STATE: the ceiling, or entry to Dormant after the completion; RESULT is the previous ceiling. -/
def execSetPowerState (r : CmdRef) (s : State) : Result :=
  serve s r 0x07 (fun _ e => fieldCheck [(decide (u8 e 24 ≤ 3), 24)]) (fun s e =>
    let old := powerCode s.power.ceiling
    if u8 e 24 = 3 then enterDormant (succeed s r old)
    else
      let s1 := { s with power := { s.power with
        ceiling := ceilingOf (u8 e 24)
        current := if u8 e 24 = 0 then .active else if s.power.current == .active then .idle else s.power.current } }
      succeed s1 r old)

/-- Has the array nothing to do? -/
def arrayIdle (s : State) : Bool := (List.range 28).all (coreIdle s)

/-- BANKED_ENTRY: between pictures, with the ceiling at Banked, every keep-warm lead at least 50 µs, no band predicted for
`noBandNs` of at least 200 µs, no host channel RUNNING. -/
def execBankedEntry (noBandNs : Nat) (s : State) : Result :=
  act s (!asleep s && s.power.ceiling == .banked && s.power.current != .banked && arrayIdle s
      && (sessList s).all (fun x => decide (50 ≤ keepWarm x)) && decide (200000 ≤ noBandNs)
      && s.dma.all (fun c => c.2.state != .running))
    (let s1 := gateArray (ptpSleep s)
     { s1 with power := { s1.power with current := .banked } })

/-- Out of self-refresh: the stacks need 2 µs. -/
def leaveSelfRefresh (s : State) : State :=
  { s with power := { s.power with
      srExit := s.power.selfRefresh.foldl (fun l k => tset l k (s.now + 2000)) s.power.srExit
      selfRefresh := [] } }

/-- BANKED_EXIT: a band command wakes the device to Idle (R459). -/
def execBankedExit (t : Nat) (s : State) : Result :=
  act s (!asleep s && s.power.current == .banked)
    (let s1 := leaveSelfRefresh (atTime s t)
     { s1 with power := { s1.power with current := .idle } })

/-- Return to Ready from Dormant: the Foreman runs from its retained image, the patch RAM is reloaded from the verified copy, and
every port keeps the configuration under which its link comes up.  The ceiling after a wake is not stated (log entry 10). -/
def wakeUp (s : State) : State :=
  let (c, s1) := draw (leaveSelfRefresh s) 3
  let v := (activeFacts s1).version
  let s2 := { s1 with
    cores := tmap (fun k => if k.patchOk then { k with patchRam := Config.patchWords v, matchRegs := Config.patchMatch v } else k) s1.cores
    power := { s1.power with ceiling := ceilingOf c, current := if c = 0 then .active else .idle, digest := none }
    foreman := { s1.foreman with lastService := s1.now } }
  setMode s2 .ready

/-- DORMANT_WAKE: a digest that differs makes the wake a warm reset; PERST_N and RESET_N then act as resets (R466). -/
def execDormantWake (source : WakeSource) (digestOk : Bool) (t : Nat) (s : State) : Result :=
  act s (s.mode == .dormant) (
    let s1 := atTime s t
    if !digestOk then warmReset s1
    else match source with
      | .resetN => warmReset s1
      | .perstN => if s1.power.perstWarm then warmReset s1 else hostInterfaceReset (wakeUp s1)
      | _ => wakeUp s1)

/-! ### Clocks (R456, R457) -/

/-- CLUSTER_PLL_OFF: every core of the cluster sleeps, and every session that it serves leads by at least 43 µs. -/
def execClusterPllOff (cluster : Nat) (s : State) : Result :=
  withUnit (isCluster cluster) (act s (!asleep s && !s.power.pllOff.contains cluster
      && (clCores cluster).all (fun c => (coreGet s c).waking.isNone && ((coreGet s c).sleep != .awake || !coreUsable s c))
      && (sessList s).all (fun x => !x.serving.contains cluster || decide (43 ≤ keepWarm x)))
    { s with power := { s.power with pllOff := s.power.pllOff ++ [cluster] } })

/-- Take down and fence every Ethernet port: class 2 on bit 36. -/
def loseEthPorts (s : State) : State :=
  larderUpdate ((List.range 16).foldl (fun s p => orderFence (portDown s p) (.ethPort p)) (recordFault s 36 2 none))

/-- Take down and fence every pixel port: class 2 on bit 38. -/
def losePxPorts (s : State) : State :=
  larderUpdate ((List.range 4).foldl (fun s p => orderFence (pxDown s p) (.pixelPort p)) (recordFault s 38 2 none))

/-- The PCIe link goes down: class 2 on bit 37, and a host-interface reset. -/
def losePcie (s : State) : State := hostInterfaceReset (recordFault s 37 2 none)

/-- REFCLK_LOSS (Table 23.3). -/
def execRefclkLoss (clk : RefClk) (t : Nat) (s : State) : Result :=
  act s (!dead s && !s.power.lostClocks.contains clk) (
    let s0 := atTime s t
    let s1 := { s0 with power := { s0.power with lostClocks := s0.power.lostClocks ++ [clk] } }
    match clk with
    | .sysClk => class5 s1 42
    | .ethRefclk => loseEthPorts s1
    | .pcieRefclk => losePcie s1
    | .pxRefclk => losePxPorts s1
    | .xtal32k => recordFault s1 43 0 none)

/-- WAKE_OSC_TRIM: every 1 s, against SYS_CLK. -/
def execWakeOscTrim (t : Nat) (s : State) : Result :=
  act s (!dead s && !s.power.lostClocks.contains .sysClk
      && (match s.power.trimmedAt with | some a => decide (a + 1000000000 ≤ max s.now t) | none => true))
    (let s1 := atTime s t
     { s1 with power := { s1.power with trimmedAt := some s1.now } })

/-! ### Adaptive voltage scaling (R461) -/

/-- The setpoint from which the monitor's thresholds follow: the lower of the old and the new one while a change settles, which
takes at most 100 µs. -/
def monitorSetpoint (p : PowerStateRec) (now : Nat) : Nat :=
  match p.oldSetpoint with
  | some v => if now < p.changedAt + 100000 then min v p.setpoint else p.setpoint
  | none => p.setpoint

/-- May the setpoint move to a value: in range, by at most 5 mV? -/
def avsAllowed (p : PowerStateRec) (mv : Nat) : Bool :=
  inRange mv 650 850 && decide (mv ≤ p.setpoint + 5) && decide (p.setpoint ≤ mv + 5)

/-- One AVSBus transaction: an acknowledged value becomes the setpoint; the third failure in a row is logged as class 0. -/
def avsTransact (s : State) (mv : Nat) (acked : Bool) : State :=
  let s0 := emit s (.avs mv)
  let p := s0.power
  if acked then
    { s0 with power := { p with setpoint := mv, oldSetpoint := some (monitorSetpoint p s0.now), changedAt := s0.now,
                                lastStep := some s0.now, avsFails := 0 } }
  else
    let s1 := { s0 with power := { p with lastStep := some s0.now, avsFails := p.avsFails + 1 } }
    if p.avsFails + 1 = 3 then recordFault s1 43 0 none else s1

/-- Has a time passed since the loop's last transaction? -/
def avsWaited (p : PowerStateRec) (now gap : Nat) : Bool :=
  match p.lastStep with
  | some a => decide (a + gap ≤ now)
  | none => true

/-- AVS_STEP: at most one step per 1 ms. -/
def execAvsStep (millivolts : Nat) (acked : Bool) (t : Nat) (s : State) : Result :=
  act s (!asleep s && decide (s.power.avsFails < 3) && avsAllowed s.power millivolts && avsWaited s.power (max s.now t) 1000000)
    (avsTransact (atTime s t) millivolts acked)

/-- AVS_RETRY: after three failures the loop tries again every 1 s. -/
def execAvsRetry (millivolts : Nat) (acked : Bool) (t : Nat) (s : State) : Result :=
  act s (!asleep s && decide (3 ≤ s.power.avsFails) && avsAllowed s.power millivolts && avsWaited s.power (max s.now t) 1000000000)
    (avsTransact (atTime s t) millivolts acked)

/-- AVS_SETTLED: the regulator reports the new voltage settled, or 100 µs have passed. -/
def execAvsSettled (reported : Bool) (t : Nat) (s : State) : Result :=
  act s (!asleep s && s.power.oldSetpoint.isSome && (reported || decide (s.power.changedAt + 100000 ≤ max s.now t)))
    (let s1 := atTime s t
     { s1 with power := { s1.power with oldSetpoint := none } })

/-! ### Supply dips (R462) -/

/-- Thresholds in units of 1/100 mV: warning, recovery, reset. -/
def warnLevel (s : State) : Nat := monitorSetpoint s.power s.now * 93
def recoverLevel (s : State) : Nat := warnLevel s + 1000
def resetLevel (s : State) : Nat := monitorSetpoint s.power s.now * 88

/-- VDD_CORE_WARN: the stretch, BROWNOUT_WARN and class 0 on bit 43. -/
def execVddCoreWarn (millivolts : Nat) (t : Nat) (s : State) : Result :=
  act s (!asleep s) (
    let s1 := atTime s t
    if millivolts * 100 < warnLevel s1 then
      let s2 := { s1 with power := { s1.power with above := none, stretchSince := some (s1.power.stretchSince.getD s1.now) } }
      if s1.power.stretchSince.isSome then s2 else recordFault (causeAll s2 icBrownout) 43 0 none
    else s1)

/-- The stretch ends: a record with its duration; after a long one the capacity returns and DEGRADED may clear. -/
def endStretch (s : State) (since : Nat) : State :=
  let (code, s0) := draw { s with power := { s.power with stretchSince := none, stretchLong := false, above := none } } 256
  let s1 := logEvent s0 (0x0100 + code) 0 43 none (some (s.now - since))
  if s.power.stretchLong then settleDegraded (larderUpdate s1) else s1

/-- VDD_CORE_RECOVER: above the recovery level for at least 10 µs; the first reading above it starts that time. -/
def execVddCoreRecover (millivolts : Nat) (t : Nat) (s : State) : Result :=
  act s (!asleep s) (
    let s1 := atTime s t
    match s1.power.stretchSince with
    | none => s1
    | some a =>
      if millivolts * 100 ≤ recoverLevel s1 then { s1 with power := { s1.power with above := none } }
      else match s1.power.above with
        | none => { s1 with power := { s1.power with above := some s1.now } }
        | some b => if b + 10000 ≤ s1.now then endStretch s1 a else s1)

/-- STRETCH_2MS: sessions are re-placed at 0.8 times the core capacity; class 2 on bit 43. -/
def execStretch2ms (t : Nat) (s : State) : Result :=
  act s (!asleep s && !s.power.stretchLong
      && (match s.power.stretchSince with | some a => decide (a + 2000000 ≤ max s.now t) | none => false))
    (let s1 := atTime s t
     replaceAll (recordFault { s1 with power := { s1.power with stretchLong := true } } 43 2 none))

/-- VDD_CORE_RESET_THRESHOLD: class 4 on bit 43 and a warm reset at once. -/
def execVddCoreResetThreshold (millivolts : Nat) (t : Nat) (s : State) : Result :=
  act s (!dead s && decide (millivolts * 100 < resetLevel (atTime s t))) (warmReset (hardFault (atTime s t) 43))

/-! ### The other rails (R463) -/

/-- RAIL_UNDERVOLTAGE: a rail below 90% of its voltage for 1 µs, or VDD_AON out of its range. -/
def execRailUndervoltage (rail : Rail) (t : Nat) (s : State) : Result :=
  act s (!dead s) (
    let s1 := atTime s t
    match rail with
    | .vddSram => warmReset (hardFault s1 43)
    | .hbmRail => warmReset (hardFault s1 43)
    | .vddio18 => warmReset (hardFault s1 43)
    | .vddaEth => loseEthPorts s1
    | .vddaPcie => losePcie s1
    | .vddaPx => losePxPorts s1
    | .vddAon => class5 s1 42)

/-! ### Temperature (R464, R465) -/

/-- THERMAL_WARN: 110 °C; once until every reading has come back to 105 °C or below. -/
def execThermalWarn (t : Nat) (s : State) : Result :=
  act s (!asleep s && !s.power.warned) (
    let s1 := atTime s t
    recordFault (causeAll { s1 with power := { s1.power with warned := true } } icThermal) 44 0 none)

/-- THERMAL_THROTTLE: 120 °C; every core clock is halved and the sessions are re-placed. -/
def execThermalThrottle (t : Nat) (s : State) : Result :=
  act s (!asleep s && !s.power.throttle) (
    let s1 := atTime s t
    replaceAll (recordFault { s1 with power := { s1.power with throttle := true, coolSince := none } } 44 2 none))

/-- THROTTLE_RELEASE: every reading at 115 °C or below for 1 s; the first such reading starts that time.  At 105 °C or below the
warning of 110 °C is released too. -/
def execThrottleRelease (maxTemp : Int) (t : Nat) (s : State) : Result :=
  act s (!asleep s) (
    let s1 := atTime s t
    let s2 := if maxTemp ≤ 1680 then { s1 with power := { s1.power with warned := false } } else s1
    if !s2.power.throttle then s2
    else if 1840 < maxTemp then { s2 with power := { s2.power with coolSince := none } }
    else match s2.power.coolSince with
      | none => { s2 with power := { s2.power with coolSince := some s2.now } }
      | some a =>
        if a + 1000000000 ≤ s2.now then
          settleDegraded (larderUpdate { s2 with power := { s2.power with throttle := false, coolSince := none } })
        else s2)

/-- THERMTRIP: THERMTRIP_N and Lockdown. -/
def execThermtrip (t : Nat) (s : State) : Result :=
  act s (!dead s) (
    let s1 := atTime s t
    class5 { s1 with canary := { s1.canary with thermtripN := false } } 44)

/-- TAMPER_DETECT (R449): class 5 on bit 42. -/
def execTamperDetect (t : Nat) (s : State) : Result := act s (!dead s) (class5 (atTime s t) 42)

end Sys2Proof.Machine
end

