-- ==== Sys2Proof/Machine/Tap.lean ====
section
/-! DEFINITION. The test access port (R479 to R483). -/

namespace Sys2Proof.Machine

/-- EXTEST, CLAMP, HIGHZ and INTEST drive the pins (R481). -/
def pinDriving (code : BitVec 8) : Bool := [0x00, 0x05, 0x06, 0x80].contains code

/-- Does the lifecycle leave private codes open (Table 22.3)?  In Provisioned, while a function holds the Crypto Officer role. -/
def privateOpen (s : State) : Bool :=
  match s.sec.otp.lifecycle with
  | .manufacturing => true
  | .provisioned => s.fns.any (fun f => f.2.auth.role == .cryptoOfficer)
  | .deployed => false
  | .decommissioned => false

/-- The instruction that acts for a loaded code (R480, R482, R483): BYPASS, 0xFF, for every other. -/
def tapActs (s : State) (code : BitVec 8) : BitVec 8 :=
  if asleep s then (if code = 0x01 ∨ code = 0x02 then code else 0xFF)
  else if code = 0x03 ∨ code = 0x04 then (if s.mode == .maintenance && s.tap.maintenance then code else 0xFF)
  else if 0x80 ≤ code.toNat then (if privateOpen s then code else 0xFF)
  else if code.toNat ≤ 0x06 then code
  else 0xFF

/-- A pin-driving instruction: zeroise, then Maintenance, and only then the pins; no BIST (R481, R249, R410). -/
def tapMaintenance (s : State) (code : BitVec 8) : State :=
  let s1 := destroyAll (zeroize s)
  let s2 := if s1.mode == .maintenance then s1 else setMode s1 .maintenance
  { s2 with tap := { code := code, pins := code, maintenance := true, resetSeen := false } }

/-- TAP_UPDATE_IR (R480 to R483).  A class 5 event in the same TCK cycle wins; the event is recorded by its own row. -/
def execTapUpdateIr (code : BitVec 8) (class5 : Bool) (t : Nat) (s : State) : Result :=
  let a := tapActs s code
  match s.mode with
  | .off => .next s
  | _ =>
    if class5 && pinDriving code && !dead s then
      .next { lockdown (atTime s t) with tap := { s.tap with code := code, pins := 0xFF } }
    else if pinDriving a then .next (tapMaintenance (atTime s t) code)
    else if 0x80 ≤ a.toNat ∧ a ≠ 0xFF then .refused .privateTap
    else .next { atTime s t with tap := { s.tap with code := code, pins := a } }

/-- TAP_RESET (R479): Test-Logic-Reset selects IDCODE (R480); the Maintenance stays until a warm reset (R481). -/
def execTapReset (s : State) : Result :=
  act s (s.mode != .off) { s with tap := { s.tap with code := 0x01, pins := 0x01, resetSeen := true } }

end Sys2Proof.Machine
end

