-- ==== Sys2Proof/Machine/Dispatch.lean ====
section
/-! DEFINITION. The dispatch of commands: one arm per constructor, each one direct call of a meaning. -/

namespace Sys2Proof.Machine

def exec (i : Instr) (s : State) : Host.Outcome State Fault Refusal :=
  match i with
  | .identify r => Sys2Proof.Machine.execIdentify r s
  | .setMode r => Sys2Proof.Machine.execSetMode r s
  | .configureEvents r => Sys2Proof.Machine.execConfigureEvents r s
  | .createQp r => Sys2Proof.Machine.execCreateQp r s
  | .deleteQp r => Sys2Proof.Machine.execDeleteQp r s
  | .reset r => Sys2Proof.Machine.execReset r s
  | .setPowerState r => Sys2Proof.Machine.execSetPowerState r s
  | .getLog r => Sys2Proof.Machine.execGetLog r s
  | .getTelemetry r => Sys2Proof.Machine.execGetTelemetry r s
  | .abort r => Sys2Proof.Machine.execAbort r s
  | .setFunctionResources r => Sys2Proof.Machine.execSetFunctionResources r s
  | .createSession r data => Sys2Proof.Machine.execCreateSession r data s
  | .startSession r => Sys2Proof.Machine.execStartSession r s
  | .reconfigureSession r data => Sys2Proof.Machine.execReconfigureSession r data s
  | .stopSession r => Sys2Proof.Machine.execStopSession r s
  | .destroySession r => Sys2Proof.Machine.execDestroySession r s
  | .querySession r => Sys2Proof.Machine.execQuerySession r s
  | .setSessionRings r => Sys2Proof.Machine.execSetSessionRings r s
  | .forceRefresh r => Sys2Proof.Machine.execForceRefresh r s
  | .submitPicture r => Sys2Proof.Machine.execSubmitPicture r s
  | .submitBitstream r data => Sys2Proof.Machine.execSubmitBitstream r data s
  | .returnBuffer r => Sys2Proof.Machine.execReturnBuffer r s
  | .flush r => Sys2Proof.Machine.execFlush r s
  | .setPort r data => Sys2Proof.Machine.execSetPort r data s
  | .setMacsec r => Sys2Proof.Machine.execSetMacsec r s
  | .setPtp r data => Sys2Proof.Machine.execSetPtp r data s
  | .queryPtp r => Sys2Proof.Machine.execQueryPtp r s
  | .setMeter r => Sys2Proof.Machine.execSetMeter r s
  | .setFlow r data => Sys2Proof.Machine.execSetFlow r data s
  | .setQueue r => Sys2Proof.Machine.execSetQueue r s
  | .setSubscriber r => Sys2Proof.Machine.execSetSubscriber r s
  | .setClasses r => Sys2Proof.Machine.execSetClasses r s
  | .setGcl r data => Sys2Proof.Machine.execSetGcl r data s
  | .tableInsert r data => Sys2Proof.Machine.execTableInsert r data s
  | .tableDelete r data => Sys2Proof.Machine.execTableDelete r data s
  | .tableRead r => Sys2Proof.Machine.execTableRead r s
  | .tableFlush r => Sys2Proof.Machine.execTableFlush r s
  | .routeAdd r => Sys2Proof.Machine.execRouteAdd r s
  | .routeDelete r => Sys2Proof.Machine.execRouteDelete r s
  | .setNextHop r => Sys2Proof.Machine.execSetNextHop r s
  | .setLearn r => Sys2Proof.Machine.execSetLearn r s
  | .setGroup r data => Sys2Proof.Machine.execSetGroup r data s
  | .queryTables r => Sys2Proof.Machine.execQueryTables r s
  | .setPools r data => Sys2Proof.Machine.execSetPools r data s
  | .queryPools r => Sys2Proof.Machine.execQueryPools r s
  | .setCapture r => Sys2Proof.Machine.execSetCapture r s
  | .setMirrorRule r => Sys2Proof.Machine.execSetMirrorRule r s
  | .setDropProfile r data => Sys2Proof.Machine.execSetDropProfile r data s
  | .fabricCreate r => Sys2Proof.Machine.execFabricCreate r s
  | .fabricJoin r => Sys2Proof.Machine.execFabricJoin r s
  | .fabricLeave r => Sys2Proof.Machine.execFabricLeave r s
  | .fabricQuery r => Sys2Proof.Machine.execFabricQuery r s
  | .fabricDrain r => Sys2Proof.Machine.execFabricDrain r s
  | .fabricSetStandby r => Sys2Proof.Machine.execFabricSetStandby r s
  | .fabricSetVersion r => Sys2Proof.Machine.execFabricSetVersion r s
  | .secQuery r => Sys2Proof.Machine.execSecQuery r s
  | .secAuthChallenge r => Sys2Proof.Machine.execSecAuthChallenge r s
  | .secAuthResponse r data => Sys2Proof.Machine.execSecAuthResponse r data s
  | .secLogout r => Sys2Proof.Machine.execSecLogout r s
  | .secKemKeygen r => Sys2Proof.Machine.execSecKemKeygen r s
  | .secKeyImport r data => Sys2Proof.Machine.execSecKeyImport r data s
  | .secKeyDelete r => Sys2Proof.Machine.execSecKeyDelete r s
  | .secKeyQuery r => Sys2Proof.Machine.execSecKeyQuery r s
  | .secZeroize r => Sys2Proof.Machine.execSecZeroize r s
  | .secSelfTest r failMask => Sys2Proof.Machine.execSecSelfTest r failMask s
  | .secAttest r data => Sys2Proof.Machine.execSecAttest r data s
  | .secRandom r => Sys2Proof.Machine.execSecRandom r s
  | .secDigest r data => Sys2Proof.Machine.execSecDigest r data s
  | .secLifecycle r data => Sys2Proof.Machine.execSecLifecycle r data s
  | .updateOpen r => Sys2Proof.Machine.execUpdateOpen r s
  | .updateWrite r data => Sys2Proof.Machine.execUpdateWrite r data s
  | .updateVerify r => Sys2Proof.Machine.execUpdateVerify r s
  | .updateActivate r => Sys2Proof.Machine.execUpdateActivate r s
  | .updateCommit r => Sys2Proof.Machine.execUpdateCommit r s
  | .updateAbort r => Sys2Proof.Machine.execUpdateAbort r s
  | .updateStatus r => Sys2Proof.Machine.execUpdateStatus r s
  | .setPlatformConfig r data => Sys2Proof.Machine.execSetPlatformConfig r data s
  | .setChannelOwner r => Sys2Proof.Machine.execSetChannelOwner r s
  | .queryChannels r => Sys2Proof.Machine.execQueryChannels r s
  | .sqTailWrite fn qid value => Sys2Proof.Machine.execSqTailWrite fn qid value s
  | .cqHeadWrite fn qid value => Sys2Proof.Machine.execCqHeadWrite fn qid value s
  | .commandFetch fn qid entry t => Sys2Proof.Machine.execCommandFetch fn qid entry t s
  | .commandTimeout r t => Sys2Proof.Machine.execCommandTimeout r t s
  | .coalesceTimer fn qid t => Sys2Proof.Machine.execCoalesceTimer fn qid t s
  | .mbEnable fn => Sys2Proof.Machine.execMbEnable fn s
  | .mbDisable fn => Sys2Proof.Machine.execMbDisable fn s
  | .intrMaskWrite fn value => Sys2Proof.Machine.execIntrMaskWrite fn value s
  | .registerWrite fn reg value => Sys2Proof.Machine.execRegisterWrite fn reg value s
  | .bar2Access fn offset op => Sys2Proof.Machine.execBar2Access fn offset op s
  | .dmaArm ch cycle => Sys2Proof.Machine.execDmaArm ch cycle s
  | .dmaDisable ch arm ending cycle => Sys2Proof.Machine.execDmaDisable ch arm ending cycle s
  | .dmaClearHalt ch cycle => Sys2Proof.Machine.execDmaClearHalt ch cycle s
  | .dmaShadowWrite ch reg value cycle => Sys2Proof.Machine.execDmaShadowWrite ch reg value cycle s
  | .dmaBurstIssue ch cycle => Sys2Proof.Machine.execDmaBurstIssue ch cycle s
  | .dmaBeatReturn ch src dst cycle => Sys2Proof.Machine.execDmaBeatReturn ch src dst cycle s
  | .dmaBeatError ch write reason => Sys2Proof.Machine.execDmaBeatError ch write reason s
  | .coldReset t => Sys2Proof.Machine.execColdReset t s
  | .warmReset trigger t => Sys2Proof.Machine.execWarmReset trigger t s
  | .hostInterfaceReset t => Sys2Proof.Machine.execHostInterfaceReset t s
  | .flr fn => Sys2Proof.Machine.execFlr fn s
  | .vfEnableClear => Sys2Proof.Machine.execVfEnableClear s
  | .busMasterEnableSet fn => Sys2Proof.Machine.execBusMasterEnableSet fn s
  | .powerRemoved => Sys2Proof.Machine.execPowerRemoved s
  | .secureBoot inp => Sys2Proof.Machine.execSecureBoot inp s
  | .larderUpdate => Sys2Proof.Machine.execLarderUpdate s
  | .bankedEntry noBandNs => Sys2Proof.Machine.execBankedEntry noBandNs s
  | .bankedExit t => Sys2Proof.Machine.execBankedExit t s
  | .hbmSelfRefreshTimer stack t => Sys2Proof.Machine.execHbmSelfRefreshTimer stack t s
  | .dormantWake source digestOk t => Sys2Proof.Machine.execDormantWake source digestOk t s
  | .coreSleep core => Sys2Proof.Machine.execCoreSleep core s
  | .keepWarmWake core t => Sys2Proof.Machine.execKeepWarmWake core t s
  | .coreWakeComplete core t => Sys2Proof.Machine.execCoreWakeComplete core t s
  | .clusterPllOff cluster => Sys2Proof.Machine.execClusterPllOff cluster s
  | .avsStep millivolts acked t => Sys2Proof.Machine.execAvsStep millivolts acked t s
  | .avsRetry millivolts acked t => Sys2Proof.Machine.execAvsRetry millivolts acked t s
  | .vddCoreWarn millivolts t => Sys2Proof.Machine.execVddCoreWarn millivolts t s
  | .vddCoreRecover millivolts t => Sys2Proof.Machine.execVddCoreRecover millivolts t s
  | .stretch2ms t => Sys2Proof.Machine.execStretch2ms t s
  | .vddCoreResetThreshold millivolts t => Sys2Proof.Machine.execVddCoreResetThreshold millivolts t s
  | .railUndervoltage rail t => Sys2Proof.Machine.execRailUndervoltage rail t s
  | .thermalWarn t => Sys2Proof.Machine.execThermalWarn t s
  | .thermalThrottle t => Sys2Proof.Machine.execThermalThrottle t s
  | .throttleRelease maxTemp t => Sys2Proof.Machine.execThrottleRelease maxTemp t s
  | .thermtrip t => Sys2Proof.Machine.execThermtrip t s
  | .tamperDetect t => Sys2Proof.Machine.execTamperDetect t s
  | .refclkLoss clk t => Sys2Proof.Machine.execRefclkLoss clk t s
  | .wakeOscTrim t => Sys2Proof.Machine.execWakeOscTrim t s
  | .fwHeartbeat t => Sys2Proof.Machine.execFwHeartbeat t s
  | .watchdogTimeout t => Sys2Proof.Machine.execWatchdogTimeout t s
  | .lockstepMismatch t => Sys2Proof.Machine.execLockstepMismatch t s
  | .errorPortEvent src ev addr t => Sys2Proof.Machine.execErrorPortEvent src ev addr t s
  | .fenceEffect u t => Sys2Proof.Machine.execFenceEffect u t s
  | .faultNRelease t => Sys2Proof.Machine.execFaultNRelease t s
  | .bistComplete failed t => Sys2Proof.Machine.execBistComplete failed t s
  | .patchParityError core t => Sys2Proof.Machine.execPatchParityError core t s
  | .coreBistReloadDone core pass t => Sys2Proof.Machine.execCoreBistReloadDone core pass t s
  | .spareTakeover core t => Sys2Proof.Machine.execSpareTakeover core t s
  | .coreRestart core cause t => Sys2Proof.Machine.execCoreRestart core cause t s
  | .bandDispatch session place targetBits shares t => Sys2Proof.Machine.execBandDispatch session place targetBits shares t s
  | .bandStart core t => Sys2Proof.Machine.execBandStart core t s
  | .cuStart core engine around => Sys2Proof.Machine.execCuStart core engine around s
  | .cuMeasure core m => Sys2Proof.Machine.execCuMeasure core m s
  | .rowCommit core bytes complexity t => Sys2Proof.Machine.execRowCommit core bytes complexity t s
  | .surveyRowStart cluster session frame row cells => Sys2Proof.Machine.execSurveyRowStart cluster session frame row cells s
  | .ppuBand cluster inp t => Sys2Proof.Machine.execPpuBand cluster inp t s
  | .packetRelease session t => Sys2Proof.Machine.execPacketRelease session t s
  | .bandReleaseTime session frame band t => Sys2Proof.Machine.execBandReleaseTime session frame band t s
  | .tsPsiTimer session t => Sys2Proof.Machine.execTsPsiTimer session t s
  | .inputGapTimeout session t => Sys2Proof.Machine.execInputGapTimeout session t s
  | .decodeUnitStart u => Sys2Proof.Machine.execDecodeUnitStart u s
  | .decodeRowCommit core session pic row t => Sys2Proof.Machine.execDecodeRowCommit core session pic row t s
  | .decodePictureEnd session pic bits consumed hashBad t => Sys2Proof.Machine.execDecodePictureEnd session pic bits consumed hashBad t s
  | .reorderTimeout session t => Sys2Proof.Machine.execReorderTimeout session t s
  | .rtpPacketRx p => Sys2Proof.Machine.execRtpPacketRx p s
  | .decodeOutputStart session pic t => Sys2Proof.Machine.execDecodeOutputStart session pic t s
  | .pxTxLine port line t => Sys2Proof.Machine.execPxTxLine port line t s
  | .pxLinkUp port t => Sys2Proof.Machine.execPxLinkUp port t s
  | .pxLinkDown port t => Sys2Proof.Machine.execPxLinkDown port t s
  | .frameStart p => Sys2Proof.Machine.execFrameStart p s
  | .line p => Sys2Proof.Machine.execLine p s
  | .frameEnd p => Sys2Proof.Machine.execFrameEnd p s
  | .metadata p => Sys2Proof.Machine.execMetadata p s
  | .pxFifoRead port => Sys2Proof.Machine.execPxFifoRead port s
  | .ethFrameHead h => Sys2Proof.Machine.execEthFrameHead h s
  | .ethFrameEnd port len fcsOk head t => Sys2Proof.Machine.execEthFrameEnd port len fcsOk head t s
  | .portPacketIn p => Sys2Proof.Machine.execPortPacketIn p s
  | .pantryRetry port t => Sys2Proof.Machine.execPantryRetry port t s
  | .poolCacheRefill pool => Sys2Proof.Machine.execPoolCacheRefill pool s
  | .egressSelect port head t => Sys2Proof.Machine.execEgressSelect port head t s
  | .copyDone port buffer requester readback t => Sys2Proof.Machine.execCopyDone port buffer requester readback t s
  | .queueAvgDecay queue t => Sys2Proof.Machine.execQueueAvgDecay queue t s
  | .gclBoundary port t => Sys2Proof.Machine.execGclBoundary port t s
  | .pfcXoffRx port priorities quanta t => Sys2Proof.Machine.execPfcXoffRx port priorities quanta t s
  | .pfcXoffExpire port priority t => Sys2Proof.Machine.execPfcXoffExpire port priority t s
  | .mergeLostTimeout flow t => Sys2Proof.Machine.execMergeLostTimeout flow t s
  | .mergeLegDown flow legB t => Sys2Proof.Machine.execMergeLegDown flow legB t s
  | .learn port fid mac t => Sys2Proof.Machine.execLearn port fid mac t s
  | .refresh port fid mac t => Sys2Proof.Machine.execRefresh port fid mac t s
  | .move port fid mac t => Sys2Proof.Machine.execMove port fid mac t s
  | .agingSweep t => Sys2Proof.Machine.execAgingSweep t s
  | .flapClear port t => Sys2Proof.Machine.execFlapClear port t s
  | .ptpMessageRx m => Sys2Proof.Machine.execPtpMessageRx m s
  | .ptpMessageTimer port kind t => Sys2Proof.Machine.execPtpMessageTimer port kind t s
  | .announceTimeout t => Sys2Proof.Machine.execAnnounceTimeout t s
  | .ppsInEdge t => Sys2Proof.Machine.execPpsInEdge t s
  | .ppsOut t => Sys2Proof.Machine.execPpsOut t s
  | .hello h standby members gm current nextVersion => Sys2Proof.Machine.execHello h standby members gm current nextVersion s
  | .helloTimer t => Sys2Proof.Machine.execHelloTimer t s
  | .joinReq h serial version fwVersion headless timeQualified cores hbmMib configHash => Sys2Proof.Machine.execJoinReq h serial version fwVersion headless timeQualified cores hbmMib configHash s
  | .joinAck h result role member leaseMs configHash => Sys2Proof.Machine.execJoinAck h result role member leaseMs configHash s
  | .joinRetry t => Sys2Proof.Machine.execJoinRetry t s
  | .headlessRejoin t => Sys2Proof.Machine.execHeadlessRejoin t s
  | .leaseRenew h status unreachable offset gm => Sys2Proof.Machine.execLeaseRenew h status unreachable offset gm s
  | .leaseRenewTimer t => Sys2Proof.Machine.execLeaseRenewTimer t s
  | .leaseExpiry t => Sys2Proof.Machine.execLeaseExpiry t s
  | .memberLost member t => Sys2Proof.Machine.execMemberLost member t s
  | .managerTakeover t => Sys2Proof.Machine.execManagerTakeover t s
  | .assign h session role region fromFrame config => Sys2Proof.Machine.execAssign h session role region fromFrame config s
  | .ledger h session form frame budgetCrc snapshot => Sys2Proof.Machine.execLedger h session form frame budgetCrc snapshot s
  | .ledgerDigestTimer t => Sys2Proof.Machine.execLedgerDigestTimer t s
  | .stats h session frame unit u => Sys2Proof.Machine.execStats h session frame unit u s
  | .statsRequest session frame unit t => Sys2Proof.Machine.execStatsRequest session frame unit t s
  | .statsTimeout session frame unit t => Sys2Proof.Machine.execStatsTimeout session frame unit t s
  | .commit h session frame received released => Sys2Proof.Machine.execCommit h session frame received released s
  | .seamCheck h session frame slice crc refCrc => Sys2Proof.Machine.execSeamCheck h session frame slice crc refCrc s
  | .fence h member reason session => Sys2Proof.Machine.execFence h member reason session s
  | .promote h session region newMember frame firstSlice => Sys2Proof.Machine.execPromote h session region newMember frame firstSlice s
  | .epochAdvance h phase newEpoch configHash version changes => Sys2Proof.Machine.execEpochAdvance h phase newEpoch configHash version changes s
  | .epochHoldTimeout epoch t => Sys2Proof.Machine.execEpochHoldTimeout epoch t s
  | .timeCheck h managerPtp gm domain limit => Sys2Proof.Machine.execTimeCheck h managerPtp gm domain limit s
  | .timeCheckTimer t => Sys2Proof.Machine.execTimeCheckTimer t s
  | .timeQualified t => Sys2Proof.Machine.execTimeQualified t s
  | .unqualHoldExpiry member t => Sys2Proof.Machine.execUnqualHoldExpiry member t s
  | .clpRetransmit dest seq t => Sys2Proof.Machine.execClpRetransmit dest seq t s
  | .sliceTransfer f t => Sys2Proof.Machine.execSliceTransfer f t s
  | .sliceResendTimer session frame slice t => Sys2Proof.Machine.execSliceResendTimer session frame slice t s
  | .haloStrip h session frame band data => Sys2Proof.Machine.execHaloStrip h session frame band data s
  | .haloResendTimer session frame band t => Sys2Proof.Machine.execHaloResendTimer session frame band t s
  | .seamStrip h session frame band data => Sys2Proof.Machine.execSeamStrip h session frame band data s
  | .refereeResult h session frame unit crcs u => Sys2Proof.Machine.execRefereeResult h session frame unit crcs u s
  | .selfTestPeriodic failMask fwDigestOk t => Sys2Proof.Machine.execSelfTestPeriodic failMask fwDigestOk t s
  | .entropyHealthFail t => Sys2Proof.Machine.execEntropyHealthFail t s
  | .drbgReseed t => Sys2Proof.Machine.execDrbgReseed t s
  | .nonceExpiry fn t => Sys2Proof.Machine.execNonceExpiry fn t s
  | .authLockoutEnd fn t => Sys2Proof.Machine.execAuthLockoutEnd fn t s
  | .roleExpiry fn t => Sys2Proof.Machine.execRoleExpiry fn t s
  | .decapKeyExpiry t => Sys2Proof.Machine.execDecapKeyExpiry t s
  | .telemetrySweep sensors t => Sys2Proof.Machine.execTelemetrySweep sensors t s
  | .sensorTrim sensor t => Sys2Proof.Machine.execSensorTrim sensor t s
  | .agingWrite activeMinutes t => Sys2Proof.Machine.execAgingWrite activeMinutes t s
  | .rotationCheck t => Sys2Proof.Machine.execRotationCheck t s
  | .autoCommit t => Sys2Proof.Machine.execAutoCommit t s
  | .flashLogWrite eraseOk t => Sys2Proof.Machine.execFlashLogWrite eraseOk t s
  | .mctpSetEndpointId operation eid => Sys2Proof.Machine.execMctpSetEndpointId operation eid s
  | .mctpGetEndpointId => Sys2Proof.Machine.execMctpGetEndpointId s
  | .mctpGetVersionSupport msgType => Sys2Proof.Machine.execMctpGetVersionSupport msgType s
  | .mctpGetMessageTypeSupport => Sys2Proof.Machine.execMctpGetMessageTypeSupport s
  | .requestUpdate t => Sys2Proof.Machine.execRequestUpdate t s
  | .transferComplete image t => Sys2Proof.Machine.execTransferComplete image t s
  | .activateFirmware selfContained t => Sys2Proof.Machine.execActivateFirmware selfContained t s
  | .hbmRequest q => Sys2Proof.Machine.execHbmRequest q s
  | .hbmReadReturn addr requester symbols t => Sys2Proof.Machine.execHbmReadReturn addr requester symbols t s
  | .bulkPromotion pc t => Sys2Proof.Machine.execBulkPromotion pc t s
  | .pageCloseTimeout pc bank t => Sys2Proof.Machine.execPageCloseTimeout pc bank t s
  | .hbmRefresh pc bank t => Sys2Proof.Machine.execHbmRefresh pc bank t s
  | .hbmTempRead stack temp t => Sys2Proof.Machine.execHbmTempRead stack temp t s
  | .actWindowEnd pc t => Sys2Proof.Machine.execActWindowEnd pc t s
  | .patrolScrub addr symbols t => Sys2Proof.Machine.execPatrolScrub addr symbols t s
  | .retrainStart pc gapNs t => Sys2Proof.Machine.execRetrainStart pc gapNs t s
  | .retrainDone pc ok t => Sys2Proof.Machine.execRetrainDone pc ok t s
  | .sramScrub array index word errors t => Sys2Proof.Machine.execSramScrub array index word errors t s
  | .tapUpdateIr code class5 t => Sys2Proof.Machine.execTapUpdateIr code class5 t s
  | .tapReset => Sys2Proof.Machine.execTapReset s
  | .ethLinkUp port t => Sys2Proof.Machine.execEthLinkUp port t s
  | .ethLinkDown port t => Sys2Proof.Machine.execEthLinkDown port t s
  | .clpAckReceived h kind seq nak leaseMs => Sys2Proof.Machine.execClpAckReceived h kind seq nak leaseMs s
  | .refereeTimeout session frame unit t => Sys2Proof.Machine.execRefereeTimeout session frame unit t s
  | .vddFuseChange present t => Sys2Proof.Machine.execVddFuseChange present t s
  | .avsSettled reported t => Sys2Proof.Machine.execAvsSettled reported t s
  | .msixVectorUnmask fn vector => Sys2Proof.Machine.execMsixVectorUnmask fn vector s

end Sys2Proof.Machine
end

