-- ==== Sys2Proof/Safety.lean ====
section
/-! DEFINITION. The terms in which the statements speak: a host command that may run its own effect, the modes that take no
command, the invariants of the state. -/

namespace Sys2Proof.Machine

/-- The conditions under which a fetched command runs its own effect (R225, R227, R229, R230, R247, R273): it is in flight and its
turn to start has come; the boot ROM, the mode, the epoch and the common fields let it run; its data buffer is readable. -/
structure Starts (s : State) (r : CmdRef) (op : Nat) (i : InFlight) : Prop where
  found  : startOf s r op = some i
  judged : startCheck (markStarted s r) r.fn i.entry = none
  buffer : dataBad (markStarted s r) r.fn i.entry = false

/-- A device that serves host accesses, packets and coding: neither Off, nor Dormant, nor in Lockdown. -/
def awake (s : State) : Bool := !asleep s

/-- What the entry into Lockdown leaves (R409): no keys, no sessions, idle transmitters, every PXn_HOLD_N low, FAULT_N low,
MODE Lockdown, READY 0. -/
def sealedDown (s : State) : Bool :=
  s.mode == .lockdown && !s.ready && s.sec.keys.isEmpty && s.sec.kem.isNone && s.sessions.isEmpty && !s.canary.faultN
  && s.pins.ethIdle && s.pins.holdAll

/-- The conditions under which a received fabric message has its own effect (Table 19.4): MACsec protected, of this fabric and major
version, of no lower TERM (and at the manager of its own), of an epoch known here, and no duplicate. -/
structure Heard (s : State) (h : ClpHdr) : Prop where
  awake  : asleep s = false
  macsec : h.macsec = true
  fabric : h.fabric = s.fabric.fabricId
  major  : h.verMajor = 1
  joined : s.fabric.joined = true
  term   : s.fabric.term ≤ h.term
  manager : s.mode = .manager → h.term = s.fabric.term
  epoch  : h.epoch ≤ heldEpoch s
  fresh  : rxDup s h = false

/-- What a message that is heard leaves before its own effect: the time, and its mark in the receive window. -/
def heardAt (s : State) (h : ClpHdr) : State := rxMark (atTime s h.t) h

/-- READY is what Table 12.1 gives the mode, a device in Lockdown is sealed (R409), and the HBM's bytes are in canonical form. -/
structure Kept (s : State) : Prop where
  ready  : s.ready = readyIn s.mode
  locked : s.mode = .lockdown → sealedDown s = true
  memory : Memory.wf s.hbm.mem = true

/-- The parts of the state, as the frame statements name them; `memory` is the bytes of the HBM alone, `hbm` all of its state. -/
inductive Part where
  | mode | degraded | ready | epochCtr | vfEnabled | fns | qps | round | dma | dmaCycle | sessions | slotGen | cores
  | clusters | canary | larder | foreman | sec | power | hbm | memory | tap | pins | px | sw | tables | net | fabric
deriving DecidableEq, Repr

/-- A part is the same in two states. -/
def Part.same (p : Part) (s t : State) : Prop :=
  match p with
  | .mode => t.mode = s.mode
  | .degraded => t.degraded = s.degraded
  | .ready => t.ready = s.ready
  | .epochCtr => t.epochCtr = s.epochCtr
  | .vfEnabled => t.vfEnabled = s.vfEnabled
  | .fns => t.fns = s.fns
  | .qps => t.qps = s.qps
  | .round => t.round = s.round
  | .dma => t.dma = s.dma
  | .dmaCycle => t.dmaCycle = s.dmaCycle
  | .sessions => t.sessions = s.sessions
  | .slotGen => t.slotGen = s.slotGen
  | .cores => t.cores = s.cores
  | .clusters => t.clusters = s.clusters
  | .canary => t.canary = s.canary
  | .larder => t.larder = s.larder
  | .foreman => t.foreman = s.foreman
  | .sec => t.sec = s.sec
  | .power => t.power = s.power
  | .hbm => t.hbm = s.hbm
  | .memory => t.hbm.mem = s.hbm.mem
  | .tap => t.tap = s.tap
  | .pins => t.pins = s.pins
  | .px => t.px = s.px
  | .sw => t.sw = s.sw
  | .tables => t.tables = s.tables
  | .net => t.net = s.net
  | .fabric => t.fabric = s.fabric

/-- What serving a host command may write: its queue pair and completion, the function's interrupts, and, when its data buffer is
unreadable, the fault records (R227, R233, R273). -/
def Part.served : List Part := [.degraded, .fns, .qps, .canary, .foreman, .hbm]

/-- Every part: what a reset writes. -/
def Part.all : List Part :=
  [.mode, .degraded, .ready, .epochCtr, .vfEnabled, .fns, .qps, .round, .dma, .dmaCycle, .sessions, .slotGen, .cores,
   .clusters, .canary, .larder, .foreman, .sec, .power, .hbm, .memory, .tap, .pins, .px, .sw, .tables, .net, .fabric]

/-- The parts that a command may write when it answers a next state; every other part stays as it is. -/
def writes : Instr → List Part
  | .identify _ => .memory :: Part.served
  | .setMode _ => [.mode, .ready, .cores, .clusters, .larder, .px, .net, .fabric] ++ Part.served
  | .configureEvents _ => Part.served
  | .createQp _ => Part.served
  | .deleteQp _ => .sessions :: Part.served
  | .reset _ => Part.all
  | .setPowerState _ => [.mode, .ready, .sessions, .cores, .power, .px, .sw, .tables, .net, .fabric] ++ Part.served
  | .getLog _ => .memory :: Part.served
  | .getTelemetry _ => .memory :: Part.served
  | .abort _ => Part.served
  | .setFunctionResources _ => .memory :: Part.served
  | .createSession _ _ => [.epochCtr, .sessions, .slotGen, .cores, .larder, .memory, .net, .fabric] ++ Part.served
  | .startSession _ => [.sessions, .fabric] ++ Part.served
  | .reconfigureSession _ _ => [.epochCtr, .sessions, .cores, .larder, .fabric] ++ Part.served
  | .stopSession _ => [.epochCtr, .sessions, .cores, .clusters, .memory, .fabric] ++ Part.served
  | .destroySession _ => [.epochCtr, .sessions, .cores, .clusters, .larder, .memory, .net, .fabric] ++ Part.served
  | .querySession _ => .memory :: Part.served
  | .setSessionRings _ => .sessions :: Part.served
  | .forceRefresh _ => .sessions :: Part.served
  | .submitPicture _ => .sessions :: Part.served
  | .submitBitstream _ _ => .sessions :: Part.served
  | .returnBuffer _ => [.sessions, .cores, .clusters, .memory] ++ Part.served
  | .flush _ => [.sessions, .cores, .clusters, .memory] ++ Part.served
  | .setPort _ _ => [.epochCtr, .sessions, .larder, .px, .sw, .net] ++ Part.served
  | .setMacsec _ => [.epochCtr, .larder, .net] ++ Part.served
  | .setPtp _ _ => [.epochCtr, .net, .fabric] ++ Part.served
  | .queryPtp _ => .memory :: Part.served
  | .setMeter _ => [.epochCtr, .net] ++ Part.served
  | .setFlow _ _ => [.epochCtr, .sw, .net] ++ Part.served
  | .setQueue _ => [.epochCtr, .net] ++ Part.served
  | .setSubscriber _ => [.epochCtr, .net] ++ Part.served
  | .setClasses _ => [.epochCtr, .net] ++ Part.served
  | .setGcl _ _ => [.epochCtr, .net] ++ Part.served
  | .tableInsert _ _ => [.epochCtr, .tables] ++ Part.served
  | .tableDelete _ _ => [.epochCtr, .tables] ++ Part.served
  | .tableRead _ => .memory :: Part.served
  | .tableFlush _ => [.epochCtr, .tables] ++ Part.served
  | .routeAdd _ => [.epochCtr, .tables] ++ Part.served
  | .routeDelete _ => [.epochCtr, .tables] ++ Part.served
  | .setNextHop _ => [.epochCtr, .tables] ++ Part.served
  | .setLearn _ => [.epochCtr, .tables] ++ Part.served
  | .setGroup _ _ => [.epochCtr, .tables] ++ Part.served
  | .queryTables _ => .memory :: Part.served
  | .setPools _ _ => [.epochCtr, .sw, .net] ++ Part.served
  | .queryPools _ => [.memory, .sw] ++ Part.served
  | .setCapture _ => [.epochCtr, .memory, .sw] ++ Part.served
  | .setMirrorRule _ => [.epochCtr, .sw] ++ Part.served
  | .setDropProfile _ _ => [.epochCtr, .sw] ++ Part.served
  | .fabricCreate _ => [.mode, .ready, .epochCtr, .fabric] ++ Part.served
  | .fabricJoin _ => .fabric :: Part.served
  | .fabricLeave _ => [.mode, .ready, .epochCtr, .sessions, .cores, .clusters, .memory, .net, .fabric] ++ Part.served
  | .fabricQuery _ => .memory :: Part.served
  | .fabricDrain _ => [.epochCtr, .sessions, .cores, .clusters, .fabric] ++ Part.served
  | .fabricSetStandby _ => [.epochCtr, .fabric] ++ Part.served
  | .fabricSetVersion _ => [.epochCtr, .sessions, .fabric] ++ Part.served
  | .secQuery _ => .memory :: Part.served
  | .secAuthChallenge _ => [.sec, .memory] ++ Part.served
  | .secAuthResponse _ _ => Part.served
  | .secLogout _ => Part.served
  | .secKemKeygen _ => [.sec, .memory] ++ Part.served
  | .secKeyImport _ _ => [.sessions, .sec] ++ Part.served
  | .secKeyDelete _ => .sec :: Part.served
  | .secKeyQuery _ => .memory :: Part.served
  | .secZeroize _ => [.sessions, .cores, .clusters, .sec, .net, .fabric] ++ Part.served
  | .secSelfTest _ _ => [.sessions, .cores, .clusters, .larder, .sec, .fabric] ++ Part.served
  | .secAttest _ _ => [.sec, .memory] ++ Part.served
  | .secRandom _ => [.sec, .memory] ++ Part.served
  | .secDigest _ _ => .memory :: Part.served
  | .secLifecycle _ _ => Part.all
  | .updateOpen _ => Part.served
  | .updateWrite _ _ => Part.served
  | .updateVerify _ => Part.served
  | .updateActivate _ => Part.all
  | .updateCommit _ => .sec :: Part.served
  | .updateAbort _ => Part.served
  | .updateStatus _ => .memory :: Part.served
  | .setPlatformConfig _ _ => Part.served
  | .setChannelOwner _ => .dma :: Part.served
  | .queryChannels _ => .memory :: Part.served
  | .sqTailWrite _ _ _ => [.fns, .qps, .foreman]
  | .cqHeadWrite _ _ _ => [.fns, .qps, .foreman]
  | .commandFetch _ _ _ _ => [.fns, .qps, .round]
  | .commandTimeout _ _ => [.fns, .qps]
  | .coalesceTimer _ _ _ => [.fns, .qps]
  | .mbEnable _ => [.fns, .qps]
  | .mbDisable _ => [.fns, .qps, .sessions]
  | .intrMaskWrite _ _ => [.fns]
  | .registerWrite _ _ _ => [.fns, .dma]
  | .bar2Access _ _ _ => [.degraded, .fns, .canary, .foreman, .hbm, .memory]
  | .dmaArm _ _ => [.fns, .dma, .dmaCycle]
  | .dmaDisable _ _ _ _ => [.fns, .dma, .dmaCycle, .hbm, .memory]
  | .dmaClearHalt _ _ => [.fns, .dma, .dmaCycle]
  | .dmaShadowWrite _ _ _ _ => [.fns, .dma, .dmaCycle]
  | .dmaBurstIssue _ _ => [.fns, .dma, .dmaCycle]
  | .dmaBeatReturn _ _ _ _ => [.fns, .dma, .dmaCycle, .hbm, .memory]
  | .dmaBeatError _ _ _ => [.fns, .dma, .hbm, .memory]
  | .coldReset _ => Part.all
  | .warmReset _ _ => Part.all
  | .hostInterfaceReset _ => [.vfEnabled, .fns, .qps, .dma, .sessions, .cores, .clusters, .sec, .hbm, .memory, .net]
  | .flr _ => [.vfEnabled, .fns, .qps, .dma, .sessions, .cores, .clusters, .sec, .hbm, .memory, .net]
  | .vfEnableClear => [.vfEnabled, .fns, .qps, .dma, .sessions, .cores, .clusters, .sec, .hbm, .memory, .net]
  | .busMasterEnableSet _ => [.fns]
  | .powerRemoved => Part.all
  | .secureBoot _ =>
      [.mode, .degraded, .ready, .fns, .cores, .clusters, .canary, .larder, .foreman, .sec, .power, .hbm, .px, .net, .fabric]
  | .larderUpdate => [.fns, .larder]
  | .bankedEntry _ => [.cores, .power, .net]
  | .bankedExit _ => [.power]
  | .hbmSelfRefreshTimer _ _ => [.power, .hbm]
  | .dormantWake _ _ _ => Part.all
  | .coreSleep _ => [.cores]
  | .keepWarmWake _ _ => [.cores, .power]
  | .coreWakeComplete _ _ => [.cores]
  | .clusterPllOff _ => [.power]
  | .avsStep _ _ _ => [.degraded, .fns, .canary, .foreman, .power]
  | .avsRetry _ _ _ => [.degraded, .fns, .canary, .foreman, .power]
  | .vddCoreWarn _ _ => [.degraded, .fns, .canary, .foreman, .power]
  | .vddCoreRecover _ _ => [.degraded, .fns, .larder, .foreman, .power]
  | .stretch2ms _ => [.degraded, .fns, .qps, .sessions, .cores, .clusters, .canary, .larder, .foreman, .power, .fabric]
  | .vddCoreResetThreshold _ _ => Part.all
  | .railUndervoltage _ _ => Part.all
  | .thermalWarn _ => [.degraded, .fns, .canary, .foreman, .power]
  | .thermalThrottle _ => [.degraded, .fns, .qps, .sessions, .cores, .clusters, .canary, .larder, .foreman, .power, .fabric]
  | .throttleRelease _ _ => [.degraded, .fns, .larder, .power]
  | .thermtrip _ => [.mode, .ready, .fns, .sessions, .cores, .clusters, .canary, .foreman, .sec, .hbm, .tap, .pins, .net]
  | .tamperDetect _ => [.mode, .ready, .fns, .sessions, .cores, .clusters, .canary, .foreman, .sec, .hbm, .tap, .pins, .net]
  | .refclkLoss _ _ =>
      [.mode, .degraded, .ready, .vfEnabled, .fns, .qps, .dma, .sessions, .cores, .clusters, .canary, .larder, .foreman,
       .sec, .power, .hbm, .memory, .tap, .pins, .px, .sw, .net]
  | .wakeOscTrim _ => [.power]
  | .fwHeartbeat _ => [.foreman]
  | .watchdogTimeout _ => Part.all
  | .lockstepMismatch _ => [.canary, .power]
  | .errorPortEvent _ _ _ _ => Part.all
  | .fenceEffect _ _ =>
      [.degraded, .fns, .qps, .dma, .sessions, .cores, .clusters, .canary, .larder, .foreman, .hbm, .memory, .px, .sw, .net,
       .fabric]
  | .faultNRelease _ => [.canary]
  | .bistComplete _ _ => [.degraded, .fns, .cores, .clusters, .canary, .larder, .foreman, .px, .net]
  | .patchParityError _ _ => [.degraded, .fns, .cores, .canary, .foreman]
  | .coreBistReloadDone _ _ _ => [.degraded, .fns, .cores, .clusters, .canary, .larder, .foreman, .px, .net]
  | .spareTakeover _ _ => [.degraded, .fns, .qps, .sessions, .cores, .clusters, .canary, .larder, .foreman, .power, .fabric]
  | .coreRestart _ _ _ => [.degraded, .fns, .sessions, .cores, .canary, .foreman]
  | .bandDispatch _ _ _ _ _ => [.fns, .qps, .sessions, .cores, .clusters, .hbm, .memory]
  | .bandStart _ _ => [.sessions, .cores, .clusters]
  | .cuStart _ _ _ => [.sessions, .cores]
  | .cuMeasure _ _ => [.sessions, .cores]
  | .rowCommit _ _ _ _ => [.degraded, .fns, .sessions, .cores, .clusters, .canary, .larder, .foreman, .hbm, .memory, .fabric]
  | .surveyRowStart _ _ _ _ _ => [.sessions]
  | .ppuBand _ _ _ => [.fns, .qps, .sessions, .hbm, .memory]
  | .packetRelease _ _ => [.degraded, .fns, .qps, .sessions, .cores, .clusters, .canary, .foreman, .hbm, .memory, .fabric]
  | .bandReleaseTime _ _ _ _ => [.sessions]
  | .tsPsiTimer _ _ => [.sessions]
  | .inputGapTimeout _ _ => [.sessions]
  | .decodeUnitStart _ => [.sessions, .cores]
  | .decodeRowCommit _ _ _ _ _ => [.fns, .sessions, .cores, .clusters, .larder, .foreman]
  | .decodePictureEnd _ _ _ _ _ _ => [.fns, .qps, .sessions, .cores, .clusters, .hbm, .memory]
  | .reorderTimeout _ _ => [.sessions]
  | .rtpPacketRx _ => [.sessions]
  | .decodeOutputStart _ _ _ => [.fns, .qps, .sessions, .cores, .clusters, .foreman, .hbm, .memory, .px]
  | .pxTxLine _ _ _ => [.fns, .qps, .sessions, .cores, .clusters, .hbm, .memory, .px]
  | .pxLinkUp _ _ => [.fns, .larder, .px]
  | .pxLinkDown _ _ => [.fns, .sessions, .larder, .foreman, .px]
  | .frameStart _ => [.degraded, .fns, .sessions, .canary, .foreman, .px]
  | .line _ => [.degraded, .fns, .canary, .foreman, .px]
  | .frameEnd _ => [.degraded, .fns, .sessions, .canary, .foreman, .px]
  | .metadata _ => [.degraded, .fns, .sessions, .canary, .foreman, .px]
  | .pxFifoRead _ => [.px]
  | .ethFrameHead _ => [.fns, .foreman, .hbm, .memory, .sw, .tables, .net]
  | .ethFrameEnd _ _ _ _ _ => [.fns, .foreman, .hbm, .memory, .sw, .net]
  | .portPacketIn _ => [.fns, .foreman, .hbm, .memory, .sw, .net]
  | .pantryRetry _ _ => [.fns, .foreman, .hbm, .memory, .sw, .net]
  | .poolCacheRefill _ => [.sw]
  | .egressSelect _ _ _ => [.fns, .foreman, .hbm, .memory, .sw, .net]
  | .copyDone _ _ _ _ _ => [.degraded, .fns, .canary, .foreman, .hbm, .memory, .sw, .net]
  | .queueAvgDecay _ _ => [.sw]
  | .gclBoundary _ _ => [.net]
  | .pfcXoffRx _ _ _ _ => [.net]
  | .pfcXoffExpire _ _ _ => [.net]
  | .mergeLostTimeout _ _ => [.fns, .foreman, .hbm, .memory, .sw, .net]
  | .mergeLegDown _ _ _ => [.fns, .foreman, .hbm, .memory, .sw, .net]
  | .learn _ _ _ _ => [.fns, .foreman, .tables]
  | .refresh _ _ _ _ => [.fns, .foreman, .tables]
  | .move _ _ _ _ => [.fns, .foreman, .tables]
  | .agingSweep _ => [.tables]
  | .flapClear _ _ => [.tables]
  | .ptpMessageRx _ => [.fns, .foreman, .net, .fabric]
  | .ptpMessageTimer _ _ _ => [.net]
  | .announceTimeout _ => [.net, .fabric]
  | .ppsInEdge _ => [.fns, .foreman, .net]
  | .ppsOut _ => [.pins]
  | .hello _ _ _ _ _ _ => [.mode, .ready, .fns, .qps, .sessions, .cores, .clusters, .canary, .hbm, .memory, .net, .fabric]
  | .helloTimer _ => [.fabric]
  | .joinReq _ _ _ _ _ _ _ _ _ => [.fabric]
  | .joinAck _ _ _ _ _ _ => [.mode, .ready, .fns, .qps, .canary, .fabric]
  | .joinRetry _ => [.fabric]
  | .headlessRejoin _ => [.fabric]
  | .leaseRenew _ _ _ _ _ =>
      [.mode, .degraded, .ready, .fns, .qps, .sessions, .cores, .clusters, .canary, .foreman, .hbm, .memory, .net, .fabric]
  | .leaseRenewTimer _ => [.fabric]
  | .leaseExpiry _ =>
      [.mode, .degraded, .ready, .fns, .qps, .sessions, .cores, .clusters, .canary, .foreman, .hbm, .memory, .net, .fabric]
  | .memberLost _ _ => [.degraded, .fns, .qps, .sessions, .cores, .clusters, .canary, .foreman, .fabric]
  | .managerTakeover _ => [.mode, .ready, .fns, .canary, .fabric]
  | .assign _ _ _ _ _ _ =>
      [.mode, .ready, .fns, .qps, .sessions, .slotGen, .cores, .clusters, .canary, .larder, .hbm, .memory, .net, .fabric]
  | .ledger _ _ _ _ _ _ =>
      [.mode, .degraded, .ready, .fns, .qps, .sessions, .cores, .clusters, .canary, .foreman, .hbm, .memory, .net, .fabric]
  | .ledgerDigestTimer _ => [.fabric]
  | .stats _ _ _ _ _ =>
      [.mode, .degraded, .ready, .epochCtr, .fns, .qps, .sessions, .cores, .clusters, .canary, .foreman, .hbm, .memory, .net,
       .fabric]
  | .statsRequest _ _ _ _ => [.fabric]
  | .statsTimeout _ _ _ _ => [.degraded, .fns, .qps, .sessions, .cores, .clusters, .canary, .foreman, .fabric]
  | .commit _ _ _ _ _ => [.mode, .ready, .fns, .qps, .sessions, .cores, .clusters, .canary, .hbm, .memory, .net, .fabric]
  | .seamCheck _ _ _ _ _ _ =>
      [.mode, .degraded, .ready, .fns, .qps, .sessions, .cores, .clusters, .canary, .foreman, .hbm, .memory, .net, .fabric]
  | .fence _ _ _ _ =>
      [.mode, .degraded, .ready, .fns, .qps, .sessions, .cores, .clusters, .canary, .larder, .foreman, .hbm, .memory, .net,
       .fabric]
  | .promote _ _ _ _ _ _ => [.mode, .ready, .fns, .qps, .sessions, .cores, .clusters, .canary, .hbm, .memory, .net, .fabric]
  | .epochAdvance _ _ _ _ _ _ =>
      [.mode, .degraded, .ready, .epochCtr, .fns, .qps, .sessions, .slotGen, .cores, .clusters, .canary, .larder, .foreman,
       .hbm, .memory, .net, .fabric]
  | .epochHoldTimeout _ _ =>
      [.mode, .ready, .fns, .sessions, .cores, .clusters, .canary, .larder, .foreman, .hbm, .net, .fabric]
  | .timeCheck _ _ _ _ _ => [.mode, .ready, .fns, .qps, .sessions, .cores, .clusters, .canary, .hbm, .memory, .net, .fabric]
  | .timeCheckTimer _ => [.fabric]
  | .timeQualified _ => [.fabric]
  | .unqualHoldExpiry _ _ => [.degraded, .fns, .qps, .sessions, .cores, .clusters, .canary, .foreman, .fabric]
  | .clpRetransmit _ _ _ => [.degraded, .fns, .qps, .sessions, .cores, .clusters, .canary, .foreman, .fabric]
  | .sliceTransfer _ _ => [.sessions, .fabric]
  | .sliceResendTimer _ _ _ _ => [.sessions]
  | .haloStrip _ _ _ _ _ => [.mode, .ready, .fns, .qps, .sessions, .cores, .clusters, .canary, .hbm, .memory, .net, .fabric]
  | .haloResendTimer _ _ _ _ => [.sessions]
  | .seamStrip _ _ _ _ _ => [.mode, .ready, .fns, .qps, .sessions, .cores, .clusters, .canary, .hbm, .memory, .net, .fabric]
  | .refereeResult _ _ _ _ _ _ =>
      [.mode, .degraded, .ready, .fns, .qps, .sessions, .cores, .clusters, .canary, .foreman, .hbm, .memory, .net, .fabric]
  | .selfTestPeriodic _ _ _ =>
      [.mode, .degraded, .ready, .fns, .qps, .sessions, .cores, .clusters, .canary, .larder, .foreman, .sec, .hbm, .tap,
       .pins, .net, .fabric]
  | .entropyHealthFail _ => [.degraded, .fns, .qps, .sessions, .cores, .clusters, .canary, .larder, .foreman, .sec, .fabric]
  | .drbgReseed _ => [.sec]
  | .nonceExpiry _ _ => [.fns]
  | .authLockoutEnd _ _ => [.fns]
  | .roleExpiry _ _ => [.fns]
  | .decapKeyExpiry _ => [.sec]
  | .telemetrySweep _ _ => [.fns, .cores, .larder, .foreman]
  | .sensorTrim _ _ => [.foreman]
  | .agingWrite _ _ => [.foreman]
  | .rotationCheck _ => [.fns, .clusters, .larder, .foreman]
  | .autoCommit _ => [.fns, .foreman, .sec]
  | .flashLogWrite _ _ => [.foreman]
  | .mctpSetEndpointId _ _ => [.foreman]
  | .mctpGetEndpointId => []
  | .mctpGetVersionSupport _ => []
  | .mctpGetMessageTypeSupport => []
  | .requestUpdate _ => [.fns, .foreman]
  | .transferComplete _ _ => [.fns, .foreman]
  | .activateFirmware _ _ => Part.all
  | .hbmRequest _ => [.power, .hbm, .memory]
  | .hbmReadReturn _ _ _ _ => [.degraded, .fns, .canary, .foreman, .hbm]
  | .bulkPromotion _ _ => [.hbm]
  | .pageCloseTimeout _ _ _ => [.hbm]
  | .hbmRefresh _ _ _ => [.hbm]
  | .hbmTempRead _ _ _ =>
      [.mode, .degraded, .ready, .fns, .qps, .sessions, .cores, .clusters, .canary, .larder, .foreman, .hbm, .memory, .net,
       .fabric]
  | .actWindowEnd _ _ => [.hbm]
  | .patrolScrub _ _ _ => [.degraded, .fns, .canary, .foreman, .hbm]
  | .retrainStart _ _ _ => [.hbm]
  | .retrainDone _ _ _ => [.degraded, .fns, .canary, .foreman, .hbm]
  | .sramScrub _ _ _ _ _ =>
      [.mode, .degraded, .ready, .vfEnabled, .fns, .qps, .dma, .sessions, .cores, .clusters, .canary, .larder, .foreman,
       .sec, .power, .hbm, .memory, .sw, .tables, .net, .fabric]
  | .tapUpdateIr _ _ _ =>
      [.mode, .ready, .fns, .sessions, .cores, .clusters, .canary, .foreman, .sec, .hbm, .tap, .pins, .net, .fabric]
  | .tapReset => [.tap, .pins]
  | .ethLinkUp _ _ => [.fns, .larder, .net]
  | .ethLinkDown _ _ => [.fns, .larder, .foreman, .sw, .net]
  | .clpAckReceived _ _ _ _ _ => [.degraded, .fns, .qps, .sessions, .cores, .clusters, .canary, .foreman, .fabric]
  | .refereeTimeout _ _ _ _ =>
      [.mode, .degraded, .ready, .fns, .qps, .sessions, .cores, .clusters, .canary, .foreman, .hbm, .memory, .net, .fabric]
  | .vddFuseChange _ _ => [.fns, .larder, .sec]
  | .avsSettled _ _ => [.power]
  | .msixVectorUnmask _ _ => [.fns]

end Sys2Proof.Machine
end

