-- ==== Sys2Proof/Certificates/Slice0/Obligations.lean ====
section
/-! DEFINITION. The statements about the model, for the provers: completion and frames by family, the rules of the manual
that the model obeys, the invariants of a step. -/

section
open Sys2Proof Sys2Proof.Machine

/-! ### The packing FIFO and the spare (chapters 2, 5) -/

/-- A packing FIFO (R103, R105, R106, behind the Ladle of a core and the receive FIFO of a pixel port): a write that finds no
free word is discarded and counted and the data there stays; any other write appends its bytes in order; HOLD rises at HIGH and
falls at LOW. Model's choices in it: log entry 64. -/
def Obligations.PackingFifoKeepsItsBytes : Prop :=
  ∀ (f g : PackFifo) (tag : List Nat) (b : Bytes), f.low < f.high → f.filling.length < 64 →
    (f.capacity * 64 < f.words.length * 64 + f.filling.length + b.length → fifoWrite tag b f = { f with overflow := f.overflow + 1 }) ∧
    (f.words.length * 64 + f.filling.length + b.length ≤ f.capacity * 64 → g = fifoWrite tag b f →
      g.words.flatMap (·.bytes) ++ g.filling = f.words.flatMap (·.bytes) ++ f.filling ++ b ∧ g.filling.length < 64 ∧
      g.overflow = f.overflow ∧ g.committed = f.committed) ∧
    (f.filling ≠ [] → fifoFlush tag f = fifoHold { f with words := f.words ++ [⟨f.filling, true, tag⟩], filling := [] }) ∧
    (f.filling = [] → fifoFlush tag f = f) ∧
    (∀ w l, f.words = w :: l → (fifoRead f).1 = some w ∧ (fifoRead f).2.words = l ∧ (fifoRead f).2.filling = f.filling) ∧
    (f.words.length * 64 + f.filling.length + b.length ≤ f.capacity * 64 → (g = fifoWrite tag b f ∨ g = (fifoRead f).2 ∧ f.words ≠ []) →
      (f.high ≤ fifoOccupancy g → g.hold = true) ∧ (fifoOccupancy g ≤ f.low → g.hold = false) ∧
      (f.low < fifoOccupancy g → fifoOccupancy g < f.high → g.hold = f.hold))

/-- At a Secure Boot with firmware, the spare of a cluster is its usable core with the largest AGING in the flash log, the
highest index among equals; with at most one usable core there is none; the Larder that the boot publishes shows the choice in
SPARE_CORE, and 0xFF for none (R488). -/
def Obligations.SpareIsTheMostAgedCore : Prop :=
  ∀ (s t s1 : State) (i : BootInput) (slot k : Nat), s.mode = .secureBoot → s.power.supplies = true → s.hbm.hotWait = false →
    chooseSlot (atTime s i.t) i = (some slot, s1) → exec (.secureBoot i) s = .next t → k < 4 →
    (∀ c, (clGet t k).spare = some c → c / 7 = k ∧ (coreGet t c).fenced = false ∧ (coreGet t c).lost = false ∧
      ∀ d, d / 7 = k → coreUsable t d = true → tget 0 t.foreman.agingFlash d < tget 0 t.foreman.agingFlash c ∨
        (tget 0 t.foreman.agingFlash d = tget 0 t.foreman.agingFlash c ∧ d ≤ c)) ∧
    ((clGet t k).spare = none ↔ (usableCores t k).length ≤ 1) ∧
    (t.hbm.hotWait = false → (tget [] t.larder.dyn (0x20000 + k)).getD 1 0 =
      (match (clGet t k).spare with | some c => (c : Int) | none => 0xFF))

/-! ### Host interface: device commands (chapters 11, 12) -/

/-- IDENTIFY, CONFIGURE_EVENTS, CREATE_QP, DELETE_QP and ABORT complete with their own effect (R210, R223, R233, R236, R237,
R238, R241). SET_MODE makes the transitions of Table 12.2 that it may make, with READY 1 in each, and changes no mode otherwise
(R248, R410): to the current mode nothing, from Ready to Standalone or Maintenance, from Standalone without sessions or
Maintenance after its self-test to Ready. Model's choices in it: log entries 9, 18, 25, 75. -/
def Obligations.DeviceCommandsComplete : Prop :=
  (∀ (s : State) (r : CmdRef) (i : InFlight),
     (Starts s r 0x01 i → 256 ≤ cmdDataLen i.entry → u8 i.entry 24 = 0 →
       exec (.identify r) s = .next (succeed (writeData (markStarted s r) r.fn i.entry (padTo 256 deviceEntry)) r 0)) ∧
     (Starts s r 0x01 i → 256 ≤ cmdDataLen i.entry → u8 i.entry 24 = 1 →
       exec (.identify r) s =
         .next (succeed (writeData (markStarted s r) r.fn i.entry (padTo 256 (functionEntry (markStarted s r) r.fn))) r 0)) ∧
     (Starts s r 0x03 i → u64 i.entry 24 % 4096 = 0 → depthOk (u16 i.entry 32) = true → u16 i.entry 34 < vectors r.fn →
       exec (.configureEvents r) s = .next (succeed (fnSet (markStarted s r) r.fn { fnGet (markStarted s r) r.fn with
         eventRing := if u16 i.entry 32 = 0 then none else some ⟨u64 i.entry 24, u16 i.entry 32, u16 i.entry 34, 0⟩ }) r 0)) ∧
     (Starts s r 0x04 i → 1 ≤ u16 i.entry 24 → u16 i.entry 24 ≤ (fnGet s r.fn).qpGrant - 1 → 2 ≤ u16 i.entry 26 →
       u16 i.entry 26 ≤ 64 → u16 i.entry 28 < vectors r.fn → u64 i.entry 32 % 4096 = 0 → u64 i.entry 40 % 4096 = 0 →
       u16 i.entry 48 ≤ 1000 → qpGet (markStarted s r) r.fn (u16 i.entry 24) = none →
       exec (.createQp r) s = .next (succeed (qpPut (markStarted s r) (QueuePair.make r.fn (u16 i.entry 24) (u16 i.entry 26)
         (u16 i.entry 28) (u16 i.entry 30) (u16 i.entry 48) (u64 i.entry 32) (u64 i.entry 40))) r 0)) ∧
     (∀ q, Starts s r 0x05 i → u16 i.entry 24 ≠ 0 → qpGet (markStarted s r) r.fn (u16 i.entry 24) = some q → q.deleting = none →
       exec (.deleteQp r) s = .next (deletePair (markStarted s r) q (some r))) ∧
     (Starts s r 0x0A i → inFlight (markStarted s r) ⟨r.fn, u16 i.entry 24, u16 i.entry 26⟩ = none →
       exec (.abort r) s = .next (succeed (markStarted s r) r 0)) ∧
     (∀ v, Starts s r 0x0A i → inFlight (markStarted s r) ⟨r.fn, u16 i.entry 24, u16 i.entry 26⟩ = some v → v.started = true →
       exec (.abort r) s = .next (succeed (markStarted s r) r 2)) ∧
     (∀ v, Starts s r 0x0A i → inFlight (markStarted s r) ⟨r.fn, u16 i.entry 24, u16 i.entry 26⟩ = some v → v.started = false →
       exec (.abort r) s = .next (succeed (finish (markStarted s r) ⟨r.fn, u16 i.entry 24, u16 i.entry 26⟩ (failWith stAborted)) r 1))) ∧
  (∀ (s : State) (r : CmdRef) (i : InFlight), Starts s r 0x02 i → u8 i.entry 24 < 12 → ∃ t, exec (.setMode r) s = .next t ∧
     (u8 i.entry 24 = modeCode s.mode → t.mode = s.mode ∧ t.ready = s.ready) ∧
     (s.mode = .ready → u8 i.entry 24 = 5 → t.mode = .standalone ∧ t.ready = true) ∧
     (s.mode = .ready → u8 i.entry 24 = 10 → t.mode = .maintenance ∧ t.ready = true ∧ t.canary.bist = true ∧ t.degraded = true) ∧
     (s.mode = .standalone → u8 i.entry 24 = 4 → s.sessions = [] → t.mode = .ready ∧ t.ready = true) ∧
     (s.mode = .standalone → u8 i.entry 24 = 4 → s.sessions ≠ [] → t.mode = .standalone ∧ t.sessions = s.sessions) ∧
     (s.mode = .maintenance → u8 i.entry 24 = 4 → s.canary.bist = false → s.tap.maintenance = false →
       t.mode = .ready ∧ t.ready = true) ∧
     t.tables = s.tables ∧ t.sw = s.sw ∧ t.power = s.power ∧ t.tap = s.tap ∧ t.hbm = s.hbm ∧ t.sec = s.sec)

/-- Doorbells, fetching, COALESCE_TIMER and COMMAND_TIMEOUT (R224 to R228, R234). Deciding a command whose turn has come, on the
admin pair with nothing else in flight, writes one completion entry with its CID, STATUS, DETAIL and RESULT at CQ_TAIL, inverts
PHASE on the wrap, and announces it on vector 0 (R222, R226, R227). Model's choices in it: log entries 6, 24. -/
def Obligations.DoorbellsAndFetchesComplete : Prop :=
  (∀ (s : State) (fn qid : Nat) (q : QueuePair), asleep s = false → fnExists s fn = true → qpGet s fn qid = some q →
     (∀ v : BitVec 32, v.toNat % 128 < q.depth →
       exec (.sqTailWrite fn qid v) s = .next (qpPut s { q with sqTail := v.toNat % 128 }) ∧
       exec (.cqHeadWrite fn qid v) s = .next (qpPut s { q with
         cqHead := v.toNat % 128, posted := q.posted - min q.posted ((v.toNat % 128 + q.depth - q.cqHead) % q.depth) })) ∧
     (∀ v : BitVec 32, q.depth ≤ v.toNat % 128 →
       exec (.sqTailWrite fn qid v) s = .next (doorbellError s fn) ∧ exec (.cqHeadWrite fn qid v) s = .next (doorbellError s fn)) ∧
     (∀ e t, s.ready = true → fetchTurn s (qpKey fn qid) = true →
       exec (.commandFetch fn qid e t) s = .next (fetchEntry (atTime s t) q ((padTo 64 e).take 64))) ∧
     (∀ t, q.unannounced ≠ 0 → q.oldestAt + q.coalUs * 1000 ≤ t →
       exec (.coalesceTimer fn qid t) s = .next (sendMsix (qpPut (atTime s t) { q with unannounced := 0 }) fn q.vector)) ∧
     (∀ cid t i, s.ready = true → inFlight s ⟨fn, qid, cid⟩ = some i → noBound (cmdOpcode i.entry) = false →
       i.fetched + 1000000000 ≤ t →
       exec (.commandTimeout ⟨fn, qid, cid⟩ t) s = .next (finish (atTime s t) ⟨fn, qid, cid⟩ (failWith stTimeout)))) ∧
  (∀ (s : State) (fn : Nat) (q : QueuePair) (i : InFlight) (a : Reply), qpGet s fn 0 = some q → q.fn = fn → q.qid = 0 →
     q.deleting = none → q.flight = [i] → i.reply = none → cmdNoIrq i.entry = true →
     ∃ t, finish s ⟨fn, 0, i.cid⟩ a = t ∧
       t.out = .completion fn 0 q.cqTail a.result q.sqHead i.cid a.status a.detail q.phase :: s.out ∧
       qpGet t fn 0 = some { q with cqTail := if q.cqTail + 1 = q.depth then 0 else q.cqTail + 1,
                                    phase := if q.cqTail + 1 = q.depth then !q.phase else q.phase,
                                    posted := q.posted + 1, flight := [] } ∧
       t.fns = s.fns)

/-- MB_ENABLE, MB_DISABLE, INTR_MASK, MSI-X and Bus Master Enable (R221, R222, R242, R243). REGISTER_WRITE follows the access
type of the register (R8, R220, R222): a bit of INTR_CAUSE written as 1 clears, the admin registers take the value while
MB_ENABLED is 0 and ignore it otherwise, a read-only register ignores the write. Model's choices in it: log entry 61. -/
def Obligations.FunctionRegistersComplete : Prop :=
  (∀ (s : State) (fn : Nat), asleep s = false → fnExists s fn = true →
     (s.ready = true → (fnGet s fn).mbEnable = false → (fnGet s fn).mbEnabled = false → adminGood (fnGet s fn) = true →
       exec (.mbEnable fn) s = .next (qpPut (fnSet s fn { fnGet s fn with mbEnable := true, mbEnabled := true, adminError := false })
         (QueuePair.make fn 0 (fnGet s fn).adminDepth 0 0 0 (fnGet s fn).adminSqBase (fnGet s fn).adminCqBase))) ∧
     (s.ready = true → (fnGet s fn).mbEnable = false → (fnGet s fn).mbEnabled = false → adminGood (fnGet s fn) = false →
       exec (.mbEnable fn) s = .next (fnSet s fn { fnGet s fn with mbEnable := false, adminError := true })) ∧
     ((fnGet s fn).mbEnable = true → fnPairs s fn = [] →
       exec (.mbDisable fn) s = .next (fnSet s fn { fnGet s fn with mbEnable := false })) ∧
     (∀ v : BitVec 32, (fnGet s fn).intrCause &&& (fnGet s fn).intrMask &&& ~~~(v &&& 0x1FF) = 0 →
       exec (.intrMaskWrite fn v) s = .next (fnSet s fn { fnGet s fn with intrMask := v &&& 0x1FF })) ∧
     (∀ v : BitVec 32, (fnGet s fn).intrCause &&& (fnGet s fn).intrMask &&& ~~~(v &&& 0x1FF) ≠ 0 →
       exec (.intrMaskWrite fn v) s = .next (sendMsix (fnSet s fn { fnGet s fn with intrMask := v &&& 0x1FF }) fn 0)) ∧
     (∀ v, v < vectors fn → (fnGet s fn).vecPending.contains v = true →
       exec (.msixVectorUnmask fn v) s = .next (emit (fnSet s fn { fnGet s fn with
         vecMasked := (fnGet s fn).vecMasked.filter (· ≠ v), vecPending := (fnGet s fn).vecPending.filter (· ≠ v) }) (.msix fn v))) ∧
     exec (.busMasterEnableSet fn) s = .next (fnSet s fn { fnGet s fn with busMaster := true, suppressed := false })) ∧
  (∀ (s : State) (fn : Nat) (v : BitVec 64), asleep s = false → fnExists s fn = true →
     exec (.registerWrite fn .intrCause v) s =
       .next (fnSet s fn { fnGet s fn with intrCause := (fnGet s fn).intrCause &&& ~~~(v.truncate 32) }) ∧
     ((fnGet s fn).mbEnabled = false →
       exec (.registerWrite fn .adminDepth v) s = .next (fnSet s fn { fnGet s fn with adminDepth := v.toNat % 128 }) ∧
       exec (.registerWrite fn .adminSqBase v) s = .next (fnSet s fn { fnGet s fn with adminSqBase := v.toNat }) ∧
       exec (.registerWrite fn .adminCqBase v) s = .next (fnSet s fn { fnGet s fn with adminCqBase := v.toNat })) ∧
     ((fnGet s fn).mbEnabled = true →
       exec (.registerWrite fn .adminDepth v) s = .next s ∧ exec (.registerWrite fn .adminSqBase v) s = .next s ∧
       exec (.registerWrite fn .adminCqBase v) s = .next s) ∧
     exec (.registerWrite fn .deviceStatus v) s = .next s ∧ exec (.registerWrite fn .canaryStatus v) s = .next s ∧
     exec (.registerWrite fn .canaryClassMax v) s = .next s ∧ exec (.registerWrite fn .fwHeartbeat v) s = .next s ∧
     exec (.registerWrite fn .larderGen v) s = .next s)

/-- A BAR2 write reaches the bytes of the function's grant and no other byte of the HBM, a BAR2 read changes no byte and answers
zero beyond the grant, and an access beyond the grant counts in HOST_OOB (R218). Model's choices in it: log entries 5, 6, 27. -/
def Obligations.Bar2StaysInsideTheGrant : Prop :=
  ∀ (s : State) (fn off : Nat), asleep s = false → fnExists s fn = true → Memory.wf s.hbm.mem = true →
    (∀ data : Bytes, ∃ t, exec (.bar2Access fn off (.write data)) s = .next t ∧
      (∀ a, (a < grantAddr s fn off ∨ grantAddr s fn off + min data.length (grantBytes s fn - off) ≤ a) →
        memByte t.hbm.mem a = memByte s.hbm.mem a) ∧
      (off + data.length ≤ grantBytes s fn → s.hbm.bad = [] →
        (∀ k, k < data.length → memByte t.hbm.mem (grantAddr s fn off + k) = data.getD k 0) ∧ t.fns = s.fns) ∧
      (grantBytes s fn < off + data.length →
        fnGet t fn = { fnGet s fn with hostOob := (fnGet s fn).hostOob + 1 }) ∧
      t.sessions = s.sessions ∧ t.qps = s.qps ∧ t.out = s.out) ∧
    (∀ len, s.hbm.bad = [] → ∃ t, exec (.bar2Access fn off (.read len)) s = .next t ∧
      t.out = .readData fn (padTo len (memRead s.hbm.mem (grantAddr s fn off) (min len (grantBytes s fn - off)))) false :: s.out ∧
      t.hbm = s.hbm ∧ t.sessions = s.sessions ∧ t.qps = s.qps)

/-- DMA_ARM and DMA_SHADOW_WRITE, on a channel with no hand-over pending (R286, R288, R290). An armed channel whose hand-over
falls due copies a valid shadow set into the active set and runs (R288, R289): DISABLE in that cycle or a burst sees the copied
set. Model's choices in it: log entry 10. -/
def Obligations.DmaSetupCompletes : Prop :=
  (∀ (s : State) (ch cycle : Nat), asleep s = false → ch < 16 → (dmaGet s ch).handOver = none →
     ((dmaGet s ch).armed = false → (dmaGet s ch).state = .idle →
       exec (.dmaArm ch cycle) s =
         .next (dmaSet (atCycle s cycle) ch { dmaGet s ch with armed := true, handOver := some (cycle + 1) })) ∧
     ((dmaGet s ch).armed = false → (dmaGet s ch).state ≠ .idle →
       exec (.dmaArm ch cycle) s = .next (dmaSet (atCycle s cycle) ch { dmaGet s ch with armed := true, handOver := none })) ∧
     ((dmaGet s ch).armed = true → exec (.dmaArm ch cycle) s = .next (atCycle s cycle)) ∧
     (∀ v : BitVec 64, (dmaGet s ch).handedAt ≠ some cycle →
       exec (.dmaShadowWrite ch .src v cycle) s = .next (dmaSet (atCycle s cycle) ch { dmaGet s ch with shSrc := v }) ∧
       exec (.dmaShadowWrite ch .dst v cycle) s = .next (dmaSet (atCycle s cycle) ch { dmaGet s ch with shDst := v }) ∧
       exec (.dmaShadowWrite ch .len v cycle) s =
         .next (dmaSet (atCycle s cycle) ch { dmaGet s ch with shLen := v.truncate 32 }) ∧
       exec (.dmaShadowWrite ch .cfg v cycle) s =
         .next (dmaSet (atCycle s cycle) ch { dmaGet s ch with shCfg := v.truncate 32 }) ∧
       exec (.dmaShadowWrite ch .fill v cycle) s = .next (dmaSet (atCycle s cycle) ch { dmaGet s ch with shFill := v })) ∧
     (∀ v : BitVec 64, (dmaGet s ch).handedAt = some cycle →
       exec (.dmaShadowWrite ch .src v cycle) s =
         .next (dmaSet (atCycle s cycle) ch { dmaGet s ch with shSrc := v, shadowLate := true }))) ∧
  (∀ (s : State) (ch cycle : Nat), asleep s = false → ch < 16 → (dmaGet s ch).armed = true →
     (dmaGet s ch).handOver = some cycle → setDefect s { dmaGet s ch with handOver := none, handedAt := some cycle } = none →
     ∃ t, exec (.dmaArm ch cycle) s = .next t ∧
       (dmaGet t ch).actSrc = (dmaGet s ch).shSrc ∧ (dmaGet t ch).actDst = (dmaGet s ch).shDst ∧
       (dmaGet t ch).actCount = (dmaGet s ch).shLen ∧ (dmaGet t ch).actCfg = (dmaGet s ch).shCfg ∧
       (dmaGet t ch).actFill = (dmaGet s ch).shFill ∧ (dmaGet t ch).state = .running ∧ (dmaGet t ch).armed = true ∧
       (∀ k, k ≠ ch → dmaGet t k = dmaGet s k) ∧ t.hbm = s.hbm)

/-- Bursts, beats, halts and DISABLE of a channel (R287, R291 to R293, R296, R297). Model's choices in it: log entries 10, 57.
-/
def Obligations.DmaTransfersComplete : Prop :=
  ∀ (s : State) (ch cycle : Nat), asleep s = false → ch < 16 → (dmaGet s ch).handOver = none →
    ((dmaGet s ch).state = .running → (dmaGet s ch).actCount ≠ 0 → rateAllows (dmaGet s ch) cycle = true →
      s.canary.fencedUnits.contains .dmaHost = false →
      exec (.dmaBurstIssue ch cycle) s = .next (dmaSet (atCycle s cycle) ch (issueBurst (dmaGet s ch) cycle))) ∧
    (∀ b l src dst, (dmaGet s ch).state = .running → (dmaGet s ch).beats = b :: l → cfgMode (dmaGet s ch).actCfg = 1 →
      cfgDstHbm (dmaGet s ch).actCfg = false → (l ≠ [] ∨ (dmaGet s ch).actCount ≠ 0) →
      exec (.dmaBeatReturn ch src dst cycle) s =
        .next (emit (dmaSet (atCycle s cycle) ch { dmaGet s ch with beats := l, bytes := (dmaGet s ch).bytes + b.len })
          (.dmaWrite (dmaGet s ch).owner b.dst (fillBytes (dmaGet s ch).actFill b.offset b.len)))) ∧
    (∀ b l write reason, (dmaGet s ch).state = .running → (dmaGet s ch).beats = b :: l →
      ∃ t, exec (.dmaBeatError ch write reason) s = .next t ∧
        (dmaGet t ch).state = .haltedError ∧ (dmaGet t ch).error = true ∧ (dmaGet t ch).beats = [] ∧
        (dmaGet t ch).failAddr = BitVec.ofNat 64 (if write then b.dst else b.src) ∧
        (dmaGet t ch).halts = (dmaGet s ch).halts + 1 ∧ (∀ k, k ≠ ch → dmaGet t k = dmaGet s k)) ∧
    ((dmaGet s ch).state = .haltedError ∨ (dmaGet s ch).state = .haltedMismatch →
      exec (.dmaClearHalt ch cycle) s = .next (dmaSet (atCycle s cycle) ch { dmaGet s ch with
        state := .idle, handOver := if (dmaGet s ch).armed then some (cycle + 1) else none })) ∧
    (∃ t, exec (.dmaDisable ch false none cycle) s = .next t ∧ (dmaGet t ch).state = .idle ∧ (dmaGet t ch).armed = false ∧
      (dmaGet t ch).beats = [] ∧ (dmaGet t ch).shSrc = (dmaGet s ch).shSrc ∧ (dmaGet t ch).shDst = (dmaGet s ch).shDst ∧
      (dmaGet t ch).shLen = (dmaGet s ch).shLen ∧ (dmaGet t ch).shCfg = (dmaGet s ch).shCfg ∧
      (dmaGet t ch).doneCount = (dmaGet s ch).doneCount ∧ (∀ k, k ≠ ch → dmaGet t k = dmaGet s k))

/-- SET_CHANNEL_OWNER returns the previous owner and gives an idle channel, every register at its reset value, to the new one;
QUERY_CHANNELS writes the owners (R284, R285). SET_FUNCTION_RESOURCES sets the grants of a function, places its HBM grant and
zeroes it (R219, R235). Model's choices in it: log entries 9, 27. -/
def Obligations.ChannelOwnershipCompletes : Prop :=
  (∀ (s : State) (r : CmdRef) (i : InFlight),
     (Starts s r 0xA0 i → u8 i.entry 24 < 16 → fnExists s (u8 i.entry 25) = true →
       (dmaGet s (u8 i.entry 24)).state = .idle → (dmaGet s (u8 i.entry 24)).armed = false → fencing s .dmaHost = false →
       (dmaGet s (u8 i.entry 24)).owner ≠ u8 i.entry 25 →
       exec (.setChannelOwner r) s = .next (succeed (dmaSet (markStarted s r) (u8 i.entry 24)
         { DmaChannel.atReset with owner := u8 i.entry 25 }) r (dmaGet s (u8 i.entry 24)).owner)) ∧
     (Starts s r 0xA0 i → u8 i.entry 24 < 16 → fnExists s (u8 i.entry 25) = true →
       (dmaGet s (u8 i.entry 24)).state = .idle → (dmaGet s (u8 i.entry 24)).armed = false → fencing s .dmaHost = false →
       (dmaGet s (u8 i.entry 24)).owner = u8 i.entry 25 →
       exec (.setChannelOwner r) s = .next (succeed (markStarted s r) r (u8 i.entry 25))) ∧
     (Starts s r 0xA1 i →
       exec (.queryChannels r) s = .next (succeed (writeData (markStarted s r) r.fn i.entry ((List.range 32).map (fun n =>
         if n < 16 then BitVec.ofNat 8 (dmaGet s n).owner else 0xFF))) r 0))) ∧
  (∀ (s : State) (r : CmdRef) (i : InFlight), Starts s r 0x0B i → chkResources (markStarted s r) i.entry = none →
     ∃ t, exec (.setFunctionResources r) s = .next t ∧
       (∀ b, placeGrant (markStarted s r) (u8 i.entry 24) (u32 i.entry 28) = some b →
         ∀ a, b * 67108864 ≤ a → a < (b + u32 i.entry 28) * 67108864 → memByte t.hbm.mem a = 0) ∧
       (fnGet t (u8 i.entry 24)).qpGrant = u8 i.entry 25 ∧ (fnGet t (u8 i.entry 24)).sessGrant = u16 i.entry 26 ∧
       (fnGet t (u8 i.entry 24)).hbmUnits = u32 i.entry 28 ∧ t.sessions = s.sessions)

/-- COLD_RESET, WARM_RESET, RESET and POWER_REMOVED (R237, R455, R466, R467): no session and no queue pair remains, the HBM
reads zero, the OTP stays; a reset leaves MODE Secure Boot and READY 0, a loss of power leaves Off. A VF's FLR, VF_ENABLE_CLEAR
and the host-interface reset (R243, R244): no queue pair and no session of the functions reset remains, VF Enable is cleared
where the rule says so, and no mode changes. Model's choices in it: log entries 5, 22, 26, 62. -/
def Obligations.DeviceResetsClear : Prop :=
  (∀ (s : State),
     (∀ w, s.mode = .off → ∃ t, exec (.coldReset w) s = .next t ∧ t.mode = .secureBoot ∧ t.ready = false ∧ t.sessions = [] ∧
       t.qps = [] ∧ t.hbm.mem = [] ∧ t.sec.otp = s.sec.otp ∧ t.sec.keys = [] ∧ t.canary.status = 0 ∧ t.pending = s.pending) ∧
     (∀ trig w, dead s = false → warmDue s trig w = true → (trig ≠ .perstN ∨ s.power.perstWarm = true) →
       ∃ t, exec (.warmReset trig w) s = .next t ∧ t.mode = .secureBoot ∧ t.ready = false ∧ t.sessions = [] ∧ t.qps = [] ∧
         t.fns = [] ∧ t.hbm.mem = [] ∧ t.sec.otp = s.sec.otp ∧ t.sec.keys = [] ∧ t.canary.status = s.canary.status ∧
         t.power.aonRecord = s.power.aonRecord ∧ t.foreman.flashLog = s.foreman.flashLog ∧ t.pending = s.pending) ∧
     (∀ r i, Starts s r 0x06 i → u8 i.entry 24 = 0 → ∃ t, exec (.reset r) s = .next t ∧ t.mode = .secureBoot ∧ t.ready = false ∧
       t.sessions = [] ∧ t.qps = [] ∧ t.hbm.mem = [] ∧ t.sec.otp = s.sec.otp ∧ t.sec.keys = [] ∧ t.vfEnabled = s.vfEnabled ∧
       t.pending = s.pending) ∧
     (s.mode ≠ .off → ∃ t, exec .powerRemoved s = .next t ∧ t.mode = .off ∧ t.ready = false ∧ t.power.supplies = false ∧
       t.sessions = [] ∧ t.hbm.mem = [] ∧ t.sec.otp = s.sec.otp ∧ t.pending = s.pending)) ∧
  (∀ (s : State), dead s = false →
     (∀ fn, fn ≠ 0 → fnExists s fn = true → ∃ t, exec (.flr fn) s = .next t ∧ (∀ q ∈ t.qps, q.2.fn ≠ fn) ∧
       (∀ x ∈ t.sessions, x.2.fn ≠ fn) ∧
       (∀ q ∈ s.qps, q.2.fn ≠ fn → q ∈ t.qps) ∧ t.vfEnabled = s.vfEnabled ∧ t.mode = s.mode) ∧
     (∃ t, exec (.flr 0) s = .next t ∧ t.qps = [] ∧ t.sessions = [] ∧ t.vfEnabled = false ∧ t.mode = s.mode) ∧
     (s.vfEnabled = true → ∃ t, exec .vfEnableClear s = .next t ∧ (∀ q ∈ t.qps, q.2.fn = 0) ∧
       (∀ x ∈ t.sessions, x.2.fn = 0) ∧ t.vfEnabled = false ∧ t.mode = s.mode) ∧
     (∀ w, ∃ t, exec (.hostInterfaceReset w) s = .next t ∧ t.vfEnabled = false ∧ t.mode = s.mode ∧
       (fnGet t 0).suppressed = true ∧ (fnGet t 0).eventRing = (fnGet s 0).eventRing))

/-- SECURE_BOOT of a part whose self-test fails or without a slot that verifies ends in Maintenance under the boot ROM with
READY 1; with a slot that verifies and no stack above 110 °C it ends in the mode of Table 12.2 with READY 1 (R281, R414, R442,
R481). LARDER_UPDATE is one update of the dynamic section (R212). Model's choices in it: log entries 12, 22, 63. -/
def Obligations.SecureBootEndsReady : Prop :=
  ∀ (s : State),
    (∀ i s1, s.mode = .secureBoot → s.power.supplies = true → s.hbm.hotWait = false →
      chooseSlot (atTime s i.t) i = (none, s1) →
      ∃ t, exec (.secureBoot i) s = .next t ∧ t.mode = .maintenance ∧ t.ready = true ∧ t.foreman.bootRom = true ∧
        t.larder.published = true ∧ t.larder.reduced = true ∧ t.sec.otp = s.sec.otp) ∧
    (∀ i s1 slot, s.mode = .secureBoot → s.power.supplies = true → s.hbm.hotWait = false →
      chooseSlot (atTime s i.t) i = (some slot, s1) → i.stackTemp0 ≤ 1760 → i.stackTemp1 ≤ 1760 →
      ∃ t, exec (.secureBoot i) s = .next t ∧ t.mode = bootMode s ∧ t.ready = true ∧ t.foreman.bootRom = false ∧
        t.foreman.bootSlot = slot ∧ t.larder.published = true ∧ t.larder.reduced = false ∧ t.sec.otp = s.sec.otp) ∧
    (asleep s = false → s.ready = true → s.larder.published = true →
      ∃ t, exec .larderUpdate s = .next t ∧ t.larder.dynGen = s.larder.dynGen + 2 ∧ t.larder.larderGen = s.larder.dynGen + 2 ∧
        t.larder.dyn = larderView s ∧ t.hbm = s.hbm ∧ t.sessions = s.sessions ∧ t.qps = s.qps ∧ t.mode = s.mode)

/-! ### Power, clocks, voltage and temperature (chapter 23) -/

/-- SET_POWER_STATE, BANKED_ENTRY and BANKED_EXIT, DORMANT_WAKE with the digest unchanged and WAKE_OSC_TRIM (R457 to R460).
AVS_STEP, AVS_RETRY and AVS_SETTLED (R461): an acknowledged step of at most 5 mV within 650 to 850 mV becomes the setpoint, the
third failure in a row is recorded, and after it the loop tries again every second. Model's choices in it: log entry 67. -/
def Obligations.PowerStatesComplete : Prop :=
  (∀ (s : State),
     (∀ r i, Starts s r 0x07 i → u8 i.entry 24 < 3 → ∃ t, exec (.setPowerState r) s = .next t ∧
       t.power.ceiling = ceilingOf (u8 i.entry 24) ∧ t.mode = s.mode ∧ t.sessions = s.sessions ∧ t.hbm = s.hbm ∧ t.net = s.net) ∧
     (∀ r i, Starts s r 0x07 i → u8 i.entry 24 = 3 → ∃ t, exec (.setPowerState r) s = .next t ∧ t.mode = .dormant ∧
       t.ready = false ∧ t.power.current = .dormant ∧ t.power.pllOff = [0, 1, 2, 3] ∧ t.power.selfRefresh = [0, 1] ∧
       t.hbm.mem = s.hbm.mem ∧ t.sec = s.sec) ∧
     (∀ ns, asleep s = false → s.power.ceiling = .banked → s.power.current ≠ .banked → arrayIdle s = true →
       (∀ x ∈ sessList s, 50 ≤ keepWarm x) → 200000 ≤ ns → (∀ c ∈ s.dma, c.2.state ≠ .running) →
       ∃ t, exec (.bankedEntry ns) s = .next t ∧ t.power.current = .banked ∧ t.power.pllOff = [0, 1, 2, 3] ∧
         t.power.selfRefresh = [0, 1] ∧ t.hbm = s.hbm ∧ t.sessions = s.sessions ∧ t.mode = s.mode) ∧
     (∀ w, asleep s = false → s.power.current = .banked →
       ∃ t, exec (.bankedExit w) s = .next t ∧ t.power.current = .idle ∧ t.power.selfRefresh = [] ∧ t.hbm = s.hbm ∧
         t.sessions = s.sessions ∧ t.mode = s.mode) ∧
     (∀ src w, s.mode = .dormant → src ≠ .resetN → src ≠ .perstN →
       ∃ t, exec (.dormantWake src true w) s = .next t ∧ t.mode = .ready ∧ t.ready = true ∧ t.hbm.mem = s.hbm.mem ∧
         t.power.selfRefresh = [] ∧ t.sec = s.sec) ∧
     (∀ w, dead s = false → s.power.lostClocks.contains .sysClk = false →
       (∀ a, s.power.trimmedAt = some a → a + 1000000000 ≤ max s.now w) →
       exec (.wakeOscTrim w) s = .next { atTime s w with power := { s.power with trimmedAt := some (max s.now w) } })) ∧
  (∀ (s : State) (mv w : Nat), asleep s = false →
     (s.power.avsFails < 3 → avsAllowed s.power mv = true → avsWaited s.power (max s.now w) 1000000 = true →
       ∃ t, exec (.avsStep mv true w) s = .next t ∧ t.power.setpoint = mv ∧ t.power.avsFails = 0 ∧ t.out = .avs mv :: s.out ∧
         t.mode = s.mode ∧ t.sessions = s.sessions ∧ t.hbm = s.hbm ∧ t.canary = s.canary) ∧
     (s.power.avsFails < 3 → avsAllowed s.power mv = true → avsWaited s.power (max s.now w) 1000000 = true →
       ∃ t, exec (.avsStep mv false w) s = .next t ∧ t.power.setpoint = s.power.setpoint ∧ t.power.avsFails = s.power.avsFails + 1 ∧
         (s.power.avsFails ≠ 2 → t.canary = s.canary) ∧ t.mode = s.mode ∧ t.sessions = s.sessions ∧ t.hbm = s.hbm) ∧
     (3 ≤ s.power.avsFails → avsAllowed s.power mv = true → avsWaited s.power (max s.now w) 1000000000 = true →
       ∃ t, exec (.avsRetry mv true w) s = .next t ∧ t.power.setpoint = mv ∧ t.power.avsFails = 0 ∧ t.out = .avs mv :: s.out ∧
         t.mode = s.mode ∧ t.sessions = s.sessions ∧ t.hbm = s.hbm) ∧
     (s.power.oldSetpoint.isSome = true → s.power.changedAt + 100000 ≤ max s.now w →
       exec (.avsSettled false w) s = .next { atTime s w with power := { s.power with oldSetpoint := none } }) ∧
     (s.power.oldSetpoint.isSome = true →
       exec (.avsSettled true w) s = .next { atTime s w with power := { s.power with oldSetpoint := none } }))

/-- A lost reference clock and a failed rail (R456, R463, Table 23.3): SYS_CLK and VDD_AON lead to Lockdown, the core, SRAM, HBM
and I/O rails to a warm reset, the Ethernet and pixel clocks and rails fence their ports, XTAL_32K is only recorded; and
CLUSTER_PLL_OFF (R457). A supply dip (R462): the warning starts the stretch and is recorded once, the recovery level ends it
after 10 µs, 2 ms make it class 2, the reset threshold is a warm reset. Model's choices in it: log entry 67. -/
def Obligations.ClockAndRailLossesComplete : Prop :=
  (∀ (s : State) (w : Nat), dead s = false →
     (s.power.lostClocks.contains .sysClk = false →
       ∃ t, exec (.refclkLoss .sysClk w) s = .next t ∧ sealedDown t = true ∧ t.power.lostClocks = s.power.lostClocks ++ [.sysClk]) ∧
     (s.power.lostClocks.contains .ethRefclk = false →
       ∃ t, exec (.refclkLoss .ethRefclk w) s = .next t ∧ (∀ p, p < 16 → fencing t (.ethPort p) = true ∧ (ethGet t p).up = false) ∧
         t.mode = s.mode ∧ t.sec = s.sec) ∧
     (s.power.lostClocks.contains .pxRefclk = false →
       ∃ t, exec (.refclkLoss .pxRefclk w) s = .next t ∧ (∀ p, p < 4 → fencing t (.pixelPort p) = true ∧ (pxGet t p).up = false) ∧
         t.mode = s.mode ∧ t.sec = s.sec) ∧
     (s.power.lostClocks.contains .pcieRefclk = false →
       ∃ t, exec (.refclkLoss .pcieRefclk w) s = .next t ∧ t.vfEnabled = false ∧ t.mode = s.mode) ∧
     (s.power.lostClocks.contains .xtal32k = false →
       ∃ t, exec (.refclkLoss .xtal32k w) s = .next t ∧ t.power.lostClocks = s.power.lostClocks ++ [.xtal32k] ∧ t.mode = s.mode ∧
         t.sessions = s.sessions ∧ t.canary.status = s.canary.status ∧ t.hbm = s.hbm) ∧
     (∀ rail, rail = .vddSram ∨ rail = .hbmRail ∨ rail = .vddio18 →
       ∃ t, exec (.railUndervoltage rail w) s = .next t ∧ t.mode = .secureBoot ∧ t.ready = false ∧ t.sessions = [] ∧
         t.canary.status.getLsbD 43 = true) ∧
     (∃ t, exec (.railUndervoltage .vddAon w) s = .next t ∧ sealedDown t = true) ∧
     (∃ t, exec (.railUndervoltage .vddaEth w) s = .next t ∧
       (∀ p, p < 16 → fencing t (.ethPort p) = true ∧ (ethGet t p).up = false) ∧ t.mode = s.mode) ∧
     (∀ k, asleep s = false → k < 4 → s.power.pllOff.contains k = false →
       (∀ c ∈ clCores k, (coreGet s c).waking = none ∧ ((coreGet s c).sleep ≠ .awake ∨ coreUsable s c = false)) →
       (∀ x ∈ sessList s, x.serving.contains k = true → 43 ≤ keepWarm x) →
       exec (.clusterPllOff k) s = .next { s with power := { s.power with pllOff := s.power.pllOff ++ [k] } })) ∧
  (∀ (s : State) (mv w : Nat), asleep s = false →
     (mv * 100 < warnLevel (atTime s w) → s.power.stretchSince = none →
       ∃ t, exec (.vddCoreWarn mv w) s = .next t ∧ t.power.stretchSince = some (max s.now w) ∧ t.power.above = none ∧
         (fnGet t 0).intrCause.getLsbD 4 = true ∧ t.degraded = s.degraded ∧ t.mode = s.mode ∧ t.sessions = s.sessions ∧ t.hbm = s.hbm) ∧
     (∀ a, mv * 100 < warnLevel (atTime s w) → s.power.stretchSince = some a →
       exec (.vddCoreWarn mv w) s = .next { atTime s w with power := { s.power with above := none, stretchSince := some a } }) ∧
     (∀ a b, s.power.stretchSince = some a → recoverLevel (atTime s w) < mv * 100 → s.power.above = some b → b + 10000 ≤ max s.now w →
       ∃ t, exec (.vddCoreRecover mv w) s = .next t ∧ t.power.stretchSince = none ∧ t.power.stretchLong = false ∧ t.mode = s.mode ∧
         t.sessions = s.sessions ∧ t.hbm = s.hbm) ∧
     (∀ a, s.power.stretchLong = false → s.power.stretchSince = some a → a + 2000000 ≤ max s.now w →
       ∃ t, exec (.stretch2ms w) s = .next t ∧ t.power.stretchLong = true ∧ t.degraded = true ∧ t.canary.status.getLsbD 43 = true) ∧
     (mv * 100 < resetLevel (atTime s w) →
       ∃ t, exec (.vddCoreResetThreshold mv w) s = .next t ∧ t.mode = .secureBoot ∧ t.ready = false ∧ t.sessions = [] ∧
         t.canary.status.getLsbD 43 = true ∧ t.sec.otp = s.sec.otp))

/-- Temperature and tampering (R409, R449, R464, R465): the warning is recorded once and raises its cause, the throttle is class
2 and raises DEGRADED, it is released after 1 s at or below 115 °C, THERMTRIP and a tamper event are Lockdown. Model's choices
in it: log entry 67. -/
def Obligations.ThermalAndTamperComplete : Prop :=
  ∀ (s : State) (w : Nat),
    (asleep s = false → s.power.warned = false →
      ∃ t, exec (.thermalWarn w) s = .next t ∧ t.power.warned = true ∧ (fnGet t 0).intrCause.getLsbD 5 = true ∧
        t.degraded = s.degraded ∧ t.mode = s.mode ∧ t.sessions = s.sessions ∧ t.hbm = s.hbm) ∧
    (asleep s = false → s.power.throttle = false →
      ∃ t, exec (.thermalThrottle w) s = .next t ∧ t.power.throttle = true ∧ t.degraded = true ∧
        t.canary.status.getLsbD 44 = true ∧ coreClock t ≤ 800) ∧
    (∀ temp a, asleep s = false → s.power.throttle = true → temp ≤ 1840 → s.power.coolSince = some a →
      a + 1000000000 ≤ max s.now w →
      ∃ t, exec (.throttleRelease temp w) s = .next t ∧ t.power.throttle = false ∧ t.mode = s.mode ∧ t.sessions = s.sessions ∧
        t.hbm = s.hbm) ∧
    (dead s = false →
      ∃ t, exec (.thermtrip w) s = .next t ∧ sealedDown t = true ∧ t.canary.thermtripN = false ∧ t.canary.status.getLsbD 44 = true) ∧
    (dead s = false → ∃ t, exec (.tamperDetect w) s = .next t ∧ sealedDown t = true ∧ t.canary.status.getLsbD 42 = true)

/-! ### Faults, fences and self-tests (chapter 20) -/

/-- An event at an error port that R400 handles as class 2 sets its CANARY_STATUS bit, raises DEGRADED and counts; one of class
5 ends in Lockdown; the fifth queued one counts as OVERRUN (R399 to R403, R409). SPARE_TAKEOVER, FENCE_EFFECT and
FAULT_N_RELEASE (R45, R46, R404, R406): a stopped core is replaced and DEGRADED is set, a fence reaches its unit and stays
recorded, FAULT_N rises after 1 ms without class 3 or 4. Model's choices in it: log entries 43, 51, 52. -/
def Obligations.ErrorPortEventsComplete : Prop :=
  (∀ (s : State) (a w : Nat), asleep s = false →
     (∀ src ev, isSrc src = true → ev ≠ .overrun → faultClass src ev = some 5 →
       ∃ t, exec (.errorPortEvent src ev a w) s = .next t ∧ sealedDown t = true ∧
         t.canary.status.getLsbD (canaryBit src) = true) ∧
     (∀ n, n < 28 → (coreGet s n).fenced = false → (coreGet s n).lost = false →
       ∃ t, exec (.errorPortEvent (.core n) .patchParity a w) s = .next t ∧ t.degraded = true ∧
         t.canary.status.getLsbD n = true ∧ fencing t (.core n) = true ∧ t.mode = s.mode) ∧
     (∀ src, isSrc src = true → exec (.errorPortEvent src .overrun a w) s = .next { atTime s w with canary := { s.canary with
       overrun := tadd s.canary.overrun (canaryBit src * 64 + canaryUnit src) 1 } })) ∧
  (∀ (s : State) (w : Nat), asleep s = false →
     (∀ c, c < 28 → (coreGet s c).fault = .stopped →
       ∃ t, exec (.spareTakeover c w) s = .next t ∧ (coreGet t c).fault = .replaced ∧ t.degraded = true ∧ t.mode = s.mode) ∧
     (∀ u, isUnit u = true → s.canary.pendingFences.contains u = true →
       ∃ t, exec (.fenceEffect u w) s = .next t ∧ u ∈ t.canary.fencedUnits ∧ t.degraded = true ∧ t.mode = s.mode) ∧
     (s.canary.faultN = false → s.canary.afterClass4 = false → s.canary.lastSevere + 1000000 ≤ max s.now w →
       (∀ x ∈ sessList s, x.state ≠ .resync) →
       exec (.faultNRelease w) s = .next { atTime s w with canary := { s.canary with faultN := true } }))

/-- BIST_COMPLETE, PATCH_PARITY_ERROR, CORE_BIST_RELOAD_DONE, LOCKSTEP_MISMATCH and WATCHDOG_TIMEOUT (R42, R408, R410, R411).
Model's choices in it: log entries 25, 65. -/
def Obligations.SelfTestsAndWatchdogComplete : Prop :=
  ∀ (s : State) (w : Nat), asleep s = false →
    (s.canary.bist = true →
      ∃ t, exec (.bistComplete [] w) s = .next t ∧ t.canary.bist = false ∧ t.canary.fencedUnits = [] ∧ t.canary.lostUnits = [] ∧
        t.mode = s.mode ∧ t.hbm.mem = s.hbm.mem) ∧
    (∀ c, c < 28 → (coreGet s c).fenced = false → (coreGet s c).lost = false →
      ∃ t, exec (.patchParityError c w) s = .next t ∧ (coreGet t c).patchOk = false ∧ t.degraded = true ∧
        t.canary.status.getLsbD c = true ∧ fencing t (.core c) = true ∧ t.mode = s.mode) ∧
    (∀ c, c < 28 → (coreGet s c).fenced = true → (coreGet s c).patchOk = false → (coreGet s c).lost = false →
      (coreGet s c).fault = .replaced → parity24 (atTime s w) c = 1 →
      ∃ t, exec (.coreBistReloadDone c true w) s = .next t ∧ (coreGet t c).fenced = false ∧ (coreGet t c).patchOk = true ∧
        (clGet t (c / 7)).spare = some c ∧ t.mode = s.mode) ∧
    (s.canary.gatedAt = none → ∃ t, exec (.lockstepMismatch w) s = .next t ∧ t.canary.gatedAt = some (max s.now w)) ∧
    (s.foreman.lastService + 200000000 ≤ max s.now w →
      ∃ t, exec (.watchdogTimeout w) s = .next t ∧ t.mode = .secureBoot ∧ t.ready = false ∧ t.sessions = [] ∧
        t.canary.status.getLsbD 41 = true)

/-! ### The test access port (chapter 24) -/

/-- In Lockdown and Dormant the TAP accepts BYPASS, IDCODE and SAMPLE and every other instruction acts as BYPASS; a class 5
event in the cycle of a pin-driving instruction wins (R409, R483). -/
def Obligations.TapInLockdownAndDormant : Prop :=
  ∀ (s : State) (code : BitVec 8) (w : Nat),
    ((s.mode = .lockdown ∨ s.mode = .dormant) → ∃ t, exec (.tapUpdateIr code false w) s = .next t ∧
      t.tap = { s.tap with code := code, pins := if code = 0x01 ∨ code = 0x02 then code else 0xFF } ∧ t.mode = s.mode ∧
      t.pins = s.pins ∧ t.sec = s.sec ∧ t.hbm = s.hbm ∧ t.sessions = s.sessions) ∧
    (dead s = false → pinDriving code = true → ∃ t, exec (.tapUpdateIr code true w) s = .next t ∧ sealedDown t = true ∧
      t.tap.pins = 0xFF)

/-- A pin-driving TAP instruction on a device that is not Off, in Lockdown or Dormant zeroises the keys, destroys the sessions
and enters Maintenance before it drives the pins; BYPASS, IDCODE and SAMPLE only load; TAP_RESET selects IDCODE and leaves the
Maintenance to a warm reset (R479 to R482). Model's choices in it: log entry 60. -/
def Obligations.TapInstructionsComplete : Prop :=
  ∀ (s : State) (code : BitVec 8) (w : Nat),
    (asleep s = false → pinDriving code = true → code ≠ 0x80 → ∃ t, exec (.tapUpdateIr code false w) s = .next t ∧
      t.mode = .maintenance ∧ t.sessions = [] ∧ t.sec.keys = [] ∧ t.sec.kem = none ∧
      t.tap = { code := code, pins := code, maintenance := true, resetSeen := false } ∧ t.sec.otp = s.sec.otp ∧
      t.hbm.mem = s.hbm.mem) ∧
    (asleep s = false → code = 0x01 ∨ code = 0x02 ∨ code = 0xFF → ∃ t, exec (.tapUpdateIr code false w) s = .next t ∧
      t.mode = s.mode ∧ t.tap.code = code ∧ t.sessions = s.sessions ∧ t.sec = s.sec ∧ t.hbm = s.hbm) ∧
    (s.mode ≠ .off → exec .tapReset s = .next { s with tap := { s.tap with code := 0x01, pins := 0x01, resetSeen := true } })

/-! ### Cores' sleep, HBM and SRAM (chapters 1, 2, 13) -/

/-- CORE_SLEEP, KEEP_WARM_WAKE, CORE_WAKE_COMPLETE and CORE_RESTART of an interrupt (R19, R44, R48, R109): an idle core takes
the deepest state that fits its lead, a wake ends after the wake time, a restart empties the pipe and rewinds the Ladle. -/
def Obligations.CoreSleepAndRestartComplete : Prop :=
  ∀ (s : State) (c w : Nat), asleep s = false → c < 28 →
    (coreIdle s c = true → (coreGet s c).waking = none → (coreGet s c).sleep = .awake →
      exec (.coreSleep c) s = .next (coreSet s c { coreGet s c with sleep := sleepState s c })) ∧
    ((coreGet s c).sleep ≠ .awake → (coreGet s c).waking = none → (coreGet s c).fenced = false → (coreGet s c).lost = false →
      ∃ t, exec (.keepWarmWake c w) s = .next t ∧
        coreGet t c = { coreGet s c with waking := some (max s.now w + wakeTime s c) } ∧
        t.power.pllOff = s.power.pllOff.filter (· ≠ c / 7) ∧ (∀ k, k ≠ c → coreGet t k = coreGet s k) ∧
        t.sessions = s.sessions ∧ t.hbm = s.hbm ∧ t.mode = s.mode) ∧
    (∀ d, (coreGet s c).waking = some d → d ≤ max s.now w →
      exec (.coreWakeComplete c w) s = .next (coreSet (atTime s w) c { coreGet s c with sleep := .awake, waking := none })) ∧
    ((workOf s c).isSome = true → (coreGet s c).decoding = none →
      ∃ t, exec (.coreRestart c .interrupt w) s = .next t ∧ (coreGet t c).pipe = [none, none, none, none, none, none, none] ∧
        (coreGet t c).ladle = fifoRewind (coreGet s c).ladle ∧ (∀ k, k ≠ c → coreGet t k = coreGet s k) ∧ t.hbm = s.hbm ∧
        t.net = s.net ∧ t.mode = s.mode)

/-- HBM_REQUEST (R263, R265, R273): a write to correctable blocks stores its bytes at its address and changes no other byte; a
read changes none; both are accepted while their queue has room, and an address beyond the capacity stops. Model's choices in
it: log entries 5, 66. -/
def Obligations.HbmRequestsComplete : Prop :=
  ∀ (s : State) (q : HbmReq), asleep s = false → isAddr q.addr (max 1 q.data.length) = true → Memory.wf s.hbm.mem = true →
    (q.write = true → (pcGet s (pcOf q.addr)).writeQ.length < 64 → s.hbm.bad = [] →
      ∃ t, exec (.hbmRequest q) s = .next t ∧ t.hbm.accepted = s.hbm.accepted + 1 ∧
        (∀ k, k < q.data.length → memByte t.hbm.mem (q.addr + k) = q.data.getD k 0) ∧
        (∀ a, (a < q.addr ∨ q.addr + q.data.length ≤ a) → memByte t.hbm.mem a = memByte s.hbm.mem a) ∧
        t.sessions = s.sessions ∧ t.cores = s.cores ∧ t.mode = s.mode) ∧
    (q.write = false → (pcGet s (pcOf q.addr)).readQ.length < 64 →
      ∃ t, exec (.hbmRequest q) s = .next t ∧ t.hbm.mem = s.hbm.mem ∧ t.hbm.bad = s.hbm.bad ∧ t.sessions = s.sessions ∧
        t.cores = s.cores ∧ t.mode = s.mode)

/-- HBM_READ_RETURN, PATROL_SCRUB and SRAM_SCRUB (R272, R273, R276, R282): a clean read answers its requester with the data that
it sampled, two symbols in error answer with the error response and count in UE_COUNT, one counts in CE_COUNT; a clean scrub
step only moves on. The timers of a pseudo-channel and a stack (R266 to R268, R271, R278 to R280, R459). Model's choices in it:
log entries 53, 66, 76. -/
def Obligations.HbmReadsAndScrubsComplete : Prop :=
  (∀ (s : State) (a w : Nat), asleep s = false → isAddr a 1 = true →
     (∀ req p, (pcGet s (pcOf a)).issued.find? (fun r => r.addr == a && r.requester == req) = some p →
       s.hbm.bad.contains (a / 64) = false →
       exec (.hbmReadReturn a req 0 w) s = .next (emit (pcSet (atTime s w) (pcOf a)
         { pcGet s (pcOf a) with issued := (pcGet s (pcOf a)).issued.erase p }) (.hbmAnswer req a (some p.data)))) ∧
     (∀ req p, (pcGet s (pcOf a)).issued.find? (fun r => r.addr == a && r.requester == req) = some p →
       s.hbm.bad.contains (a / 64) = false →
       ∃ t, exec (.hbmReadReturn a req 1 w) s = .next t ∧ t.out.head? = some (.hbmAnswer req a (some p.data)) ∧
         (stackGet t (stackOf a)).ceCount = (stackGet s (stackOf a)).ceCount + 1 ∧ t.hbm.mem = s.hbm.mem ∧ t.hbm.bad = s.hbm.bad) ∧
     (∀ req p n, 2 ≤ n → (pcGet s (pcOf a)).issued.find? (fun r => r.addr == a && r.requester == req) = some p →
       ∃ t, exec (.hbmReadReturn a req n w) s = .next t ∧ t.out.head? = some (.hbmAnswer req a none) ∧
         (stackGet t (stackOf a)).ueCount = (stackGet s (stackOf a)).ueCount + 1 ∧ t.hbm.mem = s.hbm.mem) ∧
     (stackAwake s (stackOf a) = true → s.hbm.bad.contains (a / 64) = false →
       exec (.patrolScrub a 0 w) s = .next { atTime s w with hbm := { s.hbm with
         patrolNext := (a / 64 * 64 + 64) % Config.hbmBytes } }) ∧
     (∀ x n word, isArray x n = true → exec (.sramScrub x n word 0 w) s = .next (atTime s w)) ∧
     (∀ x n word, isArray x n = true → ∃ t, exec (.sramScrub x n word 1 w) s = .next t ∧
       t.hbm.sramErrors = tadd s.hbm.sramErrors (sramBit x n) 1 ∧ t.hbm.mem = s.hbm.mem ∧ t.mode = s.mode ∧
       t.sessions = s.sessions ∧ t.canary.status = s.canary.status)) ∧
  (∀ (s : State) (p w : Nat), asleep s = false → p < 64 →
     (∃ t, exec (.bulkPromotion p w) s = .next t ∧
       (∀ r ∈ (pcGet t p).readQ ++ (pcGet t p).writeQ, r.arrived + 2000 ≤ max s.now w → r.realTime = true) ∧
       t.hbm.mem = s.hbm.mem ∧ t.mode = s.mode ∧ t.sessions = s.sessions) ∧
     (∀ bank o, tfind (pcGet s p).openRows bank = some o → o.2 + 1000 ≤ max s.now w →
       exec (.pageCloseTimeout p bank w) s =
         .next (pcSet (atTime s w) p { pcGet s p with openRows := tdel (pcGet s p).openRows bank })) ∧
     (∀ bank, stackAwake (atTime s w) (p / 32) = true → tget 0 (pcGet s p).nextRefresh bank ≤ max s.now w →
       exec (.hbmRefresh p bank w) s = .next (pcSet (atTime s w) p { pcGet s p with
         refreshes := (pcGet s p).refreshes + 1, openRows := tdel (pcGet s p).openRows bank,
         nextRefresh := tset (pcGet s p).nextRefresh bank
           (max s.now w + (if (stackGet s (p / 32)).refreshMult = 2 then 1950 else 3900)) })) ∧
     ((pcGet s p).windowFrom + 32000000 ≤ max s.now w →
       exec (.actWindowEnd p w) s =
         .next (pcSet (atTime s w) p { pcGet s p with acts := [], spaced := [], windowFrom := max s.now w })) ∧
     (∀ k temp, k < 2 → s.hbm.hotWait = false → (∀ n, n < 64 → (pcGet s n).trained = true) →
       ∃ t, exec (.hbmTempRead k temp w) s = .next t ∧ (stackGet t k).temp = temp ∧
         (1360 < temp → (stackGet t k).refreshMult = 2) ∧ (temp ≤ 1328 → (stackGet t k).refreshMult = 1) ∧
         t.hbm.mem = s.hbm.mem ∧ t.mode = s.mode ∧ t.sessions = s.sessions) ∧
     (∀ gap, stackAwake (atTime s w) (p / 32) = true → (∀ n ∈ stackPcs (p / 32), (pcGet s n).retraining = none) →
       retrainDue (atTime s w) p gap = true → (pcGet s p).writeQ = [] →
       exec (.retrainStart p gap w) s =
         .next (pcSet (atTime s w) p { pcGet s p with retraining := some (max s.now w), openRows := [] })) ∧
     (∀ a, (pcGet s p).retraining = some a → a + 20000 ≤ max s.now w →
       ∃ t, exec (.retrainDone p true w) s = .next t ∧ (pcGet t p).retraining = none ∧ (pcGet t p).trained = true ∧
         (pcGet t p).trainTemp = (stackGet s (p / 32)).temp ∧ t.hbm.mem = s.hbm.mem ∧ t.mode = s.mode) ∧
     (∀ k, k < 2 → s.power.current = .banked → s.power.selfRefresh.contains k = false →
       tget 0 s.power.lastHbmReq k + 50000 ≤ max s.now w →
       ∃ t, exec (.hbmSelfRefreshTimer k w) s = .next t ∧ t.power.selfRefresh = s.power.selfRefresh ++ [k] ∧
         t.hbm.mem = s.hbm.mem ∧ t.mode = s.mode ∧ t.sessions = s.sessions))

/-! ### Firmware, sideband, telemetry (chapter 21) -/

/-- The update commands (R413 to R416, Table 21.2): opening, writing in order, verifying, activating, committing and aborting
move STATE as the table says, and UPDATE_STATUS reports it. AUTO_COMMIT and SET_PLATFORM_CONFIG (R416, R418): a minute after
READY the trial slot becomes the committed slot, and the platform record of the committed slot takes the new values without
being in force. Model's choices in it: log entries 12, 22, 69. -/
def Obligations.UpdateCommandsComplete : Prop :=
  (∀ (s : State) (r : CmdRef) (i : InFlight),
     (Starts s r 0x90 i → s.sec.unavailable.contains 8 = false → 65536 ≤ u32 i.entry 24 → u32 i.entry 24 ≤ 25161728 →
       s.sec.otp.lifecycle ≠ .decommissioned → s.foreman.owner = 0 → s.foreman.stage ≠ .trial →
       ∃ t, exec (.updateOpen r) s = .next t ∧ t.foreman.stage = .staging ∧ t.foreman.owner = 1 ∧ t.foreman.staged = [] ∧
         t.foreman.imageLen = u32 i.entry 24 ∧ (slotGet t (stagingSlot s)).valid = false ∧ t.foreman.committed = s.foreman.committed ∧
         t.mode = s.mode ∧ t.sec = s.sec ∧ t.hbm = s.hbm ∧ t.sessions = s.sessions) ∧
     (∀ d, Starts s r 0x91 i → s.sec.unavailable.contains 8 = false → s.foreman.owner = 1 → s.foreman.stage = .staging →
       1 ≤ cmdDataLen i.entry → cmdDataLen i.entry ≤ 262144 → s.foreman.staged.length + cmdDataLen i.entry ≤ s.foreman.imageLen →
       u32 i.entry 24 % 65536 = 0 → u32 i.entry 24 = s.foreman.staged.length →
       ∃ t, exec (.updateWrite r d) s = .next t ∧
         t.foreman.staged = s.foreman.staged ++ readData s r.fn i.entry d ∧ t.foreman.stage = .staging ∧ t.mode = s.mode ∧
         t.sec = s.sec ∧ t.hbm = s.hbm ∧ t.sessions = s.sessions) ∧
     (Starts s r 0x92 i → s.sec.unavailable.contains 8 = false → s.foreman.owner = 1 → s.foreman.stage = .staging →
       s.foreman.staged.length = s.foreman.imageLen →
       ∃ t, exec (.updateVerify r) s = .next t ∧
         t.foreman.stage = (if imageDefect s (Config.imageFacts s.foreman.staged) = none then .verified else .staging) ∧
         (imageDefect s (Config.imageFacts s.foreman.staged) = none →
           t.foreman.stagedFacts = Config.imageFacts s.foreman.staged) ∧ t.mode = s.mode ∧ t.sec = s.sec ∧ t.hbm = s.hbm) ∧
     (Starts s r 0x93 i → s.sec.unavailable.contains 8 = false → u8 i.entry 24 = 0 → s.foreman.owner = 1 →
       s.foreman.stage = .verified →
       ∃ t, exec (.updateActivate r) s = .next t ∧ t.foreman.stage = .activationPending ∧ t.foreman.trialLeft = 3 ∧
         (slotGet t (stagingSlot s)).valid = true ∧ (slotGet t (stagingSlot s)).image = s.foreman.staged ∧
         t.foreman.committed = s.foreman.committed ∧ t.mode = s.mode ∧ t.sec = s.sec ∧ t.hbm = s.hbm) ∧
     (Starts s r 0x93 i → s.sec.unavailable.contains 8 = false → u8 i.entry 24 = 1 → s.foreman.owner = 1 →
       s.foreman.stage = .verified → s.sessions = [] →
       ∃ t, exec (.updateActivate r) s = .next t ∧ t.foreman.stage = .activationPending ∧ t.mode = .secureBoot ∧ t.ready = false ∧
         t.sec.otp = s.sec.otp) ∧
     (Starts s r 0x94 i → u8 i.entry 24 = 0 → s.foreman.stage = .trial →
       ∃ t, exec (.updateCommit r) s = .next t ∧ t.foreman.committed = stagingSlot s ∧ t.foreman.stage = .idle ∧
         t.foreman.trialLeft = 0 ∧ t.foreman.owner = 0 ∧ t.sec = s.sec ∧ t.mode = s.mode ∧ t.hbm = s.hbm) ∧
     (Starts s r 0x94 i → u8 i.entry 24 = 1 → holds s r.fn true = true → s.foreman.stage = .trial → s.sec.vddFuse = true →
       ∃ t, exec (.updateCommit r) s = .next t ∧ t.foreman.committed = stagingSlot s ∧ t.foreman.stage = .idle ∧
         t.sec.otp = { s.sec.otp with minSvn := raiseSvn s.sec.otp.minSvn (slotGet s (stagingSlot s)).facts.svns } ∧
         t.sec.keys = s.sec.keys ∧ t.mode = s.mode ∧ t.hbm = s.hbm) ∧
     (Starts s r 0x95 i → (s.foreman.stage = .staging ∨ s.foreman.stage = .verified) →
       ∃ t, exec (.updateAbort r) s = .next t ∧ t.foreman.stage = .idle ∧ t.foreman.owner = 0 ∧ t.foreman.staged = [] ∧
         (slotGet t (stagingSlot s)).valid = false ∧ t.mode = s.mode ∧ t.sec = s.sec ∧ t.hbm = s.hbm) ∧
     (Starts s r 0x95 i → s.foreman.stage = .idle → exec (.updateAbort r) s = .next (succeed (markStarted s r) r 0)) ∧
     (Starts s r 0x95 i → (s.foreman.stage = .activationPending ∨ s.foreman.stage = .trial) →
       ∃ t, exec (.updateAbort r) s = .next t ∧ t.foreman.trialLeft = 0 ∧ t.foreman.committed = s.foreman.committed ∧
         (s.foreman.stage = .activationPending → t.foreman.stage = .idle ∧ t.foreman.owner = 0) ∧
         (s.foreman.stage = .trial → t.foreman.stage = .trial) ∧ t.mode = s.mode ∧ t.sec = s.sec ∧ t.hbm = s.hbm) ∧
     (Starts s r 0x96 i → 32 ≤ cmdDataLen i.entry → ∃ b : Bytes, b.length = 32 ∧ u8 b 0 = s.foreman.committed % 256 ∧
       u8 b 1 = stageCode s.foreman.stage ∧ u8 b 2 = s.foreman.trialLeft % 256 ∧ u8 b 3 = s.foreman.owner % 256 ∧
       exec (.updateStatus r) s = .next (succeed (writeData (markStarted s r) r.fn i.entry b) r 0))) ∧
  (∀ (s : State),
     (∀ w a, asleep s = false → s.foreman.platform.autoCommit = true → s.foreman.stage = .trial → s.sec.vddFuse = true →
       s.foreman.readySince = some a → a + 60000000000 ≤ max s.now w →
       ∃ t, exec (.autoCommit w) s = .next t ∧ t.foreman.committed = stagingSlot s ∧ t.foreman.stage = .idle ∧
         t.foreman.trialLeft = 0 ∧ t.mode = s.mode ∧ t.sessions = s.sessions ∧ t.hbm = s.hbm ∧ t.sec.keys = s.sec.keys) ∧
     (∀ r i d, Starts s r 0x97 i → holds s r.fn true = true → s.sec.unavailable.contains 0x10 = false → 64 ≤ cmdDataLen i.entry →
       (∀ p ∈ platformRules (readData s r.fn i.entry d), p.1 = true) →
       ∃ t, exec (.setPlatformConfig r d) s = .next t ∧
         (slotGet t s.foreman.committed).platform = readPlatform (readData s r.fn i.entry d) ∧
         t.foreman.platform = s.foreman.platform ∧ t.mode = s.mode ∧ t.sec = s.sec ∧ t.hbm = s.hbm))

/-- The sideband (R413, R419, R420): endpoint identity and discovery answer, an update over it owns staging, and its activation
is that of the mailbox. Model's choices in it: log entries 10, 55. -/
def Obligations.SidebandCompletes : Prop :=
  ∀ (s : State) (w : Nat), asleep s = false →
    (∀ eid, 8 ≤ eid → eid ≤ 254 → exec (.mctpSetEndpointId 0 eid) s =
      .next (emit { s with foreman := { s.foreman with eid := eid } } (.sideband [0, 0, eid, 0]))) ∧
    exec .mctpGetEndpointId s = .next (emit s (.sideband [0, s.foreman.eid, 0, 0])) ∧
    (∀ n, (n = 0 ∨ n = 1 ∨ n = 0xFF) → ∃ v, exec (.mctpGetVersionSupport n) s =
      .next (emit { s with freeCtr := s.freeCtr + 1 } (.sideband [0, 1, v]))) ∧
    exec .mctpGetMessageTypeSupport s = .next (emit s (.sideband [0, 1, 1])) ∧
    (s.foreman.owner = 0 → s.sec.otp.lifecycle ≠ .decommissioned → s.sec.unavailable.contains 8 = false →
      s.foreman.stage ≠ .trial →
      ∃ t, exec (.requestUpdate w) s = .next t ∧ t.foreman.owner = 2 ∧ t.foreman.stage = .staging ∧ t.foreman.staged = [] ∧
        t.out.head? = some (.sideband [0]) ∧ t.mode = s.mode ∧ t.sec = s.sec ∧ t.hbm = s.hbm) ∧
    (∀ img, s.foreman.owner = 2 → s.foreman.stage = .staging →
      ∃ t, exec (.transferComplete img w) s = .next t ∧ t.foreman.staged = img ∧
        t.foreman.stage = (if imageDefect s (Config.imageFacts img) = none then .verified else .staging) ∧
        t.out.head? = some (.sideband (match imageDefect s (Config.imageFacts img) with
          | none => [0]
          | some a => [1, a.status, a.detail])) ∧
        (imageDefect s (Config.imageFacts img) = none → t.foreman.stagedFacts = Config.imageFacts img) ∧ t.mode = s.mode ∧
        t.sec = s.sec ∧ t.hbm = s.hbm) ∧
    (s.foreman.owner = 2 → s.foreman.stage = .verified →
      ∃ t, exec (.activateFirmware false w) s = .next t ∧ t.foreman.stage = .activationPending ∧ t.foreman.trialLeft = 3 ∧
        (slotGet t (stagingSlot s)).image = s.foreman.staged ∧ t.out.head? = some (.sideband [0]) ∧ t.mode = s.mode ∧ t.sec = s.sec ∧
        t.hbm = s.hbm)

/-- Heartbeat, telemetry, logs and aging (R411, R421 to R424, R426, R427). Model's choices in it: log entries 10, 68. -/
def Obligations.TelemetryAndLogsComplete : Prop :=
  ∀ (s : State) (w : Nat),
    (asleep s = false → s.ready = true → s.foreman.bootRom = false → s.canary.gatedAt = none →
      s.foreman.lastService + 1000000 ≤ max s.now w →
      exec (.fwHeartbeat w) s = .next { atTime s w with foreman := { s.foreman with
        heartbeat := s.foreman.heartbeat + 1, lastService := max s.now w } }) ∧
    (∀ v, asleep s = false → s.ready = true → s.foreman.bootRom = false →
      (∀ p, s.foreman.samplePtp = some p → p / 10000000 < ptpTime (atTime s w) / 10000000) →
      ∃ t, exec (.telemetrySweep v w) s = .next t ∧ t.foreman.samplePtp = some (ptpTime (atTime s w)) ∧ t.mode = s.mode ∧
        t.sessions = s.sessions ∧ t.hbm = s.hbm ∧ t.net = s.net ∧ t.sec = s.sec) ∧
    (∀ n, asleep s = false → isSensor n = true → s.foreman.trimUntil = none → tfind s.foreman.lastTrim n = none →
      exec (.sensorTrim n w) s = .next { atTime s w with foreman := { s.foreman with
        trimUntil := some (n, max s.now w + 2000000), lastTrim := tset s.foreman.lastTrim n (max s.now w) } }) ∧
    (∀ r i, Starts s r 0x09 i → cmdDataLen i.entry = 0 → u32 i.entry 24 < 65536 → r.fn = 0 →
      exec (.getTelemetry r) s = .next (succeed (markStarted s r) r (itemsSize s 0 (u32 i.entry 24)))) ∧
    (∀ r i p, Starts s r 0x09 i → s.foreman.samplePtp = some p → cmdDataLen i.entry ≠ 0 → u32 i.entry 24 < 65536 →
      itemsSize s r.fn (u32 i.entry 24) ≤ cmdDataLen i.entry → (r.fn = 0 ∨ u32 i.entry 24 &&& 0xFFF5 = 0) →
      exec (.getTelemetry r) s = .next (succeed (writeData (markStarted s r) r.fn i.entry
        ((itemsOf (u32 i.entry 24)).flatMap (itemBytes s r.fn))) r (itemsSize s r.fn (u32 i.entry 24)))) ∧
    (∀ r i, Starts s r 0x08 i → u8 i.entry 24 ≤ 1 → ∃ l : List EventRec,
      l = (logFrom s r.fn (u8 i.entry 24) (u64 i.entry 28)).take (cmdDataLen i.entry / 32) ∧
      exec (.getLog r) s = .next (succeed (writeData (markStarted s r) r.fn i.entry (l.flatMap recordBytes)) r l.length)) ∧
    (asleep s = false → s.foreman.flashPending ≠ [] → s.foreman.flashUsed + s.foreman.flashPending.length ≤ 2046 →
      ∃ t, exec (.flashLogWrite true w) s = .next t ∧ t.foreman.flashPending = [] ∧
        t.foreman.flashLog = s.foreman.flashLog ++ s.foreman.flashPending ∧
        t.foreman.flashUsed = s.foreman.flashUsed + s.foreman.flashPending.length ∧ t.mode = s.mode ∧ t.hbm = s.hbm) ∧
    (∀ l, asleep s = false → ∃ t, exec (.agingWrite l w) s = .next t ∧ t.foreman.agingFlash = t.foreman.agingHours ∧
      (∀ c, c < 28 → tget 0 t.foreman.agingHours c = tget 0 s.foreman.agingHours c + (if l.getD c 0 = 0 then 0 else 1)) ∧
      t.mode = s.mode ∧ t.hbm = s.hbm ∧ t.sessions = s.sessions) ∧
    (asleep s = false → s.foreman.platform.rotation = true →
      ∃ t, exec (.rotationCheck w) s = .next t ∧ t.now = max s.now w ∧ t.mode = s.mode ∧ t.sessions = s.sessions ∧ t.hbm = s.hbm ∧
        t.cores = s.cores ∧
        (∀ k sp x, k < 4 → (clGet s k).spare = some sp → mostAged s k = some x → tfind s.foreman.lastRotation k = none →
          tfind s.foreman.rotating k = none → coreUsable s sp = true → coreIdle s x = true →
          tget 0 s.foreman.agingHours sp + s.foreman.platform.rotateHours < tget 0 s.foreman.agingHours x →
          (clGet t k).spare = some x))

/-! ### Security island (chapter 22) -/

/-- Status, roles and nonces (R432 to R434). Model's choices in it: log entries 11, 54, 70. -/
def Obligations.RolesComplete : Prop :=
  ∀ (s : State),
    (∀ r i, Starts s r 0x80 i → 16 ≤ cmdDataLen i.entry → ∃ b : Bytes, b.length = 16 ∧
      u8 b 0 = lifecycleCode s.sec.otp.lifecycle ∧ u8 b 1 = authCode (fnGet s r.fn).auth.role ∧
      exec (.secQuery r) s = .next (approve (writeData (markStarted s r) r.fn i.entry b) r 0)) ∧
    (∀ r i, Starts s r 0x81 i → s.sec.unavailable.contains 2 = false → 48 ≤ cmdDataLen i.entry → ∃ t,
      exec (.secAuthChallenge r) s = .next t ∧
      (fnGet t r.fn).auth = { (fnGet s r.fn).auth with nonce := some (Config.randomBytes s.sec.drbgCount 48, s.now) } ∧
      t.sec.drbgCount = s.sec.drbgCount + 1 ∧ t.mode = s.mode ∧ t.sessions = s.sessions) ∧
    (∀ r i d, Starts s r 0x82 i → s.sec.unavailable.contains 2 = false → u8 i.entry 24 = 2 → 193 ≤ cmdDataLen i.entry →
      lockedOut s (fnGet s r.fn).auth = false → ∃ t,
      exec (.secAuthResponse r d) s = .next t ∧ (fnGet t r.fn).auth.nonce = none ∧
      (fnGet t r.fn).auth.role = (if responseGood s r.fn i.entry (readData s r.fn i.entry d) then .cryptoOfficer
        else (fnGet s r.fn).auth.role) ∧
      (responseGood s r.fn i.entry (readData s r.fn i.entry d) = true → (fnGet t r.fn).auth.failures = 0) ∧ t.sec = s.sec ∧ t.mode = s.mode ∧ t.sessions = s.sessions ∧ t.hbm = s.hbm) ∧
    (∀ r i d, Starts s r 0x82 i → s.sec.unavailable.contains 2 = false → u8 i.entry 24 = 1 → 48 ≤ cmdDataLen i.entry →
      lockedOut s (fnGet s r.fn).auth = false → ∃ t,
      exec (.secAuthResponse r d) s = .next t ∧ (fnGet t r.fn).auth.nonce = none ∧
      (fnGet t r.fn).auth.role = (if responseGood s r.fn i.entry (readData s r.fn i.entry d) then .user
        else (fnGet s r.fn).auth.role) ∧ t.sec = s.sec ∧ t.mode = s.mode ∧ t.sessions = s.sessions ∧ t.hbm = s.hbm) ∧
    (∀ r i, Starts s r 0x83 i →
      exec (.secLogout r) s = .next (approve (authSet (markStarted s r) r.fn
        { (fnGet s r.fn).auth with role := .none, keyId := 0 }) r 0)) ∧
    (∀ fn w n, dead s = false → fn < 64 → (fnGet s fn).auth.nonce = some n → n.2 + 30000000000 ≤ max s.now w →
      exec (.nonceExpiry fn w) s = .next (authSet (atTime s w) fn { (fnGet s fn).auth with nonce := none })) ∧
    (∀ fn w b, dead s = false → fn < 64 → (fnGet s fn).auth.lockout = some b → b + 60000000000 ≤ max s.now w →
      exec (.authLockoutEnd fn w) s = .next (authSet (atTime s w) fn { (fnGet s fn).auth with lockout := none, failures := 0 })) ∧
    (∀ fn w, dead s = false → fn < 64 → (fnGet s fn).auth.role ≠ .none → (fnGet s fn).auth.since + 3600000000000 ≤ max s.now w →
      exec (.roleExpiry fn w) s = .next (authSet (atTime s w) fn { (fnGet s fn).auth with role := .none, keyId := 0 }))

/-- Keys (R439 to R441, R450, R451): a new pair replaces the old one, an import uses it up, a delete removes an unused entry, a
query reports, and zeroisation leaves no key, no pair and no role. Model's choices in it: log entries 11, 70. -/
def Obligations.KeyCommandsComplete : Prop :=
  ∀ (s : State),
    (∀ r i, Starts s r 0x84 i → holds s r.fn true = true → s.sec.unavailable.contains 5 = false → 1664 ≤ cmdDataLen i.entry → ∃ t,
      exec (.secKemKeygen r) s = .next t ∧ t.sec.kem = some (s.sec.kemCount, s.now) ∧ t.sec.kemCount = s.sec.kemCount + 1 ∧
      t.sec.keys = s.sec.keys ∧ t.sec.otp = s.sec.otp ∧ t.mode = s.mode ∧ t.sessions = s.sessions) ∧
    (∀ r i d, Starts s r 0x85 i → holds s r.fn true = true → s.sec.unavailable.contains 6 = false →
      importRules i.entry (readData s r.fn i.entry d) = none → mayStore s (readData s r.fn i.entry d) = true →
      ∃ t, exec (.secKeyImport r d) s = .next t ∧ t.sec.kem = none ∧
      t.sec.keys = (match unwrapKey s (readData s r.fn i.entry d) with
        | none => s.sec.keys
        | some key => tset s.sec.keys (u16 (readData s r.fn i.entry d) 0x620)
          ⟨u8 (readData s r.fn i.entry d) 0x622, key.take (keyLength (u8 (readData s r.fn i.entry d) 0x622)),
            BitVec.ofNat 64 (u64 (readData s r.fn i.entry d) 0x624)⟩) ∧ t.sec.otp = s.sec.otp ∧ t.mode = s.mode ∧ t.hbm = s.hbm) ∧
    (∀ r i d, Starts s r 0x85 i → holds s r.fn true = true → s.sec.unavailable.contains 6 = false →
      importRules i.entry (readData s r.fn i.entry d) = none → unwrapKey s (readData s r.fn i.entry d) = none →
      exec (.secKeyImport r d) s = .next (finish { markStarted s r with sec := { s.sec with kem := none } } r
        (failDetail stSecurityState 3))) ∧
    (∀ r i k, Starts s r 0x86 i → holds s r.fn true = true → s.sec.unavailable.contains 7 = false → 1 ≤ u16 i.entry 24 →
      u16 i.entry 24 ≤ 1023 → keyInUse s (u16 i.entry 24) = false → tfind s.sec.keys (u16 i.entry 24) = some k → k.typ ≠ 4 →
      exec (.secKeyDelete r) s =
        .next (approve { markStarted s r with sec := { s.sec with keys := tdel s.sec.keys (u16 i.entry 24) } } r 1)) ∧
    (∀ r i k, Starts s r 0x86 i → holds s r.fn true = true → s.sec.unavailable.contains 7 = false → 1 ≤ u16 i.entry 24 →
      u16 i.entry 24 ≤ 1023 → keyInUse s (u16 i.entry 24) = false → tfind s.sec.keys (u16 i.entry 24) = some k → k.typ = 4 → ∃ t,
      exec (.secKeyDelete r) s = .next t ∧ t.sec = { s.sec with keys := tdel s.sec.keys (u16 i.entry 24) } ∧
      (∀ fn, (fnGet s fn).auth.role = .user → (fnGet s fn).auth.keyId = u16 i.entry 24 → (fnGet t fn).auth.role = .none) ∧
      t.mode = s.mode ∧ t.sessions = s.sessions ∧ t.hbm = s.hbm) ∧
    (∀ r i k, Starts s r 0x87 i → holds s r.fn false = true → s.sec.unavailable.contains 7 = false → 16 ≤ cmdDataLen i.entry →
      1 ≤ u16 i.entry 24 → u16 i.entry 24 ≤ 1023 → tfind s.sec.keys (u16 i.entry 24) = some k →
      exec (.secKeyQuery r) s = .next (approve (writeData (markStarted s r) r.fn i.entry (le 1 k.typ
        ++ le 1 (if keyInUse s (u16 i.entry 24) then 1 else 0) ++ zeros 6 ++ le 8 k.functions.toNat)) r 0)) ∧
    (∀ r i, Starts s r 0x87 i → holds s r.fn false = true → s.sec.unavailable.contains 7 = false → 16 ≤ cmdDataLen i.entry →
      1 ≤ u16 i.entry 24 → u16 i.entry 24 ≤ 1023 → tfind s.sec.keys (u16 i.entry 24) = none →
      exec (.secKeyQuery r) s = .next (approve (writeData (markStarted s r) r.fn i.entry (zeros 16)) r 0)) ∧
    (∀ w k, dead s = false → s.sec.kem = some k → k.2 + 600000000000 ≤ max s.now w →
      exec (.decapKeyExpiry w) s = .next { atTime s w with sec := { s.sec with kem := none } }) ∧
    (∀ r i, Starts s r 0x88 i → holds s r.fn true = true → s.sec.unavailable.contains 4 = false → ∃ t,
      exec (.secZeroize r) s = .next t ∧ t.sec.keys = [] ∧ t.sec.kem = none ∧ t.sec.otp = s.sec.otp ∧
      (∀ fn, (fnGet t fn).auth = AuthState.empty) ∧ t.mode = s.mode ∧ t.hbm = s.hbm)

/-- Self-tests, the entropy source, VDD_FUSE (R430, R431, R445 to R449). Model's choices in it: log entries 10, 11. -/
def Obligations.IslandTestsComplete : Prop :=
  ∀ (s : State) (w : Nat),
    (∀ r i, Starts s r 0x89 i → holds s r.fn true = true → s.sec.unavailable.contains 3 = false → ∃ t,
      exec (.secSelfTest r 0) s = .next t ∧ t.sec.secError = false ∧ t.sec.errorAlgs = 0 ∧ t.sec.keys = s.sec.keys ∧
      t.mode = s.mode ∧ t.sessions = s.sessions ∧ t.hbm = s.hbm) ∧
    (∀ r i m, Starts s r 0x89 i → holds s r.fn true = true → s.sec.unavailable.contains 3 = false → algMask m ≠ 0 → ∃ t,
      exec (.secSelfTest r m) s = .next t ∧ t.sec.secError = true ∧ t.sec.errorAlgs = algMask m ∧ t.sec.keys = s.sec.keys ∧
      t.degraded = true ∧ t.mode = s.mode) ∧
    (dead s = false → s.sec.lastPeriodic + 86400000000000 ≤ max s.now w →
      exec (.selfTestPeriodic 0 true w) s = .next { atTime s w with sec := { s.sec with lastPeriodic := max s.now w } } ∧
      (∃ t, exec (.selfTestPeriodic 0 false w) s = .next t ∧ sealedDown t = true ∧ t.canary.status.getLsbD 42 = true)) ∧
    (dead s = false → ∃ t, exec (.entropyHealthFail w) s = .next t ∧ t.sec.secError = true ∧
      t.sec.errorAlgs = s.sec.errorAlgs ||| 0x0600 ∧ t.degraded = true ∧ t.canary.status.getLsbD 42 = true ∧ t.mode = s.mode) ∧
    (dead s = false → s.sec.errorAlgs.getLsbD 10 = false → 2 ^ 20 ≤ s.sec.drbgRequests →
      exec (.drbgReseed w) s = .next { atTime s w with sec := { s.sec with drbgRequests := 0, drbgSeededAt := max s.now w } }) ∧
    (∀ b, dead s = false → ∃ t, exec (.vddFuseChange b w) s = .next t ∧ t.sec.vddFuse = b ∧
      (b = true → s.sec.errorAlgs = 0 → t.sec.unavailable.contains 9 = false) ∧ (b = false → t.sec.unavailable.contains 9 = true) ∧
      t.sec.keys = s.sec.keys ∧ t.mode = s.mode ∧ t.hbm = s.hbm)

/-- Attestation, random bytes, digests and the lifecycle (R430, R435 to R438): each service completes with its data, and a
lifecycle transition writes OTP, leaves no key and ends in a soft reset. Model's choices in it: log entry 11. -/
def Obligations.IslandServicesComplete : Prop :=
  ∀ (s : State) (r : CmdRef) (i : InFlight) (d : Bytes),
    (Starts s r 0x8A i → holds s r.fn false = true → s.sec.unavailable.contains 0xA = false → 256 ≤ cmdDataLen i.entry →
      exec (.secAttest r d) s = .next (approve (writeData (generate (markStarted s r)) r.fn i.entry
        (attestBody s (readData s r.fn i.entry d)
          ++ (padTo 96 (Config.ecdsaSign (attestBody s (readData s r.fn i.entry d)))).take 96)) r 0)) ∧
    (Starts s r 0x8B i → holds s r.fn false = true → s.sec.unavailable.contains 0xB = false → 1 ≤ u32 i.entry 24 →
      u32 i.entry 24 ≤ 4096 → u32 i.entry 24 ≤ cmdDataLen i.entry →
      ∃ t, exec (.secRandom r) s = .next t ∧ t.sec = { s.sec with
        drbgRequests := s.sec.drbgRequests + 1, drbgCount := s.sec.drbgCount + 1 } ∧ t.mode = s.mode ∧ t.sessions = s.sessions) ∧
    (Starts s r 0x8C i → holds s r.fn false = true → s.sec.unavailable.contains 0xC = false → u8 i.entry 24 = 2 →
      exec (.secDigest r d) s = .next (approve (hostWrite (markStarted s r) r.fn (cmdInHbm i.entry)
        (cmdDataPtr i.entry + cmdDataLen i.entry) ((padTo 48 (Config.sha384 (readData s r.fn i.entry d))).take 48)) r 0)) ∧
    (Starts s r 0x8C i → holds s r.fn false = true → s.sec.unavailable.contains 0xC = false → u8 i.entry 24 = 3 →
      exec (.secDigest r d) s = .next (approve (hostWrite (markStarted s r) r.fn (cmdInHbm i.entry)
        (cmdDataPtr i.entry + cmdDataLen i.entry) ((padTo 64 (Config.sha512 (readData s r.fn i.entry d))).take 64)) r 0)) ∧
    (Starts s r 0x8D i → lifecycleCheck r (markStarted s r) i.entry = none →
      ∃ t, exec (.secLifecycle r d) s = .next t ∧ lifecycleCode t.sec.otp.lifecycle = u8 i.entry 24 ∧
        lifecycleCode s.sec.otp.lifecycle < u8 i.entry 24 ∧ t.sec.keys = [] ∧ t.sec.kem = none ∧ t.mode = .secureBoot ∧
        t.ready = false ∧ t.sessions = [])

/-- The lifecycle state held in OTP never goes back, whatever the command; SEC_LIFECYCLE alone changes it, to the next state of
Table 22.3 or to Decommissioned (R435). -/
def Obligations.LifecycleMovesForward : Prop :=
  ∀ (s t : State) (c : Instr), exec c s = .next t →
    lifecycleCode s.sec.otp.lifecycle ≤ lifecycleCode t.sec.otp.lifecycle ∧
    (t.sec.otp.lifecycle ≠ s.sec.otp.lifecycle → (∃ r data, c = .secLifecycle r data) ∧
      (lifecycleCode t.sec.otp.lifecycle = lifecycleCode s.sec.otp.lifecycle + 1 ∨ t.sec.otp.lifecycle = .decommissioned))

/-! ### Sessions (chapter 12) and packets (chapter 5) -/

/-- START, RECONFIGURE, STOP, DESTROY, QUERY, SET_SESSION_RINGS and FORCE_REFRESH by the state of the session that TARGET names
(R38, R238, R252 to R255): the new state, and every other session as before. CREATE_SESSION that nothing refuses takes a free
slot: the new session is in CREATED with its function, its configuration and its rings, every other session is as before, and
the epoch counter advances (R214, R230, R238, R252). Model's choices in it: log entries 17, 18, 33, 34, 56. -/
def Obligations.SessionStatesComplete : Prop :=
  (∀ (s : State) (r : CmdRef) (i : InFlight) (x : Session), targetOf s r.fn i.entry = some x →
     (Starts s r 0x21 i → x.state = .created ∨ x.state = .stopped → securityStops (markStarted s r) x = false →
       ∃ t y, exec (.startSession r) s = .next t ∧ sessById t x.id = some y ∧ y.state = .running ∧ y.enc.refreshDue = true ∧
         y.enc.codeBase = x.enc.nextFrame ∧ y.cfg = x.cfg ∧ (∀ k, k ≠ x.id % 256 → tfind t.sessions k = tfind s.sessions k)) ∧
     (Starts s r 0x21 i → x.state = .running ∨ x.state = .resync → securityStops (markStarted s r) x = false →
       exec (.startSession r) s = .next (succeed (markStarted s r) r 0)) ∧
     (∀ d, Starts s r 0x22 i → chkReconfigure r d (markStarted s r) x i.entry = none →
       ∃ t y, exec (.reconfigureSession r d) s = .next t ∧ sessById t x.id = some y ∧ y.state = x.state ∧ y.cfg = x.cfg ∧
         y.pendingCfg = otherChanges x (u64 i.entry 24) ++ [(u64 i.entry 24, readData s r.fn i.entry d)] ∧
         t.epochCtr = s.epochCtr + 1 ∧ (∀ k, k ≠ x.id % 256 → tfind t.sessions k = tfind s.sessions k)) ∧
     (Starts s r 0x23 i → u8 i.entry 24 ≤ 1 → x.state = .created →
       exec (.stopSession r) s = .next (succeed (markStarted s r) r 0xFFFFFFFF)) ∧
     (Starts s r 0x23 i → u8 i.entry 24 ≤ 1 → x.state = .stopped →
       exec (.stopSession r) s = .next (succeed (markStarted s r) r (lastFrameOut x))) ∧
     (Starts s r 0x23 i → u8 i.entry 24 ≤ 1 → x.state = .resync ∨ (x.state = .running ∧ (u8 i.entry 24 = 1 ∨ drained x = true)) →
       ∃ t y, exec (.stopSession r) s = .next t ∧ sessById t x.id = some y ∧ y.state = .stopped ∧ y.pendingCfg = [] ∧ y.stopCids = [] ∧
         t.epochCtr = s.epochCtr + 1 ∧ (∀ k, k ≠ x.id % 256 → tfind t.sessions k = tfind s.sessions k)) ∧
     (Starts s r 0x23 i → u8 i.entry 24 = 0 → x.state = .running → drained x = false →
       ∃ t y, exec (.stopSession r) s = .next t ∧ sessById t x.id = some y ∧ y.state = .stopping ∧
         y.stopCids = x.stopCids ++ [(r.qid, r.cid)] ∧ y.enc.frames = x.enc.frames ∧ y.dec.pics = x.dec.pics ∧
         t.epochCtr = s.epochCtr + 1 ∧ (∀ k, k ≠ x.id % 256 → tfind t.sessions k = tfind s.sessions k)) ∧
     (Starts s r 0x23 i → u8 i.entry 24 = 0 → x.state = .stopping →
       exec (.stopSession r) s = .next (sessPut (markStarted s r) { x with stopCids := x.stopCids ++ [(r.qid, r.cid)] })) ∧
     (Starts s r 0x24 i → x.state = .created ∨ x.state = .stopped →
       ∃ t, exec (.destroySession r) s = .next t ∧ t.sessions = tdel s.sessions (x.id % 256) ∧ t.epochCtr = s.epochCtr + 1 ∧
         t.mode = s.mode) ∧
     (Starts s r 0x25 i → x.cfg.length ≤ cmdDataLen i.entry →
       exec (.querySession r) s = .next (succeed (writeData (markStarted s r) r.fn i.entry x.cfg) r (sessCode x.state))) ∧
     (Starts s r 0x26 i → fieldCheck (ringRules r.fn x.decode i.entry ++ [mapRule s r.fn x.decode x.cfg i.entry]) = none →
       exec (.setSessionRings r) s = .next (succeed (sessPut (markStarted s r) { x with
         report := ⟨u64 i.entry 28, u16 i.entry 26, u16 i.entry 36, 0⟩,
         motion := ⟨u64 i.entry 40, u16 i.entry 38, u16 i.entry 48, 0⟩, mapBase := u64 i.entry 56 }) r 0)) ∧
     (Starts s r 0x27 i → x.decode = false → isDispatched x (forcedFrame x.cfg (u64 i.entry 24)) = false →
       exec (.forceRefresh r) s = .next (succeed (sessPut (markStarted s r) { x with
         enc := { x.enc with forced := forcedFrame x.cfg (u64 i.entry 24) :: x.enc.forced } }) r
         (forcedFrame x.cfg (u64 i.entry 24) % 2 ^ 32)))) ∧
  (∀ (s : State) (r : CmdRef) (i : InFlight) (d : Bytes), Starts s r 0x20 i → chkCreate r d (markStarted s r) i.entry = none →
     ∃ t slot x, exec (.createSession r d) s = .next t ∧ slot < 256 ∧ tfind s.sessions slot = none ∧ tfind t.sessions slot = some x ∧
       x.id % 256 = slot ∧ x.fn = r.fn ∧ x.decode = (u8 i.entry 24 == 1) ∧ x.state = .created ∧ x.cfg = readData s r.fn i.entry d ∧
       x.report = ⟨u64 i.entry 28, u16 i.entry 26, u16 i.entry 36, 0⟩ ∧ x.motion = ⟨u64 i.entry 40, u16 i.entry 38, u16 i.entry 48, 0⟩ ∧
       x.mapBase = u64 i.entry 56 ∧ (∀ k, k ≠ slot → tfind t.sessions k = tfind s.sessions k) ∧
       t.epochCtr = s.epochCtr + 1 ∧ t.mode = s.mode ∧ t.hbm.mem = s.hbm.mem)

/-- SUBMIT_PICTURE, SUBMIT_BITSTREAM, RETURN_BUFFER and FLUSH (R131, R257 to R260): a picture takes the next frame number and is
not completed yet, bytes join the stream, a buffer joins the queue and takes what waits, the end of a sequence is noted. Model's
choices in it: log entries 18, 71. -/
def Obligations.PictureBuffersComplete : Prop :=
  ∀ (s : State) (r : CmdRef) (i : InFlight) (x : Session), targetOf s r.fn i.entry = some x →
    (Starts s r 0x40 i → chkSubmit s x i.entry = none →
      ∃ t y p, exec (.submitPicture r) s = .next t ∧ sessById t x.id = some y ∧ y.enc.nextSubmit = x.enc.nextSubmit + 1 ∧
        y.enc.submitted.length = x.enc.submitted.length + 1 ∧ y.enc.submitted.getLast? = some p ∧ p.frame = u64 i.entry 24 ∧
        p.cid = r.cid ∧ p.qid = r.qid ∧ p.complete = false ∧ t.qps = (markStarted s r).qps ∧ t.out = s.out) ∧
    (∀ d, Starts s r 0x41 i → x.decode = true → u8 x.cfg 0x14 = 0 → x.state = .running ∨ x.state = .resync →
      securityStops (markStarted s r) x = false →
      ∃ t y, exec (.submitBitstream r d) s = .next t ∧ sessById t x.id = some y ∧
        y.dec.stream = x.dec.stream + cmdDataLen i.entry ∧ y.dec.pendingIn = x.dec.pendingIn ++ [(r.qid, r.cid, cmdDataLen i.entry)] ∧
        y.dec.endOfStream = (x.dec.endOfStream || bitOf (u8 i.entry 24) 0) ∧ t.qps = (markStarted s r).qps ∧ t.out = s.out) ∧
    (Starts s r 0x42 i → x.decode = true → u8 x.cfg 0x15 ≠ 1 → bufferMin x ≤ cmdDataLen i.entry →
      exec (.returnBuffer r) s = .next (sessPut (markStarted s r) { x with dec := { x.dec with buffers := x.dec.buffers ++
        [⟨r.cid, r.qid, cmdDataPtr i.entry, cmdInHbm i.entry, cmdDataLen i.entry, []⟩] } })) ∧
    (Starts s r 0x42 i → x.decode = false → cSink x.cfg = 0 → bufferMin x ≤ cmdDataLen i.entry → x.enc.backlog = [] →
      x.state ≠ .stopping → ∃ t y, exec (.returnBuffer r) s = .next t ∧ sessById t x.id = some y ∧ y.blocked = false ∧
        y.enc.buffers = x.enc.buffers ++ [⟨r.cid, r.qid, cmdDataPtr i.entry, cmdInHbm i.entry, cmdDataLen i.entry, []⟩] ∧
        t.hbm = s.hbm) ∧
    (∀ item, Starts s r 0x42 i → x.decode = false → cSink x.cfg = 0 → u8 x.cfg 0x184 ≠ 2 → bufferMin x ≤ cmdDataLen i.entry →
      x.enc.backlog = [item] → item ≠ [] → item.length < cmdDataLen i.entry → x.enc.buffers = [] → x.state ≠ .stopping →
      ∃ t y, exec (.returnBuffer r) s = .next t ∧ sessById t x.id = some y ∧ y.enc.backlog = [] ∧
        y.enc.buffers = [⟨r.cid, r.qid, cmdDataPtr i.entry, cmdInHbm i.entry, cmdDataLen i.entry, item⟩]) ∧
    (Starts s r 0x43 i → u8 i.entry 24 ≤ 1 → x.state = .created ∨ x.state = .stopped →
      exec (.flush r) s = .next (succeed (markStarted s r) r 0)) ∧
    (Starts s r 0x43 i → u8 i.entry 24 = 0 → x.state = .running ∨ x.state = .resync →
      exec (.flush r) s = .next (settleOutput (sessPut (markStarted s r) x) x.id)) ∧
    (Starts s r 0x43 i → u8 i.entry 24 = 1 → x.state = .running ∨ x.state = .resync → x.decode = false →
      ∃ t y, exec (.flush r) s = .next t ∧ sessById t x.id = some y ∧ y.state = x.state ∧
        y.enc.seqEnds = x.enc.seqEnds ++ [x.enc.nextSubmit])

/-- PACKET_RELEASE releases the next group of rows of the first picture once it is ready, BAND_RELEASE_TIME opens a band whose
hold is over, TS_PSI_TIMER sends PAT and PMT every 100 ms of stream time (R48, R110, R122, R199). Model's choices in it: log
entries 16, 42. -/
def Obligations.PacketsAreReleased : Prop :=
  ∀ (s : State) (id w : Nat) (x : Session), asleep s = false → sessById s id = some x →
    (∀ f g rest, x.decode = false → securityStops (atTime s w) x = false → s.canary.gatedAt = none → isDist x = false →
      collates x = true → x.enc.frames.head? = some f → (releaseGroups f.cfg).filter (fun g => !groupOut x f g) = g :: rest →
      groupReady (atTime s w) x f g = true → (rest ≠ [] ∨ f.reported = true) →
      exec (.packetRelease id w) s = .next (settleOutput (checkSink (releaseGroup (atTime s w) x f g
        (!((releaseGroups f.cfg).any (groupOut x f))) rest.isEmpty) id) id)) ∧
    (∀ f g rest, x.decode = false → securityStops (atTime s w) x = false → s.canary.gatedAt = none → isDist x = false →
      collates x = true → x.enc.frames.head? = some f → (releaseGroups f.cfg).filter (fun g => !groupOut x f g) = g :: rest →
      groupReady (atTime s w) x f g = false →
      exec (.packetRelease id w) s = .next (settleOutput (checkSink (atTime s w) id) id)) ∧
    (∀ frame band f, frameOf x frame = some f → f.holds.any (fun h => h.1 = band && decide (h.2 ≤ max s.now w)) = true →
      f.opened.contains band = false →
      exec (.bandReleaseTime id frame band w) s = .next (sessPut (atTime s w) (framePut x { f with opened := band :: f.opened }))) ∧
    (x.decode = false → s.canary.gatedAt = none → cSink x.cfg = 2 → (∀ v, x.enc.patAt = some v → v + 100 ≤ streamMs x) →
      ∃ t y, exec (.tsPsiTimer id w) s = .next t ∧ sessById t id = some y ∧ y.enc.patAt = some (streamMs x) ∧
        y.enc.pack.psiDue = false ∧ y.state = x.state ∧ t.mode = s.mode)

/-! ### The codec array, the Fidelity Meter and the PPUs (chapters 2 to 4, 7) -/

/-- BAND_DISPATCH, BAND_START, SURVEY_ROW_START and INPUT_GAP_TIMEOUT (R12, R13, R27, R28, R54, R77, R256): a band's units of
work go to the queues of their clusters, a core takes the first command that names it, the cells of a row are kept, a missing
live picture is skipped or repeated. Model's choices in it: log entries 31, 35, 41. -/
def Obligations.EncodeWorkStarts : Prop :=
  ∀ (s : State) (id w : Nat) (x : Session), asleep s = false → sessById s id = some x →
    (∀ place target shares f g us, x.decode = false → openFrame x = some f → us = bandUnits x f f.dispatched place →
      us.length = place.length → place.all (placeable (atTime s w) x f.cfg) = true →
      us.length = ((pictureUnits f.cfg).filter (fun u => u.band = f.dispatched && codesUnit x f.cfg u)).length →
      g = { f with units := f.units ++ us, dispatched := f.dispatched + 1 } →
      exec (.bandDispatch id place target shares w) s =
        .next (limitReached (queueUnits (sessPut (atTime s w) (framePut x g)) x g f.units.length us) x.id g)) ∧
    (∀ place target shares y n c wts p, x.decode = false → openFrame x = none → y = newSequence x → n = nextCode y →
      c = cfgAt y (frameAt y n) → sourceOf y (frameAt y n) = some p →
      wts = (if hasHistory y c then shares else evenShares c) → mayBegin y = true → securityStops (atTime s w) y = false →
      ledgerReady y c = true → wts.length = (pictureUnits c).length → wts.foldl (· + ·) 0 ≤ 65536 →
      place.all (placeable (atTime s w) y c) = true →
      place.length = ((pictureUnits c).filter (fun u => u.band = 0 && codesUnit y c u)).length →
      ∃ t z f, exec (.bandDispatch id place target shares w) s = .next t ∧ sessById t id = some z ∧
        z.enc.frames.length = x.enc.frames.length + 1 ∧ z.enc.frames.getLast? = some f ∧ f.number = frameAt y n ∧ f.cfg = c ∧
        f.target = target ∧ f.shares = wts ∧ f.dispatched = 1 ∧ f.units.length = place.length ∧
        z.enc.codeTotal = x.enc.codeTotal + 1 ∧ t.mode = s.mode) ∧
    (∀ core b f u, core < 28 → headCommand s core = some b → b.session = id → frameOf x b.frame = some f →
      f.units[b.unit]? = some u → startable (atTime s w) core x f u = true →
      ∃ t y g v, exec (.bandStart core w) s = .next t ∧ (coreGet t core).work = some ⟨b.session, b.frame, b.unit⟩ ∧
        (coreGet t core).pipe = [none, none, none, none, none, none, none] ∧ (∀ k, k ≠ core → coreGet t k = coreGet s k) ∧
        (clGet t (core / 7)).queue = (clGet s (core / 7)).queue.erase b ∧ sessById t id = some y ∧ frameOf y f.number = some g ∧
        g.units[b.unit]? = some v ∧ v.started = true ∧ v.startAt = max s.now w) ∧
    (∀ k frame row f cells, k < 4 → frameOf x frame = some f → surveyable s k row x f cells = true →
      exec (.surveyRowStart k id frame row cells) s = .next (sessPut s (framePut x { f with
        cells := cells.foldl (fun t k => tset t k.cell (keepCell f.cfg k)) f.cells,
        copyError := f.copyError || cells.any (·.copyErr) }))) ∧
    (∀ last, x.enc.arrivedAt = some last → x.decode = false → cSource x.cfg ≠ 0 → x.state = .running ∨ x.state = .resync →
      last + 2 * framePeriod x.cfg ≤ max s.now w →
      (u8 x.cfg 0x011 = 1 → ∃ t y, exec (.inputGapTimeout id w) s = .next t ∧ sessById t id = some y ∧
        y.enc.skipped = x.enc.skipped ++ [x.enc.nextSubmit] ∧ y.enc.nextSubmit = x.enc.nextSubmit + 1 ∧
        y.enc.submitted = x.enc.submitted) ∧
      (u8 x.cfg 0x011 ≠ 1 → ∀ p, x.enc.lastSource = some p → ∃ t y, exec (.inputGapTimeout id w) s = .next t ∧
        sessById t id = some y ∧ y.enc.submitted = x.enc.submitted ++ [{ p with frame := x.enc.nextSubmit, since := max s.now w }] ∧
        y.enc.nextSubmit = x.enc.nextSubmit + 1 ∧ y.enc.skipped = x.enc.skipped))

/-- CU_START, CU_MEASURE and ROW_COMMIT (R24, R29, R43, R87, R90, R107): a coding unit moves from engine to engine, the floor
loop keeps an attempt that passes without a charge or starts a retry, a committed row is final and its words are in the Ladle.
The floor loop (R87, R90): an attempt that passes every configured floor is kept without a charge; one that fails is coded again
while RETRY_MAX, QP_min and the unit's budget allow it; a lossless unit is exact. Model's choices in it: log entry 58. -/
def Obligations.CodingPipelineCompletes : Prop :=
  (∀ (s : State) (core : Nat) (x : Session) (f : EncFrame) (u : UnitRec) (wr : WorkRef), asleep s = false → core < 28 →
     workOf s core = some (x, f, u, wr) →
     (∀ l, slotOf (coreGet s core) 0 = none → u.nextCu < unitCus u →
       exec (.cuStart core 0 l) s = .next (unitPut (coreSet s core { coreGet s core with
         pipe := lset (coreGet s core).pipe 0 (some ⟨u.nextCu, 0, 0, cRateMode f.cfg == 4, none, false, []⟩) }) x f wr.unit
         { u with nextCu := u.nextCu + 1 })) ∧
     (∀ e l sl, 1 ≤ e → e ≤ 6 → slotOf (coreGet s core) (e - 1) = some sl → (slotOf (coreGet s core) e = none ∨ e = 6) →
       mayEnter s core e f u sl = true → (e ≠ 1 ∨ f.intra = true) →
       exec (.cuStart core e l) s = .next (coreSet s core { coreGet s core with
         pipe := lset (lset (coreGet s core).pipe (e - 1) none) e (some sl) })) ∧
     (∀ l sl, slotOf (coreGet s core) 0 = some sl → slotOf (coreGet s core) 1 = none → rowAboveDone s f u sl.cu = true →
       f.intra = false → exec (.cuStart core 1 l) s = .next (coreSet s core { coreGet s core with
         pipe := lset (lset (coreGet s core).pipe 0 none) 1
           (some { sl with assay := l.zipIdx.map (fun a => assayList x f u sl.cu a.2 a.1) }) })) ∧
     (∀ m sl e charge flags q, slotOf (coreGet s core) 4 = some sl → sl.decided = false → inOpenRow u sl.cu = true →
       q = (if sl.attempt = 0 then firstQp f.cfg u sl.cu m.qp else sl.qp0) →
       floorStep f.cfg u m sl.cu sl.attempt (qpOf f.cfg q sl.attempt) sl.kept = .keep e charge flags →
       exec (.cuMeasure core m) s = .next (unitPut (coreSet s core { coreGet s core with
         pipe := lset (coreGet s core).pipe 4
           (some { sl with qp0 := q, kept := some e, decided := true, lossless := e.state / 4 % 2 == 1 }) }) x f wr.unit
         (keepCu f.cfg u m e charge flags))) ∧
     (∀ m sl prev q, slotOf (coreGet s core) 4 = some sl → sl.decided = false → inOpenRow u sl.cu = true →
       q = (if sl.attempt = 0 then firstQp f.cfg u sl.cu m.qp else sl.qp0) →
       floorStep f.cfg u m sl.cu sl.attempt (qpOf f.cfg q sl.attempt) sl.kept = .retry prev →
       exec (.cuMeasure core m) s = .next (unitPut (coreSet s core (retryPipe (coreGet s core) { sl with qp0 := q } prev)) x f wr.unit
         { u with nextCu := sl.cu + 1, acc := { u.acc with
           spent := u.acc.spent + retryCharge f.cfg, retries := u.acc.retries + 1 } })) ∧
     (∀ b n w, rowOut (atTime s w) core u = true → u.commits.length + 1 ≠ u.rows →
       (fifoWrite (rowTag wr (openRow u)) b (coreGet s core).ladle).overflow = (coreGet s core).ladle.overflow →
       ∃ t y g v, exec (.rowCommit core b n w) s = .next t ∧ sessById t x.id = some y ∧ frameOf y f.number = some g ∧
         g.units[wr.unit]? = some v ∧ v.commits = u.commits ++ [⟨openRow u, core, false⟩] ∧ v.snap = v.acc ∧
         v.acc = { u.acc with complexity := u.acc.complexity + n } ∧ v.done = false ∧
         (coreGet t core).ladle = fifoCommit (rowTag wr (openRow u)) (fifoWrite (rowTag wr (openRow u)) b (coreGet s core).ladle)) ∧
     (∀ b n w, rowOut (atTime s w) core u = true → u.commits.length + 1 = u.rows →
       (fifoWrite (rowTag wr (openRow u)) b (coreGet s core).ladle).overflow = (coreGet s core).ladle.overflow →
       ∃ t, exec (.rowCommit core b n w) s = .next t ∧ (coreGet t core).work = none ∧
         (coreGet t core).ladle = fifoCommit (rowTag wr (openRow u)) (fifoWrite (rowTag wr (openRow u)) b (coreGet s core).ladle) ∧
         (∀ k, k ≠ core → coreGet t k = coreGet s k) ∧ t.mode = s.mode)) ∧
  (∀ (c : Bytes) (u : UnitRec) (m : CuMeas) (cu i : Nat) (qp : Int) (prev : Option CuEntry),
     (cRateMode c ≠ 4 → strictHrd c = false → (floorOn c = false ∨ floorPass c m = true) →
       floorStep c u m cu i qp prev = .keep (lossyEntry c m cu i qp false false false) 0 0) ∧
     (cRateMode c ≠ 4 → strictHrd c = false → floorOn c = true → floorPass c m = false → i < u8 c 0x126 → qpMin c < qp →
       u.acc.spent + retryCharge c ≤ u.budget →
       floorStep c u m cu i qp prev = .retry (lossyEntry c m cu i qp false false false)) ∧
     (cRateMode c ≠ 4 → strictHrd c = false → floorOn c = true → floorPass c m = false → losslessAble c = true →
       (u8 c 0x126 ≤ i ∨ qp ≤ qpMin c ∨ u.budget < u.acc.spent + retryCharge c) →
       ∃ e charge flags, floorStep c u m cu i qp prev = .keep e charge flags ∧ e.psnrY = 0xFFFF ∧ e.ssim = 0xFFFF ∧
         e.bits = m.llBits ∧ e.cu = cu) ∧
     (cRateMode c = 4 → floorStep c u m cu i qp prev = .keep (losslessEntry c m cu 0 false) 0 0))

/-- PPU_BAND (R145, R147, R257): a band of a source picture moves its read position and, with the last row, completes it; a band
of a decoded picture converts the rows that are final. Model's choices in it: log entries 13, 14, 15, 38. -/
def Obligations.PpuBandsComplete : Prop :=
  ∀ (s : State) (k w : Nat) (i : PpuInput) (x : Session), asleep s = false → k < 4 → sessById s i.session = some x →
    ppuServes (atTime s w) x k = true → x.state ≠ .created → x.state ≠ .stopped →
    (∀ p, x.decode = false → sourceOf (arrivingSource (atTime s w) x i) i.frame = some p →
      rowsReadable (atTime s w) (arrivingSource (atTime s w) x i) p i.rows = true →
      ∃ t y q, exec (.ppuBand k i w) s = .next t ∧ sessById t i.session = some y ∧ sourceOf y i.frame = some q ∧ q.rows = i.rows ∧
        q.complete = (p.complete || decide (srcH (cfgAt x p.frame) ≤ i.rows)) ∧ y.enc.frames = x.enc.frames ∧ y.state = x.state ∧
        t.mode = s.mode ∧ t.cores = s.cores) ∧
    (x.decode = true → exec (.ppuBand k i w) s = .next (ppuOutput (atTime s w) x i))

/-! ### Decode sessions and pixel ports (chapters 6, 15) -/

/-- DECODE_UNIT_START, DECODE_ROW_COMMIT and DECODE_PICTURE_END (R128, R130 to R133, R138): a coding unit that decodes is kept
with its quantiser and its taint and waits for its commit, one with an error damages its region, a commit makes it final, the
end of a picture moves the read position of the stream. Model's choices in it: log entry 71. -/
def Obligations.DecodingCompletes : Prop :=
  ∀ (s : State) (id w : Nat) (x : Session), asleep s = false → sessById s id = some x →
    (∀ u p, u.session = id → u.core < 28 → x.decode = true → isLive x = true → decodable (atTime s u.t) x u = true →
      picOf x u.pic = some p → p.ended = false → tfind p.cus u.cu = none → u.cu < gridN p.head → p.whole = false →
      (u.error ≠ 1 → u.error ≠ 2 → u.error ≠ 3 →
        ∃ t y q k, exec (.decodeUnitStart u) s = .next t ∧ sessById t id = some y ∧ picOf y u.pic = some q ∧
          tfind q.cus u.cu = some k ∧ k.damaged = false ∧ k.qp = u.qp ∧
          k.tainted = (readsMissing x u || u.error == 7 || u.missingAps || readsTainted x u) ∧
          q.uncommitted = p.uncommitted ++ [(u.core, u.cu)] ∧ (coreGet t u.core).decoding = some (id, u.pic) ∧
          (∀ c, c ≠ u.cu → tfind q.cus c = tfind p.cus c)) ∧
      (u.error = 1 ∨ u.error = 2 ∨ u.error = 3 →
        ∃ t y q, exec (.decodeUnitStart u) s = .next t ∧ sessById t id = some y ∧ picOf y u.pic = some q ∧
          (∀ c, c ∈ damagedRegion p.head u → ∃ k, tfind q.cus c = some k ∧ k.damaged = true ∧ k.tainted = true ∧
            k.lost = (u.error == 1)) ∧
          (∀ c, c ∉ damagedRegion p.head u → tfind q.cus c = tfind p.cus c) ∧ q.uncommitted = p.uncommitted ∧
          q.planes = p.planes ∧ q.synErrors = p.synErrors + (if u.error = 1 then 0 else 1))) ∧
    (∀ u, u.session = id → u.core < 28 → x.decode = true → isLive x = true → decodable (atTime s u.t) x u = true →
      picOf x u.pic = none → u.pic = x.dec.nextPic → x.state ≠ .stopping → picAccepted x u.head = true → inFlightPics x < 4 →
      u.cu < gridN u.head →
      ∃ t y q, exec (.decodeUnitStart u) s = .next t ∧ sessById t id = some y ∧ picOf y u.pic = some q ∧ q.head = u.head ∧
        q.ended = false ∧ y.dec.started = true ∧ y.dec.nextPic = u.pic + 1 ∧ (coreGet t u.core).decoding = some (id, u.pic)) ∧
    (∀ core pic row p, core < 28 → picOf x pic = some p → p.ended = false →
      p.uncommitted.all (fun c => !(c.1 == core && c.2 / gridW p.head == row)) = false →
      ∃ t y q, exec (.decodeRowCommit core id pic row w) s = .next t ∧ sessById t id = some y ∧ picOf y pic = some q ∧
        q.uncommitted = p.uncommitted.filter (fun c => !(c.1 == core && c.2 / gridW p.head == row)) ∧ q.cus = p.cus ∧
        (rowFinal q row = true → row ∈ q.rowsDone) ∧
        (q.uncommitted.all (fun c => c.1 != core) = true → (coreGet t core).decoding = none)) ∧
    (∀ pic bits consumed bad p, picOf x pic = some p → p.ended = false → p.uncommitted = [] → p.isRef = true → x.state ≠ .stopping →
      ∃ t y, exec (.decodePictureEnd id pic bits consumed bad w) s = .next t ∧ sessById t id = some y ∧
        picOf y pic = some (closePicture x p bits bad) ∧ y.dec.consumed = min x.dec.stream (max x.dec.consumed consumed) ∧
        y.dec.lostSeen = 0 ∧ y.state = x.state) ∧
    (∀ pic p, x.decode = true → picOf x pic = some p → outputReady (atTime s w) x p = true →
      exec (.decodeOutputStart id pic w) s = .next (startOutput (atTime s w) x p))

/-- RTP_PACKET_RX and REORDER_TIMEOUT (R131, R132): a packet in its place joins the stream, one ahead of a gap waits, one of
another stream is counted, a gap that has waited REORDER_US is lost. Model's choices in it: log entry 71. -/
def Obligations.DecodeInputCompletes : Prop :=
  ∀ (s : State) (p : RtpPkt) (x : Session), asleep s = false → sessById s p.session = some x → x.decode = true →
    (x.state = .running ∨ x.state = .resync) → securityStops (atTime s p.t) x = false →
    (u8 x.cfg 0x14 = 1 → p.pt ≠ u8 x.cfg 0xC1 ∨ (u8 x.cfg 0xC2 = 1 ∧ p.ssrc ≠ u32 x.cfg 0xC4) →
      exec (.rtpPacketRx p) s = .next (sessPut (atTime s p.t) { x with dec := { x.dec with foreign := x.dec.foreign + 1 } })) ∧
    (u8 x.cfg 0x14 = 1 → p.pt = u8 x.cfg 0xC1 → (u8 x.cfg 0xC2 ≠ 1 ∨ p.ssrc = u32 x.cfg 0xC4) → p.bad = false →
      (u8 x.cfg 0xC3 ≠ 1 ∨ p.tagOk = true) → p.unsupported = false → x.dec.reorder = [] →
      (x.dec.expected = none ∨ x.dec.expected = some p.seq) →
      ∃ t y, exec (.rtpPacketRx p) s = .next t ∧ sessById t p.session = some y ∧ y.dec.stream = x.dec.stream + p.len ∧
        y.dec.expected = some ((p.seq + 1) % 65536) ∧ y.dec.reorder = [] ∧ y.dec.lostPackets = x.dec.lostPackets ∧
        t.px = s.px ∧ t.cores = s.cores) ∧
    (∀ e, u8 x.cfg 0x14 = 1 → p.pt = u8 x.cfg 0xC1 → (u8 x.cfg 0xC2 ≠ 1 ∨ p.ssrc = u32 x.cfg 0xC4) → x.dec.expected = some e →
      0 < seqAhead e p.seq → (∀ q ∈ x.dec.reorder, q.seq ≠ p.seq ∧ q.seq ≠ e) →
      ∃ t y, exec (.rtpPacketRx p) s = .next t ∧ sessById t p.session = some y ∧ y.dec.stream = x.dec.stream ∧
        y.dec.reorder = x.dec.reorder ++ [p] ∧ y.dec.expected = some e ∧ y.dec.lostPackets = x.dec.lostPackets) ∧
    (u8 x.cfg 0x14 = 2 → ∃ t y, exec (.rtpPacketRx p) s = .next t ∧ sessById t p.session = some y ∧
      y.dec.stream = x.dec.stream + p.len ∧ x.dec.lostPackets ≤ y.dec.lostPackets) ∧
    (∀ w g e q, x.dec.gapSince = some g → x.dec.expected = some e → g + u32 x.cfg 0xCC * 1000 ≤ max s.now w →
      nextBehind x e = some q → ∃ t y, exec (.reorderTimeout p.session w) s = .next t ∧ sessById t p.session = some y ∧
        x.dec.lostPackets + (seqAhead e q.seq).toNat ≤ y.dec.lostPackets ∧ y.dec.reorder.length < x.dec.reorder.length ∧
        y.state = x.state)

/-- A good packet of a pixel port (R303 to R305): FRAME_START begins a picture, LINE adds to it, FRAME_END ends it, METADATA
sets its light levels; a bad one does no more than its reception (R306). Model's choices in it: log entry 72. -/
def Obligations.PixelPacketsComplete : Prop :=
  ∀ (s : State) (p : PxPkt), asleep s = false → p.port < 4 → pxReceives s p.port = true →
    (∀ s1, pxReceive (atTime s p.t) 1 p = (false, s1) → exec (.frameStart p) s = .next s1 ∧ s1.sessions = s.sessions) ∧
    (∀ s1, pxReceive (atTime s p.t) 2 p = (false, s1) → exec (.line p) s = .next s1 ∧ s1.sessions = s.sessions) ∧
    (∀ s1, pxReceive (atTime s p.t) 3 p = (false, s1) → exec (.frameEnd p) s = .next s1 ∧ s1.sessions = s.sessions) ∧
    (∀ s1, pxReceive (atTime s p.t) 4 p = (false, s1) → exec (.metadata p) s = .next s1 ∧ s1.sessions = s.sessions) ∧
    (∀ s1, pxReceive (atTime s p.t) 1 p = (true, s1) → ∃ t g, exec (.frameStart p) s = .next t ∧
      (pxGet t p.port).lastFrame = some p.frame ∧ (pxGet t p.port).picture = some g ∧ g.frame = p.frame ∧
      g.fmt = readStart p.payload ∧ g.filled = 0 ∧ g.cll = none ∧ t.mode = s.mode) ∧
    (∀ s1 g id, pxReceive (atTime s p.t) 2 p = (true, s1) → (pxGet s1 p.port).picture = some g → g.feeds = some id →
      segmentFits g.fmt p = true → segmentLate g p = false → ∃ t k, exec (.line p) s = .next t ∧
      (pxGet t p.port).picture = some k ∧ k.lines = true ∧ k.frame = g.frame ∧ k.arrived.length = g.arrived.length ∧
      (p.plane < g.arrived.length → ∃ b, k.arrived[p.plane]? = some (b ++ p.payload.take p.len)) ∧ t.sessions = s.sessions) ∧
    (∀ s1 g, pxReceive (atTime s p.t) 3 p = (true, s1) → (pxGet s1 p.port).picture = some g → ∃ t, exec (.frameEnd p) s = .next t ∧
      (pxGet t p.port).picture = none ∧ t.mode = s.mode) ∧
    (∀ s1 g, pxReceive (atTime s p.t) 4 p = (true, s1) → (pxGet s1 p.port).picture = some g → g.lines = false →
      u8 p.payload 0 = 1 → p.payload ≠ [] → ∃ t, exec (.metadata p) s = .next t ∧
      (pxGet t p.port).picture = some { g with cll := some (ube p.payload 2 2, ube p.payload 4 2) } ∧ t.mode = s.mode)

/-- PX_FIFO_READ, the links and PX_TX_LINE (R104, R145, R301, R307, R309). Model's choices in it: log entry 72. -/
def Obligations.PixelPortsComplete : Prop :=
  ∀ (s : State) (n w : Nat), asleep s = false → n < 4 →
    exec (.pxFifoRead n) s = .next (emit (pxSet s n (pxPin { pxGet s n with fifo := (fifoRead (pxGet s n).fifo).2 }))
      (.fifoWord n (wordTag (fifoRead (pxGet s n).fifo).1) (wordBytes (fifoRead (pxGet s n).fifo).1))) ∧
    ((pxGet s n).up = false → fencing s (.pixelPort n) = false → (pxGet s n).cfg.rxOn = true →
      exec (.pxLinkUp n w) s = .next (larderUpdate (pxSet (atTime s w) n (pxPin { pxGet s n with up := true })))) ∧
    ((pxGet s n).up = true → ∃ t, exec (.pxLinkDown n w) s = .next t ∧ (pxGet t n).up = false ∧ (pxGet t n).holdLow = true ∧
      (pxGet t n).picture = none ∧ (∀ k, k ≠ n → pxGet t k = pxGet s k) ∧ t.mode = s.mode) ∧
    (∀ o x p, s.canary.gatedAt = none → (pxGet s n).cfg.txOn = true → (pxGet s n).fenced = false → (pxGet s n).sending = some o →
      lineTime (pxGet s n) o o.line ≤ max s.now w → sessById s o.session = some x → picOf x o.pic = some p →
      (o.line + 1 < o.fmt.height → ∃ t, exec (.pxTxLine n o.line w) s = .next t ∧
        (pxGet t n).sending = some { o with line := o.line + 1, held := (linePlanes x p o).2 } ∧
        (∀ k, k ≠ n → pxGet t k = pxGet s k)) ∧
      (o.fmt.height ≤ o.line + 1 → ∃ t, exec (.pxTxLine n o.line w) s = .next t ∧ (pxGet t n).sending = none ∧
        (∀ k, k ≠ n → pxGet t k = pxGet s k)))

/-! ### The Essence Switch and the Traffic Manager (chapters 16, 18) -/

/-- SET_POOLS, QUERY_POOLS, SET_CAPTURE, SET_MIRROR_RULE and SET_DROP_PROFILE (R322, R323, R325, R326, R331). Model's choices in
it: log entry 9. -/
def Obligations.SwitchCommandsComplete : Prop :=
  ∀ (s : State) (r : CmdRef) (i : InFlight),
    (∀ d l, Starts s r 0x60 i → chkPools r.fn d (markStarted s r) i.entry = none →
      l = newPools s i.entry (readData s r.fn i.entry d) →
      exec (.setPools r d) s = .next (configured ((List.range 8).foldl settlePool { markStarted s r with
        hbm := { s.hbm with poolUsed := s.hbm.poolUsed + poolsHbm l - poolsHbm s.sw.pools },
        sw := { s.sw with pools := l } }) r 0)) ∧
    (Starts s r 0x61 i → 256 ≤ cmdDataLen i.entry → ∃ t, exec (.queryPools r) s = .next t ∧
      t.sw = { s.sw with pools := s.sw.pools.map (fun p => { p with minFree := poolFreeCount p }) } ∧ t.net = s.net ∧
      t.tables = s.tables ∧ t.epochCtr = s.epochCtr) ∧
    (Starts s r 0x62 i → u8 i.entry 24 = 1 → 16 ≤ u32 i.entry 28 → u32 i.entry 28 ≤ 5592405 → u64 i.entry 32 % 4096 = 0 →
      u64 i.entry 32 + 64 + 192 * u32 i.entry 28 ≤ grantBytes s 0 → ∃ t, exec (.setCapture r) s = .next t ∧
      t.sw = { s.sw with capture := { s.sw.capture with enable := true, depth := u32 i.entry 28, base := u64 i.entry 32,
                                                        produced := 0, consumed := 0, dropped := 0 } } ∧
      t.epochCtr = s.epochCtr + 1 ∧ t.net = s.net) ∧
    (Starts s r 0x62 i → u8 i.entry 24 = 0 → exec (.setCapture r) s = .next (configured { markStarted s r with
      sw := { s.sw with capture := { s.sw.capture with enable := false } } } r 0)) ∧
    (Starts s r 0x63 i → u8 i.entry 24 < 64 → u8 i.entry 25 ≤ 1 → u8 i.entry 26 < 4 → (u8 i.entry 27 = 0xFF ∨ u8 i.entry 27 < 50) →
      u16 i.entry 32 < 2048 → exec (.setMirrorRule r) s = .next (configured { markStarted s r with
        sw := { s.sw with rules := tset s.sw.rules (u8 i.entry 24) ⟨u8 i.entry 25 == 1, u8 i.entry 26, u8 i.entry 27,
          u32 i.entry 28, u16 i.entry 32, u16 i.entry 34, 0⟩ } } r 0)) ∧
    (∀ d b, Starts s r 0x64 i → b = readData s r.fn i.entry d → 1 ≤ u8 i.entry 24 → 48 ≤ cmdDataLen i.entry →
      dataCheck (profileRules b) = none →
      exec (.setDropProfile r d) s = .next (configured { markStarted s r with
        sw := { s.sw with profiles := tset s.sw.profiles (u8 i.entry 24) ⟨u8 b 0, u32 b 4, ⟨u32 b 8, u32 b 12, u8 b 16⟩,
          ⟨u32 b 20, u32 b 24, u8 b 28⟩, ⟨u32 b 32, u32 b 36, u8 b 40⟩⟩ } } r 0))

/-- A frame that arrives (R314, R317, R333, R358): its head is looked up and staged, its end delivers it; a frame that fails its
checks reaches no queue and takes no buffer. Model's choices in it: log entry 73. -/
def Obligations.FramesAreReceived : Prop :=
  ∀ (s : State), asleep s = false →
    (∀ h, h.port < 16 → (ethGet s h.port).up = true → (ethGet s h.port).fenced = false → tfind s.sw.staged h.port = none →
      ∃ t st, exec (.ethFrameHead h) s = .next t ∧ tfind t.sw.staged h.port = some st ∧ st.head = h ∧
        (∀ k, macsecRx s h = some k → st.verdict = 7 ∧ st.dest = [] ∧ t.tables = s.tables)) ∧
    (∀ p len good head w st, p < 16 → tfind s.sw.staged p = some st → st.buffer = none →
      (st.verdict ≠ 0 ∨ (ethGet s st.head.port).cfg.maxFrame < len ∨ good = false) →
      ∃ t, exec (.ethFrameEnd p len good head w) s = .next t ∧ t.sw.staged = tdel s.sw.staged p ∧ t.net.queues = s.net.queues ∧
        t.sw.buffers = s.sw.buffers ∧ t.sw.pools = s.sw.pools) ∧
    (∀ p len head w st, p < 16 → tfind s.sw.staged p = some st → st.buffer = none → st.verdict = 0 →
      len ≤ (ethGet s st.head.port).cfg.maxFrame → st.head.macsec = 0 → st.head.ptpEvent = false → legA s st.flow = none →
      exec (.ethFrameEnd p len true head w) s = .next (deliver (countEth (countEth (swSet (atTime s w)
        { s.sw with staged := tdel s.sw.staged p }) p 0 1) p 1 len) (frameBuffer s st.head st len head true)))

/-- Packets, buffers and outputs of the switch (R319, R322, R327, R329, R330, R369, R372). Model's choices in it: log entries
10, 73. -/
def Obligations.PacketsMoveThroughTheSwitch : Prop :=
  ∀ (s : State) (w : Nat), asleep s = false →
    (∀ p, p.t = w → 16 ≤ p.port → p.port ≤ 45 → portWaits s p.port = false →
      exec (.portPacketIn p) s = .next (deliver (atTime s w) (portBuffer (atTime s w) p))) ∧
    (∀ p, p.t = w → 16 ≤ p.port → p.port ≤ 45 → portWaits s p.port = true →
      exec (.portPacketIn p) s = .next (holdPacket (atTime s w) (portBuffer (atTime s w) p))) ∧
    (∀ p b since rest u, p < 46 → firstWaiting s.sw.waiting p = some ((b, since), rest) →
      u = placePacket (swSet (atTime s w) { s.sw with waiting := rest }) b →
      (u.sw.waiting = rest → exec (.pantryRetry p w) s = .next u) ∧
      (u.sw.waiting = rest ++ [(b, max s.now w)] → p < 16 → since + 256 ≤ u.now →
        exec (.pantryRetry p w) s = .next (dropIn (swSet u { u.sw with waiting := rest }) 3 b)) ∧
      (u.sw.waiting = rest ++ [(b, max s.now w)] → (16 ≤ p ∨ u.now < since + 256) →
        exec (.pantryRetry p w) s = .next (swSet u { u.sw with waiting := (b, since) :: rest }))) ∧
    (∀ k, k < 8 → k < s.sw.pools.length → (poolAt s k).refill = true → ∃ t, exec (.poolCacheRefill k) s = .next t ∧
      poolFreeCount (poolAt t k) = poolFreeCount (poolAt s k) ∧
      ((poolAt s k).cache < 32 → (poolAt t k).cache = (poolAt s k).cache + min 64 (poolAt s k).freeList) ∧
      (96 < (poolAt s k).cache → (poolAt t k).cache = (poolAt s k).cache - 64) ∧
      (∀ j, j ≠ k → poolAt t j = poolAt s j) ∧ t.sw.buffers = s.sw.buffers) ∧
    (∀ p c k n e head, p < 16 → (ethGet s p).up = true → (ethGet s p).sending = none →
      pickClass (ethGet s p).classes (eligible (atTime s w) p) = some (c, k) →
      pickSub k c (startable' (atTime s w) p c) = some (n, e) →
      exec (.egressSelect p head w) s = .next (startFrame (ethSet (atTime s w) p { ethGet s p with
        classes := { k with lastSub := tset k.lastSub c n } }) p e.1 e.2.1 e.2.2.1 e.2.2.2 head)) ∧
    (∀ p e head, 16 ≤ p → p < 46 → (ready (atTime s w) p).getLast? = some e →
      exec (.egressSelect p head w) s = .next (startFrame (atTime s w) p e.1 e.2.1 e.2.2.1 e.2.2.2 head)) ∧
    (∀ p id rb b, p < 46 → bufGet s id = some b → b.sending.contains p = true → b.eof = true →
      (16 ≤ p ∨ (ethGet s p).busyTo ≤ max s.now w) →
      exec (.copyDone p id 0x40 rb w) s = .next (endCopy (atTime s w) p id b rb)) ∧
    (∀ p id q rb, p < 46 → q ≠ 0x40 → exec (.copyDone p id q rb w) s = .next (freeRequest (atTime s w) id q rb)) ∧
    (∀ q, q < 4096 → (queueGet s q).copies = [] → exec (.queueAvgDecay q w) s = .next (swSet (atTime s w) { s.sw with
      avg := tset s.sw.avg q (avgStep (tget 0 s.sw.avg q) 0 (profileOf s (queueGet s q)).weight) }))

/-- SET_PORT, SET_MACSEC, SET_METER, SET_FLOW, SET_QUEUE, SET_SUBSCRIBER, SET_CLASSES and SET_GCL install what they carry, and
the epoch counter advances (R230, R310, R353, R357, R364 to R366, R369 to R373). Model's choices in it: log entries 9, 45, 72.
-/
def Obligations.TrafficCommandsComplete : Prop :=
  ∀ (s : State) (r : CmdRef) (i : InFlight),
    (∀ d, Starts s r 0x50 i → chkPort r.fn d (markStarted s r) i.entry = none → ∃ t, exec (.setPort r d) s = .next t ∧
      t.epochCtr = s.epochCtr + 1 ∧ t.tables = s.tables ∧ t.mode = s.mode ∧
      (isPxPort (u8 i.entry 24) = true → (pxGet t (u8 i.entry 24 - 46)).cfg = readPx (readData s r.fn i.entry d)) ∧
      (isPxPort (u8 i.entry 24) = false → (ethGet t (u8 i.entry 24)).cfg = readEth (readData s r.fn i.entry d))) ∧
    (Starts s r 0x51 i → chkMacsec r.fn (markStarted s r) i.entry = none → ∃ t, exec (.setMacsec r) s = .next t ∧
      t.epochCtr = s.epochCtr + 1 ∧
      (ethGet t (u8 i.entry 24)).macsec = changeMacsec s (ethGet s (u8 i.entry 24)).macsec i.entry ∧
      (∀ p, p ≠ u8 i.entry 24 → ethGet t p = ethGet s p) ∧ t.sec = s.sec) ∧
    (Starts s r 0x54 i → u16 i.entry 24 ≤ 8191 → u8 i.entry 26 ≤ 3 → u32 i.entry 28 ≤ 400000000 →
      (u8 i.entry 26 % 2 = 0 ∨ (u32 i.entry 28 ≤ u32 i.entry 32 ∧ u32 i.entry 32 ≤ 400000000)) → u32 i.entry 36 ≤ 16777215 →
      u32 i.entry 40 ≤ 16777215 → ∃ t, exec (.setMeter r) s = .next t ∧
      meterGet t (u16 i.entry 24) = { meterGet s (u16 i.entry 24) with
        mode := u8 i.entry 26, cir := u32 i.entry 28, pir := u32 i.entry 32, cbs := u32 i.entry 36, pbs := u32 i.entry 40,
        tc := u32 i.entry 36 * unitsPerByte, tp := u32 i.entry 40 * unitsPerByte, at_ := s.now } ∧
      (∀ n, n ≠ u16 i.entry 24 → meterGet t n = meterGet s n) ∧ t.epochCtr = s.epochCtr + 1) ∧
    (∀ d, Starts s r 0x55 i → chkFlow r.fn d (markStarted s r) i.entry = none → ∃ t, exec (.setFlow r d) s = .next t ∧
      (flowGet t (u32 i.entry 24)).raw = (readData s r.fn i.entry d).take 96 ∧
      (∀ n, n ≠ u32 i.entry 24 → (flowGet t n).raw = (flowGet s n).raw) ∧ t.epochCtr = s.epochCtr + 1) ∧
    (Starts s r 0x56 i → chkQueue (markStarted s r) i.entry = none → ∃ t, exec (.setQueue r) s = .next t ∧
      queueGet t (u16 i.entry 24) = { queueGet s (u16 i.entry 24) with
        port := u8 i.entry 26, profile := u8 i.entry 27, sub := u16 i.entry 28, weight := u16 i.entry 30, limit := u32 i.entry 32 } ∧
      (∀ n, n ≠ u16 i.entry 24 → queueGet t n = queueGet s n) ∧ t.epochCtr = s.epochCtr + 1) ∧
    (Starts s r 0x57 i → chkSubscriber (markStarted s r) i.entry = none → ∃ t x, exec (.setSubscriber r) s = .next t ∧
      subGet t (u16 i.entry 24) = x ∧ x.port = u8 i.entry 26 ∧ x.cls = u8 i.entry 27 ∧ x.typ = u8 i.entry 28 ∧
      x.rate = u32 i.entry 32 ∧ x.burst = u32 i.entry 36 ∧ x.rateNum = u32 i.entry 40 ∧ x.rateDen = u32 i.entry 44 ∧
      x.tro = u32 i.entry 48 ∧ x.active = u16 i.entry 52 ∧ x.total = u16 i.entry 54 ∧
      (∀ n, n ≠ u16 i.entry 24 → subGet t n = subGet s n) ∧ t.epochCtr = s.epochCtr + 1) ∧
    (Starts s r 0x67 i → portUsed s (u8 i.entry 24) = true → (∀ k, k < 8 → 1 ≤ u8 i.entry (32 + k)) → ∃ t,
      exec (.setClasses r) s = .next t ∧ (ethGet t (u8 i.entry 24)).classes = { (ethGet s (u8 i.entry 24)).classes with
        strict := u8 i.entry 25, essence := u8 i.entry 26, weights := (List.range 8).map (fun k => u8 i.entry (32 + k)),
        credit := [] } ∧ (∀ p, p ≠ u8 i.entry 24 → ethGet t p = ethGet s p) ∧ t.epochCtr = s.epochCtr + 1) ∧
    (∀ d g, Starts s r 0x68 i → chkGcl r.fn d (markStarted s r) i.entry = none → g = readGates (readData s r.fn i.entry d) → ∃ t,
      exec (.setGcl r d) s = .next t ∧ t.epochCtr = s.epochCtr + 1 ∧
      (g.entries = [] → (ethGet t (u8 i.entry 24)).gates = none ∧ (ethGet t (u8 i.entry 24)).nextGates = none) ∧
      (g.entries ≠ [] → (ethGet t (u8 i.entry 24)).gates = (ethGet s (u8 i.entry 24)).gates ∧
        (ethGet t (u8 i.entry 24)).nextGates = some ((gateStart s g).toNat, g)) ∧
      (∀ p, p ≠ u8 i.entry 24 → ethGet t p = ethGet s p))

/-- Gates, pauses, merge timers and links of the Ethernet ports (R355, R356, R367, R373). Model's choices in it: log entry 74.
-/
def Obligations.PortEventsComplete : Prop :=
  ∀ (s : State) (p w : Nat), asleep s = false →
    (∀ at_ g, p < 16 → (ethGet s p).nextGates = some (at_, g) → (at_ : Int) ≤ ptpTime (atTime s w) → ∃ t,
      exec (.gclBoundary p w) s = .next t ∧ (ethGet t p).gates = some g ∧ (ethGet t p).nextGates = none ∧
      (∀ k, k ≠ p → ethGet t k = ethGet s k)) ∧
    (∀ g, p < 16 → (ethGet s p).nextGates = none → (ethGet s p).gates = some g → ∃ t,
      exec (.gclBoundary p w) s = .next t ∧ (ethGet t p).gates = some g ∧ (∀ k, k ≠ p → ethGet t k = ethGet s k)) ∧
    (∀ m q, p < 16 → (ethGet s p).up = true → bitOf (ethGet s p).cfg.flags 0 = true → q ≠ 0 → ∃ t,
      exec (.pfcXoffRx p m q w) s = .next t ∧
      (∀ k, k < 8 → bitOf m k = true → bitOf (ethGet s p).cfg.pfcRx k = true →
        (k, max s.now w + pauseNs s p q) ∈ (ethGet t p).xoff) ∧
      (∀ o ∈ (ethGet s p).xoff, (bitOf m o.1 = false ∨ bitOf (ethGet s p).cfg.pfcRx o.1 = false) → o ∈ (ethGet t p).xoff) ∧
      (∀ k, k ≠ p → ethGet t k = ethGet s k)) ∧
    (∀ k, p < 16 → exec (.pfcXoffExpire p k w) s = .next (ethSet (atTime s w) p { ethGet s p with
      xoff := (ethGet s p).xoff.filter (fun o => !(o.1 == k && decide (o.2 ≤ max s.now w))) })) ∧
    (∀ at_, p ≤ 16383 → heldSince s p = some at_ → at_ + skewNs s p ≤ max s.now w →
      exec (.mergeLostTimeout p w) s = .next (declareLost (atTime s w) p)) ∧
    (p ≤ 16383 → flowReal s p = true → mergeNamed (flowGet s p).raw = true → (mergeGet s p).lastB + skewNs s p ≤ max s.now w →
      exec (.mergeLegDown p true w) s = .next (settleMerge (mergeSet (atTime s w) p { mergeGet s p with downB := true }) p)) ∧
    (p ≤ 16383 → flowReal s p = true → mergeNamed (flowGet s p).raw = true → (mergeGet s p).lastA + skewNs s p ≤ max s.now w →
      exec (.mergeLegDown p false w) s = .next (settleMerge (mergeSet (atTime s w) p { mergeGet s p with downA := true }) p)) ∧
    (p < 16 → portUsed s p = true → (ethGet s p).cfg.enable = true → fencing s (.ethPort p) = false → (ethGet s p).up = false →
      exec (.ethLinkUp p w) s = .next (larderUpdate (ethSet (atTime s w) p { ethGet s p with up := true }))) ∧
    (p < 16 → (ethGet s p).up = true → ∃ t, exec (.ethLinkDown p w) s = .next t ∧ (ethGet t p).up = false ∧
      (ethGet t p).sending = none ∧ (ethGet t p).xoff = [] ∧ (ethGet t p).cfg = (ethGet s p).cfg ∧ t.tables = s.tables ∧
      t.mode = s.mode)

/-! ### Tables and learning (chapter 17), PTP (chapter 18) -/

/-- The table, route, next-hop, learning and group commands (R333, R338, R340 to R344, R351): what each leaves in the tables,
and the epoch counter of the ones that change them; what an insert has placed, a lookup finds. -/
def Obligations.TableCommandsComplete : Prop :=
  ∀ (s : State) (r : CmdRef) (i : InFlight),
    (∀ d b x n tab, Starts s r 0x58 i → b = readData s r.fn i.entry d → fieldCheck (lenRule i.entry b ++ [(decide (u8 i.entry 24 ≤ 1), 24)]) = none →
      dataCheck (keyRules b ++ resultRules (u8 b 0x14) (u8 b 0x15) (u16 b 0x16) 0x14) = none →
      (∀ p, emtFind s.tables.emt (keyOfSlots b) = some p → p.2.static = false ∨ u8 i.entry 24 = 1) →
      x = ⟨u8 b 0 % 4, true, keyOfSlots b, resultOf b, 0, 0⟩ →
      (emtInsert s.tables.emt x = some (n, tab) →
        exec (.tableInsert r d) s = .next (configured { markStarted s r with tables := { s.tables with emt := tab } } r n)) ∧
      (emtInsert s.tables.emt x = none → exec (.tableInsert r d) s = .next (finish (markStarted s r) r (failWith stTableFull)))) ∧
    (∀ d b, Starts s r 0x59 i → b = readData s r.fn i.entry d → fieldCheck (lenRule i.entry b) = none → dataCheck (keyRules b) = none →
      (∀ p, emtFind s.tables.emt (keyOfSlots b) = some p → exec (.tableDelete r d) s = .next (configured { markStarted s r with
        tables := { s.tables with emt := tdel s.tables.emt p.1 } } r 1)) ∧
      (emtFind s.tables.emt (keyOfSlots b) = none → exec (.tableDelete r d) s = .next (succeed (markStarted s r) r 0))) ∧
    (Starts s r 0x5A i → u32 i.entry 24 < 131072 → 1 ≤ u32 i.entry 28 → u32 i.entry 28 ≤ 4096 →
      32 * u32 i.entry 28 ≤ cmdDataLen i.entry → exec (.tableRead r) s = .next (succeed (writeData (markStarted s r) r.fn i.entry
        ((List.range (min (u32 i.entry 28) (131072 - u32 i.entry 24))).flatMap (fun k => slotBytes s.tables.emt (u32 i.entry 24 + k))))
        r (min (u32 i.entry 28) (131072 - u32 i.entry 24)))) ∧
    (Starts s r 0x5B i → u8 i.entry 24 ≤ 2 → (u8 i.entry 24 = 1 → u8 i.entry 25 < 50) →
      (u8 i.entry 24 = 2 → 1 ≤ u16 i.entry 26 ∧ u16 i.entry 26 ≤ 4094) → ∃ t, exec (.tableFlush r) s = .next t ∧
      t.tables = { s.tables with emt := s.tables.emt.filter (fun p => !flushes i.entry p.2) } ∧ t.epochCtr = s.epochCtr + 1) ∧
    (Starts s r 0x5C i → fieldCheck (routeRules i.entry ++ [(decide (u16 i.entry 26 < 4096), 26)]) = none →
      (s.tables.routes.any (sameRoute i.entry) = true → ∃ t, exec (.routeAdd r) s = .next t ∧ t.tables = { s.tables with
        routes := s.tables.routes.map (fun x => if sameRoute i.entry x then { x with nextHop := u16 i.entry 26 } else x) }) ∧
      (s.tables.routes.any (sameRoute i.entry) = false →
        trieUnits s.tables.routes + (if u8 i.entry 24 = 4 then 1 else 4) ≤ 32768 → ∃ t, exec (.routeAdd r) s = .next t ∧
        t.tables = { s.tables with
          routes := s.tables.routes ++ [⟨u8 i.entry 24, u8 i.entry 25, routePfx i.entry, u16 i.entry 26⟩] } ∧
        t.epochCtr = s.epochCtr + 1) ∧
      (s.tables.routes.any (sameRoute i.entry) = false →
        32768 < trieUnits s.tables.routes + (if u8 i.entry 24 = 4 then 1 else 4) →
        exec (.routeAdd r) s = .next (finish (markStarted s r) r (failWith stTableFull)))) ∧
    (Starts s r 0x5D i → fieldCheck (routeRules i.entry) = none →
      (s.tables.routes.any (sameRoute i.entry) = true → ∃ t, exec (.routeDelete r) s = .next t ∧
        t.tables = { s.tables with routes := s.tables.routes.filter (fun x => !sameRoute i.entry x) } ∧ t.epochCtr = s.epochCtr + 1) ∧
      (s.tables.routes.any (sameRoute i.entry) = false → exec (.routeDelete r) s = .next (succeed (markStarted s r) r 0))) ∧
    (Starts s r 0x5E i → u16 i.entry 24 < 4096 →
      fieldCheck (resultRules (u8 i.entry 26) (u8 i.entry 27) (u16 i.entry 28) 26) = none → ∃ t, exec (.setNextHop r) s = .next t ∧
      t.tables = { s.tables with hops := tset s.tables.hops (u16 i.entry 24) ⟨u8 i.entry 26, u8 i.entry 27, u16 i.entry 28,
        u16 i.entry 30, u32 i.entry 32, ube i.entry 36 6⟩ } ∧ t.epochCtr = s.epochCtr + 1) ∧
    (Starts s r 0x5F i → fieldCheck (learnRules i.entry) = none →
      (u8 i.entry 24 = 0xFF → ∃ t, exec (.setLearn r) s = .next t ∧ t.epochCtr = s.epochCtr + 1 ∧
        t.tables = { s.tables with agingS := u32 i.entry 28, dampMs := u16 i.entry 32, routerMac := ube i.entry 34 6 }) ∧
      (u8 i.entry 24 ≠ 0xFF → ∃ t, exec (.setLearn r) s = .next t ∧ t.epochCtr = s.epochCtr + 1 ∧
        t.tables = { s.tables with ports := tset s.tables.ports (u8 i.entry 24) { learnPort s.tables (u8 i.entry 24) with
          flags := u8 i.entry 25 % 32, pvid := u16 i.entry 26, limit := u32 i.entry 28, flapLimit := u16 i.entry 32,
          flapping := (learnPort s.tables (u8 i.entry 24)).flapping && !bitOf (u8 i.entry 25) 5 } })) ∧
    (∀ d b, Starts s r 0x65 i → b = readData s r.fn i.entry d → 1 ≤ u16 i.entry 24 → u16 i.entry 24 ≤ 4095 →
      16 ≤ cmdDataLen i.entry → u64 b 0 < 2 ^ 50 → ∃ t, exec (.setGroup r d) s = .next t ∧ t.epochCtr = s.epochCtr + 1 ∧
      t.tables = { s.tables with
        groups := tset s.tables.groups (u16 i.entry 24) ⟨BitVec.ofNat 64 (u64 b 0), BitVec.ofNat 64 (u64 b 8)⟩ }) ∧
    (Starts s r 0x66 i → 32 ≤ cmdDataLen i.entry → ∃ b : Bytes, b.length = 32 ∧
      b.take 4 = le 4 (slotsWhere s.tables (fun _ => true)) ∧
      exec (.queryTables r) s = .next (succeed (writeData (markStarted s r) r.fn i.entry b) r 0)) ∧
    (∀ (tab : Tbl EmtEntry) (x : EmtEntry) (k : Nat), emtFind tab x.key = none → freePlace tab (emtBucket 0 x.key) x.typ = some k →
      emtInsert tab x = some (0, tset tab k x) ∧ emtFind (tset tab k x) x.key = some (k, x))

/-- The Learn Engine (R345, R347 to R349): the oldest request is judged against the table as it stands; a new address is
entered, a refresh renews its age, a move after MOVE_DAMP_MS changes the port, the sweep removes what has aged. Model's choices
in it: log entry 74. -/
def Obligations.LearningCompletes : Prop :=
  ∀ (s : State) (p fid mac w : Nat) (l : List LearnReq), asleep s = false → p < 16 →
    (∀ n tab, s.tables.requests = ⟨0, p, fid, mac⟩ :: l → emtFind s.tables.emt (l2Key fid mac) = none →
      learnedOn s.tables p < (learnPort s.tables p).limit →
      emtInsert s.tables.emt (learnedEntry (atTime s w) ⟨0, p, fid, mac⟩) = some (n, tab) →
      exec (.learn p fid mac w) s = .next { atTime s w with tables := { s.tables with requests := l, emt := tab } }) ∧
    (∀ k e, s.tables.requests = ⟨1, p, fid, mac⟩ :: l → emtFind s.tables.emt (l2Key fid mac) = some (k, e) → e.static = false →
      e.result.port = p → exec (.refresh p fid mac w) s = .next { atTime s w with
        tables := { s.tables with requests := l, emt := tset s.tables.emt k { e with ageStamp := ptpSec16 (atTime s w) } } }) ∧
    (∀ k e, s.tables.requests = ⟨2, p, fid, mac⟩ :: l → emtFind s.tables.emt (l2Key fid mac) = some (k, e) → e.static = false →
      e.result.port ≠ p → s.tables.dampMs ≤ (ptpMs16 (atTime s w) + 65536 - e.moveStamp) % 65536 →
      learnedOn s.tables p < (learnPort s.tables p).limit → ∃ t, exec (.move p fid mac w) s = .next t ∧ t.tables.requests = l ∧
      t.tables.emt = tset s.tables.emt k { e with result := { e.result with port := p }, ageStamp := ptpSec16 (atTime s w),
                                                  moveStamp := ptpMs16 (atTime s w) } ∧ t.mode = s.mode) ∧
    (∀ k e, s.tables.requests = ⟨2, p, fid, mac⟩ :: l → emtFind s.tables.emt (l2Key fid mac) = some (k, e) → e.static = false →
      e.result.port ≠ p → (ptpMs16 (atTime s w) + 65536 - e.moveStamp) % 65536 < s.tables.dampMs → ∃ t,
      exec (.move p fid mac w) s = .next t ∧ t.tables.requests = l ∧ t.tables.emt = s.tables.emt ∧
      (learnPort t.tables p).lastFlap = max s.now w ∧ ((learnPort s.tables p).flapping = true → (learnPort t.tables p).flapping = true)) ∧
    exec (.agingSweep w) s = .next { atTime s w with
      tables := { s.tables with emt := s.tables.emt.filter (fun q => !aged (atTime s w) q.2) } } ∧
    ((learnPort s.tables p).flapping = true → (learnPort s.tables p).lastFlap + 60000000000 ≤ max s.now w →
      exec (.flapClear p w) s = .next { atTime s w with
        tables := { s.tables with ports := tset s.tables.ports p { learnPort s.tables p with flapping := false } } })

/-- The PTP clock (R360 to R363): SET_PTP and QUERY_PTP, an offset above STEP_NS steps the time by it, a smaller one changes the
frequency by at most SLEW_PPB and leaves the time continuous, messages go out when due, PPS marks whole seconds. Model's choices
in it: log entries 20, 46. -/
def Obligations.PtpClockCompletes : Prop :=
  ∀ (s : State) (w : Nat),
    (∀ r i d, Starts s r 0x52 i → chkPtp r.fn d (markStarted s r) i.entry = none → ∃ t, exec (.setPtp r d) s = .next t ∧
      t.net.ptp = ptpStart s.net.ptp (readPtp (readData s r.fn i.entry d)) ∧ t.epochCtr = s.epochCtr + 1 ∧ t.tables = s.tables) ∧
    (∀ r i, Starts s r 0x53 i → 32 ≤ cmdDataLen i.entry →
      exec (.queryPtp r) s = .next (succeed (writeData (markStarted s r) r.fn i.entry (ptpReport s.net.ptp)) r 0)) ∧
    (∀ m, asleep s = false → m.port < 16 → ptpRuns s m.port = true → m.domain = s.net.ptp.cfg.domain → m.t = w →
      (m.kind = 1 → ∃ t, exec (.ptpMessageRx m) s = .next t ∧ t.net.ptp.gm = m.gm ∧
        t.net.ptp.state = ptpRole s.net.ptp.cfg m.bmcState ∧ ptpTime t = ptpTime (atTime s w)) ∧
      (m.kind = 2 → ptpMaster s.net.ptp m.port = true → exec (.ptpMessageRx m) s = .next (ptpSend (atTime s w) m.port 3)) ∧
      (m.kind = 0 ∨ m.kind = 3 → ptpFollows s.net.ptp = true → s.net.ptp.slavePort = m.port →
        m.offset.natAbs ≤ s.net.ptp.cfg.stepNs → ∃ t, exec (.ptpMessageRx m) s = .next t ∧ t.net.ptp.offsetNs = m.offset ∧
        s.net.ptp.freq - s.net.ptp.cfg.slewPpb ≤ t.net.ptp.freq ∧ t.net.ptp.freq ≤ s.net.ptp.freq + s.net.ptp.cfg.slewPpb ∧
        ptpTime t = ptpTime (atTime s w) ∧ t.net.ptp.steps = s.net.ptp.steps) ∧
      (m.kind = 0 ∨ m.kind = 3 → ptpFollows s.net.ptp = true → s.net.ptp.slavePort = m.port →
        s.net.ptp.cfg.stepNs < m.offset.natAbs → ∃ t, exec (.ptpMessageRx m) s = .next t ∧ t.net.ptp.offsetNs = m.offset ∧
        t.net.ptp.freq = s.net.ptp.freq ∧ ptpTime t = ptpTime (atTime s w) - m.offset ∧
        t.net.ptp.steps = min 0xFFFF (s.net.ptp.steps + 1))) ∧
    (∀ p kind, asleep s = false → p < 16 → ptpMaySend s p kind = true → ptpDue s p kind (max s.now w) = true →
      ∃ t, exec (.ptpMessageTimer p kind w) s = .next t ∧ tfind t.net.ptp.lastMsg (p * 4 + kind) = some (max s.now w) ∧
        (kind ≠ 0 ∨ bitOf s.net.ptp.cfg.flags 0 = true → ∃ l, t.out = .ptp p kind l :: s.out) ∧
        (kind = 0 → bitOf s.net.ptp.cfg.flags 0 = false → ∃ l m, t.out = .ptp p 4 l :: .ptp p 0 m :: s.out)) ∧
    (asleep s = false → ptpFollows s.net.ptp = true → s.net.ptp.announceAt.getD 0
        + s.net.ptp.cfg.announceTimeout * logInterval s.net.ptp.cfg.logAnnounce ≤ max s.now w → ∃ t,
      exec (.announceTimeout w) s = .next t ∧ t.net.ptp.state = 5 ∧ t.net.ptp.freq = s.net.ptp.freq ∧
      t.net.ptp.slavePort = 0xFF ∧ ptpTime t = ptpTime (atTime s w)) ∧
    (asleep s = false → ∃ t, exec (.ppsInEdge w) s = .next t ∧ t.net.ptp.ppsInTime = ptpTime t ∧
      (s.net.ptp.cfg.mode ≠ 5 → ptpTime t = ptpTime (atTime s w)) ∧
      (s.net.ptp.cfg.mode = 5 → ptpTime t = (s.net.ptp.cfg.tod : Int) * 1000000000 ∧
        t.net.ptp.cfg.tod = (s.net.ptp.cfg.tod + 1) % 2 ^ 64)) ∧
    (dead s = false → exec (.ppsOut w) s = .next { atTime s w with pins := { s.pins with
      ppsOut := decide (ptpTime (atTime s w) % 1000000000 < (s.net.ptp.cfg.ppsWidth * 1000 : Nat)) } })

/-! ### The Crew Fabric (chapter 19) -/

/-- The fabric commands (R377, R395 to R398, Table 19.5): what creating, joining, leaving, querying, draining, naming a standby
and changing the version leave. Model's choices in it: log entry 49. -/
def Obligations.FabricCommandsComplete : Prop :=
  ∀ (s : State) (r : CmdRef) (i : InFlight),
    (Starts s r 0x70 i → s.mode = .ready → s.foreman.platform.headless = false → s.fabric.joining = none →
      100 ≤ u32 i.entry 28 → u32 i.entry 28 ≤ 100000 → 1 ≤ u16 i.entry 34 → u16 i.entry 34 ≤ 600 → ∃ t,
      exec (.fabricCreate r) s = .next t ∧ t.mode = .manager ∧ t.fabric.joined = true ∧ t.fabric.member = 0 ∧ t.fabric.manager = 0 ∧
      t.fabric.term = 1 ∧ t.fabric.epoch = 1 ∧ t.fabric.fabricId = u32 i.entry 24 ∧ t.fabric.timeLimit = u32 i.entry 28 ∧
      t.fabric.port = u16 i.entry 32 ∧ t.fabric.unqualHold = u16 i.entry 34 ∧ t.fabric.members.map (·.1) = [0] ∧
      t.epochCtr = s.epochCtr + 1 ∧ t.sessions = s.sessions) ∧
    (Starts s r 0x71 i → s.mode = .ready → s.fabric.joining = none → ∃ t, exec (.fabricJoin r) s = .next t ∧
      t.fabric.joining = some (some r, s.now) ∧ t.fabric.fabricId = u32 i.entry 24 ∧ t.fabric.joined = s.fabric.joined ∧
      t.mode = .ready ∧ t.epochCtr = s.epochCtr) ∧
    (Starts s r 0x72 i → s.mode ≠ .standalone → s.fabric.joined = true → (s.mode ≠ .ready ∨ s.fabric.joining ≠ none) →
      (s.mode ≠ .manager ∨ fabricSessions s = [] ∨ bitOf (u8 i.entry 24) 0 = true) → ∃ t, exec (.fabricLeave r) s = .next t ∧
      t = configured (leaveFabric (sendClp (markStarted s r) 0x0A clpAll [s.fabric.member, 4, 0])) r 0 ∧ t.mode = .ready ∧
      t.fabric.joined = false ∧ t.fabric.members = []) ∧
    (Starts s r 0x73 i → u8 i.entry 24 = 0 → exec (.fabricQuery r) s = .next (succeed (writeData (markStarted s r) r.fn i.entry
      (([(s.fabric.member, selfMember s)].take (cmdDataLen i.entry / 64)).flatMap (fun p => memberEntry s p.1 p.2)))
      r (min 1 (cmdDataLen i.entry / 64)))) ∧
    (Starts s r 0x73 i → u8 i.entry 24 = 1 → ∃ l : List (Nat × Member), l.map (·.1) = s.fabric.members.map (·.1) ∧
      (∀ p ∈ l, p.1 ≠ s.fabric.member → p ∈ s.fabric.members) ∧ exec (.fabricQuery r) s = .next (succeed (writeData (markStarted s r)
        r.fn i.entry ((l.take (cmdDataLen i.entry / 64)).flatMap (fun p => memberEntry s p.1 p.2)))
        r (min l.length (cmdDataLen i.entry / 64)))) ∧
    (∀ x, Starts s r 0x74 i → s.mode = .manager → memberGet s (u16 i.entry 24) = some x → x.roles = [] → s.fabric.draining = none →
      exec (.fabricDrain r) s = .next (settleDrain (beginEpoch (fabSet (markStarted s r) (fun f => { f with
        draining := some (r, u16 i.entry 24, 0) })) []))) ∧
    (Starts s r 0x75 i → s.mode = .manager → u16 i.entry 24 = 0xFFFF →
      exec (.fabricSetStandby r) s = .next (configured (fabSet (markStarted s r) (fun f => { f with standby := 0xFFFF }))
        r s.fabric.standby)) ∧
    (∀ x, Starts s r 0x75 i → s.mode = .manager → u16 i.entry 24 ≠ s.fabric.member → memberGet s (u16 i.entry 24) = some x →
      x.headless = false → x.quarantined = false → exec (.fabricSetStandby r) s = .next (configured (fabSet (markStarted s r)
        (fun f => { f with standby := u16 i.entry 24 })) r s.fabric.standby)) ∧
    (∀ x, Starts s r 0x75 i → s.mode = .manager → memberGet s (u16 i.entry 24) = some x → u16 i.entry 24 ≠ 0xFFFF → x.headless = true →
      exec (.fabricSetStandby r) s = .next (finish (markStarted s r) r (badField 24))) ∧
    (∀ u, Starts s r 0x76 i → s.mode = .manager → u32 i.entry 28 = 0 →
      u = beginEpoch (fabSet (markStarted s r) (fun f => { f with next := u32 i.entry 24 })) [] → ∃ t,
      exec (.fabricSetVersion r) s = .next t ∧ t = configured u r (heldEpoch u) ∧ t.fabric.next = u32 i.entry 24 ∧
      t.fabric.current = s.fabric.current) ∧
    (Starts s r 0x74 i → s.mode ≠ .manager →
      exec (.fabricDrain r) s = .next (finish (markStarted s r) r (notPermitted (markStarted s r))))

/-- Joining, leases and failover (R379, R385 to R389): what JOIN_REQ, JOIN_ACK, HELLO, LEASE_RENEW and their timers leave.
Model's choices in it: log entries 48, 49. -/
def Obligations.MembershipCompletes : Prop :=
  ∀ (s : State) (w : Nat), asleep s = false →
    (∀ h standby n gm cur nxt, h.macsec = true → h.fabric = s.fabric.fabricId → h.verMajor = 1 → s.fabric.joining = none →
      s.fabric.joined = true → s.fabric.term ≤ h.term → s.mode ≠ .manager →
      exec (.hello h standby n gm cur nxt) s = .next (helloMember (atTime s h.t) h standby cur nxt) ∧
      (s.mode ≠ .quarantine → s.mode ≠ .standby → s.fabric.term = h.term → (s.mode = .worker → standby ≠ s.fabric.member) → ∃ t,
        exec (.hello h standby n gm cur nxt) s = .next t ∧ t.mode = s.mode ∧ t.fabric.lastHello = some (max s.now h.t) ∧
        t.fabric.manager = h.sender ∧ t.fabric.standby = standby ∧ t.fabric.current = cur ∧ t.fabric.next = nxt ∧ t.out = s.out)) ∧
    (∀ h standby n gm cur nxt, h.macsec = true → h.fabric = s.fabric.fabricId → h.verMajor = 1 → s.fabric.joined = true →
      s.fabric.joining = none → h.term < s.fabric.term →
      exec (.hello h standby n gm cur nxt) s = .next (clpDiscard (atTime s h.t))) ∧
    (∀ h standby n gm cur nxt, h.macsec = true → h.fabric = s.fabric.fabricId → h.verMajor = 1 → s.fabric.joining = none →
      s.fabric.joined = true → s.mode = .manager → (s.fabric.term < h.term ∨ (s.fabric.term = h.term ∧ h.sender < s.fabric.member)) →
      exec (.hello h standby n gm cur nxt) s = .next (leaveFabric (atTime s h.t))) ∧
    (s.mode = .manager → (∀ v, s.fabric.lastHelloSent = some v → v + 100000000 ≤ max s.now w) → ∃ t l,
      exec (.helloTimer w) s = .next t ∧ t.out = .clp 0x01 clpAll (tget 0 s.fabric.txSeq clpAll) l :: s.out ∧
      t.fabric.lastHelloSent = some (max s.now w) ∧ t.mode = .manager ∧ t.fabric.members = s.fabric.members) ∧
    (∀ h serial v fw hl q cores mib hash, h.macsec = true → h.fabric = s.fabric.fabricId → s.mode = .manager →
      exec (.joinReq h serial v fw hl q cores mib hash) s = .next (answerJoin (atTime s h.t) h serial v fw hl q) ∧
      (h.verMajor ≠ 1 → exec (.joinReq h serial v fw hl q cores mib hash) s =
        .next (emit (atTime s h.t) (.clp (0x03 + clpIsAck) h.sender h.seq [3, 0, 0xFFFF, 500, hashFor s 0xFFFF]))) ∧
      (∀ m, h.verMajor = 1 → (∀ p ∈ s.fabric.members, p.2.serial ≠ serial) → freeMember s = some m → memberGet s h.sender = none →
        v = s.fabric.current → ∃ t x, exec (.joinReq h serial v fw hl q cores mib hash) s = .next t ∧ memberGet t m = some x ∧
        x.serial = serial ∧ x.version = v ∧ x.headless = hl ∧ x.quarantined = false ∧ x.lastRenew = max s.now h.t ∧
        (t.fabric.standby = if s.fabric.standby = 0xFFFF ∧ hl = false then m else s.fabric.standby))) ∧
    (∀ h result role m lease hash, s.fabric.joining ≠ none → s.fabric.joinSeen = true → h.macsec = true → h.fabric = s.fabric.fabricId →
      (result = 0 ∨ result = 1 → ∃ t, exec (.joinAck h result role m lease hash) s = .next t ∧ t.fabric.joined = true ∧
        t.fabric.member = m ∧ t.fabric.term = h.term ∧ t.fabric.manager = h.sender ∧ t.fabric.epoch = h.epoch ∧
        t.fabric.leaseEnd = some ((s.fabric.joining.map (·.2)).getD 0 + lease * 1000000) ∧ t.fabric.joining = none ∧
        (result = 1 → t.mode = .quarantine) ∧ (t.mode = .quarantine ∨ (role = 2 ∧ t.mode = .standby) ∨ t.mode = .worker)) ∧
      (result = 2 → exec (.joinAck h result role m lease hash) s = .next (endJoin (atTime s h.t) (failWith stNoResource))) ∧
      (result = 3 → exec (.joinAck h result role m lease hash) s =
        .next (endJoin (atTime s h.t) ⟨stVersionMismatch, 0, h.verMajor⟩))) ∧
    (∀ c at_, s.fabric.joining = some (c, at_) → s.fabric.joinSeen = true → (∀ u ∈ s.fabric.unacked, u.kind ≠ 2) →
      at_ + 1001200000 ≤ max s.now w → ∃ t l, exec (.joinRetry w) s = .next t ∧ t.fabric.joining = some (c, max s.now w) ∧
      t.out = .clp (0x02 + clpAckReq) s.fabric.manager (tget 0 s.fabric.txSeq s.fabric.manager) l :: s.out) ∧
    (∀ v, s.mode = .ready → s.foreman.platform.headless = true → s.fabric.joining = none → s.fabric.rejoinAt = some v →
      v ≤ max s.now w → exec (.headlessRejoin w) s = .next (startJoin (atTime s w) s.foreman.platform.fabricId
        s.foreman.platform.groupAddress none)) ∧
    (∀ h st un off gm, Heard s h → exec (.leaseRenew h st un off gm) s =
        .next (clpAck (renewIn (heardAt s h) h st un off gm) h 0x04 [500]) ∧
      (s.mode = .manager → un = 0xFFFF → bitOf st 0 = true → h.ackReq = true → ∃ t x,
        exec (.leaseRenew h st un off gm) s = .next t ∧ memberGet t h.sender = some x ∧ x.status = st ∧ x.lastRenew = max s.now h.t ∧
        x.unqualSince = none ∧ t.out = .clp (0x04 + clpIsAck) h.sender h.seq [500] :: s.out ∧
        (∀ m, m ≠ h.sender → memberGet t m = memberGet s m))) ∧
    (s.fabric.joined = true → s.mode ≠ .manager → (∀ v, s.fabric.lastRenew = some v → v + 100000000 ≤ max s.now w) → ∃ t l,
      exec (.leaseRenewTimer w) s = .next t ∧ t.fabric.lastRenew = some (max s.now w) ∧
      t.out = .clp (0x04 + clpAckReq) s.fabric.manager (tget 0 s.fabric.txSeq s.fabric.manager) l :: s.out) ∧
    (∀ v, s.fabric.joined = true → s.mode ≠ .manager → s.fabric.leaseEnd = some v → v ≤ max s.now w →
      exec (.leaseExpiry w) s = .next (class4 (recordFault (atTime s w) 45 4 none))) ∧
    (∀ m x, s.mode = .manager → memberGet s m = some x → x.lastRenew + 500000000 ≤ max s.now w →
      exec (.memberLost m w) s = .next (loseMember (atTime s w) m 1 true) ∧
      (m = s.fabric.member → exec (.memberLost m w) s = .next (atTime s w))) ∧
    (∀ v, s.mode = .standby → s.fabric.qualified = true → s.fabric.heldMsgs = [] → s.fabric.lastHello = some v →
      v + 310000000 ≤ max s.now w → ∃ t l, exec (.managerTakeover w) s = .next t ∧ t.mode = .manager ∧
      t.fabric.term = s.fabric.term + 1 ∧ t.fabric.manager = s.fabric.member ∧ t.fabric.leaseEnd = none ∧ t.fabric.epoch = s.fabric.epoch ∧
      t.out.head? = some (.clp 0x01 clpAll (tget 0 s.fabric.txSeq clpAll) l))

/-- Messages of the Crew Link that a member hears (R175, R177, R183 to R190, R381 to R384, R391, R393), the ones it discards,
and acknowledgements: each message's effect, then its acknowledgement. Model's choices in it: log entries 10, 47, 50. -/
def Obligations.FabricMessagesComplete : Prop :=
  ∀ (s : State) (h : ClpHdr) (session frame : Nat),
    (asleep s = false → ∀ st un off gm,
      (h.macsec = false → exec (.leaseRenew h st un off gm) s =
        .next (fabSet (atTime s h.t) (fun f => { f with unprotected := f.unprotected + 1 }))) ∧
      (h.macsec = true → (h.fabric ≠ s.fabric.fabricId ∨ h.verMajor ≠ 1 ∨ s.fabric.joined = false ∨ h.term < s.fabric.term) →
        exec (.leaseRenew h st un off gm) s = .next (clpDiscard (atTime s h.t)))) ∧
    (asleep s = false → h.macsec = true → h.fabric = s.fabric.fabricId → h.verMajor = 1 → s.fabric.joined = true →
      s.fabric.term ≤ h.term → s.mode ≠ .manager → heldEpoch s < h.epoch → ∀ rc rl, ∃ t,
      exec (.commit h session frame rc rl) s = .next t ∧
      t.fabric.heldMsgs = s.fabric.heldMsgs ++ [(.commit h session frame rc rl, h.epoch, max s.now h.t)] ∧
      t.out = .clp 0x0C s.fabric.manager (tget 0 s.fabric.txSeq s.fabric.manager) [] :: s.out ∧ t.sessions = s.sessions) ∧
    (Heard s h →
      (∀ role region c, epochFor s session frame ≤ h.epoch → assignOk s h session role region c = true →
        assignOk (heardAt s h) h session role region c = true → h.dest = s.fabric.member →
        exec (.assign h session role region frame c) s = .next (clpAck (assignOwn (heardAt s h) session role region frame c) h 0x05 [])) ∧
      (∀ role region c, epochFor s session frame ≤ h.epoch → assignOk s h session role region c = false →
        assignOk (heardAt s h) h session role region c = false →
        exec (.assign h session role region frame c) s = .next (clpAck (heardAt s h) h (0x05 + clpNak) [])) ∧
      (∀ x b l, sessOfFabric s session = some x → exec (.ledger h session 1 frame b l) s = .next (clpAck (sessPut (heardAt s h)
        { x with dist := { x.dist with stats := l.foldl (fun t p => tset t p.1 p.2) x.dist.stats } }) h 0x06 [])) ∧
      (∀ b l, (s.mode ≠ .manager ∨ sessOfFabric s session = none) → exec (.ledger h session 0 frame b l) s =
        .next (clpAck (heardAt s h) h 0x06 [])) ∧
      (∀ x u k, sessOfFabric s session = some x → epochFor s session frame ≤ h.epoch → bitOf u.flags 4 = true →
        exec (.stats h session frame k u) s = .next (clpAck (answerStats (heardAt s h) x h.sender frame k) h 0x07 [])) ∧
      (∀ x u k, sessOfFabric s session = some x → epochFor s session frame ≤ h.epoch → bitOf u.flags 4 = false →
        s.fabric.draining = none → exec (.stats h session frame k u) s = .next (clpAck (takeStats (heardAt s h) x h.sender frame k u) h 0x07 [])) ∧
      (∀ x rc rl, sessOfFabric s session = some x → exec (.commit h session frame rc rl) s =
        .next (clpAck (sessPut (heardAt s h) (coverCommit x frame rc rl)) h 0x08 [])) ∧
      (∀ x k crc rf, sessOfFabric s session = some x → exec (.seamCheck h session frame k crc rf) s =
        .next (clpAck (seamCheckTake (heardAt s h) x h.sender frame k crc rf) h 0x09 [])) ∧
      (∀ reason, exec (.fence h s.fabric.member reason session) s = .next (clpAck (fencedSelf (heardAt s h) reason session) h 0x0A [])) ∧
      (∀ m reason, m ≠ s.fabric.member → s.mode = .manager → exec (.fence h m reason session) s =
        .next (clpAck (fencedOther (heardAt s h) m session) h 0x0A [])) ∧
      (∀ m reason, m ≠ s.fabric.member → s.mode = .worker → exec (.fence h m reason session) s =
        .next (clpAck (heardAt s h) h 0x0A [])) ∧
      (∀ x region m first, sessOfFabric s session = some x → exec (.promote h session region m frame first) s =
        .next (clpAck (promoteHere (heardAt s h) x region m frame first) h 0x0B [])) ∧
      (∀ mp gm d lim, s.mode ≠ .manager → ∃ t, exec (.timeCheck h mp gm d lim) s = .next t ∧ t.fabric.checkGm = gm ∧
        t.fabric.timeLimit = lim ∧ t.fabric.lastCheck = some (max s.now h.t) ∧ t.mode = s.mode ∧
        (t.fabric.qualified = true → s.fabric.qualified = true ∧ (ptpGet s).gm = gm ∧ (ptpGet s).offsetNs.natAbs ≤ lim)) ∧
      (∀ x band b, sessOfFabric s session = some x → x.dist.outcast = [] → ∃ t y,
        exec (.haloStrip h session frame band b) s = .next t ∧ tfind t.sessions (x.id % 256) = some y ∧
        y.dist.strips = x.dist.strips ++ (regionsOf x h.sender).map (fun q => (frame, band, q))) ∧
      (∀ x band b, sessOfFabric s session = some x → frameOf x frame = none → x.dist.outcast = [] → ∃ t y,
        exec (.seamStrip h session frame band b) s = .next t ∧ tfind t.sessions (x.id % 256) = some y ∧
        y.dist.seams = x.dist.seams ++ (regionsOf x h.sender).map (fun q => (frame, band, q))) ∧
      (∀ x d k crcs u, sessOfFabric s session = some x → s.mode = .manager → d.referee = some h.sender →
        x.dist.diverging.find? (fun v => v.frame == frame && v.unit == k) = some d → exec (.refereeResult h session frame k crcs u) s =
        .next (clpAck (decideReferee (heardAt s h) x d u) h 0x0E [])) ∧
      (∀ hash v l, s.mode = .worker → prepareOk s hash v = false →
        exec (.epochAdvance h 0 frame hash v l) s = .next (clpAck (epochPhase (heardAt s h) 0 frame hash v l) h (0x0C + clpNak) [])) ∧
      (∀ hash v l, s.mode = .worker → v = ownVersion s → s.fabric.hashBad = false → s.fabric.heldMsgs = [] → ∃ t,
        exec (.epochAdvance h 1 frame hash v l) s = .next t ∧ t.fabric.epoch = frame ∧ t.fabric.prepared = none ∧ t.mode = .worker ∧
        t.fabric.epochs.map (·.epoch) = frame :: s.fabric.epochs.map (·.epoch))) ∧
    (∀ kind seq nak lease u, asleep s = false → h.macsec = true → h.fabric = s.fabric.fabricId → h.verMajor = 1 →
      s.fabric.joined = true → s.fabric.term ≤ h.term → s.fabric.unacked.find? (fun u => u.dest == h.sender && u.seq == seq && u.kind == kind) = some u →
      ∃ t, exec (.clpAckReceived h kind seq nak lease) s = .next t ∧
      (kind = 0x04 → t.fabric.leaseEnd = some (u.sentAt + lease * 1000000) ∧ t.fabric.unacked = s.fabric.unacked.filter (· ≠ u) ∧
        t.mode = s.mode) ∧
      (kind ≠ 0x04 → kind ≠ 0x0C → t.fabric.unacked = s.fabric.unacked.filter (· ≠ u) ∧ t.sessions = s.sessions))

/-- Timers of the fabric and of distributed sessions (R175, R178, R184, R189, R382, R384, R391, R393), and slice transfers
(R184, R190). Model's choices in it: log entry 50. -/
def Obligations.FabricTimersComplete : Prop :=
  ∀ (s : State) (session frame w : Nat), asleep s = false →
    (s.mode = .manager → (∀ v, s.fabric.lastCheck = some v → v + 1000000000 ≤ max s.now w) → ∃ t l,
      exec (.timeCheckTimer w) s = .next t ∧ t.fabric.lastCheck = some (max s.now w) ∧ t.fabric.checkGm = (ptpGet s).gm ∧
      t.out = .clp 0x0D clpAll (tget 0 s.fabric.txSeq clpAll) l :: s.out) ∧
    (∀ v, s.fabric.joined = true → timeHolds s = true → s.fabric.qualSince = some v → v + 1000000000 ≤ max s.now w → ∃ t,
      exec (.timeQualified w) s = .next t ∧ t.fabric.qualified = true ∧ t.mode = s.mode ∧ t.sessions = s.sessions) ∧
    (∀ m x v, s.mode = .manager → memberGet s m = some x → x.unqualSince = some v →
      v + s.fabric.unqualHold * 1000000000 ≤ max s.now w →
      exec (.unqualHoldExpiry m w) s = .next (moveRoles (atTime s w) m (fun r => r == 0 || r == 1))) ∧
    (∀ d q u, s.fabric.unacked.find? (fun u => u.dest == d && u.seq == q) = some u → u.sentAt + (u.tries + 1) * 200000 ≤ max s.now w →
      (u.tries < 5 → ∃ t, exec (.clpRetransmit d q w) s = .next t ∧ t.fabric.retransmits = s.fabric.retransmits + 1 ∧
        t.out = .clp (u.kind + clpAckReq + clpRetx) d q u.fields :: s.out ∧
        t.fabric.unacked = s.fabric.unacked.map (fun v => if v = u then { v with tries := v.tries + 1 } else v)) ∧
      (5 ≤ u.tries → exec (.clpRetransmit d q w) s = .next (giveUp (fabSet (atTime s w)
        (fun f => { f with unacked := f.unacked.filter (· ≠ u) })) u))) ∧
    (s.fabric.joined = true → s.mode ≠ .manager → (∀ v, s.fabric.lastDigest = some v → v + 1000000000 ≤ max s.now w) →
      fabricSessions s = [] → exec (.ledgerDigestTimer w) s =
        .next (fabSet (atTime s w) (fun f => { f with lastDigest := some (max s.now w) }))) ∧
    (∀ x f, s.fabric.joined = true → s.mode ≠ .manager → (∀ v, s.fabric.lastDigest = some v → v + 1000000000 ≤ max s.now w) →
      fabricSessions s = [x] → x.enc.frames.getLast? = some f → ∃ t, exec (.ledgerDigestTimer w) s = .next t ∧
      t.fabric.lastDigest = some (max s.now w) ∧ t.out = .clp (0x06 + clpAckReq) s.fabric.manager
        (tget 0 s.fabric.txSeq s.fabric.manager) [x.dist.fabricSession, 0, f.number, crc32 (be 8 f.target)] :: s.out) ∧
    (∀ x k m, sessOfFabric s session = some x → primaryOf x (unitRegion x frame k) = some m →
      statsMissing (atTime s w) x frame k 200000 = true → statsMissing (atTime s w) x frame k (statsTimeoutNs x) = false → ∃ t,
      exec (.statsRequest session frame k w) s = .next t ∧ t.fabric.statsRequests = s.fabric.statsRequests + 1 ∧
      t.out = .clp (0x07 + clpAckReq) m (tget 0 s.fabric.txSeq m) [session, frame, k, 0, 0, 0, 0, 0, 0, 0, 16] :: s.out) ∧
    (∀ x k m, sessOfFabric s session = some x → primaryOf x (unitRegion x frame k) = some m → x.dist.roles.any (fun r => r.2 == 1) = false →
      statsMissing (atTime s w) x frame k (statsTimeoutNs x) = true → s.mode ≠ .manager → ∃ t l,
      exec (.statsTimeout session frame k w) s = .next t ∧ t.fabric.unreachable = m ∧
      t.out = .clp (0x04 + clpAckReq) s.fabric.manager (tget 0 s.fabric.txSeq s.fabric.manager) l :: s.out) ∧
    (∀ x k m, sessOfFabric s session = some x → primaryOf x (unitRegion x frame k) = some m → x.dist.roles.any (fun r => r.2 == 1) = false →
      statsMissing (atTime s w) x frame k (statsTimeoutNs x) = true → s.mode = .manager →
      exec (.statsTimeout session frame k w) s = .next (loseMember (atTime s w) m 3 true)) ∧
    (∀ x d k, s.mode = .manager → sessOfFabric s session = some x → d.referee = none → d.since + statsTimeoutNs x ≤ max s.now w →
      x.dist.diverging.find? (fun v => v.frame == frame && v.unit == k) = some d →
      exec (.refereeTimeout session frame k w) s = .next (noMajority (dropDivergence (atTime s w) session frame k) x d)) ∧
    (∀ e, s.fabric.heldMsgs.any (fun m => m.2.1 == e && decide (m.2.2 + 10000000 ≤ max s.now w)) = true → heldEpoch s < e → s.mode = .worker →
      exec (.epochHoldTimeout e w) s = .next (quarantine (fabSet (atTime s w)
        (fun f => { f with heldMsgs := f.heldMsgs.filter (fun m => m.2.1 ≠ e) })))) ∧
    (∀ g x, s.fabric.joined = true → sessOfFabric s g.session = some x → collates x = true →
      epochFor s g.session g.frame ≤ g.epoch → g.epoch ≤ heldEpoch s →
      (x.dist.outcast.contains (g.region, g.sender) = true → exec (.sliceTransfer g w) s = .next (clpDiscard (atTime s w))) ∧
      (x.dist.outcast = [] → tfind x.dist.slices (statsKey g.frame g.index) = none → sliceParts x g = [] →
        g.offset = 0 → bitOf g.flags 0 = true →
        (g.crc ≠ crc32 g.data → ∃ t y, exec (.sliceTransfer g w) s = .next t ∧ tfind t.sessions (x.id % 256) = some y ∧
          y.dist.badCrc = x.dist.badCrc + 1 ∧ y.dist.slices = x.dist.slices) ∧
        (g.crc = crc32 g.data → collator x = false → ∃ t y, exec (.sliceTransfer g w) s = .next t ∧
          tfind t.sessions (x.id % 256) = some y ∧ tfind y.dist.slices (statsKey g.frame g.index) = some g.data)) ∧
      (x.dist.outcast = [] → (∃ b, tfind x.dist.slices (statsKey g.frame g.index) = some b) → exec (.sliceTransfer g w) s =
        .next (sessPut (atTime s w) { x with dist := { x.dist with duplicates := x.dist.duplicates + 1 } }))) ∧
    (∀ x f k, sessOfFabric s session = some x → frameOf x frame = some f → overdue x frame k 1 (max s.now w) = true →
      exec (.sliceResendTimer session frame k w) s =
        .next (resendSlice (sessPut (atTime s w) (resent x frame k 1 (max s.now w))) x f k)) ∧
    (∀ x f k, sessOfFabric s session = some x → frameOf x frame = some f → overdue x frame k 0 (max s.now w) = true → ∃ t,
      exec (.haloResendTimer session frame k w) s = .next t ∧
      t.out = .packet x.id 0xF0 [x.dist.fabricSession, frame, k] (Config.unitBytes 0xF0 f.cfg frame [k]) :: s.out ∧
      tfind t.sessions (x.id % 256) = some (resent x frame k 0 (max s.now w)))

/-! ### The whole machine -/

/-- A step takes the command at the front of the queue and runs it on the state with the queue's rest; on an empty queue the
block idles (log entry 1); no word of the table spells a command (log entry 7). -/
def Obligations.StepRunsTheFrontCommand : Prop :=
  (∀ (c : Instr) (s : State), step { s with pending := c :: s.pending } = exec c s) ∧
  (∀ (c : Instr) (l : List Instr) (s : State), s.pending = c :: l → step s = exec c { s with pending := l }) ∧
  (∀ s : State, s.pending = [] → step s = .next s) ∧
  (∀ (s : State) (n w : Nat), s.withFetchWord n w = s)

/-- What reset leaves (Tables 11.3 to 11.5, 12.1, 17.3, 18.3, 20.2, R206, R284, R344, R480): MODE Secure Boot and READY 0, the
PF's grants, every cause masked, every host channel the PF's, an empty Larder, no fault recorded, the table and clock defaults,
IDCODE. -/
def Obligations.ResetLeavesTheStatedValues : Prop :=
  ∀ s : State, s = State.reset →
    s.mode = .secureBoot ∧ s.ready = false ∧ s.degraded = false ∧ s.pending = [] ∧
    (fnGet s 0).qpGrant = 64 ∧ (fnGet s 0).sessGrant = 256 ∧ (fnGet s 0).hbmUnits = 64 ∧
    (∀ n, n ≠ 0 → (fnGet s n).qpGrant = 0 ∧ (fnGet s n).sessGrant = 0 ∧ (fnGet s n).hbmUnits = 0) ∧
    (∀ n, (fnGet s n).intrCause = 0 ∧ (fnGet s n).intrMask = 0x1FF ∧ (fnGet s n).mbEnabled = false ∧ (fnGet s n).hostOob = 0) ∧
    (∀ ch, (dmaGet s ch).owner = 0 ∧ (dmaGet s ch).state = .idle) ∧ s.larder.published = false ∧ s.sessions = [] ∧ s.qps = [] ∧
    s.canary.status = 0 ∧ s.canary.classMax = 0 ∧ s.canary.faultN = true ∧ s.canary.thermtripN = true ∧
    s.tables.agingS = 300 ∧ s.tables.dampMs = 1000 ∧ s.net.ptp.cfg.domain = 127 ∧ s.net.ptp.cfg.priority1 = 128 ∧
    s.net.ptp.cfg.stepNs = 100000 ∧ s.tap.code = 0x01 ∧ s.sec.keys = [] ∧ s.fabric.joined = false ∧ Kept s

/-- A command stops exactly when it names a unit that the part does not have, is refused only as a private TAP code that the
lifecycle leaves open, and otherwise answers a next state, which leaves the waiting commands as they are. Model's choices in it:
log entries 4, 60. -/
def Obligations.StopsAreNamed : Prop :=
  ∀ (c : Instr) (s : State),
    ((∃ t, exec c s = .next t ∧ t.pending = s.pending) ∨ exec c s = .fault .noSuchUnit ∨ exec c s = .refused .privateTap) ∧
    (exec c s = .fault .noSuchUnit ↔ c.wf = false) ∧
    (exec c s = .refused .privateTap → ∃ code k w, c = .tapUpdateIr code k w ∧ 0x81 ≤ code.toNat ∧ code ≠ 0xFF ∧
      asleep s = false ∧ privateOpen s = true)

/-- READY follows the mode, Lockdown keeps the device sealed, and the HBM's bytes keep their canonical form, at every step
(R250, R409, Table 12.1). Model's choices in it: log entry 5. -/
def Obligations.EveryStepKeepsTheInvariant : Prop :=
  ∀ s t : State, Kept s → step s = .next t → Kept t

/-- Off is left only by COLD_RESET, and Lockdown only by removing power: in them every other command leaves the whole state as
it is, but for the zeros of a BAR2 read and the TAP's own registers in Lockdown (R409, R466, R479, R483, Table 12.2). Model's
choices in it: log entry 62. -/
def Obligations.OffAndLockdownEndByPowerAlone : Prop :=
  ∀ (c : Instr) (s t : State), exec c s = .next t →
    (s.mode = .off → t = s ∨ ∃ w, c = .coldReset w ∧ t.mode = .secureBoot ∧ t.ready = false) ∧
    (s.mode = .lockdown → t = s ∨ (c = .powerRemoved ∧ t.mode = .off) ∨
      (∃ fn off len, c = .bar2Access fn off (.read len) ∧ t = emit s (.readData fn (zeros len) false)) ∨
      (((∃ code k w, c = .tapUpdateIr code k w) ∨ c = .tapReset) ∧ t = { s with now := t.now, tap := t.tap } ∧
        (t.tap.pins = 0x01 ∨ t.tap.pins = 0x02 ∨ t.tap.pins = 0xFF)))

/-- Modes are entered only as Table 12.2 has it (R247, R409): Standalone and Dormant from Ready by their commands, Off by
removing power, Provisioning from Secure Boot, Manager from Ready or Standby Manager, Lockdown with the device sealed. Model's
choices in it: log entry 49. -/
def Obligations.ModesAreEnteredAsTheTableHasIt : Prop :=
  ∀ (c : Instr) (s t : State), exec c s = .next t → s.mode ≠ t.mode →
    (t.mode = .standalone → s.mode = .ready ∧ ∃ r, c = .setMode r) ∧
    (t.mode = .dormant → s.mode = .ready ∧ ∃ r, c = .setPowerState r) ∧
    (t.mode = .off → c = .powerRemoved) ∧
    (t.mode = .provisioning → (s.mode = .secureBoot ∧ ∃ i, c = .secureBoot i) ∨ s.hbm.hotWait = true) ∧
    (t.mode = .manager → (s.mode = .ready ∧ ∃ r, c = .fabricCreate r) ∨ s.mode = .standby) ∧
    (t.mode = .lockdown → s.mode ≠ .off ∧ sealedDown t = true)

/-- Frames: a command leaves the modes, the registers of the host interface, the mailbox and the DMA channels that it is not
named as writing (`writes`). Model's choices in it: log entry 6. -/
def Obligations.HostPartsKeepTheirFrame : Prop :=
  ∀ (c : Instr) (s t : State) (p : Part), exec c s = .next t → p ∉ writes c →
    p ∈ [.mode, .degraded, .ready, .epochCtr, .vfEnabled, .fns, .qps, .round, .dma, .dmaCycle] → p.same s t

/-- Frames: a command leaves the fault collector, the Larder, the Foreman, the security island, power, HBM, every byte of the
HBM, the TAP and the pins as they are unless it is named as writing them. Model's choices in it: log entry 5. -/
def Obligations.ManagementPartsKeepTheirFrame : Prop :=
  ∀ (c : Instr) (s t : State) (p : Part), exec c s = .next t → p ∉ writes c →
    p ∈ [.canary, .larder, .foreman, .sec, .power, .hbm, .memory, .tap, .pins] →
    p.same s t ∧ (p = .memory → ∀ a, memByte t.hbm.mem a = memByte s.hbm.mem a)

/-- Frames: a command leaves sessions, cores, clusters, pixel ports, the switch, the tables, the network and the fabric as they
are unless it is named as writing them. -/
def Obligations.CodingPartsKeepTheirFrame : Prop :=
  ∀ (c : Instr) (s t : State) (p : Part), exec c s = .next t → p ∉ writes c →
    p ∈ [.sessions, .slotGen, .cores, .clusters, .px, .sw, .tables, .net, .fabric] → p.same s t

end
end

