-- ==== Sys2Proof/Laws/State.lean ====
section
/-! SUPPORT. What each update of one part of the state leaves unchanged, and what reading after writing gives. -/

namespace Sys2Proof.Machine

@[simp] theorem atTime_frame (s : State) (t : Nat) :
    (atTime s t).pending = s.pending ∧ (atTime s t).freeCtr = s.freeCtr ∧ (atTime s t).out = s.out ∧ 
    (atTime s t).mode = s.mode ∧ (atTime s t).degraded = s.degraded ∧ (atTime s t).ready = s.ready ∧ 
    (atTime s t).epochCtr = s.epochCtr ∧ (atTime s t).vfEnabled = s.vfEnabled ∧ (atTime s t).fns = s.fns ∧ 
    (atTime s t).qps = s.qps ∧ (atTime s t).round = s.round ∧ (atTime s t).dma = s.dma ∧ (atTime s t).dmaCycle = s.dmaCycle ∧ 
    (atTime s t).sessions = s.sessions ∧ (atTime s t).slotGen = s.slotGen ∧ (atTime s t).cores = s.cores ∧ 
    (atTime s t).clusters = s.clusters ∧ (atTime s t).canary = s.canary ∧ (atTime s t).larder = s.larder ∧ 
    (atTime s t).foreman = s.foreman ∧ (atTime s t).sec = s.sec ∧ (atTime s t).power = s.power ∧ (atTime s t).hbm = s.hbm ∧ 
    (atTime s t).tap = s.tap ∧ (atTime s t).pins = s.pins ∧ (atTime s t).px = s.px ∧ (atTime s t).sw = s.sw ∧ 
    (atTime s t).tables = s.tables ∧ (atTime s t).net = s.net ∧ (atTime s t).fabric = s.fabric := by
  simp [atTime]

@[simp] theorem emit_frame (s : State) (o : OutItem) :
    (emit s o).pending = s.pending ∧ (emit s o).now = s.now ∧ (emit s o).freeCtr = s.freeCtr ∧ (emit s o).mode = s.mode ∧ 
    (emit s o).degraded = s.degraded ∧ (emit s o).ready = s.ready ∧ (emit s o).epochCtr = s.epochCtr ∧ 
    (emit s o).vfEnabled = s.vfEnabled ∧ (emit s o).fns = s.fns ∧ (emit s o).qps = s.qps ∧ (emit s o).round = s.round ∧ 
    (emit s o).dma = s.dma ∧ (emit s o).dmaCycle = s.dmaCycle ∧ (emit s o).sessions = s.sessions ∧ 
    (emit s o).slotGen = s.slotGen ∧ (emit s o).cores = s.cores ∧ (emit s o).clusters = s.clusters ∧ 
    (emit s o).canary = s.canary ∧ (emit s o).larder = s.larder ∧ (emit s o).foreman = s.foreman ∧ (emit s o).sec = s.sec ∧ 
    (emit s o).power = s.power ∧ (emit s o).hbm = s.hbm ∧ (emit s o).tap = s.tap ∧ (emit s o).pins = s.pins ∧ 
    (emit s o).px = s.px ∧ (emit s o).sw = s.sw ∧ (emit s o).tables = s.tables ∧ (emit s o).net = s.net ∧ 
    (emit s o).fabric = s.fabric := by
  simp [emit]

@[simp] theorem fnSet_frame (s : State) (n : Nat) (x : FnState) :
    (fnSet s n x).pending = s.pending ∧ (fnSet s n x).now = s.now ∧ (fnSet s n x).freeCtr = s.freeCtr ∧ 
    (fnSet s n x).out = s.out ∧ (fnSet s n x).mode = s.mode ∧ (fnSet s n x).degraded = s.degraded ∧ 
    (fnSet s n x).ready = s.ready ∧ (fnSet s n x).epochCtr = s.epochCtr ∧ (fnSet s n x).vfEnabled = s.vfEnabled ∧ 
    (fnSet s n x).qps = s.qps ∧ (fnSet s n x).round = s.round ∧ (fnSet s n x).dma = s.dma ∧ 
    (fnSet s n x).dmaCycle = s.dmaCycle ∧ (fnSet s n x).sessions = s.sessions ∧ (fnSet s n x).slotGen = s.slotGen ∧ 
    (fnSet s n x).cores = s.cores ∧ (fnSet s n x).clusters = s.clusters ∧ (fnSet s n x).canary = s.canary ∧ 
    (fnSet s n x).larder = s.larder ∧ (fnSet s n x).foreman = s.foreman ∧ (fnSet s n x).sec = s.sec ∧ 
    (fnSet s n x).power = s.power ∧ (fnSet s n x).hbm = s.hbm ∧ (fnSet s n x).tap = s.tap ∧ (fnSet s n x).pins = s.pins ∧ 
    (fnSet s n x).px = s.px ∧ (fnSet s n x).sw = s.sw ∧ (fnSet s n x).tables = s.tables ∧ (fnSet s n x).net = s.net ∧ 
    (fnSet s n x).fabric = s.fabric := by
  simp [fnSet]

@[simp] theorem sessPut_frame (s : State) (x : Session) :
    (sessPut s x).pending = s.pending ∧ (sessPut s x).now = s.now ∧ (sessPut s x).freeCtr = s.freeCtr ∧ 
    (sessPut s x).out = s.out ∧ (sessPut s x).mode = s.mode ∧ (sessPut s x).degraded = s.degraded ∧ 
    (sessPut s x).ready = s.ready ∧ (sessPut s x).epochCtr = s.epochCtr ∧ (sessPut s x).vfEnabled = s.vfEnabled ∧ 
    (sessPut s x).fns = s.fns ∧ (sessPut s x).qps = s.qps ∧ (sessPut s x).round = s.round ∧ (sessPut s x).dma = s.dma ∧ 
    (sessPut s x).dmaCycle = s.dmaCycle ∧ (sessPut s x).slotGen = s.slotGen ∧ (sessPut s x).cores = s.cores ∧ 
    (sessPut s x).clusters = s.clusters ∧ (sessPut s x).canary = s.canary ∧ (sessPut s x).larder = s.larder ∧ 
    (sessPut s x).foreman = s.foreman ∧ (sessPut s x).sec = s.sec ∧ (sessPut s x).power = s.power ∧ (sessPut s x).hbm = s.hbm ∧ 
    (sessPut s x).tap = s.tap ∧ (sessPut s x).pins = s.pins ∧ (sessPut s x).px = s.px ∧ (sessPut s x).sw = s.sw ∧ 
    (sessPut s x).tables = s.tables ∧ (sessPut s x).net = s.net ∧ (sessPut s x).fabric = s.fabric := by
  simp [sessPut]

@[simp] theorem qpPut_frame (s : State) (x : QueuePair) :
    (qpPut s x).pending = s.pending ∧ (qpPut s x).now = s.now ∧ (qpPut s x).freeCtr = s.freeCtr ∧ (qpPut s x).out = s.out ∧ 
    (qpPut s x).mode = s.mode ∧ (qpPut s x).degraded = s.degraded ∧ (qpPut s x).ready = s.ready ∧ 
    (qpPut s x).epochCtr = s.epochCtr ∧ (qpPut s x).vfEnabled = s.vfEnabled ∧ (qpPut s x).fns = s.fns ∧ 
    (qpPut s x).round = s.round ∧ (qpPut s x).dma = s.dma ∧ (qpPut s x).dmaCycle = s.dmaCycle ∧ 
    (qpPut s x).sessions = s.sessions ∧ (qpPut s x).slotGen = s.slotGen ∧ (qpPut s x).cores = s.cores ∧ 
    (qpPut s x).clusters = s.clusters ∧ (qpPut s x).canary = s.canary ∧ (qpPut s x).larder = s.larder ∧ 
    (qpPut s x).foreman = s.foreman ∧ (qpPut s x).sec = s.sec ∧ (qpPut s x).power = s.power ∧ (qpPut s x).hbm = s.hbm ∧ 
    (qpPut s x).tap = s.tap ∧ (qpPut s x).pins = s.pins ∧ (qpPut s x).px = s.px ∧ (qpPut s x).sw = s.sw ∧ 
    (qpPut s x).tables = s.tables ∧ (qpPut s x).net = s.net ∧ (qpPut s x).fabric = s.fabric := by
  simp [qpPut]

@[simp] theorem coreSet_frame (s : State) (n : Nat) (x : CoreState) :
    (coreSet s n x).pending = s.pending ∧ (coreSet s n x).now = s.now ∧ (coreSet s n x).freeCtr = s.freeCtr ∧ 
    (coreSet s n x).out = s.out ∧ (coreSet s n x).mode = s.mode ∧ (coreSet s n x).degraded = s.degraded ∧ 
    (coreSet s n x).ready = s.ready ∧ (coreSet s n x).epochCtr = s.epochCtr ∧ (coreSet s n x).vfEnabled = s.vfEnabled ∧ 
    (coreSet s n x).fns = s.fns ∧ (coreSet s n x).qps = s.qps ∧ (coreSet s n x).round = s.round ∧ (coreSet s n x).dma = s.dma ∧ 
    (coreSet s n x).dmaCycle = s.dmaCycle ∧ (coreSet s n x).sessions = s.sessions ∧ (coreSet s n x).slotGen = s.slotGen ∧ 
    (coreSet s n x).clusters = s.clusters ∧ (coreSet s n x).canary = s.canary ∧ (coreSet s n x).larder = s.larder ∧ 
    (coreSet s n x).foreman = s.foreman ∧ (coreSet s n x).sec = s.sec ∧ (coreSet s n x).power = s.power ∧ 
    (coreSet s n x).hbm = s.hbm ∧ (coreSet s n x).tap = s.tap ∧ (coreSet s n x).pins = s.pins ∧ (coreSet s n x).px = s.px ∧ 
    (coreSet s n x).sw = s.sw ∧ (coreSet s n x).tables = s.tables ∧ (coreSet s n x).net = s.net ∧ 
    (coreSet s n x).fabric = s.fabric := by
  simp [coreSet]

@[simp] theorem clSet_frame (s : State) (n : Nat) (x : ClusterState) :
    (clSet s n x).pending = s.pending ∧ (clSet s n x).now = s.now ∧ (clSet s n x).freeCtr = s.freeCtr ∧ 
    (clSet s n x).out = s.out ∧ (clSet s n x).mode = s.mode ∧ (clSet s n x).degraded = s.degraded ∧ 
    (clSet s n x).ready = s.ready ∧ (clSet s n x).epochCtr = s.epochCtr ∧ (clSet s n x).vfEnabled = s.vfEnabled ∧ 
    (clSet s n x).fns = s.fns ∧ (clSet s n x).qps = s.qps ∧ (clSet s n x).round = s.round ∧ (clSet s n x).dma = s.dma ∧ 
    (clSet s n x).dmaCycle = s.dmaCycle ∧ (clSet s n x).sessions = s.sessions ∧ (clSet s n x).slotGen = s.slotGen ∧ 
    (clSet s n x).cores = s.cores ∧ (clSet s n x).canary = s.canary ∧ (clSet s n x).larder = s.larder ∧ 
    (clSet s n x).foreman = s.foreman ∧ (clSet s n x).sec = s.sec ∧ (clSet s n x).power = s.power ∧ (clSet s n x).hbm = s.hbm ∧ 
    (clSet s n x).tap = s.tap ∧ (clSet s n x).pins = s.pins ∧ (clSet s n x).px = s.px ∧ (clSet s n x).sw = s.sw ∧ 
    (clSet s n x).tables = s.tables ∧ (clSet s n x).net = s.net ∧ (clSet s n x).fabric = s.fabric := by
  simp [clSet]

@[simp] theorem dmaSet_frame (s : State) (n : Nat) (x : DmaChannel) :
    (dmaSet s n x).pending = s.pending ∧ (dmaSet s n x).now = s.now ∧ (dmaSet s n x).freeCtr = s.freeCtr ∧ 
    (dmaSet s n x).out = s.out ∧ (dmaSet s n x).mode = s.mode ∧ (dmaSet s n x).degraded = s.degraded ∧ 
    (dmaSet s n x).ready = s.ready ∧ (dmaSet s n x).epochCtr = s.epochCtr ∧ (dmaSet s n x).vfEnabled = s.vfEnabled ∧ 
    (dmaSet s n x).fns = s.fns ∧ (dmaSet s n x).qps = s.qps ∧ (dmaSet s n x).round = s.round ∧ 
    (dmaSet s n x).dmaCycle = s.dmaCycle ∧ (dmaSet s n x).sessions = s.sessions ∧ (dmaSet s n x).slotGen = s.slotGen ∧ 
    (dmaSet s n x).cores = s.cores ∧ (dmaSet s n x).clusters = s.clusters ∧ (dmaSet s n x).canary = s.canary ∧ 
    (dmaSet s n x).larder = s.larder ∧ (dmaSet s n x).foreman = s.foreman ∧ (dmaSet s n x).sec = s.sec ∧ 
    (dmaSet s n x).power = s.power ∧ (dmaSet s n x).hbm = s.hbm ∧ (dmaSet s n x).tap = s.tap ∧ (dmaSet s n x).pins = s.pins ∧ 
    (dmaSet s n x).px = s.px ∧ (dmaSet s n x).sw = s.sw ∧ (dmaSet s n x).tables = s.tables ∧ (dmaSet s n x).net = s.net ∧ 
    (dmaSet s n x).fabric = s.fabric := by
  simp [dmaSet]

@[simp] theorem stackSet_frame (s : State) (n : Nat) (x : StackState) :
    (stackSet s n x).pending = s.pending ∧ (stackSet s n x).now = s.now ∧ (stackSet s n x).freeCtr = s.freeCtr ∧ 
    (stackSet s n x).out = s.out ∧ (stackSet s n x).mode = s.mode ∧ (stackSet s n x).degraded = s.degraded ∧ 
    (stackSet s n x).ready = s.ready ∧ (stackSet s n x).epochCtr = s.epochCtr ∧ (stackSet s n x).vfEnabled = s.vfEnabled ∧ 
    (stackSet s n x).fns = s.fns ∧ (stackSet s n x).qps = s.qps ∧ (stackSet s n x).round = s.round ∧ 
    (stackSet s n x).dma = s.dma ∧ (stackSet s n x).dmaCycle = s.dmaCycle ∧ (stackSet s n x).sessions = s.sessions ∧ 
    (stackSet s n x).slotGen = s.slotGen ∧ (stackSet s n x).cores = s.cores ∧ (stackSet s n x).clusters = s.clusters ∧ 
    (stackSet s n x).canary = s.canary ∧ (stackSet s n x).larder = s.larder ∧ (stackSet s n x).foreman = s.foreman ∧ 
    (stackSet s n x).sec = s.sec ∧ (stackSet s n x).power = s.power ∧ (stackSet s n x).tap = s.tap ∧ 
    (stackSet s n x).pins = s.pins ∧ (stackSet s n x).px = s.px ∧ (stackSet s n x).sw = s.sw ∧ 
    (stackSet s n x).tables = s.tables ∧ (stackSet s n x).net = s.net ∧ (stackSet s n x).fabric = s.fabric ∧ 
    (stackSet s n x).hbm.mem = s.hbm.mem ∧ (stackSet s n x).hbm.bad = s.hbm.bad ∧ 
    (stackSet s n x).hbm.written = s.hbm.written ∧ (stackSet s n x).hbm.accepted = s.hbm.accepted ∧ 
    (stackSet s n x).hbm.pcs = s.hbm.pcs ∧ (stackSet s n x).hbm.patrolNext = s.hbm.patrolNext ∧ 
    (stackSet s n x).hbm.poolUsed = s.hbm.poolUsed ∧ (stackSet s n x).hbm.sramErrors = s.hbm.sramErrors ∧ 
    (stackSet s n x).hbm.hotWait = s.hbm.hotWait := by
  simp [stackSet]

@[simp] theorem pcSet_frame (s : State) (n : Nat) (x : PseudoChannel) :
    (pcSet s n x).pending = s.pending ∧ (pcSet s n x).now = s.now ∧ (pcSet s n x).freeCtr = s.freeCtr ∧ 
    (pcSet s n x).out = s.out ∧ (pcSet s n x).mode = s.mode ∧ (pcSet s n x).degraded = s.degraded ∧ 
    (pcSet s n x).ready = s.ready ∧ (pcSet s n x).epochCtr = s.epochCtr ∧ (pcSet s n x).vfEnabled = s.vfEnabled ∧ 
    (pcSet s n x).fns = s.fns ∧ (pcSet s n x).qps = s.qps ∧ (pcSet s n x).round = s.round ∧ (pcSet s n x).dma = s.dma ∧ 
    (pcSet s n x).dmaCycle = s.dmaCycle ∧ (pcSet s n x).sessions = s.sessions ∧ (pcSet s n x).slotGen = s.slotGen ∧ 
    (pcSet s n x).cores = s.cores ∧ (pcSet s n x).clusters = s.clusters ∧ (pcSet s n x).canary = s.canary ∧ 
    (pcSet s n x).larder = s.larder ∧ (pcSet s n x).foreman = s.foreman ∧ (pcSet s n x).sec = s.sec ∧ 
    (pcSet s n x).power = s.power ∧ (pcSet s n x).tap = s.tap ∧ (pcSet s n x).pins = s.pins ∧ (pcSet s n x).px = s.px ∧ 
    (pcSet s n x).sw = s.sw ∧ (pcSet s n x).tables = s.tables ∧ (pcSet s n x).net = s.net ∧ (pcSet s n x).fabric = s.fabric ∧ 
    (pcSet s n x).hbm.mem = s.hbm.mem ∧ (pcSet s n x).hbm.bad = s.hbm.bad ∧ (pcSet s n x).hbm.written = s.hbm.written ∧ 
    (pcSet s n x).hbm.accepted = s.hbm.accepted ∧ (pcSet s n x).hbm.stackTab = s.hbm.stackTab ∧ 
    (pcSet s n x).hbm.patrolNext = s.hbm.patrolNext ∧ (pcSet s n x).hbm.poolUsed = s.hbm.poolUsed ∧ 
    (pcSet s n x).hbm.sramErrors = s.hbm.sramErrors ∧ (pcSet s n x).hbm.hotWait = s.hbm.hotWait := by
  simp [pcSet]

@[simp] theorem ethSet_frame (s : State) (n : Nat) (x : EthPort) :
    (ethSet s n x).pending = s.pending ∧ (ethSet s n x).now = s.now ∧ (ethSet s n x).freeCtr = s.freeCtr ∧ 
    (ethSet s n x).out = s.out ∧ (ethSet s n x).mode = s.mode ∧ (ethSet s n x).degraded = s.degraded ∧ 
    (ethSet s n x).ready = s.ready ∧ (ethSet s n x).epochCtr = s.epochCtr ∧ (ethSet s n x).vfEnabled = s.vfEnabled ∧ 
    (ethSet s n x).fns = s.fns ∧ (ethSet s n x).qps = s.qps ∧ (ethSet s n x).round = s.round ∧ (ethSet s n x).dma = s.dma ∧ 
    (ethSet s n x).dmaCycle = s.dmaCycle ∧ (ethSet s n x).sessions = s.sessions ∧ (ethSet s n x).slotGen = s.slotGen ∧ 
    (ethSet s n x).cores = s.cores ∧ (ethSet s n x).clusters = s.clusters ∧ (ethSet s n x).canary = s.canary ∧ 
    (ethSet s n x).larder = s.larder ∧ (ethSet s n x).foreman = s.foreman ∧ (ethSet s n x).sec = s.sec ∧ 
    (ethSet s n x).power = s.power ∧ (ethSet s n x).hbm = s.hbm ∧ (ethSet s n x).tap = s.tap ∧ (ethSet s n x).pins = s.pins ∧ 
    (ethSet s n x).px = s.px ∧ (ethSet s n x).sw = s.sw ∧ (ethSet s n x).tables = s.tables ∧ (ethSet s n x).fabric = s.fabric := by
  simp [ethSet]

@[simp] theorem pxSet_frame (s : State) (n : Nat) (x : PxPort) :
    (pxSet s n x).pending = s.pending ∧ (pxSet s n x).now = s.now ∧ (pxSet s n x).freeCtr = s.freeCtr ∧ 
    (pxSet s n x).out = s.out ∧ (pxSet s n x).mode = s.mode ∧ (pxSet s n x).degraded = s.degraded ∧ 
    (pxSet s n x).ready = s.ready ∧ (pxSet s n x).epochCtr = s.epochCtr ∧ (pxSet s n x).vfEnabled = s.vfEnabled ∧ 
    (pxSet s n x).fns = s.fns ∧ (pxSet s n x).qps = s.qps ∧ (pxSet s n x).round = s.round ∧ (pxSet s n x).dma = s.dma ∧ 
    (pxSet s n x).dmaCycle = s.dmaCycle ∧ (pxSet s n x).sessions = s.sessions ∧ (pxSet s n x).slotGen = s.slotGen ∧ 
    (pxSet s n x).cores = s.cores ∧ (pxSet s n x).clusters = s.clusters ∧ (pxSet s n x).canary = s.canary ∧ 
    (pxSet s n x).larder = s.larder ∧ (pxSet s n x).foreman = s.foreman ∧ (pxSet s n x).sec = s.sec ∧ 
    (pxSet s n x).power = s.power ∧ (pxSet s n x).hbm = s.hbm ∧ (pxSet s n x).tap = s.tap ∧ (pxSet s n x).pins = s.pins ∧ 
    (pxSet s n x).sw = s.sw ∧ (pxSet s n x).tables = s.tables ∧ (pxSet s n x).net = s.net ∧ (pxSet s n x).fabric = s.fabric := by
  simp [pxSet]

@[simp] theorem swSet_frame (s : State) (x : SwitchState) :
    (swSet s x).pending = s.pending ∧ (swSet s x).now = s.now ∧ (swSet s x).freeCtr = s.freeCtr ∧ (swSet s x).out = s.out ∧ 
    (swSet s x).mode = s.mode ∧ (swSet s x).degraded = s.degraded ∧ (swSet s x).ready = s.ready ∧ 
    (swSet s x).epochCtr = s.epochCtr ∧ (swSet s x).vfEnabled = s.vfEnabled ∧ (swSet s x).fns = s.fns ∧ 
    (swSet s x).qps = s.qps ∧ (swSet s x).round = s.round ∧ (swSet s x).dma = s.dma ∧ (swSet s x).dmaCycle = s.dmaCycle ∧ 
    (swSet s x).sessions = s.sessions ∧ (swSet s x).slotGen = s.slotGen ∧ (swSet s x).cores = s.cores ∧ 
    (swSet s x).clusters = s.clusters ∧ (swSet s x).canary = s.canary ∧ (swSet s x).larder = s.larder ∧ 
    (swSet s x).foreman = s.foreman ∧ (swSet s x).sec = s.sec ∧ (swSet s x).power = s.power ∧ (swSet s x).hbm = s.hbm ∧ 
    (swSet s x).tap = s.tap ∧ (swSet s x).pins = s.pins ∧ (swSet s x).px = s.px ∧ (swSet s x).tables = s.tables ∧ 
    (swSet s x).net = s.net ∧ (swSet s x).fabric = s.fabric := by
  simp [swSet]

@[simp] theorem tabSet_frame (s : State) (x : TableState) :
    (tabSet s x).pending = s.pending ∧ (tabSet s x).now = s.now ∧ (tabSet s x).freeCtr = s.freeCtr ∧ (tabSet s x).out = s.out ∧ 
    (tabSet s x).mode = s.mode ∧ (tabSet s x).degraded = s.degraded ∧ (tabSet s x).ready = s.ready ∧ 
    (tabSet s x).epochCtr = s.epochCtr ∧ (tabSet s x).vfEnabled = s.vfEnabled ∧ (tabSet s x).fns = s.fns ∧ 
    (tabSet s x).qps = s.qps ∧ (tabSet s x).round = s.round ∧ (tabSet s x).dma = s.dma ∧ (tabSet s x).dmaCycle = s.dmaCycle ∧ 
    (tabSet s x).sessions = s.sessions ∧ (tabSet s x).slotGen = s.slotGen ∧ (tabSet s x).cores = s.cores ∧ 
    (tabSet s x).clusters = s.clusters ∧ (tabSet s x).canary = s.canary ∧ (tabSet s x).larder = s.larder ∧ 
    (tabSet s x).foreman = s.foreman ∧ (tabSet s x).sec = s.sec ∧ (tabSet s x).power = s.power ∧ (tabSet s x).hbm = s.hbm ∧ 
    (tabSet s x).tap = s.tap ∧ (tabSet s x).pins = s.pins ∧ (tabSet s x).px = s.px ∧ (tabSet s x).sw = s.sw ∧ 
    (tabSet s x).net = s.net ∧ (tabSet s x).fabric = s.fabric := by
  simp [tabSet]

@[simp] theorem ptpSet_frame (s : State) (x : PtpState) :
    (ptpSet s x).pending = s.pending ∧ (ptpSet s x).now = s.now ∧ (ptpSet s x).freeCtr = s.freeCtr ∧ (ptpSet s x).out = s.out ∧ 
    (ptpSet s x).mode = s.mode ∧ (ptpSet s x).degraded = s.degraded ∧ (ptpSet s x).ready = s.ready ∧ 
    (ptpSet s x).epochCtr = s.epochCtr ∧ (ptpSet s x).vfEnabled = s.vfEnabled ∧ (ptpSet s x).fns = s.fns ∧ 
    (ptpSet s x).qps = s.qps ∧ (ptpSet s x).round = s.round ∧ (ptpSet s x).dma = s.dma ∧ (ptpSet s x).dmaCycle = s.dmaCycle ∧ 
    (ptpSet s x).sessions = s.sessions ∧ (ptpSet s x).slotGen = s.slotGen ∧ (ptpSet s x).cores = s.cores ∧ 
    (ptpSet s x).clusters = s.clusters ∧ (ptpSet s x).canary = s.canary ∧ (ptpSet s x).larder = s.larder ∧ 
    (ptpSet s x).foreman = s.foreman ∧ (ptpSet s x).sec = s.sec ∧ (ptpSet s x).power = s.power ∧ (ptpSet s x).hbm = s.hbm ∧ 
    (ptpSet s x).tap = s.tap ∧ (ptpSet s x).pins = s.pins ∧ (ptpSet s x).px = s.px ∧ (ptpSet s x).sw = s.sw ∧ 
    (ptpSet s x).tables = s.tables ∧ (ptpSet s x).fabric = s.fabric := by
  simp [ptpSet]

@[simp] theorem fabSet_frame (s : State) (f : FabricState → FabricState) :
    (fabSet s f).pending = s.pending ∧ (fabSet s f).now = s.now ∧ (fabSet s f).freeCtr = s.freeCtr ∧ (fabSet s f).out = s.out ∧ 
    (fabSet s f).mode = s.mode ∧ (fabSet s f).degraded = s.degraded ∧ (fabSet s f).ready = s.ready ∧ 
    (fabSet s f).epochCtr = s.epochCtr ∧ (fabSet s f).vfEnabled = s.vfEnabled ∧ (fabSet s f).fns = s.fns ∧ 
    (fabSet s f).qps = s.qps ∧ (fabSet s f).round = s.round ∧ (fabSet s f).dma = s.dma ∧ (fabSet s f).dmaCycle = s.dmaCycle ∧ 
    (fabSet s f).sessions = s.sessions ∧ (fabSet s f).slotGen = s.slotGen ∧ (fabSet s f).cores = s.cores ∧ 
    (fabSet s f).clusters = s.clusters ∧ (fabSet s f).canary = s.canary ∧ (fabSet s f).larder = s.larder ∧ 
    (fabSet s f).foreman = s.foreman ∧ (fabSet s f).sec = s.sec ∧ (fabSet s f).power = s.power ∧ (fabSet s f).hbm = s.hbm ∧ 
    (fabSet s f).tap = s.tap ∧ (fabSet s f).pins = s.pins ∧ (fabSet s f).px = s.px ∧ (fabSet s f).sw = s.sw ∧ 
    (fabSet s f).tables = s.tables ∧ (fabSet s f).net = s.net := by
  simp [fabSet]

@[simp] theorem bumpEpoch_frame (s : State) :
    (bumpEpoch s).pending = s.pending ∧ (bumpEpoch s).now = s.now ∧ (bumpEpoch s).freeCtr = s.freeCtr ∧ 
    (bumpEpoch s).out = s.out ∧ (bumpEpoch s).mode = s.mode ∧ (bumpEpoch s).degraded = s.degraded ∧ 
    (bumpEpoch s).ready = s.ready ∧ (bumpEpoch s).vfEnabled = s.vfEnabled ∧ (bumpEpoch s).fns = s.fns ∧ 
    (bumpEpoch s).qps = s.qps ∧ (bumpEpoch s).round = s.round ∧ (bumpEpoch s).dma = s.dma ∧ 
    (bumpEpoch s).dmaCycle = s.dmaCycle ∧ (bumpEpoch s).sessions = s.sessions ∧ (bumpEpoch s).slotGen = s.slotGen ∧ 
    (bumpEpoch s).cores = s.cores ∧ (bumpEpoch s).clusters = s.clusters ∧ (bumpEpoch s).canary = s.canary ∧ 
    (bumpEpoch s).larder = s.larder ∧ (bumpEpoch s).foreman = s.foreman ∧ (bumpEpoch s).sec = s.sec ∧ 
    (bumpEpoch s).power = s.power ∧ (bumpEpoch s).hbm = s.hbm ∧ (bumpEpoch s).tap = s.tap ∧ (bumpEpoch s).pins = s.pins ∧ 
    (bumpEpoch s).px = s.px ∧ (bumpEpoch s).sw = s.sw ∧ (bumpEpoch s).tables = s.tables ∧ (bumpEpoch s).net = s.net ∧ 
    (bumpEpoch s).fabric = s.fabric := by
  simp [bumpEpoch]

/-! ### Tables: reading after writing -/

@[simp] theorem tget_tset {α : Type} (d : α) (l : Tbl α) (k : Nat) (v : α) : tget d (tset l k v) k = v := by
  induction l with
  | nil => simp [tset, tget]
  | cons p l ih => unfold tset; grind [tget]

theorem tget_tset_ne {α : Type} (d : α) (l : Tbl α) (k m : Nat) (v : α) (h : m ≠ k) : tget d (tset l k v) m = tget d l m := by
  induction l with
  | nil => simp [tset, tget]; grind
  | cons p l ih => unfold tset; grind [tget]

@[simp] theorem tfind_tset {α : Type} (l : Tbl α) (k : Nat) (v : α) : tfind (tset l k v) k = some v := by
  induction l with
  | nil => simp [tset, tfind]
  | cons p l ih => unfold tset; grind [tfind]

theorem tfind_tset_ne {α : Type} (l : Tbl α) (k m : Nat) (v : α) (h : m ≠ k) : tfind (tset l k v) m = tfind l m := by
  induction l with
  | nil => simp [tset, tfind]; grind
  | cons p l ih => unfold tset; grind [tfind]

@[simp] theorem fnGet_fnSet (s : State) (n : Nat) (x : FnState) : fnGet (fnSet s n x) n = x := by
  simp [fnGet, fnSet]

theorem fnGet_fnSet_ne (s : State) (n m : Nat) (x : FnState) (h : m ≠ n) : fnGet (fnSet s n x) m = fnGet s m := by
  simp [fnGet, fnSet, tget_tset_ne _ _ _ _ _ h]

@[simp] theorem coreGet_coreSet (s : State) (n : Nat) (x : CoreState) : coreGet (coreSet s n x) n = x := by
  simp [coreGet, coreSet]

theorem coreGet_coreSet_ne (s : State) (n m : Nat) (x : CoreState) (h : m ≠ n) : coreGet (coreSet s n x) m = coreGet s m := by
  simp [coreGet, coreSet, tget_tset_ne _ _ _ _ _ h]

@[simp] theorem clGet_clSet (s : State) (n : Nat) (x : ClusterState) : clGet (clSet s n x) n = x := by
  simp [clGet, clSet]

theorem clGet_clSet_ne (s : State) (n m : Nat) (x : ClusterState) (h : m ≠ n) : clGet (clSet s n x) m = clGet s m := by
  simp [clGet, clSet, tget_tset_ne _ _ _ _ _ h]

@[simp] theorem dmaGet_dmaSet (s : State) (n : Nat) (x : DmaChannel) : dmaGet (dmaSet s n x) n = x := by
  simp [dmaGet, dmaSet]

theorem dmaGet_dmaSet_ne (s : State) (n m : Nat) (x : DmaChannel) (h : m ≠ n) : dmaGet (dmaSet s n x) m = dmaGet s m := by
  simp [dmaGet, dmaSet, tget_tset_ne _ _ _ _ _ h]

@[simp] theorem stackGet_stackSet (s : State) (n : Nat) (x : StackState) : stackGet (stackSet s n x) n = x := by
  simp [stackGet, stackSet]

theorem stackGet_stackSet_ne (s : State) (n m : Nat) (x : StackState) (h : m ≠ n) : stackGet (stackSet s n x) m = stackGet s m := by
  simp [stackGet, stackSet, tget_tset_ne _ _ _ _ _ h]

@[simp] theorem pcGet_pcSet (s : State) (n : Nat) (x : PseudoChannel) : pcGet (pcSet s n x) n = x := by
  simp [pcGet, pcSet]

theorem pcGet_pcSet_ne (s : State) (n m : Nat) (x : PseudoChannel) (h : m ≠ n) : pcGet (pcSet s n x) m = pcGet s m := by
  simp [pcGet, pcSet, tget_tset_ne _ _ _ _ _ h]

@[simp] theorem ethGet_ethSet (s : State) (n : Nat) (x : EthPort) : ethGet (ethSet s n x) n = x := by
  simp [ethGet, ethSet]

theorem ethGet_ethSet_ne (s : State) (n m : Nat) (x : EthPort) (h : m ≠ n) : ethGet (ethSet s n x) m = ethGet s m := by
  simp [ethGet, ethSet, tget_tset_ne _ _ _ _ _ h]

@[simp] theorem pxGet_pxSet (s : State) (n : Nat) (x : PxPort) : pxGet (pxSet s n x) n = x := by
  simp [pxGet, pxSet]

theorem pxGet_pxSet_ne (s : State) (n m : Nat) (x : PxPort) (h : m ≠ n) : pxGet (pxSet s n x) m = pxGet s m := by
  simp [pxGet, pxSet, tget_tset_ne _ _ _ _ _ h]

@[simp] theorem ptpGet_ptpSet (s : State) (x : PtpState) : ptpGet (ptpSet s x) = x := by
  simp [ptpGet, ptpSet]

end Sys2Proof.Machine
end

