-- ==== Sys2Proof/Laws/Memory.lean ====
section
/-! SUPPORT. The HBM's bytes: every memory operation keeps the canonical form, and a byte reads as it was last written. -/

namespace Sys2Proof.Machine

theorem tset_above {α : Type} {m : Nat} (l : Tbl α) (k : Nat) (v : α) (hk : m < k) (h : ∀ p ∈ l, m < p.1) : ∀ p ∈ tset l k v, m < p.1 := by
  induction l with
  | nil => simpa [tset] using hk
  | cons p l ih =>
    unfold tset
    have := ih (fun q hq => h q (List.mem_cons_of_mem _ hq))
    have := h p List.mem_cons_self
    grind

theorem tset_rising {α : Type} (l : Tbl α) (k : Nat) (v : α) (h : l.Pairwise (fun a b => a.1 < b.1)) :
    (tset l k v).Pairwise (fun a b => a.1 < b.1) := by
  induction l with
  | nil => simp [tset]
  | cons p l ih =>
    have h' := List.pairwise_cons.1 h
    unfold tset
    split
    · rename_i e; exact List.pairwise_cons.2 ⟨fun q hq => e ▸ h'.1 q hq, h'.2⟩
    · split
      · rename_i e
        exact List.pairwise_cons.2 ⟨fun q hq => by grind, h⟩
      · exact List.pairwise_cons.2 ⟨tset_above l k v (by grind) h'.1, ih h'.2⟩

theorem tset_mem {α : Type} {l : Tbl α} {k : Nat} {v : α} {q : Nat × α} (h : q ∈ tset l k v) : q = (k, v) ∨ q ∈ l := by
  induction l with
  | nil => simpa [tset] using h
  | cons p l ih => unfold tset at h; grind

theorem tdel_sublist {α : Type} (l : Tbl α) (k : Nat) : (tdel l k).Sublist l := by
  induction l with
  | nil => simp [tdel]
  | cons p l ih => unfold tdel; grind

/-- Writing a byte keeps the canonical form. -/
theorem memPut_wf (m : Mem) (a : Nat) (b : Byte) (h : Memory.wf m = true) : Memory.wf (memPut m a b) = true := by
  simp only [Memory.wf, Bool.and_eq_true, decide_eq_true_eq, List.all_eq_true, bne_iff_ne] at *
  unfold memPut
  split
  · exact ⟨h.1.sublist (tdel_sublist m a), fun p hp => h.2 p ((tdel_sublist m a).subset hp)⟩
  · rename_i hb
    refine ⟨tset_rising m a b h.1, fun p hp => ?_⟩
    rcases tset_mem hp with rfl | hq
    · exact hb
    · exact h.2 p hq

/-- Writing a byte string keeps the canonical form. -/
theorem memWrite_wf (m : Mem) (a : Nat) (l : Bytes) (h : Memory.wf m = true) : Memory.wf (memWrite m a l) = true := by
  induction l generalizing m a with
  | nil => exact h
  | cons b l ih => exact ih _ _ (memPut_wf m a b h)

/-- Zeroing a range keeps the canonical form. -/
theorem memZero_wf (m : Mem) (lo hi : Nat) (h : Memory.wf m = true) : Memory.wf (memZero m lo hi) = true := by
  unfold memZero
  simp only [Memory.wf, Bool.and_eq_true, decide_eq_true_eq, List.all_eq_true] at *
  exact ⟨h.1.sublist List.filter_sublist, fun p hp => h.2 p (List.mem_filter.1 hp).1⟩

theorem writeBlock_wf (h : HbmState) (a : Nat) (l : Bytes) (w : Memory.wf h.mem = true) : Memory.wf (writeBlock h a l).mem = true := by
  unfold writeBlock
  split
  · exact w
  · exact memWrite_wf _ _ _ w

/-- A write of any length keeps the canonical form. -/
theorem writeBlocks_wf (n : Nat) (h : HbmState) (a : Nat) (l : Bytes) (w : Memory.wf h.mem = true) :
    Memory.wf (writeBlocks n h a l).mem = true := by
  induction n generalizing h a l with
  | zero => exact w
  | succ n ih =>
    unfold writeBlocks
    split
    · exact w
    · exact ih _ _ _ (writeBlock_wf _ _ _ w)

/-- The byte written reads back. -/
theorem memByte_memPut (m : Mem) (a : Nat) (b : Byte) (h : Memory.wf m = true) : memByte (memPut m a b) a = b := by
  simp only [Memory.wf, Bool.and_eq_true, decide_eq_true_eq, List.all_eq_true] at h
  unfold memByte memPut
  split
  · rename_i e
    rw [e]
    have w := h.1
    clear h
    induction m with
    | nil => rfl
    | cons p l ih =>
      have w' := List.pairwise_cons.1 w
      unfold tdel
      split
      · rename_i e1
        cases l with
        | nil => rfl
        | cons q l => have := w'.1 q List.mem_cons_self; unfold tget; grind
      · have := ih w'.2; unfold tget; grind [tget]
  · simp

/-- Every other byte stays. -/
theorem memByte_memPut_ne (m : Mem) (a c : Nat) (b : Byte) (h : Memory.wf m = true) (hc : c ≠ a) :
    memByte (memPut m a b) c = memByte m c := by
  simp only [Memory.wf, Bool.and_eq_true, decide_eq_true_eq, List.all_eq_true] at h
  unfold memByte memPut
  split
  · have w := h.1
    clear h
    induction m with
    | nil => rfl
    | cons p l ih =>
      have w' := List.pairwise_cons.1 w
      unfold tdel
      split
      · rename_i e1
        cases l with
        | nil => simp [tget]; grind
        | cons q l => have := w'.1 q List.mem_cons_self; grind [tget]
      · have := ih w'.2; grind [tget]
  · exact tget_tset_ne _ _ _ _ _ hc

/-- A byte string that was written reads back, and every other byte stays. -/
theorem memByte_memWrite (m : Mem) (a c : Nat) (l : Bytes) (h : Memory.wf m = true) :
    memByte (memWrite m a l) c = if a ≤ c ∧ c < a + l.length then l.getD (c - a) 0 else memByte m c := by
  induction l generalizing m a with
  | nil =>
    unfold memWrite
    rw [if_neg (by rw [List.length_nil]; omega)]
  | cons b l ih =>
    unfold memWrite
    rw [ih _ _ (memPut_wf m a b h)]
    by_cases e : c = a
    · subst e
      rw [memByte_memPut m c b h, if_neg (by omega), if_pos (by simp)]
      simp
    · rw [memByte_memPut_ne m a c b h e]
      have e2 : a + 1 ≤ c ∧ c < a + 1 + l.length ↔ a ≤ c ∧ c < a + (b :: l).length := by simp; omega
      simp only [e2]
      split
      · rename_i g
        have : c - a = (c - (a + 1)) + 1 := by omega
        rw [this]; simp
      · rfl

end Sys2Proof.Machine
end

