-- ==== Sys2Proof/Laws/Keeps.lean ====
section
/-! SUPPORT. No shared operation touches the queue of waiting commands, none but the commit of firmware writes OTP, and each
keeps the canonical form of the HBM's bytes: one lemma per operation, in the order of the files. -/

namespace Sys2Proof.Machine

@[simp] theorem foldl_pending {α : Type} (f : State → α → State) (h : ∀ s a, (f s a).pending = s.pending) (l : List α) (s : State) :
    (l.foldl f s).pending = s.pending := by
  induction l generalizing s with
  | nil => rfl
  | cons a l ih => rw [List.foldl_cons, ih, h]

@[simp] theorem foldl_otp {α : Type} (f : State → α → State) (h : ∀ s a, (f s a).sec.otp = s.sec.otp) (l : List α) (s : State) :
    (l.foldl f s).sec.otp = s.sec.otp := by
  induction l generalizing s with
  | nil => rfl
  | cons a l ih => rw [List.foldl_cons, ih, h]

@[simp] theorem foldl_mem {α : Type} (f : State → α → State)
    (h : ∀ s a, Memory.wf s.hbm.mem = true → Memory.wf (f s a).hbm.mem = true) (l : List α) (s : State)
    (w : Memory.wf s.hbm.mem = true) : Memory.wf (l.foldl f s).hbm.mem = true := by
  induction l generalizing s with
  | nil => exact w
  | cons a l ih => exact ih _ (h s a w)

theorem foldl_keeps {α : Type} {f : State → α → State}
    (h : ∀ s a, (f s a).pending = s.pending ∧ (f s a).sec.otp = s.sec.otp ∧ (Memory.wf s.hbm.mem = true → Memory.wf (f s a).hbm.mem = true))
    (l : List α) (s : State) : (l.foldl f s).pending = s.pending ∧ (l.foldl f s).sec.otp = s.sec.otp
      ∧ (Memory.wf s.hbm.mem = true → Memory.wf (l.foldl f s).hbm.mem = true) :=
  ⟨foldl_pending f (fun s a => (h s a).1) l s, foldl_otp f (fun s a => (h s a).2.1) l s, foldl_mem f (fun s a => (h s a).2.2) l s⟩

@[simp] theorem ite_pending (c : Prop) [Decidable c] (a b : State) : (if c then a else b).pending = if c then a.pending else b.pending := by
  split <;> rfl
@[simp] theorem ite_otp (c : Prop) [Decidable c] (a b : State) : (if c then a else b).sec.otp = if c then a.sec.otp else b.sec.otp := by
  split <;> rfl
@[simp] theorem foldl_memEq {α : Type} (f : State → α → State) (h : ∀ s a, (f s a).hbm.mem = s.hbm.mem) (l : List α) (s : State) :
    (l.foldl f s).hbm.mem = s.hbm.mem := by
  induction l generalizing s with
  | nil => rfl
  | cons a l ih => rw [List.foldl_cons, ih, h]

/-- A loop keeps what its body keeps. -/
theorem foldl_same {α : Type} {f : State → α → State}
    (h : ∀ s a, (f s a).pending = s.pending ∧ (f s a).sec.otp = s.sec.otp ∧ (f s a).hbm.mem = s.hbm.mem)
    (l : List α) (s : State) : (l.foldl f s).pending = s.pending ∧ (l.foldl f s).sec.otp = s.sec.otp ∧ (l.foldl f s).hbm.mem = s.hbm.mem :=
  ⟨foldl_pending f (fun s a => (h s a).1) l s, foldl_otp f (fun s a => (h s a).2.1) l s, foldl_memEq f (fun s a => (h s a).2.2) l s⟩

@[simp] theorem ite_memEq (c : Prop) [Decidable c] (a b : State) : (if c then a else b).hbm.mem = if c then a.hbm.mem else b.hbm.mem := by
  split <;> rfl
@[simp] theorem wf_ite (c : Prop) [Decidable c] (a b : Mem) : Memory.wf (if c then a else b) = if c then Memory.wf a else Memory.wf b := by
  split <;> rfl

theorem foldl_fst_keeps {α β : Type} {f : State × β → α → State × β} (h : ∀ p a, (f p a).1.pending = p.1.pending ∧ (f p a).1.sec.otp = p.1.sec.otp ∧ (Memory.wf p.1.hbm.mem = true → Memory.wf (f p a).1.hbm.mem = true)) (l : List α) (p : State × β) :
    ((l.foldl f p).1).pending = p.1.pending ∧ ((l.foldl f p).1).sec.otp = p.1.sec.otp ∧ (Memory.wf p.1.hbm.mem = true → Memory.wf ((l.foldl f p).1).hbm.mem = true) := by
  induction l generalizing p with
  | nil => exact ⟨rfl, rfl, id⟩
  | cons a l ih =>
    have i := ih (f p a)
    have j := h p a
    exact ⟨i.1.trans j.1, i.2.1.trans j.2.1, fun w => i.2.2 (j.2.2 w)⟩

theorem foldl_snd_keeps {α β : Type} {f : β × State → α → β × State} (h : ∀ p a, (f p a).2.pending = p.2.pending ∧ (f p a).2.sec.otp = p.2.sec.otp ∧ (Memory.wf p.2.hbm.mem = true → Memory.wf (f p a).2.hbm.mem = true)) (l : List α) (p : β × State) :
    ((l.foldl f p).2).pending = p.2.pending ∧ ((l.foldl f p).2).sec.otp = p.2.sec.otp ∧ (Memory.wf p.2.hbm.mem = true → Memory.wf ((l.foldl f p).2).hbm.mem = true) := by
  induction l generalizing p with
  | nil => exact ⟨rfl, rfl, id⟩
  | cons a l ih =>
    have i := ih (f p a)
    have j := h p a
    exact ⟨i.1.trans j.1, i.2.1.trans j.2.1, fun w => i.2.2 (j.2.2 w)⟩

theorem foldl_fst_same {α β : Type} {f : State × β → α → State × β} (h : ∀ p a, (f p a).1.pending = p.1.pending ∧ (f p a).1.sec.otp = p.1.sec.otp ∧ (f p a).1.hbm.mem = p.1.hbm.mem) (l : List α) (p : State × β) :
    ((l.foldl f p).1).pending = p.1.pending ∧ ((l.foldl f p).1).sec.otp = p.1.sec.otp ∧ ((l.foldl f p).1).hbm.mem = p.1.hbm.mem := by
  induction l generalizing p with
  | nil => exact ⟨rfl, rfl, rfl⟩
  | cons a l ih =>
    have i := ih (f p a)
    have j := h p a
    exact ⟨i.1.trans j.1, i.2.1.trans j.2.1, i.2.2.trans j.2.2⟩

@[simp] theorem hbmWrite_keeps (s : State) (a : Nat) (data : Bytes) :
    (hbmWrite s a data).pending = s.pending ∧ (hbmWrite s a data).sec.otp = s.sec.otp ∧ (Memory.wf s.hbm.mem = true → Memory.wf (hbmWrite s a data).hbm.mem = true) := by
  exact ⟨rfl, rfl, fun w => writeBlocks_wf _ _ _ _ w⟩

@[simp] theorem hbmZero_keeps (s : State) (lo hi : Nat) :
    (hbmZero s lo hi).pending = s.pending ∧ (hbmZero s lo hi).sec.otp = s.sec.otp ∧ (Memory.wf s.hbm.mem = true → Memory.wf (hbmZero s lo hi).hbm.mem = true) := by
  exact ⟨rfl, rfl, fun w => memZero_wf _ _ _ w⟩

@[simp] theorem atTime_keeps (s : State) (t : Nat) :
    (atTime s t).pending = s.pending ∧ (atTime s t).sec.otp = s.sec.otp ∧ (atTime s t).hbm.mem = s.hbm.mem := by
  unfold atTime; simp

@[simp] theorem emit_keeps (s : State) (o : OutItem) :
    (emit s o).pending = s.pending ∧ (emit s o).sec.otp = s.sec.otp ∧ (emit s o).hbm.mem = s.hbm.mem := by
  unfold emit; simp

@[simp] theorem draw_keeps (s : State) (n : Nat) :
    ((draw s n).2).pending = s.pending ∧ ((draw s n).2).sec.otp = s.sec.otp ∧ ((draw s n).2).hbm.mem = s.hbm.mem := by
  unfold draw; simp

@[simp] theorem fnSet_keeps (s : State) (fn : Nat) (f : FnState) :
    (fnSet s fn f).pending = s.pending ∧ (fnSet s fn f).sec.otp = s.sec.otp ∧ (fnSet s fn f).hbm.mem = s.hbm.mem := by
  unfold fnSet; simp

@[simp] theorem sendMsix_keeps (s : State) (fn v : Nat) :
    (sendMsix s fn v).pending = s.pending ∧ (sendMsix s fn v).sec.otp = s.sec.otp ∧ (sendMsix s fn v).hbm.mem = s.hbm.mem := by
  unfold sendMsix; simp

@[simp] theorem setCause_keeps (s : State) (fn bit : Nat) :
    (setCause s fn bit).pending = s.pending ∧ (setCause s fn bit).sec.otp = s.sec.otp ∧ (setCause s fn bit).hbm.mem = s.hbm.mem := by
  unfold setCause; simp

@[simp] theorem causeAll_keeps (s : State) (bit : Nat) :
    (causeAll s bit).pending = s.pending ∧ (causeAll s bit).sec.otp = s.sec.otp ∧ (causeAll s bit).hbm.mem = s.hbm.mem := by
  unfold causeAll; simp

@[simp] theorem hostWrite_keeps (s : State) (fn : Nat) (inHbm : Bool) (addr : Nat) (data : Bytes) :
    (hostWrite s fn inHbm addr data).pending = s.pending ∧ (hostWrite s fn inHbm addr data).sec.otp = s.sec.otp ∧ (Memory.wf s.hbm.mem = true → Memory.wf (hostWrite s fn inHbm addr data).hbm.mem = true) := by
  unfold hostWrite; (repeat' split) <;> simp +contextual (maxDischargeDepth := 20)

@[simp] theorem postRing_keeps (s : State) (fn : Nat) (r : Ring) (data : Bytes) :
    ((postRing s fn r data).2).pending = s.pending ∧ ((postRing s fn r data).2).sec.otp = s.sec.otp ∧ ((postRing s fn r data).2).hbm.mem = s.hbm.mem := by
  unfold postRing; (repeat' split) <;> simp

@[simp] theorem sessPut_keeps (s : State) (x : Session) :
    (sessPut s x).pending = s.pending ∧ (sessPut s x).sec.otp = s.sec.otp ∧ (sessPut s x).hbm.mem = s.hbm.mem := by
  unfold sessPut; simp

@[simp] theorem postEvent_keeps (s : State) (r : EventRec) :
    (postEvent s r).pending = s.pending ∧ (postEvent s r).sec.otp = s.sec.otp ∧ (postEvent s r).hbm.mem = s.hbm.mem := by
  unfold postEvent; (repeat' split) <;> simp

@[simp] theorem logRec_keeps (s : State) (r : EventRec) :
    (logRec s r).pending = s.pending ∧ (logRec s r).sec.otp = s.sec.otp ∧ (logRec s r).hbm.mem = s.hbm.mem := by
  unfold logRec; simp

@[simp] theorem argOf_keeps (s : State) (a : Option Nat) (bound : Nat) :
    ((argOf s a bound).2).pending = s.pending ∧ ((argOf s a bound).2).sec.otp = s.sec.otp ∧ ((argOf s a bound).2).hbm.mem = s.hbm.mem := by
  unfold argOf; (repeat' split) <;> simp

@[simp] theorem logEvent_keeps (s : State) (code cls source : Nat) (arg0 arg1 : Option Nat) :
    (logEvent s code cls source arg0 arg1).pending = s.pending ∧ (logEvent s code cls source arg0 arg1).sec.otp = s.sec.otp ∧ (logEvent s code cls source arg0 arg1).hbm.mem = s.hbm.mem := by
  unfold logEvent; simp

@[simp] theorem logFor_keeps (s : State) (fn code cls source : Nat) (arg0 arg1 : Option Nat) :
    (logFor s fn code cls source arg0 arg1).pending = s.pending ∧ (logFor s fn code cls source arg0 arg1).sec.otp = s.sec.otp ∧ (logFor s fn code cls source arg0 arg1).hbm.mem = s.hbm.mem := by
  unfold logFor; simp

@[simp] theorem logSession_keeps (s : State) (x : Session) (code cls source : Nat) (arg0 arg1 : Option Nat) :
    (logSession s x code cls source arg0 arg1).pending = s.pending ∧ (logSession s x code cls source arg0 arg1).sec.otp = s.sec.otp ∧ (logSession s x code cls source arg0 arg1).hbm.mem = s.hbm.mem := by
  unfold logSession; simp

@[simp] theorem setMode_keeps (s : State) (m : OpMode) :
    (setMode s m).pending = s.pending ∧ (setMode s m).sec.otp = s.sec.otp ∧ (setMode s m).hbm.mem = s.hbm.mem := by
  unfold setMode; simp

@[simp] theorem bumpEpoch_keeps (s : State) :
    (bumpEpoch s).pending = s.pending ∧ (bumpEpoch s).sec.otp = s.sec.otp ∧ (bumpEpoch s).hbm.mem = s.hbm.mem := by
  unfold bumpEpoch; simp

@[simp] theorem coreSet_keeps (s : State) (c : Nat) (x : CoreState) :
    (coreSet s c x).pending = s.pending ∧ (coreSet s c x).sec.otp = s.sec.otp ∧ (coreSet s c x).hbm.mem = s.hbm.mem := by
  unfold coreSet; simp

@[simp] theorem clSet_keeps (s : State) (k : Nat) (x : ClusterState) :
    (clSet s k x).pending = s.pending ∧ (clSet s k x).sec.otp = s.sec.otp ∧ (clSet s k x).hbm.mem = s.hbm.mem := by
  unfold clSet; simp

@[simp] theorem stackSet_keeps (s : State) (k : Nat) (x : StackState) :
    (stackSet s k x).pending = s.pending ∧ (stackSet s k x).sec.otp = s.sec.otp ∧ (stackSet s k x).hbm.mem = s.hbm.mem := by
  unfold stackSet; simp

@[simp] theorem ethSet_keeps (s : State) (p : Nat) (x : EthPort) :
    (ethSet s p x).pending = s.pending ∧ (ethSet s p x).sec.otp = s.sec.otp ∧ (ethSet s p x).hbm.mem = s.hbm.mem := by
  unfold ethSet; simp

@[simp] theorem pxSet_keeps (s : State) (p : Nat) (x : PxPort) :
    (pxSet s p x).pending = s.pending ∧ (pxSet s p x).sec.otp = s.sec.otp ∧ (pxSet s p x).hbm.mem = s.hbm.mem := by
  unfold pxSet; simp

@[simp] theorem pcSet_keeps (s : State) (p : Nat) (x : PseudoChannel) :
    (pcSet s p x).pending = s.pending ∧ (pcSet s p x).sec.otp = s.sec.otp ∧ (pcSet s p x).hbm.mem = s.hbm.mem := by
  unfold pcSet; simp

@[simp] theorem larderUpdate_keeps (s : State) :
    (larderUpdate s).pending = s.pending ∧ (larderUpdate s).sec.otp = s.sec.otp ∧ (larderUpdate s).hbm.mem = s.hbm.mem := by
  unfold larderUpdate; simp

@[simp] theorem larderPublish_keeps (s : State) (reduced signed : Bool) :
    (larderPublish s reduced signed).pending = s.pending ∧ (larderPublish s reduced signed).sec.otp = s.sec.otp ∧ (larderPublish s reduced signed).hbm.mem = s.hbm.mem := by
  unfold larderPublish; simp

@[simp] theorem qpPut_keeps (s : State) (q : QueuePair) :
    (qpPut s q).pending = s.pending ∧ (qpPut s q).sec.otp = s.sec.otp ∧ (qpPut s q).hbm.mem = s.hbm.mem := by
  unfold qpPut; simp

@[simp] theorem announce_keeps (s : State) (q : QueuePair) (noIrq : Bool) :
    (announce s q noIrq).pending = s.pending ∧ (announce s q noIrq).sec.otp = s.sec.otp ∧ (announce s q noIrq).hbm.mem = s.hbm.mem := by
  unfold announce; simp

@[simp] theorem postCompletion_keeps (s : State) (q : QueuePair) (i : InFlight) (r : Reply) :
    (postCompletion s q i r).pending = s.pending ∧ (postCompletion s q i r).sec.otp = s.sec.otp ∧ (postCompletion s q i r).hbm.mem = s.hbm.mem := by
  unfold postCompletion; simp

@[simp] theorem dropDecided_keeps (s : State) (q : QueuePair) :
    (dropDecided s q).pending = s.pending ∧ (dropDecided s q).sec.otp = s.sec.otp ∧ (dropDecided s q).hbm.mem = s.hbm.mem := by
  unfold dropDecided; simp

@[simp] theorem removePair_keeps (s : State) (q : QueuePair) :
    (removePair s q).pending = s.pending ∧ (removePair s q).sec.otp = s.sec.otp ∧ (removePair s q).hbm.mem = s.hbm.mem := by
  unfold removePair; simp

@[simp] theorem decideCmd_keeps (s : State) (r : CmdRef) (a : Reply) :
    (decideCmd s r a).pending = s.pending ∧ (decideCmd s r a).sec.otp = s.sec.otp ∧ (decideCmd s r a).hbm.mem = s.hbm.mem := by
  unfold decideCmd; (repeat' split) <;> simp

@[simp] theorem postReady_keeps (n : Nat) (s : State) (fn qid : Nat) :
    (postReady n s fn qid).pending = s.pending ∧ (postReady n s fn qid).sec.otp = s.sec.otp ∧ (postReady n s fn qid).hbm.mem = s.hbm.mem := by
  induction n generalizing s fn qid with
  | zero => simp [postReady]
  | succ k ih =>
    unfold postReady
    grind [decideCmd_keeps, removePair_keeps, dropDecided_keeps, postCompletion_keeps]

@[simp] theorem editFlight_keeps (s : State) (r : CmdRef) (f : InFlight → InFlight) :
    (editFlight s r f).pending = s.pending ∧ (editFlight s r f).sec.otp = s.sec.otp ∧ (editFlight s r f).hbm.mem = s.hbm.mem := by
  unfold editFlight; (repeat' split) <;> simp

@[simp] theorem finish_keeps (s : State) (r : CmdRef) (a : Reply) :
    (finish s r a).pending = s.pending ∧ (finish s r a).sec.otp = s.sec.otp ∧ (finish s r a).hbm.mem = s.hbm.mem := by
  unfold finish; simp

@[simp] theorem writeData_keeps (s : State) (fn : Nat) (e data : Bytes) :
    (writeData s fn e data).pending = s.pending ∧ (writeData s fn e data).sec.otp = s.sec.otp ∧ (Memory.wf s.hbm.mem = true → Memory.wf (writeData s fn e data).hbm.mem = true) := by
  unfold writeData; (repeat' split) <;> simp +contextual (maxDischargeDepth := 20)

@[simp] theorem canaryCount_keeps (s : State) (bit cls : Nat) :
    (canaryCount s bit cls).pending = s.pending ∧ (canaryCount s bit cls).sec.otp = s.sec.otp ∧ (canaryCount s bit cls).hbm.mem = s.hbm.mem := by
  unfold canaryCount; simp

@[simp] theorem setDegraded_keeps (s : State) :
    (setDegraded s).pending = s.pending ∧ (setDegraded s).sec.otp = s.sec.otp ∧ (setDegraded s).hbm.mem = s.hbm.mem := by
  unfold setDegraded; simp

@[simp] theorem recordFault_keeps (s : State) (bit cls : Nat) (addr : Option Nat) :
    (recordFault s bit cls addr).pending = s.pending ∧ (recordFault s bit cls addr).sec.otp = s.sec.otp ∧ (recordFault s bit cls addr).hbm.mem = s.hbm.mem := by
  unfold recordFault; simp

@[simp] theorem logFault_keeps (s : State) (bit cls : Nat) (addr : Option Nat) :
    (logFault s bit cls addr).pending = s.pending ∧ (logFault s bit cls addr).sec.otp = s.sec.otp ∧ (logFault s bit cls addr).hbm.mem = s.hbm.mem := by
  unfold logFault; simp

@[simp] theorem escalate_keeps (s : State) (key : Nat) :
    ((escalate s key).2).pending = s.pending ∧ ((escalate s key).2).sec.otp = s.sec.otp ∧ ((escalate s key).2).hbm.mem = s.hbm.mem := by
  unfold escalate; simp only []; split <;> simp

@[simp] theorem collect_keeps (s : State) (bit unit cls : Nat) (addr : Option Nat) :
    ((collect s bit unit cls addr).2).pending = s.pending ∧ ((collect s bit unit cls addr).2).sec.otp = s.sec.otp ∧ ((collect s bit unit cls addr).2).hbm.mem = s.hbm.mem := by
  unfold collect; grind [recordFault_keeps, escalate_keeps]

@[simp] theorem uncorrectable_keeps (s : State) (a : Nat) :
    (uncorrectable s a).pending = s.pending ∧ (uncorrectable s a).sec.otp = s.sec.otp ∧ (uncorrectable s a).hbm.mem = s.hbm.mem := by
  unfold uncorrectable; simp

@[simp] theorem releaseBuffers_keeps (s : State) (fn : Nat) (l : List OutBuffer) :
    (releaseBuffers s fn l).pending = s.pending ∧ (releaseBuffers s fn l).sec.otp = s.sec.otp ∧ (Memory.wf s.hbm.mem = true → Memory.wf (releaseBuffers s fn l).hbm.mem = true) := by
  unfold releaseBuffers; exact foldl_keeps (fun s a => by split <;> simp +contextual) _ _

@[simp] theorem dropWork_keeps (s : State) (id : Nat) :
    (dropWork s id).pending = s.pending ∧ (dropWork s id).sec.otp = s.sec.otp ∧ (dropWork s id).hbm.mem = s.hbm.mem := by
  unfold dropWork; simp

@[simp] theorem reachStopped_keeps (s : State) (x : Session) :
    (reachStopped s x).pending = s.pending ∧ (reachStopped s x).sec.otp = s.sec.otp ∧ (Memory.wf s.hbm.mem = true → Memory.wf (reachStopped s x).hbm.mem = true) := by
  unfold reachStopped; simp +contextual (maxDischargeDepth := 20)

@[simp] theorem stopNow_keeps (s : State) (x : Session) :
    (stopNow s x).pending = s.pending ∧ (stopNow s x).sec.otp = s.sec.otp ∧ (Memory.wf s.hbm.mem = true → Memory.wf (stopNow s x).hbm.mem = true) := by
  unfold stopNow; simp +contextual (maxDischargeDepth := 20)

@[simp] theorem destroySession_keeps (s : State) (x : Session) :
    (destroySession s x).pending = s.pending ∧ (destroySession s x).sec.otp = s.sec.otp ∧ (destroySession s x).hbm.mem = s.hbm.mem := by
  unfold destroySession; simp

@[simp] theorem stopAndDestroy_keeps (s : State) (x : Session) :
    (stopAndDestroy s x).pending = s.pending ∧ (stopAndDestroy s x).sec.otp = s.sec.otp ∧ (Memory.wf s.hbm.mem = true → Memory.wf (stopAndDestroy s x).hbm.mem = true) := by
  unfold stopAndDestroy; simp +contextual (maxDischargeDepth := 20)

@[simp] theorem stopAll_keeps (s : State) :
    (stopAll s).pending = s.pending ∧ (stopAll s).sec.otp = s.sec.otp ∧ (Memory.wf s.hbm.mem = true → Memory.wf (stopAll s).hbm.mem = true) := by
  unfold stopAll; simp +contextual (maxDischargeDepth := 20)

@[simp] theorem destroyAll_keeps (s : State) :
    (destroyAll s).pending = s.pending ∧ (destroyAll s).sec.otp = s.sec.otp ∧ (destroyAll s).hbm.mem = s.hbm.mem := by
  unfold destroyAll; simp

@[simp] theorem sendClp_keeps (s : State) (kind dest : Nat) (fields : List Nat) :
    (sendClp s kind dest fields).pending = s.pending ∧ (sendClp s kind dest fields).sec.otp = s.sec.otp ∧ (sendClp s kind dest fields).hbm.mem = s.hbm.mem := by
  unfold sendClp; simp

@[simp] theorem fenceSelf_keeps (s : State) (x : Session) :
    (fenceSelf s x).pending = s.pending ∧ (fenceSelf s x).sec.otp = s.sec.otp ∧ (fenceSelf s x).hbm.mem = s.hbm.mem := by
  unfold fenceSelf; simp

@[simp] theorem enterResync_keeps (s : State) (x : Session) :
    (enterResync s x).pending = s.pending ∧ (enterResync s x).sec.otp = s.sec.otp ∧ (enterResync s x).hbm.mem = s.hbm.mem := by
  unfold enterResync; (repeat' split) <;> simp

@[simp] theorem resyncWhere_keeps (s : State) (p : Session → Bool) :
    (resyncWhere s p).pending = s.pending ∧ (resyncWhere s p).sec.otp = s.sec.otp ∧ (resyncWhere s p).hbm.mem = s.hbm.mem := by
  unfold resyncWhere; simp

@[simp] theorem zeroize_keeps (s : State) :
    (zeroize s).pending = s.pending ∧ (zeroize s).sec.otp = s.sec.otp ∧ (zeroize s).hbm.mem = s.hbm.mem := by
  unfold zeroize; simp

@[simp] theorem keyLost_keeps (s : State) (p : Session → Bool) :
    (keyLost s p).pending = s.pending ∧ (keyLost s p).sec.otp = s.sec.otp ∧ (keyLost s p).hbm.mem = s.hbm.mem := by
  unfold keyLost; dsimp only; exact foldl_same (fun s a => by (repeat' split) <;> simp +contextual (maxDischargeDepth := 20)) _ _

@[simp] theorem lockdown_keeps (s : State) :
    (lockdown s).pending = s.pending ∧ (lockdown s).sec.otp = s.sec.otp ∧ (lockdown s).hbm.mem = s.hbm.mem := by
  unfold lockdown; simp

@[simp] theorem class5_keeps (s : State) (bit : Nat) :
    (class5 s bit).pending = s.pending ∧ (class5 s bit).sec.otp = s.sec.otp ∧ (class5 s bit).hbm.mem = s.hbm.mem := by
  unfold class5; simp

@[simp] theorem sendAcked_keeps (s : State) (kind dest : Nat) (fields : List Nat) :
    (sendAcked s kind dest fields).pending = s.pending ∧ (sendAcked s kind dest fields).sec.otp = s.sec.otp ∧ (sendAcked s kind dest fields).hbm.mem = s.hbm.mem := by
  unfold sendAcked; simp

@[simp] theorem leaveFabric_keeps (s : State) :
    (leaveFabric s).pending = s.pending ∧ (leaveFabric s).sec.otp = s.sec.otp ∧ (Memory.wf s.hbm.mem = true → Memory.wf (leaveFabric s).hbm.mem = true) := by
  unfold leaveFabric; simp +contextual (maxDischargeDepth := 20)

@[simp] theorem class4_keeps (s : State) :
    (class4 s).pending = s.pending ∧ (class4 s).sec.otp = s.sec.otp ∧ (Memory.wf s.hbm.mem = true → Memory.wf (class4 s).hbm.mem = true) := by
  unfold class4; grind [setMode_keeps, setDegraded_keeps, stopAll_keeps, sendClp_keeps, leaveFabric_keeps]

@[simp] theorem setServices_keeps (s : State) :
    (setServices s).pending = s.pending ∧ (setServices s).sec.otp = s.sec.otp ∧ (setServices s).hbm.mem = s.hbm.mem := by
  unfold setServices; simp

@[simp] theorem unitFence_keeps (s : State) (u : FenceUnit) (on : Bool) :
    (unitFence s u on).pending = s.pending ∧ (unitFence s u on).sec.otp = s.sec.otp ∧ (unitFence s u on).hbm.mem = s.hbm.mem := by
  unfold unitFence; (repeat' split) <;> simp

@[simp] theorem loseUnit_keeps (s : State) (u : FenceUnit) :
    (loseUnit s u).pending = s.pending ∧ (loseUnit s u).sec.otp = s.sec.otp ∧ (loseUnit s u).hbm.mem = s.hbm.mem := by
  unfold loseUnit; (repeat' split) <;> simp

@[simp] theorem orderFence_keeps (s : State) (u : FenceUnit) :
    (orderFence s u).pending = s.pending ∧ (orderFence s u).sec.otp = s.sec.otp ∧ (orderFence s u).hbm.mem = s.hbm.mem := by
  unfold orderFence; simp

@[simp] theorem ethDown_keeps (s : State) (p : Nat) :
    (ethDown s p).pending = s.pending ∧ (ethDown s p).sec.otp = s.sec.otp ∧ (ethDown s p).hbm.mem = s.hbm.mem := by
  unfold ethDown; simp

@[simp] theorem endRotation_keeps (s : State) (k : Nat) :
    (endRotation s k).pending = s.pending ∧ (endRotation s k).sec.otp = s.sec.otp ∧ (endRotation s k).hbm.mem = s.hbm.mem := by
  unfold endRotation; simp

@[simp] theorem stopCore_keeps (s : State) (c : Nat) :
    (stopCore s c).pending = s.pending ∧ (stopCore s c).sec.otp = s.sec.otp ∧ (stopCore s c).hbm.mem = s.hbm.mem := by
  unfold stopCore; simp

@[simp] theorem coreFault_keeps (s : State) (c cls : Nat) (addr : Option Nat) :
    ((coreFault s c cls addr).2).pending = s.pending ∧ ((coreFault s c cls addr).2).sec.otp = s.sec.otp ∧ ((coreFault s c cls addr).2).hbm.mem = s.hbm.mem := by
  unfold coreFault; grind [logFault_keeps, collect_keeps, endRotation_keeps, stopCore_keeps]

@[simp] theorem markStarted_keeps (s : State) (r : CmdRef) :
    (markStarted s r).pending = s.pending ∧ (markStarted s r).sec.otp = s.sec.otp ∧ (markStarted s r).hbm.mem = s.hbm.mem := by
  unfold markStarted; simp

@[simp] theorem succeed_keeps (s : State) (r : CmdRef) (result : Nat) :
    (succeed s r result).pending = s.pending ∧ (succeed s r result).sec.otp = s.sec.otp ∧ (succeed s r result).hbm.mem = s.hbm.mem := by
  unfold succeed; simp

@[simp] theorem configured_keeps (s : State) (r : CmdRef) (result : Nat) :
    (configured s r result).pending = s.pending ∧ (configured s r result).sec.otp = s.sec.otp ∧ (configured s r result).hbm.mem = s.hbm.mem := by
  unfold configured; simp

@[simp] theorem approve_keeps (s : State) (r : CmdRef) (result : Nat) :
    (approve s r result).pending = s.pending ∧ (approve s r result).sec.otp = s.sec.otp ∧ (approve s r result).hbm.mem = s.hbm.mem := by
  unfold approve; simp

@[simp] theorem forgetUnused_keeps (s : State) (fn qid : Nat) :
    (forgetUnused s fn qid).pending = s.pending ∧ (forgetUnused s fn qid).sec.otp = s.sec.otp ∧ (forgetUnused s fn qid).hbm.mem = s.hbm.mem := by
  unfold forgetUnused; simp

@[simp] theorem deletePair_keeps (s : State) (q : QueuePair) (d : Option CmdRef) :
    (deletePair s q d).pending = s.pending ∧ (deletePair s q d).sec.otp = s.sec.otp ∧ (deletePair s q d).hbm.mem = s.hbm.mem := by
  unfold deletePair; simp

@[simp] theorem cutPairs_keeps (s : State) (fn : Nat) :
    (cutPairs s fn).pending = s.pending ∧ (cutPairs s fn).sec.otp = s.sec.otp ∧ (cutPairs s fn).hbm.mem = s.hbm.mem := by
  unfold cutPairs; simp

@[simp] theorem doorbellError_keeps (s : State) (fn : Nat) :
    (doorbellError s fn).pending = s.pending ∧ (doorbellError s fn).sec.otp = s.sec.otp ∧ (doorbellError s fn).hbm.mem = s.hbm.mem := by
  unfold doorbellError; simp

@[simp] theorem fetchEntry_keeps (s : State) (q : QueuePair) (e : Bytes) :
    (fetchEntry s q e).pending = s.pending ∧ (fetchEntry s q e).sec.otp = s.sec.otp ∧ (fetchEntry s q e).hbm.mem = s.hbm.mem := by
  unfold fetchEntry; simp

@[simp] theorem enableMailbox_keeps (s : State) (fn : Nat) :
    (enableMailbox s fn).pending = s.pending ∧ (enableMailbox s fn).sec.otp = s.sec.otp ∧ (enableMailbox s fn).hbm.mem = s.hbm.mem := by
  unfold enableMailbox; simp

@[simp] theorem unmaskVector_keeps (s : State) (fn v : Nat) :
    (unmaskVector s fn v).pending = s.pending ∧ (unmaskVector s fn v).sec.otp = s.sec.otp ∧ (unmaskVector s fn v).hbm.mem = s.hbm.mem := by
  unfold unmaskVector; simp

@[simp] theorem maskVector_keeps (s : State) (fn v : Nat) :
    (maskVector s fn v).pending = s.pending ∧ (maskVector s fn v).sec.otp = s.sec.otp ∧ (maskVector s fn v).hbm.mem = s.hbm.mem := by
  unfold maskVector; simp

@[simp] theorem dmaSet_keeps (s : State) (ch : Nat) (c : DmaChannel) :
    (dmaSet s ch c).pending = s.pending ∧ (dmaSet s ch c).sec.otp = s.sec.otp ∧ (dmaSet s ch c).hbm.mem = s.hbm.mem := by
  unfold dmaSet; simp

@[simp] theorem writeReg_keeps (s : State) (fn : Nat) (reg : HostReg) (value : BitVec 64) :
    (writeReg s fn reg value).pending = s.pending ∧ (writeReg s fn reg value).sec.otp = s.sec.otp ∧ (writeReg s fn reg value).hbm.mem = s.hbm.mem := by
  unfold writeReg; (repeat' split) <;> simp

@[simp] theorem countOob_keeps (s : State) (fn off len : Nat) :
    (countOob s fn off len).pending = s.pending ∧ (countOob s fn off len).sec.otp = s.sec.otp ∧ (countOob s fn off len).hbm.mem = s.hbm.mem := by
  unfold countOob; simp

@[simp] theorem bar2Read_keeps (s : State) (fn off len : Nat) :
    (bar2Read s fn off len).pending = s.pending ∧ (bar2Read s fn off len).sec.otp = s.sec.otp ∧ (bar2Read s fn off len).hbm.mem = s.hbm.mem := by
  unfold bar2Read; grind [emit_keeps, uncorrectable_keeps, countOob_keeps]

@[simp] theorem bar2Write_keeps (s : State) (fn off : Nat) (data : Bytes) :
    (bar2Write s fn off data).pending = s.pending ∧ (bar2Write s fn off data).sec.otp = s.sec.otp ∧ (Memory.wf s.hbm.mem = true → Memory.wf (bar2Write s fn off data).hbm.mem = true) := by
  unfold bar2Write; simp +contextual (maxDischargeDepth := 20)

@[simp] theorem atCycle_keeps (s : State) (cycle : Nat) :
    (atCycle s cycle).pending = s.pending ∧ (atCycle s cycle).sec.otp = s.sec.otp ∧ (atCycle s cycle).hbm.mem = s.hbm.mem := by
  unfold atCycle; simp

@[simp] theorem dmaHalt_keeps (s : State) (ch : Nat) (addr : Nat) (write inHbm last : Bool) (reason : Nat) :
    (dmaHalt s ch addr write inHbm last reason).pending = s.pending ∧ (dmaHalt s ch addr write inHbm last reason).sec.otp = s.sec.otp ∧ (dmaHalt s ch addr write inHbm last reason).hbm.mem = s.hbm.mem := by
  unfold dmaHalt; simp

@[simp] theorem dmaMismatch_keeps (s : State) (ch off : Nat) :
    (dmaMismatch s ch off).pending = s.pending ∧ (dmaMismatch s ch off).sec.otp = s.sec.otp ∧ (dmaMismatch s ch off).hbm.mem = s.hbm.mem := by
  unfold dmaMismatch; simp

@[simp] theorem handOver_keeps (s : State) (ch cycle : Nat) :
    (handOver s ch cycle).pending = s.pending ∧ (handOver s ch cycle).sec.otp = s.sec.otp ∧ (handOver s ch cycle).hbm.mem = s.hbm.mem := by
  unfold handOver; grind [draw_keeps, dmaSet_keeps, dmaHalt_keeps]

@[simp] theorem settle_keeps (s : State) (ch cycle : Nat) :
    (settle s ch cycle).pending = s.pending ∧ (settle s ch cycle).sec.otp = s.sec.otp ∧ (settle s ch cycle).hbm.mem = s.hbm.mem := by
  unfold settle; (repeat' split) <;> simp

@[simp] theorem armChannel_keeps (s : State) (ch cycle : Nat) :
    (armChannel s ch cycle).pending = s.pending ∧ (armChannel s ch cycle).sec.otp = s.sec.otp ∧ (armChannel s ch cycle).hbm.mem = s.hbm.mem := by
  unfold armChannel; simp

@[simp] theorem beatWrite_keeps (s : State) (c : DmaChannel) (a : Nat) (data : Bytes) :
    (beatWrite s c a data).pending = s.pending ∧ (beatWrite s c a data).sec.otp = s.sec.otp ∧ (Memory.wf s.hbm.mem = true → Memory.wf (beatWrite s c a data).hbm.mem = true) := by
  unfold beatWrite; (repeat' split) <;> simp +contextual (maxDischargeDepth := 20)

@[simp] theorem dmaDone_keeps (s : State) (ch : Nat) :
    (dmaDone s ch).pending = s.pending ∧ (dmaDone s ch).sec.otp = s.sec.otp ∧ (dmaDone s ch).hbm.mem = s.hbm.mem := by
  unfold dmaDone; simp

@[simp] theorem freeBytes_keeps (s : State) (n : Nat) :
    ((freeBytes s n).2).pending = s.pending ∧ ((freeBytes s n).2).sec.otp = s.sec.otp ∧ ((freeBytes s n).2).hbm.mem = s.hbm.mem := by
  unfold freeBytes; simp

@[simp] theorem undefineBeats_keeps (s : State) (c : DmaChannel) (l : List DmaBeat) :
    (undefineBeats s c l).pending = s.pending ∧ (undefineBeats s c l).sec.otp = s.sec.otp ∧ (Memory.wf s.hbm.mem = true → Memory.wf (undefineBeats s c l).hbm.mem = true) := by
  unfold undefineBeats; (repeat' split) <;> simp +contextual (maxDischargeDepth := 20)

@[simp] theorem failBeat_keeps (s : State) (ch : Nat) (b : DmaBeat) (write : Bool) (reason : Nat) :
    (failBeat s ch b write reason).pending = s.pending ∧ (failBeat s ch b write reason).sec.otp = s.sec.otp ∧ (Memory.wf s.hbm.mem = true → Memory.wf (failBeat s ch b write reason).hbm.mem = true) := by
  unfold failBeat; simp +contextual (maxDischargeDepth := 20)

@[simp] theorem landBeat_keeps (s : State) (ch : Nat) (b : DmaBeat) (src dst : Bytes) :
    (landBeat s ch b src dst).pending = s.pending ∧ (landBeat s ch b src dst).sec.otp = s.sec.otp ∧ (Memory.wf s.hbm.mem = true → Memory.wf (landBeat s ch b src dst).hbm.mem = true) := by
  unfold landBeat; grind [dmaSet_keeps, dmaMismatch_keeps, beatWrite_keeps, failBeat_keeps]

@[simp] theorem maybeLand_keeps (s : State) (c : DmaChannel) :
    (maybeLand s c).pending = s.pending ∧ (maybeLand s c).sec.otp = s.sec.otp ∧ (Memory.wf s.hbm.mem = true → Memory.wf (maybeLand s c).hbm.mem = true) := by
  unfold maybeLand; simp +contextual (maxDischargeDepth := 20)

@[simp] theorem disableChannel_keeps (s : State) (ch : Nat) :
    (disableChannel s ch).pending = s.pending ∧ (disableChannel s ch).sec.otp = s.sec.otp ∧ (Memory.wf s.hbm.mem = true → Memory.wf (disableChannel s ch).hbm.mem = true) := by
  unfold disableChannel; simp +contextual (maxDischargeDepth := 20)

@[simp] theorem giveChannel_keeps (s : State) (ch fn : Nat) :
    (giveChannel s ch fn).pending = s.pending ∧ (giveChannel s ch fn).sec.otp = s.sec.otp ∧ (giveChannel s ch fn).hbm.mem = s.hbm.mem := by
  unfold giveChannel; simp

@[simp] theorem zeroGrant_keeps (s : State) (fn : Nat) :
    (zeroGrant s fn).pending = s.pending ∧ (zeroGrant s fn).sec.otp = s.sec.otp ∧ (Memory.wf s.hbm.mem = true → Memory.wf (zeroGrant s fn).hbm.mem = true) := by
  unfold zeroGrant; simp +contextual (maxDischargeDepth := 20)

@[simp] theorem returnChannel_keeps (s : State) (ch : Nat) :
    (returnChannel s ch).pending = s.pending ∧ (returnChannel s ch).sec.otp = s.sec.otp ∧ (Memory.wf s.hbm.mem = true → Memory.wf (returnChannel s ch).hbm.mem = true) := by
  unfold returnChannel; simp +contextual (maxDischargeDepth := 20)

@[simp] theorem resetFns_keeps (s : State) (p : Nat → Bool) :
    (resetFns s p).pending = s.pending ∧ (resetFns s p).sec.otp = s.sec.otp ∧ (Memory.wf s.hbm.mem = true → Memory.wf (resetFns s p).hbm.mem = true) := by
  unfold resetFns; simp +contextual (maxDischargeDepth := 20)

@[simp] theorem hostInterfaceReset_keeps (s : State) :
    (hostInterfaceReset s).pending = s.pending ∧ (hostInterfaceReset s).sec.otp = s.sec.otp ∧ (Memory.wf s.hbm.mem = true → Memory.wf (hostInterfaceReset s).hbm.mem = true) := by
  unfold hostInterfaceReset; simp +contextual (maxDischargeDepth := 20)

@[simp] theorem resetCore_keeps (s : State) (soft : Bool) :
    (resetCore s soft).pending = s.pending ∧ (resetCore s soft).sec.otp = s.sec.otp ∧ (Memory.wf s.hbm.mem = true → Memory.wf (resetCore s soft).hbm.mem = true) := by
  exact ⟨rfl, rfl, fun _ => rfl⟩

@[simp] theorem coldCore_keeps (s : State) :
    (coldCore s).pending = s.pending ∧ (coldCore s).sec.otp = s.sec.otp ∧ (Memory.wf s.hbm.mem = true → Memory.wf (coldCore s).hbm.mem = true) := by
  exact ⟨rfl, rfl, fun _ => rfl⟩

@[simp] theorem warmReset_keeps (s : State) :
    (warmReset s).pending = s.pending ∧ (warmReset s).sec.otp = s.sec.otp ∧ (Memory.wf s.hbm.mem = true → Memory.wf (warmReset s).hbm.mem = true) := by
  unfold warmReset; simp +contextual (maxDischargeDepth := 20)

@[simp] theorem chooseSlot_keeps (s : State) (i : BootInput) :
    ((chooseSlot s i).2).pending = s.pending ∧ ((chooseSlot s i).2).sec.otp = s.sec.otp ∧ ((chooseSlot s i).2).hbm.mem = s.hbm.mem := by
  unfold chooseSlot; grind [logEvent_keeps]

@[simp] theorem bootRom_keeps (s : State) (i : BootInput) :
    (bootRom s i).pending = s.pending ∧ (bootRom s i).sec.otp = s.sec.otp ∧ (bootRom s i).hbm.mem = s.hbm.mem := by
  unfold bootRom; simp

@[simp] theorem bootPlatform_keeps (s : State) (i : BootInput) (slot : Nat) :
    (bootPlatform s i slot).pending = s.pending ∧ (bootPlatform s i slot).sec.otp = s.sec.otp ∧ (bootPlatform s i slot).hbm.mem = s.hbm.mem := by
  unfold bootPlatform; simp

@[simp] theorem loadPatch_keeps (s : State) (version : Nat) (fail : List Nat) :
    (loadPatch s version fail).pending = s.pending ∧ (loadPatch s version fail).sec.otp = s.sec.otp ∧ (loadPatch s version fail).hbm.mem = s.hbm.mem := by
  unfold loadPatch; simp

@[simp] theorem bootBist_keeps (s : State) (failed : List Nat) :
    (bootBist s failed).pending = s.pending ∧ (bootBist s failed).sec.otp = s.sec.otp ∧ (bootBist s failed).hbm.mem = s.hbm.mem := by
  unfold bootBist; dsimp only; exact foldl_same (fun s a => by (repeat' split) <;> simp +contextual (maxDischargeDepth := 20)) _ _

@[simp] theorem trainHbm_keeps (s : State) (i : BootInput) :
    (trainHbm s i).pending = s.pending ∧ (trainHbm s i).sec.otp = s.sec.otp ∧ (trainHbm s i).hbm.mem = s.hbm.mem := by
  unfold trainHbm; simp

@[simp] theorem copyAon_keeps (s : State) :
    (copyAon s).pending = s.pending ∧ (copyAon s).sec.otp = s.sec.otp ∧ (copyAon s).hbm.mem = s.hbm.mem := by
  unfold copyAon; simp

@[simp] theorem repairRows_keeps (s : State) :
    (repairRows s).pending = s.pending ∧ (repairRows s).sec.otp = s.sec.otp ∧ (repairRows s).hbm.mem = s.hbm.mem := by
  unfold repairRows; simp

@[simp] theorem finishBoot_keeps (s : State) :
    (finishBoot s).pending = s.pending ∧ (finishBoot s).sec.otp = s.sec.otp ∧ (finishBoot s).hbm.mem = s.hbm.mem := by
  unfold finishBoot; simp

@[simp] theorem bootFirmware_keeps (s : State) (i : BootInput) (slot : Nat) :
    (bootFirmware s i slot).pending = s.pending ∧ (bootFirmware s i slot).sec.otp = s.sec.otp ∧ (bootFirmware s i slot).hbm.mem = s.hbm.mem := by
  unfold bootFirmware; simp

@[simp] theorem startBist_keeps (s : State) :
    (startBist s).pending = s.pending ∧ (startBist s).sec.otp = s.sec.otp ∧ (startBist s).hbm.mem = s.hbm.mem := by
  unfold startBist; simp

@[simp] theorem setModeTo_keeps (s : State) (r : CmdRef) (target : Nat) :
    (setModeTo s r target).pending = s.pending ∧ (setModeTo s r target).sec.otp = s.sec.otp ∧ (setModeTo s r target).hbm.mem = s.hbm.mem := by
  unfold setModeTo; (repeat' split) <;> simp

@[simp] theorem sizeRings_keeps (s : State) (l : List ClusterUse) (bytes : Nat) :
    (sizeRings s l bytes).pending = s.pending ∧ (sizeRings s l bytes).sec.otp = s.sec.otp ∧ (sizeRings s l bytes).hbm.mem = s.hbm.mem := by
  unfold sizeRings; simp

@[simp] theorem reserve_keeps (s : State) (x : Session) (d : Demand) (l : List ClusterUse) :
    (reserve s x d l).pending = s.pending ∧ (reserve s x d l).sec.otp = s.sec.otp ∧ (reserve s x d l).hbm.mem = s.hbm.mem := by
  unfold reserve; simp

@[simp] theorem replaceOne_keeps (s : State) (x : Session) :
    (replaceOne s x).pending = s.pending ∧ (replaceOne s x).sec.otp = s.sec.otp ∧ (replaceOne s x).hbm.mem = s.hbm.mem := by
  unfold replaceOne; grind [sessPut_keeps, recordFault_keeps, enterResync_keeps]

@[simp] theorem replaceAll_keeps (s : State) :
    (replaceAll s).pending = s.pending ∧ (replaceAll s).sec.otp = s.sec.otp ∧ (replaceAll s).hbm.mem = s.hbm.mem := by
  unfold replaceAll; simp

@[simp] theorem memberPut_keeps (s : State) (m : Nat) (x : Member) :
    (memberPut s m x).pending = s.pending ∧ (memberPut s m x).sec.otp = s.sec.otp ∧ (memberPut s m x).hbm.mem = s.hbm.mem := by
  unfold memberPut; simp

@[simp] theorem copyToStandby_keeps (s : State) (kind m : Nat) (fields : List Nat) :
    (copyToStandby s kind m fields).pending = s.pending ∧ (copyToStandby s kind m fields).sec.otp = s.sec.otp ∧ (copyToStandby s kind m fields).hbm.mem = s.hbm.mem := by
  unfold copyToStandby; simp

@[simp] theorem sendAssign_keeps (s : State) (m session role region from_ : Nat) (c : Bytes) :
    (sendAssign s m session role region from_ c).pending = s.pending ∧ (sendAssign s m session role region from_ c).sec.otp = s.sec.otp ∧ (sendAssign s m session role region from_ c).hbm.mem = s.hbm.mem := by
  unfold sendAssign; simp

@[simp] theorem commitEpoch_keeps (s : State) (p : EpochChange) :
    (commitEpoch s p).pending = s.pending ∧ (commitEpoch s p).sec.otp = s.sec.otp ∧ (commitEpoch s p).hbm.mem = s.hbm.mem := by
  unfold commitEpoch; simp

@[simp] theorem settleEpoch_keeps (s : State) :
    (settleEpoch s).pending = s.pending ∧ (settleEpoch s).sec.otp = s.sec.otp ∧ (settleEpoch s).hbm.mem = s.hbm.mem := by
  unfold settleEpoch; (repeat' split) <;> simp

@[simp] theorem beginEpoch_keeps (s : State) (changes : List (Nat × Nat)) :
    (beginEpoch s changes).pending = s.pending ∧ (beginEpoch s changes).sec.otp = s.sec.otp ∧ (beginEpoch s changes).hbm.mem = s.hbm.mem := by
  unfold beginEpoch; simp

@[simp] theorem addRole_keeps (s : State) (m session region role : Nat) :
    (addRole s m session region role).pending = s.pending ∧ (addRole s m session region role).sec.otp = s.sec.otp ∧ (addRole s m session region role).hbm.mem = s.hbm.mem := by
  unfold addRole; (repeat' split) <;> simp

@[simp] theorem dropRole_keeps (s : State) (m session region role : Nat) :
    (dropRole s m session region role).pending = s.pending ∧ (dropRole s m session region role).sec.otp = s.sec.otp ∧ (dropRole s m session region role).hbm.mem = s.hbm.mem := by
  unfold dropRole; (repeat' split) <;> simp

@[simp] theorem editSession_keeps (s : State) (id : Nat) (f : Session → Session) :
    (editSession s id f).pending = s.pending ∧ (editSession s id f).sec.otp = s.sec.otp ∧ (editSession s id f).hbm.mem = s.hbm.mem := by
  unfold editSession; (repeat' split) <;> simp

@[simp] theorem giveRole_keeps (s : State) (id m region role from_ : Nat) :
    (giveRole s id m region role from_).pending = s.pending ∧ (giveRole s id m region role from_).sec.otp = s.sec.otp ∧ (giveRole s id m region role from_).hbm.mem = s.hbm.mem := by
  unfold giveRole; (repeat' split) <;> simp

@[simp] theorem takeRole_keeps (s : State) (id m region role : Nat) :
    (takeRole s id m region role).pending = s.pending ∧ (takeRole s id m region role).sec.otp = s.sec.otp ∧ (takeRole s id m region role).hbm.mem = s.hbm.mem := by
  unfold takeRole; (repeat' split) <;> simp

@[simp] theorem placeFabric_keeps (s : State) (id : Nat) (plan : List (Nat × Nat × Nat)) :
    (placeFabric s id plan).pending = s.pending ∧ (placeFabric s id plan).sec.otp = s.sec.otp ∧ (placeFabric s id plan).hbm.mem = s.hbm.mem := by
  unfold placeFabric; simp

@[simp] theorem replanFabric_keeps (s : State) (x : Session) (frame : Nat) (c : Bytes) :
    (replanFabric s x frame c).pending = s.pending ∧ (replanFabric s x frame c).sec.otp = s.sec.otp ∧ (replanFabric s x frame c).hbm.mem = s.hbm.mem := by
  unfold replanFabric
  split
  · simp
  · dsimp only
    constructor
    · rw [(beginEpoch_keeps _ _).1]; exact foldl_pending _ (fun s a => by split <;> simp) _ _
    constructor
    · rw [(beginEpoch_keeps _ _).2.1]; exact foldl_otp _ (fun s a => by split <;> simp) _ _
    · rw [(beginEpoch_keeps _ _).2.2]; exact foldl_memEq _ (fun s a => by (repeat' split) <;> simp) _ _

@[simp] theorem withdrawFabric_keeps (s : State) (x : Session) :
    (withdrawFabric s x).pending = s.pending ∧ (withdrawFabric s x).sec.otp = s.sec.otp ∧ (withdrawFabric s x).hbm.mem = s.hbm.mem := by
  unfold withdrawFabric
  split
  · simp
  · dsimp only
    constructor
    · rw [(beginEpoch_keeps _ _).1]; exact foldl_pending _ (fun s a => by (repeat' split) <;> simp) _ _
    constructor
    · rw [(beginEpoch_keeps _ _).2.1]; exact foldl_otp _ (fun s a => by (repeat' split) <;> simp) _ _
    · rw [(beginEpoch_keeps _ _).2.2]; exact foldl_memEq _ (fun s a => by (repeat' split) <;> simp) _ _

theorem onSession_keeps (fn : Nat) (k : State → Session → Bytes → State) (s : State) (e : Bytes)
    (h : ∀ x, targetOf s fn e = some x → (k s x e).pending = s.pending ∧ (k s x e).sec.otp = s.sec.otp
      ∧ (Memory.wf s.hbm.mem = true → Memory.wf (k s x e).hbm.mem = true)) :
    (onSession fn k s e).pending = s.pending ∧ (onSession fn k s e).sec.otp = s.sec.otp
      ∧ (Memory.wf s.hbm.mem = true → Memory.wf (onSession fn k s e).hbm.mem = true) := by
  unfold onSession
  split
  · simp
  · exact h _ ‹_›

@[simp] theorem bindFlow_keeps (s : State) (flow v : Nat) :
    (bindFlow s flow v).pending = s.pending ∧ (bindFlow s flow v).sec.otp = s.sec.otp ∧ (bindFlow s flow v).hbm.mem = s.hbm.mem := by
  unfold bindFlow; (repeat' split) <;> simp

@[simp] theorem bindFlows_keeps (s : State) (decode : Bool) (c : Bytes) (v : Nat) :
    (bindFlows s decode c v).pending = s.pending ∧ (bindFlows s decode c v).sec.otp = s.sec.otp ∧ (bindFlows s decode c v).hbm.mem = s.hbm.mem := by
  unfold bindFlows; simp

@[simp] theorem createSession_keeps (s : State) (r : CmdRef) (e c : Bytes) :
    (createSession s r e c).pending = s.pending ∧ (createSession s r e c).sec.otp = s.sec.otp ∧ (Memory.wf s.hbm.mem = true → Memory.wf (createSession s r e c).hbm.mem = true) := by
  unfold createSession; grind [bumpEpoch_keeps, finish_keeps, reserve_keeps, placeFabric_keeps, bindFlows_keeps]

@[simp] theorem restartFabric_keeps (s : State) (x : Session) :
    (restartFabric s x).pending = s.pending ∧ (restartFabric s x).sec.otp = s.sec.otp ∧ (restartFabric s x).hbm.mem = s.hbm.mem := by
  unfold restartFabric; (repeat' split) <;> simp

@[simp] theorem settleStop_keeps (s : State) (id : Nat) :
    (settleStop s id).pending = s.pending ∧ (settleStop s id).sec.otp = s.sec.otp ∧ (Memory.wf s.hbm.mem = true → Memory.wf (settleStop s id).hbm.mem = true) := by
  unfold settleStop; (repeat' split) <;> simp +contextual (maxDischargeDepth := 20)

@[simp] theorem dropUndispatched_keeps (s : State) (x : Session) :
    (dropUndispatched s x).pending = s.pending ∧ (dropUndispatched s x).sec.otp = s.sec.otp ∧ (dropUndispatched s x).hbm.mem = s.hbm.mem := by
  unfold dropUndispatched; simp

@[simp] theorem stopAfter_keeps (s : State) (x : Session) :
    (stopAfter s x).pending = s.pending ∧ (stopAfter s x).sec.otp = s.sec.otp ∧ (Memory.wf s.hbm.mem = true → Memory.wf (stopAfter s x).hbm.mem = true) := by
  unfold stopAfter; simp +contextual (maxDischargeDepth := 20)

@[simp] theorem stopSession_keeps (s : State) (r : CmdRef) (x : Session) (e : Bytes) :
    (stopSession s r x e).pending = s.pending ∧ (stopSession s r x e).sec.otp = s.sec.otp ∧ (Memory.wf s.hbm.mem = true → Memory.wf (stopSession s r x e).hbm.mem = true) := by
  unfold stopSession; (repeat' split) <;> simp +contextual (maxDischargeDepth := 20)

@[simp] theorem acceptChange_keeps (s : State) (r : CmdRef) (x : Session) (f : Nat) (c : Bytes) :
    (acceptChange s r x f c).pending = s.pending ∧ (acceptChange s r x f c).sec.otp = s.sec.otp ∧ (acceptChange s r x f c).hbm.mem = s.hbm.mem := by
  unfold acceptChange; grind [sessPut_keeps, bumpEpoch_keeps, succeed_keeps, reserve_keeps, replanFabric_keeps]

@[simp] theorem closeBuffer_keeps (s : State) (x : Session) (detail : Nat) :
    ((closeBuffer s x detail).1).pending = s.pending ∧ ((closeBuffer s x detail).1).sec.otp = s.sec.otp ∧ (Memory.wf s.hbm.mem = true → Memory.wf ((closeBuffer s x detail).1).hbm.mem = true) := by
  unfold closeBuffer; (repeat' split) <;> simp +contextual (maxDischargeDepth := 20)

@[simp] theorem pourItem_keeps (n : Nat) (s : State) (x : Session) :
    ((pourItem n s x).1).pending = s.pending ∧ ((pourItem n s x).1).sec.otp = s.sec.otp ∧ (Memory.wf s.hbm.mem = true → Memory.wf ((pourItem n s x).1).hbm.mem = true) := by
  induction n generalizing s x <;> unfold pourItem <;> grind [closeBuffer_keeps]

@[simp] theorem settleFlush_keeps (s : State) (x : Session) :
    (settleFlush s x).pending = s.pending ∧ (settleFlush s x).sec.otp = s.sec.otp ∧ (settleFlush s x).hbm.mem = s.hbm.mem := by
  unfold settleFlush; simp

@[simp] theorem settleOutput_keeps (s : State) (id : Nat) :
    (settleOutput s id).pending = s.pending ∧ (settleOutput s id).sec.otp = s.sec.otp ∧ (Memory.wf s.hbm.mem = true → Memory.wf (settleOutput s id).hbm.mem = true) := by
  unfold settleOutput; grind [sessPut_keeps, settleStop_keeps, pourItem_keeps, settleFlush_keeps]

@[simp] theorem tabSet_keeps (s : State) (x : TableState) :
    (tabSet s x).pending = s.pending ∧ (tabSet s x).sec.otp = s.sec.otp ∧ (tabSet s x).hbm.mem = s.hbm.mem := by
  unfold tabSet; simp

@[simp] theorem lookup_keeps (s : State) (h : EthHead) :
    ((lookup s h).2).pending = s.pending ∧ ((lookup s h).2).sec.otp = s.sec.otp ∧ ((lookup s h).2).hbm.mem = s.hbm.mem := by
  unfold lookup; grind [tabSet_keeps]

@[simp] theorem learnNew_keeps (s : State) (q : LearnReq) :
    (learnNew s q).pending = s.pending ∧ (learnNew s q).sec.otp = s.sec.otp ∧ (learnNew s q).hbm.mem = s.hbm.mem := by
  unfold learnNew; grind [tabSet_keeps]

@[simp] theorem countFlap_keeps (s : State) (port : Nat) :
    (countFlap s port).pending = s.pending ∧ (countFlap s port).sec.otp = s.sec.otp ∧ (countFlap s port).hbm.mem = s.hbm.mem := by
  unfold countFlap; simp

@[simp] theorem moveEntry_keeps (s : State) (q : LearnReq) (k : Nat) (e : EmtEntry) :
    (moveEntry s q k e).pending = s.pending ∧ (moveEntry s q k e).sec.otp = s.sec.otp ∧ (moveEntry s q k e).hbm.mem = s.hbm.mem := by
  unfold moveEntry; simp

@[simp] theorem judge_keeps (s : State) (q : LearnReq) :
    (judge s q).pending = s.pending ∧ (judge s q).sec.otp = s.sec.otp ∧ (judge s q).hbm.mem = s.hbm.mem := by
  unfold judge; (repeat' split) <;> simp

@[simp] theorem flowSet_keeps (s : State) (f : Nat) (x : FlowRecord) :
    (flowSet s f x).pending = s.pending ∧ (flowSet s f x).sec.otp = s.sec.otp ∧ (flowSet s f x).hbm.mem = s.hbm.mem := by
  unfold flowSet; simp

@[simp] theorem countFlow_keeps (s : State) (f k n : Nat) :
    (countFlow s f k n).pending = s.pending ∧ (countFlow s f k n).sec.otp = s.sec.otp ∧ (countFlow s f k n).hbm.mem = s.hbm.mem := by
  unfold countFlow; simp

@[simp] theorem meterPut_keeps (s : State) (m : Nat) (x : Meter) :
    (meterPut s m x).pending = s.pending ∧ (meterPut s m x).sec.otp = s.sec.otp ∧ (meterPut s m x).hbm.mem = s.hbm.mem := by
  unfold meterPut; simp

@[simp] theorem meterPacket_keeps (s : State) (k len : Nat) (yellow : Bool) :
    ((meterPacket s k len yellow).2).pending = s.pending ∧ ((meterPacket s k len yellow).2).sec.otp = s.sec.otp ∧ ((meterPacket s k len yellow).2).hbm.mem = s.hbm.mem := by
  unfold meterPacket; simp

@[simp] theorem subSet_keeps (s : State) (n : Nat) (x : Subscriber) :
    (subSet s n x).pending = s.pending ∧ (subSet s n x).sec.otp = s.sec.otp ∧ (subSet s n x).hbm.mem = s.hbm.mem := by
  unfold subSet; simp

@[simp] theorem queueSet_keeps (s : State) (q : Nat) (x : EgressQueue) :
    (queueSet s q x).pending = s.pending ∧ (queueSet s q x).sec.otp = s.sec.otp ∧ (queueSet s q x).hbm.mem = s.hbm.mem := by
  unfold queueSet; simp

@[simp] theorem shaperSend_keeps (s : State) (n len tag : Nat) (last : Bool) :
    (shaperSend s n len tag last).pending = s.pending ∧ (shaperSend s n len tag last).sec.otp = s.sec.otp ∧ (shaperSend s n len tag last).hbm.mem = s.hbm.mem := by
  unfold shaperSend; simp

@[simp] theorem mergeSet_keeps (s : State) (f : Nat) (m : MergeState) :
    (mergeSet s f m).pending = s.pending ∧ (mergeSet s f m).sec.otp = s.sec.otp ∧ (mergeSet s f m).hbm.mem = s.hbm.mem := by
  unfold mergeSet; simp

@[simp] theorem swSet_keeps (s : State) (x : SwitchState) :
    (swSet s x).pending = s.pending ∧ (swSet s x).sec.otp = s.sec.otp ∧ (swSet s x).hbm.mem = s.hbm.mem := by
  unfold swSet; simp

@[simp] theorem countPort_keeps (s : State) (p k : Nat) :
    (countPort s p k).pending = s.pending ∧ (countPort s p k).sec.otp = s.sec.otp ∧ (countPort s p k).hbm.mem = s.hbm.mem := by
  unfold countPort; simp

@[simp] theorem countEth_keeps (s : State) (p k n : Nat) :
    (countEth s p k n).pending = s.pending ∧ (countEth s p k n).sec.otp = s.sec.otp ∧ (countEth s p k n).hbm.mem = s.hbm.mem := by
  unfold countEth; simp

@[simp] theorem countRules_keeps (s : State) (dir port flow verdict : Nat) :
    ((countRules s dir port flow verdict).2).pending = s.pending ∧ ((countRules s dir port flow verdict).2).sec.otp = s.sec.otp ∧ ((countRules s dir port flow verdict).2).hbm.mem = s.hbm.mem := by
  unfold countRules; simp

@[simp] theorem writeCapture_keeps (s : State) (rec : Nat → Bytes) :
    (writeCapture s rec).pending = s.pending ∧ (writeCapture s rec).sec.otp = s.sec.otp ∧ (Memory.wf s.hbm.mem = true → Memory.wf (writeCapture s rec).hbm.mem = true) := by
  unfold writeCapture; simp +contextual (maxDischargeDepth := 20)

@[simp] theorem capture_keeps (s : State) (dir port verdict queue sub : Nat) (cut : Bool) (time : Int) (head : Bytes) (b : Buffer) :
    (capture s dir port verdict queue sub cut time head b).pending = s.pending ∧ (capture s dir port verdict queue sub cut time head b).sec.otp = s.sec.otp ∧ (Memory.wf s.hbm.mem = true → Memory.wf (capture s dir port verdict queue sub cut time head b).hbm.mem = true) := by
  unfold capture; grind [countPort_keeps, countRules_keeps, writeCapture_keeps]

@[simp] theorem captureIn_keeps (s : State) (verdict : Nat) (cut : Bool) (b : Buffer) :
    (captureIn s verdict cut b).pending = s.pending ∧ (captureIn s verdict cut b).sec.otp = s.sec.otp ∧ (Memory.wf s.hbm.mem = true → Memory.wf (captureIn s verdict cut b).hbm.mem = true) := by
  unfold captureIn; simp +contextual (maxDischargeDepth := 20)

@[simp] theorem poolPut_keeps (s : State) (k : Nat) (p : Pool) :
    (poolPut s k p).pending = s.pending ∧ (poolPut s k p).sec.otp = s.sec.otp ∧ (poolPut s k p).hbm.mem = s.hbm.mem := by
  unfold poolPut; simp

@[simp] theorem sendPfc_keeps (s : State) (mask : Nat) (xoff : Bool) :
    (sendPfc s mask xoff).pending = s.pending ∧ (sendPfc s mask xoff).sec.otp = s.sec.otp ∧ (sendPfc s mask xoff).hbm.mem = s.hbm.mem := by
  have h (q : Nat) (t : State) := foldl_same (f := fun s p =>
    if bitOf (ethGet s p).cfg.flags 0 && (ethGet s p).up then
      (List.range 8).foldl (fun s k =>
        if bitOf mask k then countEth (emit s (.pause p k q)) p 7 (if xoff then 1 else 0) else s) s
    else s) (fun s p => by
      split
      · exact foldl_same (fun s k => by split <;> simp +contextual (maxDischargeDepth := 20)) _ _
      · simp +contextual (maxDischargeDepth := 20)) (List.range 16) t
  unfold sendPfc
  cases xoff
  · exact h 0 s
  · have d := draw_keeps s 65536
    have e := h (draw s 65536).1 (draw s 65536).2
    exact ⟨e.1.trans d.1, e.2.1.trans d.2.1, e.2.2.trans d.2.2⟩

@[simp] theorem settlePool_keeps (s : State) (k : Nat) :
    (settlePool s k).pending = s.pending ∧ (settlePool s k).sec.otp = s.sec.otp ∧ (settlePool s k).hbm.mem = s.hbm.mem := by
  unfold settlePool; simp

@[simp] theorem allocate_keeps (s : State) (k requester colour : Nat) :
    ((allocate s k requester colour).2).pending = s.pending ∧ ((allocate s k requester colour).2).sec.otp = s.sec.otp ∧ ((allocate s k requester colour).2).hbm.mem = s.hbm.mem := by
  unfold allocate; grind [poolPut_keeps, settlePool_keeps]

@[simp] theorem giveBack_keeps (s : State) (id : Nat) (b : Buffer) (readback : Bool) :
    (giveBack s id b readback).pending = s.pending ∧ (giveBack s id b readback).sec.otp = s.sec.otp ∧ (giveBack s id b readback).hbm.mem = s.hbm.mem := by
  unfold giveBack; simp

@[simp] theorem fillBuffer_keeps (s : State) (k : Nat) (b : Buffer) (owner : Nat) :
    ((fillBuffer s k b owner).2).pending = s.pending ∧ ((fillBuffer s k b owner).2).sec.otp = s.sec.otp ∧ ((fillBuffer s k b owner).2).hbm.mem = s.hbm.mem := by
  unfold fillBuffer; simp

@[simp] theorem bufPut_keeps (s : State) (id : Nat) (b : Buffer) :
    (bufPut s id b).pending = s.pending ∧ (bufPut s id b).sec.otp = s.sec.otp ∧ (bufPut s id b).hbm.mem = s.hbm.mem := by
  unfold bufPut; simp

@[simp] theorem leaveCount_keeps (s : State) (id : Nat) (readback : Bool) :
    (leaveCount s id readback).pending = s.pending ∧ (leaveCount s id readback).sec.otp = s.sec.otp ∧ (leaveCount s id readback).hbm.mem = s.hbm.mem := by
  unfold leaveCount; (repeat' split) <;> simp

@[simp] theorem badFree_keeps (s : State) (id : Nat) (double : Bool) :
    (badFree s id double).pending = s.pending ∧ (badFree s id double).sec.otp = s.sec.otp ∧ (badFree s id double).hbm.mem = s.hbm.mem := by
  unfold badFree; simp

@[simp] theorem freeRequest_keeps (s : State) (id requester : Nat) (readback : Bool) :
    (freeRequest s id requester readback).pending = s.pending ∧ (freeRequest s id requester readback).sec.otp = s.sec.otp ∧ (freeRequest s id requester readback).hbm.mem = s.hbm.mem := by
  unfold freeRequest; (repeat' split) <;> simp

@[simp] theorem judgeCopy_keeps (s : State) (n colour len : Nat) :
    ((judgeCopy s n colour len).2).pending = s.pending ∧ ((judgeCopy s n colour len).2).sec.otp = s.sec.otp ∧ ((judgeCopy s n colour len).2).hbm.mem = s.hbm.mem := by
  unfold judgeCopy; grind [draw_keeps, swSet_keeps]

@[simp] theorem putCopy_keeps (s : State) (n id sub len : Nat) (cut : Bool) :
    (putCopy s n id sub len cut).pending = s.pending ∧ (putCopy s n id sub len cut).sec.otp = s.sec.otp ∧ (putCopy s n id sub len cut).hbm.mem = s.hbm.mem := by
  unfold putCopy; simp

@[simp] theorem outVerdict_keeps (s : State) (p sub n : Nat) (b : Buffer) :
    ((outVerdict s p sub n b).2).pending = s.pending ∧ ((outVerdict s p sub n b).2).sec.otp = s.sec.otp ∧ ((outVerdict s p sub n b).2).hbm.mem = s.hbm.mem := by
  unfold outVerdict; (repeat' split) <;> simp

@[simp] theorem countRefused_keeps (s : State) (p v : Nat) (b : Buffer) :
    (countRefused s p v b).pending = s.pending ∧ (countRefused s p v b).sec.otp = s.sec.otp ∧ (countRefused s p v b).hbm.mem = s.hbm.mem := by
  unfold countRefused; (repeat' split) <;> simp

@[simp] theorem decideCopy_keeps (s : State) (id : Nat) (b : Buffer) (cuts : List (Nat × Nat)) (d : Nat × Nat) :
    ((decideCopy s id b cuts d).2).pending = s.pending ∧ ((decideCopy s id b cuts d).2).sec.otp = s.sec.otp ∧ (Memory.wf s.hbm.mem = true → Memory.wf ((decideCopy s id b cuts d).2).hbm.mem = true) := by
  unfold decideCopy; grind [capture_keeps, putCopy_keeps, outVerdict_keeps, countRefused_keeps]

@[simp] theorem decideCopies_keeps (s : State) (id : Nat) (b : Buffer) (cuts : List (Nat × Nat)) :
    (decideCopies s id b cuts).pending = s.pending ∧ (decideCopies s id b cuts).sec.otp = s.sec.otp ∧ (Memory.wf s.hbm.mem = true → Memory.wf (decideCopies s id b cuts).hbm.mem = true) := by
  have h := foldl_snd_keeps (f := fun (a : Nat × State) d =>
      let (okay, t) := decideCopy a.2 id b cuts d
      (a.1 + (if okay then 1 else 0), t)) (fun p a => decideCopy_keeps p.2 id b cuts a) b.dests (0, s)
  unfold decideCopies
  dsimp only at h ⊢
  split
  · exact h
  · split
    · exact ⟨(giveBack_keeps _ _ _ _).1.trans h.1, (giveBack_keeps _ _ _ _).2.1.trans h.2.1, fun w => by
        rw [(giveBack_keeps _ _ _ _).2.2]; exact h.2.2 w⟩
    · exact ⟨(bufPut_keeps _ _ _).1.trans h.1, (bufPut_keeps _ _ _).2.1.trans h.2.1, fun w => by
        rw [(bufPut_keeps _ _ _).2.2]; exact h.2.2 w⟩

@[simp] theorem dropCopies_keeps (s : State) (p : Nat → EgressQueue → Copy → Bool) (readback : Bool) :
    (dropCopies s p readback).pending = s.pending ∧ (dropCopies s p readback).sec.otp = s.sec.otp ∧ (dropCopies s p readback).hbm.mem = s.hbm.mem := by
  unfold dropCopies; simp

@[simp] theorem portDown_keeps (s : State) (p : Nat) :
    (portDown s p).pending = s.pending ∧ (portDown s p).sec.otp = s.sec.otp ∧ (portDown s p).hbm.mem = s.hbm.mem := by
  unfold portDown; (repeat' split) <;> simp

@[simp] theorem dropIn_keeps (s : State) (v : Nat) (b : Buffer) :
    (dropIn s v b).pending = s.pending ∧ (dropIn s v b).sec.otp = s.sec.otp ∧ (Memory.wf s.hbm.mem = true → Memory.wf (dropIn s v b).hbm.mem = true) := by
  unfold dropIn; (repeat' split) <;> simp +contextual (maxDischargeDepth := 20)

@[simp] theorem holdPacket_keeps (s : State) (b : Buffer) :
    (holdPacket s b).pending = s.pending ∧ (holdPacket s b).sec.otp = s.sec.otp ∧ (holdPacket s b).hbm.mem = s.hbm.mem := by
  unfold holdPacket; simp

@[simp] theorem placePacket_keeps (s : State) (b : Buffer) :
    (placePacket s b).pending = s.pending ∧ (placePacket s b).sec.otp = s.sec.otp ∧ (Memory.wf s.hbm.mem = true → Memory.wf (placePacket s b).hbm.mem = true) := by
  unfold placePacket; grind [captureIn_keeps, allocate_keeps, fillBuffer_keeps, decideCopies_keeps, dropIn_keeps, holdPacket_keeps]

@[simp] theorem colourPacket_keeps (s : State) (b : Buffer) :
    ((colourPacket s b).2).pending = s.pending ∧ ((colourPacket s b).2).sec.otp = s.sec.otp ∧ ((colourPacket s b).2).hbm.mem = s.hbm.mem := by
  unfold colourPacket; grind [meterPacket_keeps]

@[simp] theorem deliver_keeps (s : State) (b : Buffer) :
    (deliver s b).pending = s.pending ∧ (deliver s b).sec.otp = s.sec.otp ∧ (Memory.wf s.hbm.mem = true → Memory.wf (deliver s b).hbm.mem = true) := by
  unfold deliver; grind [countFlow_keeps, dropIn_keeps, placePacket_keeps, colourPacket_keeps]

@[simp] theorem releaseHeld_keeps (s : State) (id : Nat) :
    (releaseHeld s id).pending = s.pending ∧ (releaseHeld s id).sec.otp = s.sec.otp ∧ (Memory.wf s.hbm.mem = true → Memory.wf (releaseHeld s id).hbm.mem = true) := by
  unfold releaseHeld; (repeat' split) <;> simp +contextual (maxDischargeDepth := 20)

@[simp] theorem releaseRun_keeps (n : Nat) (s : State) (a : Nat) :
    (releaseRun n s a).pending = s.pending ∧ (releaseRun n s a).sec.otp = s.sec.otp ∧ (Memory.wf s.hbm.mem = true → Memory.wf (releaseRun n s a).hbm.mem = true) := by
  induction n generalizing s <;> unfold releaseRun <;> grind [mergeSet_keeps, releaseHeld_keeps]

@[simp] theorem declareLost_keeps (s : State) (a : Nat) :
    (declareLost s a).pending = s.pending ∧ (declareLost s a).sec.otp = s.sec.otp ∧ (Memory.wf s.hbm.mem = true → Memory.wf (declareLost s a).hbm.mem = true) := by
  unfold declareLost; grind [countFlow_keeps, mergeSet_keeps, releaseRun_keeps]

@[simp] theorem settleMerge_keeps (s : State) (a : Nat) :
    (settleMerge s a).pending = s.pending ∧ (settleMerge s a).sec.otp = s.sec.otp ∧ (Memory.wf s.hbm.mem = true → Memory.wf (settleMerge s a).hbm.mem = true) := by
  unfold settleMerge; grind [declareLost_keeps]

@[simp] theorem mergeNext_keeps (s : State) (a n : Nat) (b : Buffer) :
    (mergeNext s a n b).pending = s.pending ∧ (mergeNext s a n b).sec.otp = s.sec.otp ∧ (Memory.wf s.hbm.mem = true → Memory.wf (mergeNext s a n b).hbm.mem = true) := by
  unfold mergeNext; simp +contextual (maxDischargeDepth := 20)

@[simp] theorem mergeHold_keeps (s : State) (a n : Nat) (b : Buffer) :
    (mergeHold s a n b).pending = s.pending ∧ (mergeHold s a n b).sec.otp = s.sec.otp ∧ (Memory.wf s.hbm.mem = true → Memory.wf (mergeHold s a n b).hbm.mem = true) := by
  unfold mergeHold; grind [mergeSet_keeps, allocate_keeps, fillBuffer_keeps, settleMerge_keeps]

@[simp] theorem mergeRestart_keeps (s : State) (a n : Nat) (b : Buffer) :
    (mergeRestart s a n b).pending = s.pending ∧ (mergeRestart s a n b).sec.otp = s.sec.otp ∧ (Memory.wf s.hbm.mem = true → Memory.wf (mergeRestart s a n b).hbm.mem = true) := by
  have h := foldl_same (f := fun s h => match bufGet s h.2 with | some c => giveBack s h.2 c true | none => s)
    (fun s h => by split <;> simp) (mergeGet s a).held s
  unfold mergeRestart
  dsimp only at h ⊢
  refine ⟨?_, ?_, fun w => ?_⟩
  · exact (mergeNext_keeps _ _ _ _).1.trans ((countFlow_keeps _ _ _ _).1.trans ((mergeSet_keeps _ _ _).1.trans h.1))
  · exact (mergeNext_keeps _ _ _ _).2.1.trans ((countFlow_keeps _ _ _ _).2.1.trans ((mergeSet_keeps _ _ _).2.1.trans h.2.1))
  · refine (mergeNext_keeps _ _ _ _).2.2 ?_
    exact ((countFlow_keeps _ _ _ _).2.2.trans ((mergeSet_keeps _ _ _).2.2.trans h.2.2)) ▸ w

@[simp] theorem mergePacket_keeps (s : State) (a : Nat) (legB : Bool) (b0 : Buffer) (udp : Bytes) :
    (mergePacket s a legB b0 udp).pending = s.pending ∧ (mergePacket s a legB b0 udp).sec.otp = s.sec.otp ∧ (Memory.wf s.hbm.mem = true → Memory.wf (mergePacket s a legB b0 udp).hbm.mem = true) := by
  unfold mergePacket
  dsimp only
  (repeat' split) <;> grind [mergeNext_keeps, countFlow_keeps, mergeRestart_keeps, mergeHold_keeps, mergeSet_keeps]

@[simp] theorem acceptPn_keeps (s : State) (h : EthHead) :
    (acceptPn s h).pending = s.pending ∧ (acceptPn s h).sec.otp = s.sec.otp ∧ (acceptPn s h).hbm.mem = s.hbm.mem := by
  unfold acceptPn; simp

@[simp] theorem cutFrame_keeps (s : State) (h : EthHead) (st : Staged) (cuts : List (Nat × Nat)) :
    (cutFrame s h st cuts).pending = s.pending ∧ (cutFrame s h st cuts).sec.otp = s.sec.otp ∧ (Memory.wf s.hbm.mem = true → Memory.wf (cutFrame s h st cuts).hbm.mem = true) := by
  unfold cutFrame; grind [countFlow_keeps, swSet_keeps, captureIn_keeps, allocate_keeps, fillBuffer_keeps, decideCopies_keeps, colourPacket_keeps]

@[simp] theorem headFrame_keeps (s : State) (h : EthHead) :
    (headFrame s h).pending = s.pending ∧ (headFrame s h).sec.otp = s.sec.otp ∧ (Memory.wf s.hbm.mem = true → Memory.wf (headFrame s h).hbm.mem = true) := by
  unfold headFrame; grind [lookup_keeps, swSet_keeps, countEth_keeps, cutFrame_keeps]

@[simp] theorem endCut_keeps (s : State) (id len : Nat) (bad : Bool) :
    (endCut s id len bad).pending = s.pending ∧ (endCut s id len bad).sec.otp = s.sec.otp ∧ (Memory.wf s.hbm.mem = true → Memory.wf (endCut s id len bad).hbm.mem = true) := by
  unfold endCut; grind [countPort_keeps, captureIn_keeps, bufPut_keeps, dropCopies_keeps]

@[simp] theorem endStored_keeps (s : State) (st : Staged) (len : Nat) (bad : Bool) (head : Bytes) :
    (endStored s st len bad head).pending = s.pending ∧ (endStored s st len bad head).sec.otp = s.sec.otp ∧ (Memory.wf s.hbm.mem = true → Memory.wf (endStored s st len bad head).hbm.mem = true) := by
  unfold endStored; (repeat' split) <;> simp +contextual (maxDischargeDepth := 20)

@[simp] theorem takeCopy_keeps (s : State) (n : Nat) (q : EgressQueue) (len : Nat) :
    (takeCopy s n q len).pending = s.pending ∧ (takeCopy s n q len).sec.otp = s.sec.otp ∧ (takeCopy s n q len).hbm.mem = s.hbm.mem := by
  unfold takeCopy; simp

theorem protect_keeps (s : State) (p : Nat) (clear : Bool) (t : State) (h : protect s p clear = some t) : (t).pending = s.pending ∧ (t).sec.otp = s.sec.otp ∧ (Memory.wf s.hbm.mem = true → Memory.wf (t).hbm.mem = true) := by
  unfold protect at h
  dsimp only at h
  (repeat' split at h) <;> grind [logEvent_keeps, ethSet_keeps]

@[simp] theorem startFrame_keeps (s : State) (p n : Nat) (q : EgressQueue) (c : Copy) (b : Buffer) (head : Bytes) : (startFrame s p n q c b head).pending = s.pending ∧ (startFrame s p n q c b head).sec.otp = s.sec.otp ∧ (Memory.wf s.hbm.mem = true → Memory.wf (startFrame s p n q c b head).hbm.mem = true) := by
  have h1 : ∀ t, (if p < 16 then protect (if p < 16 then shaperSend (takeCopy s n q b.len) q.sub b.len c.tag (subEmpty (takeCopy s n q b.len) q.sub)
      else takeCopy s n q b.len) p b.clear else some (if p < 16 then shaperSend (takeCopy s n q b.len) q.sub b.len c.tag
      (subEmpty (takeCopy s n q b.len) q.sub) else takeCopy s n q b.len)) = some t → (t).pending = s.pending ∧ (t).sec.otp = s.sec.otp ∧ (Memory.wf s.hbm.mem = true → Memory.wf (t).hbm.mem = true) := by
    intro t h
    split at h
    · have k := protect_keeps _ _ _ _ h
      simp only [takeCopy_keeps, shaperSend_keeps] at k
      exact ⟨k.1, k.2.1, fun w => k.2.2 (by simp +contextual (maxDischargeDepth := 20) [w])⟩
    · cases h; simp +contextual (maxDischargeDepth := 20)
  unfold startFrame
  dsimp only
  split
  · (repeat' split) <;> simp +contextual (maxDischargeDepth := 20)
  · split
    · (repeat' split) <;> simp +contextual (maxDischargeDepth := 20)
    · rename_i s3 e
      have k := h1 s3 e
      (repeat' split) <;> simp +contextual (maxDischargeDepth := 20) [k, k.2.2]

@[simp] theorem selectEth_keeps (s : State) (p : Nat) (head : Bytes) :
    (selectEth s p head).pending = s.pending ∧ (selectEth s p head).sec.otp = s.sec.otp ∧ (Memory.wf s.hbm.mem = true → Memory.wf (selectEth s p head).hbm.mem = true) := by
  unfold selectEth; grind [ethSet_keeps, startFrame_keeps]

@[simp] theorem selectPort_keeps (s : State) (p : Nat) (head : Bytes) :
    (selectPort s p head).pending = s.pending ∧ (selectPort s p head).sec.otp = s.sec.otp ∧ (Memory.wf s.hbm.mem = true → Memory.wf (selectPort s p head).hbm.mem = true) := by
  unfold selectPort; (repeat' split) <;> simp +contextual (maxDischargeDepth := 20)

@[simp] theorem endCopy_keeps (s : State) (p id : Nat) (b : Buffer) (readback : Bool) :
    (endCopy s p id b readback).pending = s.pending ∧ (endCopy s p id b readback).sec.otp = s.sec.otp ∧ (Memory.wf s.hbm.mem = true → Memory.wf (endCopy s p id b readback).hbm.mem = true) := by
  unfold endCopy; (repeat' split) <;> simp +contextual (maxDischargeDepth := 20)

@[simp] theorem unitPut_keeps (s : State) (x : Session) (f : EncFrame) (i : Nat) (u : UnitRec) :
    (unitPut s x f i u).pending = s.pending ∧ (unitPut s x f i u).sec.otp = s.sec.otp ∧ (unitPut s x f i u).hbm.mem = s.hbm.mem := by
  unfold unitPut; simp

@[simp] theorem measureCu_keeps (s : State) (core : Nat) (m : CuMeas) (sl : CuSlot) (x : Session) (f : EncFrame) (u : UnitRec) (w : WorkRef) :
    (measureCu s core m sl x f u w).pending = s.pending ∧ (measureCu s core m sl x f u w).sec.otp = s.sec.otp ∧ (measureCu s core m sl x f u w).hbm.mem = s.hbm.mem := by
  unfold measureCu; grind [coreSet_keeps, unitPut_keeps]

@[simp] theorem writeRungs_keeps (s : State) (fn : Nat) (c : Bytes) (frame : Nat) (src : List Plane) :
    (writeRungs s fn c frame src).pending = s.pending ∧ (writeRungs s fn c frame src).sec.otp = s.sec.otp ∧ (Memory.wf s.hbm.mem = true → Memory.wf (writeRungs s fn c frame src).hbm.mem = true) := by
  unfold writeRungs; simp +contextual (maxDischargeDepth := 20)

@[simp] theorem completeSource_keeps (s : State) (x : Session) (p : SubPicture) :
    (completeSource s x p).pending = s.pending ∧ (completeSource s x p).sec.otp = s.sec.otp ∧ (completeSource s x p).hbm.mem = s.hbm.mem := by
  unfold completeSource; simp

@[simp] theorem ppuSource_keeps (s : State) (x : Session) (p : SubPicture) (i : PpuInput) :
    (ppuSource s x p i).pending = s.pending ∧ (ppuSource s x p i).sec.otp = s.sec.otp ∧ (Memory.wf s.hbm.mem = true → Memory.wf (ppuSource s x p i).hbm.mem = true) := by
  unfold ppuSource; grind [sessPut_keeps, writeRungs_keeps, completeSource_keeps]

@[simp] theorem ppuOutput_keeps (s : State) (x : Session) (i : PpuInput) :
    (ppuOutput s x i).pending = s.pending ∧ (ppuOutput s x i).sec.otp = s.sec.otp ∧ (ppuOutput s x i).hbm.mem = s.hbm.mem := by
  unfold ppuOutput; simp

@[simp] theorem settleRotation_keeps (s : State) (k : Nat) :
    (settleRotation s k).pending = s.pending ∧ (settleRotation s k).sec.otp = s.sec.otp ∧ (settleRotation s k).hbm.mem = s.hbm.mem := by
  unfold settleRotation; (repeat' split) <;> simp

@[simp] theorem beginWake_keeps (s : State) (c : Nat) :
    (beginWake s c).pending = s.pending ∧ (beginWake s c).sec.otp = s.sec.otp ∧ (beginWake s c).hbm.mem = s.hbm.mem := by
  unfold beginWake; simp

@[simp] theorem restartCore_keeps (s : State) (core : Nat) :
    (restartCore s core).pending = s.pending ∧ (restartCore s core).sec.otp = s.sec.otp ∧ (restartCore s core).hbm.mem = s.hbm.mem := by
  unfold restartCore; grind [coreSet_keeps, unitPut_keeps]

@[simp] theorem restartDecoder_keeps (s : State) (core : Nat) :
    (restartDecoder s core).pending = s.pending ∧ (restartDecoder s core).sec.otp = s.sec.otp ∧ (restartDecoder s core).hbm.mem = s.hbm.mem := by
  unfold restartDecoder; simp

@[simp] theorem restartAny_keeps (s : State) (core : Nat) :
    (restartAny s core).pending = s.pending ∧ (restartAny s core).sec.otp = s.sec.otp ∧ (restartAny s core).hbm.mem = s.hbm.mem := by
  unfold restartAny; simp

@[simp] theorem markReference_keeps (s : State) (core : Nat) (r : BadRect) :
    (markReference s core r).pending = s.pending ∧ (markReference s core r).sec.otp = s.sec.otp ∧ (markReference s core r).hbm.mem = s.hbm.mem := by
  unfold markReference; (repeat' split) <;> simp

@[simp] theorem concealSource_keeps (s : State) (core n : Nat) :
    (concealSource s core n).pending = s.pending ∧ (concealSource s core n).sec.otp = s.sec.otp ∧ (concealSource s core n).hbm.mem = s.hbm.mem := by
  unfold concealSource; (repeat' split) <;> simp

@[simp] theorem postMotion_keeps (s : State) (x : Session) (f : EncFrame) :
    ((postMotion s x f).1).pending = s.pending ∧ ((postMotion s x f).1).sec.otp = s.sec.otp ∧ (Memory.wf s.hbm.mem = true → Memory.wf ((postMotion s x f).1).hbm.mem = true) := by
  unfold postMotion; (repeat' split) <;> simp +contextual (maxDischargeDepth := 20)

@[simp] theorem writeFmap_keeps (s : State) (x : Session) (f : EncFrame) :
    (writeFmap s x f).pending = s.pending ∧ (writeFmap s x f).sec.otp = s.sec.otp ∧ (Memory.wf s.hbm.mem = true → Memory.wf (writeFmap s x f).hbm.mem = true) := by
  unfold writeFmap; simp +contextual (maxDischargeDepth := 20)

@[simp] theorem reportFrame_keeps (s : State) (x : Session) (f0 : EncFrame) :
    (reportFrame s x f0).pending = s.pending ∧ (reportFrame s x f0).sec.otp = s.sec.otp ∧ (Memory.wf s.hbm.mem = true → Memory.wf (reportFrame s x f0).hbm.mem = true) := by
  unfold reportFrame; grind [draw_keeps, postRing_keeps, sessPut_keeps, logSession_keeps, postMotion_keeps, writeFmap_keeps]

@[simp] theorem reportFrames_keeps (n : Nat) (s : State) (id : Nat) :
    (reportFrames n s id).pending = s.pending ∧ (reportFrames n s id).sec.otp = s.sec.otp ∧ (Memory.wf s.hbm.mem = true → Memory.wf (reportFrames n s id).hbm.mem = true) := by
  induction n generalizing s <;> unfold reportFrames <;> grind [reportFrame_keeps]

@[simp] theorem queueUnits_keeps (s : State) (x : Session) (f : EncFrame) (first : Nat) (l : List UnitRec) :
    (queueUnits s x f first l).pending = s.pending ∧ (queueUnits s x f first l).sec.otp = s.sec.otp ∧ (queueUnits s x f first l).hbm.mem = s.hbm.mem := by
  unfold queueUnits; simp

@[simp] theorem limitReached_keeps (s : State) (id : Nat) (f : EncFrame) :
    (limitReached s id f).pending = s.pending ∧ (limitReached s id f).sec.otp = s.sec.otp ∧ (Memory.wf s.hbm.mem = true → Memory.wf (limitReached s id f).hbm.mem = true) := by
  unfold limitReached; (repeat' split) <;> simp +contextual (maxDischargeDepth := 20)

@[simp] theorem dispatchBand_keeps (s : State) (x : Session) (f : EncFrame) (place : List Nat) :
    (dispatchBand s x f place).pending = s.pending ∧ (dispatchBand s x f place).sec.otp = s.sec.otp ∧ (Memory.wf s.hbm.mem = true → Memory.wf (dispatchBand s x f place).hbm.mem = true) := by
  unfold dispatchBand; grind [sessPut_keeps, queueUnits_keeps, limitReached_keeps]

@[simp] theorem dispatchFrame_keeps (s : State) (x0 : Session) (place : List Nat) (target : Nat) (shares : List Nat) :
    (dispatchFrame s x0 place target shares).pending = s.pending ∧ (dispatchFrame s x0 place target shares).sec.otp = s.sec.otp ∧ (Memory.wf s.hbm.mem = true → Memory.wf (dispatchFrame s x0 place target shares).hbm.mem = true) := by
  unfold dispatchFrame; grind [sessPut_keeps, dispatchBand_keeps]

@[simp] theorem startUnit_keeps (s : State) (core : Nat) (b : BandCmd) (x : Session) (f : EncFrame) (u : UnitRec) :
    (startUnit s core b x f u).pending = s.pending ∧ (startUnit s core b x f u).sec.otp = s.sec.otp ∧ (startUnit s core b x f u).hbm.mem = s.hbm.mem := by
  unfold startUnit; simp

@[simp] theorem enterFront_keeps (s : State) (core : Nat) (x : Session) (f : EncFrame) (u : UnitRec) (w : WorkRef) :
    (enterFront s core x f u w).pending = s.pending ∧ (enterFront s core x f u w).sec.otp = s.sec.otp ∧ (enterFront s core x f u w).hbm.mem = s.hbm.mem := by
  unfold enterFront; simp

@[simp] theorem moveInto_keeps (s : State) (core e : Nat) (around : List AssayIn) (x : Session) (f : EncFrame) (u : UnitRec) :
    (moveInto s core e around x f u).pending = s.pending ∧ (moveInto s core e around x f u).sec.otp = s.sec.otp ∧ (moveInto s core e around x f u).hbm.mem = s.hbm.mem := by
  unfold moveInto; grind [coreSet_keeps]

@[simp] theorem sendStats_keeps (s : State) (x : Session) (f : EncFrame) (u : UnitRec) :
    (sendStats s x f u).pending = s.pending ∧ (sendStats s x f u).sec.otp = s.sec.otp ∧ (sendStats s x f u).hbm.mem = s.hbm.mem := by
  unfold sendStats; simp

@[simp] theorem sendSeams_keeps (s : State) (x : Session) (f : EncFrame) (b : Nat) :
    (sendSeams s x f b).pending = s.pending ∧ (sendSeams s x f b).sec.otp = s.sec.otp ∧ (sendSeams s x f b).hbm.mem = s.hbm.mem := by
  unfold sendSeams; simp

@[simp] theorem sendStrips_keeps (s : State) (x : Session) (f : EncFrame) (b : Nat) :
    (sendStrips s x f b).pending = s.pending ∧ (sendStrips s x f b).sec.otp = s.sec.otp ∧ (sendStrips s x f b).hbm.mem = s.hbm.mem := by
  unfold sendStrips; simp

@[simp] theorem finishUnit_keeps (s : State) (core : Nat) (x : Session) (f : EncFrame) (i : Nat) (u : UnitRec) :
    (finishUnit s core x f i u).pending = s.pending ∧ (finishUnit s core x f i u).sec.otp = s.sec.otp ∧ (Memory.wf s.hbm.mem = true → Memory.wf (finishUnit s core x f i u).hbm.mem = true) := by
  unfold finishUnit; simp +contextual (maxDischargeDepth := 20)

@[simp] theorem commitRow_keeps (s : State) (core : Nat) (b : Bytes) (complexity : Nat) (x : Session) (f : EncFrame) (u : UnitRec) (w : WorkRef) :
    (commitRow s core b complexity x f u w).pending = s.pending ∧ (commitRow s core b complexity x f u w).sec.otp = s.sec.otp ∧ (Memory.wf s.hbm.mem = true → Memory.wf (commitRow s core b complexity x f u w).hbm.mem = true) := by
  unfold commitRow; grind [coreSet_keeps, coreFault_keeps, unitPut_keeps, restartCore_keeps, finishUnit_keeps]

@[simp] theorem fillGap_keeps (s : State) (x : Session) (last : Nat) :
    (fillGap s x last).pending = s.pending ∧ (fillGap s x last).sec.otp = s.sec.otp ∧ (fillGap s x last).hbm.mem = s.hbm.mem := by
  unfold fillGap; (repeat' split) <;> simp

@[simp] theorem writeCmap_keeps (s : State) (x : Session) (p : DecPicture) :
    (writeCmap s x p).pending = s.pending ∧ (writeCmap s x p).sec.otp = s.sec.otp ∧ (Memory.wf s.hbm.mem = true → Memory.wf (writeCmap s x p).hbm.mem = true) := by
  unfold writeCmap; (repeat' split) <;> simp +contextual (maxDischargeDepth := 20)

@[simp] theorem writeOutput_keeps (s : State) (x : Session) (p : DecPicture) :
    ((writeOutput s x p).1).pending = s.pending ∧ ((writeOutput s x p).1).sec.otp = s.sec.otp ∧ (Memory.wf s.hbm.mem = true → Memory.wf ((writeOutput s x p).1).hbm.mem = true) := by
  unfold writeOutput; (repeat' split) <;> simp +contextual (maxDischargeDepth := 20)

@[simp] theorem finishOutput_keeps (s : State) (id pic : Nat) :
    (finishOutput s id pic).pending = s.pending ∧ (finishOutput s id pic).sec.otp = s.sec.otp ∧ (Memory.wf s.hbm.mem = true → Memory.wf (finishOutput s id pic).hbm.mem = true) := by
  unfold finishOutput; grind [draw_keeps, postRing_keeps, sessPut_keeps, settleStop_keeps, settleFlush_keeps, writeCmap_keeps, writeOutput_keeps]

@[simp] theorem markLate_keeps (s : State) (id pic : Nat) :
    (markLate s id pic).pending = s.pending ∧ (markLate s id pic).sec.otp = s.sec.otp ∧ (markLate s id pic).hbm.mem = s.hbm.mem := by
  unfold markLate; (repeat' split) <;> simp

@[simp] theorem pxReceive_keeps (s : State) (typ : Nat) (p : PxPkt) :
    ((pxReceive s typ p).2).pending = s.pending ∧ ((pxReceive s typ p).2).sec.otp = s.sec.otp ∧ ((pxReceive s typ p).2).hbm.mem = s.hbm.mem := by
  unfold pxReceive; grind [draw_keeps, pxSet_keeps, collect_keeps]

@[simp] theorem endPicture_keeps (s : State) (p : Nat) :
    (endPicture s p).pending = s.pending ∧ (endPicture s p).sec.otp = s.sec.otp ∧ (endPicture s p).hbm.mem = s.hbm.mem := by
  unfold endPicture; grind [sessPut_keeps, logSession_keeps, pxSet_keeps]

@[simp] theorem beginPicture_keeps (s : State) (p : PxPkt) (f : PxStart) (x : Session) :
    (beginPicture s p f x).pending = s.pending ∧ (beginPicture s p f x).sec.otp = s.sec.otp ∧ (beginPicture s p f x).hbm.mem = s.hbm.mem := by
  unfold beginPicture; simp

@[simp] theorem discardPicture_keeps (s : State) (p : PxPkt) (f : PxStart) :
    (discardPicture s p f).pending = s.pending ∧ (discardPicture s p f).sec.otp = s.sec.otp ∧ (discardPicture s p f).hbm.mem = s.hbm.mem := by
  unfold discardPicture; simp

@[simp] theorem startPicture_keeps (s : State) (p : PxPkt) :
    (startPicture s p).pending = s.pending ∧ (startPicture s p).sec.otp = s.sec.otp ∧ (startPicture s p).hbm.mem = s.hbm.mem := by
  unfold startPicture; grind [pxSet_keeps, endPicture_keeps, beginPicture_keeps, discardPicture_keeps]

@[simp] theorem orderError_keeps (s : State) (p : Nat) :
    (orderError s p).pending = s.pending ∧ (orderError s p).sec.otp = s.sec.otp ∧ (orderError s p).hbm.mem = s.hbm.mem := by
  unfold orderError; simp

@[simp] theorem takeLine_keeps (s : State) (p : PxPkt) :
    (takeLine s p).pending = s.pending ∧ (takeLine s p).sec.otp = s.sec.otp ∧ (takeLine s p).hbm.mem = s.hbm.mem := by
  unfold takeLine; (repeat' split) <;> simp

@[simp] theorem takeMetadata_keeps (s : State) (p : PxPkt) :
    (takeMetadata s p).pending = s.pending ∧ (takeMetadata s p).sec.otp = s.sec.otp ∧ (takeMetadata s p).hbm.mem = s.hbm.mem := by
  unfold takeMetadata; grind [sessPut_keeps, pxSet_keeps, orderError_keeps]

@[simp] theorem pxDown_keeps (s : State) (p : Nat) :
    (pxDown s p).pending = s.pending ∧ (pxDown s p).sec.otp = s.sec.otp ∧ (pxDown s p).hbm.mem = s.hbm.mem := by
  unfold pxDown; simp

@[simp] theorem pxStartOutput_keeps (s : State) (port : Nat) (o : PxSending) :
    (pxStartOutput s port o).pending = s.pending ∧ (pxStartOutput s port o).sec.otp = s.sec.otp ∧ (pxStartOutput s port o).hbm.mem = s.hbm.mem := by
  unfold pxStartOutput; simp

@[simp] theorem sendLine_keeps (s : State) (port : Nat) (o : PxSending) (planes : List (List Bytes)) :
    (sendLine s port o planes).pending = s.pending ∧ (sendLine s port o planes).sec.otp = s.sec.otp ∧ (sendLine s port o planes).hbm.mem = s.hbm.mem := by
  unfold sendLine; simp

@[simp] theorem nextLineOut_keeps (s : State) (port : Nat) (o : PxSending) :
    (nextLineOut s port o).pending = s.pending ∧ (nextLineOut s port o).sec.otp = s.sec.otp ∧ (Memory.wf s.hbm.mem = true → Memory.wf (nextLineOut s port o).hbm.mem = true) := by
  unfold nextLineOut; (repeat' split) <;> simp +contextual (maxDischargeDepth := 20)

@[simp] theorem applyEth_keeps (s : State) (p : Nat) (d : Bytes) :
    (applyEth s p d).pending = s.pending ∧ (applyEth s p d).sec.otp = s.sec.otp ∧ (applyEth s p d).hbm.mem = s.hbm.mem := by
  unfold applyEth; simp

@[simp] theorem applyPx_keeps (s : State) (p : Nat) (d : Bytes) :
    (applyPx s p d).pending = s.pending ∧ (applyPx s p d).sec.otp = s.sec.otp ∧ (applyPx s p d).hbm.mem = s.hbm.mem := by
  unfold applyPx; simp

@[simp] theorem clearMerge_keeps (s : State) (f : Nat) :
    (clearMerge s f).pending = s.pending ∧ (clearMerge s f).sec.otp = s.sec.otp ∧ (clearMerge s f).hbm.mem = s.hbm.mem := by
  unfold clearMerge; dsimp only; exact foldl_same (fun s a => by (repeat' split) <;> simp +contextual (maxDischargeDepth := 20)) _ _

@[simp] theorem gateTurn_keeps (s : State) (p : Nat) (y : EthPort) (g : GateList) :
    (gateTurn s p y g).pending = s.pending ∧ (gateTurn s p y g).sec.otp = s.sec.otp ∧ (gateTurn s p y g).hbm.mem = s.hbm.mem := by
  unfold gateTurn; simp

@[simp] theorem ptpSet_keeps (s : State) (p : PtpState) :
    (ptpSet s p).pending = s.pending ∧ (ptpSet s p).sec.otp = s.sec.otp ∧ (ptpSet s p).hbm.mem = s.hbm.mem := by
  unfold ptpSet; simp

@[simp] theorem ptpShift_keeps (s : State) (by_ : Int) :
    (ptpShift s by_).pending = s.pending ∧ (ptpShift s by_).sec.otp = s.sec.otp ∧ (ptpShift s by_).hbm.mem = s.hbm.mem := by
  unfold ptpShift; simp

@[simp] theorem ptpStep_keeps (s : State) (by_ : Int) :
    (ptpStep s by_).pending = s.pending ∧ (ptpStep s by_).sec.otp = s.sec.otp ∧ (ptpStep s by_).hbm.mem = s.hbm.mem := by
  unfold ptpStep; simp

@[simp] theorem timeJudge_keeps (s : State) :
    (timeJudge s).pending = s.pending ∧ (timeJudge s).sec.otp = s.sec.otp ∧ (timeJudge s).hbm.mem = s.hbm.mem := by
  unfold timeJudge; simp

@[simp] theorem ptpServo_keeps (s : State) (m : PtpIn) :
    (ptpServo s m).pending = s.pending ∧ (ptpServo s m).sec.otp = s.sec.otp ∧ (ptpServo s m).hbm.mem = s.hbm.mem := by
  unfold ptpServo; simp

@[simp] theorem ptpAnnounce_keeps (s : State) (m : PtpIn) :
    (ptpAnnounce s m).pending = s.pending ∧ (ptpAnnounce s m).sec.otp = s.sec.otp ∧ (ptpAnnounce s m).hbm.mem = s.hbm.mem := by
  unfold ptpAnnounce; simp

@[simp] theorem ptpSend_keeps (s : State) (port kind : Nat) :
    (ptpSend s port kind).pending = s.pending ∧ (ptpSend s port kind).sec.otp = s.sec.otp ∧ (ptpSend s port kind).hbm.mem = s.hbm.mem := by
  unfold ptpSend; simp

@[simp] theorem ptpFromPps_keeps (s : State) :
    (ptpFromPps s).pending = s.pending ∧ (ptpFromPps s).sec.otp = s.sec.otp ∧ (ptpFromPps s).hbm.mem = s.hbm.mem := by
  unfold ptpFromPps; simp

@[simp] theorem fabSet_keeps (s : State) (f : FabricState → FabricState) :
    (fabSet s f).pending = s.pending ∧ (fabSet s f).sec.otp = s.sec.otp ∧ (fabSet s f).hbm.mem = s.hbm.mem := by
  unfold fabSet; simp

@[simp] theorem clpDiscard_keeps (s : State) :
    (clpDiscard s).pending = s.pending ∧ (clpDiscard s).sec.otp = s.sec.otp ∧ (clpDiscard s).hbm.mem = s.hbm.mem := by
  unfold clpDiscard; simp

@[simp] theorem rxMark_keeps (s : State) (h : ClpHdr) :
    (rxMark s h).pending = s.pending ∧ (rxMark s h).sec.otp = s.sec.otp ∧ (rxMark s h).hbm.mem = s.hbm.mem := by
  unfold rxMark; simp

@[simp] theorem clpAck_keeps (s : State) (h : ClpHdr) (kind : Nat) (fields : List Nat) :
    (clpAck s h kind fields).pending = s.pending ∧ (clpAck s h kind fields).sec.otp = s.sec.otp ∧ (clpAck s h kind fields).hbm.mem = s.hbm.mem := by
  unfold clpAck; simp

theorem clpForeign_keeps (s : State) (h : ClpHdr) (t : State) (e : clpForeign s h = some t) : (t).pending = s.pending ∧ (t).sec.otp = s.sec.otp ∧ (Memory.wf s.hbm.mem = true → Memory.wf (t).hbm.mem = true) := by
  unfold clpForeign at e
  (repeat' split at e) <;> cases e <;> simp +contextual (maxDischargeDepth := 20)

theorem clpIn_keeps (s0 : State) (h : ClpHdr) (kind : Nat) (i : Option Instr) (old : Bool) (k : State → State) (a : List Nat)
    (hk : ∀ s, (k s).pending = s.pending ∧ (k s).sec.otp = s.sec.otp ∧ (Memory.wf s.hbm.mem = true → Memory.wf (k s).hbm.mem = true)) : (clpIn s0 h kind i old k a).pending = s0.pending ∧ (clpIn s0 h kind i old k a).sec.otp = s0.sec.otp ∧ (Memory.wf s0.hbm.mem = true → Memory.wf (clpIn s0 h kind i old k a).hbm.mem = true) := by
  have hf := clpForeign_keeps (atTime s0 h.t) h
  unfold clpIn
  dsimp only
  split
  · rename_i s1 e
    have := hf s1 e
    simp at this ⊢
    exact this
  · (repeat' split) <;> simp +contextual (maxDischargeDepth := 20) [hk]

@[simp] theorem logFabric_keeps (s : State) :
    (logFabric s).pending = s.pending ∧ (logFabric s).sec.otp = s.sec.otp ∧ (logFabric s).hbm.mem = s.hbm.mem := by
  unfold logFabric; simp

@[simp] theorem quarantine_keeps (s : State) :
    (quarantine s).pending = s.pending ∧ (quarantine s).sec.otp = s.sec.otp ∧ (quarantine s).hbm.mem = s.hbm.mem := by
  unfold quarantine; simp

@[simp] theorem sendRenew_keeps (s : State) (dst : Nat) :
    (sendRenew s dst).pending = s.pending ∧ (sendRenew s dst).sec.otp = s.sec.otp ∧ (sendRenew s dst).hbm.mem = s.hbm.mem := by
  unfold sendRenew; simp

@[simp] theorem reassign_keeps (s : State) (x : Session) (region role : Nat) (not_ : List Nat) :
    (reassign s x region role not_).pending = s.pending ∧ (reassign s x region role not_).sec.otp = s.sec.otp ∧ (reassign s x region role not_).hbm.mem = s.hbm.mem := by
  unfold reassign; (repeat' split) <;> simp

@[simp] theorem sendPromote_keeps (s : State) (x : Session) (region dst : Nat) :
    (sendPromote s x region dst).pending = s.pending ∧ (sendPromote s x region dst).sec.otp = s.sec.otp ∧ (sendPromote s x region dst).hbm.mem = s.hbm.mem := by
  unfold sendPromote; simp

@[simp] theorem promote_keeps (s : State) (id session region lost : Nat) :
    (promote s id session region lost).pending = s.pending ∧ (promote s id session region lost).sec.otp = s.sec.otp ∧ (promote s id session region lost).hbm.mem = s.hbm.mem := by
  unfold promote; (repeat' split) <;> simp

@[simp] theorem loseRole_keeps (s : State) (lost : Nat) (r : Nat × Nat × Nat) :
    (loseRole s lost r).pending = s.pending ∧ (loseRole s lost r).sec.otp = s.sec.otp ∧ (loseRole s lost r).hbm.mem = s.hbm.mem := by
  unfold loseRole; (repeat' split) <;> simp

@[simp] theorem loseMember_keeps (s : State) (m reason : Nat) (tell : Bool) :
    (loseMember s m reason tell).pending = s.pending ∧ (loseMember s m reason tell).sec.otp = s.sec.otp ∧ (loseMember s m reason tell).hbm.mem = s.hbm.mem := by
  unfold loseMember; (repeat' split) <;> simp

@[simp] theorem moveRoles_keeps (s : State) (m : Nat) (p : Nat → Bool) :
    (moveRoles s m p).pending = s.pending ∧ (moveRoles s m p).sec.otp = s.sec.otp ∧ (moveRoles s m p).hbm.mem = s.hbm.mem := by
  unfold moveRoles; (repeat' split) <;> simp +contextual (maxDischargeDepth := 20) (disch := first | assumption | (intros; (repeat' split) <;> simp +contextual (maxDischargeDepth := 20) [*]; done))

@[simp] theorem renewIn_keeps (s : State) (h : ClpHdr) (status unreachable : Nat) (offset : Int) (gm : Nat) :
    (renewIn s h status unreachable offset gm).pending = s.pending ∧ (renewIn s h status unreachable offset gm).sec.otp = s.sec.otp ∧ (renewIn s h status unreachable offset gm).hbm.mem = s.hbm.mem := by
  unfold renewIn; simp

@[simp] theorem leaseRenewIn_keeps (h : ClpHdr) (status unreachable : Nat) (offset : Int) (gm : Nat) (s : State) :
    (leaseRenewIn h status unreachable offset gm s).pending = s.pending ∧ (leaseRenewIn h status unreachable offset gm s).sec.otp = s.sec.otp ∧ (Memory.wf s.hbm.mem = true → Memory.wf (leaseRenewIn h status unreachable offset gm s).hbm.mem = true) := by
  unfold leaseRenewIn; grind [clpIn_keeps, renewIn_keeps]

@[simp] theorem sendHello_keeps (s : State) :
    (sendHello s).pending = s.pending ∧ (sendHello s).sec.otp = s.sec.otp ∧ (sendHello s).hbm.mem = s.hbm.mem := by
  unfold sendHello; simp

@[simp] theorem sendJoin_keeps (s : State) :
    (sendJoin s).pending = s.pending ∧ (sendJoin s).sec.otp = s.sec.otp ∧ (sendJoin s).hbm.mem = s.hbm.mem := by
  unfold sendJoin; simp

@[simp] theorem helloRole_keeps (s : State) (standby : Nat) :
    (helloRole s standby).pending = s.pending ∧ (helloRole s standby).sec.otp = s.sec.otp ∧ (helloRole s standby).hbm.mem = s.hbm.mem := by
  unfold helloRole; simp

@[simp] theorem leaveQuarantine_keeps (s : State) :
    (leaveQuarantine s).pending = s.pending ∧ (leaveQuarantine s).sec.otp = s.sec.otp ∧ (leaveQuarantine s).hbm.mem = s.hbm.mem := by
  unfold leaveQuarantine; simp

@[simp] theorem helloMember_keeps (s : State) (h : ClpHdr) (standby current next : Nat) :
    (helloMember s h standby current next).pending = s.pending ∧ (helloMember s h standby current next).sec.otp = s.sec.otp ∧ (helloMember s h standby current next).hbm.mem = s.hbm.mem := by
  unfold helloMember; simp

@[simp] theorem helloIn_keeps (h : ClpHdr) (standby current next : Nat) (s0 : State) :
    (helloIn h standby current next s0).pending = s0.pending ∧ (helloIn h standby current next s0).sec.otp = s0.sec.otp ∧ (Memory.wf s0.hbm.mem = true → Memory.wf (helloIn h standby current next s0).hbm.mem = true) := by
  have hf := clpForeign_keeps (atTime s0 h.t) h
  unfold helloIn
  dsimp only
  split
  · rename_i s1 e
    have := hf s1 e
    simp at this ⊢
    exact this
  · (repeat' split) <;> simp +contextual (maxDischargeDepth := 20)

@[simp] theorem takeOver_keeps (s : State) :
    (takeOver s).pending = s.pending ∧ (takeOver s).sec.otp = s.sec.otp ∧ (takeOver s).hbm.mem = s.hbm.mem := by
  unfold takeOver; simp

@[simp] theorem answerJoin_keeps (s : State) (h : ClpHdr) (serial version fw : Nat) (headless qual : Bool) :
    (answerJoin s h serial version fw headless qual).pending = s.pending ∧ (answerJoin s h serial version fw headless qual).sec.otp = s.sec.otp ∧ (answerJoin s h serial version fw headless qual).hbm.mem = s.hbm.mem := by
  unfold answerJoin; simp

@[simp] theorem endJoin_keeps (s : State) (a : Reply) :
    (endJoin s a).pending = s.pending ∧ (endJoin s a).sec.otp = s.sec.otp ∧ (endJoin s a).hbm.mem = s.hbm.mem := by
  unfold endJoin; (repeat' split) <;> simp

@[simp] theorem becomeMember_keeps (s : State) (h : ClpHdr) (sentAt result role m leaseMs configHash : Nat) :
    (becomeMember s h sentAt result role m leaseMs configHash).pending = s.pending ∧ (becomeMember s h sentAt result role m leaseMs configHash).sec.otp = s.sec.otp ∧ (becomeMember s h sentAt result role m leaseMs configHash).hbm.mem = s.hbm.mem := by
  unfold becomeMember; simp

@[simp] theorem startJoin_keeps (s : State) (id : Nat) (group : Bytes) (r : Option CmdRef) :
    (startJoin s id group r).pending = s.pending ∧ (startJoin s id group r).sec.otp = s.sec.otp ∧ (startJoin s id group r).hbm.mem = s.hbm.mem := by
  unfold startJoin; simp

@[simp] theorem timeCheckIn_keeps (h : ClpHdr) (managerPtp gm domain limit : Nat) (s : State) :
    (timeCheckIn h managerPtp gm domain limit s).pending = s.pending ∧ (timeCheckIn h managerPtp gm domain limit s).sec.otp = s.sec.otp ∧ (Memory.wf s.hbm.mem = true → Memory.wf (timeCheckIn h managerPtp gm domain limit s).hbm.mem = true) := by
  unfold timeCheckIn; grind [timeJudge_keeps, fabSet_keeps, clpIn_keeps]

@[simp] theorem giveUp_keeps (s : State) (u : Unacked) :
    (giveUp s u).pending = s.pending ∧ (giveUp s u).sec.otp = s.sec.otp ∧ (giveUp s u).hbm.mem = s.hbm.mem := by
  unfold giveUp; simp

@[simp] theorem abortMember_keeps (s : State) (m : Nat) (p : EpochChange) :
    (abortMember s m p).pending = s.pending ∧ (abortMember s m p).sec.otp = s.sec.otp ∧ (abortMember s m p).hbm.mem = s.hbm.mem := by
  unfold abortMember; (repeat' split) <;> simp

@[simp] theorem epochNak_keeps (s : State) (m : Nat) (p : EpochChange) :
    (epochNak s m p).pending = s.pending ∧ (epochNak s m p).sec.otp = s.sec.otp ∧ (epochNak s m p).hbm.mem = s.hbm.mem := by
  unfold epochNak
  split
  · simp +contextual (maxDischargeDepth := 20)
  · split
    · simp +contextual (maxDischargeDepth := 20)
    · constructor
      · rw [(sendAcked_keeps _ _ _ _).1, foldl_pending _ (fun s a => by split <;> simp +contextual (maxDischargeDepth := 20))]; simp +contextual (maxDischargeDepth := 20)
      constructor
      · rw [(sendAcked_keeps _ _ _ _).2.1, foldl_otp _ (fun s a => by split <;> simp +contextual (maxDischargeDepth := 20))]; simp +contextual (maxDischargeDepth := 20)
      · rw [(sendAcked_keeps _ _ _ _).2.2, foldl_memEq _ (fun s a => by split <;> simp)]; simp

@[simp] theorem ackIn_keeps (s : State) (u : Unacked) (nak : Bool) (leaseMs : Nat) :
    (ackIn s u nak leaseMs).pending = s.pending ∧ (ackIn s u nak leaseMs).sec.otp = s.sec.otp ∧ (ackIn s u nak leaseMs).hbm.mem = s.hbm.mem := by
  unfold ackIn; (repeat' split) <;> simp

@[simp] theorem settleDrain_keeps (s : State) :
    (settleDrain s).pending = s.pending ∧ (settleDrain s).sec.otp = s.sec.otp ∧ (settleDrain s).hbm.mem = s.hbm.mem := by
  unfold settleDrain; (repeat' split) <;> simp

@[simp] theorem drainRole_keeps (s : State) (m : Nat) (r : Nat × Nat × Nat) :
    (drainRole s m r).pending = s.pending ∧ (drainRole s m r).sec.otp = s.sec.otp ∧ (drainRole s m r).hbm.mem = s.hbm.mem := by
  unfold drainRole; (repeat' split) <;> simp

@[simp] theorem settleVersion_keeps (s : State) :
    (settleVersion s).pending = s.pending ∧ (settleVersion s).sec.otp = s.sec.otp ∧ (settleVersion s).hbm.mem = s.hbm.mem := by
  unfold settleVersion; simp

@[simp] theorem moveVersion_keeps (s : State) (x : Session) (v frame : Nat) (plan : List (Nat × Nat × Nat)) :
    (moveVersion s x v frame plan).pending = s.pending ∧ (moveVersion s x v frame plan).sec.otp = s.sec.otp ∧ (moveVersion s x v frame plan).hbm.mem = s.hbm.mem := by
  unfold moveVersion; simp

@[simp] theorem sinkFault_keeps (s : State) (x : Session) :
    (sinkFault s x).pending = s.pending ∧ (sinkFault s x).sec.otp = s.sec.otp ∧ (sinkFault s x).hbm.mem = s.hbm.mem := by
  unfold sinkFault; grind [sessPut_keeps, recordFault_keeps, enterResync_keeps]

@[simp] theorem toBacklog_keeps (s : State) (x : Session) (item : Bytes) :
    ((toBacklog s x item).1).pending = s.pending ∧ ((toBacklog s x item).1).sec.otp = s.sec.otp ∧ ((toBacklog s x item).1).hbm.mem = s.hbm.mem := by
  unfold toBacklog; simp

@[simp] theorem putPacket_keeps (s : State) (x : Session) (kind : Nat) (b : Bytes) :
    ((putPacket s x kind b).1).pending = s.pending ∧ ((putPacket s x kind b).1).sec.otp = s.sec.otp ∧ ((putPacket s x kind b).1).hbm.mem = s.hbm.mem := by
  unfold putPacket; (repeat' split) <;> simp

@[simp] theorem sendRtp_keeps (s : State) (x : Session) (time : Nat) (payload : Bytes) (marker : Bool) :
    ((sendRtp s x time payload marker).1).pending = s.pending ∧ ((sendRtp s x time payload marker).1).sec.otp = s.sec.otp ∧ ((sendRtp s x time payload marker).1).hbm.mem = s.hbm.mem := by
  unfold sendRtp; simp

@[simp] theorem holdPayload_keeps (s : State) (x : Session) (time : Nat) (p : Bytes) :
    ((holdPayload s x time p).1).pending = s.pending ∧ ((holdPayload s x time p).1).sec.otp = s.sec.otp ∧ ((holdPayload s x time p).1).hbm.mem = s.hbm.mem := by
  unfold holdPayload; grind [sendRtp_keeps]

@[simp] theorem closeAggregate_keeps (s : State) (x : Session) (time : Nat) :
    ((closeAggregate s x time).1).pending = s.pending ∧ ((closeAggregate s x time).1).sec.otp = s.sec.otp ∧ ((closeAggregate s x time).1).hbm.mem = s.hbm.mem := by
  unfold closeAggregate; (repeat' split) <;> simp

@[simp] theorem sendFragments_keeps (n : Nat) (s : State) (x : Session) (time : Nat) :
    ((sendFragments n s x time).1).pending = s.pending ∧ ((sendFragments n s x time).1).sec.otp = s.sec.otp ∧ ((sendFragments n s x time).1).hbm.mem = s.hbm.mem := by
  induction n generalizing s x <;> unfold sendFragments <;> grind [holdPayload_keeps, closeAggregate_keeps]

@[simp] theorem toRtp_keeps (s : State) (x : Session) (time : Nat) (b : Bytes) (last : Bool) :
    ((toRtp s x time b last).1).pending = s.pending ∧ ((toRtp s x time b last).1).sec.otp = s.sec.otp ∧ ((toRtp s x time b last).1).hbm.mem = s.hbm.mem := by
  unfold toRtp; grind [holdPayload_keeps, closeAggregate_keeps, sendFragments_keeps]

@[simp] theorem sendDatagram_keeps (s : State) (x : Session) (all : Bool) :
    ((sendDatagram s x all).1).pending = s.pending ∧ ((sendDatagram s x all).1).sec.otp = s.sec.otp ∧ ((sendDatagram s x all).1).hbm.mem = s.hbm.mem := by
  unfold sendDatagram; grind [putPacket_keeps]

@[simp] theorem putTs_keeps (s : State) (x : Session) (pid : Nat) (start : Bool) (p : Bytes) :
    ((putTs s x pid start p).1).pending = s.pending ∧ ((putTs s x pid start p).1).sec.otp = s.sec.otp ∧ ((putTs s x pid start p).1).hbm.mem = s.hbm.mem := by
  unfold putTs; simp

@[simp] theorem putPcr_keeps (s : State) (x : Session) (number : Nat) :
    ((putPcr s x number).1).pending = s.pending ∧ ((putPcr s x number).1).sec.otp = s.sec.otp ∧ ((putPcr s x number).1).hbm.mem = s.hbm.mem := by
  unfold putPcr; grind [sendDatagram_keeps]

@[simp] theorem putPsi_keeps (s : State) (x : Session) (number : Nat) :
    ((putPsi s x number).1).pending = s.pending ∧ ((putPsi s x number).1).sec.otp = s.sec.otp ∧ ((putPsi s x number).1).hbm.mem = s.hbm.mem := by
  unfold putPsi; simp

@[simp] theorem drainPes_keeps (n : Nat) (s : State) (x : Session) :
    ((drainPes n s x).1).pending = s.pending ∧ ((drainPes n s x).1).sec.otp = s.sec.otp ∧ ((drainPes n s x).1).hbm.mem = s.hbm.mem := by
  induction n generalizing s x <;> unfold drainPes <;> grind [putTs_keeps]

@[simp] theorem toTs_keeps (s : State) (x : Session) (b : Bytes) :
    ((toTs s x b).1).pending = s.pending ∧ ((toTs s x b).1).sec.otp = s.sec.otp ∧ ((toTs s x b).1).hbm.mem = s.hbm.mem := by
  unfold toTs; simp

@[simp] theorem sendPiece_keeps (s : State) (x : Session) (time : Nat) (b : Bytes) (first last : Bool) :
    ((sendPiece s x time b first last).1).pending = s.pending ∧ ((sendPiece s x time b first last).1).sec.otp = s.sec.otp ∧ ((sendPiece s x time b first last).1).hbm.mem = s.hbm.mem := by
  unfold sendPiece; (repeat' split) <;> simp

@[simp] theorem sendUnits_keeps (s : State) (x : Session) (time : Nat) (l : List Bytes) :
    ((sendUnits s x time l).1).pending = s.pending ∧ ((sendUnits s x time l).1).sec.otp = s.sec.otp ∧ ((sendUnits s x time l).1).hbm.mem = s.hbm.mem := by
  unfold sendUnits
  exact foldl_fst_same (fun p a => by split <;> simp) l (s, x)

@[simp] theorem openUnit_keeps (s : State) (x : Session) (f : EncFrame) :
    ((openUnit s x f).1).pending = s.pending ∧ ((openUnit s x f).1).sec.otp = s.sec.otp ∧ ((openUnit s x f).1).hbm.mem = s.hbm.mem := by
  unfold openUnit; grind [putPcr_keeps, putPsi_keeps, toTs_keeps]

@[simp] theorem closeUnit_keeps (s : State) (x : Session) (time : Nat) (ends : Bool) :
    ((closeUnit s x time ends).1).pending = s.pending ∧ ((closeUnit s x time ends).1).sec.otp = s.sec.otp ∧ ((closeUnit s x time ends).1).hbm.mem = s.hbm.mem := by
  unfold closeUnit; grind [sendRtp_keeps, closeAggregate_keeps, sendDatagram_keeps, putTs_keeps]

@[simp] theorem endSequence_keeps (s : State) (x : Session) :
    ((endSequence s x).1).pending = s.pending ∧ ((endSequence s x).1).sec.otp = s.sec.otp ∧ ((endSequence s x).1).hbm.mem = s.hbm.mem := by
  unfold endSequence; (repeat' split) <;> simp

@[simp] theorem takeRow_keeps (s : State) (x : Session) (f : EncFrame) (i : Nat) (r : RowRec) :
    ((takeRow s x f i r).2).pending = s.pending ∧ ((takeRow s x f i r).2).sec.otp = s.sec.otp ∧ ((takeRow s x f i r).2).hbm.mem = s.hbm.mem := by
  unfold takeRow; simp

@[simp] theorem sendRow_keeps (s : State) (x : Session) (f : EncFrame) (time : Nat) (sizes : List Nat) (q : Nat × Nat × Nat × Bytes) :
    ((sendRow s x f time sizes q).1).pending = s.pending ∧ ((sendRow s x f time sizes q).1).sec.otp = s.sec.otp ∧ ((sendRow s x f time sizes q).1).hbm.mem = s.hbm.mem := by
  unfold sendRow; simp

@[simp] theorem finishFrame_keeps (s : State) (x : Session) (f : EncFrame) (time : Nat) :
    ((finishFrame s x f time).1).pending = s.pending ∧ ((finishFrame s x f time).1).sec.otp = s.sec.otp ∧ ((finishFrame s x f time).1).hbm.mem = s.hbm.mem := by
  unfold finishFrame; grind [sendUnits_keeps, closeUnit_keeps, endSequence_keeps]

theorem takeRows_keeps (s : State) (x : Session) (f : EncFrame) (l : List (Nat × Nat × Nat)) : ((takeRows s x f l).2.1).pending = s.pending ∧ ((takeRows s x f l).2.1).sec.otp = s.sec.otp ∧ ((takeRows s x f l).2.1).hbm.mem = s.hbm.mem := by
  induction l generalizing s x f with
  | nil => exact ⟨rfl, rfl, rfl⟩
  | cons p l ih =>
    unfold takeRows
    split
    · rename_i r _
      have i := ih (takeRow s x f r.1 r.2).2 x (rowOutMark f r.1 r.2.row)
      have j := takeRow_keeps s x f r.1 r.2
      exact ⟨i.1.trans j.1, i.2.1.trans j.2.1, i.2.2.trans j.2.2⟩
    · exact ih _ _ _

@[simp] theorem sendWhole_keeps (s : State) (y : Session) (f : EncFrame) (time : Nat) (rows : List (Nat × Nat × Nat × Bytes)) :
    ((sendWhole s y f time rows).1).pending = s.pending ∧ ((sendWhole s y f time rows).1).sec.otp = s.sec.otp ∧ ((sendWhole s y f time rows).1).hbm.mem = s.hbm.mem := by
  unfold sendWhole; simp

@[simp] theorem openGroup_keeps (s : State) (y : Session) (f : EncFrame) (time : Nat) (head : Bool) :
    ((openGroup s y f time head).1).pending = s.pending ∧ ((openGroup s y f time head).1).sec.otp = s.sec.otp ∧ ((openGroup s y f time head).1).hbm.mem = s.hbm.mem := by
  unfold openGroup; split <;> simp

@[simp] theorem releaseGroup_keeps (s : State) (x : Session) (f : EncFrame) (g : List (Nat × Nat × Nat)) (head tail : Bool) :
    (releaseGroup s x f g head tail).pending = s.pending ∧ (releaseGroup s x f g head tail).sec.otp = s.sec.otp ∧ (releaseGroup s x f g head tail).hbm.mem = s.hbm.mem := by
  have hr := takeRows_keeps s x f g
  unfold releaseGroup
  dsimp only
  generalize takeRows s x f g = q at hr ⊢
  obtain ⟨rows, s1, f1, x1⟩ := q
  dsimp only at hr ⊢
  split
  · simp [hr]
  · split
    · simp [hr]
    · have k := foldl_fst_same (f := fun (p : State × Session) q => sendRow p.1 p.2 f1 (rtpTime f.cfg f.number f.stamp)
        (rows.map (fun q => q.2.2.2.length)) q) (fun p a => by simp) rows
        (openGroup s1 (framePut x1 f1) f1 (rtpTime f.cfg f.number f.stamp) head)
      cases tail <;> simp [k, hr]

@[simp] theorem transferSlice_keeps (s : State) (x : Session) (f : EncFrame) (slice region : Nat) (b : Bytes) :
    (transferSlice s x f slice region b).pending = s.pending ∧ (transferSlice s x f slice region b).sec.otp = s.sec.otp ∧ (transferSlice s x f slice region b).hbm.mem = s.hbm.mem := by
  unfold transferSlice; simp

@[simp] theorem settleSlices_keeps (n : Nat) (s : State) (id number : Nat) :
    (settleSlices n s id number).pending = s.pending ∧ (settleSlices n s id number).sec.otp = s.sec.otp ∧ (settleSlices n s id number).hbm.mem = s.hbm.mem := by
  induction n generalizing s <;> unfold settleSlices <;> grind [transferSlice_keeps]

@[simp] theorem releaseNext_keeps (s : State) (x : Session) :
    (releaseNext s x).pending = s.pending ∧ (releaseNext s x).sec.otp = s.sec.otp ∧ (releaseNext s x).hbm.mem = s.hbm.mem := by
  unfold releaseNext
  split
  · simp
  · dsimp only
    split
    · simp
    · split
      · simp
      · simp

@[simp] theorem checkSink_keeps (s : State) (id : Nat) :
    (checkSink s id).pending = s.pending ∧ (checkSink s id).sec.otp = s.sec.otp ∧ (checkSink s id).hbm.mem = s.hbm.mem := by
  unfold checkSink; (repeat' split) <;> simp

@[simp] theorem distEdit_keeps (s : State) (session : Nat) (f : DistState → DistState) :
    (distEdit s session f).pending = s.pending ∧ (distEdit s session f).sec.otp = s.sec.otp ∧ (distEdit s session f).hbm.mem = s.hbm.mem := by
  unfold distEdit; (repeat' split) <;> simp

@[simp] theorem dropOwnRole_keeps (s : State) (x : Session) (region : Nat) :
    (dropOwnRole s x region).pending = s.pending ∧ (dropOwnRole s x region).sec.otp = s.sec.otp ∧ (dropOwnRole s x region).hbm.mem = s.hbm.mem := by
  unfold dropOwnRole; simp

theorem newPlaced_keeps (s : State) (session role region : Nat) (c : Bytes) (p : State × Session)
    (h : newPlaced s session role region c = some p) : (p.1).pending = s.pending ∧ (p.1).sec.otp = s.sec.otp ∧ (Memory.wf s.hbm.mem = true → Memory.wf (p.1).hbm.mem = true) := by
  unfold newPlaced at h
  dsimp only at h
  (repeat' split at h) <;> cases h <;> simp +contextual (maxDischargeDepth := 20)

@[simp] theorem assignOwn_keeps (s : State) (session role region from_ : Nat) (c : Bytes) : (assignOwn s session role region from_ c).pending = s.pending ∧ (assignOwn s session role region from_ c).sec.otp = s.sec.otp ∧ (Memory.wf s.hbm.mem = true → Memory.wf (assignOwn s session role region from_ c).hbm.mem = true) := by
  unfold assignOwn
  have k := newPlaced_keeps s session role region c
  dsimp only
  split
  · (repeat' split) <;> simp +contextual
  · split
    · simp
    · split
      · rename_i s1 x e
        have j := k _ e
        refine ⟨?_, ?_, fun w => ?_⟩
        · exact (sessPut_keeps _ _).1.trans j.1
        · exact (sessPut_keeps _ _).2.1.trans j.2.1
        · rw [(sessPut_keeps _ _).2.2]; exact j.2.2 w
      · simp

@[simp] theorem assignCopy_keeps (s : State) (m session role region : Nat) :
    (assignCopy s m session role region).pending = s.pending ∧ (assignCopy s m session role region).sec.otp = s.sec.otp ∧ (assignCopy s m session role region).hbm.mem = s.hbm.mem := by
  unfold assignCopy; simp

@[simp] theorem assignIn_keeps (h : ClpHdr) (session role region fromFrame : Nat) (config : Bytes) (s : State) :
    (assignIn h session role region fromFrame config s).pending = s.pending ∧ (assignIn h session role region fromFrame config s).sec.otp = s.sec.otp ∧ (Memory.wf s.hbm.mem = true → Memory.wf (assignIn h session role region fromFrame config s).hbm.mem = true) := by
  unfold assignIn; grind [clpIn_keeps, assignOwn_keeps, assignCopy_keeps]

@[simp] theorem expelFrom_keeps (s : State) (m session : Nat) :
    (expelFrom s m session).pending = s.pending ∧ (expelFrom s m session).sec.otp = s.sec.otp ∧ (expelFrom s m session).hbm.mem = s.hbm.mem := by
  unfold expelFrom
  split
  · simp
  · rename_i x _
    have h1 := sendAcked_keeps s 0x0A m [m, 2, session]
    have h2 := foldl_same (f := fun s r => loseRole s m r) (fun s r => loseRole_keeps s m r) (x.roles.filter (fun r => r.1 == session))
      (sendAcked s 0x0A m [m, 2, session])
    dsimp only
    split <;> grind [memberPut_keeps, logFabric_keeps]

@[simp] theorem ledgerIn_keeps (h : ClpHdr) (session form frame budgetCrc_ : Nat) (snapshot : List (Nat × UnitStats)) (s : State) :
    (ledgerIn h session form frame budgetCrc_ snapshot s).pending = s.pending ∧ (ledgerIn h session form frame budgetCrc_ snapshot s).sec.otp = s.sec.otp ∧ (Memory.wf s.hbm.mem = true → Memory.wf (ledgerIn h session form frame budgetCrc_ snapshot s).hbm.mem = true) := by
  unfold ledgerIn; grind [clpIn_keeps, distEdit_keeps, expelFrom_keeps]

@[simp] theorem loseDivergence_keeps (s : State) (m : Nat) :
    (loseDivergence s m).pending = s.pending ∧ (loseDivergence s m).sec.otp = s.sec.otp ∧ (Memory.wf s.hbm.mem = true → Memory.wf (loseDivergence s m).hbm.mem = true) := by
  unfold loseDivergence; (repeat' split) <;> simp +contextual (maxDischargeDepth := 20)

@[simp] theorem noMajority_keeps (s : State) (x : Session) (d : Divergence) :
    (noMajority s x d).pending = s.pending ∧ (noMajority s x d).sec.otp = s.sec.otp ∧ (Memory.wf s.hbm.mem = true → Memory.wf (noMajority s x d).hbm.mem = true) := by
  unfold noMajority; grind [takeRole_keeps, logFabric_keeps, reassign_keeps, loseDivergence_keeps]

@[simp] theorem dropDivergence_keeps (s : State) (session frame unit : Nat) :
    (dropDivergence s session frame unit).pending = s.pending ∧ (dropDivergence s session frame unit).sec.otp = s.sec.otp ∧ (dropDivergence s session frame unit).hbm.mem = s.hbm.mem := by
  unfold dropDivergence; simp

@[simp] theorem diverge_keeps (s : State) (x : Session) (frame unit : Nat) (a b : Nat × Option UnitStats) :
    (diverge s x frame unit a b).pending = s.pending ∧ (diverge s x frame unit a b).sec.otp = s.sec.otp ∧ (Memory.wf s.hbm.mem = true → Memory.wf (diverge s x frame unit a b).hbm.mem = true) := by
  unfold diverge; grind [giveRole_keeps, logFabric_keeps, distEdit_keeps, noMajority_keeps, dropDivergence_keeps]

@[simp] theorem decideReferee_keeps (s : State) (x : Session) (d : Divergence) (u : UnitStats) :
    (decideReferee s x d u).pending = s.pending ∧ (decideReferee s x d u).sec.otp = s.sec.otp ∧ (Memory.wf s.hbm.mem = true → Memory.wf (decideReferee s x d u).hbm.mem = true) := by
  unfold decideReferee; grind [takeRole_keeps, loseDivergence_keeps, noMajority_keeps, dropDivergence_keeps]

@[simp] theorem refereeIn_keeps (h : ClpHdr) (session frame unit : Nat) (crcs : List (Nat × Nat)) (u : UnitStats) (s : State) :
    (refereeIn h session frame unit crcs u s).pending = s.pending ∧ (refereeIn h session frame unit crcs u s).sec.otp = s.sec.otp ∧ (Memory.wf s.hbm.mem = true → Memory.wf (refereeIn h session frame unit crcs u s).hbm.mem = true) := by
  unfold refereeIn; grind [clpIn_keeps, dropDivergence_keeps, decideReferee_keeps]

@[simp] theorem takeStats_keeps (s : State) (x : Session) (from_ frame unit : Nat) (u : UnitStats) :
    (takeStats s x from_ frame unit u).pending = s.pending ∧ (takeStats s x from_ frame unit u).sec.otp = s.sec.otp ∧ (Memory.wf s.hbm.mem = true → Memory.wf (takeStats s x from_ frame unit u).hbm.mem = true) := by
  unfold takeStats; grind [sessPut_keeps, clpDiscard_keeps, diverge_keeps]

@[simp] theorem answerStats_keeps (s : State) (x : Session) (dst frame unit : Nat) :
    (answerStats s x dst frame unit).pending = s.pending ∧ (answerStats s x dst frame unit).sec.otp = s.sec.otp ∧ (answerStats s x dst frame unit).hbm.mem = s.hbm.mem := by
  unfold answerStats; (repeat' split) <;> simp

@[simp] theorem drainStats_keeps (s : State) (x : Session) (from_ frame unit : Nat) :
    (drainStats s x from_ frame unit).pending = s.pending ∧ (drainStats s x from_ frame unit).sec.otp = s.sec.otp ∧ (drainStats s x from_ frame unit).hbm.mem = s.hbm.mem := by
  unfold drainStats; (repeat' split) <;> simp

@[simp] theorem statsIn_keeps (h : ClpHdr) (session frame unit : Nat) (u : UnitStats) (s : State) :
    (statsIn h session frame unit u s).pending = s.pending ∧ (statsIn h session frame unit u s).sec.otp = s.sec.otp ∧ (Memory.wf s.hbm.mem = true → Memory.wf (statsIn h session frame unit u s).hbm.mem = true) := by
  unfold statsIn; grind [clpIn_keeps, takeStats_keeps, answerStats_keeps, drainStats_keeps]

@[simp] theorem commitIn_keeps (h : ClpHdr) (session frame received released : Nat) (s : State) :
    (commitIn h session frame received released s).pending = s.pending ∧ (commitIn h session frame received released s).sec.otp = s.sec.otp ∧ (Memory.wf s.hbm.mem = true → Memory.wf (commitIn h session frame received released s).hbm.mem = true) := by
  unfold commitIn; grind [sessPut_keeps, clpIn_keeps]

@[simp] theorem seamCheckTake_keeps (s : State) (x : Session) (from_ frame slice crc : Nat) (refCrc : Option Nat) :
    (seamCheckTake s x from_ frame slice crc refCrc).pending = s.pending ∧ (seamCheckTake s x from_ frame slice crc refCrc).sec.otp = s.sec.otp ∧ (Memory.wf s.hbm.mem = true → Memory.wf (seamCheckTake s x from_ frame slice crc refCrc).hbm.mem = true) := by
  unfold seamCheckTake; grind [sessPut_keeps, clpDiscard_keeps, diverge_keeps]

@[simp] theorem seamCheckIn_keeps (h : ClpHdr) (session frame slice crc : Nat) (refCrc : Option Nat) (s : State) :
    (seamCheckIn h session frame slice crc refCrc s).pending = s.pending ∧ (seamCheckIn h session frame slice crc refCrc s).sec.otp = s.sec.otp ∧ (Memory.wf s.hbm.mem = true → Memory.wf (seamCheckIn h session frame slice crc refCrc s).hbm.mem = true) := by
  unfold seamCheckIn; grind [clpIn_keeps, seamCheckTake_keeps]

@[simp] theorem sendCommit_keeps (s : State) (x : Session) (frame : Nat) :
    (sendCommit s x frame).pending = s.pending ∧ (sendCommit s x frame).sec.otp = s.sec.otp ∧ (sendCommit s x frame).hbm.mem = s.hbm.mem := by
  unfold sendCommit; (repeat' split) <;> simp

@[simp] theorem takeFragment_keeps (s : State) (x : Session) (f : SliceFrag) :
    (takeFragment s x f).pending = s.pending ∧ (takeFragment s x f).sec.otp = s.sec.otp ∧ (takeFragment s x f).hbm.mem = s.hbm.mem := by
  unfold takeFragment; grind [sessPut_keeps, sendCommit_keeps]

@[simp] theorem resendSlice_keeps (s : State) (x : Session) (f : EncFrame) (slice : Nat) :
    (resendSlice s x f slice).pending = s.pending ∧ (resendSlice s x f slice).sec.otp = s.sec.otp ∧ (resendSlice s x f slice).hbm.mem = s.hbm.mem := by
  unfold resendSlice; (repeat' split) <;> simp

@[simp] theorem haloIn_keeps (h : ClpHdr) (session frame band : Nat) (data : Bytes) (s : State) :
    (haloIn h session frame band data s).pending = s.pending ∧ (haloIn h session frame band data s).sec.otp = s.sec.otp ∧ (Memory.wf s.hbm.mem = true → Memory.wf (haloIn h session frame band data s).hbm.mem = true) := by
  unfold haloIn; grind [sessPut_keeps, clpIn_keeps]

@[simp] theorem seamIn_keeps (h : ClpHdr) (session frame band : Nat) (data : Bytes) (s : State) :
    (seamIn h session frame band data s).pending = s.pending ∧ (seamIn h session frame band data s).sec.otp = s.sec.otp ∧ (Memory.wf s.hbm.mem = true → Memory.wf (seamIn h session frame band data s).hbm.mem = true) := by
  unfold seamIn; grind [sessPut_keeps, sendStrips_keeps, clpIn_keeps]

@[simp] theorem stopRoles_keeps (s : State) (session : Nat) :
    (stopRoles s session).pending = s.pending ∧ (stopRoles s session).sec.otp = s.sec.otp ∧ (stopRoles s session).hbm.mem = s.hbm.mem := by
  unfold stopRoles; simp

@[simp] theorem fencedSelf_keeps (s : State) (reason session : Nat) :
    (fencedSelf s reason session).pending = s.pending ∧ (fencedSelf s reason session).sec.otp = s.sec.otp ∧ (Memory.wf s.hbm.mem = true → Memory.wf (fencedSelf s reason session).hbm.mem = true) := by
  unfold fencedSelf; (repeat' split) <;> simp +contextual (maxDischargeDepth := 20)

@[simp] theorem fencedOther_keeps (s : State) (m session : Nat) :
    (fencedOther s m session).pending = s.pending ∧ (fencedOther s m session).sec.otp = s.sec.otp ∧ (fencedOther s m session).hbm.mem = s.hbm.mem := by
  unfold fencedOther; (repeat' split) <;> simp +contextual (maxDischargeDepth := 20) (disch := first | assumption | (intros; (repeat' split) <;> simp +contextual (maxDischargeDepth := 20) [*]; done))

@[simp] theorem fenceIn_keeps (h : ClpHdr) (member reason session : Nat) (s : State) :
    (fenceIn h member reason session s).pending = s.pending ∧ (fenceIn h member reason session s).sec.otp = s.sec.otp ∧ (Memory.wf s.hbm.mem = true → Memory.wf (fenceIn h member reason session s).hbm.mem = true) := by
  unfold fenceIn; grind [clpIn_keeps, takeOver_keeps, fencedSelf_keeps, fencedOther_keeps]

@[simp] theorem sendHeld_keeps (s : State) (x : Session) (region frame first : Nat) :
    (sendHeld s x region frame first).pending = s.pending ∧ (sendHeld s x region frame first).sec.otp = s.sec.otp ∧ (sendHeld s x region frame first).hbm.mem = s.hbm.mem := by
  unfold sendHeld; simp

@[simp] theorem sendRetained_keeps (s : State) (x : Session) :
    (sendRetained s x).pending = s.pending ∧ (sendRetained s x).sec.otp = s.sec.otp ∧ (sendRetained s x).hbm.mem = s.hbm.mem := by
  unfold sendRetained; simp

@[simp] theorem promoteHere_keeps (s : State) (x : Session) (region newMember frame firstSlice : Nat) :
    (promoteHere s x region newMember frame firstSlice).pending = s.pending ∧ (promoteHere s x region newMember frame firstSlice).sec.otp = s.sec.otp ∧ (promoteHere s x region newMember frame firstSlice).hbm.mem = s.hbm.mem := by
  unfold promoteHere; simp

@[simp] theorem promoteIn_keeps (h : ClpHdr) (session region newMember frame firstSlice : Nat) (s : State) :
    (promoteIn h session region newMember frame firstSlice s).pending = s.pending ∧ (promoteIn h session region newMember frame firstSlice s).sec.otp = s.sec.otp ∧ (Memory.wf s.hbm.mem = true → Memory.wf (promoteIn h session region newMember frame firstSlice s).hbm.mem = true) := by
  unfold promoteIn; grind [clpIn_keeps, promote_keeps, promoteHere_keeps]

@[simp] theorem runHeld_keeps (s : State) (i : Instr) :
    (runHeld s i).pending = s.pending ∧ (runHeld s i).sec.otp = s.sec.otp ∧ (Memory.wf s.hbm.mem = true → Memory.wf (runHeld s i).hbm.mem = true) := by
  unfold runHeld; (repeat' split) <;> simp +contextual (maxDischargeDepth := 20)

@[simp] theorem replayHeld_keeps (s : State) :
    (replayHeld s).pending = s.pending ∧ (replayHeld s).sec.otp = s.sec.otp ∧ (Memory.wf s.hbm.mem = true → Memory.wf (replayHeld s).hbm.mem = true) := by
  unfold replayHeld; simp +contextual (maxDischargeDepth := 20)

@[simp] theorem epochPhase_keeps (s : State) (phase epoch hash version : Nat) (changes : List (Nat × Nat)) :
    (epochPhase s phase epoch hash version changes).pending = s.pending ∧ (epochPhase s phase epoch hash version changes).sec.otp = s.sec.otp ∧ (Memory.wf s.hbm.mem = true → Memory.wf (epochPhase s phase epoch hash version changes).hbm.mem = true) := by
  unfold epochPhase; (repeat' split) <;> simp +contextual (maxDischargeDepth := 20)

@[simp] theorem epochAgain_keeps (s : State) (m : Nat) :
    (epochAgain s m).pending = s.pending ∧ (epochAgain s m).sec.otp = s.sec.otp ∧ (epochAgain s m).hbm.mem = s.hbm.mem := by
  unfold epochAgain; (repeat' split) <;> simp

@[simp] theorem releaseDecoders_keeps (s : State) (id pic : Nat) :
    (releaseDecoders s id pic).pending = s.pending ∧ (releaseDecoders s id pic).sec.otp = s.sec.otp ∧ (releaseDecoders s id pic).hbm.mem = s.hbm.mem := by
  unfold releaseDecoders; simp

theorem consumeInput_keeps (n : Nat) (s : State) (fn before consumed : Nat) (l : List (Nat × Nat × Nat)) : ((consumeInput n s fn before consumed l).1).pending = s.pending ∧ ((consumeInput n s fn before consumed l).1).sec.otp = s.sec.otp ∧ ((consumeInput n s fn before consumed l).1).hbm.mem = s.hbm.mem := by
  induction l generalizing n s before with
  | nil => unfold consumeInput; exact ⟨rfl, rfl, rfl⟩
  | cons p l ih =>
    unfold consumeInput
    split
    · exact ⟨rfl, rfl, rfl⟩
    · split
      · rename_i k _
        have i := ih k (finish s ⟨fn, p.1, p.2.1⟩ (ok p.2.2)) (before + p.2.2)
        have j := finish_keeps s ⟨fn, p.1, p.2.1⟩ (ok p.2.2)
        exact ⟨i.1.trans j.1, i.2.1.trans j.2.1, i.2.2.trans j.2.2⟩
      · exact ⟨rfl, rfl, rfl⟩

@[simp] theorem endDecode_keeps (s : State) (x : Session) (p : DecPicture) (bits consumed : Nat) (hashBad : Bool) : (endDecode s x p bits consumed hashBad).pending = s.pending ∧ (endDecode s x p bits consumed hashBad).sec.otp = s.sec.otp ∧ (Memory.wf s.hbm.mem = true → Memory.wf (endDecode s x p bits consumed hashBad).hbm.mem = true) := by
  have h := consumeInput_keeps 4096 s x.fn (pendingStart x) (min x.dec.stream (max x.dec.consumed consumed)) x.dec.pendingIn
  unfold endDecode
  dsimp only
  split <;> simp +contextual (maxDischargeDepth := 20) [h]

@[simp] theorem refreshWanted_keeps (s : State) (x : Session) (p : DecPicture) :
    ((refreshWanted s x p).1).pending = s.pending ∧ ((refreshWanted s x p).1).sec.otp = s.sec.otp ∧ ((refreshWanted s x p).1).hbm.mem = s.hbm.mem := by
  unfold refreshWanted; grind [logSession_keeps]

@[simp] theorem closeSending_keeps (s : State) (port : Nat) :
    (closeSending s port).pending = s.pending ∧ (closeSending s port).sec.otp = s.sec.otp ∧ (Memory.wf s.hbm.mem = true → Memory.wf (closeSending s port).hbm.mem = true) := by
  unfold closeSending; (repeat' split) <;> simp +contextual (maxDischargeDepth := 20)

@[simp] theorem startOutput_keeps (s : State) (x0 : Session) (p0 : DecPicture) :
    (startOutput s x0 p0).pending = s.pending ∧ (startOutput s x0 p0).sec.otp = s.sec.otp ∧ (Memory.wf s.hbm.mem = true → Memory.wf (startOutput s x0 p0).hbm.mem = true) := by
  unfold startOutput; grind [sessPut_keeps, finishOutput_keeps, pxStartOutput_keeps, refreshWanted_keeps, closeSending_keeps]

@[simp] theorem settleDegraded_keeps (s : State) :
    (settleDegraded s).pending = s.pending ∧ (settleDegraded s).sec.otp = s.sec.otp ∧ (settleDegraded s).hbm.mem = s.hbm.mem := by
  unfold settleDegraded; simp

@[simp] theorem hardFault_keeps (s : State) (bit : Nat) :
    (hardFault s bit).pending = s.pending ∧ (hardFault s bit).sec.otp = s.sec.otp ∧ (hardFault s bit).hbm.mem = s.hbm.mem := by
  unfold hardFault; simp

@[simp] theorem gateEgress_keeps (s : State) :
    (gateEgress s).pending = s.pending ∧ (gateEgress s).sec.otp = s.sec.otp ∧ (gateEgress s).hbm.mem = s.hbm.mem := by
  unfold gateEgress; simp

@[simp] theorem securityFault_keeps (s : State) :
    (securityFault s).pending = s.pending ∧ (securityFault s).sec.otp = s.sec.otp ∧ (securityFault s).hbm.mem = s.hbm.mem := by
  unfold securityFault; simp

@[simp] theorem enterSecError_keeps (s : State) (mask : BitVec 16) :
    (enterSecError s mask).pending = s.pending ∧ (enterSecError s mask).sec.otp = s.sec.otp ∧ (enterSecError s mask).hbm.mem = s.hbm.mem := by
  unfold enterSecError; simp

@[simp] theorem reactTo_keeps (s : State) (src : FaultSrc) (ev : ErrEvent) (addr : Nat) :
    (reactTo s src ev addr).pending = s.pending ∧ (reactTo s src ev addr).sec.otp = s.sec.otp ∧ (Memory.wf s.hbm.mem = true → Memory.wf (reactTo s src ev addr).hbm.mem = true) := by
  unfold reactTo; (repeat' split) <;> simp +contextual (maxDischargeDepth := 20)

@[simp] theorem corePort_keeps (s : State) (c cls addr : Nat) :
    (corePort s c cls addr).pending = s.pending ∧ (corePort s c cls addr).sec.otp = s.sec.otp ∧ (corePort s c cls addr).hbm.mem = s.hbm.mem := by
  unfold corePort; simp

@[simp] theorem blockPort_keeps (s : State) (src : FaultSrc) (ev : ErrEvent) (cls addr : Nat) :
    (blockPort s src ev cls addr).pending = s.pending ∧ (blockPort s src ev cls addr).sec.otp = s.sec.otp ∧ (Memory.wf s.hbm.mem = true → Memory.wf (blockPort s src ev cls addr).hbm.mem = true) := by
  unfold blockPort
  have h (t : State) := foldl_same (f := orderFence) orderFence_keeps (fencesOf src ev) t
  dsimp only
  split
  · simp +contextual (maxDischargeDepth := 20)
  · grind [collect_keeps, endRotation_keeps, reactTo_keeps]

@[simp] theorem portEvent_keeps (s : State) (src : FaultSrc) (ev : ErrEvent) (cls addr : Nat) :
    (portEvent s src ev cls addr).pending = s.pending ∧ (portEvent s src ev cls addr).sec.otp = s.sec.otp ∧ (Memory.wf s.hbm.mem = true → Memory.wf (portEvent s src ev cls addr).hbm.mem = true) := by
  unfold portEvent; (repeat' split) <;> simp +contextual (maxDischargeDepth := 20)

@[simp] theorem reassignUnit_keeps (s : State) (b : BandCmd) (dst start : Nat) :
    (reassignUnit s b dst start).pending = s.pending ∧ (reassignUnit s b dst start).sec.otp = s.sec.otp ∧ (reassignUnit s b dst start).hbm.mem = s.hbm.mem := by
  unfold reassignUnit; (repeat' split) <;> simp

@[simp] theorem pushUnits_keeps (s : State) (l : List BandCmd) (dst start : Nat) :
    (pushUnits s l dst start).pending = s.pending ∧ (pushUnits s l dst start).sec.otp = s.sec.otp ∧ (pushUnits s l dst start).hbm.mem = s.hbm.mem := by
  unfold pushUnits; simp

@[simp] theorem stripCore_keeps (s : State) (c : Nat) :
    (stripCore s c).pending = s.pending ∧ (stripCore s c).sec.otp = s.sec.otp ∧ (stripCore s c).hbm.mem = s.hbm.mem := by
  unfold stripCore; simp

@[simp] theorem handWork_keeps (s : State) (c dst : Nat) :
    (handWork s c dst).pending = s.pending ∧ (handWork s c dst).sec.otp = s.sec.otp ∧ (handWork s c dst).hbm.mem = s.hbm.mem := by
  unfold handWork; simp

@[simp] theorem cannotPlace_keeps (s : State) (c : Nat) :
    (cannotPlace s c).pending = s.pending ∧ (cannotPlace s c).sec.otp = s.sec.otp ∧ (cannotPlace s c).hbm.mem = s.hbm.mem := by
  unfold cannotPlace; simp

@[simp] theorem leaveSurvey_keeps (s : State) (k : Nat) :
    (leaveSurvey s k).pending = s.pending ∧ (leaveSurvey s k).sec.otp = s.sec.otp ∧ (leaveSurvey s k).hbm.mem = s.hbm.mem := by
  unfold leaveSurvey; dsimp only; exact foldl_same (fun s a => by (repeat' split) <;> simp +contextual (maxDischargeDepth := 20)) _ _

@[simp] theorem stopUnit_keeps (s : State) (u : FenceUnit) :
    (stopUnit s u).pending = s.pending ∧ (stopUnit s u).sec.otp = s.sec.otp ∧ (Memory.wf s.hbm.mem = true → Memory.wf (stopUnit s u).hbm.mem = true) := by
  unfold stopUnit; (repeat' split) <;> simp +contextual (maxDischargeDepth := 20)

@[simp] theorem bistResult_keeps (s : State) (u : FenceUnit) (pass : Bool) :
    (bistResult s u pass).pending = s.pending ∧ (bistResult s u pass).sec.otp = s.sec.otp ∧ (bistResult s u pass).hbm.mem = s.hbm.mem := by
  unfold bistResult; simp

@[simp] theorem reloadCore_keeps (s : State) (c : Nat) :
    (reloadCore s c).pending = s.pending ∧ (reloadCore s c).sec.otp = s.sec.otp ∧ (reloadCore s c).hbm.mem = s.hbm.mem := by
  unfold reloadCore; simp

@[simp] theorem returnUnit_keeps (s : State) (u : FenceUnit) :
    (returnUnit s u).pending = s.pending ∧ (returnUnit s u).sec.otp = s.sec.otp ∧ (returnUnit s u).hbm.mem = s.hbm.mem := by
  unfold returnUnit; (repeat' split) <;> simp

@[simp] theorem settleUnit_keeps (failed : List FenceUnit) (s : State) (u : FenceUnit) :
    (settleUnit failed s u).pending = s.pending ∧ (settleUnit failed s u).sec.otp = s.sec.otp ∧ (settleUnit failed s u).hbm.mem = s.hbm.mem := by
  unfold settleUnit; simp

@[simp] theorem authSet_keeps (s : State) (fn : Nat) (a : AuthState) :
    (authSet s fn a).pending = s.pending ∧ (authSet s fn a).sec.otp = s.sec.otp ∧ (authSet s fn a).hbm.mem = s.hbm.mem := by
  unfold authSet; simp

@[simp] theorem endRole_keeps (s : State) (fn : Nat) :
    (endRole s fn).pending = s.pending ∧ (endRole s fn).sec.otp = s.sec.otp ∧ (endRole s fn).hbm.mem = s.hbm.mem := by
  unfold endRole; simp

@[simp] theorem generate_keeps (s : State) :
    (generate s).pending = s.pending ∧ (generate s).sec.otp = s.sec.otp ∧ (generate s).hbm.mem = s.hbm.mem := by
  unfold generate; simp

@[simp] theorem answerResponse_keeps (s : State) (r : CmdRef) (e d : Bytes) :
    (answerResponse s r e d).pending = s.pending ∧ (answerResponse s r e d).sec.otp = s.sec.otp ∧ (answerResponse s r e d).hbm.mem = s.hbm.mem := by
  unfold answerResponse; simp

@[simp] theorem deliverKey_keeps (s : State) (id : Nat) (key : Bytes) :
    (deliverKey s id key).pending = s.pending ∧ (deliverKey s id key).sec.otp = s.sec.otp ∧ (deliverKey s id key).hbm.mem = s.hbm.mem := by
  unfold deliverKey; simp

@[simp] theorem storeKey_keeps (s : State) (r : CmdRef) (d key : Bytes) :
    (storeKey s r d key).pending = s.pending ∧ (storeKey s r d key).sec.otp = s.sec.otp ∧ (storeKey s r d key).hbm.mem = s.hbm.mem := by
  unfold storeKey; simp

@[simp] theorem endRolesOf_keeps (s : State) (id : Nat) :
    (endRolesOf s id).pending = s.pending ∧ (endRolesOf s id).sec.otp = s.sec.otp ∧ (endRolesOf s id).hbm.mem = s.hbm.mem := by
  unfold endRolesOf; simp

@[simp] theorem clearSecError_keeps (s : State) :
    (clearSecError s).pending = s.pending ∧ (clearSecError s).sec.otp = s.sec.otp ∧ (clearSecError s).hbm.mem = s.hbm.mem := by
  unfold clearSecError; simp

@[simp] theorem activateRow_keeps (s : State) (p : Nat) (r : HbmPend) :
    (activateRow s p r).pending = s.pending ∧ (activateRow s p r).sec.otp = s.sec.otp ∧ (activateRow s p r).hbm.mem = s.hbm.mem := by
  unfold activateRow; simp

@[simp] theorem issueReq_keeps (s : State) (p : Nat) (r : HbmPend) :
    (issueReq s p r).pending = s.pending ∧ (issueReq s p r).sec.otp = s.sec.otp ∧ (issueReq s p r).hbm.mem = s.hbm.mem := by
  unfold issueReq; simp

@[simp] theorem serveRead_keeps (s : State) (p : Nat) :
    (serveRead s p).pending = s.pending ∧ (serveRead s p).sec.otp = s.sec.otp ∧ (serveRead s p).hbm.mem = s.hbm.mem := by
  unfold serveRead; (repeat' split) <;> simp

@[simp] theorem serveWrite_keeps (s : State) (p : Nat) (f : HbmPend → Bool) :
    (serveWrite s p f).pending = s.pending ∧ (serveWrite s p f).sec.otp = s.sec.otp ∧ (serveWrite s p f).hbm.mem = s.hbm.mem := by
  unfold serveWrite; (repeat' split) <;> simp

@[simp] theorem drainWrites_keeps (n : Nat) (s : State) (p stop : Nat) :
    (drainWrites n s p stop).pending = s.pending ∧ (drainWrites n s p stop).sec.otp = s.sec.otp ∧ (drainWrites n s p stop).hbm.mem = s.hbm.mem := by
  induction n generalizing s <;> unfold drainWrites <;> grind [serveWrite_keeps]

@[simp] theorem serveQueues_keeps (s : State) (p : Nat) :
    (serveQueues s p).pending = s.pending ∧ (serveQueues s p).sec.otp = s.sec.otp ∧ (serveQueues s p).hbm.mem = s.hbm.mem := by
  unfold serveQueues; simp

@[simp] theorem serveAll_keeps (s : State) (p : Nat) :
    (serveAll s p).pending = s.pending ∧ (serveAll s p).sec.otp = s.sec.otp ∧ (serveAll s p).hbm.mem = s.hbm.mem := by
  unfold serveAll; simp

@[simp] theorem touchStack_keeps (s : State) (k : Nat) :
    (touchStack s k).pending = s.pending ∧ (touchStack s k).sec.otp = s.sec.otp ∧ (touchStack s k).hbm.mem = s.hbm.mem := by
  unfold touchStack; simp

@[simp] theorem acceptReq_keeps (s : State) (q : HbmReq) :
    (acceptReq s q).pending = s.pending ∧ (acceptReq s q).sec.otp = s.sec.otp ∧ (Memory.wf s.hbm.mem = true → Memory.wf (acceptReq s q).hbm.mem = true) := by
  unfold acceptReq; (repeat' split) <;> simp +contextual (maxDischargeDepth := 20)

@[simp] theorem logFlash_keeps (s : State) (bit arg1 : Nat) :
    (logFlash s bit arg1).pending = s.pending ∧ (logFlash s bit arg1).sec.otp = s.sec.otp ∧ (logFlash s bit arg1).hbm.mem = s.hbm.mem := by
  unfold logFlash; grind [draw_keeps, logEvent_keeps]

@[simp] theorem noteRow_keeps (s : State) (a : Nat) (hard : Bool) :
    (noteRow s a hard).pending = s.pending ∧ (noteRow s a hard).sec.otp = s.sec.otp ∧ (noteRow s a hard).hbm.mem = s.hbm.mem := by
  unfold noteRow; simp

@[simp] theorem correctedRead_keeps (s : State) (a : Nat) :
    (correctedRead s a).pending = s.pending ∧ (correctedRead s a).sec.otp = s.sec.otp ∧ (correctedRead s a).hbm.mem = s.hbm.mem := by
  unfold correctedRead; simp

@[simp] theorem failedRead_keeps (s : State) (a : Nat) (replaced : Bool) :
    (failedRead s a replaced).pending = s.pending ∧ (failedRead s a replaced).sec.otp = s.sec.otp ∧ (failedRead s a replaced).hbm.mem = s.hbm.mem := by
  unfold failedRead; simp

@[simp] theorem settleRetrain_keeps (s : State) (pc : Nat) (ok : Bool) :
    (settleRetrain s pc ok).pending = s.pending ∧ (settleRetrain s pc ok).sec.otp = s.sec.otp ∧ (settleRetrain s pc ok).hbm.mem = s.hbm.mem := by
  unfold settleRetrain; simp

@[simp] theorem sramError_keeps (s : State) (array index word : Nat) :
    (sramError s array index word).pending = s.pending ∧ (sramError s array index word).sec.otp = s.sec.otp ∧ (Memory.wf s.hbm.mem = true → Memory.wf (sramError s array index word).hbm.mem = true) := by
  unfold sramError; grind [corePort_keeps, blockPort_keeps]

@[simp] theorem slotPut_keeps (s : State) (n : Nat) (x : SlotState) :
    (slotPut s n x).pending = s.pending ∧ (slotPut s n x).sec.otp = s.sec.otp ∧ (slotPut s n x).hbm.mem = s.hbm.mem := by
  unfold slotPut; simp

@[simp] theorem stageTo_keeps (s : State) (x : StageState) :
    (stageTo s x).pending = s.pending ∧ (stageTo s x).sec.otp = s.sec.otp ∧ (stageTo s x).hbm.mem = s.hbm.mem := by
  unfold stageTo; simp

@[simp] theorem openStaging_keeps (s : State) (owner len : Nat) :
    (openStaging s owner len).pending = s.pending ∧ (openStaging s owner len).sec.otp = s.sec.otp ∧ (openStaging s owner len).hbm.mem = s.hbm.mem := by
  unfold openStaging; simp

@[simp] theorem markVerified_keeps (s : State) (i : ImageFacts) :
    (markVerified s i).pending = s.pending ∧ (markVerified s i).sec.otp = s.sec.otp ∧ (markVerified s i).hbm.mem = s.hbm.mem := by
  unfold markVerified; simp

@[simp] theorem activateStaged_keeps (s : State) :
    (activateStaged s).pending = s.pending ∧ (activateStaged s).sec.otp = s.sec.otp ∧ (activateStaged s).hbm.mem = s.hbm.mem := by
  unfold activateStaged; simp

@[simp] theorem abortStaging_keeps (s : State) :
    (abortStaging s).pending = s.pending ∧ (abortStaging s).sec.otp = s.sec.otp ∧ (abortStaging s).hbm.mem = s.hbm.mem := by
  unfold abortStaging; (repeat' split) <;> simp

@[simp] theorem answerSide_keeps (s : State) (fields : List Nat) :
    (answerSide s fields).pending = s.pending ∧ (answerSide s fields).sec.otp = s.sec.otp ∧ (answerSide s fields).hbm.mem = s.hbm.mem := by
  unfold answerSide; simp

@[simp] theorem freeWords_keeps (s : State) (n : Nat) :
    ((freeWords s n).2).pending = s.pending ∧ ((freeWords s n).2).sec.otp = s.sec.otp ∧ ((freeWords s n).2).hbm.mem = s.hbm.mem := by
  unfold freeWords; simp

@[simp] theorem countCores_keeps (s : State) :
    (countCores s).pending = s.pending ∧ (countCores s).sec.otp = s.sec.otp ∧ (countCores s).hbm.mem = s.hbm.mem := by
  unfold countCores; dsimp only; exact foldl_same (fun s a => by grind [coreSet_keeps, freeWords_keeps]) _ _

@[simp] theorem runSweep_keeps (s : State) (sensors : List Int) :
    (runSweep s sensors).pending = s.pending ∧ (runSweep s sensors).sec.otp = s.sec.otp ∧ (runSweep s sensors).hbm.mem = s.hbm.mem := by
  unfold runSweep; simp

@[simp] theorem telemetryBytes_keeps (s : State) (fn mask : Nat) :
    ((telemetryBytes s fn mask).2).pending = s.pending ∧ ((telemetryBytes s fn mask).2).sec.otp = s.sec.otp ∧ ((telemetryBytes s fn mask).2).hbm.mem = s.hbm.mem := by
  unfold telemetryBytes; (repeat' split) <;> simp

@[simp] theorem advanceBlock_keeps (n : Nat) (s : State) (eraseOk : Bool) :
    (advanceBlock n s eraseOk).pending = s.pending ∧ (advanceBlock n s eraseOk).sec.otp = s.sec.otp ∧ (advanceBlock n s eraseOk).hbm.mem = s.hbm.mem := by
  induction n generalizing s eraseOk with
  | zero => exact ⟨rfl, rfl, rfl⟩
  | succ k ih =>
    unfold advanceBlock
    dsimp only
    split
    · simp
    · have := ih; grind

@[simp] theorem writeFlash_keeps (eraseOk : Bool) (s : State) (r : EventRec) :
    (writeFlash eraseOk s r).pending = s.pending ∧ (writeFlash eraseOk s r).sec.otp = s.sec.otp ∧ (writeFlash eraseOk s r).hbm.mem = s.hbm.mem := by
  unfold writeFlash; simp

@[simp] theorem rotateCluster_keeps (s : State) (k : Nat) :
    (rotateCluster s k).pending = s.pending ∧ (rotateCluster s k).sec.otp = s.sec.otp ∧ (rotateCluster s k).hbm.mem = s.hbm.mem := by
  unfold rotateCluster; (repeat' split) <;> simp

@[simp] theorem ptpSleep_keeps (s : State) :
    (ptpSleep s).pending = s.pending ∧ (ptpSleep s).sec.otp = s.sec.otp ∧ (ptpSleep s).hbm.mem = s.hbm.mem := by
  unfold ptpSleep; simp

@[simp] theorem gateArray_keeps (s : State) :
    (gateArray s).pending = s.pending ∧ (gateArray s).sec.otp = s.sec.otp ∧ (gateArray s).hbm.mem = s.hbm.mem := by
  unfold gateArray; simp

@[simp] theorem enterDormant_keeps (s : State) :
    (enterDormant s).pending = s.pending ∧ (enterDormant s).sec.otp = s.sec.otp ∧ (enterDormant s).hbm.mem = s.hbm.mem := by
  unfold enterDormant; simp

@[simp] theorem leaveSelfRefresh_keeps (s : State) :
    (leaveSelfRefresh s).pending = s.pending ∧ (leaveSelfRefresh s).sec.otp = s.sec.otp ∧ (leaveSelfRefresh s).hbm.mem = s.hbm.mem := by
  unfold leaveSelfRefresh; simp

@[simp] theorem wakeUp_keeps (s : State) :
    (wakeUp s).pending = s.pending ∧ (wakeUp s).sec.otp = s.sec.otp ∧ (wakeUp s).hbm.mem = s.hbm.mem := by
  unfold wakeUp; simp

@[simp] theorem loseEthPorts_keeps (s : State) :
    (loseEthPorts s).pending = s.pending ∧ (loseEthPorts s).sec.otp = s.sec.otp ∧ (loseEthPorts s).hbm.mem = s.hbm.mem := by
  unfold loseEthPorts; simp

@[simp] theorem losePxPorts_keeps (s : State) :
    (losePxPorts s).pending = s.pending ∧ (losePxPorts s).sec.otp = s.sec.otp ∧ (losePxPorts s).hbm.mem = s.hbm.mem := by
  unfold losePxPorts; simp

@[simp] theorem losePcie_keeps (s : State) :
    (losePcie s).pending = s.pending ∧ (losePcie s).sec.otp = s.sec.otp ∧ (Memory.wf s.hbm.mem = true → Memory.wf (losePcie s).hbm.mem = true) := by
  unfold losePcie; simp +contextual (maxDischargeDepth := 20)

@[simp] theorem avsTransact_keeps (s : State) (mv : Nat) (acked : Bool) :
    (avsTransact s mv acked).pending = s.pending ∧ (avsTransact s mv acked).sec.otp = s.sec.otp ∧ (avsTransact s mv acked).hbm.mem = s.hbm.mem := by
  unfold avsTransact; simp

@[simp] theorem endStretch_keeps (s : State) (since : Nat) :
    (endStretch s since).pending = s.pending ∧ (endStretch s since).sec.otp = s.sec.otp ∧ (endStretch s since).hbm.mem = s.hbm.mem := by
  unfold endStretch; simp

@[simp] theorem tapMaintenance_keeps (s : State) (code : BitVec 8) :
    (tapMaintenance s code).pending = s.pending ∧ (tapMaintenance s code).sec.otp = s.sec.otp ∧ (tapMaintenance s code).hbm.mem = s.hbm.mem := by
  unfold tapMaintenance; simp

end Sys2Proof.Machine
end

