-- ==== Sys2Proof/Laws/Same.lean ====
section
/-! SUPPORT. What each shared operation leaves unchanged: one lemma per operation, in the order of the files, over the groups of
the state that statements speak of; first the same for loops and choices. -/

namespace Sys2Proof.Machine

@[simp] theorem foldl_mode {α : Type} (f : State → α → State) (h : ∀ s a, (f s a).mode = s.mode) (l : List α) (s : State) : (l.foldl f s).mode = s.mode := by
  induction l generalizing s with
  | nil => rfl
  | cons a l ih => rw [List.foldl_cons, ih, h]

@[simp] theorem ite_mode (c : Prop) [Decidable c] (a b : State) : (if c then a else b).mode = if c then a.mode else b.mode := by split <;> rfl

@[simp] theorem foldl_ready {α : Type} (f : State → α → State) (h : ∀ s a, (f s a).ready = s.ready) (l : List α) (s : State) : (l.foldl f s).ready = s.ready := by
  induction l generalizing s with
  | nil => rfl
  | cons a l ih => rw [List.foldl_cons, ih, h]

@[simp] theorem ite_ready (c : Prop) [Decidable c] (a b : State) : (if c then a else b).ready = if c then a.ready else b.ready := by split <;> rfl

@[simp] theorem foldl_epochCtr {α : Type} (f : State → α → State) (h : ∀ s a, (f s a).epochCtr = s.epochCtr) (l : List α) (s : State) : (l.foldl f s).epochCtr = s.epochCtr := by
  induction l generalizing s with
  | nil => rfl
  | cons a l ih => rw [List.foldl_cons, ih, h]

@[simp] theorem ite_epochCtr (c : Prop) [Decidable c] (a b : State) : (if c then a else b).epochCtr = if c then a.epochCtr else b.epochCtr := by split <;> rfl

@[simp] theorem foldl_vfEnabled {α : Type} (f : State → α → State) (h : ∀ s a, (f s a).vfEnabled = s.vfEnabled) (l : List α) (s : State) : (l.foldl f s).vfEnabled = s.vfEnabled := by
  induction l generalizing s with
  | nil => rfl
  | cons a l ih => rw [List.foldl_cons, ih, h]

@[simp] theorem ite_vfEnabled (c : Prop) [Decidable c] (a b : State) : (if c then a else b).vfEnabled = if c then a.vfEnabled else b.vfEnabled := by split <;> rfl

@[simp] theorem foldl_dma {α : Type} (f : State → α → State) (h : ∀ s a, (f s a).dma = s.dma) (l : List α) (s : State) : (l.foldl f s).dma = s.dma := by
  induction l generalizing s with
  | nil => rfl
  | cons a l ih => rw [List.foldl_cons, ih, h]

@[simp] theorem ite_dma (c : Prop) [Decidable c] (a b : State) : (if c then a else b).dma = if c then a.dma else b.dma := by split <;> rfl

@[simp] theorem foldl_sessions {α : Type} (f : State → α → State) (h : ∀ s a, (f s a).sessions = s.sessions) (l : List α) (s : State) : (l.foldl f s).sessions = s.sessions := by
  induction l generalizing s with
  | nil => rfl
  | cons a l ih => rw [List.foldl_cons, ih, h]

@[simp] theorem ite_sessions (c : Prop) [Decidable c] (a b : State) : (if c then a else b).sessions = if c then a.sessions else b.sessions := by split <;> rfl

@[simp] theorem foldl_cores {α : Type} (f : State → α → State) (h : ∀ s a, (f s a).cores = s.cores) (l : List α) (s : State) : (l.foldl f s).cores = s.cores := by
  induction l generalizing s with
  | nil => rfl
  | cons a l ih => rw [List.foldl_cons, ih, h]

@[simp] theorem ite_cores (c : Prop) [Decidable c] (a b : State) : (if c then a else b).cores = if c then a.cores else b.cores := by split <;> rfl

@[simp] theorem foldl_sec {α : Type} (f : State → α → State) (h : ∀ s a, (f s a).sec = s.sec) (l : List α) (s : State) : (l.foldl f s).sec = s.sec := by
  induction l generalizing s with
  | nil => rfl
  | cons a l ih => rw [List.foldl_cons, ih, h]

@[simp] theorem ite_sec (c : Prop) [Decidable c] (a b : State) : (if c then a else b).sec = if c then a.sec else b.sec := by split <;> rfl

@[simp] theorem foldl_power {α : Type} (f : State → α → State) (h : ∀ s a, (f s a).power = s.power) (l : List α) (s : State) : (l.foldl f s).power = s.power := by
  induction l generalizing s with
  | nil => rfl
  | cons a l ih => rw [List.foldl_cons, ih, h]

@[simp] theorem ite_power (c : Prop) [Decidable c] (a b : State) : (if c then a else b).power = if c then a.power else b.power := by split <;> rfl

@[simp] theorem foldl_hbm {α : Type} (f : State → α → State) (h : ∀ s a, (f s a).hbm = s.hbm) (l : List α) (s : State) : (l.foldl f s).hbm = s.hbm := by
  induction l generalizing s with
  | nil => rfl
  | cons a l ih => rw [List.foldl_cons, ih, h]

@[simp] theorem ite_hbm (c : Prop) [Decidable c] (a b : State) : (if c then a else b).hbm = if c then a.hbm else b.hbm := by split <;> rfl

@[simp] theorem foldl_tap {α : Type} (f : State → α → State) (h : ∀ s a, (f s a).tap = s.tap) (l : List α) (s : State) : (l.foldl f s).tap = s.tap := by
  induction l generalizing s with
  | nil => rfl
  | cons a l ih => rw [List.foldl_cons, ih, h]

@[simp] theorem ite_tap (c : Prop) [Decidable c] (a b : State) : (if c then a else b).tap = if c then a.tap else b.tap := by split <;> rfl

@[simp] theorem foldl_pins {α : Type} (f : State → α → State) (h : ∀ s a, (f s a).pins = s.pins) (l : List α) (s : State) : (l.foldl f s).pins = s.pins := by
  induction l generalizing s with
  | nil => rfl
  | cons a l ih => rw [List.foldl_cons, ih, h]

@[simp] theorem ite_pins (c : Prop) [Decidable c] (a b : State) : (if c then a else b).pins = if c then a.pins else b.pins := by split <;> rfl

@[simp] theorem foldl_px {α : Type} (f : State → α → State) (h : ∀ s a, (f s a).px = s.px) (l : List α) (s : State) : (l.foldl f s).px = s.px := by
  induction l generalizing s with
  | nil => rfl
  | cons a l ih => rw [List.foldl_cons, ih, h]

@[simp] theorem ite_px (c : Prop) [Decidable c] (a b : State) : (if c then a else b).px = if c then a.px else b.px := by split <;> rfl

@[simp] theorem foldl_sw {α : Type} (f : State → α → State) (h : ∀ s a, (f s a).sw = s.sw) (l : List α) (s : State) : (l.foldl f s).sw = s.sw := by
  induction l generalizing s with
  | nil => rfl
  | cons a l ih => rw [List.foldl_cons, ih, h]

@[simp] theorem ite_sw (c : Prop) [Decidable c] (a b : State) : (if c then a else b).sw = if c then a.sw else b.sw := by split <;> rfl

@[simp] theorem foldl_tables {α : Type} (f : State → α → State) (h : ∀ s a, (f s a).tables = s.tables) (l : List α) (s : State) : (l.foldl f s).tables = s.tables := by
  induction l generalizing s with
  | nil => rfl
  | cons a l ih => rw [List.foldl_cons, ih, h]

@[simp] theorem ite_tables (c : Prop) [Decidable c] (a b : State) : (if c then a else b).tables = if c then a.tables else b.tables := by split <;> rfl

@[simp] theorem foldl_net {α : Type} (f : State → α → State) (h : ∀ s a, (f s a).net = s.net) (l : List α) (s : State) : (l.foldl f s).net = s.net := by
  induction l generalizing s with
  | nil => rfl
  | cons a l ih => rw [List.foldl_cons, ih, h]

@[simp] theorem ite_net (c : Prop) [Decidable c] (a b : State) : (if c then a else b).net = if c then a.net else b.net := by split <;> rfl

@[simp] theorem foldl_fabric {α : Type} (f : State → α → State) (h : ∀ s a, (f s a).fabric = s.fabric) (l : List α) (s : State) : (l.foldl f s).fabric = s.fabric := by
  induction l generalizing s with
  | nil => rfl
  | cons a l ih => rw [List.foldl_cons, ih, h]

@[simp] theorem ite_fabric (c : Prop) [Decidable c] (a b : State) : (if c then a else b).fabric = if c then a.fabric else b.fabric := by split <;> rfl

@[simp] theorem foldl_qps {α : Type} (f : State → α → State) (h : ∀ s a, (f s a).qps = s.qps) (l : List α) (s : State) : (l.foldl f s).qps = s.qps := by
  induction l generalizing s with
  | nil => rfl
  | cons a l ih => rw [List.foldl_cons, ih, h]

@[simp] theorem ite_qps (c : Prop) [Decidable c] (a b : State) : (if c then a else b).qps = if c then a.qps else b.qps := by split <;> rfl

@[simp] theorem foldl_fst_mode {α β : Type} (f : State × β → α → State × β) (h : ∀ p a, (f p a).1.mode = p.1.mode) (l : List α) (p : State × β) : (l.foldl f p).1.mode = p.1.mode := by
  induction l generalizing p with
  | nil => rfl
  | cons a l ih => rw [List.foldl_cons, ih, h]

@[simp] theorem foldl_snd_mode {α β : Type} (f : β × State → α → β × State) (h : ∀ p a, (f p a).2.mode = p.2.mode) (l : List α) (p : β × State) : (l.foldl f p).2.mode = p.2.mode := by
  induction l generalizing p with
  | nil => rfl
  | cons a l ih => rw [List.foldl_cons, ih, h]

@[simp] theorem foldl_fst_ready {α β : Type} (f : State × β → α → State × β) (h : ∀ p a, (f p a).1.ready = p.1.ready) (l : List α) (p : State × β) : (l.foldl f p).1.ready = p.1.ready := by
  induction l generalizing p with
  | nil => rfl
  | cons a l ih => rw [List.foldl_cons, ih, h]

@[simp] theorem foldl_snd_ready {α β : Type} (f : β × State → α → β × State) (h : ∀ p a, (f p a).2.ready = p.2.ready) (l : List α) (p : β × State) : (l.foldl f p).2.ready = p.2.ready := by
  induction l generalizing p with
  | nil => rfl
  | cons a l ih => rw [List.foldl_cons, ih, h]

@[simp] theorem foldl_fst_epochCtr {α β : Type} (f : State × β → α → State × β) (h : ∀ p a, (f p a).1.epochCtr = p.1.epochCtr) (l : List α) (p : State × β) : (l.foldl f p).1.epochCtr = p.1.epochCtr := by
  induction l generalizing p with
  | nil => rfl
  | cons a l ih => rw [List.foldl_cons, ih, h]

@[simp] theorem foldl_snd_epochCtr {α β : Type} (f : β × State → α → β × State) (h : ∀ p a, (f p a).2.epochCtr = p.2.epochCtr) (l : List α) (p : β × State) : (l.foldl f p).2.epochCtr = p.2.epochCtr := by
  induction l generalizing p with
  | nil => rfl
  | cons a l ih => rw [List.foldl_cons, ih, h]

@[simp] theorem foldl_fst_vfEnabled {α β : Type} (f : State × β → α → State × β) (h : ∀ p a, (f p a).1.vfEnabled = p.1.vfEnabled) (l : List α) (p : State × β) : (l.foldl f p).1.vfEnabled = p.1.vfEnabled := by
  induction l generalizing p with
  | nil => rfl
  | cons a l ih => rw [List.foldl_cons, ih, h]

@[simp] theorem foldl_snd_vfEnabled {α β : Type} (f : β × State → α → β × State) (h : ∀ p a, (f p a).2.vfEnabled = p.2.vfEnabled) (l : List α) (p : β × State) : (l.foldl f p).2.vfEnabled = p.2.vfEnabled := by
  induction l generalizing p with
  | nil => rfl
  | cons a l ih => rw [List.foldl_cons, ih, h]

@[simp] theorem foldl_fst_dma {α β : Type} (f : State × β → α → State × β) (h : ∀ p a, (f p a).1.dma = p.1.dma) (l : List α) (p : State × β) : (l.foldl f p).1.dma = p.1.dma := by
  induction l generalizing p with
  | nil => rfl
  | cons a l ih => rw [List.foldl_cons, ih, h]

@[simp] theorem foldl_snd_dma {α β : Type} (f : β × State → α → β × State) (h : ∀ p a, (f p a).2.dma = p.2.dma) (l : List α) (p : β × State) : (l.foldl f p).2.dma = p.2.dma := by
  induction l generalizing p with
  | nil => rfl
  | cons a l ih => rw [List.foldl_cons, ih, h]

@[simp] theorem foldl_fst_sessions {α β : Type} (f : State × β → α → State × β) (h : ∀ p a, (f p a).1.sessions = p.1.sessions) (l : List α) (p : State × β) : (l.foldl f p).1.sessions = p.1.sessions := by
  induction l generalizing p with
  | nil => rfl
  | cons a l ih => rw [List.foldl_cons, ih, h]

@[simp] theorem foldl_snd_sessions {α β : Type} (f : β × State → α → β × State) (h : ∀ p a, (f p a).2.sessions = p.2.sessions) (l : List α) (p : β × State) : (l.foldl f p).2.sessions = p.2.sessions := by
  induction l generalizing p with
  | nil => rfl
  | cons a l ih => rw [List.foldl_cons, ih, h]

@[simp] theorem foldl_fst_cores {α β : Type} (f : State × β → α → State × β) (h : ∀ p a, (f p a).1.cores = p.1.cores) (l : List α) (p : State × β) : (l.foldl f p).1.cores = p.1.cores := by
  induction l generalizing p with
  | nil => rfl
  | cons a l ih => rw [List.foldl_cons, ih, h]

@[simp] theorem foldl_snd_cores {α β : Type} (f : β × State → α → β × State) (h : ∀ p a, (f p a).2.cores = p.2.cores) (l : List α) (p : β × State) : (l.foldl f p).2.cores = p.2.cores := by
  induction l generalizing p with
  | nil => rfl
  | cons a l ih => rw [List.foldl_cons, ih, h]

@[simp] theorem foldl_fst_sec {α β : Type} (f : State × β → α → State × β) (h : ∀ p a, (f p a).1.sec = p.1.sec) (l : List α) (p : State × β) : (l.foldl f p).1.sec = p.1.sec := by
  induction l generalizing p with
  | nil => rfl
  | cons a l ih => rw [List.foldl_cons, ih, h]

@[simp] theorem foldl_snd_sec {α β : Type} (f : β × State → α → β × State) (h : ∀ p a, (f p a).2.sec = p.2.sec) (l : List α) (p : β × State) : (l.foldl f p).2.sec = p.2.sec := by
  induction l generalizing p with
  | nil => rfl
  | cons a l ih => rw [List.foldl_cons, ih, h]

@[simp] theorem foldl_fst_power {α β : Type} (f : State × β → α → State × β) (h : ∀ p a, (f p a).1.power = p.1.power) (l : List α) (p : State × β) : (l.foldl f p).1.power = p.1.power := by
  induction l generalizing p with
  | nil => rfl
  | cons a l ih => rw [List.foldl_cons, ih, h]

@[simp] theorem foldl_snd_power {α β : Type} (f : β × State → α → β × State) (h : ∀ p a, (f p a).2.power = p.2.power) (l : List α) (p : β × State) : (l.foldl f p).2.power = p.2.power := by
  induction l generalizing p with
  | nil => rfl
  | cons a l ih => rw [List.foldl_cons, ih, h]

@[simp] theorem foldl_fst_hbm {α β : Type} (f : State × β → α → State × β) (h : ∀ p a, (f p a).1.hbm = p.1.hbm) (l : List α) (p : State × β) : (l.foldl f p).1.hbm = p.1.hbm := by
  induction l generalizing p with
  | nil => rfl
  | cons a l ih => rw [List.foldl_cons, ih, h]

@[simp] theorem foldl_snd_hbm {α β : Type} (f : β × State → α → β × State) (h : ∀ p a, (f p a).2.hbm = p.2.hbm) (l : List α) (p : β × State) : (l.foldl f p).2.hbm = p.2.hbm := by
  induction l generalizing p with
  | nil => rfl
  | cons a l ih => rw [List.foldl_cons, ih, h]

@[simp] theorem foldl_fst_tap {α β : Type} (f : State × β → α → State × β) (h : ∀ p a, (f p a).1.tap = p.1.tap) (l : List α) (p : State × β) : (l.foldl f p).1.tap = p.1.tap := by
  induction l generalizing p with
  | nil => rfl
  | cons a l ih => rw [List.foldl_cons, ih, h]

@[simp] theorem foldl_snd_tap {α β : Type} (f : β × State → α → β × State) (h : ∀ p a, (f p a).2.tap = p.2.tap) (l : List α) (p : β × State) : (l.foldl f p).2.tap = p.2.tap := by
  induction l generalizing p with
  | nil => rfl
  | cons a l ih => rw [List.foldl_cons, ih, h]

@[simp] theorem foldl_fst_pins {α β : Type} (f : State × β → α → State × β) (h : ∀ p a, (f p a).1.pins = p.1.pins) (l : List α) (p : State × β) : (l.foldl f p).1.pins = p.1.pins := by
  induction l generalizing p with
  | nil => rfl
  | cons a l ih => rw [List.foldl_cons, ih, h]

@[simp] theorem foldl_snd_pins {α β : Type} (f : β × State → α → β × State) (h : ∀ p a, (f p a).2.pins = p.2.pins) (l : List α) (p : β × State) : (l.foldl f p).2.pins = p.2.pins := by
  induction l generalizing p with
  | nil => rfl
  | cons a l ih => rw [List.foldl_cons, ih, h]

@[simp] theorem foldl_fst_px {α β : Type} (f : State × β → α → State × β) (h : ∀ p a, (f p a).1.px = p.1.px) (l : List α) (p : State × β) : (l.foldl f p).1.px = p.1.px := by
  induction l generalizing p with
  | nil => rfl
  | cons a l ih => rw [List.foldl_cons, ih, h]

@[simp] theorem foldl_snd_px {α β : Type} (f : β × State → α → β × State) (h : ∀ p a, (f p a).2.px = p.2.px) (l : List α) (p : β × State) : (l.foldl f p).2.px = p.2.px := by
  induction l generalizing p with
  | nil => rfl
  | cons a l ih => rw [List.foldl_cons, ih, h]

@[simp] theorem foldl_fst_sw {α β : Type} (f : State × β → α → State × β) (h : ∀ p a, (f p a).1.sw = p.1.sw) (l : List α) (p : State × β) : (l.foldl f p).1.sw = p.1.sw := by
  induction l generalizing p with
  | nil => rfl
  | cons a l ih => rw [List.foldl_cons, ih, h]

@[simp] theorem foldl_snd_sw {α β : Type} (f : β × State → α → β × State) (h : ∀ p a, (f p a).2.sw = p.2.sw) (l : List α) (p : β × State) : (l.foldl f p).2.sw = p.2.sw := by
  induction l generalizing p with
  | nil => rfl
  | cons a l ih => rw [List.foldl_cons, ih, h]

@[simp] theorem foldl_fst_tables {α β : Type} (f : State × β → α → State × β) (h : ∀ p a, (f p a).1.tables = p.1.tables) (l : List α) (p : State × β) : (l.foldl f p).1.tables = p.1.tables := by
  induction l generalizing p with
  | nil => rfl
  | cons a l ih => rw [List.foldl_cons, ih, h]

@[simp] theorem foldl_snd_tables {α β : Type} (f : β × State → α → β × State) (h : ∀ p a, (f p a).2.tables = p.2.tables) (l : List α) (p : β × State) : (l.foldl f p).2.tables = p.2.tables := by
  induction l generalizing p with
  | nil => rfl
  | cons a l ih => rw [List.foldl_cons, ih, h]

@[simp] theorem foldl_fst_net {α β : Type} (f : State × β → α → State × β) (h : ∀ p a, (f p a).1.net = p.1.net) (l : List α) (p : State × β) : (l.foldl f p).1.net = p.1.net := by
  induction l generalizing p with
  | nil => rfl
  | cons a l ih => rw [List.foldl_cons, ih, h]

@[simp] theorem foldl_snd_net {α β : Type} (f : β × State → α → β × State) (h : ∀ p a, (f p a).2.net = p.2.net) (l : List α) (p : β × State) : (l.foldl f p).2.net = p.2.net := by
  induction l generalizing p with
  | nil => rfl
  | cons a l ih => rw [List.foldl_cons, ih, h]

@[simp] theorem foldl_fst_fabric {α β : Type} (f : State × β → α → State × β) (h : ∀ p a, (f p a).1.fabric = p.1.fabric) (l : List α) (p : State × β) : (l.foldl f p).1.fabric = p.1.fabric := by
  induction l generalizing p with
  | nil => rfl
  | cons a l ih => rw [List.foldl_cons, ih, h]

@[simp] theorem foldl_snd_fabric {α β : Type} (f : β × State → α → β × State) (h : ∀ p a, (f p a).2.fabric = p.2.fabric) (l : List α) (p : β × State) : (l.foldl f p).2.fabric = p.2.fabric := by
  induction l generalizing p with
  | nil => rfl
  | cons a l ih => rw [List.foldl_cons, ih, h]

@[simp] theorem foldl_fst_qps {α β : Type} (f : State × β → α → State × β) (h : ∀ p a, (f p a).1.qps = p.1.qps) (l : List α) (p : State × β) : (l.foldl f p).1.qps = p.1.qps := by
  induction l generalizing p with
  | nil => rfl
  | cons a l ih => rw [List.foldl_cons, ih, h]

@[simp] theorem foldl_snd_qps {α β : Type} (f : β × State → α → β × State) (h : ∀ p a, (f p a).2.qps = p.2.qps) (l : List α) (p : β × State) : (l.foldl f p).2.qps = p.2.qps := by
  induction l generalizing p with
  | nil => rfl
  | cons a l ih => rw [List.foldl_cons, ih, h]

@[simp] theorem hbmWrite_same (s : State) (a : Nat) (data : Bytes) :
    ((hbmWrite s a data)).mode = s.mode ∧ ((hbmWrite s a data)).ready = s.ready ∧ ((hbmWrite s a data)).epochCtr = s.epochCtr
    ∧ ((hbmWrite s a data)).vfEnabled = s.vfEnabled ∧ ((hbmWrite s a data)).dma = s.dma
    ∧ ((hbmWrite s a data)).sessions = s.sessions ∧ ((hbmWrite s a data)).cores = s.cores ∧ ((hbmWrite s a data)).sec = s.sec
    ∧ ((hbmWrite s a data)).power = s.power ∧ ((hbmWrite s a data)).tap = s.tap ∧ ((hbmWrite s a data)).pins = s.pins
    ∧ ((hbmWrite s a data)).px = s.px ∧ ((hbmWrite s a data)).sw = s.sw ∧ ((hbmWrite s a data)).tables = s.tables
    ∧ ((hbmWrite s a data)).net = s.net ∧ ((hbmWrite s a data)).fabric = s.fabric ∧ ((hbmWrite s a data)).qps = s.qps := by
  unfold hbmWrite; simp

@[simp] theorem hbmZero_same (s : State) (lo hi : Nat) :
    ((hbmZero s lo hi)).mode = s.mode ∧ ((hbmZero s lo hi)).ready = s.ready ∧ ((hbmZero s lo hi)).epochCtr = s.epochCtr
    ∧ ((hbmZero s lo hi)).vfEnabled = s.vfEnabled ∧ ((hbmZero s lo hi)).dma = s.dma ∧ ((hbmZero s lo hi)).sessions = s.sessions
    ∧ ((hbmZero s lo hi)).cores = s.cores ∧ ((hbmZero s lo hi)).sec = s.sec ∧ ((hbmZero s lo hi)).power = s.power
    ∧ ((hbmZero s lo hi)).tap = s.tap ∧ ((hbmZero s lo hi)).pins = s.pins ∧ ((hbmZero s lo hi)).px = s.px
    ∧ ((hbmZero s lo hi)).sw = s.sw ∧ ((hbmZero s lo hi)).tables = s.tables ∧ ((hbmZero s lo hi)).net = s.net
    ∧ ((hbmZero s lo hi)).fabric = s.fabric ∧ ((hbmZero s lo hi)).qps = s.qps := by
  unfold hbmZero; simp

@[simp] theorem atTime_same (s : State) (t : Nat) :
    ((atTime s t)).mode = s.mode ∧ ((atTime s t)).ready = s.ready ∧ ((atTime s t)).epochCtr = s.epochCtr
    ∧ ((atTime s t)).vfEnabled = s.vfEnabled ∧ ((atTime s t)).dma = s.dma ∧ ((atTime s t)).sessions = s.sessions
    ∧ ((atTime s t)).cores = s.cores ∧ ((atTime s t)).sec = s.sec ∧ ((atTime s t)).power = s.power ∧ ((atTime s t)).hbm = s.hbm
    ∧ ((atTime s t)).tap = s.tap ∧ ((atTime s t)).pins = s.pins ∧ ((atTime s t)).px = s.px ∧ ((atTime s t)).sw = s.sw
    ∧ ((atTime s t)).tables = s.tables ∧ ((atTime s t)).net = s.net ∧ ((atTime s t)).fabric = s.fabric
    ∧ ((atTime s t)).qps = s.qps := by
  unfold atTime; simp

@[simp] theorem emit_same (s : State) (o : OutItem) :
    ((emit s o)).mode = s.mode ∧ ((emit s o)).ready = s.ready ∧ ((emit s o)).epochCtr = s.epochCtr
    ∧ ((emit s o)).vfEnabled = s.vfEnabled ∧ ((emit s o)).dma = s.dma ∧ ((emit s o)).sessions = s.sessions
    ∧ ((emit s o)).cores = s.cores ∧ ((emit s o)).sec = s.sec ∧ ((emit s o)).power = s.power ∧ ((emit s o)).hbm = s.hbm
    ∧ ((emit s o)).tap = s.tap ∧ ((emit s o)).pins = s.pins ∧ ((emit s o)).px = s.px ∧ ((emit s o)).sw = s.sw
    ∧ ((emit s o)).tables = s.tables ∧ ((emit s o)).net = s.net ∧ ((emit s o)).fabric = s.fabric
    ∧ ((emit s o)).qps = s.qps := by
  unfold emit; simp

@[simp] theorem draw_same (s : State) (n : Nat) :
    ((draw s n).2).mode = s.mode ∧ ((draw s n).2).ready = s.ready ∧ ((draw s n).2).epochCtr = s.epochCtr
    ∧ ((draw s n).2).vfEnabled = s.vfEnabled ∧ ((draw s n).2).dma = s.dma ∧ ((draw s n).2).sessions = s.sessions
    ∧ ((draw s n).2).cores = s.cores ∧ ((draw s n).2).sec = s.sec ∧ ((draw s n).2).power = s.power ∧ ((draw s n).2).hbm = s.hbm
    ∧ ((draw s n).2).tap = s.tap ∧ ((draw s n).2).pins = s.pins ∧ ((draw s n).2).px = s.px ∧ ((draw s n).2).sw = s.sw
    ∧ ((draw s n).2).tables = s.tables ∧ ((draw s n).2).net = s.net ∧ ((draw s n).2).fabric = s.fabric
    ∧ ((draw s n).2).qps = s.qps := by
  unfold draw; simp

@[simp] theorem fnSet_same (s : State) (fn : Nat) (f : FnState) :
    ((fnSet s fn f)).mode = s.mode ∧ ((fnSet s fn f)).ready = s.ready ∧ ((fnSet s fn f)).epochCtr = s.epochCtr
    ∧ ((fnSet s fn f)).vfEnabled = s.vfEnabled ∧ ((fnSet s fn f)).dma = s.dma ∧ ((fnSet s fn f)).sessions = s.sessions
    ∧ ((fnSet s fn f)).cores = s.cores ∧ ((fnSet s fn f)).sec = s.sec ∧ ((fnSet s fn f)).power = s.power
    ∧ ((fnSet s fn f)).hbm = s.hbm ∧ ((fnSet s fn f)).tap = s.tap ∧ ((fnSet s fn f)).pins = s.pins ∧ ((fnSet s fn f)).px = s.px
    ∧ ((fnSet s fn f)).sw = s.sw ∧ ((fnSet s fn f)).tables = s.tables ∧ ((fnSet s fn f)).net = s.net
    ∧ ((fnSet s fn f)).fabric = s.fabric ∧ ((fnSet s fn f)).qps = s.qps := by
  unfold fnSet; simp

@[simp] theorem sendMsix_same (s : State) (fn v : Nat) :
    ((sendMsix s fn v)).mode = s.mode ∧ ((sendMsix s fn v)).ready = s.ready ∧ ((sendMsix s fn v)).epochCtr = s.epochCtr
    ∧ ((sendMsix s fn v)).vfEnabled = s.vfEnabled ∧ ((sendMsix s fn v)).dma = s.dma ∧ ((sendMsix s fn v)).sessions = s.sessions
    ∧ ((sendMsix s fn v)).cores = s.cores ∧ ((sendMsix s fn v)).sec = s.sec ∧ ((sendMsix s fn v)).power = s.power
    ∧ ((sendMsix s fn v)).hbm = s.hbm ∧ ((sendMsix s fn v)).tap = s.tap ∧ ((sendMsix s fn v)).pins = s.pins
    ∧ ((sendMsix s fn v)).px = s.px ∧ ((sendMsix s fn v)).sw = s.sw ∧ ((sendMsix s fn v)).tables = s.tables
    ∧ ((sendMsix s fn v)).net = s.net ∧ ((sendMsix s fn v)).fabric = s.fabric ∧ ((sendMsix s fn v)).qps = s.qps := by
  unfold sendMsix; simp

@[simp] theorem setCause_same (s : State) (fn bit : Nat) :
    ((setCause s fn bit)).mode = s.mode ∧ ((setCause s fn bit)).ready = s.ready ∧ ((setCause s fn bit)).epochCtr = s.epochCtr
    ∧ ((setCause s fn bit)).vfEnabled = s.vfEnabled ∧ ((setCause s fn bit)).dma = s.dma
    ∧ ((setCause s fn bit)).sessions = s.sessions ∧ ((setCause s fn bit)).cores = s.cores ∧ ((setCause s fn bit)).sec = s.sec
    ∧ ((setCause s fn bit)).power = s.power ∧ ((setCause s fn bit)).hbm = s.hbm ∧ ((setCause s fn bit)).tap = s.tap
    ∧ ((setCause s fn bit)).pins = s.pins ∧ ((setCause s fn bit)).px = s.px ∧ ((setCause s fn bit)).sw = s.sw
    ∧ ((setCause s fn bit)).tables = s.tables ∧ ((setCause s fn bit)).net = s.net ∧ ((setCause s fn bit)).fabric = s.fabric
    ∧ ((setCause s fn bit)).qps = s.qps := by
  unfold setCause; simp

@[simp] theorem causeAll_same (s : State) (bit : Nat) :
    ((causeAll s bit)).mode = s.mode ∧ ((causeAll s bit)).ready = s.ready ∧ ((causeAll s bit)).epochCtr = s.epochCtr
    ∧ ((causeAll s bit)).vfEnabled = s.vfEnabled ∧ ((causeAll s bit)).dma = s.dma ∧ ((causeAll s bit)).sessions = s.sessions
    ∧ ((causeAll s bit)).cores = s.cores ∧ ((causeAll s bit)).sec = s.sec ∧ ((causeAll s bit)).power = s.power
    ∧ ((causeAll s bit)).hbm = s.hbm ∧ ((causeAll s bit)).tap = s.tap ∧ ((causeAll s bit)).pins = s.pins
    ∧ ((causeAll s bit)).px = s.px ∧ ((causeAll s bit)).sw = s.sw ∧ ((causeAll s bit)).tables = s.tables
    ∧ ((causeAll s bit)).net = s.net ∧ ((causeAll s bit)).fabric = s.fabric ∧ ((causeAll s bit)).qps = s.qps := by
  unfold causeAll; simp

@[simp] theorem hostWrite_same (s : State) (fn : Nat) (inHbm : Bool) (addr : Nat) (data : Bytes) :
    ((hostWrite s fn inHbm addr data)).mode = s.mode ∧ ((hostWrite s fn inHbm addr data)).ready = s.ready
    ∧ ((hostWrite s fn inHbm addr data)).epochCtr = s.epochCtr ∧ ((hostWrite s fn inHbm addr data)).vfEnabled = s.vfEnabled
    ∧ ((hostWrite s fn inHbm addr data)).dma = s.dma ∧ ((hostWrite s fn inHbm addr data)).sessions = s.sessions
    ∧ ((hostWrite s fn inHbm addr data)).cores = s.cores ∧ ((hostWrite s fn inHbm addr data)).sec = s.sec
    ∧ ((hostWrite s fn inHbm addr data)).power = s.power ∧ ((hostWrite s fn inHbm addr data)).tap = s.tap
    ∧ ((hostWrite s fn inHbm addr data)).pins = s.pins ∧ ((hostWrite s fn inHbm addr data)).px = s.px
    ∧ ((hostWrite s fn inHbm addr data)).sw = s.sw ∧ ((hostWrite s fn inHbm addr data)).tables = s.tables
    ∧ ((hostWrite s fn inHbm addr data)).net = s.net ∧ ((hostWrite s fn inHbm addr data)).fabric = s.fabric
    ∧ ((hostWrite s fn inHbm addr data)).qps = s.qps := by
  unfold hostWrite; simp

@[simp] theorem postRing_same (s : State) (fn : Nat) (r : Ring) (data : Bytes) :
    ((postRing s fn r data).2).mode = s.mode ∧ ((postRing s fn r data).2).ready = s.ready
    ∧ ((postRing s fn r data).2).epochCtr = s.epochCtr ∧ ((postRing s fn r data).2).vfEnabled = s.vfEnabled
    ∧ ((postRing s fn r data).2).dma = s.dma ∧ ((postRing s fn r data).2).sessions = s.sessions
    ∧ ((postRing s fn r data).2).cores = s.cores ∧ ((postRing s fn r data).2).sec = s.sec
    ∧ ((postRing s fn r data).2).power = s.power ∧ ((postRing s fn r data).2).hbm = s.hbm
    ∧ ((postRing s fn r data).2).tap = s.tap ∧ ((postRing s fn r data).2).pins = s.pins ∧ ((postRing s fn r data).2).px = s.px
    ∧ ((postRing s fn r data).2).sw = s.sw ∧ ((postRing s fn r data).2).tables = s.tables
    ∧ ((postRing s fn r data).2).net = s.net ∧ ((postRing s fn r data).2).fabric = s.fabric
    ∧ ((postRing s fn r data).2).qps = s.qps := by
  unfold postRing; (repeat' split) <;> simp

@[simp] theorem sessPut_same (s : State) (x : Session) :
    ((sessPut s x)).mode = s.mode ∧ ((sessPut s x)).ready = s.ready ∧ ((sessPut s x)).epochCtr = s.epochCtr
    ∧ ((sessPut s x)).vfEnabled = s.vfEnabled ∧ ((sessPut s x)).dma = s.dma ∧ ((sessPut s x)).cores = s.cores
    ∧ ((sessPut s x)).sec = s.sec ∧ ((sessPut s x)).power = s.power ∧ ((sessPut s x)).hbm = s.hbm ∧ ((sessPut s x)).tap = s.tap
    ∧ ((sessPut s x)).pins = s.pins ∧ ((sessPut s x)).px = s.px ∧ ((sessPut s x)).sw = s.sw ∧ ((sessPut s x)).tables = s.tables
    ∧ ((sessPut s x)).net = s.net ∧ ((sessPut s x)).fabric = s.fabric ∧ ((sessPut s x)).qps = s.qps := by
  unfold sessPut; simp

@[simp] theorem postEvent_same (s : State) (r : EventRec) :
    ((postEvent s r)).mode = s.mode ∧ ((postEvent s r)).ready = s.ready ∧ ((postEvent s r)).epochCtr = s.epochCtr
    ∧ ((postEvent s r)).vfEnabled = s.vfEnabled ∧ ((postEvent s r)).dma = s.dma ∧ ((postEvent s r)).sessions = s.sessions
    ∧ ((postEvent s r)).cores = s.cores ∧ ((postEvent s r)).sec = s.sec ∧ ((postEvent s r)).power = s.power
    ∧ ((postEvent s r)).hbm = s.hbm ∧ ((postEvent s r)).tap = s.tap ∧ ((postEvent s r)).pins = s.pins
    ∧ ((postEvent s r)).px = s.px ∧ ((postEvent s r)).sw = s.sw ∧ ((postEvent s r)).tables = s.tables
    ∧ ((postEvent s r)).net = s.net ∧ ((postEvent s r)).fabric = s.fabric ∧ ((postEvent s r)).qps = s.qps := by
  unfold postEvent; (repeat' split) <;> simp

@[simp] theorem logRec_same (s : State) (r : EventRec) :
    ((logRec s r)).mode = s.mode ∧ ((logRec s r)).ready = s.ready ∧ ((logRec s r)).epochCtr = s.epochCtr
    ∧ ((logRec s r)).vfEnabled = s.vfEnabled ∧ ((logRec s r)).dma = s.dma ∧ ((logRec s r)).sessions = s.sessions
    ∧ ((logRec s r)).cores = s.cores ∧ ((logRec s r)).sec = s.sec ∧ ((logRec s r)).power = s.power ∧ ((logRec s r)).hbm = s.hbm
    ∧ ((logRec s r)).tap = s.tap ∧ ((logRec s r)).pins = s.pins ∧ ((logRec s r)).px = s.px ∧ ((logRec s r)).sw = s.sw
    ∧ ((logRec s r)).tables = s.tables ∧ ((logRec s r)).net = s.net ∧ ((logRec s r)).fabric = s.fabric
    ∧ ((logRec s r)).qps = s.qps := by
  unfold logRec; simp

@[simp] theorem argOf_same (s : State) (a : Option Nat) (bound : Nat) :
    ((argOf s a bound).2).mode = s.mode ∧ ((argOf s a bound).2).ready = s.ready ∧ ((argOf s a bound).2).epochCtr = s.epochCtr
    ∧ ((argOf s a bound).2).vfEnabled = s.vfEnabled ∧ ((argOf s a bound).2).dma = s.dma
    ∧ ((argOf s a bound).2).sessions = s.sessions ∧ ((argOf s a bound).2).cores = s.cores ∧ ((argOf s a bound).2).sec = s.sec
    ∧ ((argOf s a bound).2).power = s.power ∧ ((argOf s a bound).2).hbm = s.hbm ∧ ((argOf s a bound).2).tap = s.tap
    ∧ ((argOf s a bound).2).pins = s.pins ∧ ((argOf s a bound).2).px = s.px ∧ ((argOf s a bound).2).sw = s.sw
    ∧ ((argOf s a bound).2).tables = s.tables ∧ ((argOf s a bound).2).net = s.net ∧ ((argOf s a bound).2).fabric = s.fabric
    ∧ ((argOf s a bound).2).qps = s.qps := by
  unfold argOf; (repeat' split) <;> simp

@[simp] theorem logEvent_same (s : State) (code cls source : Nat) (arg0 arg1 : Option Nat) :
    ((logEvent s code cls source arg0 arg1)).mode = s.mode ∧ ((logEvent s code cls source arg0 arg1)).ready = s.ready
    ∧ ((logEvent s code cls source arg0 arg1)).epochCtr = s.epochCtr
    ∧ ((logEvent s code cls source arg0 arg1)).vfEnabled = s.vfEnabled ∧ ((logEvent s code cls source arg0 arg1)).dma = s.dma
    ∧ ((logEvent s code cls source arg0 arg1)).sessions = s.sessions ∧ ((logEvent s code cls source arg0 arg1)).cores = s.cores
    ∧ ((logEvent s code cls source arg0 arg1)).sec = s.sec ∧ ((logEvent s code cls source arg0 arg1)).power = s.power
    ∧ ((logEvent s code cls source arg0 arg1)).hbm = s.hbm ∧ ((logEvent s code cls source arg0 arg1)).tap = s.tap
    ∧ ((logEvent s code cls source arg0 arg1)).pins = s.pins ∧ ((logEvent s code cls source arg0 arg1)).px = s.px
    ∧ ((logEvent s code cls source arg0 arg1)).sw = s.sw ∧ ((logEvent s code cls source arg0 arg1)).tables = s.tables
    ∧ ((logEvent s code cls source arg0 arg1)).net = s.net ∧ ((logEvent s code cls source arg0 arg1)).fabric = s.fabric
    ∧ ((logEvent s code cls source arg0 arg1)).qps = s.qps := by
  unfold logEvent; simp

@[simp] theorem logFor_same (s : State) (fn code cls source : Nat) (arg0 arg1 : Option Nat) :
    ((logFor s fn code cls source arg0 arg1)).mode = s.mode ∧ ((logFor s fn code cls source arg0 arg1)).ready = s.ready
    ∧ ((logFor s fn code cls source arg0 arg1)).epochCtr = s.epochCtr
    ∧ ((logFor s fn code cls source arg0 arg1)).vfEnabled = s.vfEnabled ∧ ((logFor s fn code cls source arg0 arg1)).dma = s.dma
    ∧ ((logFor s fn code cls source arg0 arg1)).sessions = s.sessions
    ∧ ((logFor s fn code cls source arg0 arg1)).cores = s.cores ∧ ((logFor s fn code cls source arg0 arg1)).sec = s.sec
    ∧ ((logFor s fn code cls source arg0 arg1)).power = s.power ∧ ((logFor s fn code cls source arg0 arg1)).hbm = s.hbm
    ∧ ((logFor s fn code cls source arg0 arg1)).tap = s.tap ∧ ((logFor s fn code cls source arg0 arg1)).pins = s.pins
    ∧ ((logFor s fn code cls source arg0 arg1)).px = s.px ∧ ((logFor s fn code cls source arg0 arg1)).sw = s.sw
    ∧ ((logFor s fn code cls source arg0 arg1)).tables = s.tables ∧ ((logFor s fn code cls source arg0 arg1)).net = s.net
    ∧ ((logFor s fn code cls source arg0 arg1)).fabric = s.fabric ∧ ((logFor s fn code cls source arg0 arg1)).qps = s.qps := by
  unfold logFor; simp

@[simp] theorem logSession_same (s : State) (x : Session) (code cls source : Nat) (arg0 arg1 : Option Nat) :
    ((logSession s x code cls source arg0 arg1)).mode = s.mode ∧ ((logSession s x code cls source arg0 arg1)).ready = s.ready
    ∧ ((logSession s x code cls source arg0 arg1)).epochCtr = s.epochCtr
    ∧ ((logSession s x code cls source arg0 arg1)).vfEnabled = s.vfEnabled
    ∧ ((logSession s x code cls source arg0 arg1)).dma = s.dma
    ∧ ((logSession s x code cls source arg0 arg1)).sessions = s.sessions
    ∧ ((logSession s x code cls source arg0 arg1)).cores = s.cores ∧ ((logSession s x code cls source arg0 arg1)).sec = s.sec
    ∧ ((logSession s x code cls source arg0 arg1)).power = s.power ∧ ((logSession s x code cls source arg0 arg1)).hbm = s.hbm
    ∧ ((logSession s x code cls source arg0 arg1)).tap = s.tap ∧ ((logSession s x code cls source arg0 arg1)).pins = s.pins
    ∧ ((logSession s x code cls source arg0 arg1)).px = s.px ∧ ((logSession s x code cls source arg0 arg1)).sw = s.sw
    ∧ ((logSession s x code cls source arg0 arg1)).tables = s.tables ∧ ((logSession s x code cls source arg0 arg1)).net = s.net
    ∧ ((logSession s x code cls source arg0 arg1)).fabric = s.fabric
    ∧ ((logSession s x code cls source arg0 arg1)).qps = s.qps := by
  unfold logSession; simp

@[simp] theorem setMode_same (s : State) (m : OpMode) :
    ((setMode s m)).epochCtr = s.epochCtr ∧ ((setMode s m)).vfEnabled = s.vfEnabled ∧ ((setMode s m)).dma = s.dma
    ∧ ((setMode s m)).sessions = s.sessions ∧ ((setMode s m)).cores = s.cores ∧ ((setMode s m)).sec = s.sec
    ∧ ((setMode s m)).power = s.power ∧ ((setMode s m)).hbm = s.hbm ∧ ((setMode s m)).tap = s.tap
    ∧ ((setMode s m)).pins = s.pins ∧ ((setMode s m)).px = s.px ∧ ((setMode s m)).sw = s.sw ∧ ((setMode s m)).tables = s.tables
    ∧ ((setMode s m)).net = s.net ∧ ((setMode s m)).qps = s.qps := by
  unfold setMode; simp

@[simp] theorem bumpEpoch_same (s : State) :
    ((bumpEpoch s)).mode = s.mode ∧ ((bumpEpoch s)).ready = s.ready ∧ ((bumpEpoch s)).vfEnabled = s.vfEnabled
    ∧ ((bumpEpoch s)).dma = s.dma ∧ ((bumpEpoch s)).sessions = s.sessions ∧ ((bumpEpoch s)).cores = s.cores
    ∧ ((bumpEpoch s)).sec = s.sec ∧ ((bumpEpoch s)).power = s.power ∧ ((bumpEpoch s)).hbm = s.hbm ∧ ((bumpEpoch s)).tap = s.tap
    ∧ ((bumpEpoch s)).pins = s.pins ∧ ((bumpEpoch s)).px = s.px ∧ ((bumpEpoch s)).sw = s.sw ∧ ((bumpEpoch s)).tables = s.tables
    ∧ ((bumpEpoch s)).net = s.net ∧ ((bumpEpoch s)).fabric = s.fabric ∧ ((bumpEpoch s)).qps = s.qps := by
  unfold bumpEpoch; simp

@[simp] theorem coreSet_same (s : State) (c : Nat) (x : CoreState) :
    ((coreSet s c x)).mode = s.mode ∧ ((coreSet s c x)).ready = s.ready ∧ ((coreSet s c x)).epochCtr = s.epochCtr
    ∧ ((coreSet s c x)).vfEnabled = s.vfEnabled ∧ ((coreSet s c x)).dma = s.dma ∧ ((coreSet s c x)).sessions = s.sessions
    ∧ ((coreSet s c x)).sec = s.sec ∧ ((coreSet s c x)).power = s.power ∧ ((coreSet s c x)).hbm = s.hbm
    ∧ ((coreSet s c x)).tap = s.tap ∧ ((coreSet s c x)).pins = s.pins ∧ ((coreSet s c x)).px = s.px
    ∧ ((coreSet s c x)).sw = s.sw ∧ ((coreSet s c x)).tables = s.tables ∧ ((coreSet s c x)).net = s.net
    ∧ ((coreSet s c x)).fabric = s.fabric ∧ ((coreSet s c x)).qps = s.qps := by
  unfold coreSet; simp

@[simp] theorem clSet_same (s : State) (k : Nat) (x : ClusterState) :
    ((clSet s k x)).mode = s.mode ∧ ((clSet s k x)).ready = s.ready ∧ ((clSet s k x)).epochCtr = s.epochCtr
    ∧ ((clSet s k x)).vfEnabled = s.vfEnabled ∧ ((clSet s k x)).dma = s.dma ∧ ((clSet s k x)).sessions = s.sessions
    ∧ ((clSet s k x)).cores = s.cores ∧ ((clSet s k x)).sec = s.sec ∧ ((clSet s k x)).power = s.power
    ∧ ((clSet s k x)).hbm = s.hbm ∧ ((clSet s k x)).tap = s.tap ∧ ((clSet s k x)).pins = s.pins ∧ ((clSet s k x)).px = s.px
    ∧ ((clSet s k x)).sw = s.sw ∧ ((clSet s k x)).tables = s.tables ∧ ((clSet s k x)).net = s.net
    ∧ ((clSet s k x)).fabric = s.fabric ∧ ((clSet s k x)).qps = s.qps := by
  unfold clSet; simp

@[simp] theorem stackSet_same (s : State) (k : Nat) (x : StackState) :
    ((stackSet s k x)).mode = s.mode ∧ ((stackSet s k x)).ready = s.ready ∧ ((stackSet s k x)).epochCtr = s.epochCtr
    ∧ ((stackSet s k x)).vfEnabled = s.vfEnabled ∧ ((stackSet s k x)).dma = s.dma ∧ ((stackSet s k x)).sessions = s.sessions
    ∧ ((stackSet s k x)).cores = s.cores ∧ ((stackSet s k x)).sec = s.sec ∧ ((stackSet s k x)).power = s.power
    ∧ ((stackSet s k x)).tap = s.tap ∧ ((stackSet s k x)).pins = s.pins ∧ ((stackSet s k x)).px = s.px
    ∧ ((stackSet s k x)).sw = s.sw ∧ ((stackSet s k x)).tables = s.tables ∧ ((stackSet s k x)).net = s.net
    ∧ ((stackSet s k x)).fabric = s.fabric ∧ ((stackSet s k x)).qps = s.qps := by
  unfold stackSet; simp

@[simp] theorem ethSet_same (s : State) (p : Nat) (x : EthPort) :
    ((ethSet s p x)).mode = s.mode ∧ ((ethSet s p x)).ready = s.ready ∧ ((ethSet s p x)).epochCtr = s.epochCtr
    ∧ ((ethSet s p x)).vfEnabled = s.vfEnabled ∧ ((ethSet s p x)).dma = s.dma ∧ ((ethSet s p x)).sessions = s.sessions
    ∧ ((ethSet s p x)).cores = s.cores ∧ ((ethSet s p x)).sec = s.sec ∧ ((ethSet s p x)).power = s.power
    ∧ ((ethSet s p x)).hbm = s.hbm ∧ ((ethSet s p x)).tap = s.tap ∧ ((ethSet s p x)).pins = s.pins ∧ ((ethSet s p x)).px = s.px
    ∧ ((ethSet s p x)).sw = s.sw ∧ ((ethSet s p x)).tables = s.tables ∧ ((ethSet s p x)).fabric = s.fabric
    ∧ ((ethSet s p x)).qps = s.qps := by
  unfold ethSet; simp

@[simp] theorem pxSet_same (s : State) (p : Nat) (x : PxPort) :
    ((pxSet s p x)).mode = s.mode ∧ ((pxSet s p x)).ready = s.ready ∧ ((pxSet s p x)).epochCtr = s.epochCtr
    ∧ ((pxSet s p x)).vfEnabled = s.vfEnabled ∧ ((pxSet s p x)).dma = s.dma ∧ ((pxSet s p x)).sessions = s.sessions
    ∧ ((pxSet s p x)).cores = s.cores ∧ ((pxSet s p x)).sec = s.sec ∧ ((pxSet s p x)).power = s.power
    ∧ ((pxSet s p x)).hbm = s.hbm ∧ ((pxSet s p x)).tap = s.tap ∧ ((pxSet s p x)).pins = s.pins ∧ ((pxSet s p x)).sw = s.sw
    ∧ ((pxSet s p x)).tables = s.tables ∧ ((pxSet s p x)).net = s.net ∧ ((pxSet s p x)).fabric = s.fabric
    ∧ ((pxSet s p x)).qps = s.qps := by
  unfold pxSet; simp

@[simp] theorem pcSet_same (s : State) (p : Nat) (x : PseudoChannel) :
    ((pcSet s p x)).mode = s.mode ∧ ((pcSet s p x)).ready = s.ready ∧ ((pcSet s p x)).epochCtr = s.epochCtr
    ∧ ((pcSet s p x)).vfEnabled = s.vfEnabled ∧ ((pcSet s p x)).dma = s.dma ∧ ((pcSet s p x)).sessions = s.sessions
    ∧ ((pcSet s p x)).cores = s.cores ∧ ((pcSet s p x)).sec = s.sec ∧ ((pcSet s p x)).power = s.power
    ∧ ((pcSet s p x)).tap = s.tap ∧ ((pcSet s p x)).pins = s.pins ∧ ((pcSet s p x)).px = s.px ∧ ((pcSet s p x)).sw = s.sw
    ∧ ((pcSet s p x)).tables = s.tables ∧ ((pcSet s p x)).net = s.net ∧ ((pcSet s p x)).fabric = s.fabric
    ∧ ((pcSet s p x)).qps = s.qps := by
  unfold pcSet; simp

@[simp] theorem larderUpdate_same (s : State) :
    ((larderUpdate s)).mode = s.mode ∧ ((larderUpdate s)).ready = s.ready ∧ ((larderUpdate s)).epochCtr = s.epochCtr
    ∧ ((larderUpdate s)).vfEnabled = s.vfEnabled ∧ ((larderUpdate s)).dma = s.dma ∧ ((larderUpdate s)).sessions = s.sessions
    ∧ ((larderUpdate s)).cores = s.cores ∧ ((larderUpdate s)).sec = s.sec ∧ ((larderUpdate s)).power = s.power
    ∧ ((larderUpdate s)).hbm = s.hbm ∧ ((larderUpdate s)).tap = s.tap ∧ ((larderUpdate s)).pins = s.pins
    ∧ ((larderUpdate s)).px = s.px ∧ ((larderUpdate s)).sw = s.sw ∧ ((larderUpdate s)).tables = s.tables
    ∧ ((larderUpdate s)).net = s.net ∧ ((larderUpdate s)).fabric = s.fabric ∧ ((larderUpdate s)).qps = s.qps := by
  unfold larderUpdate; simp

@[simp] theorem larderPublish_same (s : State) (reduced signed : Bool) :
    ((larderPublish s reduced signed)).mode = s.mode ∧ ((larderPublish s reduced signed)).ready = s.ready
    ∧ ((larderPublish s reduced signed)).epochCtr = s.epochCtr ∧ ((larderPublish s reduced signed)).vfEnabled = s.vfEnabled
    ∧ ((larderPublish s reduced signed)).dma = s.dma ∧ ((larderPublish s reduced signed)).sessions = s.sessions
    ∧ ((larderPublish s reduced signed)).cores = s.cores ∧ ((larderPublish s reduced signed)).sec = s.sec
    ∧ ((larderPublish s reduced signed)).power = s.power ∧ ((larderPublish s reduced signed)).hbm = s.hbm
    ∧ ((larderPublish s reduced signed)).tap = s.tap ∧ ((larderPublish s reduced signed)).pins = s.pins
    ∧ ((larderPublish s reduced signed)).px = s.px ∧ ((larderPublish s reduced signed)).sw = s.sw
    ∧ ((larderPublish s reduced signed)).tables = s.tables ∧ ((larderPublish s reduced signed)).net = s.net
    ∧ ((larderPublish s reduced signed)).fabric = s.fabric ∧ ((larderPublish s reduced signed)).qps = s.qps := by
  unfold larderPublish; simp

@[simp] theorem qpPut_same (s : State) (q : QueuePair) :
    ((qpPut s q)).mode = s.mode ∧ ((qpPut s q)).ready = s.ready ∧ ((qpPut s q)).epochCtr = s.epochCtr
    ∧ ((qpPut s q)).vfEnabled = s.vfEnabled ∧ ((qpPut s q)).dma = s.dma ∧ ((qpPut s q)).sessions = s.sessions
    ∧ ((qpPut s q)).cores = s.cores ∧ ((qpPut s q)).sec = s.sec ∧ ((qpPut s q)).power = s.power ∧ ((qpPut s q)).hbm = s.hbm
    ∧ ((qpPut s q)).tap = s.tap ∧ ((qpPut s q)).pins = s.pins ∧ ((qpPut s q)).px = s.px ∧ ((qpPut s q)).sw = s.sw
    ∧ ((qpPut s q)).tables = s.tables ∧ ((qpPut s q)).net = s.net ∧ ((qpPut s q)).fabric = s.fabric := by
  unfold qpPut; simp

@[simp] theorem announce_same (s : State) (q : QueuePair) (noIrq : Bool) :
    ((announce s q noIrq)).mode = s.mode ∧ ((announce s q noIrq)).ready = s.ready ∧ ((announce s q noIrq)).epochCtr = s.epochCtr
    ∧ ((announce s q noIrq)).vfEnabled = s.vfEnabled ∧ ((announce s q noIrq)).dma = s.dma
    ∧ ((announce s q noIrq)).sessions = s.sessions ∧ ((announce s q noIrq)).cores = s.cores ∧ ((announce s q noIrq)).sec = s.sec
    ∧ ((announce s q noIrq)).power = s.power ∧ ((announce s q noIrq)).hbm = s.hbm ∧ ((announce s q noIrq)).tap = s.tap
    ∧ ((announce s q noIrq)).pins = s.pins ∧ ((announce s q noIrq)).px = s.px ∧ ((announce s q noIrq)).sw = s.sw
    ∧ ((announce s q noIrq)).tables = s.tables ∧ ((announce s q noIrq)).net = s.net
    ∧ ((announce s q noIrq)).fabric = s.fabric := by
  unfold announce; simp

@[simp] theorem postCompletion_same (s : State) (q : QueuePair) (i : InFlight) (r : Reply) :
    ((postCompletion s q i r)).mode = s.mode ∧ ((postCompletion s q i r)).ready = s.ready
    ∧ ((postCompletion s q i r)).epochCtr = s.epochCtr ∧ ((postCompletion s q i r)).vfEnabled = s.vfEnabled
    ∧ ((postCompletion s q i r)).dma = s.dma ∧ ((postCompletion s q i r)).sessions = s.sessions
    ∧ ((postCompletion s q i r)).cores = s.cores ∧ ((postCompletion s q i r)).sec = s.sec
    ∧ ((postCompletion s q i r)).power = s.power ∧ ((postCompletion s q i r)).hbm = s.hbm
    ∧ ((postCompletion s q i r)).tap = s.tap ∧ ((postCompletion s q i r)).pins = s.pins ∧ ((postCompletion s q i r)).px = s.px
    ∧ ((postCompletion s q i r)).sw = s.sw ∧ ((postCompletion s q i r)).tables = s.tables
    ∧ ((postCompletion s q i r)).net = s.net ∧ ((postCompletion s q i r)).fabric = s.fabric := by
  unfold postCompletion; simp

@[simp] theorem dropDecided_same (s : State) (q : QueuePair) :
    ((dropDecided s q)).mode = s.mode ∧ ((dropDecided s q)).ready = s.ready ∧ ((dropDecided s q)).epochCtr = s.epochCtr
    ∧ ((dropDecided s q)).vfEnabled = s.vfEnabled ∧ ((dropDecided s q)).dma = s.dma ∧ ((dropDecided s q)).sessions = s.sessions
    ∧ ((dropDecided s q)).cores = s.cores ∧ ((dropDecided s q)).sec = s.sec ∧ ((dropDecided s q)).power = s.power
    ∧ ((dropDecided s q)).hbm = s.hbm ∧ ((dropDecided s q)).tap = s.tap ∧ ((dropDecided s q)).pins = s.pins
    ∧ ((dropDecided s q)).px = s.px ∧ ((dropDecided s q)).sw = s.sw ∧ ((dropDecided s q)).tables = s.tables
    ∧ ((dropDecided s q)).net = s.net ∧ ((dropDecided s q)).fabric = s.fabric := by
  unfold dropDecided; simp

@[simp] theorem removePair_same (s : State) (q : QueuePair) :
    ((removePair s q)).mode = s.mode ∧ ((removePair s q)).ready = s.ready ∧ ((removePair s q)).epochCtr = s.epochCtr
    ∧ ((removePair s q)).vfEnabled = s.vfEnabled ∧ ((removePair s q)).dma = s.dma ∧ ((removePair s q)).sessions = s.sessions
    ∧ ((removePair s q)).cores = s.cores ∧ ((removePair s q)).sec = s.sec ∧ ((removePair s q)).power = s.power
    ∧ ((removePair s q)).hbm = s.hbm ∧ ((removePair s q)).tap = s.tap ∧ ((removePair s q)).pins = s.pins
    ∧ ((removePair s q)).px = s.px ∧ ((removePair s q)).sw = s.sw ∧ ((removePair s q)).tables = s.tables
    ∧ ((removePair s q)).net = s.net ∧ ((removePair s q)).fabric = s.fabric := by
  unfold removePair; simp

@[simp] theorem decideCmd_same (s : State) (r : CmdRef) (a : Reply) :
    ((decideCmd s r a)).mode = s.mode ∧ ((decideCmd s r a)).ready = s.ready ∧ ((decideCmd s r a)).epochCtr = s.epochCtr
    ∧ ((decideCmd s r a)).vfEnabled = s.vfEnabled ∧ ((decideCmd s r a)).dma = s.dma ∧ ((decideCmd s r a)).sessions = s.sessions
    ∧ ((decideCmd s r a)).cores = s.cores ∧ ((decideCmd s r a)).sec = s.sec ∧ ((decideCmd s r a)).power = s.power
    ∧ ((decideCmd s r a)).hbm = s.hbm ∧ ((decideCmd s r a)).tap = s.tap ∧ ((decideCmd s r a)).pins = s.pins
    ∧ ((decideCmd s r a)).px = s.px ∧ ((decideCmd s r a)).sw = s.sw ∧ ((decideCmd s r a)).tables = s.tables
    ∧ ((decideCmd s r a)).net = s.net ∧ ((decideCmd s r a)).fabric = s.fabric := by
  unfold decideCmd; (repeat' split) <;> simp

@[simp] theorem postReady_same (n : Nat) (s : State) (fn qid : Nat) :
    ((postReady n s fn qid)).mode = s.mode ∧ ((postReady n s fn qid)).ready = s.ready
    ∧ ((postReady n s fn qid)).epochCtr = s.epochCtr ∧ ((postReady n s fn qid)).vfEnabled = s.vfEnabled
    ∧ ((postReady n s fn qid)).dma = s.dma ∧ ((postReady n s fn qid)).sessions = s.sessions
    ∧ ((postReady n s fn qid)).cores = s.cores ∧ ((postReady n s fn qid)).sec = s.sec ∧ ((postReady n s fn qid)).power = s.power
    ∧ ((postReady n s fn qid)).hbm = s.hbm ∧ ((postReady n s fn qid)).tap = s.tap ∧ ((postReady n s fn qid)).pins = s.pins
    ∧ ((postReady n s fn qid)).px = s.px ∧ ((postReady n s fn qid)).sw = s.sw ∧ ((postReady n s fn qid)).tables = s.tables
    ∧ ((postReady n s fn qid)).net = s.net ∧ ((postReady n s fn qid)).fabric = s.fabric := by
  induction n generalizing s fn qid with
  | zero => simp [postReady]
  | succ k ih => unfold postReady; (repeat' split) <;> simp [ih]

@[simp] theorem editFlight_same (s : State) (r : CmdRef) (f : InFlight → InFlight) :
    ((editFlight s r f)).mode = s.mode ∧ ((editFlight s r f)).ready = s.ready ∧ ((editFlight s r f)).epochCtr = s.epochCtr
    ∧ ((editFlight s r f)).vfEnabled = s.vfEnabled ∧ ((editFlight s r f)).dma = s.dma
    ∧ ((editFlight s r f)).sessions = s.sessions ∧ ((editFlight s r f)).cores = s.cores ∧ ((editFlight s r f)).sec = s.sec
    ∧ ((editFlight s r f)).power = s.power ∧ ((editFlight s r f)).hbm = s.hbm ∧ ((editFlight s r f)).tap = s.tap
    ∧ ((editFlight s r f)).pins = s.pins ∧ ((editFlight s r f)).px = s.px ∧ ((editFlight s r f)).sw = s.sw
    ∧ ((editFlight s r f)).tables = s.tables ∧ ((editFlight s r f)).net = s.net ∧ ((editFlight s r f)).fabric = s.fabric := by
  unfold editFlight; (repeat' split) <;> simp

@[simp] theorem finish_same (s : State) (r : CmdRef) (a : Reply) :
    ((finish s r a)).mode = s.mode ∧ ((finish s r a)).ready = s.ready ∧ ((finish s r a)).epochCtr = s.epochCtr
    ∧ ((finish s r a)).vfEnabled = s.vfEnabled ∧ ((finish s r a)).dma = s.dma ∧ ((finish s r a)).sessions = s.sessions
    ∧ ((finish s r a)).cores = s.cores ∧ ((finish s r a)).sec = s.sec ∧ ((finish s r a)).power = s.power
    ∧ ((finish s r a)).hbm = s.hbm ∧ ((finish s r a)).tap = s.tap ∧ ((finish s r a)).pins = s.pins ∧ ((finish s r a)).px = s.px
    ∧ ((finish s r a)).sw = s.sw ∧ ((finish s r a)).tables = s.tables ∧ ((finish s r a)).net = s.net
    ∧ ((finish s r a)).fabric = s.fabric := by
  unfold finish; simp

@[simp] theorem writeData_same (s : State) (fn : Nat) (e data : Bytes) :
    ((writeData s fn e data)).mode = s.mode ∧ ((writeData s fn e data)).ready = s.ready
    ∧ ((writeData s fn e data)).epochCtr = s.epochCtr ∧ ((writeData s fn e data)).vfEnabled = s.vfEnabled
    ∧ ((writeData s fn e data)).dma = s.dma ∧ ((writeData s fn e data)).sessions = s.sessions
    ∧ ((writeData s fn e data)).cores = s.cores ∧ ((writeData s fn e data)).sec = s.sec
    ∧ ((writeData s fn e data)).power = s.power ∧ ((writeData s fn e data)).tap = s.tap
    ∧ ((writeData s fn e data)).pins = s.pins ∧ ((writeData s fn e data)).px = s.px ∧ ((writeData s fn e data)).sw = s.sw
    ∧ ((writeData s fn e data)).tables = s.tables ∧ ((writeData s fn e data)).net = s.net
    ∧ ((writeData s fn e data)).fabric = s.fabric ∧ ((writeData s fn e data)).qps = s.qps := by
  unfold writeData; simp

@[simp] theorem canaryCount_same (s : State) (bit cls : Nat) :
    ((canaryCount s bit cls)).mode = s.mode ∧ ((canaryCount s bit cls)).ready = s.ready
    ∧ ((canaryCount s bit cls)).epochCtr = s.epochCtr ∧ ((canaryCount s bit cls)).vfEnabled = s.vfEnabled
    ∧ ((canaryCount s bit cls)).dma = s.dma ∧ ((canaryCount s bit cls)).sessions = s.sessions
    ∧ ((canaryCount s bit cls)).cores = s.cores ∧ ((canaryCount s bit cls)).sec = s.sec
    ∧ ((canaryCount s bit cls)).power = s.power ∧ ((canaryCount s bit cls)).hbm = s.hbm ∧ ((canaryCount s bit cls)).tap = s.tap
    ∧ ((canaryCount s bit cls)).pins = s.pins ∧ ((canaryCount s bit cls)).px = s.px ∧ ((canaryCount s bit cls)).sw = s.sw
    ∧ ((canaryCount s bit cls)).tables = s.tables ∧ ((canaryCount s bit cls)).net = s.net
    ∧ ((canaryCount s bit cls)).fabric = s.fabric ∧ ((canaryCount s bit cls)).qps = s.qps := by
  unfold canaryCount; simp

@[simp] theorem setDegraded_same (s : State) :
    ((setDegraded s)).mode = s.mode ∧ ((setDegraded s)).ready = s.ready ∧ ((setDegraded s)).epochCtr = s.epochCtr
    ∧ ((setDegraded s)).vfEnabled = s.vfEnabled ∧ ((setDegraded s)).dma = s.dma ∧ ((setDegraded s)).sessions = s.sessions
    ∧ ((setDegraded s)).cores = s.cores ∧ ((setDegraded s)).sec = s.sec ∧ ((setDegraded s)).power = s.power
    ∧ ((setDegraded s)).hbm = s.hbm ∧ ((setDegraded s)).tap = s.tap ∧ ((setDegraded s)).pins = s.pins
    ∧ ((setDegraded s)).px = s.px ∧ ((setDegraded s)).sw = s.sw ∧ ((setDegraded s)).tables = s.tables
    ∧ ((setDegraded s)).net = s.net ∧ ((setDegraded s)).fabric = s.fabric ∧ ((setDegraded s)).qps = s.qps := by
  unfold setDegraded; simp

@[simp] theorem recordFault_same (s : State) (bit cls : Nat) (addr : Option Nat) :
    ((recordFault s bit cls addr)).mode = s.mode ∧ ((recordFault s bit cls addr)).ready = s.ready
    ∧ ((recordFault s bit cls addr)).epochCtr = s.epochCtr ∧ ((recordFault s bit cls addr)).vfEnabled = s.vfEnabled
    ∧ ((recordFault s bit cls addr)).dma = s.dma ∧ ((recordFault s bit cls addr)).sessions = s.sessions
    ∧ ((recordFault s bit cls addr)).cores = s.cores ∧ ((recordFault s bit cls addr)).sec = s.sec
    ∧ ((recordFault s bit cls addr)).power = s.power ∧ ((recordFault s bit cls addr)).hbm = s.hbm
    ∧ ((recordFault s bit cls addr)).tap = s.tap ∧ ((recordFault s bit cls addr)).pins = s.pins
    ∧ ((recordFault s bit cls addr)).px = s.px ∧ ((recordFault s bit cls addr)).sw = s.sw
    ∧ ((recordFault s bit cls addr)).tables = s.tables ∧ ((recordFault s bit cls addr)).net = s.net
    ∧ ((recordFault s bit cls addr)).fabric = s.fabric ∧ ((recordFault s bit cls addr)).qps = s.qps := by
  unfold recordFault; simp

@[simp] theorem logFault_same (s : State) (bit cls : Nat) (addr : Option Nat) :
    ((logFault s bit cls addr)).mode = s.mode ∧ ((logFault s bit cls addr)).ready = s.ready
    ∧ ((logFault s bit cls addr)).epochCtr = s.epochCtr ∧ ((logFault s bit cls addr)).vfEnabled = s.vfEnabled
    ∧ ((logFault s bit cls addr)).dma = s.dma ∧ ((logFault s bit cls addr)).sessions = s.sessions
    ∧ ((logFault s bit cls addr)).cores = s.cores ∧ ((logFault s bit cls addr)).sec = s.sec
    ∧ ((logFault s bit cls addr)).power = s.power ∧ ((logFault s bit cls addr)).hbm = s.hbm
    ∧ ((logFault s bit cls addr)).tap = s.tap ∧ ((logFault s bit cls addr)).pins = s.pins
    ∧ ((logFault s bit cls addr)).px = s.px ∧ ((logFault s bit cls addr)).sw = s.sw
    ∧ ((logFault s bit cls addr)).tables = s.tables ∧ ((logFault s bit cls addr)).net = s.net
    ∧ ((logFault s bit cls addr)).fabric = s.fabric ∧ ((logFault s bit cls addr)).qps = s.qps := by
  unfold logFault; simp

@[simp] theorem escalate_same (s : State) (key : Nat) :
    ((escalate s key).2).mode = s.mode ∧ ((escalate s key).2).ready = s.ready ∧ ((escalate s key).2).epochCtr = s.epochCtr
    ∧ ((escalate s key).2).vfEnabled = s.vfEnabled ∧ ((escalate s key).2).dma = s.dma
    ∧ ((escalate s key).2).sessions = s.sessions ∧ ((escalate s key).2).cores = s.cores ∧ ((escalate s key).2).sec = s.sec
    ∧ ((escalate s key).2).power = s.power ∧ ((escalate s key).2).hbm = s.hbm ∧ ((escalate s key).2).tap = s.tap
    ∧ ((escalate s key).2).pins = s.pins ∧ ((escalate s key).2).px = s.px ∧ ((escalate s key).2).sw = s.sw
    ∧ ((escalate s key).2).tables = s.tables ∧ ((escalate s key).2).net = s.net ∧ ((escalate s key).2).fabric = s.fabric
    ∧ ((escalate s key).2).qps = s.qps := by
  unfold escalate; dsimp only; (repeat' apply And.intro) <;> (first | rfl | simp | (repeat' split) <;> simp)

@[simp] theorem collect_same (s : State) (bit unit cls : Nat) (addr : Option Nat) :
    ((collect s bit unit cls addr).2).mode = s.mode ∧ ((collect s bit unit cls addr).2).ready = s.ready
    ∧ ((collect s bit unit cls addr).2).epochCtr = s.epochCtr ∧ ((collect s bit unit cls addr).2).vfEnabled = s.vfEnabled
    ∧ ((collect s bit unit cls addr).2).dma = s.dma ∧ ((collect s bit unit cls addr).2).sessions = s.sessions
    ∧ ((collect s bit unit cls addr).2).cores = s.cores ∧ ((collect s bit unit cls addr).2).sec = s.sec
    ∧ ((collect s bit unit cls addr).2).power = s.power ∧ ((collect s bit unit cls addr).2).hbm = s.hbm
    ∧ ((collect s bit unit cls addr).2).tap = s.tap ∧ ((collect s bit unit cls addr).2).pins = s.pins
    ∧ ((collect s bit unit cls addr).2).px = s.px ∧ ((collect s bit unit cls addr).2).sw = s.sw
    ∧ ((collect s bit unit cls addr).2).tables = s.tables ∧ ((collect s bit unit cls addr).2).net = s.net
    ∧ ((collect s bit unit cls addr).2).fabric = s.fabric ∧ ((collect s bit unit cls addr).2).qps = s.qps := by
  unfold collect; grind [recordFault_same, escalate_same]

@[simp] theorem uncorrectable_same (s : State) (a : Nat) :
    ((uncorrectable s a)).mode = s.mode ∧ ((uncorrectable s a)).ready = s.ready ∧ ((uncorrectable s a)).epochCtr = s.epochCtr
    ∧ ((uncorrectable s a)).vfEnabled = s.vfEnabled ∧ ((uncorrectable s a)).dma = s.dma
    ∧ ((uncorrectable s a)).sessions = s.sessions ∧ ((uncorrectable s a)).cores = s.cores ∧ ((uncorrectable s a)).sec = s.sec
    ∧ ((uncorrectable s a)).power = s.power ∧ ((uncorrectable s a)).tap = s.tap ∧ ((uncorrectable s a)).pins = s.pins
    ∧ ((uncorrectable s a)).px = s.px ∧ ((uncorrectable s a)).sw = s.sw ∧ ((uncorrectable s a)).tables = s.tables
    ∧ ((uncorrectable s a)).net = s.net ∧ ((uncorrectable s a)).fabric = s.fabric ∧ ((uncorrectable s a)).qps = s.qps := by
  unfold uncorrectable; simp

@[simp] theorem releaseBuffers_same (s : State) (fn : Nat) (l : List OutBuffer) :
    ((releaseBuffers s fn l)).mode = s.mode ∧ ((releaseBuffers s fn l)).ready = s.ready
    ∧ ((releaseBuffers s fn l)).epochCtr = s.epochCtr ∧ ((releaseBuffers s fn l)).vfEnabled = s.vfEnabled
    ∧ ((releaseBuffers s fn l)).dma = s.dma ∧ ((releaseBuffers s fn l)).sessions = s.sessions
    ∧ ((releaseBuffers s fn l)).cores = s.cores ∧ ((releaseBuffers s fn l)).sec = s.sec
    ∧ ((releaseBuffers s fn l)).power = s.power ∧ ((releaseBuffers s fn l)).tap = s.tap
    ∧ ((releaseBuffers s fn l)).pins = s.pins ∧ ((releaseBuffers s fn l)).px = s.px ∧ ((releaseBuffers s fn l)).sw = s.sw
    ∧ ((releaseBuffers s fn l)).tables = s.tables ∧ ((releaseBuffers s fn l)).net = s.net
    ∧ ((releaseBuffers s fn l)).fabric = s.fabric := by
  unfold releaseBuffers; simp

@[simp] theorem dropWork_same (s : State) (id : Nat) :
    ((dropWork s id)).mode = s.mode ∧ ((dropWork s id)).ready = s.ready ∧ ((dropWork s id)).epochCtr = s.epochCtr
    ∧ ((dropWork s id)).vfEnabled = s.vfEnabled ∧ ((dropWork s id)).dma = s.dma ∧ ((dropWork s id)).sessions = s.sessions
    ∧ ((dropWork s id)).sec = s.sec ∧ ((dropWork s id)).power = s.power ∧ ((dropWork s id)).hbm = s.hbm
    ∧ ((dropWork s id)).tap = s.tap ∧ ((dropWork s id)).pins = s.pins ∧ ((dropWork s id)).px = s.px
    ∧ ((dropWork s id)).sw = s.sw ∧ ((dropWork s id)).tables = s.tables ∧ ((dropWork s id)).net = s.net
    ∧ ((dropWork s id)).fabric = s.fabric ∧ ((dropWork s id)).qps = s.qps := by
  unfold dropWork; simp

@[simp] theorem reachStopped_same (s : State) (x : Session) :
    ((reachStopped s x)).mode = s.mode ∧ ((reachStopped s x)).ready = s.ready ∧ ((reachStopped s x)).epochCtr = s.epochCtr
    ∧ ((reachStopped s x)).vfEnabled = s.vfEnabled ∧ ((reachStopped s x)).dma = s.dma ∧ ((reachStopped s x)).sec = s.sec
    ∧ ((reachStopped s x)).power = s.power ∧ ((reachStopped s x)).tap = s.tap ∧ ((reachStopped s x)).pins = s.pins
    ∧ ((reachStopped s x)).px = s.px ∧ ((reachStopped s x)).sw = s.sw ∧ ((reachStopped s x)).tables = s.tables
    ∧ ((reachStopped s x)).net = s.net ∧ ((reachStopped s x)).fabric = s.fabric := by
  unfold reachStopped; simp

@[simp] theorem stopNow_same (s : State) (x : Session) :
    ((stopNow s x)).mode = s.mode ∧ ((stopNow s x)).ready = s.ready ∧ ((stopNow s x)).epochCtr = s.epochCtr
    ∧ ((stopNow s x)).vfEnabled = s.vfEnabled ∧ ((stopNow s x)).dma = s.dma ∧ ((stopNow s x)).sec = s.sec
    ∧ ((stopNow s x)).power = s.power ∧ ((stopNow s x)).tap = s.tap ∧ ((stopNow s x)).pins = s.pins ∧ ((stopNow s x)).px = s.px
    ∧ ((stopNow s x)).sw = s.sw ∧ ((stopNow s x)).tables = s.tables ∧ ((stopNow s x)).net = s.net
    ∧ ((stopNow s x)).fabric = s.fabric := by
  unfold stopNow; simp

@[simp] theorem destroySession_same (s : State) (x : Session) :
    ((destroySession s x)).mode = s.mode ∧ ((destroySession s x)).ready = s.ready ∧ ((destroySession s x)).epochCtr = s.epochCtr
    ∧ ((destroySession s x)).vfEnabled = s.vfEnabled ∧ ((destroySession s x)).dma = s.dma ∧ ((destroySession s x)).sec = s.sec
    ∧ ((destroySession s x)).power = s.power ∧ ((destroySession s x)).tap = s.tap ∧ ((destroySession s x)).pins = s.pins
    ∧ ((destroySession s x)).px = s.px ∧ ((destroySession s x)).sw = s.sw ∧ ((destroySession s x)).tables = s.tables
    ∧ ((destroySession s x)).fabric = s.fabric ∧ ((destroySession s x)).qps = s.qps := by
  unfold destroySession; simp

@[simp] theorem stopAndDestroy_same (s : State) (x : Session) :
    ((stopAndDestroy s x)).mode = s.mode ∧ ((stopAndDestroy s x)).ready = s.ready ∧ ((stopAndDestroy s x)).epochCtr = s.epochCtr
    ∧ ((stopAndDestroy s x)).vfEnabled = s.vfEnabled ∧ ((stopAndDestroy s x)).dma = s.dma ∧ ((stopAndDestroy s x)).sec = s.sec
    ∧ ((stopAndDestroy s x)).power = s.power ∧ ((stopAndDestroy s x)).tap = s.tap ∧ ((stopAndDestroy s x)).pins = s.pins
    ∧ ((stopAndDestroy s x)).px = s.px ∧ ((stopAndDestroy s x)).sw = s.sw ∧ ((stopAndDestroy s x)).tables = s.tables
    ∧ ((stopAndDestroy s x)).fabric = s.fabric := by
  unfold stopAndDestroy; simp

@[simp] theorem stopAll_same (s : State) :
    ((stopAll s)).mode = s.mode ∧ ((stopAll s)).ready = s.ready ∧ ((stopAll s)).epochCtr = s.epochCtr
    ∧ ((stopAll s)).vfEnabled = s.vfEnabled ∧ ((stopAll s)).dma = s.dma ∧ ((stopAll s)).sec = s.sec
    ∧ ((stopAll s)).power = s.power ∧ ((stopAll s)).tap = s.tap ∧ ((stopAll s)).pins = s.pins ∧ ((stopAll s)).px = s.px
    ∧ ((stopAll s)).sw = s.sw ∧ ((stopAll s)).tables = s.tables ∧ ((stopAll s)).fabric = s.fabric := by
  unfold stopAll; simp

@[simp] theorem destroyAll_same (s : State) :
    ((destroyAll s)).mode = s.mode ∧ ((destroyAll s)).ready = s.ready ∧ ((destroyAll s)).epochCtr = s.epochCtr
    ∧ ((destroyAll s)).vfEnabled = s.vfEnabled ∧ ((destroyAll s)).dma = s.dma ∧ ((destroyAll s)).sec = s.sec
    ∧ ((destroyAll s)).power = s.power ∧ ((destroyAll s)).tap = s.tap ∧ ((destroyAll s)).pins = s.pins
    ∧ ((destroyAll s)).px = s.px ∧ ((destroyAll s)).sw = s.sw ∧ ((destroyAll s)).tables = s.tables
    ∧ ((destroyAll s)).fabric = s.fabric ∧ ((destroyAll s)).qps = s.qps := by
  unfold destroyAll; simp

@[simp] theorem sendClp_same (s : State) (kind dest : Nat) (fields : List Nat) :
    ((sendClp s kind dest fields)).mode = s.mode ∧ ((sendClp s kind dest fields)).ready = s.ready
    ∧ ((sendClp s kind dest fields)).epochCtr = s.epochCtr ∧ ((sendClp s kind dest fields)).vfEnabled = s.vfEnabled
    ∧ ((sendClp s kind dest fields)).dma = s.dma ∧ ((sendClp s kind dest fields)).sessions = s.sessions
    ∧ ((sendClp s kind dest fields)).cores = s.cores ∧ ((sendClp s kind dest fields)).sec = s.sec
    ∧ ((sendClp s kind dest fields)).power = s.power ∧ ((sendClp s kind dest fields)).hbm = s.hbm
    ∧ ((sendClp s kind dest fields)).tap = s.tap ∧ ((sendClp s kind dest fields)).pins = s.pins
    ∧ ((sendClp s kind dest fields)).px = s.px ∧ ((sendClp s kind dest fields)).sw = s.sw
    ∧ ((sendClp s kind dest fields)).tables = s.tables ∧ ((sendClp s kind dest fields)).net = s.net
    ∧ ((sendClp s kind dest fields)).qps = s.qps := by
  unfold sendClp; simp

@[simp] theorem fenceSelf_same (s : State) (x : Session) :
    ((fenceSelf s x)).mode = s.mode ∧ ((fenceSelf s x)).ready = s.ready ∧ ((fenceSelf s x)).epochCtr = s.epochCtr
    ∧ ((fenceSelf s x)).vfEnabled = s.vfEnabled ∧ ((fenceSelf s x)).dma = s.dma ∧ ((fenceSelf s x)).sessions = s.sessions
    ∧ ((fenceSelf s x)).cores = s.cores ∧ ((fenceSelf s x)).sec = s.sec ∧ ((fenceSelf s x)).power = s.power
    ∧ ((fenceSelf s x)).hbm = s.hbm ∧ ((fenceSelf s x)).tap = s.tap ∧ ((fenceSelf s x)).pins = s.pins
    ∧ ((fenceSelf s x)).px = s.px ∧ ((fenceSelf s x)).sw = s.sw ∧ ((fenceSelf s x)).tables = s.tables
    ∧ ((fenceSelf s x)).net = s.net ∧ ((fenceSelf s x)).qps = s.qps := by
  unfold fenceSelf; simp

@[simp] theorem enterResync_same (s : State) (x : Session) :
    ((enterResync s x)).mode = s.mode ∧ ((enterResync s x)).ready = s.ready ∧ ((enterResync s x)).epochCtr = s.epochCtr
    ∧ ((enterResync s x)).vfEnabled = s.vfEnabled ∧ ((enterResync s x)).dma = s.dma ∧ ((enterResync s x)).sec = s.sec
    ∧ ((enterResync s x)).power = s.power ∧ ((enterResync s x)).hbm = s.hbm ∧ ((enterResync s x)).tap = s.tap
    ∧ ((enterResync s x)).pins = s.pins ∧ ((enterResync s x)).px = s.px ∧ ((enterResync s x)).sw = s.sw
    ∧ ((enterResync s x)).tables = s.tables ∧ ((enterResync s x)).net = s.net := by
  unfold enterResync; (repeat' split) <;> simp

@[simp] theorem resyncWhere_same (s : State) (p : Session → Bool) :
    ((resyncWhere s p)).mode = s.mode ∧ ((resyncWhere s p)).ready = s.ready ∧ ((resyncWhere s p)).epochCtr = s.epochCtr
    ∧ ((resyncWhere s p)).vfEnabled = s.vfEnabled ∧ ((resyncWhere s p)).dma = s.dma ∧ ((resyncWhere s p)).sec = s.sec
    ∧ ((resyncWhere s p)).power = s.power ∧ ((resyncWhere s p)).hbm = s.hbm ∧ ((resyncWhere s p)).tap = s.tap
    ∧ ((resyncWhere s p)).pins = s.pins ∧ ((resyncWhere s p)).px = s.px ∧ ((resyncWhere s p)).sw = s.sw
    ∧ ((resyncWhere s p)).tables = s.tables ∧ ((resyncWhere s p)).net = s.net := by
  unfold resyncWhere; simp

@[simp] theorem zeroize_same (s : State) :
    ((zeroize s)).mode = s.mode ∧ ((zeroize s)).ready = s.ready ∧ ((zeroize s)).epochCtr = s.epochCtr
    ∧ ((zeroize s)).vfEnabled = s.vfEnabled ∧ ((zeroize s)).dma = s.dma ∧ ((zeroize s)).cores = s.cores
    ∧ ((zeroize s)).power = s.power ∧ ((zeroize s)).hbm = s.hbm ∧ ((zeroize s)).tap = s.tap ∧ ((zeroize s)).pins = s.pins
    ∧ ((zeroize s)).px = s.px ∧ ((zeroize s)).sw = s.sw ∧ ((zeroize s)).tables = s.tables ∧ ((zeroize s)).fabric = s.fabric
    ∧ ((zeroize s)).qps = s.qps := by
  unfold zeroize; simp

@[simp] theorem keyLost_same (s : State) (p : Session → Bool) :
    ((keyLost s p)).mode = s.mode ∧ ((keyLost s p)).ready = s.ready ∧ ((keyLost s p)).epochCtr = s.epochCtr
    ∧ ((keyLost s p)).vfEnabled = s.vfEnabled ∧ ((keyLost s p)).dma = s.dma ∧ ((keyLost s p)).sec = s.sec
    ∧ ((keyLost s p)).power = s.power ∧ ((keyLost s p)).hbm = s.hbm ∧ ((keyLost s p)).tap = s.tap
    ∧ ((keyLost s p)).pins = s.pins ∧ ((keyLost s p)).px = s.px ∧ ((keyLost s p)).sw = s.sw ∧ ((keyLost s p)).tables = s.tables
    ∧ ((keyLost s p)).net = s.net := by
  unfold keyLost; (repeat' split) <;> simp (disch := first | assumption | (intros; (repeat' split) <;> simp [*]; done))

@[simp] theorem lockdown_same (s : State) :
    ((lockdown s)).epochCtr = s.epochCtr ∧ ((lockdown s)).vfEnabled = s.vfEnabled ∧ ((lockdown s)).dma = s.dma
    ∧ ((lockdown s)).power = s.power ∧ ((lockdown s)).px = s.px ∧ ((lockdown s)).sw = s.sw ∧ ((lockdown s)).tables = s.tables
    ∧ ((lockdown s)).fabric = s.fabric ∧ ((lockdown s)).qps = s.qps := by
  unfold lockdown; simp

@[simp] theorem class5_same (s : State) (bit : Nat) :
    ((class5 s bit)).epochCtr = s.epochCtr ∧ ((class5 s bit)).vfEnabled = s.vfEnabled ∧ ((class5 s bit)).dma = s.dma
    ∧ ((class5 s bit)).power = s.power ∧ ((class5 s bit)).px = s.px ∧ ((class5 s bit)).sw = s.sw
    ∧ ((class5 s bit)).tables = s.tables ∧ ((class5 s bit)).fabric = s.fabric ∧ ((class5 s bit)).qps = s.qps := by
  unfold class5; simp

@[simp] theorem sendAcked_same (s : State) (kind dest : Nat) (fields : List Nat) :
    ((sendAcked s kind dest fields)).mode = s.mode ∧ ((sendAcked s kind dest fields)).ready = s.ready
    ∧ ((sendAcked s kind dest fields)).epochCtr = s.epochCtr ∧ ((sendAcked s kind dest fields)).vfEnabled = s.vfEnabled
    ∧ ((sendAcked s kind dest fields)).dma = s.dma ∧ ((sendAcked s kind dest fields)).sessions = s.sessions
    ∧ ((sendAcked s kind dest fields)).cores = s.cores ∧ ((sendAcked s kind dest fields)).sec = s.sec
    ∧ ((sendAcked s kind dest fields)).power = s.power ∧ ((sendAcked s kind dest fields)).hbm = s.hbm
    ∧ ((sendAcked s kind dest fields)).tap = s.tap ∧ ((sendAcked s kind dest fields)).pins = s.pins
    ∧ ((sendAcked s kind dest fields)).px = s.px ∧ ((sendAcked s kind dest fields)).sw = s.sw
    ∧ ((sendAcked s kind dest fields)).tables = s.tables ∧ ((sendAcked s kind dest fields)).net = s.net
    ∧ ((sendAcked s kind dest fields)).qps = s.qps := by
  unfold sendAcked; simp

@[simp] theorem leaveFabric_same (s : State) :
    ((leaveFabric s)).epochCtr = s.epochCtr ∧ ((leaveFabric s)).vfEnabled = s.vfEnabled ∧ ((leaveFabric s)).dma = s.dma
    ∧ ((leaveFabric s)).sec = s.sec ∧ ((leaveFabric s)).power = s.power ∧ ((leaveFabric s)).tap = s.tap
    ∧ ((leaveFabric s)).pins = s.pins ∧ ((leaveFabric s)).px = s.px ∧ ((leaveFabric s)).sw = s.sw
    ∧ ((leaveFabric s)).tables = s.tables := by
  unfold leaveFabric; simp

@[simp] theorem class4_same (s : State) :
    ((class4 s)).epochCtr = s.epochCtr ∧ ((class4 s)).vfEnabled = s.vfEnabled ∧ ((class4 s)).dma = s.dma
    ∧ ((class4 s)).sec = s.sec ∧ ((class4 s)).power = s.power ∧ ((class4 s)).tap = s.tap ∧ ((class4 s)).pins = s.pins
    ∧ ((class4 s)).px = s.px ∧ ((class4 s)).sw = s.sw ∧ ((class4 s)).tables = s.tables := by
  unfold class4; simp

@[simp] theorem setServices_same (s : State) :
    ((setServices s)).mode = s.mode ∧ ((setServices s)).ready = s.ready ∧ ((setServices s)).epochCtr = s.epochCtr
    ∧ ((setServices s)).vfEnabled = s.vfEnabled ∧ ((setServices s)).dma = s.dma ∧ ((setServices s)).sessions = s.sessions
    ∧ ((setServices s)).cores = s.cores ∧ ((setServices s)).power = s.power ∧ ((setServices s)).hbm = s.hbm
    ∧ ((setServices s)).tap = s.tap ∧ ((setServices s)).pins = s.pins ∧ ((setServices s)).px = s.px
    ∧ ((setServices s)).sw = s.sw ∧ ((setServices s)).tables = s.tables ∧ ((setServices s)).net = s.net
    ∧ ((setServices s)).fabric = s.fabric ∧ ((setServices s)).qps = s.qps := by
  unfold setServices; simp

@[simp] theorem unitFence_same (s : State) (u : FenceUnit) (on : Bool) :
    ((unitFence s u on)).mode = s.mode ∧ ((unitFence s u on)).ready = s.ready ∧ ((unitFence s u on)).epochCtr = s.epochCtr
    ∧ ((unitFence s u on)).vfEnabled = s.vfEnabled ∧ ((unitFence s u on)).dma = s.dma
    ∧ ((unitFence s u on)).sessions = s.sessions ∧ ((unitFence s u on)).sec = s.sec ∧ ((unitFence s u on)).power = s.power
    ∧ ((unitFence s u on)).hbm = s.hbm ∧ ((unitFence s u on)).tap = s.tap ∧ ((unitFence s u on)).pins = s.pins
    ∧ ((unitFence s u on)).sw = s.sw ∧ ((unitFence s u on)).tables = s.tables ∧ ((unitFence s u on)).fabric = s.fabric
    ∧ ((unitFence s u on)).qps = s.qps := by
  unfold unitFence; (repeat' split) <;> simp

@[simp] theorem loseUnit_same (s : State) (u : FenceUnit) :
    ((loseUnit s u)).mode = s.mode ∧ ((loseUnit s u)).ready = s.ready ∧ ((loseUnit s u)).epochCtr = s.epochCtr
    ∧ ((loseUnit s u)).vfEnabled = s.vfEnabled ∧ ((loseUnit s u)).dma = s.dma ∧ ((loseUnit s u)).sessions = s.sessions
    ∧ ((loseUnit s u)).sec = s.sec ∧ ((loseUnit s u)).power = s.power ∧ ((loseUnit s u)).hbm = s.hbm
    ∧ ((loseUnit s u)).tap = s.tap ∧ ((loseUnit s u)).pins = s.pins ∧ ((loseUnit s u)).sw = s.sw
    ∧ ((loseUnit s u)).tables = s.tables ∧ ((loseUnit s u)).fabric = s.fabric ∧ ((loseUnit s u)).qps = s.qps := by
  unfold loseUnit; (repeat' split) <;> simp

@[simp] theorem orderFence_same (s : State) (u : FenceUnit) :
    ((orderFence s u)).mode = s.mode ∧ ((orderFence s u)).ready = s.ready ∧ ((orderFence s u)).epochCtr = s.epochCtr
    ∧ ((orderFence s u)).vfEnabled = s.vfEnabled ∧ ((orderFence s u)).dma = s.dma ∧ ((orderFence s u)).sessions = s.sessions
    ∧ ((orderFence s u)).cores = s.cores ∧ ((orderFence s u)).sec = s.sec ∧ ((orderFence s u)).power = s.power
    ∧ ((orderFence s u)).hbm = s.hbm ∧ ((orderFence s u)).tap = s.tap ∧ ((orderFence s u)).pins = s.pins
    ∧ ((orderFence s u)).px = s.px ∧ ((orderFence s u)).sw = s.sw ∧ ((orderFence s u)).tables = s.tables
    ∧ ((orderFence s u)).net = s.net ∧ ((orderFence s u)).fabric = s.fabric ∧ ((orderFence s u)).qps = s.qps := by
  unfold orderFence; simp

@[simp] theorem ethDown_same (s : State) (p : Nat) :
    ((ethDown s p)).mode = s.mode ∧ ((ethDown s p)).ready = s.ready ∧ ((ethDown s p)).epochCtr = s.epochCtr
    ∧ ((ethDown s p)).vfEnabled = s.vfEnabled ∧ ((ethDown s p)).dma = s.dma ∧ ((ethDown s p)).sessions = s.sessions
    ∧ ((ethDown s p)).cores = s.cores ∧ ((ethDown s p)).sec = s.sec ∧ ((ethDown s p)).power = s.power
    ∧ ((ethDown s p)).hbm = s.hbm ∧ ((ethDown s p)).tap = s.tap ∧ ((ethDown s p)).pins = s.pins ∧ ((ethDown s p)).px = s.px
    ∧ ((ethDown s p)).sw = s.sw ∧ ((ethDown s p)).tables = s.tables ∧ ((ethDown s p)).fabric = s.fabric
    ∧ ((ethDown s p)).qps = s.qps := by
  unfold ethDown; simp

@[simp] theorem endRotation_same (s : State) (k : Nat) :
    ((endRotation s k)).mode = s.mode ∧ ((endRotation s k)).ready = s.ready ∧ ((endRotation s k)).epochCtr = s.epochCtr
    ∧ ((endRotation s k)).vfEnabled = s.vfEnabled ∧ ((endRotation s k)).dma = s.dma ∧ ((endRotation s k)).sessions = s.sessions
    ∧ ((endRotation s k)).cores = s.cores ∧ ((endRotation s k)).sec = s.sec ∧ ((endRotation s k)).power = s.power
    ∧ ((endRotation s k)).hbm = s.hbm ∧ ((endRotation s k)).tap = s.tap ∧ ((endRotation s k)).pins = s.pins
    ∧ ((endRotation s k)).px = s.px ∧ ((endRotation s k)).sw = s.sw ∧ ((endRotation s k)).tables = s.tables
    ∧ ((endRotation s k)).net = s.net ∧ ((endRotation s k)).fabric = s.fabric ∧ ((endRotation s k)).qps = s.qps := by
  unfold endRotation; simp

@[simp] theorem stopCore_same (s : State) (c : Nat) :
    ((stopCore s c)).mode = s.mode ∧ ((stopCore s c)).ready = s.ready ∧ ((stopCore s c)).epochCtr = s.epochCtr
    ∧ ((stopCore s c)).vfEnabled = s.vfEnabled ∧ ((stopCore s c)).dma = s.dma ∧ ((stopCore s c)).sessions = s.sessions
    ∧ ((stopCore s c)).sec = s.sec ∧ ((stopCore s c)).power = s.power ∧ ((stopCore s c)).hbm = s.hbm
    ∧ ((stopCore s c)).tap = s.tap ∧ ((stopCore s c)).pins = s.pins ∧ ((stopCore s c)).px = s.px ∧ ((stopCore s c)).sw = s.sw
    ∧ ((stopCore s c)).tables = s.tables ∧ ((stopCore s c)).net = s.net ∧ ((stopCore s c)).fabric = s.fabric
    ∧ ((stopCore s c)).qps = s.qps := by
  unfold stopCore; simp

@[simp] theorem coreFault_same (s : State) (c cls : Nat) (addr : Option Nat) :
    ((coreFault s c cls addr).2).mode = s.mode ∧ ((coreFault s c cls addr).2).ready = s.ready
    ∧ ((coreFault s c cls addr).2).epochCtr = s.epochCtr ∧ ((coreFault s c cls addr).2).vfEnabled = s.vfEnabled
    ∧ ((coreFault s c cls addr).2).dma = s.dma ∧ ((coreFault s c cls addr).2).sessions = s.sessions
    ∧ ((coreFault s c cls addr).2).sec = s.sec ∧ ((coreFault s c cls addr).2).power = s.power
    ∧ ((coreFault s c cls addr).2).hbm = s.hbm ∧ ((coreFault s c cls addr).2).tap = s.tap
    ∧ ((coreFault s c cls addr).2).pins = s.pins ∧ ((coreFault s c cls addr).2).px = s.px
    ∧ ((coreFault s c cls addr).2).sw = s.sw ∧ ((coreFault s c cls addr).2).tables = s.tables
    ∧ ((coreFault s c cls addr).2).net = s.net ∧ ((coreFault s c cls addr).2).fabric = s.fabric
    ∧ ((coreFault s c cls addr).2).qps = s.qps := by
  unfold coreFault; grind [logFault_same, collect_same, endRotation_same, stopCore_same]

@[simp] theorem markStarted_same (s : State) (r : CmdRef) :
    ((markStarted s r)).mode = s.mode ∧ ((markStarted s r)).ready = s.ready ∧ ((markStarted s r)).epochCtr = s.epochCtr
    ∧ ((markStarted s r)).vfEnabled = s.vfEnabled ∧ ((markStarted s r)).dma = s.dma ∧ ((markStarted s r)).sessions = s.sessions
    ∧ ((markStarted s r)).cores = s.cores ∧ ((markStarted s r)).sec = s.sec ∧ ((markStarted s r)).power = s.power
    ∧ ((markStarted s r)).hbm = s.hbm ∧ ((markStarted s r)).tap = s.tap ∧ ((markStarted s r)).pins = s.pins
    ∧ ((markStarted s r)).px = s.px ∧ ((markStarted s r)).sw = s.sw ∧ ((markStarted s r)).tables = s.tables
    ∧ ((markStarted s r)).net = s.net ∧ ((markStarted s r)).fabric = s.fabric := by
  unfold markStarted; simp

@[simp] theorem succeed_same (s : State) (r : CmdRef) (result : Nat) :
    ((succeed s r result)).mode = s.mode ∧ ((succeed s r result)).ready = s.ready ∧ ((succeed s r result)).epochCtr = s.epochCtr
    ∧ ((succeed s r result)).vfEnabled = s.vfEnabled ∧ ((succeed s r result)).dma = s.dma
    ∧ ((succeed s r result)).sessions = s.sessions ∧ ((succeed s r result)).cores = s.cores ∧ ((succeed s r result)).sec = s.sec
    ∧ ((succeed s r result)).power = s.power ∧ ((succeed s r result)).hbm = s.hbm ∧ ((succeed s r result)).tap = s.tap
    ∧ ((succeed s r result)).pins = s.pins ∧ ((succeed s r result)).px = s.px ∧ ((succeed s r result)).sw = s.sw
    ∧ ((succeed s r result)).tables = s.tables ∧ ((succeed s r result)).net = s.net
    ∧ ((succeed s r result)).fabric = s.fabric := by
  unfold succeed; simp

@[simp] theorem configured_same (s : State) (r : CmdRef) (result : Nat) :
    ((configured s r result)).mode = s.mode ∧ ((configured s r result)).ready = s.ready
    ∧ ((configured s r result)).vfEnabled = s.vfEnabled ∧ ((configured s r result)).dma = s.dma
    ∧ ((configured s r result)).sessions = s.sessions ∧ ((configured s r result)).cores = s.cores
    ∧ ((configured s r result)).sec = s.sec ∧ ((configured s r result)).power = s.power ∧ ((configured s r result)).hbm = s.hbm
    ∧ ((configured s r result)).tap = s.tap ∧ ((configured s r result)).pins = s.pins ∧ ((configured s r result)).px = s.px
    ∧ ((configured s r result)).sw = s.sw ∧ ((configured s r result)).tables = s.tables ∧ ((configured s r result)).net = s.net
    ∧ ((configured s r result)).fabric = s.fabric := by
  unfold configured; simp

@[simp] theorem approve_same (s : State) (r : CmdRef) (result : Nat) :
    ((approve s r result)).mode = s.mode ∧ ((approve s r result)).ready = s.ready ∧ ((approve s r result)).epochCtr = s.epochCtr
    ∧ ((approve s r result)).vfEnabled = s.vfEnabled ∧ ((approve s r result)).dma = s.dma
    ∧ ((approve s r result)).sessions = s.sessions ∧ ((approve s r result)).cores = s.cores ∧ ((approve s r result)).sec = s.sec
    ∧ ((approve s r result)).power = s.power ∧ ((approve s r result)).hbm = s.hbm ∧ ((approve s r result)).tap = s.tap
    ∧ ((approve s r result)).pins = s.pins ∧ ((approve s r result)).px = s.px ∧ ((approve s r result)).sw = s.sw
    ∧ ((approve s r result)).tables = s.tables ∧ ((approve s r result)).net = s.net
    ∧ ((approve s r result)).fabric = s.fabric := by
  unfold approve; simp

@[simp] theorem forgetUnused_same (s : State) (fn qid : Nat) :
    ((forgetUnused s fn qid)).mode = s.mode ∧ ((forgetUnused s fn qid)).ready = s.ready
    ∧ ((forgetUnused s fn qid)).epochCtr = s.epochCtr ∧ ((forgetUnused s fn qid)).vfEnabled = s.vfEnabled
    ∧ ((forgetUnused s fn qid)).dma = s.dma ∧ ((forgetUnused s fn qid)).cores = s.cores ∧ ((forgetUnused s fn qid)).sec = s.sec
    ∧ ((forgetUnused s fn qid)).power = s.power ∧ ((forgetUnused s fn qid)).hbm = s.hbm ∧ ((forgetUnused s fn qid)).tap = s.tap
    ∧ ((forgetUnused s fn qid)).pins = s.pins ∧ ((forgetUnused s fn qid)).px = s.px ∧ ((forgetUnused s fn qid)).sw = s.sw
    ∧ ((forgetUnused s fn qid)).tables = s.tables ∧ ((forgetUnused s fn qid)).net = s.net
    ∧ ((forgetUnused s fn qid)).fabric = s.fabric ∧ ((forgetUnused s fn qid)).qps = s.qps := by
  unfold forgetUnused; simp

@[simp] theorem deletePair_same (s : State) (q : QueuePair) (d : Option CmdRef) :
    ((deletePair s q d)).mode = s.mode ∧ ((deletePair s q d)).ready = s.ready ∧ ((deletePair s q d)).epochCtr = s.epochCtr
    ∧ ((deletePair s q d)).vfEnabled = s.vfEnabled ∧ ((deletePair s q d)).dma = s.dma ∧ ((deletePair s q d)).cores = s.cores
    ∧ ((deletePair s q d)).sec = s.sec ∧ ((deletePair s q d)).power = s.power ∧ ((deletePair s q d)).hbm = s.hbm
    ∧ ((deletePair s q d)).tap = s.tap ∧ ((deletePair s q d)).pins = s.pins ∧ ((deletePair s q d)).px = s.px
    ∧ ((deletePair s q d)).sw = s.sw ∧ ((deletePair s q d)).tables = s.tables ∧ ((deletePair s q d)).net = s.net
    ∧ ((deletePair s q d)).fabric = s.fabric := by
  unfold deletePair; simp

@[simp] theorem cutPairs_same (s : State) (fn : Nat) :
    ((cutPairs s fn)).mode = s.mode ∧ ((cutPairs s fn)).ready = s.ready ∧ ((cutPairs s fn)).epochCtr = s.epochCtr
    ∧ ((cutPairs s fn)).vfEnabled = s.vfEnabled ∧ ((cutPairs s fn)).dma = s.dma ∧ ((cutPairs s fn)).sessions = s.sessions
    ∧ ((cutPairs s fn)).cores = s.cores ∧ ((cutPairs s fn)).sec = s.sec ∧ ((cutPairs s fn)).power = s.power
    ∧ ((cutPairs s fn)).hbm = s.hbm ∧ ((cutPairs s fn)).tap = s.tap ∧ ((cutPairs s fn)).pins = s.pins
    ∧ ((cutPairs s fn)).px = s.px ∧ ((cutPairs s fn)).sw = s.sw ∧ ((cutPairs s fn)).tables = s.tables
    ∧ ((cutPairs s fn)).net = s.net ∧ ((cutPairs s fn)).fabric = s.fabric := by
  unfold cutPairs; simp

@[simp] theorem doorbellError_same (s : State) (fn : Nat) :
    ((doorbellError s fn)).mode = s.mode ∧ ((doorbellError s fn)).ready = s.ready ∧ ((doorbellError s fn)).epochCtr = s.epochCtr
    ∧ ((doorbellError s fn)).vfEnabled = s.vfEnabled ∧ ((doorbellError s fn)).dma = s.dma
    ∧ ((doorbellError s fn)).sessions = s.sessions ∧ ((doorbellError s fn)).cores = s.cores ∧ ((doorbellError s fn)).sec = s.sec
    ∧ ((doorbellError s fn)).power = s.power ∧ ((doorbellError s fn)).hbm = s.hbm ∧ ((doorbellError s fn)).tap = s.tap
    ∧ ((doorbellError s fn)).pins = s.pins ∧ ((doorbellError s fn)).px = s.px ∧ ((doorbellError s fn)).sw = s.sw
    ∧ ((doorbellError s fn)).tables = s.tables ∧ ((doorbellError s fn)).net = s.net ∧ ((doorbellError s fn)).fabric = s.fabric
    ∧ ((doorbellError s fn)).qps = s.qps := by
  unfold doorbellError; simp

@[simp] theorem fetchEntry_same (s : State) (q : QueuePair) (e : Bytes) :
    ((fetchEntry s q e)).mode = s.mode ∧ ((fetchEntry s q e)).ready = s.ready ∧ ((fetchEntry s q e)).epochCtr = s.epochCtr
    ∧ ((fetchEntry s q e)).vfEnabled = s.vfEnabled ∧ ((fetchEntry s q e)).dma = s.dma
    ∧ ((fetchEntry s q e)).sessions = s.sessions ∧ ((fetchEntry s q e)).cores = s.cores ∧ ((fetchEntry s q e)).sec = s.sec
    ∧ ((fetchEntry s q e)).power = s.power ∧ ((fetchEntry s q e)).hbm = s.hbm ∧ ((fetchEntry s q e)).tap = s.tap
    ∧ ((fetchEntry s q e)).pins = s.pins ∧ ((fetchEntry s q e)).px = s.px ∧ ((fetchEntry s q e)).sw = s.sw
    ∧ ((fetchEntry s q e)).tables = s.tables ∧ ((fetchEntry s q e)).net = s.net ∧ ((fetchEntry s q e)).fabric = s.fabric := by
  unfold fetchEntry; simp

@[simp] theorem enableMailbox_same (s : State) (fn : Nat) :
    ((enableMailbox s fn)).mode = s.mode ∧ ((enableMailbox s fn)).ready = s.ready ∧ ((enableMailbox s fn)).epochCtr = s.epochCtr
    ∧ ((enableMailbox s fn)).vfEnabled = s.vfEnabled ∧ ((enableMailbox s fn)).dma = s.dma
    ∧ ((enableMailbox s fn)).sessions = s.sessions ∧ ((enableMailbox s fn)).cores = s.cores ∧ ((enableMailbox s fn)).sec = s.sec
    ∧ ((enableMailbox s fn)).power = s.power ∧ ((enableMailbox s fn)).hbm = s.hbm ∧ ((enableMailbox s fn)).tap = s.tap
    ∧ ((enableMailbox s fn)).pins = s.pins ∧ ((enableMailbox s fn)).px = s.px ∧ ((enableMailbox s fn)).sw = s.sw
    ∧ ((enableMailbox s fn)).tables = s.tables ∧ ((enableMailbox s fn)).net = s.net
    ∧ ((enableMailbox s fn)).fabric = s.fabric := by
  unfold enableMailbox; simp

@[simp] theorem unmaskVector_same (s : State) (fn v : Nat) :
    ((unmaskVector s fn v)).mode = s.mode ∧ ((unmaskVector s fn v)).ready = s.ready
    ∧ ((unmaskVector s fn v)).epochCtr = s.epochCtr ∧ ((unmaskVector s fn v)).vfEnabled = s.vfEnabled
    ∧ ((unmaskVector s fn v)).dma = s.dma ∧ ((unmaskVector s fn v)).sessions = s.sessions
    ∧ ((unmaskVector s fn v)).cores = s.cores ∧ ((unmaskVector s fn v)).sec = s.sec ∧ ((unmaskVector s fn v)).power = s.power
    ∧ ((unmaskVector s fn v)).hbm = s.hbm ∧ ((unmaskVector s fn v)).tap = s.tap ∧ ((unmaskVector s fn v)).pins = s.pins
    ∧ ((unmaskVector s fn v)).px = s.px ∧ ((unmaskVector s fn v)).sw = s.sw ∧ ((unmaskVector s fn v)).tables = s.tables
    ∧ ((unmaskVector s fn v)).net = s.net ∧ ((unmaskVector s fn v)).fabric = s.fabric
    ∧ ((unmaskVector s fn v)).qps = s.qps := by
  unfold unmaskVector; simp

@[simp] theorem maskVector_same (s : State) (fn v : Nat) :
    ((maskVector s fn v)).mode = s.mode ∧ ((maskVector s fn v)).ready = s.ready ∧ ((maskVector s fn v)).epochCtr = s.epochCtr
    ∧ ((maskVector s fn v)).vfEnabled = s.vfEnabled ∧ ((maskVector s fn v)).dma = s.dma
    ∧ ((maskVector s fn v)).sessions = s.sessions ∧ ((maskVector s fn v)).cores = s.cores ∧ ((maskVector s fn v)).sec = s.sec
    ∧ ((maskVector s fn v)).power = s.power ∧ ((maskVector s fn v)).hbm = s.hbm ∧ ((maskVector s fn v)).tap = s.tap
    ∧ ((maskVector s fn v)).pins = s.pins ∧ ((maskVector s fn v)).px = s.px ∧ ((maskVector s fn v)).sw = s.sw
    ∧ ((maskVector s fn v)).tables = s.tables ∧ ((maskVector s fn v)).net = s.net ∧ ((maskVector s fn v)).fabric = s.fabric
    ∧ ((maskVector s fn v)).qps = s.qps := by
  unfold maskVector; simp

@[simp] theorem dmaSet_same (s : State) (ch : Nat) (c : DmaChannel) :
    ((dmaSet s ch c)).mode = s.mode ∧ ((dmaSet s ch c)).ready = s.ready ∧ ((dmaSet s ch c)).epochCtr = s.epochCtr
    ∧ ((dmaSet s ch c)).vfEnabled = s.vfEnabled ∧ ((dmaSet s ch c)).sessions = s.sessions ∧ ((dmaSet s ch c)).cores = s.cores
    ∧ ((dmaSet s ch c)).sec = s.sec ∧ ((dmaSet s ch c)).power = s.power ∧ ((dmaSet s ch c)).hbm = s.hbm
    ∧ ((dmaSet s ch c)).tap = s.tap ∧ ((dmaSet s ch c)).pins = s.pins ∧ ((dmaSet s ch c)).px = s.px
    ∧ ((dmaSet s ch c)).sw = s.sw ∧ ((dmaSet s ch c)).tables = s.tables ∧ ((dmaSet s ch c)).net = s.net
    ∧ ((dmaSet s ch c)).fabric = s.fabric ∧ ((dmaSet s ch c)).qps = s.qps := by
  unfold dmaSet; simp

@[simp] theorem writeReg_same (s : State) (fn : Nat) (reg : HostReg) (value : BitVec 64) :
    ((writeReg s fn reg value)).mode = s.mode ∧ ((writeReg s fn reg value)).ready = s.ready
    ∧ ((writeReg s fn reg value)).epochCtr = s.epochCtr ∧ ((writeReg s fn reg value)).vfEnabled = s.vfEnabled
    ∧ ((writeReg s fn reg value)).sessions = s.sessions ∧ ((writeReg s fn reg value)).cores = s.cores
    ∧ ((writeReg s fn reg value)).sec = s.sec ∧ ((writeReg s fn reg value)).power = s.power
    ∧ ((writeReg s fn reg value)).hbm = s.hbm ∧ ((writeReg s fn reg value)).tap = s.tap
    ∧ ((writeReg s fn reg value)).pins = s.pins ∧ ((writeReg s fn reg value)).px = s.px ∧ ((writeReg s fn reg value)).sw = s.sw
    ∧ ((writeReg s fn reg value)).tables = s.tables ∧ ((writeReg s fn reg value)).net = s.net
    ∧ ((writeReg s fn reg value)).fabric = s.fabric ∧ ((writeReg s fn reg value)).qps = s.qps := by
  unfold writeReg; (repeat' split) <;> simp

@[simp] theorem countOob_same (s : State) (fn off len : Nat) :
    ((countOob s fn off len)).mode = s.mode ∧ ((countOob s fn off len)).ready = s.ready
    ∧ ((countOob s fn off len)).epochCtr = s.epochCtr ∧ ((countOob s fn off len)).vfEnabled = s.vfEnabled
    ∧ ((countOob s fn off len)).dma = s.dma ∧ ((countOob s fn off len)).sessions = s.sessions
    ∧ ((countOob s fn off len)).cores = s.cores ∧ ((countOob s fn off len)).sec = s.sec
    ∧ ((countOob s fn off len)).power = s.power ∧ ((countOob s fn off len)).hbm = s.hbm ∧ ((countOob s fn off len)).tap = s.tap
    ∧ ((countOob s fn off len)).pins = s.pins ∧ ((countOob s fn off len)).px = s.px ∧ ((countOob s fn off len)).sw = s.sw
    ∧ ((countOob s fn off len)).tables = s.tables ∧ ((countOob s fn off len)).net = s.net
    ∧ ((countOob s fn off len)).fabric = s.fabric ∧ ((countOob s fn off len)).qps = s.qps := by
  unfold countOob; simp

@[simp] theorem bar2Read_same (s : State) (fn off len : Nat) :
    ((bar2Read s fn off len)).mode = s.mode ∧ ((bar2Read s fn off len)).ready = s.ready
    ∧ ((bar2Read s fn off len)).epochCtr = s.epochCtr ∧ ((bar2Read s fn off len)).vfEnabled = s.vfEnabled
    ∧ ((bar2Read s fn off len)).dma = s.dma ∧ ((bar2Read s fn off len)).sessions = s.sessions
    ∧ ((bar2Read s fn off len)).cores = s.cores ∧ ((bar2Read s fn off len)).sec = s.sec
    ∧ ((bar2Read s fn off len)).power = s.power ∧ ((bar2Read s fn off len)).tap = s.tap
    ∧ ((bar2Read s fn off len)).pins = s.pins ∧ ((bar2Read s fn off len)).px = s.px ∧ ((bar2Read s fn off len)).sw = s.sw
    ∧ ((bar2Read s fn off len)).tables = s.tables ∧ ((bar2Read s fn off len)).net = s.net
    ∧ ((bar2Read s fn off len)).fabric = s.fabric ∧ ((bar2Read s fn off len)).qps = s.qps := by
  unfold bar2Read; dsimp only; (repeat' apply And.intro) <;> (first | rfl | simp | (repeat' split) <;> simp)

@[simp] theorem bar2Write_same (s : State) (fn off : Nat) (data : Bytes) :
    ((bar2Write s fn off data)).mode = s.mode ∧ ((bar2Write s fn off data)).ready = s.ready
    ∧ ((bar2Write s fn off data)).epochCtr = s.epochCtr ∧ ((bar2Write s fn off data)).vfEnabled = s.vfEnabled
    ∧ ((bar2Write s fn off data)).dma = s.dma ∧ ((bar2Write s fn off data)).sessions = s.sessions
    ∧ ((bar2Write s fn off data)).cores = s.cores ∧ ((bar2Write s fn off data)).sec = s.sec
    ∧ ((bar2Write s fn off data)).power = s.power ∧ ((bar2Write s fn off data)).tap = s.tap
    ∧ ((bar2Write s fn off data)).pins = s.pins ∧ ((bar2Write s fn off data)).px = s.px ∧ ((bar2Write s fn off data)).sw = s.sw
    ∧ ((bar2Write s fn off data)).tables = s.tables ∧ ((bar2Write s fn off data)).net = s.net
    ∧ ((bar2Write s fn off data)).fabric = s.fabric ∧ ((bar2Write s fn off data)).qps = s.qps := by
  unfold bar2Write; simp

@[simp] theorem atCycle_same (s : State) (cycle : Nat) :
    ((atCycle s cycle)).mode = s.mode ∧ ((atCycle s cycle)).ready = s.ready ∧ ((atCycle s cycle)).epochCtr = s.epochCtr
    ∧ ((atCycle s cycle)).vfEnabled = s.vfEnabled ∧ ((atCycle s cycle)).dma = s.dma ∧ ((atCycle s cycle)).sessions = s.sessions
    ∧ ((atCycle s cycle)).cores = s.cores ∧ ((atCycle s cycle)).sec = s.sec ∧ ((atCycle s cycle)).power = s.power
    ∧ ((atCycle s cycle)).hbm = s.hbm ∧ ((atCycle s cycle)).tap = s.tap ∧ ((atCycle s cycle)).pins = s.pins
    ∧ ((atCycle s cycle)).px = s.px ∧ ((atCycle s cycle)).sw = s.sw ∧ ((atCycle s cycle)).tables = s.tables
    ∧ ((atCycle s cycle)).net = s.net ∧ ((atCycle s cycle)).fabric = s.fabric ∧ ((atCycle s cycle)).qps = s.qps := by
  unfold atCycle; simp

@[simp] theorem dmaHalt_same (s : State) (ch : Nat) (addr : Nat) (write inHbm last : Bool) (reason : Nat) :
    ((dmaHalt s ch addr write inHbm last reason)).mode = s.mode ∧ ((dmaHalt s ch addr write inHbm last reason)).ready = s.ready
    ∧ ((dmaHalt s ch addr write inHbm last reason)).epochCtr = s.epochCtr
    ∧ ((dmaHalt s ch addr write inHbm last reason)).vfEnabled = s.vfEnabled
    ∧ ((dmaHalt s ch addr write inHbm last reason)).sessions = s.sessions
    ∧ ((dmaHalt s ch addr write inHbm last reason)).cores = s.cores ∧ ((dmaHalt s ch addr write inHbm last reason)).sec = s.sec
    ∧ ((dmaHalt s ch addr write inHbm last reason)).power = s.power ∧ ((dmaHalt s ch addr write inHbm last reason)).hbm = s.hbm
    ∧ ((dmaHalt s ch addr write inHbm last reason)).tap = s.tap ∧ ((dmaHalt s ch addr write inHbm last reason)).pins = s.pins
    ∧ ((dmaHalt s ch addr write inHbm last reason)).px = s.px ∧ ((dmaHalt s ch addr write inHbm last reason)).sw = s.sw
    ∧ ((dmaHalt s ch addr write inHbm last reason)).tables = s.tables
    ∧ ((dmaHalt s ch addr write inHbm last reason)).net = s.net
    ∧ ((dmaHalt s ch addr write inHbm last reason)).fabric = s.fabric
    ∧ ((dmaHalt s ch addr write inHbm last reason)).qps = s.qps := by
  unfold dmaHalt; simp

@[simp] theorem dmaMismatch_same (s : State) (ch off : Nat) :
    ((dmaMismatch s ch off)).mode = s.mode ∧ ((dmaMismatch s ch off)).ready = s.ready
    ∧ ((dmaMismatch s ch off)).epochCtr = s.epochCtr ∧ ((dmaMismatch s ch off)).vfEnabled = s.vfEnabled
    ∧ ((dmaMismatch s ch off)).sessions = s.sessions ∧ ((dmaMismatch s ch off)).cores = s.cores
    ∧ ((dmaMismatch s ch off)).sec = s.sec ∧ ((dmaMismatch s ch off)).power = s.power ∧ ((dmaMismatch s ch off)).hbm = s.hbm
    ∧ ((dmaMismatch s ch off)).tap = s.tap ∧ ((dmaMismatch s ch off)).pins = s.pins ∧ ((dmaMismatch s ch off)).px = s.px
    ∧ ((dmaMismatch s ch off)).sw = s.sw ∧ ((dmaMismatch s ch off)).tables = s.tables ∧ ((dmaMismatch s ch off)).net = s.net
    ∧ ((dmaMismatch s ch off)).fabric = s.fabric ∧ ((dmaMismatch s ch off)).qps = s.qps := by
  unfold dmaMismatch; simp

@[simp] theorem handOver_same (s : State) (ch cycle : Nat) :
    ((handOver s ch cycle)).mode = s.mode ∧ ((handOver s ch cycle)).ready = s.ready
    ∧ ((handOver s ch cycle)).epochCtr = s.epochCtr ∧ ((handOver s ch cycle)).vfEnabled = s.vfEnabled
    ∧ ((handOver s ch cycle)).sessions = s.sessions ∧ ((handOver s ch cycle)).cores = s.cores
    ∧ ((handOver s ch cycle)).sec = s.sec ∧ ((handOver s ch cycle)).power = s.power ∧ ((handOver s ch cycle)).hbm = s.hbm
    ∧ ((handOver s ch cycle)).tap = s.tap ∧ ((handOver s ch cycle)).pins = s.pins ∧ ((handOver s ch cycle)).px = s.px
    ∧ ((handOver s ch cycle)).sw = s.sw ∧ ((handOver s ch cycle)).tables = s.tables ∧ ((handOver s ch cycle)).net = s.net
    ∧ ((handOver s ch cycle)).fabric = s.fabric ∧ ((handOver s ch cycle)).qps = s.qps := by
  unfold handOver; dsimp only; (repeat' split) <;> simp

@[simp] theorem settle_same (s : State) (ch cycle : Nat) :
    ((settle s ch cycle)).mode = s.mode ∧ ((settle s ch cycle)).ready = s.ready ∧ ((settle s ch cycle)).epochCtr = s.epochCtr
    ∧ ((settle s ch cycle)).vfEnabled = s.vfEnabled ∧ ((settle s ch cycle)).sessions = s.sessions
    ∧ ((settle s ch cycle)).cores = s.cores ∧ ((settle s ch cycle)).sec = s.sec ∧ ((settle s ch cycle)).power = s.power
    ∧ ((settle s ch cycle)).hbm = s.hbm ∧ ((settle s ch cycle)).tap = s.tap ∧ ((settle s ch cycle)).pins = s.pins
    ∧ ((settle s ch cycle)).px = s.px ∧ ((settle s ch cycle)).sw = s.sw ∧ ((settle s ch cycle)).tables = s.tables
    ∧ ((settle s ch cycle)).net = s.net ∧ ((settle s ch cycle)).fabric = s.fabric ∧ ((settle s ch cycle)).qps = s.qps := by
  unfold settle; (repeat' split) <;> simp

@[simp] theorem armChannel_same (s : State) (ch cycle : Nat) :
    ((armChannel s ch cycle)).mode = s.mode ∧ ((armChannel s ch cycle)).ready = s.ready
    ∧ ((armChannel s ch cycle)).epochCtr = s.epochCtr ∧ ((armChannel s ch cycle)).vfEnabled = s.vfEnabled
    ∧ ((armChannel s ch cycle)).sessions = s.sessions ∧ ((armChannel s ch cycle)).cores = s.cores
    ∧ ((armChannel s ch cycle)).sec = s.sec ∧ ((armChannel s ch cycle)).power = s.power ∧ ((armChannel s ch cycle)).hbm = s.hbm
    ∧ ((armChannel s ch cycle)).tap = s.tap ∧ ((armChannel s ch cycle)).pins = s.pins ∧ ((armChannel s ch cycle)).px = s.px
    ∧ ((armChannel s ch cycle)).sw = s.sw ∧ ((armChannel s ch cycle)).tables = s.tables ∧ ((armChannel s ch cycle)).net = s.net
    ∧ ((armChannel s ch cycle)).fabric = s.fabric ∧ ((armChannel s ch cycle)).qps = s.qps := by
  unfold armChannel; simp

@[simp] theorem beatWrite_same (s : State) (c : DmaChannel) (a : Nat) (data : Bytes) :
    ((beatWrite s c a data)).mode = s.mode ∧ ((beatWrite s c a data)).ready = s.ready
    ∧ ((beatWrite s c a data)).epochCtr = s.epochCtr ∧ ((beatWrite s c a data)).vfEnabled = s.vfEnabled
    ∧ ((beatWrite s c a data)).dma = s.dma ∧ ((beatWrite s c a data)).sessions = s.sessions
    ∧ ((beatWrite s c a data)).cores = s.cores ∧ ((beatWrite s c a data)).sec = s.sec ∧ ((beatWrite s c a data)).power = s.power
    ∧ ((beatWrite s c a data)).tap = s.tap ∧ ((beatWrite s c a data)).pins = s.pins ∧ ((beatWrite s c a data)).px = s.px
    ∧ ((beatWrite s c a data)).sw = s.sw ∧ ((beatWrite s c a data)).tables = s.tables ∧ ((beatWrite s c a data)).net = s.net
    ∧ ((beatWrite s c a data)).fabric = s.fabric ∧ ((beatWrite s c a data)).qps = s.qps := by
  unfold beatWrite; simp

@[simp] theorem dmaDone_same (s : State) (ch : Nat) :
    ((dmaDone s ch)).mode = s.mode ∧ ((dmaDone s ch)).ready = s.ready ∧ ((dmaDone s ch)).epochCtr = s.epochCtr
    ∧ ((dmaDone s ch)).vfEnabled = s.vfEnabled ∧ ((dmaDone s ch)).sessions = s.sessions ∧ ((dmaDone s ch)).cores = s.cores
    ∧ ((dmaDone s ch)).sec = s.sec ∧ ((dmaDone s ch)).power = s.power ∧ ((dmaDone s ch)).hbm = s.hbm
    ∧ ((dmaDone s ch)).tap = s.tap ∧ ((dmaDone s ch)).pins = s.pins ∧ ((dmaDone s ch)).px = s.px ∧ ((dmaDone s ch)).sw = s.sw
    ∧ ((dmaDone s ch)).tables = s.tables ∧ ((dmaDone s ch)).net = s.net ∧ ((dmaDone s ch)).fabric = s.fabric
    ∧ ((dmaDone s ch)).qps = s.qps := by
  unfold dmaDone; simp

@[simp] theorem freeBytes_same (s : State) (n : Nat) :
    ((freeBytes s n).2).mode = s.mode ∧ ((freeBytes s n).2).ready = s.ready ∧ ((freeBytes s n).2).epochCtr = s.epochCtr
    ∧ ((freeBytes s n).2).vfEnabled = s.vfEnabled ∧ ((freeBytes s n).2).dma = s.dma ∧ ((freeBytes s n).2).sessions = s.sessions
    ∧ ((freeBytes s n).2).cores = s.cores ∧ ((freeBytes s n).2).sec = s.sec ∧ ((freeBytes s n).2).power = s.power
    ∧ ((freeBytes s n).2).hbm = s.hbm ∧ ((freeBytes s n).2).tap = s.tap ∧ ((freeBytes s n).2).pins = s.pins
    ∧ ((freeBytes s n).2).px = s.px ∧ ((freeBytes s n).2).sw = s.sw ∧ ((freeBytes s n).2).tables = s.tables
    ∧ ((freeBytes s n).2).net = s.net ∧ ((freeBytes s n).2).fabric = s.fabric ∧ ((freeBytes s n).2).qps = s.qps := by
  unfold freeBytes; simp

@[simp] theorem undefineBeats_same (s : State) (c : DmaChannel) (l : List DmaBeat) :
    ((undefineBeats s c l)).mode = s.mode ∧ ((undefineBeats s c l)).ready = s.ready
    ∧ ((undefineBeats s c l)).epochCtr = s.epochCtr ∧ ((undefineBeats s c l)).vfEnabled = s.vfEnabled
    ∧ ((undefineBeats s c l)).dma = s.dma ∧ ((undefineBeats s c l)).sessions = s.sessions
    ∧ ((undefineBeats s c l)).cores = s.cores ∧ ((undefineBeats s c l)).sec = s.sec ∧ ((undefineBeats s c l)).power = s.power
    ∧ ((undefineBeats s c l)).tap = s.tap ∧ ((undefineBeats s c l)).pins = s.pins ∧ ((undefineBeats s c l)).px = s.px
    ∧ ((undefineBeats s c l)).sw = s.sw ∧ ((undefineBeats s c l)).tables = s.tables ∧ ((undefineBeats s c l)).net = s.net
    ∧ ((undefineBeats s c l)).fabric = s.fabric ∧ ((undefineBeats s c l)).qps = s.qps := by
  unfold undefineBeats; simp

@[simp] theorem failBeat_same (s : State) (ch : Nat) (b : DmaBeat) (write : Bool) (reason : Nat) :
    ((failBeat s ch b write reason)).mode = s.mode ∧ ((failBeat s ch b write reason)).ready = s.ready
    ∧ ((failBeat s ch b write reason)).epochCtr = s.epochCtr ∧ ((failBeat s ch b write reason)).vfEnabled = s.vfEnabled
    ∧ ((failBeat s ch b write reason)).sessions = s.sessions ∧ ((failBeat s ch b write reason)).cores = s.cores
    ∧ ((failBeat s ch b write reason)).sec = s.sec ∧ ((failBeat s ch b write reason)).power = s.power
    ∧ ((failBeat s ch b write reason)).tap = s.tap ∧ ((failBeat s ch b write reason)).pins = s.pins
    ∧ ((failBeat s ch b write reason)).px = s.px ∧ ((failBeat s ch b write reason)).sw = s.sw
    ∧ ((failBeat s ch b write reason)).tables = s.tables ∧ ((failBeat s ch b write reason)).net = s.net
    ∧ ((failBeat s ch b write reason)).fabric = s.fabric ∧ ((failBeat s ch b write reason)).qps = s.qps := by
  unfold failBeat; simp

@[simp] theorem landBeat_same (s : State) (ch : Nat) (b : DmaBeat) (src dst : Bytes) :
    ((landBeat s ch b src dst)).mode = s.mode ∧ ((landBeat s ch b src dst)).ready = s.ready
    ∧ ((landBeat s ch b src dst)).epochCtr = s.epochCtr ∧ ((landBeat s ch b src dst)).vfEnabled = s.vfEnabled
    ∧ ((landBeat s ch b src dst)).sessions = s.sessions ∧ ((landBeat s ch b src dst)).cores = s.cores
    ∧ ((landBeat s ch b src dst)).sec = s.sec ∧ ((landBeat s ch b src dst)).power = s.power
    ∧ ((landBeat s ch b src dst)).tap = s.tap ∧ ((landBeat s ch b src dst)).pins = s.pins
    ∧ ((landBeat s ch b src dst)).px = s.px ∧ ((landBeat s ch b src dst)).sw = s.sw
    ∧ ((landBeat s ch b src dst)).tables = s.tables ∧ ((landBeat s ch b src dst)).net = s.net
    ∧ ((landBeat s ch b src dst)).fabric = s.fabric ∧ ((landBeat s ch b src dst)).qps = s.qps := by
  unfold landBeat; dsimp only; (repeat' split) <;> simp

@[simp] theorem maybeLand_same (s : State) (c : DmaChannel) :
    ((maybeLand s c)).mode = s.mode ∧ ((maybeLand s c)).ready = s.ready ∧ ((maybeLand s c)).epochCtr = s.epochCtr
    ∧ ((maybeLand s c)).vfEnabled = s.vfEnabled ∧ ((maybeLand s c)).dma = s.dma ∧ ((maybeLand s c)).sessions = s.sessions
    ∧ ((maybeLand s c)).cores = s.cores ∧ ((maybeLand s c)).sec = s.sec ∧ ((maybeLand s c)).power = s.power
    ∧ ((maybeLand s c)).tap = s.tap ∧ ((maybeLand s c)).pins = s.pins ∧ ((maybeLand s c)).px = s.px
    ∧ ((maybeLand s c)).sw = s.sw ∧ ((maybeLand s c)).tables = s.tables ∧ ((maybeLand s c)).net = s.net
    ∧ ((maybeLand s c)).fabric = s.fabric ∧ ((maybeLand s c)).qps = s.qps := by
  unfold maybeLand; simp

@[simp] theorem disableChannel_same (s : State) (ch : Nat) :
    ((disableChannel s ch)).mode = s.mode ∧ ((disableChannel s ch)).ready = s.ready
    ∧ ((disableChannel s ch)).epochCtr = s.epochCtr ∧ ((disableChannel s ch)).vfEnabled = s.vfEnabled
    ∧ ((disableChannel s ch)).sessions = s.sessions ∧ ((disableChannel s ch)).cores = s.cores
    ∧ ((disableChannel s ch)).sec = s.sec ∧ ((disableChannel s ch)).power = s.power ∧ ((disableChannel s ch)).tap = s.tap
    ∧ ((disableChannel s ch)).pins = s.pins ∧ ((disableChannel s ch)).px = s.px ∧ ((disableChannel s ch)).sw = s.sw
    ∧ ((disableChannel s ch)).tables = s.tables ∧ ((disableChannel s ch)).net = s.net
    ∧ ((disableChannel s ch)).fabric = s.fabric ∧ ((disableChannel s ch)).qps = s.qps := by
  unfold disableChannel; simp

@[simp] theorem giveChannel_same (s : State) (ch fn : Nat) :
    ((giveChannel s ch fn)).mode = s.mode ∧ ((giveChannel s ch fn)).ready = s.ready
    ∧ ((giveChannel s ch fn)).epochCtr = s.epochCtr ∧ ((giveChannel s ch fn)).vfEnabled = s.vfEnabled
    ∧ ((giveChannel s ch fn)).sessions = s.sessions ∧ ((giveChannel s ch fn)).cores = s.cores
    ∧ ((giveChannel s ch fn)).sec = s.sec ∧ ((giveChannel s ch fn)).power = s.power ∧ ((giveChannel s ch fn)).hbm = s.hbm
    ∧ ((giveChannel s ch fn)).tap = s.tap ∧ ((giveChannel s ch fn)).pins = s.pins ∧ ((giveChannel s ch fn)).px = s.px
    ∧ ((giveChannel s ch fn)).sw = s.sw ∧ ((giveChannel s ch fn)).tables = s.tables ∧ ((giveChannel s ch fn)).net = s.net
    ∧ ((giveChannel s ch fn)).fabric = s.fabric ∧ ((giveChannel s ch fn)).qps = s.qps := by
  unfold giveChannel; simp

@[simp] theorem zeroGrant_same (s : State) (fn : Nat) :
    ((zeroGrant s fn)).mode = s.mode ∧ ((zeroGrant s fn)).ready = s.ready ∧ ((zeroGrant s fn)).epochCtr = s.epochCtr
    ∧ ((zeroGrant s fn)).vfEnabled = s.vfEnabled ∧ ((zeroGrant s fn)).dma = s.dma ∧ ((zeroGrant s fn)).sessions = s.sessions
    ∧ ((zeroGrant s fn)).cores = s.cores ∧ ((zeroGrant s fn)).sec = s.sec ∧ ((zeroGrant s fn)).power = s.power
    ∧ ((zeroGrant s fn)).tap = s.tap ∧ ((zeroGrant s fn)).pins = s.pins ∧ ((zeroGrant s fn)).px = s.px
    ∧ ((zeroGrant s fn)).sw = s.sw ∧ ((zeroGrant s fn)).tables = s.tables ∧ ((zeroGrant s fn)).net = s.net
    ∧ ((zeroGrant s fn)).fabric = s.fabric ∧ ((zeroGrant s fn)).qps = s.qps := by
  unfold zeroGrant; simp

@[simp] theorem returnChannel_same (s : State) (ch : Nat) :
    ((returnChannel s ch)).mode = s.mode ∧ ((returnChannel s ch)).ready = s.ready ∧ ((returnChannel s ch)).epochCtr = s.epochCtr
    ∧ ((returnChannel s ch)).vfEnabled = s.vfEnabled ∧ ((returnChannel s ch)).sessions = s.sessions
    ∧ ((returnChannel s ch)).cores = s.cores ∧ ((returnChannel s ch)).sec = s.sec ∧ ((returnChannel s ch)).power = s.power
    ∧ ((returnChannel s ch)).tap = s.tap ∧ ((returnChannel s ch)).pins = s.pins ∧ ((returnChannel s ch)).px = s.px
    ∧ ((returnChannel s ch)).sw = s.sw ∧ ((returnChannel s ch)).tables = s.tables ∧ ((returnChannel s ch)).net = s.net
    ∧ ((returnChannel s ch)).fabric = s.fabric ∧ ((returnChannel s ch)).qps = s.qps := by
  unfold returnChannel; simp

@[simp] theorem resetFns_same (s : State) (p : Nat → Bool) :
    ((resetFns s p)).mode = s.mode ∧ ((resetFns s p)).ready = s.ready ∧ ((resetFns s p)).epochCtr = s.epochCtr
    ∧ ((resetFns s p)).vfEnabled = s.vfEnabled ∧ ((resetFns s p)).power = s.power ∧ ((resetFns s p)).tap = s.tap
    ∧ ((resetFns s p)).pins = s.pins ∧ ((resetFns s p)).px = s.px ∧ ((resetFns s p)).sw = s.sw
    ∧ ((resetFns s p)).tables = s.tables ∧ ((resetFns s p)).fabric = s.fabric := by
  unfold resetFns; simp

@[simp] theorem hostInterfaceReset_same (s : State) :
    ((hostInterfaceReset s)).mode = s.mode ∧ ((hostInterfaceReset s)).ready = s.ready
    ∧ ((hostInterfaceReset s)).epochCtr = s.epochCtr ∧ ((hostInterfaceReset s)).power = s.power
    ∧ ((hostInterfaceReset s)).tap = s.tap ∧ ((hostInterfaceReset s)).pins = s.pins ∧ ((hostInterfaceReset s)).px = s.px
    ∧ ((hostInterfaceReset s)).sw = s.sw ∧ ((hostInterfaceReset s)).tables = s.tables
    ∧ ((hostInterfaceReset s)).fabric = s.fabric := by
  unfold hostInterfaceReset; simp

@[simp] theorem chooseSlot_same (s : State) (i : BootInput) :
    ((chooseSlot s i).2).mode = s.mode ∧ ((chooseSlot s i).2).ready = s.ready ∧ ((chooseSlot s i).2).epochCtr = s.epochCtr
    ∧ ((chooseSlot s i).2).vfEnabled = s.vfEnabled ∧ ((chooseSlot s i).2).dma = s.dma
    ∧ ((chooseSlot s i).2).sessions = s.sessions ∧ ((chooseSlot s i).2).cores = s.cores ∧ ((chooseSlot s i).2).sec = s.sec
    ∧ ((chooseSlot s i).2).power = s.power ∧ ((chooseSlot s i).2).hbm = s.hbm ∧ ((chooseSlot s i).2).tap = s.tap
    ∧ ((chooseSlot s i).2).pins = s.pins ∧ ((chooseSlot s i).2).px = s.px ∧ ((chooseSlot s i).2).sw = s.sw
    ∧ ((chooseSlot s i).2).tables = s.tables ∧ ((chooseSlot s i).2).net = s.net ∧ ((chooseSlot s i).2).fabric = s.fabric
    ∧ ((chooseSlot s i).2).qps = s.qps := by
  unfold chooseSlot; grind [logEvent_same]

@[simp] theorem bootRom_same (s : State) (i : BootInput) :
    ((bootRom s i)).epochCtr = s.epochCtr ∧ ((bootRom s i)).vfEnabled = s.vfEnabled ∧ ((bootRom s i)).dma = s.dma
    ∧ ((bootRom s i)).sessions = s.sessions ∧ ((bootRom s i)).cores = s.cores ∧ ((bootRom s i)).power = s.power
    ∧ ((bootRom s i)).hbm = s.hbm ∧ ((bootRom s i)).tap = s.tap ∧ ((bootRom s i)).pins = s.pins ∧ ((bootRom s i)).px = s.px
    ∧ ((bootRom s i)).sw = s.sw ∧ ((bootRom s i)).tables = s.tables ∧ ((bootRom s i)).net = s.net
    ∧ ((bootRom s i)).qps = s.qps := by
  unfold bootRom; simp

@[simp] theorem bootPlatform_same (s : State) (i : BootInput) (slot : Nat) :
    ((bootPlatform s i slot)).epochCtr = s.epochCtr ∧ ((bootPlatform s i slot)).vfEnabled = s.vfEnabled
    ∧ ((bootPlatform s i slot)).dma = s.dma ∧ ((bootPlatform s i slot)).sessions = s.sessions
    ∧ ((bootPlatform s i slot)).cores = s.cores ∧ ((bootPlatform s i slot)).hbm = s.hbm ∧ ((bootPlatform s i slot)).tap = s.tap
    ∧ ((bootPlatform s i slot)).pins = s.pins ∧ ((bootPlatform s i slot)).px = s.px ∧ ((bootPlatform s i slot)).sw = s.sw
    ∧ ((bootPlatform s i slot)).tables = s.tables ∧ ((bootPlatform s i slot)).net = s.net
    ∧ ((bootPlatform s i slot)).qps = s.qps := by
  unfold bootPlatform; simp

@[simp] theorem loadPatch_same (s : State) (version : Nat) (fail : List Nat) :
    ((loadPatch s version fail)).mode = s.mode ∧ ((loadPatch s version fail)).ready = s.ready
    ∧ ((loadPatch s version fail)).epochCtr = s.epochCtr ∧ ((loadPatch s version fail)).vfEnabled = s.vfEnabled
    ∧ ((loadPatch s version fail)).dma = s.dma ∧ ((loadPatch s version fail)).sessions = s.sessions
    ∧ ((loadPatch s version fail)).sec = s.sec ∧ ((loadPatch s version fail)).power = s.power
    ∧ ((loadPatch s version fail)).hbm = s.hbm ∧ ((loadPatch s version fail)).tap = s.tap
    ∧ ((loadPatch s version fail)).pins = s.pins ∧ ((loadPatch s version fail)).sw = s.sw
    ∧ ((loadPatch s version fail)).tables = s.tables ∧ ((loadPatch s version fail)).fabric = s.fabric
    ∧ ((loadPatch s version fail)).qps = s.qps := by
  unfold loadPatch; simp

@[simp] theorem bootBist_same (s : State) (failed : List Nat) :
    ((bootBist s failed)).mode = s.mode ∧ ((bootBist s failed)).ready = s.ready ∧ ((bootBist s failed)).epochCtr = s.epochCtr
    ∧ ((bootBist s failed)).vfEnabled = s.vfEnabled ∧ ((bootBist s failed)).dma = s.dma
    ∧ ((bootBist s failed)).sessions = s.sessions ∧ ((bootBist s failed)).sec = s.sec ∧ ((bootBist s failed)).power = s.power
    ∧ ((bootBist s failed)).hbm = s.hbm ∧ ((bootBist s failed)).tap = s.tap ∧ ((bootBist s failed)).pins = s.pins
    ∧ ((bootBist s failed)).sw = s.sw ∧ ((bootBist s failed)).tables = s.tables ∧ ((bootBist s failed)).fabric = s.fabric
    ∧ ((bootBist s failed)).qps = s.qps := by
  unfold bootBist; (repeat' split) <;> simp (disch := first | assumption | (intros; (repeat' split) <;> simp [*]; done))

@[simp] theorem trainHbm_same (s : State) (i : BootInput) :
    ((trainHbm s i)).mode = s.mode ∧ ((trainHbm s i)).ready = s.ready ∧ ((trainHbm s i)).epochCtr = s.epochCtr
    ∧ ((trainHbm s i)).vfEnabled = s.vfEnabled ∧ ((trainHbm s i)).dma = s.dma ∧ ((trainHbm s i)).sessions = s.sessions
    ∧ ((trainHbm s i)).cores = s.cores ∧ ((trainHbm s i)).sec = s.sec ∧ ((trainHbm s i)).power = s.power
    ∧ ((trainHbm s i)).tap = s.tap ∧ ((trainHbm s i)).pins = s.pins ∧ ((trainHbm s i)).px = s.px ∧ ((trainHbm s i)).sw = s.sw
    ∧ ((trainHbm s i)).tables = s.tables ∧ ((trainHbm s i)).net = s.net ∧ ((trainHbm s i)).fabric = s.fabric
    ∧ ((trainHbm s i)).qps = s.qps := by
  unfold trainHbm; simp

@[simp] theorem copyAon_same (s : State) :
    ((copyAon s)).mode = s.mode ∧ ((copyAon s)).ready = s.ready ∧ ((copyAon s)).epochCtr = s.epochCtr
    ∧ ((copyAon s)).vfEnabled = s.vfEnabled ∧ ((copyAon s)).dma = s.dma ∧ ((copyAon s)).sessions = s.sessions
    ∧ ((copyAon s)).cores = s.cores ∧ ((copyAon s)).sec = s.sec ∧ ((copyAon s)).hbm = s.hbm ∧ ((copyAon s)).tap = s.tap
    ∧ ((copyAon s)).pins = s.pins ∧ ((copyAon s)).px = s.px ∧ ((copyAon s)).sw = s.sw ∧ ((copyAon s)).tables = s.tables
    ∧ ((copyAon s)).net = s.net ∧ ((copyAon s)).fabric = s.fabric ∧ ((copyAon s)).qps = s.qps := by
  unfold copyAon; simp

@[simp] theorem repairRows_same (s : State) :
    ((repairRows s)).mode = s.mode ∧ ((repairRows s)).ready = s.ready ∧ ((repairRows s)).epochCtr = s.epochCtr
    ∧ ((repairRows s)).vfEnabled = s.vfEnabled ∧ ((repairRows s)).dma = s.dma ∧ ((repairRows s)).sessions = s.sessions
    ∧ ((repairRows s)).cores = s.cores ∧ ((repairRows s)).sec = s.sec ∧ ((repairRows s)).power = s.power
    ∧ ((repairRows s)).hbm = s.hbm ∧ ((repairRows s)).tap = s.tap ∧ ((repairRows s)).pins = s.pins ∧ ((repairRows s)).px = s.px
    ∧ ((repairRows s)).sw = s.sw ∧ ((repairRows s)).tables = s.tables ∧ ((repairRows s)).net = s.net
    ∧ ((repairRows s)).fabric = s.fabric ∧ ((repairRows s)).qps = s.qps := by
  unfold repairRows; simp

@[simp] theorem finishBoot_same (s : State) :
    ((finishBoot s)).epochCtr = s.epochCtr ∧ ((finishBoot s)).vfEnabled = s.vfEnabled ∧ ((finishBoot s)).dma = s.dma
    ∧ ((finishBoot s)).sessions = s.sessions ∧ ((finishBoot s)).cores = s.cores ∧ ((finishBoot s)).sec = s.sec
    ∧ ((finishBoot s)).power = s.power ∧ ((finishBoot s)).tap = s.tap ∧ ((finishBoot s)).pins = s.pins
    ∧ ((finishBoot s)).px = s.px ∧ ((finishBoot s)).sw = s.sw ∧ ((finishBoot s)).tables = s.tables
    ∧ ((finishBoot s)).net = s.net ∧ ((finishBoot s)).qps = s.qps := by
  unfold finishBoot; simp

@[simp] theorem bootFirmware_same (s : State) (i : BootInput) (slot : Nat) :
    ((bootFirmware s i slot)).epochCtr = s.epochCtr ∧ ((bootFirmware s i slot)).vfEnabled = s.vfEnabled
    ∧ ((bootFirmware s i slot)).dma = s.dma ∧ ((bootFirmware s i slot)).sessions = s.sessions
    ∧ ((bootFirmware s i slot)).tap = s.tap ∧ ((bootFirmware s i slot)).pins = s.pins ∧ ((bootFirmware s i slot)).sw = s.sw
    ∧ ((bootFirmware s i slot)).tables = s.tables ∧ ((bootFirmware s i slot)).qps = s.qps := by
  unfold bootFirmware; simp

@[simp] theorem startBist_same (s : State) :
    ((startBist s)).mode = s.mode ∧ ((startBist s)).ready = s.ready ∧ ((startBist s)).epochCtr = s.epochCtr
    ∧ ((startBist s)).vfEnabled = s.vfEnabled ∧ ((startBist s)).dma = s.dma ∧ ((startBist s)).sessions = s.sessions
    ∧ ((startBist s)).sec = s.sec ∧ ((startBist s)).power = s.power ∧ ((startBist s)).hbm = s.hbm ∧ ((startBist s)).tap = s.tap
    ∧ ((startBist s)).pins = s.pins ∧ ((startBist s)).sw = s.sw ∧ ((startBist s)).tables = s.tables
    ∧ ((startBist s)).fabric = s.fabric ∧ ((startBist s)).qps = s.qps := by
  unfold startBist; simp

@[simp] theorem setModeTo_same (s : State) (r : CmdRef) (target : Nat) :
    ((setModeTo s r target)).epochCtr = s.epochCtr ∧ ((setModeTo s r target)).vfEnabled = s.vfEnabled
    ∧ ((setModeTo s r target)).dma = s.dma ∧ ((setModeTo s r target)).sessions = s.sessions
    ∧ ((setModeTo s r target)).sec = s.sec ∧ ((setModeTo s r target)).power = s.power ∧ ((setModeTo s r target)).hbm = s.hbm
    ∧ ((setModeTo s r target)).tap = s.tap ∧ ((setModeTo s r target)).pins = s.pins ∧ ((setModeTo s r target)).sw = s.sw
    ∧ ((setModeTo s r target)).tables = s.tables := by
  unfold setModeTo; (repeat' split) <;> simp

@[simp] theorem sizeRings_same (s : State) (l : List ClusterUse) (bytes : Nat) :
    ((sizeRings s l bytes)).mode = s.mode ∧ ((sizeRings s l bytes)).ready = s.ready
    ∧ ((sizeRings s l bytes)).epochCtr = s.epochCtr ∧ ((sizeRings s l bytes)).vfEnabled = s.vfEnabled
    ∧ ((sizeRings s l bytes)).dma = s.dma ∧ ((sizeRings s l bytes)).sessions = s.sessions ∧ ((sizeRings s l bytes)).sec = s.sec
    ∧ ((sizeRings s l bytes)).power = s.power ∧ ((sizeRings s l bytes)).tap = s.tap ∧ ((sizeRings s l bytes)).pins = s.pins
    ∧ ((sizeRings s l bytes)).px = s.px ∧ ((sizeRings s l bytes)).sw = s.sw ∧ ((sizeRings s l bytes)).tables = s.tables
    ∧ ((sizeRings s l bytes)).net = s.net ∧ ((sizeRings s l bytes)).fabric = s.fabric
    ∧ ((sizeRings s l bytes)).qps = s.qps := by
  unfold sizeRings; simp

@[simp] theorem reserve_same (s : State) (x : Session) (d : Demand) (l : List ClusterUse) :
    ((reserve s x d l)).mode = s.mode ∧ ((reserve s x d l)).ready = s.ready ∧ ((reserve s x d l)).epochCtr = s.epochCtr
    ∧ ((reserve s x d l)).vfEnabled = s.vfEnabled ∧ ((reserve s x d l)).dma = s.dma ∧ ((reserve s x d l)).sec = s.sec
    ∧ ((reserve s x d l)).power = s.power ∧ ((reserve s x d l)).tap = s.tap ∧ ((reserve s x d l)).pins = s.pins
    ∧ ((reserve s x d l)).px = s.px ∧ ((reserve s x d l)).sw = s.sw ∧ ((reserve s x d l)).tables = s.tables
    ∧ ((reserve s x d l)).net = s.net ∧ ((reserve s x d l)).fabric = s.fabric ∧ ((reserve s x d l)).qps = s.qps := by
  unfold reserve; simp

@[simp] theorem replaceOne_same (s : State) (x : Session) :
    ((replaceOne s x)).mode = s.mode ∧ ((replaceOne s x)).ready = s.ready ∧ ((replaceOne s x)).epochCtr = s.epochCtr
    ∧ ((replaceOne s x)).vfEnabled = s.vfEnabled ∧ ((replaceOne s x)).dma = s.dma ∧ ((replaceOne s x)).sec = s.sec
    ∧ ((replaceOne s x)).power = s.power ∧ ((replaceOne s x)).hbm = s.hbm ∧ ((replaceOne s x)).tap = s.tap
    ∧ ((replaceOne s x)).pins = s.pins ∧ ((replaceOne s x)).px = s.px ∧ ((replaceOne s x)).sw = s.sw
    ∧ ((replaceOne s x)).tables = s.tables ∧ ((replaceOne s x)).net = s.net := by
  unfold replaceOne; dsimp only; (repeat' apply And.intro) <;> (first | rfl | simp | (repeat' split) <;> simp)

@[simp] theorem replaceAll_same (s : State) :
    ((replaceAll s)).mode = s.mode ∧ ((replaceAll s)).ready = s.ready ∧ ((replaceAll s)).epochCtr = s.epochCtr
    ∧ ((replaceAll s)).vfEnabled = s.vfEnabled ∧ ((replaceAll s)).dma = s.dma ∧ ((replaceAll s)).sec = s.sec
    ∧ ((replaceAll s)).power = s.power ∧ ((replaceAll s)).hbm = s.hbm ∧ ((replaceAll s)).tap = s.tap
    ∧ ((replaceAll s)).pins = s.pins ∧ ((replaceAll s)).px = s.px ∧ ((replaceAll s)).sw = s.sw
    ∧ ((replaceAll s)).tables = s.tables ∧ ((replaceAll s)).net = s.net := by
  unfold replaceAll; simp

@[simp] theorem memberPut_same (s : State) (m : Nat) (x : Member) :
    ((memberPut s m x)).mode = s.mode ∧ ((memberPut s m x)).ready = s.ready ∧ ((memberPut s m x)).epochCtr = s.epochCtr
    ∧ ((memberPut s m x)).vfEnabled = s.vfEnabled ∧ ((memberPut s m x)).dma = s.dma ∧ ((memberPut s m x)).sessions = s.sessions
    ∧ ((memberPut s m x)).cores = s.cores ∧ ((memberPut s m x)).sec = s.sec ∧ ((memberPut s m x)).power = s.power
    ∧ ((memberPut s m x)).hbm = s.hbm ∧ ((memberPut s m x)).tap = s.tap ∧ ((memberPut s m x)).pins = s.pins
    ∧ ((memberPut s m x)).px = s.px ∧ ((memberPut s m x)).sw = s.sw ∧ ((memberPut s m x)).tables = s.tables
    ∧ ((memberPut s m x)).net = s.net ∧ ((memberPut s m x)).qps = s.qps := by
  unfold memberPut; simp

@[simp] theorem copyToStandby_same (s : State) (kind m : Nat) (fields : List Nat) :
    ((copyToStandby s kind m fields)).mode = s.mode ∧ ((copyToStandby s kind m fields)).ready = s.ready
    ∧ ((copyToStandby s kind m fields)).epochCtr = s.epochCtr ∧ ((copyToStandby s kind m fields)).vfEnabled = s.vfEnabled
    ∧ ((copyToStandby s kind m fields)).dma = s.dma ∧ ((copyToStandby s kind m fields)).sessions = s.sessions
    ∧ ((copyToStandby s kind m fields)).cores = s.cores ∧ ((copyToStandby s kind m fields)).sec = s.sec
    ∧ ((copyToStandby s kind m fields)).power = s.power ∧ ((copyToStandby s kind m fields)).hbm = s.hbm
    ∧ ((copyToStandby s kind m fields)).tap = s.tap ∧ ((copyToStandby s kind m fields)).pins = s.pins
    ∧ ((copyToStandby s kind m fields)).px = s.px ∧ ((copyToStandby s kind m fields)).sw = s.sw
    ∧ ((copyToStandby s kind m fields)).tables = s.tables ∧ ((copyToStandby s kind m fields)).net = s.net
    ∧ ((copyToStandby s kind m fields)).qps = s.qps := by
  unfold copyToStandby; simp

@[simp] theorem sendAssign_same (s : State) (m session role region from_ : Nat) (c : Bytes) :
    ((sendAssign s m session role region from_ c)).mode = s.mode
    ∧ ((sendAssign s m session role region from_ c)).ready = s.ready
    ∧ ((sendAssign s m session role region from_ c)).epochCtr = s.epochCtr
    ∧ ((sendAssign s m session role region from_ c)).vfEnabled = s.vfEnabled
    ∧ ((sendAssign s m session role region from_ c)).dma = s.dma
    ∧ ((sendAssign s m session role region from_ c)).sessions = s.sessions
    ∧ ((sendAssign s m session role region from_ c)).cores = s.cores
    ∧ ((sendAssign s m session role region from_ c)).sec = s.sec
    ∧ ((sendAssign s m session role region from_ c)).power = s.power
    ∧ ((sendAssign s m session role region from_ c)).hbm = s.hbm ∧ ((sendAssign s m session role region from_ c)).tap = s.tap
    ∧ ((sendAssign s m session role region from_ c)).pins = s.pins ∧ ((sendAssign s m session role region from_ c)).px = s.px
    ∧ ((sendAssign s m session role region from_ c)).sw = s.sw
    ∧ ((sendAssign s m session role region from_ c)).tables = s.tables
    ∧ ((sendAssign s m session role region from_ c)).net = s.net
    ∧ ((sendAssign s m session role region from_ c)).qps = s.qps := by
  unfold sendAssign; simp

@[simp] theorem commitEpoch_same (s : State) (p : EpochChange) :
    ((commitEpoch s p)).mode = s.mode ∧ ((commitEpoch s p)).ready = s.ready ∧ ((commitEpoch s p)).epochCtr = s.epochCtr
    ∧ ((commitEpoch s p)).vfEnabled = s.vfEnabled ∧ ((commitEpoch s p)).dma = s.dma ∧ ((commitEpoch s p)).sessions = s.sessions
    ∧ ((commitEpoch s p)).cores = s.cores ∧ ((commitEpoch s p)).sec = s.sec ∧ ((commitEpoch s p)).power = s.power
    ∧ ((commitEpoch s p)).hbm = s.hbm ∧ ((commitEpoch s p)).tap = s.tap ∧ ((commitEpoch s p)).pins = s.pins
    ∧ ((commitEpoch s p)).px = s.px ∧ ((commitEpoch s p)).sw = s.sw ∧ ((commitEpoch s p)).tables = s.tables
    ∧ ((commitEpoch s p)).net = s.net ∧ ((commitEpoch s p)).qps = s.qps := by
  unfold commitEpoch; simp

@[simp] theorem settleEpoch_same (s : State) :
    ((settleEpoch s)).mode = s.mode ∧ ((settleEpoch s)).ready = s.ready ∧ ((settleEpoch s)).epochCtr = s.epochCtr
    ∧ ((settleEpoch s)).vfEnabled = s.vfEnabled ∧ ((settleEpoch s)).dma = s.dma ∧ ((settleEpoch s)).sessions = s.sessions
    ∧ ((settleEpoch s)).cores = s.cores ∧ ((settleEpoch s)).sec = s.sec ∧ ((settleEpoch s)).power = s.power
    ∧ ((settleEpoch s)).hbm = s.hbm ∧ ((settleEpoch s)).tap = s.tap ∧ ((settleEpoch s)).pins = s.pins
    ∧ ((settleEpoch s)).px = s.px ∧ ((settleEpoch s)).sw = s.sw ∧ ((settleEpoch s)).tables = s.tables
    ∧ ((settleEpoch s)).net = s.net ∧ ((settleEpoch s)).qps = s.qps := by
  unfold settleEpoch; (repeat' split) <;> simp

@[simp] theorem beginEpoch_same (s : State) (changes : List (Nat × Nat)) :
    ((beginEpoch s changes)).mode = s.mode ∧ ((beginEpoch s changes)).ready = s.ready
    ∧ ((beginEpoch s changes)).epochCtr = s.epochCtr ∧ ((beginEpoch s changes)).vfEnabled = s.vfEnabled
    ∧ ((beginEpoch s changes)).dma = s.dma ∧ ((beginEpoch s changes)).sessions = s.sessions
    ∧ ((beginEpoch s changes)).cores = s.cores ∧ ((beginEpoch s changes)).sec = s.sec ∧ ((beginEpoch s changes)).power = s.power
    ∧ ((beginEpoch s changes)).hbm = s.hbm ∧ ((beginEpoch s changes)).tap = s.tap ∧ ((beginEpoch s changes)).pins = s.pins
    ∧ ((beginEpoch s changes)).px = s.px ∧ ((beginEpoch s changes)).sw = s.sw ∧ ((beginEpoch s changes)).tables = s.tables
    ∧ ((beginEpoch s changes)).net = s.net ∧ ((beginEpoch s changes)).qps = s.qps := by
  unfold beginEpoch; simp

@[simp] theorem addRole_same (s : State) (m session region role : Nat) :
    ((addRole s m session region role)).mode = s.mode ∧ ((addRole s m session region role)).ready = s.ready
    ∧ ((addRole s m session region role)).epochCtr = s.epochCtr ∧ ((addRole s m session region role)).vfEnabled = s.vfEnabled
    ∧ ((addRole s m session region role)).dma = s.dma ∧ ((addRole s m session region role)).sessions = s.sessions
    ∧ ((addRole s m session region role)).cores = s.cores ∧ ((addRole s m session region role)).sec = s.sec
    ∧ ((addRole s m session region role)).power = s.power ∧ ((addRole s m session region role)).hbm = s.hbm
    ∧ ((addRole s m session region role)).tap = s.tap ∧ ((addRole s m session region role)).pins = s.pins
    ∧ ((addRole s m session region role)).px = s.px ∧ ((addRole s m session region role)).sw = s.sw
    ∧ ((addRole s m session region role)).tables = s.tables ∧ ((addRole s m session region role)).net = s.net
    ∧ ((addRole s m session region role)).qps = s.qps := by
  unfold addRole; (repeat' split) <;> simp

@[simp] theorem dropRole_same (s : State) (m session region role : Nat) :
    ((dropRole s m session region role)).mode = s.mode ∧ ((dropRole s m session region role)).ready = s.ready
    ∧ ((dropRole s m session region role)).epochCtr = s.epochCtr ∧ ((dropRole s m session region role)).vfEnabled = s.vfEnabled
    ∧ ((dropRole s m session region role)).dma = s.dma ∧ ((dropRole s m session region role)).sessions = s.sessions
    ∧ ((dropRole s m session region role)).cores = s.cores ∧ ((dropRole s m session region role)).sec = s.sec
    ∧ ((dropRole s m session region role)).power = s.power ∧ ((dropRole s m session region role)).hbm = s.hbm
    ∧ ((dropRole s m session region role)).tap = s.tap ∧ ((dropRole s m session region role)).pins = s.pins
    ∧ ((dropRole s m session region role)).px = s.px ∧ ((dropRole s m session region role)).sw = s.sw
    ∧ ((dropRole s m session region role)).tables = s.tables ∧ ((dropRole s m session region role)).net = s.net
    ∧ ((dropRole s m session region role)).qps = s.qps := by
  unfold dropRole; (repeat' split) <;> simp

@[simp] theorem editSession_same (s : State) (id : Nat) (f : Session → Session) :
    ((editSession s id f)).mode = s.mode ∧ ((editSession s id f)).ready = s.ready ∧ ((editSession s id f)).epochCtr = s.epochCtr
    ∧ ((editSession s id f)).vfEnabled = s.vfEnabled ∧ ((editSession s id f)).dma = s.dma
    ∧ ((editSession s id f)).cores = s.cores ∧ ((editSession s id f)).sec = s.sec ∧ ((editSession s id f)).power = s.power
    ∧ ((editSession s id f)).hbm = s.hbm ∧ ((editSession s id f)).tap = s.tap ∧ ((editSession s id f)).pins = s.pins
    ∧ ((editSession s id f)).px = s.px ∧ ((editSession s id f)).sw = s.sw ∧ ((editSession s id f)).tables = s.tables
    ∧ ((editSession s id f)).net = s.net ∧ ((editSession s id f)).fabric = s.fabric ∧ ((editSession s id f)).qps = s.qps := by
  unfold editSession; (repeat' split) <;> simp

@[simp] theorem giveRole_same (s : State) (id m region role from_ : Nat) :
    ((giveRole s id m region role from_)).mode = s.mode ∧ ((giveRole s id m region role from_)).ready = s.ready
    ∧ ((giveRole s id m region role from_)).epochCtr = s.epochCtr
    ∧ ((giveRole s id m region role from_)).vfEnabled = s.vfEnabled ∧ ((giveRole s id m region role from_)).dma = s.dma
    ∧ ((giveRole s id m region role from_)).cores = s.cores ∧ ((giveRole s id m region role from_)).sec = s.sec
    ∧ ((giveRole s id m region role from_)).power = s.power ∧ ((giveRole s id m region role from_)).hbm = s.hbm
    ∧ ((giveRole s id m region role from_)).tap = s.tap ∧ ((giveRole s id m region role from_)).pins = s.pins
    ∧ ((giveRole s id m region role from_)).px = s.px ∧ ((giveRole s id m region role from_)).sw = s.sw
    ∧ ((giveRole s id m region role from_)).tables = s.tables ∧ ((giveRole s id m region role from_)).net = s.net
    ∧ ((giveRole s id m region role from_)).qps = s.qps := by
  unfold giveRole; (repeat' split) <;> simp

@[simp] theorem takeRole_same (s : State) (id m region role : Nat) :
    ((takeRole s id m region role)).mode = s.mode ∧ ((takeRole s id m region role)).ready = s.ready
    ∧ ((takeRole s id m region role)).epochCtr = s.epochCtr ∧ ((takeRole s id m region role)).vfEnabled = s.vfEnabled
    ∧ ((takeRole s id m region role)).dma = s.dma ∧ ((takeRole s id m region role)).cores = s.cores
    ∧ ((takeRole s id m region role)).sec = s.sec ∧ ((takeRole s id m region role)).power = s.power
    ∧ ((takeRole s id m region role)).hbm = s.hbm ∧ ((takeRole s id m region role)).tap = s.tap
    ∧ ((takeRole s id m region role)).pins = s.pins ∧ ((takeRole s id m region role)).px = s.px
    ∧ ((takeRole s id m region role)).sw = s.sw ∧ ((takeRole s id m region role)).tables = s.tables
    ∧ ((takeRole s id m region role)).net = s.net ∧ ((takeRole s id m region role)).qps = s.qps := by
  unfold takeRole; (repeat' split) <;> simp

@[simp] theorem placeFabric_same (s : State) (id : Nat) (plan : List (Nat × Nat × Nat)) :
    ((placeFabric s id plan)).mode = s.mode ∧ ((placeFabric s id plan)).ready = s.ready
    ∧ ((placeFabric s id plan)).epochCtr = s.epochCtr ∧ ((placeFabric s id plan)).vfEnabled = s.vfEnabled
    ∧ ((placeFabric s id plan)).dma = s.dma ∧ ((placeFabric s id plan)).cores = s.cores ∧ ((placeFabric s id plan)).sec = s.sec
    ∧ ((placeFabric s id plan)).power = s.power ∧ ((placeFabric s id plan)).hbm = s.hbm ∧ ((placeFabric s id plan)).tap = s.tap
    ∧ ((placeFabric s id plan)).pins = s.pins ∧ ((placeFabric s id plan)).px = s.px ∧ ((placeFabric s id plan)).sw = s.sw
    ∧ ((placeFabric s id plan)).tables = s.tables ∧ ((placeFabric s id plan)).net = s.net
    ∧ ((placeFabric s id plan)).qps = s.qps := by
  unfold placeFabric; simp

@[simp] theorem replanFabric_same (s : State) (x : Session) (frame : Nat) (c : Bytes) :
    ((replanFabric s x frame c)).mode = s.mode ∧ ((replanFabric s x frame c)).ready = s.ready
    ∧ ((replanFabric s x frame c)).epochCtr = s.epochCtr ∧ ((replanFabric s x frame c)).vfEnabled = s.vfEnabled
    ∧ ((replanFabric s x frame c)).dma = s.dma ∧ ((replanFabric s x frame c)).sessions = s.sessions
    ∧ ((replanFabric s x frame c)).cores = s.cores ∧ ((replanFabric s x frame c)).sec = s.sec
    ∧ ((replanFabric s x frame c)).power = s.power ∧ ((replanFabric s x frame c)).hbm = s.hbm
    ∧ ((replanFabric s x frame c)).tap = s.tap ∧ ((replanFabric s x frame c)).pins = s.pins
    ∧ ((replanFabric s x frame c)).px = s.px ∧ ((replanFabric s x frame c)).sw = s.sw
    ∧ ((replanFabric s x frame c)).tables = s.tables ∧ ((replanFabric s x frame c)).net = s.net
    ∧ ((replanFabric s x frame c)).qps = s.qps := by
  unfold replanFabric; (repeat' split) <;> simp (disch := first | assumption | (intros; (repeat' split) <;> simp [*]; done))

@[simp] theorem withdrawFabric_same (s : State) (x : Session) :
    ((withdrawFabric s x)).mode = s.mode ∧ ((withdrawFabric s x)).ready = s.ready ∧ ((withdrawFabric s x)).epochCtr = s.epochCtr
    ∧ ((withdrawFabric s x)).vfEnabled = s.vfEnabled ∧ ((withdrawFabric s x)).dma = s.dma
    ∧ ((withdrawFabric s x)).sessions = s.sessions ∧ ((withdrawFabric s x)).cores = s.cores ∧ ((withdrawFabric s x)).sec = s.sec
    ∧ ((withdrawFabric s x)).power = s.power ∧ ((withdrawFabric s x)).hbm = s.hbm ∧ ((withdrawFabric s x)).tap = s.tap
    ∧ ((withdrawFabric s x)).pins = s.pins ∧ ((withdrawFabric s x)).px = s.px ∧ ((withdrawFabric s x)).sw = s.sw
    ∧ ((withdrawFabric s x)).tables = s.tables ∧ ((withdrawFabric s x)).net = s.net ∧ ((withdrawFabric s x)).qps = s.qps := by
  unfold withdrawFabric; split
  · simp
  · dsimp only
    exact ⟨(by simp only [beginEpoch_same]; exact foldl_mode _ (fun s m => by (repeat' split) <;> simp) _ _), (by simp only [beginEpoch_same]; exact foldl_ready _ (fun s m => by (repeat' split) <;> simp) _ _), (by simp only [beginEpoch_same]; exact foldl_epochCtr _ (fun s m => by (repeat' split) <;> simp) _ _), (by simp only [beginEpoch_same]; exact foldl_vfEnabled _ (fun s m => by (repeat' split) <;> simp) _ _), (by simp only [beginEpoch_same]; exact foldl_dma _ (fun s m => by (repeat' split) <;> simp) _ _), (by simp only [beginEpoch_same]; exact foldl_sessions _ (fun s m => by (repeat' split) <;> simp) _ _), (by simp only [beginEpoch_same]; exact foldl_cores _ (fun s m => by (repeat' split) <;> simp) _ _), (by simp only [beginEpoch_same]; exact foldl_sec _ (fun s m => by (repeat' split) <;> simp) _ _), (by simp only [beginEpoch_same]; exact foldl_power _ (fun s m => by (repeat' split) <;> simp) _ _), (by simp only [beginEpoch_same]; exact foldl_hbm _ (fun s m => by (repeat' split) <;> simp) _ _), (by simp only [beginEpoch_same]; exact foldl_tap _ (fun s m => by (repeat' split) <;> simp) _ _), (by simp only [beginEpoch_same]; exact foldl_pins _ (fun s m => by (repeat' split) <;> simp) _ _), (by simp only [beginEpoch_same]; exact foldl_px _ (fun s m => by (repeat' split) <;> simp) _ _), (by simp only [beginEpoch_same]; exact foldl_sw _ (fun s m => by (repeat' split) <;> simp) _ _), (by simp only [beginEpoch_same]; exact foldl_tables _ (fun s m => by (repeat' split) <;> simp) _ _), (by simp only [beginEpoch_same]; exact foldl_net _ (fun s m => by (repeat' split) <;> simp) _ _), (by simp only [beginEpoch_same]; exact foldl_qps _ (fun s m => by (repeat' split) <;> simp) _ _)⟩

theorem onSession_same (fn : Nat) (k : State → Session → Bytes → State) (s : State) (e : Bytes)
    (h : ∀ x, targetOf s fn e = some x → (k s x e).mode = s.mode ∧ (k s x e).ready = s.ready ∧ (k s x e).epochCtr = s.epochCtr ∧ (k s x e).vfEnabled = s.vfEnabled ∧ (k s x e).dma = s.dma ∧ (k s x e).sessions = s.sessions ∧ (k s x e).cores = s.cores ∧ (k s x e).sec = s.sec ∧ (k s x e).power = s.power ∧ (k s x e).hbm = s.hbm ∧ (k s x e).tap = s.tap ∧ (k s x e).pins = s.pins ∧ (k s x e).px = s.px ∧ (k s x e).sw = s.sw ∧ (k s x e).tables = s.tables ∧ (k s x e).net = s.net ∧ (k s x e).fabric = s.fabric ∧ (k s x e).qps = s.qps) : (onSession fn k s e).mode = s.mode ∧ (onSession fn k s e).ready = s.ready ∧ (onSession fn k s e).epochCtr = s.epochCtr ∧ (onSession fn k s e).vfEnabled = s.vfEnabled ∧ (onSession fn k s e).dma = s.dma ∧ (onSession fn k s e).sessions = s.sessions ∧ (onSession fn k s e).cores = s.cores ∧ (onSession fn k s e).sec = s.sec ∧ (onSession fn k s e).power = s.power ∧ (onSession fn k s e).hbm = s.hbm ∧ (onSession fn k s e).tap = s.tap ∧ (onSession fn k s e).pins = s.pins ∧ (onSession fn k s e).px = s.px ∧ (onSession fn k s e).sw = s.sw ∧ (onSession fn k s e).tables = s.tables ∧ (onSession fn k s e).net = s.net ∧ (onSession fn k s e).fabric = s.fabric ∧ (onSession fn k s e).qps = s.qps := by
  unfold onSession
  split
  · simp
  · exact h _ ‹_›

@[simp] theorem bindFlow_same (s : State) (flow v : Nat) :
    ((bindFlow s flow v)).mode = s.mode ∧ ((bindFlow s flow v)).ready = s.ready ∧ ((bindFlow s flow v)).epochCtr = s.epochCtr
    ∧ ((bindFlow s flow v)).vfEnabled = s.vfEnabled ∧ ((bindFlow s flow v)).dma = s.dma
    ∧ ((bindFlow s flow v)).sessions = s.sessions ∧ ((bindFlow s flow v)).cores = s.cores ∧ ((bindFlow s flow v)).sec = s.sec
    ∧ ((bindFlow s flow v)).power = s.power ∧ ((bindFlow s flow v)).hbm = s.hbm ∧ ((bindFlow s flow v)).tap = s.tap
    ∧ ((bindFlow s flow v)).pins = s.pins ∧ ((bindFlow s flow v)).px = s.px ∧ ((bindFlow s flow v)).sw = s.sw
    ∧ ((bindFlow s flow v)).tables = s.tables ∧ ((bindFlow s flow v)).fabric = s.fabric
    ∧ ((bindFlow s flow v)).qps = s.qps := by
  unfold bindFlow; (repeat' split) <;> simp

@[simp] theorem bindFlows_same (s : State) (decode : Bool) (c : Bytes) (v : Nat) :
    ((bindFlows s decode c v)).mode = s.mode ∧ ((bindFlows s decode c v)).ready = s.ready
    ∧ ((bindFlows s decode c v)).epochCtr = s.epochCtr ∧ ((bindFlows s decode c v)).vfEnabled = s.vfEnabled
    ∧ ((bindFlows s decode c v)).dma = s.dma ∧ ((bindFlows s decode c v)).sessions = s.sessions
    ∧ ((bindFlows s decode c v)).cores = s.cores ∧ ((bindFlows s decode c v)).sec = s.sec
    ∧ ((bindFlows s decode c v)).power = s.power ∧ ((bindFlows s decode c v)).hbm = s.hbm
    ∧ ((bindFlows s decode c v)).tap = s.tap ∧ ((bindFlows s decode c v)).pins = s.pins ∧ ((bindFlows s decode c v)).px = s.px
    ∧ ((bindFlows s decode c v)).sw = s.sw ∧ ((bindFlows s decode c v)).tables = s.tables
    ∧ ((bindFlows s decode c v)).fabric = s.fabric ∧ ((bindFlows s decode c v)).qps = s.qps := by
  unfold bindFlows; simp

@[simp] theorem createSession_same (s : State) (r : CmdRef) (e c : Bytes) :
    ((createSession s r e c)).mode = s.mode ∧ ((createSession s r e c)).ready = s.ready
    ∧ ((createSession s r e c)).vfEnabled = s.vfEnabled ∧ ((createSession s r e c)).dma = s.dma
    ∧ ((createSession s r e c)).sec = s.sec ∧ ((createSession s r e c)).power = s.power ∧ ((createSession s r e c)).tap = s.tap
    ∧ ((createSession s r e c)).pins = s.pins ∧ ((createSession s r e c)).px = s.px ∧ ((createSession s r e c)).sw = s.sw
    ∧ ((createSession s r e c)).tables = s.tables := by
  unfold createSession; dsimp only; (repeat' split) <;> simp

@[simp] theorem restartFabric_same (s : State) (x : Session) :
    ((restartFabric s x)).mode = s.mode ∧ ((restartFabric s x)).ready = s.ready ∧ ((restartFabric s x)).epochCtr = s.epochCtr
    ∧ ((restartFabric s x)).vfEnabled = s.vfEnabled ∧ ((restartFabric s x)).dma = s.dma ∧ ((restartFabric s x)).cores = s.cores
    ∧ ((restartFabric s x)).sec = s.sec ∧ ((restartFabric s x)).power = s.power ∧ ((restartFabric s x)).hbm = s.hbm
    ∧ ((restartFabric s x)).tap = s.tap ∧ ((restartFabric s x)).pins = s.pins ∧ ((restartFabric s x)).px = s.px
    ∧ ((restartFabric s x)).sw = s.sw ∧ ((restartFabric s x)).tables = s.tables ∧ ((restartFabric s x)).net = s.net
    ∧ ((restartFabric s x)).qps = s.qps := by
  unfold restartFabric; (repeat' split) <;> simp

@[simp] theorem settleStop_same (s : State) (id : Nat) :
    ((settleStop s id)).mode = s.mode ∧ ((settleStop s id)).ready = s.ready ∧ ((settleStop s id)).epochCtr = s.epochCtr
    ∧ ((settleStop s id)).vfEnabled = s.vfEnabled ∧ ((settleStop s id)).dma = s.dma ∧ ((settleStop s id)).sec = s.sec
    ∧ ((settleStop s id)).power = s.power ∧ ((settleStop s id)).tap = s.tap ∧ ((settleStop s id)).pins = s.pins
    ∧ ((settleStop s id)).px = s.px ∧ ((settleStop s id)).sw = s.sw ∧ ((settleStop s id)).tables = s.tables
    ∧ ((settleStop s id)).net = s.net ∧ ((settleStop s id)).fabric = s.fabric := by
  unfold settleStop; (repeat' split) <;> simp

@[simp] theorem dropUndispatched_same (s : State) (x : Session) :
    ((dropUndispatched s x)).mode = s.mode ∧ ((dropUndispatched s x)).ready = s.ready
    ∧ ((dropUndispatched s x)).epochCtr = s.epochCtr ∧ ((dropUndispatched s x)).vfEnabled = s.vfEnabled
    ∧ ((dropUndispatched s x)).dma = s.dma ∧ ((dropUndispatched s x)).cores = s.cores ∧ ((dropUndispatched s x)).sec = s.sec
    ∧ ((dropUndispatched s x)).power = s.power ∧ ((dropUndispatched s x)).hbm = s.hbm ∧ ((dropUndispatched s x)).tap = s.tap
    ∧ ((dropUndispatched s x)).pins = s.pins ∧ ((dropUndispatched s x)).px = s.px ∧ ((dropUndispatched s x)).sw = s.sw
    ∧ ((dropUndispatched s x)).tables = s.tables ∧ ((dropUndispatched s x)).net = s.net
    ∧ ((dropUndispatched s x)).fabric = s.fabric := by
  unfold dropUndispatched; simp

@[simp] theorem stopAfter_same (s : State) (x : Session) :
    ((stopAfter s x)).mode = s.mode ∧ ((stopAfter s x)).ready = s.ready ∧ ((stopAfter s x)).epochCtr = s.epochCtr
    ∧ ((stopAfter s x)).vfEnabled = s.vfEnabled ∧ ((stopAfter s x)).dma = s.dma ∧ ((stopAfter s x)).sec = s.sec
    ∧ ((stopAfter s x)).power = s.power ∧ ((stopAfter s x)).tap = s.tap ∧ ((stopAfter s x)).pins = s.pins
    ∧ ((stopAfter s x)).px = s.px ∧ ((stopAfter s x)).sw = s.sw ∧ ((stopAfter s x)).tables = s.tables
    ∧ ((stopAfter s x)).net = s.net ∧ ((stopAfter s x)).fabric = s.fabric := by
  unfold stopAfter; simp

@[simp] theorem stopSession_same (s : State) (r : CmdRef) (x : Session) (e : Bytes) :
    ((stopSession s r x e)).mode = s.mode ∧ ((stopSession s r x e)).ready = s.ready
    ∧ ((stopSession s r x e)).vfEnabled = s.vfEnabled ∧ ((stopSession s r x e)).dma = s.dma
    ∧ ((stopSession s r x e)).sec = s.sec ∧ ((stopSession s r x e)).power = s.power ∧ ((stopSession s r x e)).tap = s.tap
    ∧ ((stopSession s r x e)).pins = s.pins ∧ ((stopSession s r x e)).px = s.px ∧ ((stopSession s r x e)).sw = s.sw
    ∧ ((stopSession s r x e)).tables = s.tables ∧ ((stopSession s r x e)).net = s.net := by
  unfold stopSession; (repeat' split) <;> simp

@[simp] theorem acceptChange_same (s : State) (r : CmdRef) (x : Session) (f : Nat) (c : Bytes) :
    ((acceptChange s r x f c)).mode = s.mode ∧ ((acceptChange s r x f c)).ready = s.ready
    ∧ ((acceptChange s r x f c)).vfEnabled = s.vfEnabled ∧ ((acceptChange s r x f c)).dma = s.dma
    ∧ ((acceptChange s r x f c)).sec = s.sec ∧ ((acceptChange s r x f c)).power = s.power
    ∧ ((acceptChange s r x f c)).tap = s.tap ∧ ((acceptChange s r x f c)).pins = s.pins ∧ ((acceptChange s r x f c)).px = s.px
    ∧ ((acceptChange s r x f c)).sw = s.sw ∧ ((acceptChange s r x f c)).tables = s.tables
    ∧ ((acceptChange s r x f c)).net = s.net := by
  unfold acceptChange; dsimp only; (repeat' apply And.intro) <;> (first | rfl | simp | (repeat' split) <;> simp)

@[simp] theorem closeBuffer_same (s : State) (x : Session) (detail : Nat) :
    ((closeBuffer s x detail).1).mode = s.mode ∧ ((closeBuffer s x detail).1).ready = s.ready
    ∧ ((closeBuffer s x detail).1).epochCtr = s.epochCtr ∧ ((closeBuffer s x detail).1).vfEnabled = s.vfEnabled
    ∧ ((closeBuffer s x detail).1).dma = s.dma ∧ ((closeBuffer s x detail).1).sessions = s.sessions
    ∧ ((closeBuffer s x detail).1).cores = s.cores ∧ ((closeBuffer s x detail).1).sec = s.sec
    ∧ ((closeBuffer s x detail).1).power = s.power ∧ ((closeBuffer s x detail).1).tap = s.tap
    ∧ ((closeBuffer s x detail).1).pins = s.pins ∧ ((closeBuffer s x detail).1).px = s.px
    ∧ ((closeBuffer s x detail).1).sw = s.sw ∧ ((closeBuffer s x detail).1).tables = s.tables
    ∧ ((closeBuffer s x detail).1).net = s.net ∧ ((closeBuffer s x detail).1).fabric = s.fabric := by
  unfold closeBuffer; (repeat' split) <;> simp

@[simp] theorem pourItem_same (n : Nat) (s : State) (x : Session) :
    ((pourItem n s x).1).mode = s.mode ∧ ((pourItem n s x).1).ready = s.ready ∧ ((pourItem n s x).1).epochCtr = s.epochCtr
    ∧ ((pourItem n s x).1).vfEnabled = s.vfEnabled ∧ ((pourItem n s x).1).dma = s.dma
    ∧ ((pourItem n s x).1).sessions = s.sessions ∧ ((pourItem n s x).1).cores = s.cores ∧ ((pourItem n s x).1).sec = s.sec
    ∧ ((pourItem n s x).1).power = s.power ∧ ((pourItem n s x).1).tap = s.tap ∧ ((pourItem n s x).1).pins = s.pins
    ∧ ((pourItem n s x).1).px = s.px ∧ ((pourItem n s x).1).sw = s.sw ∧ ((pourItem n s x).1).tables = s.tables
    ∧ ((pourItem n s x).1).net = s.net ∧ ((pourItem n s x).1).fabric = s.fabric := by
  induction n generalizing s x <;> unfold pourItem <;> dsimp only <;> (repeat' split) <;> simp [*]

@[simp] theorem settleFlush_same (s : State) (x : Session) :
    ((settleFlush s x)).mode = s.mode ∧ ((settleFlush s x)).ready = s.ready ∧ ((settleFlush s x)).epochCtr = s.epochCtr
    ∧ ((settleFlush s x)).vfEnabled = s.vfEnabled ∧ ((settleFlush s x)).dma = s.dma ∧ ((settleFlush s x)).sessions = s.sessions
    ∧ ((settleFlush s x)).cores = s.cores ∧ ((settleFlush s x)).sec = s.sec ∧ ((settleFlush s x)).power = s.power
    ∧ ((settleFlush s x)).hbm = s.hbm ∧ ((settleFlush s x)).tap = s.tap ∧ ((settleFlush s x)).pins = s.pins
    ∧ ((settleFlush s x)).px = s.px ∧ ((settleFlush s x)).sw = s.sw ∧ ((settleFlush s x)).tables = s.tables
    ∧ ((settleFlush s x)).net = s.net ∧ ((settleFlush s x)).fabric = s.fabric := by
  unfold settleFlush; simp

@[simp] theorem settleOutput_same (s : State) (id : Nat) :
    ((settleOutput s id)).mode = s.mode ∧ ((settleOutput s id)).ready = s.ready ∧ ((settleOutput s id)).epochCtr = s.epochCtr
    ∧ ((settleOutput s id)).vfEnabled = s.vfEnabled ∧ ((settleOutput s id)).dma = s.dma ∧ ((settleOutput s id)).sec = s.sec
    ∧ ((settleOutput s id)).power = s.power ∧ ((settleOutput s id)).tap = s.tap ∧ ((settleOutput s id)).pins = s.pins
    ∧ ((settleOutput s id)).px = s.px ∧ ((settleOutput s id)).sw = s.sw ∧ ((settleOutput s id)).tables = s.tables
    ∧ ((settleOutput s id)).net = s.net ∧ ((settleOutput s id)).fabric = s.fabric := by
  unfold settleOutput; dsimp only; (repeat' apply And.intro) <;> (first | rfl | simp | (repeat' split) <;> simp)

@[simp] theorem tabSet_same (s : State) (x : TableState) :
    ((tabSet s x)).mode = s.mode ∧ ((tabSet s x)).ready = s.ready ∧ ((tabSet s x)).epochCtr = s.epochCtr
    ∧ ((tabSet s x)).vfEnabled = s.vfEnabled ∧ ((tabSet s x)).dma = s.dma ∧ ((tabSet s x)).sessions = s.sessions
    ∧ ((tabSet s x)).cores = s.cores ∧ ((tabSet s x)).sec = s.sec ∧ ((tabSet s x)).power = s.power ∧ ((tabSet s x)).hbm = s.hbm
    ∧ ((tabSet s x)).tap = s.tap ∧ ((tabSet s x)).pins = s.pins ∧ ((tabSet s x)).px = s.px ∧ ((tabSet s x)).sw = s.sw
    ∧ ((tabSet s x)).net = s.net ∧ ((tabSet s x)).fabric = s.fabric ∧ ((tabSet s x)).qps = s.qps := by
  unfold tabSet; simp

@[simp] theorem lookup_same (s : State) (h : EthHead) :
    ((lookup s h).2).mode = s.mode ∧ ((lookup s h).2).ready = s.ready ∧ ((lookup s h).2).epochCtr = s.epochCtr
    ∧ ((lookup s h).2).vfEnabled = s.vfEnabled ∧ ((lookup s h).2).dma = s.dma ∧ ((lookup s h).2).sessions = s.sessions
    ∧ ((lookup s h).2).cores = s.cores ∧ ((lookup s h).2).sec = s.sec ∧ ((lookup s h).2).power = s.power
    ∧ ((lookup s h).2).hbm = s.hbm ∧ ((lookup s h).2).tap = s.tap ∧ ((lookup s h).2).pins = s.pins ∧ ((lookup s h).2).px = s.px
    ∧ ((lookup s h).2).sw = s.sw ∧ ((lookup s h).2).net = s.net ∧ ((lookup s h).2).fabric = s.fabric
    ∧ ((lookup s h).2).qps = s.qps := by
  unfold lookup; dsimp only; (repeat' apply And.intro) <;> (first | rfl | simp | (repeat' split) <;> simp)

@[simp] theorem learnNew_same (s : State) (q : LearnReq) :
    ((learnNew s q)).mode = s.mode ∧ ((learnNew s q)).ready = s.ready ∧ ((learnNew s q)).epochCtr = s.epochCtr
    ∧ ((learnNew s q)).vfEnabled = s.vfEnabled ∧ ((learnNew s q)).dma = s.dma ∧ ((learnNew s q)).sessions = s.sessions
    ∧ ((learnNew s q)).cores = s.cores ∧ ((learnNew s q)).sec = s.sec ∧ ((learnNew s q)).power = s.power
    ∧ ((learnNew s q)).hbm = s.hbm ∧ ((learnNew s q)).tap = s.tap ∧ ((learnNew s q)).pins = s.pins ∧ ((learnNew s q)).px = s.px
    ∧ ((learnNew s q)).sw = s.sw ∧ ((learnNew s q)).net = s.net ∧ ((learnNew s q)).fabric = s.fabric
    ∧ ((learnNew s q)).qps = s.qps := by
  unfold learnNew; grind [tabSet_same]

@[simp] theorem countFlap_same (s : State) (port : Nat) :
    ((countFlap s port)).mode = s.mode ∧ ((countFlap s port)).ready = s.ready ∧ ((countFlap s port)).epochCtr = s.epochCtr
    ∧ ((countFlap s port)).vfEnabled = s.vfEnabled ∧ ((countFlap s port)).dma = s.dma
    ∧ ((countFlap s port)).sessions = s.sessions ∧ ((countFlap s port)).cores = s.cores ∧ ((countFlap s port)).sec = s.sec
    ∧ ((countFlap s port)).power = s.power ∧ ((countFlap s port)).hbm = s.hbm ∧ ((countFlap s port)).tap = s.tap
    ∧ ((countFlap s port)).pins = s.pins ∧ ((countFlap s port)).px = s.px ∧ ((countFlap s port)).sw = s.sw
    ∧ ((countFlap s port)).net = s.net ∧ ((countFlap s port)).fabric = s.fabric ∧ ((countFlap s port)).qps = s.qps := by
  unfold countFlap; simp

@[simp] theorem moveEntry_same (s : State) (q : LearnReq) (k : Nat) (e : EmtEntry) :
    ((moveEntry s q k e)).mode = s.mode ∧ ((moveEntry s q k e)).ready = s.ready ∧ ((moveEntry s q k e)).epochCtr = s.epochCtr
    ∧ ((moveEntry s q k e)).vfEnabled = s.vfEnabled ∧ ((moveEntry s q k e)).dma = s.dma
    ∧ ((moveEntry s q k e)).sessions = s.sessions ∧ ((moveEntry s q k e)).cores = s.cores ∧ ((moveEntry s q k e)).sec = s.sec
    ∧ ((moveEntry s q k e)).power = s.power ∧ ((moveEntry s q k e)).hbm = s.hbm ∧ ((moveEntry s q k e)).tap = s.tap
    ∧ ((moveEntry s q k e)).pins = s.pins ∧ ((moveEntry s q k e)).px = s.px ∧ ((moveEntry s q k e)).sw = s.sw
    ∧ ((moveEntry s q k e)).net = s.net ∧ ((moveEntry s q k e)).fabric = s.fabric ∧ ((moveEntry s q k e)).qps = s.qps := by
  unfold moveEntry; simp

@[simp] theorem judge_same (s : State) (q : LearnReq) :
    ((judge s q)).mode = s.mode ∧ ((judge s q)).ready = s.ready ∧ ((judge s q)).epochCtr = s.epochCtr
    ∧ ((judge s q)).vfEnabled = s.vfEnabled ∧ ((judge s q)).dma = s.dma ∧ ((judge s q)).sessions = s.sessions
    ∧ ((judge s q)).cores = s.cores ∧ ((judge s q)).sec = s.sec ∧ ((judge s q)).power = s.power ∧ ((judge s q)).hbm = s.hbm
    ∧ ((judge s q)).tap = s.tap ∧ ((judge s q)).pins = s.pins ∧ ((judge s q)).px = s.px ∧ ((judge s q)).sw = s.sw
    ∧ ((judge s q)).net = s.net ∧ ((judge s q)).fabric = s.fabric ∧ ((judge s q)).qps = s.qps := by
  unfold judge; (repeat' split) <;> simp

@[simp] theorem flowSet_same (s : State) (f : Nat) (x : FlowRecord) :
    ((flowSet s f x)).mode = s.mode ∧ ((flowSet s f x)).ready = s.ready ∧ ((flowSet s f x)).epochCtr = s.epochCtr
    ∧ ((flowSet s f x)).vfEnabled = s.vfEnabled ∧ ((flowSet s f x)).dma = s.dma ∧ ((flowSet s f x)).sessions = s.sessions
    ∧ ((flowSet s f x)).cores = s.cores ∧ ((flowSet s f x)).sec = s.sec ∧ ((flowSet s f x)).power = s.power
    ∧ ((flowSet s f x)).hbm = s.hbm ∧ ((flowSet s f x)).tap = s.tap ∧ ((flowSet s f x)).pins = s.pins
    ∧ ((flowSet s f x)).px = s.px ∧ ((flowSet s f x)).sw = s.sw ∧ ((flowSet s f x)).tables = s.tables
    ∧ ((flowSet s f x)).fabric = s.fabric ∧ ((flowSet s f x)).qps = s.qps := by
  unfold flowSet; simp

@[simp] theorem countFlow_same (s : State) (f k n : Nat) :
    ((countFlow s f k n)).mode = s.mode ∧ ((countFlow s f k n)).ready = s.ready ∧ ((countFlow s f k n)).epochCtr = s.epochCtr
    ∧ ((countFlow s f k n)).vfEnabled = s.vfEnabled ∧ ((countFlow s f k n)).dma = s.dma
    ∧ ((countFlow s f k n)).sessions = s.sessions ∧ ((countFlow s f k n)).cores = s.cores ∧ ((countFlow s f k n)).sec = s.sec
    ∧ ((countFlow s f k n)).power = s.power ∧ ((countFlow s f k n)).hbm = s.hbm ∧ ((countFlow s f k n)).tap = s.tap
    ∧ ((countFlow s f k n)).pins = s.pins ∧ ((countFlow s f k n)).px = s.px ∧ ((countFlow s f k n)).sw = s.sw
    ∧ ((countFlow s f k n)).tables = s.tables ∧ ((countFlow s f k n)).fabric = s.fabric
    ∧ ((countFlow s f k n)).qps = s.qps := by
  unfold countFlow; simp

@[simp] theorem meterPut_same (s : State) (m : Nat) (x : Meter) :
    ((meterPut s m x)).mode = s.mode ∧ ((meterPut s m x)).ready = s.ready ∧ ((meterPut s m x)).epochCtr = s.epochCtr
    ∧ ((meterPut s m x)).vfEnabled = s.vfEnabled ∧ ((meterPut s m x)).dma = s.dma ∧ ((meterPut s m x)).sessions = s.sessions
    ∧ ((meterPut s m x)).cores = s.cores ∧ ((meterPut s m x)).sec = s.sec ∧ ((meterPut s m x)).power = s.power
    ∧ ((meterPut s m x)).hbm = s.hbm ∧ ((meterPut s m x)).tap = s.tap ∧ ((meterPut s m x)).pins = s.pins
    ∧ ((meterPut s m x)).px = s.px ∧ ((meterPut s m x)).sw = s.sw ∧ ((meterPut s m x)).tables = s.tables
    ∧ ((meterPut s m x)).fabric = s.fabric ∧ ((meterPut s m x)).qps = s.qps := by
  unfold meterPut; simp

@[simp] theorem meterPacket_same (s : State) (k len : Nat) (yellow : Bool) :
    ((meterPacket s k len yellow).2).mode = s.mode ∧ ((meterPacket s k len yellow).2).ready = s.ready
    ∧ ((meterPacket s k len yellow).2).epochCtr = s.epochCtr ∧ ((meterPacket s k len yellow).2).vfEnabled = s.vfEnabled
    ∧ ((meterPacket s k len yellow).2).dma = s.dma ∧ ((meterPacket s k len yellow).2).sessions = s.sessions
    ∧ ((meterPacket s k len yellow).2).cores = s.cores ∧ ((meterPacket s k len yellow).2).sec = s.sec
    ∧ ((meterPacket s k len yellow).2).power = s.power ∧ ((meterPacket s k len yellow).2).hbm = s.hbm
    ∧ ((meterPacket s k len yellow).2).tap = s.tap ∧ ((meterPacket s k len yellow).2).pins = s.pins
    ∧ ((meterPacket s k len yellow).2).px = s.px ∧ ((meterPacket s k len yellow).2).sw = s.sw
    ∧ ((meterPacket s k len yellow).2).tables = s.tables ∧ ((meterPacket s k len yellow).2).fabric = s.fabric
    ∧ ((meterPacket s k len yellow).2).qps = s.qps := by
  unfold meterPacket; simp

@[simp] theorem subSet_same (s : State) (n : Nat) (x : Subscriber) :
    ((subSet s n x)).mode = s.mode ∧ ((subSet s n x)).ready = s.ready ∧ ((subSet s n x)).epochCtr = s.epochCtr
    ∧ ((subSet s n x)).vfEnabled = s.vfEnabled ∧ ((subSet s n x)).dma = s.dma ∧ ((subSet s n x)).sessions = s.sessions
    ∧ ((subSet s n x)).cores = s.cores ∧ ((subSet s n x)).sec = s.sec ∧ ((subSet s n x)).power = s.power
    ∧ ((subSet s n x)).hbm = s.hbm ∧ ((subSet s n x)).tap = s.tap ∧ ((subSet s n x)).pins = s.pins ∧ ((subSet s n x)).px = s.px
    ∧ ((subSet s n x)).sw = s.sw ∧ ((subSet s n x)).tables = s.tables ∧ ((subSet s n x)).fabric = s.fabric
    ∧ ((subSet s n x)).qps = s.qps := by
  unfold subSet; simp

@[simp] theorem queueSet_same (s : State) (q : Nat) (x : EgressQueue) :
    ((queueSet s q x)).mode = s.mode ∧ ((queueSet s q x)).ready = s.ready ∧ ((queueSet s q x)).epochCtr = s.epochCtr
    ∧ ((queueSet s q x)).vfEnabled = s.vfEnabled ∧ ((queueSet s q x)).dma = s.dma ∧ ((queueSet s q x)).sessions = s.sessions
    ∧ ((queueSet s q x)).cores = s.cores ∧ ((queueSet s q x)).sec = s.sec ∧ ((queueSet s q x)).power = s.power
    ∧ ((queueSet s q x)).hbm = s.hbm ∧ ((queueSet s q x)).tap = s.tap ∧ ((queueSet s q x)).pins = s.pins
    ∧ ((queueSet s q x)).px = s.px ∧ ((queueSet s q x)).sw = s.sw ∧ ((queueSet s q x)).tables = s.tables
    ∧ ((queueSet s q x)).fabric = s.fabric ∧ ((queueSet s q x)).qps = s.qps := by
  unfold queueSet; simp

@[simp] theorem shaperSend_same (s : State) (n len tag : Nat) (last : Bool) :
    ((shaperSend s n len tag last)).mode = s.mode ∧ ((shaperSend s n len tag last)).ready = s.ready
    ∧ ((shaperSend s n len tag last)).epochCtr = s.epochCtr ∧ ((shaperSend s n len tag last)).vfEnabled = s.vfEnabled
    ∧ ((shaperSend s n len tag last)).dma = s.dma ∧ ((shaperSend s n len tag last)).sessions = s.sessions
    ∧ ((shaperSend s n len tag last)).cores = s.cores ∧ ((shaperSend s n len tag last)).sec = s.sec
    ∧ ((shaperSend s n len tag last)).power = s.power ∧ ((shaperSend s n len tag last)).hbm = s.hbm
    ∧ ((shaperSend s n len tag last)).tap = s.tap ∧ ((shaperSend s n len tag last)).pins = s.pins
    ∧ ((shaperSend s n len tag last)).px = s.px ∧ ((shaperSend s n len tag last)).sw = s.sw
    ∧ ((shaperSend s n len tag last)).tables = s.tables ∧ ((shaperSend s n len tag last)).fabric = s.fabric
    ∧ ((shaperSend s n len tag last)).qps = s.qps := by
  unfold shaperSend; simp

@[simp] theorem mergeSet_same (s : State) (f : Nat) (m : MergeState) :
    ((mergeSet s f m)).mode = s.mode ∧ ((mergeSet s f m)).ready = s.ready ∧ ((mergeSet s f m)).epochCtr = s.epochCtr
    ∧ ((mergeSet s f m)).vfEnabled = s.vfEnabled ∧ ((mergeSet s f m)).dma = s.dma ∧ ((mergeSet s f m)).sessions = s.sessions
    ∧ ((mergeSet s f m)).cores = s.cores ∧ ((mergeSet s f m)).sec = s.sec ∧ ((mergeSet s f m)).power = s.power
    ∧ ((mergeSet s f m)).hbm = s.hbm ∧ ((mergeSet s f m)).tap = s.tap ∧ ((mergeSet s f m)).pins = s.pins
    ∧ ((mergeSet s f m)).px = s.px ∧ ((mergeSet s f m)).sw = s.sw ∧ ((mergeSet s f m)).tables = s.tables
    ∧ ((mergeSet s f m)).fabric = s.fabric ∧ ((mergeSet s f m)).qps = s.qps := by
  unfold mergeSet; simp

@[simp] theorem swSet_same (s : State) (x : SwitchState) :
    ((swSet s x)).mode = s.mode ∧ ((swSet s x)).ready = s.ready ∧ ((swSet s x)).epochCtr = s.epochCtr
    ∧ ((swSet s x)).vfEnabled = s.vfEnabled ∧ ((swSet s x)).dma = s.dma ∧ ((swSet s x)).sessions = s.sessions
    ∧ ((swSet s x)).cores = s.cores ∧ ((swSet s x)).sec = s.sec ∧ ((swSet s x)).power = s.power ∧ ((swSet s x)).hbm = s.hbm
    ∧ ((swSet s x)).tap = s.tap ∧ ((swSet s x)).pins = s.pins ∧ ((swSet s x)).px = s.px ∧ ((swSet s x)).tables = s.tables
    ∧ ((swSet s x)).net = s.net ∧ ((swSet s x)).fabric = s.fabric ∧ ((swSet s x)).qps = s.qps := by
  unfold swSet; simp

@[simp] theorem countPort_same (s : State) (p k : Nat) :
    ((countPort s p k)).mode = s.mode ∧ ((countPort s p k)).ready = s.ready ∧ ((countPort s p k)).epochCtr = s.epochCtr
    ∧ ((countPort s p k)).vfEnabled = s.vfEnabled ∧ ((countPort s p k)).dma = s.dma ∧ ((countPort s p k)).sessions = s.sessions
    ∧ ((countPort s p k)).cores = s.cores ∧ ((countPort s p k)).sec = s.sec ∧ ((countPort s p k)).power = s.power
    ∧ ((countPort s p k)).hbm = s.hbm ∧ ((countPort s p k)).tap = s.tap ∧ ((countPort s p k)).pins = s.pins
    ∧ ((countPort s p k)).px = s.px ∧ ((countPort s p k)).tables = s.tables ∧ ((countPort s p k)).net = s.net
    ∧ ((countPort s p k)).fabric = s.fabric ∧ ((countPort s p k)).qps = s.qps := by
  unfold countPort; simp

@[simp] theorem countEth_same (s : State) (p k n : Nat) :
    ((countEth s p k n)).mode = s.mode ∧ ((countEth s p k n)).ready = s.ready ∧ ((countEth s p k n)).epochCtr = s.epochCtr
    ∧ ((countEth s p k n)).vfEnabled = s.vfEnabled ∧ ((countEth s p k n)).dma = s.dma
    ∧ ((countEth s p k n)).sessions = s.sessions ∧ ((countEth s p k n)).cores = s.cores ∧ ((countEth s p k n)).sec = s.sec
    ∧ ((countEth s p k n)).power = s.power ∧ ((countEth s p k n)).hbm = s.hbm ∧ ((countEth s p k n)).tap = s.tap
    ∧ ((countEth s p k n)).pins = s.pins ∧ ((countEth s p k n)).px = s.px ∧ ((countEth s p k n)).sw = s.sw
    ∧ ((countEth s p k n)).tables = s.tables ∧ ((countEth s p k n)).fabric = s.fabric ∧ ((countEth s p k n)).qps = s.qps := by
  unfold countEth; simp

@[simp] theorem countRules_same (s : State) (dir port flow verdict : Nat) :
    ((countRules s dir port flow verdict).2).mode = s.mode ∧ ((countRules s dir port flow verdict).2).ready = s.ready
    ∧ ((countRules s dir port flow verdict).2).epochCtr = s.epochCtr
    ∧ ((countRules s dir port flow verdict).2).vfEnabled = s.vfEnabled ∧ ((countRules s dir port flow verdict).2).dma = s.dma
    ∧ ((countRules s dir port flow verdict).2).sessions = s.sessions ∧ ((countRules s dir port flow verdict).2).cores = s.cores
    ∧ ((countRules s dir port flow verdict).2).sec = s.sec ∧ ((countRules s dir port flow verdict).2).power = s.power
    ∧ ((countRules s dir port flow verdict).2).hbm = s.hbm ∧ ((countRules s dir port flow verdict).2).tap = s.tap
    ∧ ((countRules s dir port flow verdict).2).pins = s.pins ∧ ((countRules s dir port flow verdict).2).px = s.px
    ∧ ((countRules s dir port flow verdict).2).tables = s.tables ∧ ((countRules s dir port flow verdict).2).net = s.net
    ∧ ((countRules s dir port flow verdict).2).fabric = s.fabric ∧ ((countRules s dir port flow verdict).2).qps = s.qps := by
  unfold countRules; simp

@[simp] theorem writeCapture_same (s : State) (rec : Nat → Bytes) :
    ((writeCapture s rec)).mode = s.mode ∧ ((writeCapture s rec)).ready = s.ready ∧ ((writeCapture s rec)).epochCtr = s.epochCtr
    ∧ ((writeCapture s rec)).vfEnabled = s.vfEnabled ∧ ((writeCapture s rec)).dma = s.dma
    ∧ ((writeCapture s rec)).sessions = s.sessions ∧ ((writeCapture s rec)).cores = s.cores ∧ ((writeCapture s rec)).sec = s.sec
    ∧ ((writeCapture s rec)).power = s.power ∧ ((writeCapture s rec)).tap = s.tap ∧ ((writeCapture s rec)).pins = s.pins
    ∧ ((writeCapture s rec)).px = s.px ∧ ((writeCapture s rec)).tables = s.tables ∧ ((writeCapture s rec)).net = s.net
    ∧ ((writeCapture s rec)).fabric = s.fabric ∧ ((writeCapture s rec)).qps = s.qps := by
  unfold writeCapture; simp

@[simp] theorem capture_same (s : State) (dir port verdict queue sub : Nat) (cut : Bool) (time : Int) (head : Bytes) (b : Buffer) :
    ((capture s dir port verdict queue sub cut time head b)).mode = s.mode
    ∧ ((capture s dir port verdict queue sub cut time head b)).ready = s.ready
    ∧ ((capture s dir port verdict queue sub cut time head b)).epochCtr = s.epochCtr
    ∧ ((capture s dir port verdict queue sub cut time head b)).vfEnabled = s.vfEnabled
    ∧ ((capture s dir port verdict queue sub cut time head b)).dma = s.dma
    ∧ ((capture s dir port verdict queue sub cut time head b)).sessions = s.sessions
    ∧ ((capture s dir port verdict queue sub cut time head b)).cores = s.cores
    ∧ ((capture s dir port verdict queue sub cut time head b)).sec = s.sec
    ∧ ((capture s dir port verdict queue sub cut time head b)).power = s.power
    ∧ ((capture s dir port verdict queue sub cut time head b)).tap = s.tap
    ∧ ((capture s dir port verdict queue sub cut time head b)).pins = s.pins
    ∧ ((capture s dir port verdict queue sub cut time head b)).px = s.px
    ∧ ((capture s dir port verdict queue sub cut time head b)).tables = s.tables
    ∧ ((capture s dir port verdict queue sub cut time head b)).net = s.net
    ∧ ((capture s dir port verdict queue sub cut time head b)).fabric = s.fabric
    ∧ ((capture s dir port verdict queue sub cut time head b)).qps = s.qps := by
  unfold capture; simp

@[simp] theorem captureIn_same (s : State) (verdict : Nat) (cut : Bool) (b : Buffer) :
    ((captureIn s verdict cut b)).mode = s.mode ∧ ((captureIn s verdict cut b)).ready = s.ready
    ∧ ((captureIn s verdict cut b)).epochCtr = s.epochCtr ∧ ((captureIn s verdict cut b)).vfEnabled = s.vfEnabled
    ∧ ((captureIn s verdict cut b)).dma = s.dma ∧ ((captureIn s verdict cut b)).sessions = s.sessions
    ∧ ((captureIn s verdict cut b)).cores = s.cores ∧ ((captureIn s verdict cut b)).sec = s.sec
    ∧ ((captureIn s verdict cut b)).power = s.power ∧ ((captureIn s verdict cut b)).tap = s.tap
    ∧ ((captureIn s verdict cut b)).pins = s.pins ∧ ((captureIn s verdict cut b)).px = s.px
    ∧ ((captureIn s verdict cut b)).tables = s.tables ∧ ((captureIn s verdict cut b)).net = s.net
    ∧ ((captureIn s verdict cut b)).fabric = s.fabric ∧ ((captureIn s verdict cut b)).qps = s.qps := by
  unfold captureIn; simp

@[simp] theorem poolPut_same (s : State) (k : Nat) (p : Pool) :
    ((poolPut s k p)).mode = s.mode ∧ ((poolPut s k p)).ready = s.ready ∧ ((poolPut s k p)).epochCtr = s.epochCtr
    ∧ ((poolPut s k p)).vfEnabled = s.vfEnabled ∧ ((poolPut s k p)).dma = s.dma ∧ ((poolPut s k p)).sessions = s.sessions
    ∧ ((poolPut s k p)).cores = s.cores ∧ ((poolPut s k p)).sec = s.sec ∧ ((poolPut s k p)).power = s.power
    ∧ ((poolPut s k p)).hbm = s.hbm ∧ ((poolPut s k p)).tap = s.tap ∧ ((poolPut s k p)).pins = s.pins
    ∧ ((poolPut s k p)).px = s.px ∧ ((poolPut s k p)).tables = s.tables ∧ ((poolPut s k p)).net = s.net
    ∧ ((poolPut s k p)).fabric = s.fabric ∧ ((poolPut s k p)).qps = s.qps := by
  unfold poolPut; simp

@[simp] theorem sendPfc_same (s : State) (mask : Nat) (xoff : Bool) :
    ((sendPfc s mask xoff)).mode = s.mode ∧ ((sendPfc s mask xoff)).ready = s.ready
    ∧ ((sendPfc s mask xoff)).epochCtr = s.epochCtr ∧ ((sendPfc s mask xoff)).vfEnabled = s.vfEnabled
    ∧ ((sendPfc s mask xoff)).dma = s.dma ∧ ((sendPfc s mask xoff)).sessions = s.sessions
    ∧ ((sendPfc s mask xoff)).cores = s.cores ∧ ((sendPfc s mask xoff)).sec = s.sec ∧ ((sendPfc s mask xoff)).power = s.power
    ∧ ((sendPfc s mask xoff)).hbm = s.hbm ∧ ((sendPfc s mask xoff)).tap = s.tap ∧ ((sendPfc s mask xoff)).pins = s.pins
    ∧ ((sendPfc s mask xoff)).px = s.px ∧ ((sendPfc s mask xoff)).sw = s.sw ∧ ((sendPfc s mask xoff)).tables = s.tables
    ∧ ((sendPfc s mask xoff)).fabric = s.fabric ∧ ((sendPfc s mask xoff)).qps = s.qps := by
  unfold sendPfc; dsimp only; (repeat' split) <;> simp

@[simp] theorem settlePool_same (s : State) (k : Nat) :
    ((settlePool s k)).mode = s.mode ∧ ((settlePool s k)).ready = s.ready ∧ ((settlePool s k)).epochCtr = s.epochCtr
    ∧ ((settlePool s k)).vfEnabled = s.vfEnabled ∧ ((settlePool s k)).dma = s.dma ∧ ((settlePool s k)).sessions = s.sessions
    ∧ ((settlePool s k)).cores = s.cores ∧ ((settlePool s k)).sec = s.sec ∧ ((settlePool s k)).power = s.power
    ∧ ((settlePool s k)).hbm = s.hbm ∧ ((settlePool s k)).tap = s.tap ∧ ((settlePool s k)).pins = s.pins
    ∧ ((settlePool s k)).px = s.px ∧ ((settlePool s k)).tables = s.tables ∧ ((settlePool s k)).fabric = s.fabric
    ∧ ((settlePool s k)).qps = s.qps := by
  unfold settlePool; simp

@[simp] theorem allocate_same (s : State) (k requester colour : Nat) :
    ((allocate s k requester colour).2).mode = s.mode ∧ ((allocate s k requester colour).2).ready = s.ready
    ∧ ((allocate s k requester colour).2).epochCtr = s.epochCtr ∧ ((allocate s k requester colour).2).vfEnabled = s.vfEnabled
    ∧ ((allocate s k requester colour).2).dma = s.dma ∧ ((allocate s k requester colour).2).sessions = s.sessions
    ∧ ((allocate s k requester colour).2).cores = s.cores ∧ ((allocate s k requester colour).2).sec = s.sec
    ∧ ((allocate s k requester colour).2).power = s.power ∧ ((allocate s k requester colour).2).hbm = s.hbm
    ∧ ((allocate s k requester colour).2).tap = s.tap ∧ ((allocate s k requester colour).2).pins = s.pins
    ∧ ((allocate s k requester colour).2).px = s.px ∧ ((allocate s k requester colour).2).tables = s.tables
    ∧ ((allocate s k requester colour).2).fabric = s.fabric ∧ ((allocate s k requester colour).2).qps = s.qps := by
  unfold allocate; dsimp only; (repeat' apply And.intro) <;> (first | rfl | simp | (repeat' split) <;> simp)

@[simp] theorem giveBack_same (s : State) (id : Nat) (b : Buffer) (readback : Bool) :
    ((giveBack s id b readback)).mode = s.mode ∧ ((giveBack s id b readback)).ready = s.ready
    ∧ ((giveBack s id b readback)).epochCtr = s.epochCtr ∧ ((giveBack s id b readback)).vfEnabled = s.vfEnabled
    ∧ ((giveBack s id b readback)).dma = s.dma ∧ ((giveBack s id b readback)).sessions = s.sessions
    ∧ ((giveBack s id b readback)).cores = s.cores ∧ ((giveBack s id b readback)).sec = s.sec
    ∧ ((giveBack s id b readback)).power = s.power ∧ ((giveBack s id b readback)).hbm = s.hbm
    ∧ ((giveBack s id b readback)).tap = s.tap ∧ ((giveBack s id b readback)).pins = s.pins
    ∧ ((giveBack s id b readback)).px = s.px ∧ ((giveBack s id b readback)).tables = s.tables
    ∧ ((giveBack s id b readback)).fabric = s.fabric ∧ ((giveBack s id b readback)).qps = s.qps := by
  unfold giveBack; simp

@[simp] theorem fillBuffer_same (s : State) (k : Nat) (b : Buffer) (owner : Nat) :
    ((fillBuffer s k b owner).2).mode = s.mode ∧ ((fillBuffer s k b owner).2).ready = s.ready
    ∧ ((fillBuffer s k b owner).2).epochCtr = s.epochCtr ∧ ((fillBuffer s k b owner).2).vfEnabled = s.vfEnabled
    ∧ ((fillBuffer s k b owner).2).dma = s.dma ∧ ((fillBuffer s k b owner).2).sessions = s.sessions
    ∧ ((fillBuffer s k b owner).2).cores = s.cores ∧ ((fillBuffer s k b owner).2).sec = s.sec
    ∧ ((fillBuffer s k b owner).2).power = s.power ∧ ((fillBuffer s k b owner).2).hbm = s.hbm
    ∧ ((fillBuffer s k b owner).2).tap = s.tap ∧ ((fillBuffer s k b owner).2).pins = s.pins
    ∧ ((fillBuffer s k b owner).2).px = s.px ∧ ((fillBuffer s k b owner).2).tables = s.tables
    ∧ ((fillBuffer s k b owner).2).net = s.net ∧ ((fillBuffer s k b owner).2).fabric = s.fabric
    ∧ ((fillBuffer s k b owner).2).qps = s.qps := by
  unfold fillBuffer; simp

@[simp] theorem bufPut_same (s : State) (id : Nat) (b : Buffer) :
    ((bufPut s id b)).mode = s.mode ∧ ((bufPut s id b)).ready = s.ready ∧ ((bufPut s id b)).epochCtr = s.epochCtr
    ∧ ((bufPut s id b)).vfEnabled = s.vfEnabled ∧ ((bufPut s id b)).dma = s.dma ∧ ((bufPut s id b)).sessions = s.sessions
    ∧ ((bufPut s id b)).cores = s.cores ∧ ((bufPut s id b)).sec = s.sec ∧ ((bufPut s id b)).power = s.power
    ∧ ((bufPut s id b)).hbm = s.hbm ∧ ((bufPut s id b)).tap = s.tap ∧ ((bufPut s id b)).pins = s.pins
    ∧ ((bufPut s id b)).px = s.px ∧ ((bufPut s id b)).tables = s.tables ∧ ((bufPut s id b)).net = s.net
    ∧ ((bufPut s id b)).fabric = s.fabric ∧ ((bufPut s id b)).qps = s.qps := by
  unfold bufPut; simp

@[simp] theorem leaveCount_same (s : State) (id : Nat) (readback : Bool) :
    ((leaveCount s id readback)).mode = s.mode ∧ ((leaveCount s id readback)).ready = s.ready
    ∧ ((leaveCount s id readback)).epochCtr = s.epochCtr ∧ ((leaveCount s id readback)).vfEnabled = s.vfEnabled
    ∧ ((leaveCount s id readback)).dma = s.dma ∧ ((leaveCount s id readback)).sessions = s.sessions
    ∧ ((leaveCount s id readback)).cores = s.cores ∧ ((leaveCount s id readback)).sec = s.sec
    ∧ ((leaveCount s id readback)).power = s.power ∧ ((leaveCount s id readback)).hbm = s.hbm
    ∧ ((leaveCount s id readback)).tap = s.tap ∧ ((leaveCount s id readback)).pins = s.pins
    ∧ ((leaveCount s id readback)).px = s.px ∧ ((leaveCount s id readback)).tables = s.tables
    ∧ ((leaveCount s id readback)).fabric = s.fabric ∧ ((leaveCount s id readback)).qps = s.qps := by
  unfold leaveCount; (repeat' split) <;> simp

@[simp] theorem badFree_same (s : State) (id : Nat) (double : Bool) :
    ((badFree s id double)).mode = s.mode ∧ ((badFree s id double)).ready = s.ready
    ∧ ((badFree s id double)).epochCtr = s.epochCtr ∧ ((badFree s id double)).vfEnabled = s.vfEnabled
    ∧ ((badFree s id double)).dma = s.dma ∧ ((badFree s id double)).sessions = s.sessions
    ∧ ((badFree s id double)).cores = s.cores ∧ ((badFree s id double)).sec = s.sec ∧ ((badFree s id double)).power = s.power
    ∧ ((badFree s id double)).hbm = s.hbm ∧ ((badFree s id double)).tap = s.tap ∧ ((badFree s id double)).pins = s.pins
    ∧ ((badFree s id double)).px = s.px ∧ ((badFree s id double)).tables = s.tables ∧ ((badFree s id double)).net = s.net
    ∧ ((badFree s id double)).fabric = s.fabric ∧ ((badFree s id double)).qps = s.qps := by
  unfold badFree; simp

@[simp] theorem freeRequest_same (s : State) (id requester : Nat) (readback : Bool) :
    ((freeRequest s id requester readback)).mode = s.mode ∧ ((freeRequest s id requester readback)).ready = s.ready
    ∧ ((freeRequest s id requester readback)).epochCtr = s.epochCtr
    ∧ ((freeRequest s id requester readback)).vfEnabled = s.vfEnabled ∧ ((freeRequest s id requester readback)).dma = s.dma
    ∧ ((freeRequest s id requester readback)).sessions = s.sessions ∧ ((freeRequest s id requester readback)).cores = s.cores
    ∧ ((freeRequest s id requester readback)).sec = s.sec ∧ ((freeRequest s id requester readback)).power = s.power
    ∧ ((freeRequest s id requester readback)).hbm = s.hbm ∧ ((freeRequest s id requester readback)).tap = s.tap
    ∧ ((freeRequest s id requester readback)).pins = s.pins ∧ ((freeRequest s id requester readback)).px = s.px
    ∧ ((freeRequest s id requester readback)).tables = s.tables ∧ ((freeRequest s id requester readback)).fabric = s.fabric
    ∧ ((freeRequest s id requester readback)).qps = s.qps := by
  unfold freeRequest; (repeat' split) <;> simp

@[simp] theorem judgeCopy_same (s : State) (n colour len : Nat) :
    ((judgeCopy s n colour len).2).mode = s.mode ∧ ((judgeCopy s n colour len).2).ready = s.ready
    ∧ ((judgeCopy s n colour len).2).epochCtr = s.epochCtr ∧ ((judgeCopy s n colour len).2).vfEnabled = s.vfEnabled
    ∧ ((judgeCopy s n colour len).2).dma = s.dma ∧ ((judgeCopy s n colour len).2).sessions = s.sessions
    ∧ ((judgeCopy s n colour len).2).cores = s.cores ∧ ((judgeCopy s n colour len).2).sec = s.sec
    ∧ ((judgeCopy s n colour len).2).power = s.power ∧ ((judgeCopy s n colour len).2).hbm = s.hbm
    ∧ ((judgeCopy s n colour len).2).tap = s.tap ∧ ((judgeCopy s n colour len).2).pins = s.pins
    ∧ ((judgeCopy s n colour len).2).px = s.px ∧ ((judgeCopy s n colour len).2).tables = s.tables
    ∧ ((judgeCopy s n colour len).2).net = s.net ∧ ((judgeCopy s n colour len).2).fabric = s.fabric
    ∧ ((judgeCopy s n colour len).2).qps = s.qps := by
  unfold judgeCopy; grind [draw_same, swSet_same]

@[simp] theorem putCopy_same (s : State) (n id sub len : Nat) (cut : Bool) :
    ((putCopy s n id sub len cut)).mode = s.mode ∧ ((putCopy s n id sub len cut)).ready = s.ready
    ∧ ((putCopy s n id sub len cut)).epochCtr = s.epochCtr ∧ ((putCopy s n id sub len cut)).vfEnabled = s.vfEnabled
    ∧ ((putCopy s n id sub len cut)).dma = s.dma ∧ ((putCopy s n id sub len cut)).sessions = s.sessions
    ∧ ((putCopy s n id sub len cut)).cores = s.cores ∧ ((putCopy s n id sub len cut)).sec = s.sec
    ∧ ((putCopy s n id sub len cut)).power = s.power ∧ ((putCopy s n id sub len cut)).hbm = s.hbm
    ∧ ((putCopy s n id sub len cut)).tap = s.tap ∧ ((putCopy s n id sub len cut)).pins = s.pins
    ∧ ((putCopy s n id sub len cut)).px = s.px ∧ ((putCopy s n id sub len cut)).sw = s.sw
    ∧ ((putCopy s n id sub len cut)).tables = s.tables ∧ ((putCopy s n id sub len cut)).fabric = s.fabric
    ∧ ((putCopy s n id sub len cut)).qps = s.qps := by
  unfold putCopy; simp

@[simp] theorem outVerdict_same (s : State) (p sub n : Nat) (b : Buffer) :
    ((outVerdict s p sub n b).2).mode = s.mode ∧ ((outVerdict s p sub n b).2).ready = s.ready
    ∧ ((outVerdict s p sub n b).2).epochCtr = s.epochCtr ∧ ((outVerdict s p sub n b).2).vfEnabled = s.vfEnabled
    ∧ ((outVerdict s p sub n b).2).dma = s.dma ∧ ((outVerdict s p sub n b).2).sessions = s.sessions
    ∧ ((outVerdict s p sub n b).2).cores = s.cores ∧ ((outVerdict s p sub n b).2).sec = s.sec
    ∧ ((outVerdict s p sub n b).2).power = s.power ∧ ((outVerdict s p sub n b).2).hbm = s.hbm
    ∧ ((outVerdict s p sub n b).2).tap = s.tap ∧ ((outVerdict s p sub n b).2).pins = s.pins
    ∧ ((outVerdict s p sub n b).2).px = s.px ∧ ((outVerdict s p sub n b).2).tables = s.tables
    ∧ ((outVerdict s p sub n b).2).fabric = s.fabric ∧ ((outVerdict s p sub n b).2).qps = s.qps := by
  unfold outVerdict; (repeat' split) <;> simp

@[simp] theorem countRefused_same (s : State) (p v : Nat) (b : Buffer) :
    ((countRefused s p v b)).mode = s.mode ∧ ((countRefused s p v b)).ready = s.ready
    ∧ ((countRefused s p v b)).epochCtr = s.epochCtr ∧ ((countRefused s p v b)).vfEnabled = s.vfEnabled
    ∧ ((countRefused s p v b)).dma = s.dma ∧ ((countRefused s p v b)).sessions = s.sessions
    ∧ ((countRefused s p v b)).cores = s.cores ∧ ((countRefused s p v b)).sec = s.sec ∧ ((countRefused s p v b)).power = s.power
    ∧ ((countRefused s p v b)).hbm = s.hbm ∧ ((countRefused s p v b)).tap = s.tap ∧ ((countRefused s p v b)).pins = s.pins
    ∧ ((countRefused s p v b)).px = s.px ∧ ((countRefused s p v b)).tables = s.tables ∧ ((countRefused s p v b)).net = s.net
    ∧ ((countRefused s p v b)).fabric = s.fabric ∧ ((countRefused s p v b)).qps = s.qps := by
  unfold countRefused; (repeat' split) <;> simp

@[simp] theorem decideCopy_same (s : State) (id : Nat) (b : Buffer) (cuts : List (Nat × Nat)) (d : Nat × Nat) :
    ((decideCopy s id b cuts d).2).mode = s.mode ∧ ((decideCopy s id b cuts d).2).ready = s.ready
    ∧ ((decideCopy s id b cuts d).2).epochCtr = s.epochCtr ∧ ((decideCopy s id b cuts d).2).vfEnabled = s.vfEnabled
    ∧ ((decideCopy s id b cuts d).2).dma = s.dma ∧ ((decideCopy s id b cuts d).2).sessions = s.sessions
    ∧ ((decideCopy s id b cuts d).2).cores = s.cores ∧ ((decideCopy s id b cuts d).2).sec = s.sec
    ∧ ((decideCopy s id b cuts d).2).power = s.power ∧ ((decideCopy s id b cuts d).2).tap = s.tap
    ∧ ((decideCopy s id b cuts d).2).pins = s.pins ∧ ((decideCopy s id b cuts d).2).px = s.px
    ∧ ((decideCopy s id b cuts d).2).tables = s.tables ∧ ((decideCopy s id b cuts d).2).fabric = s.fabric
    ∧ ((decideCopy s id b cuts d).2).qps = s.qps := by
  unfold decideCopy; dsimp only; (repeat' split) <;> simp

@[simp] theorem decideCopies_same (s : State) (id : Nat) (b : Buffer) (cuts : List (Nat × Nat)) :
    ((decideCopies s id b cuts)).mode = s.mode ∧ ((decideCopies s id b cuts)).ready = s.ready
    ∧ ((decideCopies s id b cuts)).epochCtr = s.epochCtr ∧ ((decideCopies s id b cuts)).vfEnabled = s.vfEnabled
    ∧ ((decideCopies s id b cuts)).dma = s.dma ∧ ((decideCopies s id b cuts)).sessions = s.sessions
    ∧ ((decideCopies s id b cuts)).cores = s.cores ∧ ((decideCopies s id b cuts)).sec = s.sec
    ∧ ((decideCopies s id b cuts)).power = s.power ∧ ((decideCopies s id b cuts)).tap = s.tap
    ∧ ((decideCopies s id b cuts)).pins = s.pins ∧ ((decideCopies s id b cuts)).px = s.px
    ∧ ((decideCopies s id b cuts)).tables = s.tables ∧ ((decideCopies s id b cuts)).fabric = s.fabric
    ∧ ((decideCopies s id b cuts)).qps = s.qps := by
  unfold decideCopies; dsimp only; (repeat' split) <;> simp (disch := first | assumption | (intros; (try dsimp only); (repeat' split) <;> simp [*]; done))

@[simp] theorem dropCopies_same (s : State) (p : Nat → EgressQueue → Copy → Bool) (readback : Bool) :
    ((dropCopies s p readback)).mode = s.mode ∧ ((dropCopies s p readback)).ready = s.ready
    ∧ ((dropCopies s p readback)).epochCtr = s.epochCtr ∧ ((dropCopies s p readback)).vfEnabled = s.vfEnabled
    ∧ ((dropCopies s p readback)).dma = s.dma ∧ ((dropCopies s p readback)).sessions = s.sessions
    ∧ ((dropCopies s p readback)).cores = s.cores ∧ ((dropCopies s p readback)).sec = s.sec
    ∧ ((dropCopies s p readback)).power = s.power ∧ ((dropCopies s p readback)).hbm = s.hbm
    ∧ ((dropCopies s p readback)).tap = s.tap ∧ ((dropCopies s p readback)).pins = s.pins
    ∧ ((dropCopies s p readback)).px = s.px ∧ ((dropCopies s p readback)).tables = s.tables
    ∧ ((dropCopies s p readback)).fabric = s.fabric ∧ ((dropCopies s p readback)).qps = s.qps := by
  unfold dropCopies; simp

@[simp] theorem portDown_same (s : State) (p : Nat) :
    ((portDown s p)).mode = s.mode ∧ ((portDown s p)).ready = s.ready ∧ ((portDown s p)).epochCtr = s.epochCtr
    ∧ ((portDown s p)).vfEnabled = s.vfEnabled ∧ ((portDown s p)).dma = s.dma ∧ ((portDown s p)).sessions = s.sessions
    ∧ ((portDown s p)).cores = s.cores ∧ ((portDown s p)).sec = s.sec ∧ ((portDown s p)).power = s.power
    ∧ ((portDown s p)).hbm = s.hbm ∧ ((portDown s p)).tap = s.tap ∧ ((portDown s p)).pins = s.pins ∧ ((portDown s p)).px = s.px
    ∧ ((portDown s p)).tables = s.tables ∧ ((portDown s p)).fabric = s.fabric ∧ ((portDown s p)).qps = s.qps := by
  unfold portDown; (repeat' split) <;> simp

@[simp] theorem dropIn_same (s : State) (v : Nat) (b : Buffer) :
    ((dropIn s v b)).mode = s.mode ∧ ((dropIn s v b)).ready = s.ready ∧ ((dropIn s v b)).epochCtr = s.epochCtr
    ∧ ((dropIn s v b)).vfEnabled = s.vfEnabled ∧ ((dropIn s v b)).dma = s.dma ∧ ((dropIn s v b)).sessions = s.sessions
    ∧ ((dropIn s v b)).cores = s.cores ∧ ((dropIn s v b)).sec = s.sec ∧ ((dropIn s v b)).power = s.power
    ∧ ((dropIn s v b)).tap = s.tap ∧ ((dropIn s v b)).pins = s.pins ∧ ((dropIn s v b)).px = s.px
    ∧ ((dropIn s v b)).tables = s.tables ∧ ((dropIn s v b)).net = s.net ∧ ((dropIn s v b)).fabric = s.fabric
    ∧ ((dropIn s v b)).qps = s.qps := by
  unfold dropIn; (repeat' split) <;> simp

@[simp] theorem holdPacket_same (s : State) (b : Buffer) :
    ((holdPacket s b)).mode = s.mode ∧ ((holdPacket s b)).ready = s.ready ∧ ((holdPacket s b)).epochCtr = s.epochCtr
    ∧ ((holdPacket s b)).vfEnabled = s.vfEnabled ∧ ((holdPacket s b)).dma = s.dma ∧ ((holdPacket s b)).sessions = s.sessions
    ∧ ((holdPacket s b)).cores = s.cores ∧ ((holdPacket s b)).sec = s.sec ∧ ((holdPacket s b)).power = s.power
    ∧ ((holdPacket s b)).hbm = s.hbm ∧ ((holdPacket s b)).tap = s.tap ∧ ((holdPacket s b)).pins = s.pins
    ∧ ((holdPacket s b)).px = s.px ∧ ((holdPacket s b)).tables = s.tables ∧ ((holdPacket s b)).net = s.net
    ∧ ((holdPacket s b)).fabric = s.fabric ∧ ((holdPacket s b)).qps = s.qps := by
  unfold holdPacket; simp

@[simp] theorem placePacket_same (s : State) (b : Buffer) :
    ((placePacket s b)).mode = s.mode ∧ ((placePacket s b)).ready = s.ready ∧ ((placePacket s b)).epochCtr = s.epochCtr
    ∧ ((placePacket s b)).vfEnabled = s.vfEnabled ∧ ((placePacket s b)).dma = s.dma ∧ ((placePacket s b)).sessions = s.sessions
    ∧ ((placePacket s b)).cores = s.cores ∧ ((placePacket s b)).sec = s.sec ∧ ((placePacket s b)).power = s.power
    ∧ ((placePacket s b)).tap = s.tap ∧ ((placePacket s b)).pins = s.pins ∧ ((placePacket s b)).px = s.px
    ∧ ((placePacket s b)).tables = s.tables ∧ ((placePacket s b)).fabric = s.fabric ∧ ((placePacket s b)).qps = s.qps := by
  unfold placePacket; dsimp only; (repeat' split) <;> simp

@[simp] theorem colourPacket_same (s : State) (b : Buffer) :
    ((colourPacket s b).2).mode = s.mode ∧ ((colourPacket s b).2).ready = s.ready ∧ ((colourPacket s b).2).epochCtr = s.epochCtr
    ∧ ((colourPacket s b).2).vfEnabled = s.vfEnabled ∧ ((colourPacket s b).2).dma = s.dma
    ∧ ((colourPacket s b).2).sessions = s.sessions ∧ ((colourPacket s b).2).cores = s.cores ∧ ((colourPacket s b).2).sec = s.sec
    ∧ ((colourPacket s b).2).power = s.power ∧ ((colourPacket s b).2).hbm = s.hbm ∧ ((colourPacket s b).2).tap = s.tap
    ∧ ((colourPacket s b).2).pins = s.pins ∧ ((colourPacket s b).2).px = s.px ∧ ((colourPacket s b).2).sw = s.sw
    ∧ ((colourPacket s b).2).tables = s.tables ∧ ((colourPacket s b).2).fabric = s.fabric
    ∧ ((colourPacket s b).2).qps = s.qps := by
  unfold colourPacket; grind [meterPacket_same]

@[simp] theorem deliver_same (s : State) (b : Buffer) :
    ((deliver s b)).mode = s.mode ∧ ((deliver s b)).ready = s.ready ∧ ((deliver s b)).epochCtr = s.epochCtr
    ∧ ((deliver s b)).vfEnabled = s.vfEnabled ∧ ((deliver s b)).dma = s.dma ∧ ((deliver s b)).sessions = s.sessions
    ∧ ((deliver s b)).cores = s.cores ∧ ((deliver s b)).sec = s.sec ∧ ((deliver s b)).power = s.power
    ∧ ((deliver s b)).tap = s.tap ∧ ((deliver s b)).pins = s.pins ∧ ((deliver s b)).px = s.px
    ∧ ((deliver s b)).tables = s.tables ∧ ((deliver s b)).fabric = s.fabric ∧ ((deliver s b)).qps = s.qps := by
  unfold deliver; simp

@[simp] theorem releaseHeld_same (s : State) (id : Nat) :
    ((releaseHeld s id)).mode = s.mode ∧ ((releaseHeld s id)).ready = s.ready ∧ ((releaseHeld s id)).epochCtr = s.epochCtr
    ∧ ((releaseHeld s id)).vfEnabled = s.vfEnabled ∧ ((releaseHeld s id)).dma = s.dma
    ∧ ((releaseHeld s id)).sessions = s.sessions ∧ ((releaseHeld s id)).cores = s.cores ∧ ((releaseHeld s id)).sec = s.sec
    ∧ ((releaseHeld s id)).power = s.power ∧ ((releaseHeld s id)).tap = s.tap ∧ ((releaseHeld s id)).pins = s.pins
    ∧ ((releaseHeld s id)).px = s.px ∧ ((releaseHeld s id)).tables = s.tables ∧ ((releaseHeld s id)).fabric = s.fabric
    ∧ ((releaseHeld s id)).qps = s.qps := by
  unfold releaseHeld; (repeat' split) <;> simp

@[simp] theorem releaseRun_same (n : Nat) (s : State) (a : Nat) :
    ((releaseRun n s a)).mode = s.mode ∧ ((releaseRun n s a)).ready = s.ready ∧ ((releaseRun n s a)).epochCtr = s.epochCtr
    ∧ ((releaseRun n s a)).vfEnabled = s.vfEnabled ∧ ((releaseRun n s a)).dma = s.dma
    ∧ ((releaseRun n s a)).sessions = s.sessions ∧ ((releaseRun n s a)).cores = s.cores ∧ ((releaseRun n s a)).sec = s.sec
    ∧ ((releaseRun n s a)).power = s.power ∧ ((releaseRun n s a)).tap = s.tap ∧ ((releaseRun n s a)).pins = s.pins
    ∧ ((releaseRun n s a)).px = s.px ∧ ((releaseRun n s a)).tables = s.tables ∧ ((releaseRun n s a)).fabric = s.fabric
    ∧ ((releaseRun n s a)).qps = s.qps := by
  induction n generalizing s with
  | zero => simp [releaseRun]
  | succ k ih => unfold releaseRun; dsimp only; (repeat' split) <;> simp [ih]

@[simp] theorem declareLost_same (s : State) (a : Nat) :
    ((declareLost s a)).mode = s.mode ∧ ((declareLost s a)).ready = s.ready ∧ ((declareLost s a)).epochCtr = s.epochCtr
    ∧ ((declareLost s a)).vfEnabled = s.vfEnabled ∧ ((declareLost s a)).dma = s.dma ∧ ((declareLost s a)).sessions = s.sessions
    ∧ ((declareLost s a)).cores = s.cores ∧ ((declareLost s a)).sec = s.sec ∧ ((declareLost s a)).power = s.power
    ∧ ((declareLost s a)).tap = s.tap ∧ ((declareLost s a)).pins = s.pins ∧ ((declareLost s a)).px = s.px
    ∧ ((declareLost s a)).tables = s.tables ∧ ((declareLost s a)).fabric = s.fabric ∧ ((declareLost s a)).qps = s.qps := by
  unfold declareLost; grind [countFlow_same, mergeSet_same, releaseRun_same]

@[simp] theorem settleMerge_same (s : State) (a : Nat) :
    ((settleMerge s a)).mode = s.mode ∧ ((settleMerge s a)).ready = s.ready ∧ ((settleMerge s a)).epochCtr = s.epochCtr
    ∧ ((settleMerge s a)).vfEnabled = s.vfEnabled ∧ ((settleMerge s a)).dma = s.dma ∧ ((settleMerge s a)).sessions = s.sessions
    ∧ ((settleMerge s a)).cores = s.cores ∧ ((settleMerge s a)).sec = s.sec ∧ ((settleMerge s a)).power = s.power
    ∧ ((settleMerge s a)).tap = s.tap ∧ ((settleMerge s a)).pins = s.pins ∧ ((settleMerge s a)).px = s.px
    ∧ ((settleMerge s a)).tables = s.tables ∧ ((settleMerge s a)).fabric = s.fabric ∧ ((settleMerge s a)).qps = s.qps := by
  unfold settleMerge; simp

@[simp] theorem mergeNext_same (s : State) (a n : Nat) (b : Buffer) :
    ((mergeNext s a n b)).mode = s.mode ∧ ((mergeNext s a n b)).ready = s.ready ∧ ((mergeNext s a n b)).epochCtr = s.epochCtr
    ∧ ((mergeNext s a n b)).vfEnabled = s.vfEnabled ∧ ((mergeNext s a n b)).dma = s.dma
    ∧ ((mergeNext s a n b)).sessions = s.sessions ∧ ((mergeNext s a n b)).cores = s.cores ∧ ((mergeNext s a n b)).sec = s.sec
    ∧ ((mergeNext s a n b)).power = s.power ∧ ((mergeNext s a n b)).tap = s.tap ∧ ((mergeNext s a n b)).pins = s.pins
    ∧ ((mergeNext s a n b)).px = s.px ∧ ((mergeNext s a n b)).tables = s.tables ∧ ((mergeNext s a n b)).fabric = s.fabric
    ∧ ((mergeNext s a n b)).qps = s.qps := by
  unfold mergeNext; simp

@[simp] theorem mergeHold_same (s : State) (a n : Nat) (b : Buffer) :
    ((mergeHold s a n b)).mode = s.mode ∧ ((mergeHold s a n b)).ready = s.ready ∧ ((mergeHold s a n b)).epochCtr = s.epochCtr
    ∧ ((mergeHold s a n b)).vfEnabled = s.vfEnabled ∧ ((mergeHold s a n b)).dma = s.dma
    ∧ ((mergeHold s a n b)).sessions = s.sessions ∧ ((mergeHold s a n b)).cores = s.cores ∧ ((mergeHold s a n b)).sec = s.sec
    ∧ ((mergeHold s a n b)).power = s.power ∧ ((mergeHold s a n b)).tap = s.tap ∧ ((mergeHold s a n b)).pins = s.pins
    ∧ ((mergeHold s a n b)).px = s.px ∧ ((mergeHold s a n b)).tables = s.tables ∧ ((mergeHold s a n b)).fabric = s.fabric
    ∧ ((mergeHold s a n b)).qps = s.qps := by
  unfold mergeHold; dsimp only; (repeat' apply And.intro) <;> (first | rfl | simp | (repeat' split) <;> simp)

@[simp] theorem mergeRestart_same (s : State) (a n : Nat) (b : Buffer) :
    ((mergeRestart s a n b)).mode = s.mode ∧ ((mergeRestart s a n b)).ready = s.ready
    ∧ ((mergeRestart s a n b)).epochCtr = s.epochCtr ∧ ((mergeRestart s a n b)).vfEnabled = s.vfEnabled
    ∧ ((mergeRestart s a n b)).dma = s.dma ∧ ((mergeRestart s a n b)).sessions = s.sessions
    ∧ ((mergeRestart s a n b)).cores = s.cores ∧ ((mergeRestart s a n b)).sec = s.sec ∧ ((mergeRestart s a n b)).power = s.power
    ∧ ((mergeRestart s a n b)).tap = s.tap ∧ ((mergeRestart s a n b)).pins = s.pins ∧ ((mergeRestart s a n b)).px = s.px
    ∧ ((mergeRestart s a n b)).tables = s.tables ∧ ((mergeRestart s a n b)).fabric = s.fabric
    ∧ ((mergeRestart s a n b)).qps = s.qps := by
  unfold mergeRestart; (repeat' split) <;> simp (disch := first | assumption | (intros; (repeat' split) <;> simp [*]; done))

@[simp] theorem mergePacket_same (s : State) (a : Nat) (legB : Bool) (b0 : Buffer) (udp : Bytes) :
    ((mergePacket s a legB b0 udp)).mode = s.mode ∧ ((mergePacket s a legB b0 udp)).ready = s.ready
    ∧ ((mergePacket s a legB b0 udp)).epochCtr = s.epochCtr ∧ ((mergePacket s a legB b0 udp)).vfEnabled = s.vfEnabled
    ∧ ((mergePacket s a legB b0 udp)).dma = s.dma ∧ ((mergePacket s a legB b0 udp)).sessions = s.sessions
    ∧ ((mergePacket s a legB b0 udp)).cores = s.cores ∧ ((mergePacket s a legB b0 udp)).sec = s.sec
    ∧ ((mergePacket s a legB b0 udp)).power = s.power ∧ ((mergePacket s a legB b0 udp)).tap = s.tap
    ∧ ((mergePacket s a legB b0 udp)).pins = s.pins ∧ ((mergePacket s a legB b0 udp)).px = s.px
    ∧ ((mergePacket s a legB b0 udp)).tables = s.tables ∧ ((mergePacket s a legB b0 udp)).fabric = s.fabric
    ∧ ((mergePacket s a legB b0 udp)).qps = s.qps := by
  unfold mergePacket; dsimp only; (repeat' split) <;> simp

@[simp] theorem acceptPn_same (s : State) (h : EthHead) :
    ((acceptPn s h)).mode = s.mode ∧ ((acceptPn s h)).ready = s.ready ∧ ((acceptPn s h)).epochCtr = s.epochCtr
    ∧ ((acceptPn s h)).vfEnabled = s.vfEnabled ∧ ((acceptPn s h)).dma = s.dma ∧ ((acceptPn s h)).sessions = s.sessions
    ∧ ((acceptPn s h)).cores = s.cores ∧ ((acceptPn s h)).sec = s.sec ∧ ((acceptPn s h)).power = s.power
    ∧ ((acceptPn s h)).hbm = s.hbm ∧ ((acceptPn s h)).tap = s.tap ∧ ((acceptPn s h)).pins = s.pins ∧ ((acceptPn s h)).px = s.px
    ∧ ((acceptPn s h)).sw = s.sw ∧ ((acceptPn s h)).tables = s.tables ∧ ((acceptPn s h)).fabric = s.fabric
    ∧ ((acceptPn s h)).qps = s.qps := by
  unfold acceptPn; simp

@[simp] theorem cutFrame_same (s : State) (h : EthHead) (st : Staged) (cuts : List (Nat × Nat)) :
    ((cutFrame s h st cuts)).mode = s.mode ∧ ((cutFrame s h st cuts)).ready = s.ready
    ∧ ((cutFrame s h st cuts)).epochCtr = s.epochCtr ∧ ((cutFrame s h st cuts)).vfEnabled = s.vfEnabled
    ∧ ((cutFrame s h st cuts)).dma = s.dma ∧ ((cutFrame s h st cuts)).sessions = s.sessions
    ∧ ((cutFrame s h st cuts)).cores = s.cores ∧ ((cutFrame s h st cuts)).sec = s.sec ∧ ((cutFrame s h st cuts)).power = s.power
    ∧ ((cutFrame s h st cuts)).tap = s.tap ∧ ((cutFrame s h st cuts)).pins = s.pins ∧ ((cutFrame s h st cuts)).px = s.px
    ∧ ((cutFrame s h st cuts)).tables = s.tables ∧ ((cutFrame s h st cuts)).fabric = s.fabric
    ∧ ((cutFrame s h st cuts)).qps = s.qps := by
  unfold cutFrame; dsimp only; (repeat' split) <;> simp

@[simp] theorem headFrame_same (s : State) (h : EthHead) :
    ((headFrame s h)).mode = s.mode ∧ ((headFrame s h)).ready = s.ready ∧ ((headFrame s h)).epochCtr = s.epochCtr
    ∧ ((headFrame s h)).vfEnabled = s.vfEnabled ∧ ((headFrame s h)).dma = s.dma ∧ ((headFrame s h)).sessions = s.sessions
    ∧ ((headFrame s h)).cores = s.cores ∧ ((headFrame s h)).sec = s.sec ∧ ((headFrame s h)).power = s.power
    ∧ ((headFrame s h)).tap = s.tap ∧ ((headFrame s h)).pins = s.pins ∧ ((headFrame s h)).px = s.px
    ∧ ((headFrame s h)).fabric = s.fabric ∧ ((headFrame s h)).qps = s.qps := by
  unfold headFrame; dsimp only; (repeat' split) <;> simp

@[simp] theorem endCut_same (s : State) (id len : Nat) (bad : Bool) :
    ((endCut s id len bad)).mode = s.mode ∧ ((endCut s id len bad)).ready = s.ready
    ∧ ((endCut s id len bad)).epochCtr = s.epochCtr ∧ ((endCut s id len bad)).vfEnabled = s.vfEnabled
    ∧ ((endCut s id len bad)).dma = s.dma ∧ ((endCut s id len bad)).sessions = s.sessions
    ∧ ((endCut s id len bad)).cores = s.cores ∧ ((endCut s id len bad)).sec = s.sec ∧ ((endCut s id len bad)).power = s.power
    ∧ ((endCut s id len bad)).tap = s.tap ∧ ((endCut s id len bad)).pins = s.pins ∧ ((endCut s id len bad)).px = s.px
    ∧ ((endCut s id len bad)).tables = s.tables ∧ ((endCut s id len bad)).fabric = s.fabric
    ∧ ((endCut s id len bad)).qps = s.qps := by
  unfold endCut; (repeat' split) <;> simp

@[simp] theorem endStored_same (s : State) (st : Staged) (len : Nat) (bad : Bool) (head : Bytes) :
    ((endStored s st len bad head)).mode = s.mode ∧ ((endStored s st len bad head)).ready = s.ready
    ∧ ((endStored s st len bad head)).epochCtr = s.epochCtr ∧ ((endStored s st len bad head)).vfEnabled = s.vfEnabled
    ∧ ((endStored s st len bad head)).dma = s.dma ∧ ((endStored s st len bad head)).sessions = s.sessions
    ∧ ((endStored s st len bad head)).cores = s.cores ∧ ((endStored s st len bad head)).sec = s.sec
    ∧ ((endStored s st len bad head)).power = s.power ∧ ((endStored s st len bad head)).tap = s.tap
    ∧ ((endStored s st len bad head)).pins = s.pins ∧ ((endStored s st len bad head)).px = s.px
    ∧ ((endStored s st len bad head)).tables = s.tables ∧ ((endStored s st len bad head)).fabric = s.fabric
    ∧ ((endStored s st len bad head)).qps = s.qps := by
  unfold endStored; (repeat' split) <;> simp

@[simp] theorem takeCopy_same (s : State) (n : Nat) (q : EgressQueue) (len : Nat) :
    ((takeCopy s n q len)).mode = s.mode ∧ ((takeCopy s n q len)).ready = s.ready ∧ ((takeCopy s n q len)).epochCtr = s.epochCtr
    ∧ ((takeCopy s n q len)).vfEnabled = s.vfEnabled ∧ ((takeCopy s n q len)).dma = s.dma
    ∧ ((takeCopy s n q len)).sessions = s.sessions ∧ ((takeCopy s n q len)).cores = s.cores ∧ ((takeCopy s n q len)).sec = s.sec
    ∧ ((takeCopy s n q len)).power = s.power ∧ ((takeCopy s n q len)).hbm = s.hbm ∧ ((takeCopy s n q len)).tap = s.tap
    ∧ ((takeCopy s n q len)).pins = s.pins ∧ ((takeCopy s n q len)).px = s.px ∧ ((takeCopy s n q len)).sw = s.sw
    ∧ ((takeCopy s n q len)).tables = s.tables ∧ ((takeCopy s n q len)).fabric = s.fabric
    ∧ ((takeCopy s n q len)).qps = s.qps := by
  unfold takeCopy; simp

theorem protect_same (s : State) (p : Nat) (clear : Bool) (t : State) (h : protect s p clear = some t) :
    (t).mode = s.mode ∧ (t).ready = s.ready ∧ (t).epochCtr = s.epochCtr ∧ (t).vfEnabled = s.vfEnabled ∧ (t).dma = s.dma
    ∧ (t).sessions = s.sessions ∧ (t).cores = s.cores ∧ (t).sec = s.sec ∧ (t).power = s.power ∧ (t).tap = s.tap
    ∧ (t).pins = s.pins ∧ (t).px = s.px ∧ (t).tables = s.tables ∧ (t).fabric = s.fabric ∧ (t).qps = s.qps := by
  unfold protect at h
  dsimp only at h
  (repeat' split at h) <;> cases h <;> (repeat' split) <;> simp

@[simp] theorem startFrame_same (s : State) (p n : Nat) (q : EgressQueue) (c : Copy) (b : Buffer) (head : Bytes) :
    (startFrame s p n q c b head).mode = s.mode ∧ (startFrame s p n q c b head).ready = s.ready
    ∧ (startFrame s p n q c b head).epochCtr = s.epochCtr ∧ (startFrame s p n q c b head).vfEnabled = s.vfEnabled
    ∧ (startFrame s p n q c b head).dma = s.dma ∧ (startFrame s p n q c b head).sessions = s.sessions
    ∧ (startFrame s p n q c b head).cores = s.cores ∧ (startFrame s p n q c b head).sec = s.sec
    ∧ (startFrame s p n q c b head).power = s.power ∧ (startFrame s p n q c b head).tap = s.tap
    ∧ (startFrame s p n q c b head).pins = s.pins ∧ (startFrame s p n q c b head).px = s.px
    ∧ (startFrame s p n q c b head).tables = s.tables ∧ (startFrame s p n q c b head).fabric = s.fabric
    ∧ (startFrame s p n q c b head).qps = s.qps := by
  unfold startFrame
  dsimp only
  split
  · (repeat' split) <;> simp
  · split
    · (repeat' split) <;> simp
    · rename_i s3 e
      have k : (s3).mode = s.mode ∧ (s3).ready = s.ready ∧ (s3).epochCtr = s.epochCtr ∧ (s3).vfEnabled = s.vfEnabled ∧ (s3).dma = s.dma ∧ (s3).sessions = s.sessions ∧ (s3).cores = s.cores ∧ (s3).sec = s.sec ∧ (s3).power = s.power ∧ (s3).tap = s.tap ∧ (s3).pins = s.pins ∧ (s3).px = s.px ∧ (s3).tables = s.tables ∧ (s3).fabric = s.fabric ∧ (s3).qps = s.qps := by
        split at e
        · have j := protect_same _ _ _ _ e
          (repeat' split at j) <;> simpa using j
        · cases e; simp
      (repeat' split) <;> simp [k]

@[simp] theorem selectEth_same (s : State) (p : Nat) (head : Bytes) :
    ((selectEth s p head)).mode = s.mode ∧ ((selectEth s p head)).ready = s.ready ∧ ((selectEth s p head)).epochCtr = s.epochCtr
    ∧ ((selectEth s p head)).vfEnabled = s.vfEnabled ∧ ((selectEth s p head)).dma = s.dma
    ∧ ((selectEth s p head)).sessions = s.sessions ∧ ((selectEth s p head)).cores = s.cores ∧ ((selectEth s p head)).sec = s.sec
    ∧ ((selectEth s p head)).power = s.power ∧ ((selectEth s p head)).tap = s.tap ∧ ((selectEth s p head)).pins = s.pins
    ∧ ((selectEth s p head)).px = s.px ∧ ((selectEth s p head)).tables = s.tables ∧ ((selectEth s p head)).fabric = s.fabric
    ∧ ((selectEth s p head)).qps = s.qps := by
  unfold selectEth; dsimp only; (repeat' split) <;> simp

@[simp] theorem selectPort_same (s : State) (p : Nat) (head : Bytes) :
    ((selectPort s p head)).mode = s.mode ∧ ((selectPort s p head)).ready = s.ready
    ∧ ((selectPort s p head)).epochCtr = s.epochCtr ∧ ((selectPort s p head)).vfEnabled = s.vfEnabled
    ∧ ((selectPort s p head)).dma = s.dma ∧ ((selectPort s p head)).sessions = s.sessions
    ∧ ((selectPort s p head)).cores = s.cores ∧ ((selectPort s p head)).sec = s.sec ∧ ((selectPort s p head)).power = s.power
    ∧ ((selectPort s p head)).tap = s.tap ∧ ((selectPort s p head)).pins = s.pins ∧ ((selectPort s p head)).px = s.px
    ∧ ((selectPort s p head)).tables = s.tables ∧ ((selectPort s p head)).fabric = s.fabric
    ∧ ((selectPort s p head)).qps = s.qps := by
  unfold selectPort; (repeat' split) <;> simp

@[simp] theorem endCopy_same (s : State) (p id : Nat) (b : Buffer) (readback : Bool) :
    ((endCopy s p id b readback)).mode = s.mode ∧ ((endCopy s p id b readback)).ready = s.ready
    ∧ ((endCopy s p id b readback)).epochCtr = s.epochCtr ∧ ((endCopy s p id b readback)).vfEnabled = s.vfEnabled
    ∧ ((endCopy s p id b readback)).dma = s.dma ∧ ((endCopy s p id b readback)).sessions = s.sessions
    ∧ ((endCopy s p id b readback)).cores = s.cores ∧ ((endCopy s p id b readback)).sec = s.sec
    ∧ ((endCopy s p id b readback)).power = s.power ∧ ((endCopy s p id b readback)).tap = s.tap
    ∧ ((endCopy s p id b readback)).pins = s.pins ∧ ((endCopy s p id b readback)).px = s.px
    ∧ ((endCopy s p id b readback)).tables = s.tables ∧ ((endCopy s p id b readback)).fabric = s.fabric
    ∧ ((endCopy s p id b readback)).qps = s.qps := by
  unfold endCopy; simp

@[simp] theorem unitPut_same (s : State) (x : Session) (f : EncFrame) (i : Nat) (u : UnitRec) :
    ((unitPut s x f i u)).mode = s.mode ∧ ((unitPut s x f i u)).ready = s.ready ∧ ((unitPut s x f i u)).epochCtr = s.epochCtr
    ∧ ((unitPut s x f i u)).vfEnabled = s.vfEnabled ∧ ((unitPut s x f i u)).dma = s.dma ∧ ((unitPut s x f i u)).cores = s.cores
    ∧ ((unitPut s x f i u)).sec = s.sec ∧ ((unitPut s x f i u)).power = s.power ∧ ((unitPut s x f i u)).hbm = s.hbm
    ∧ ((unitPut s x f i u)).tap = s.tap ∧ ((unitPut s x f i u)).pins = s.pins ∧ ((unitPut s x f i u)).px = s.px
    ∧ ((unitPut s x f i u)).sw = s.sw ∧ ((unitPut s x f i u)).tables = s.tables ∧ ((unitPut s x f i u)).net = s.net
    ∧ ((unitPut s x f i u)).fabric = s.fabric ∧ ((unitPut s x f i u)).qps = s.qps := by
  unfold unitPut; simp

@[simp] theorem measureCu_same (s : State) (core : Nat) (m : CuMeas) (sl : CuSlot) (x : Session) (f : EncFrame) (u : UnitRec) (w : WorkRef) :
    ((measureCu s core m sl x f u w)).mode = s.mode ∧ ((measureCu s core m sl x f u w)).ready = s.ready
    ∧ ((measureCu s core m sl x f u w)).epochCtr = s.epochCtr ∧ ((measureCu s core m sl x f u w)).vfEnabled = s.vfEnabled
    ∧ ((measureCu s core m sl x f u w)).dma = s.dma ∧ ((measureCu s core m sl x f u w)).sec = s.sec
    ∧ ((measureCu s core m sl x f u w)).power = s.power ∧ ((measureCu s core m sl x f u w)).hbm = s.hbm
    ∧ ((measureCu s core m sl x f u w)).tap = s.tap ∧ ((measureCu s core m sl x f u w)).pins = s.pins
    ∧ ((measureCu s core m sl x f u w)).px = s.px ∧ ((measureCu s core m sl x f u w)).sw = s.sw
    ∧ ((measureCu s core m sl x f u w)).tables = s.tables ∧ ((measureCu s core m sl x f u w)).net = s.net
    ∧ ((measureCu s core m sl x f u w)).fabric = s.fabric ∧ ((measureCu s core m sl x f u w)).qps = s.qps := by
  unfold measureCu; dsimp only; (repeat' apply And.intro) <;> (first | rfl | simp | (repeat' split) <;> simp)

@[simp] theorem writeRungs_same (s : State) (fn : Nat) (c : Bytes) (frame : Nat) (src : List Plane) :
    ((writeRungs s fn c frame src)).mode = s.mode ∧ ((writeRungs s fn c frame src)).ready = s.ready
    ∧ ((writeRungs s fn c frame src)).epochCtr = s.epochCtr ∧ ((writeRungs s fn c frame src)).vfEnabled = s.vfEnabled
    ∧ ((writeRungs s fn c frame src)).dma = s.dma ∧ ((writeRungs s fn c frame src)).sessions = s.sessions
    ∧ ((writeRungs s fn c frame src)).cores = s.cores ∧ ((writeRungs s fn c frame src)).sec = s.sec
    ∧ ((writeRungs s fn c frame src)).power = s.power ∧ ((writeRungs s fn c frame src)).tap = s.tap
    ∧ ((writeRungs s fn c frame src)).pins = s.pins ∧ ((writeRungs s fn c frame src)).px = s.px
    ∧ ((writeRungs s fn c frame src)).sw = s.sw ∧ ((writeRungs s fn c frame src)).tables = s.tables
    ∧ ((writeRungs s fn c frame src)).net = s.net ∧ ((writeRungs s fn c frame src)).fabric = s.fabric
    ∧ ((writeRungs s fn c frame src)).qps = s.qps := by
  unfold writeRungs; simp

@[simp] theorem completeSource_same (s : State) (x : Session) (p : SubPicture) :
    ((completeSource s x p)).mode = s.mode ∧ ((completeSource s x p)).ready = s.ready
    ∧ ((completeSource s x p)).epochCtr = s.epochCtr ∧ ((completeSource s x p)).vfEnabled = s.vfEnabled
    ∧ ((completeSource s x p)).dma = s.dma ∧ ((completeSource s x p)).sessions = s.sessions
    ∧ ((completeSource s x p)).cores = s.cores ∧ ((completeSource s x p)).sec = s.sec ∧ ((completeSource s x p)).power = s.power
    ∧ ((completeSource s x p)).hbm = s.hbm ∧ ((completeSource s x p)).tap = s.tap ∧ ((completeSource s x p)).pins = s.pins
    ∧ ((completeSource s x p)).px = s.px ∧ ((completeSource s x p)).sw = s.sw ∧ ((completeSource s x p)).tables = s.tables
    ∧ ((completeSource s x p)).net = s.net ∧ ((completeSource s x p)).fabric = s.fabric := by
  unfold completeSource; simp

@[simp] theorem ppuSource_same (s : State) (x : Session) (p : SubPicture) (i : PpuInput) :
    ((ppuSource s x p i)).mode = s.mode ∧ ((ppuSource s x p i)).ready = s.ready ∧ ((ppuSource s x p i)).epochCtr = s.epochCtr
    ∧ ((ppuSource s x p i)).vfEnabled = s.vfEnabled ∧ ((ppuSource s x p i)).dma = s.dma ∧ ((ppuSource s x p i)).cores = s.cores
    ∧ ((ppuSource s x p i)).sec = s.sec ∧ ((ppuSource s x p i)).power = s.power ∧ ((ppuSource s x p i)).tap = s.tap
    ∧ ((ppuSource s x p i)).pins = s.pins ∧ ((ppuSource s x p i)).px = s.px ∧ ((ppuSource s x p i)).sw = s.sw
    ∧ ((ppuSource s x p i)).tables = s.tables ∧ ((ppuSource s x p i)).net = s.net
    ∧ ((ppuSource s x p i)).fabric = s.fabric := by
  unfold ppuSource; simp

@[simp] theorem ppuOutput_same (s : State) (x : Session) (i : PpuInput) :
    ((ppuOutput s x i)).mode = s.mode ∧ ((ppuOutput s x i)).ready = s.ready ∧ ((ppuOutput s x i)).epochCtr = s.epochCtr
    ∧ ((ppuOutput s x i)).vfEnabled = s.vfEnabled ∧ ((ppuOutput s x i)).dma = s.dma ∧ ((ppuOutput s x i)).cores = s.cores
    ∧ ((ppuOutput s x i)).sec = s.sec ∧ ((ppuOutput s x i)).power = s.power ∧ ((ppuOutput s x i)).hbm = s.hbm
    ∧ ((ppuOutput s x i)).tap = s.tap ∧ ((ppuOutput s x i)).pins = s.pins ∧ ((ppuOutput s x i)).px = s.px
    ∧ ((ppuOutput s x i)).sw = s.sw ∧ ((ppuOutput s x i)).tables = s.tables ∧ ((ppuOutput s x i)).net = s.net
    ∧ ((ppuOutput s x i)).fabric = s.fabric ∧ ((ppuOutput s x i)).qps = s.qps := by
  unfold ppuOutput; simp

@[simp] theorem settleRotation_same (s : State) (k : Nat) :
    ((settleRotation s k)).mode = s.mode ∧ ((settleRotation s k)).ready = s.ready ∧ ((settleRotation s k)).epochCtr = s.epochCtr
    ∧ ((settleRotation s k)).vfEnabled = s.vfEnabled ∧ ((settleRotation s k)).dma = s.dma
    ∧ ((settleRotation s k)).sessions = s.sessions ∧ ((settleRotation s k)).cores = s.cores ∧ ((settleRotation s k)).sec = s.sec
    ∧ ((settleRotation s k)).power = s.power ∧ ((settleRotation s k)).hbm = s.hbm ∧ ((settleRotation s k)).tap = s.tap
    ∧ ((settleRotation s k)).pins = s.pins ∧ ((settleRotation s k)).px = s.px ∧ ((settleRotation s k)).sw = s.sw
    ∧ ((settleRotation s k)).tables = s.tables ∧ ((settleRotation s k)).net = s.net ∧ ((settleRotation s k)).fabric = s.fabric
    ∧ ((settleRotation s k)).qps = s.qps := by
  unfold settleRotation; (repeat' split) <;> simp

@[simp] theorem beginWake_same (s : State) (c : Nat) :
    ((beginWake s c)).mode = s.mode ∧ ((beginWake s c)).ready = s.ready ∧ ((beginWake s c)).epochCtr = s.epochCtr
    ∧ ((beginWake s c)).vfEnabled = s.vfEnabled ∧ ((beginWake s c)).dma = s.dma ∧ ((beginWake s c)).sessions = s.sessions
    ∧ ((beginWake s c)).sec = s.sec ∧ ((beginWake s c)).hbm = s.hbm ∧ ((beginWake s c)).tap = s.tap
    ∧ ((beginWake s c)).pins = s.pins ∧ ((beginWake s c)).px = s.px ∧ ((beginWake s c)).sw = s.sw
    ∧ ((beginWake s c)).tables = s.tables ∧ ((beginWake s c)).net = s.net ∧ ((beginWake s c)).fabric = s.fabric
    ∧ ((beginWake s c)).qps = s.qps := by
  unfold beginWake; simp

@[simp] theorem restartCore_same (s : State) (core : Nat) :
    ((restartCore s core)).mode = s.mode ∧ ((restartCore s core)).ready = s.ready ∧ ((restartCore s core)).epochCtr = s.epochCtr
    ∧ ((restartCore s core)).vfEnabled = s.vfEnabled ∧ ((restartCore s core)).dma = s.dma ∧ ((restartCore s core)).sec = s.sec
    ∧ ((restartCore s core)).power = s.power ∧ ((restartCore s core)).hbm = s.hbm ∧ ((restartCore s core)).tap = s.tap
    ∧ ((restartCore s core)).pins = s.pins ∧ ((restartCore s core)).px = s.px ∧ ((restartCore s core)).sw = s.sw
    ∧ ((restartCore s core)).tables = s.tables ∧ ((restartCore s core)).net = s.net ∧ ((restartCore s core)).fabric = s.fabric
    ∧ ((restartCore s core)).qps = s.qps := by
  unfold restartCore; dsimp only; (repeat' apply And.intro) <;> (first | rfl | simp | (repeat' split) <;> simp)

@[simp] theorem restartDecoder_same (s : State) (core : Nat) :
    ((restartDecoder s core)).mode = s.mode ∧ ((restartDecoder s core)).ready = s.ready
    ∧ ((restartDecoder s core)).epochCtr = s.epochCtr ∧ ((restartDecoder s core)).vfEnabled = s.vfEnabled
    ∧ ((restartDecoder s core)).dma = s.dma ∧ ((restartDecoder s core)).cores = s.cores ∧ ((restartDecoder s core)).sec = s.sec
    ∧ ((restartDecoder s core)).power = s.power ∧ ((restartDecoder s core)).hbm = s.hbm ∧ ((restartDecoder s core)).tap = s.tap
    ∧ ((restartDecoder s core)).pins = s.pins ∧ ((restartDecoder s core)).px = s.px ∧ ((restartDecoder s core)).sw = s.sw
    ∧ ((restartDecoder s core)).tables = s.tables ∧ ((restartDecoder s core)).net = s.net
    ∧ ((restartDecoder s core)).fabric = s.fabric ∧ ((restartDecoder s core)).qps = s.qps := by
  unfold restartDecoder; simp

@[simp] theorem restartAny_same (s : State) (core : Nat) :
    ((restartAny s core)).mode = s.mode ∧ ((restartAny s core)).ready = s.ready ∧ ((restartAny s core)).epochCtr = s.epochCtr
    ∧ ((restartAny s core)).vfEnabled = s.vfEnabled ∧ ((restartAny s core)).dma = s.dma ∧ ((restartAny s core)).sec = s.sec
    ∧ ((restartAny s core)).power = s.power ∧ ((restartAny s core)).hbm = s.hbm ∧ ((restartAny s core)).tap = s.tap
    ∧ ((restartAny s core)).pins = s.pins ∧ ((restartAny s core)).px = s.px ∧ ((restartAny s core)).sw = s.sw
    ∧ ((restartAny s core)).tables = s.tables ∧ ((restartAny s core)).net = s.net ∧ ((restartAny s core)).fabric = s.fabric
    ∧ ((restartAny s core)).qps = s.qps := by
  unfold restartAny; simp

@[simp] theorem markReference_same (s : State) (core : Nat) (r : BadRect) :
    ((markReference s core r)).mode = s.mode ∧ ((markReference s core r)).ready = s.ready
    ∧ ((markReference s core r)).epochCtr = s.epochCtr ∧ ((markReference s core r)).vfEnabled = s.vfEnabled
    ∧ ((markReference s core r)).dma = s.dma ∧ ((markReference s core r)).cores = s.cores
    ∧ ((markReference s core r)).sec = s.sec ∧ ((markReference s core r)).power = s.power
    ∧ ((markReference s core r)).hbm = s.hbm ∧ ((markReference s core r)).tap = s.tap ∧ ((markReference s core r)).pins = s.pins
    ∧ ((markReference s core r)).px = s.px ∧ ((markReference s core r)).sw = s.sw ∧ ((markReference s core r)).tables = s.tables
    ∧ ((markReference s core r)).net = s.net ∧ ((markReference s core r)).fabric = s.fabric
    ∧ ((markReference s core r)).qps = s.qps := by
  unfold markReference; (repeat' split) <;> simp

@[simp] theorem concealSource_same (s : State) (core n : Nat) :
    ((concealSource s core n)).mode = s.mode ∧ ((concealSource s core n)).ready = s.ready
    ∧ ((concealSource s core n)).epochCtr = s.epochCtr ∧ ((concealSource s core n)).vfEnabled = s.vfEnabled
    ∧ ((concealSource s core n)).dma = s.dma ∧ ((concealSource s core n)).cores = s.cores
    ∧ ((concealSource s core n)).sec = s.sec ∧ ((concealSource s core n)).power = s.power
    ∧ ((concealSource s core n)).hbm = s.hbm ∧ ((concealSource s core n)).tap = s.tap ∧ ((concealSource s core n)).pins = s.pins
    ∧ ((concealSource s core n)).px = s.px ∧ ((concealSource s core n)).sw = s.sw ∧ ((concealSource s core n)).tables = s.tables
    ∧ ((concealSource s core n)).net = s.net ∧ ((concealSource s core n)).fabric = s.fabric
    ∧ ((concealSource s core n)).qps = s.qps := by
  unfold concealSource; (repeat' split) <;> simp

@[simp] theorem postMotion_same (s : State) (x : Session) (f : EncFrame) :
    ((postMotion s x f).1).mode = s.mode ∧ ((postMotion s x f).1).ready = s.ready ∧ ((postMotion s x f).1).epochCtr = s.epochCtr
    ∧ ((postMotion s x f).1).vfEnabled = s.vfEnabled ∧ ((postMotion s x f).1).dma = s.dma
    ∧ ((postMotion s x f).1).sessions = s.sessions ∧ ((postMotion s x f).1).cores = s.cores ∧ ((postMotion s x f).1).sec = s.sec
    ∧ ((postMotion s x f).1).power = s.power ∧ ((postMotion s x f).1).tap = s.tap ∧ ((postMotion s x f).1).pins = s.pins
    ∧ ((postMotion s x f).1).px = s.px ∧ ((postMotion s x f).1).sw = s.sw ∧ ((postMotion s x f).1).tables = s.tables
    ∧ ((postMotion s x f).1).net = s.net ∧ ((postMotion s x f).1).fabric = s.fabric ∧ ((postMotion s x f).1).qps = s.qps := by
  unfold postMotion; (repeat' split) <;> simp

@[simp] theorem writeFmap_same (s : State) (x : Session) (f : EncFrame) :
    ((writeFmap s x f)).mode = s.mode ∧ ((writeFmap s x f)).ready = s.ready ∧ ((writeFmap s x f)).epochCtr = s.epochCtr
    ∧ ((writeFmap s x f)).vfEnabled = s.vfEnabled ∧ ((writeFmap s x f)).dma = s.dma ∧ ((writeFmap s x f)).sessions = s.sessions
    ∧ ((writeFmap s x f)).cores = s.cores ∧ ((writeFmap s x f)).sec = s.sec ∧ ((writeFmap s x f)).power = s.power
    ∧ ((writeFmap s x f)).tap = s.tap ∧ ((writeFmap s x f)).pins = s.pins ∧ ((writeFmap s x f)).px = s.px
    ∧ ((writeFmap s x f)).sw = s.sw ∧ ((writeFmap s x f)).tables = s.tables ∧ ((writeFmap s x f)).net = s.net
    ∧ ((writeFmap s x f)).fabric = s.fabric ∧ ((writeFmap s x f)).qps = s.qps := by
  unfold writeFmap; simp

@[simp] theorem reportFrame_same (s : State) (x : Session) (f0 : EncFrame) :
    ((reportFrame s x f0)).mode = s.mode ∧ ((reportFrame s x f0)).ready = s.ready ∧ ((reportFrame s x f0)).epochCtr = s.epochCtr
    ∧ ((reportFrame s x f0)).vfEnabled = s.vfEnabled ∧ ((reportFrame s x f0)).dma = s.dma
    ∧ ((reportFrame s x f0)).cores = s.cores ∧ ((reportFrame s x f0)).sec = s.sec ∧ ((reportFrame s x f0)).power = s.power
    ∧ ((reportFrame s x f0)).tap = s.tap ∧ ((reportFrame s x f0)).pins = s.pins ∧ ((reportFrame s x f0)).px = s.px
    ∧ ((reportFrame s x f0)).sw = s.sw ∧ ((reportFrame s x f0)).tables = s.tables ∧ ((reportFrame s x f0)).net = s.net
    ∧ ((reportFrame s x f0)).fabric = s.fabric ∧ ((reportFrame s x f0)).qps = s.qps := by
  unfold reportFrame; simp

@[simp] theorem reportFrames_same (n : Nat) (s : State) (id : Nat) :
    ((reportFrames n s id)).mode = s.mode ∧ ((reportFrames n s id)).ready = s.ready
    ∧ ((reportFrames n s id)).epochCtr = s.epochCtr ∧ ((reportFrames n s id)).vfEnabled = s.vfEnabled
    ∧ ((reportFrames n s id)).dma = s.dma ∧ ((reportFrames n s id)).cores = s.cores ∧ ((reportFrames n s id)).sec = s.sec
    ∧ ((reportFrames n s id)).power = s.power ∧ ((reportFrames n s id)).tap = s.tap ∧ ((reportFrames n s id)).pins = s.pins
    ∧ ((reportFrames n s id)).px = s.px ∧ ((reportFrames n s id)).sw = s.sw ∧ ((reportFrames n s id)).tables = s.tables
    ∧ ((reportFrames n s id)).net = s.net ∧ ((reportFrames n s id)).fabric = s.fabric
    ∧ ((reportFrames n s id)).qps = s.qps := by
  induction n generalizing s <;> unfold reportFrames <;> (repeat' split) <;> simp [*]

@[simp] theorem queueUnits_same (s : State) (x : Session) (f : EncFrame) (first : Nat) (l : List UnitRec) :
    ((queueUnits s x f first l)).mode = s.mode ∧ ((queueUnits s x f first l)).ready = s.ready
    ∧ ((queueUnits s x f first l)).epochCtr = s.epochCtr ∧ ((queueUnits s x f first l)).vfEnabled = s.vfEnabled
    ∧ ((queueUnits s x f first l)).dma = s.dma ∧ ((queueUnits s x f first l)).sessions = s.sessions
    ∧ ((queueUnits s x f first l)).cores = s.cores ∧ ((queueUnits s x f first l)).sec = s.sec
    ∧ ((queueUnits s x f first l)).power = s.power ∧ ((queueUnits s x f first l)).hbm = s.hbm
    ∧ ((queueUnits s x f first l)).tap = s.tap ∧ ((queueUnits s x f first l)).pins = s.pins
    ∧ ((queueUnits s x f first l)).px = s.px ∧ ((queueUnits s x f first l)).sw = s.sw
    ∧ ((queueUnits s x f first l)).tables = s.tables ∧ ((queueUnits s x f first l)).net = s.net
    ∧ ((queueUnits s x f first l)).fabric = s.fabric ∧ ((queueUnits s x f first l)).qps = s.qps := by
  unfold queueUnits; simp

@[simp] theorem limitReached_same (s : State) (id : Nat) (f : EncFrame) :
    ((limitReached s id f)).mode = s.mode ∧ ((limitReached s id f)).ready = s.ready
    ∧ ((limitReached s id f)).epochCtr = s.epochCtr ∧ ((limitReached s id f)).vfEnabled = s.vfEnabled
    ∧ ((limitReached s id f)).dma = s.dma ∧ ((limitReached s id f)).sec = s.sec ∧ ((limitReached s id f)).power = s.power
    ∧ ((limitReached s id f)).tap = s.tap ∧ ((limitReached s id f)).pins = s.pins ∧ ((limitReached s id f)).px = s.px
    ∧ ((limitReached s id f)).sw = s.sw ∧ ((limitReached s id f)).tables = s.tables ∧ ((limitReached s id f)).net = s.net
    ∧ ((limitReached s id f)).fabric = s.fabric := by
  unfold limitReached; (repeat' split) <;> simp

@[simp] theorem dispatchBand_same (s : State) (x : Session) (f : EncFrame) (place : List Nat) :
    ((dispatchBand s x f place)).mode = s.mode ∧ ((dispatchBand s x f place)).ready = s.ready
    ∧ ((dispatchBand s x f place)).epochCtr = s.epochCtr ∧ ((dispatchBand s x f place)).vfEnabled = s.vfEnabled
    ∧ ((dispatchBand s x f place)).dma = s.dma ∧ ((dispatchBand s x f place)).sec = s.sec
    ∧ ((dispatchBand s x f place)).power = s.power ∧ ((dispatchBand s x f place)).tap = s.tap
    ∧ ((dispatchBand s x f place)).pins = s.pins ∧ ((dispatchBand s x f place)).px = s.px
    ∧ ((dispatchBand s x f place)).sw = s.sw ∧ ((dispatchBand s x f place)).tables = s.tables
    ∧ ((dispatchBand s x f place)).net = s.net ∧ ((dispatchBand s x f place)).fabric = s.fabric := by
  unfold dispatchBand; simp

@[simp] theorem dispatchFrame_same (s : State) (x0 : Session) (place : List Nat) (target : Nat) (shares : List Nat) :
    ((dispatchFrame s x0 place target shares)).mode = s.mode ∧ ((dispatchFrame s x0 place target shares)).ready = s.ready
    ∧ ((dispatchFrame s x0 place target shares)).epochCtr = s.epochCtr
    ∧ ((dispatchFrame s x0 place target shares)).vfEnabled = s.vfEnabled
    ∧ ((dispatchFrame s x0 place target shares)).dma = s.dma ∧ ((dispatchFrame s x0 place target shares)).sec = s.sec
    ∧ ((dispatchFrame s x0 place target shares)).power = s.power ∧ ((dispatchFrame s x0 place target shares)).tap = s.tap
    ∧ ((dispatchFrame s x0 place target shares)).pins = s.pins ∧ ((dispatchFrame s x0 place target shares)).px = s.px
    ∧ ((dispatchFrame s x0 place target shares)).sw = s.sw ∧ ((dispatchFrame s x0 place target shares)).tables = s.tables
    ∧ ((dispatchFrame s x0 place target shares)).net = s.net
    ∧ ((dispatchFrame s x0 place target shares)).fabric = s.fabric := by
  unfold dispatchFrame; dsimp only; (repeat' split) <;> simp

@[simp] theorem startUnit_same (s : State) (core : Nat) (b : BandCmd) (x : Session) (f : EncFrame) (u : UnitRec) :
    ((startUnit s core b x f u)).mode = s.mode ∧ ((startUnit s core b x f u)).ready = s.ready
    ∧ ((startUnit s core b x f u)).epochCtr = s.epochCtr ∧ ((startUnit s core b x f u)).vfEnabled = s.vfEnabled
    ∧ ((startUnit s core b x f u)).dma = s.dma ∧ ((startUnit s core b x f u)).sec = s.sec
    ∧ ((startUnit s core b x f u)).power = s.power ∧ ((startUnit s core b x f u)).hbm = s.hbm
    ∧ ((startUnit s core b x f u)).tap = s.tap ∧ ((startUnit s core b x f u)).pins = s.pins
    ∧ ((startUnit s core b x f u)).px = s.px ∧ ((startUnit s core b x f u)).sw = s.sw
    ∧ ((startUnit s core b x f u)).tables = s.tables ∧ ((startUnit s core b x f u)).net = s.net
    ∧ ((startUnit s core b x f u)).fabric = s.fabric ∧ ((startUnit s core b x f u)).qps = s.qps := by
  unfold startUnit; simp

@[simp] theorem enterFront_same (s : State) (core : Nat) (x : Session) (f : EncFrame) (u : UnitRec) (w : WorkRef) :
    ((enterFront s core x f u w)).mode = s.mode ∧ ((enterFront s core x f u w)).ready = s.ready
    ∧ ((enterFront s core x f u w)).epochCtr = s.epochCtr ∧ ((enterFront s core x f u w)).vfEnabled = s.vfEnabled
    ∧ ((enterFront s core x f u w)).dma = s.dma ∧ ((enterFront s core x f u w)).sec = s.sec
    ∧ ((enterFront s core x f u w)).power = s.power ∧ ((enterFront s core x f u w)).hbm = s.hbm
    ∧ ((enterFront s core x f u w)).tap = s.tap ∧ ((enterFront s core x f u w)).pins = s.pins
    ∧ ((enterFront s core x f u w)).px = s.px ∧ ((enterFront s core x f u w)).sw = s.sw
    ∧ ((enterFront s core x f u w)).tables = s.tables ∧ ((enterFront s core x f u w)).net = s.net
    ∧ ((enterFront s core x f u w)).fabric = s.fabric ∧ ((enterFront s core x f u w)).qps = s.qps := by
  unfold enterFront; simp

@[simp] theorem moveInto_same (s : State) (core e : Nat) (around : List AssayIn) (x : Session) (f : EncFrame) (u : UnitRec) :
    ((moveInto s core e around x f u)).mode = s.mode ∧ ((moveInto s core e around x f u)).ready = s.ready
    ∧ ((moveInto s core e around x f u)).epochCtr = s.epochCtr ∧ ((moveInto s core e around x f u)).vfEnabled = s.vfEnabled
    ∧ ((moveInto s core e around x f u)).dma = s.dma ∧ ((moveInto s core e around x f u)).sessions = s.sessions
    ∧ ((moveInto s core e around x f u)).sec = s.sec ∧ ((moveInto s core e around x f u)).power = s.power
    ∧ ((moveInto s core e around x f u)).hbm = s.hbm ∧ ((moveInto s core e around x f u)).tap = s.tap
    ∧ ((moveInto s core e around x f u)).pins = s.pins ∧ ((moveInto s core e around x f u)).px = s.px
    ∧ ((moveInto s core e around x f u)).sw = s.sw ∧ ((moveInto s core e around x f u)).tables = s.tables
    ∧ ((moveInto s core e around x f u)).net = s.net ∧ ((moveInto s core e around x f u)).fabric = s.fabric
    ∧ ((moveInto s core e around x f u)).qps = s.qps := by
  unfold moveInto; dsimp only; (repeat' split) <;> simp

@[simp] theorem sendStats_same (s : State) (x : Session) (f : EncFrame) (u : UnitRec) :
    ((sendStats s x f u)).mode = s.mode ∧ ((sendStats s x f u)).ready = s.ready ∧ ((sendStats s x f u)).epochCtr = s.epochCtr
    ∧ ((sendStats s x f u)).vfEnabled = s.vfEnabled ∧ ((sendStats s x f u)).dma = s.dma
    ∧ ((sendStats s x f u)).sessions = s.sessions ∧ ((sendStats s x f u)).cores = s.cores ∧ ((sendStats s x f u)).sec = s.sec
    ∧ ((sendStats s x f u)).power = s.power ∧ ((sendStats s x f u)).hbm = s.hbm ∧ ((sendStats s x f u)).tap = s.tap
    ∧ ((sendStats s x f u)).pins = s.pins ∧ ((sendStats s x f u)).px = s.px ∧ ((sendStats s x f u)).sw = s.sw
    ∧ ((sendStats s x f u)).tables = s.tables ∧ ((sendStats s x f u)).net = s.net ∧ ((sendStats s x f u)).qps = s.qps := by
  unfold sendStats; simp

@[simp] theorem sendSeams_same (s : State) (x : Session) (f : EncFrame) (b : Nat) :
    ((sendSeams s x f b)).mode = s.mode ∧ ((sendSeams s x f b)).ready = s.ready ∧ ((sendSeams s x f b)).epochCtr = s.epochCtr
    ∧ ((sendSeams s x f b)).vfEnabled = s.vfEnabled ∧ ((sendSeams s x f b)).dma = s.dma
    ∧ ((sendSeams s x f b)).sessions = s.sessions ∧ ((sendSeams s x f b)).cores = s.cores ∧ ((sendSeams s x f b)).sec = s.sec
    ∧ ((sendSeams s x f b)).power = s.power ∧ ((sendSeams s x f b)).hbm = s.hbm ∧ ((sendSeams s x f b)).tap = s.tap
    ∧ ((sendSeams s x f b)).pins = s.pins ∧ ((sendSeams s x f b)).px = s.px ∧ ((sendSeams s x f b)).sw = s.sw
    ∧ ((sendSeams s x f b)).tables = s.tables ∧ ((sendSeams s x f b)).net = s.net ∧ ((sendSeams s x f b)).fabric = s.fabric
    ∧ ((sendSeams s x f b)).qps = s.qps := by
  unfold sendSeams; simp

@[simp] theorem sendStrips_same (s : State) (x : Session) (f : EncFrame) (b : Nat) :
    ((sendStrips s x f b)).mode = s.mode ∧ ((sendStrips s x f b)).ready = s.ready ∧ ((sendStrips s x f b)).epochCtr = s.epochCtr
    ∧ ((sendStrips s x f b)).vfEnabled = s.vfEnabled ∧ ((sendStrips s x f b)).dma = s.dma
    ∧ ((sendStrips s x f b)).cores = s.cores ∧ ((sendStrips s x f b)).sec = s.sec ∧ ((sendStrips s x f b)).power = s.power
    ∧ ((sendStrips s x f b)).hbm = s.hbm ∧ ((sendStrips s x f b)).tap = s.tap ∧ ((sendStrips s x f b)).pins = s.pins
    ∧ ((sendStrips s x f b)).px = s.px ∧ ((sendStrips s x f b)).sw = s.sw ∧ ((sendStrips s x f b)).tables = s.tables
    ∧ ((sendStrips s x f b)).net = s.net ∧ ((sendStrips s x f b)).fabric = s.fabric ∧ ((sendStrips s x f b)).qps = s.qps := by
  unfold sendStrips; simp

@[simp] theorem finishUnit_same (s : State) (core : Nat) (x : Session) (f : EncFrame) (i : Nat) (u : UnitRec) :
    ((finishUnit s core x f i u)).mode = s.mode ∧ ((finishUnit s core x f i u)).ready = s.ready
    ∧ ((finishUnit s core x f i u)).epochCtr = s.epochCtr ∧ ((finishUnit s core x f i u)).vfEnabled = s.vfEnabled
    ∧ ((finishUnit s core x f i u)).dma = s.dma ∧ ((finishUnit s core x f i u)).sec = s.sec
    ∧ ((finishUnit s core x f i u)).power = s.power ∧ ((finishUnit s core x f i u)).tap = s.tap
    ∧ ((finishUnit s core x f i u)).pins = s.pins ∧ ((finishUnit s core x f i u)).px = s.px
    ∧ ((finishUnit s core x f i u)).sw = s.sw ∧ ((finishUnit s core x f i u)).tables = s.tables
    ∧ ((finishUnit s core x f i u)).net = s.net ∧ ((finishUnit s core x f i u)).qps = s.qps := by
  unfold finishUnit; simp

@[simp] theorem commitRow_same (s : State) (core : Nat) (b : Bytes) (complexity : Nat) (x : Session) (f : EncFrame) (u : UnitRec) (w : WorkRef) :
    ((commitRow s core b complexity x f u w)).mode = s.mode ∧ ((commitRow s core b complexity x f u w)).ready = s.ready
    ∧ ((commitRow s core b complexity x f u w)).epochCtr = s.epochCtr
    ∧ ((commitRow s core b complexity x f u w)).vfEnabled = s.vfEnabled ∧ ((commitRow s core b complexity x f u w)).dma = s.dma
    ∧ ((commitRow s core b complexity x f u w)).sec = s.sec ∧ ((commitRow s core b complexity x f u w)).power = s.power
    ∧ ((commitRow s core b complexity x f u w)).tap = s.tap ∧ ((commitRow s core b complexity x f u w)).pins = s.pins
    ∧ ((commitRow s core b complexity x f u w)).px = s.px ∧ ((commitRow s core b complexity x f u w)).sw = s.sw
    ∧ ((commitRow s core b complexity x f u w)).tables = s.tables ∧ ((commitRow s core b complexity x f u w)).net = s.net
    ∧ ((commitRow s core b complexity x f u w)).qps = s.qps := by
  unfold commitRow; simp

@[simp] theorem fillGap_same (s : State) (x : Session) (last : Nat) :
    ((fillGap s x last)).mode = s.mode ∧ ((fillGap s x last)).ready = s.ready ∧ ((fillGap s x last)).epochCtr = s.epochCtr
    ∧ ((fillGap s x last)).vfEnabled = s.vfEnabled ∧ ((fillGap s x last)).dma = s.dma ∧ ((fillGap s x last)).cores = s.cores
    ∧ ((fillGap s x last)).sec = s.sec ∧ ((fillGap s x last)).power = s.power ∧ ((fillGap s x last)).hbm = s.hbm
    ∧ ((fillGap s x last)).tap = s.tap ∧ ((fillGap s x last)).pins = s.pins ∧ ((fillGap s x last)).px = s.px
    ∧ ((fillGap s x last)).sw = s.sw ∧ ((fillGap s x last)).tables = s.tables ∧ ((fillGap s x last)).net = s.net
    ∧ ((fillGap s x last)).fabric = s.fabric ∧ ((fillGap s x last)).qps = s.qps := by
  unfold fillGap; (repeat' split) <;> simp

@[simp] theorem writeCmap_same (s : State) (x : Session) (p : DecPicture) :
    ((writeCmap s x p)).mode = s.mode ∧ ((writeCmap s x p)).ready = s.ready ∧ ((writeCmap s x p)).epochCtr = s.epochCtr
    ∧ ((writeCmap s x p)).vfEnabled = s.vfEnabled ∧ ((writeCmap s x p)).dma = s.dma ∧ ((writeCmap s x p)).sessions = s.sessions
    ∧ ((writeCmap s x p)).cores = s.cores ∧ ((writeCmap s x p)).sec = s.sec ∧ ((writeCmap s x p)).power = s.power
    ∧ ((writeCmap s x p)).tap = s.tap ∧ ((writeCmap s x p)).pins = s.pins ∧ ((writeCmap s x p)).px = s.px
    ∧ ((writeCmap s x p)).sw = s.sw ∧ ((writeCmap s x p)).tables = s.tables ∧ ((writeCmap s x p)).net = s.net
    ∧ ((writeCmap s x p)).fabric = s.fabric ∧ ((writeCmap s x p)).qps = s.qps := by
  unfold writeCmap; simp

@[simp] theorem writeOutput_same (s : State) (x : Session) (p : DecPicture) :
    ((writeOutput s x p).1).mode = s.mode ∧ ((writeOutput s x p).1).ready = s.ready
    ∧ ((writeOutput s x p).1).epochCtr = s.epochCtr ∧ ((writeOutput s x p).1).vfEnabled = s.vfEnabled
    ∧ ((writeOutput s x p).1).dma = s.dma ∧ ((writeOutput s x p).1).sessions = s.sessions
    ∧ ((writeOutput s x p).1).cores = s.cores ∧ ((writeOutput s x p).1).sec = s.sec ∧ ((writeOutput s x p).1).power = s.power
    ∧ ((writeOutput s x p).1).tap = s.tap ∧ ((writeOutput s x p).1).pins = s.pins ∧ ((writeOutput s x p).1).px = s.px
    ∧ ((writeOutput s x p).1).sw = s.sw ∧ ((writeOutput s x p).1).tables = s.tables ∧ ((writeOutput s x p).1).net = s.net
    ∧ ((writeOutput s x p).1).fabric = s.fabric := by
  unfold writeOutput; (repeat' split) <;> simp

@[simp] theorem finishOutput_same (s : State) (id pic : Nat) :
    ((finishOutput s id pic)).mode = s.mode ∧ ((finishOutput s id pic)).ready = s.ready
    ∧ ((finishOutput s id pic)).epochCtr = s.epochCtr ∧ ((finishOutput s id pic)).vfEnabled = s.vfEnabled
    ∧ ((finishOutput s id pic)).dma = s.dma ∧ ((finishOutput s id pic)).sec = s.sec ∧ ((finishOutput s id pic)).power = s.power
    ∧ ((finishOutput s id pic)).tap = s.tap ∧ ((finishOutput s id pic)).pins = s.pins ∧ ((finishOutput s id pic)).px = s.px
    ∧ ((finishOutput s id pic)).sw = s.sw ∧ ((finishOutput s id pic)).tables = s.tables ∧ ((finishOutput s id pic)).net = s.net
    ∧ ((finishOutput s id pic)).fabric = s.fabric := by
  unfold finishOutput; dsimp only; (repeat' split) <;> simp

@[simp] theorem markLate_same (s : State) (id pic : Nat) :
    ((markLate s id pic)).mode = s.mode ∧ ((markLate s id pic)).ready = s.ready ∧ ((markLate s id pic)).epochCtr = s.epochCtr
    ∧ ((markLate s id pic)).vfEnabled = s.vfEnabled ∧ ((markLate s id pic)).dma = s.dma ∧ ((markLate s id pic)).cores = s.cores
    ∧ ((markLate s id pic)).sec = s.sec ∧ ((markLate s id pic)).power = s.power ∧ ((markLate s id pic)).hbm = s.hbm
    ∧ ((markLate s id pic)).tap = s.tap ∧ ((markLate s id pic)).pins = s.pins ∧ ((markLate s id pic)).px = s.px
    ∧ ((markLate s id pic)).sw = s.sw ∧ ((markLate s id pic)).tables = s.tables ∧ ((markLate s id pic)).net = s.net
    ∧ ((markLate s id pic)).fabric = s.fabric ∧ ((markLate s id pic)).qps = s.qps := by
  unfold markLate; (repeat' split) <;> simp

@[simp] theorem pxReceive_same (s : State) (typ : Nat) (p : PxPkt) :
    ((pxReceive s typ p).2).mode = s.mode ∧ ((pxReceive s typ p).2).ready = s.ready
    ∧ ((pxReceive s typ p).2).epochCtr = s.epochCtr ∧ ((pxReceive s typ p).2).vfEnabled = s.vfEnabled
    ∧ ((pxReceive s typ p).2).dma = s.dma ∧ ((pxReceive s typ p).2).sessions = s.sessions
    ∧ ((pxReceive s typ p).2).cores = s.cores ∧ ((pxReceive s typ p).2).sec = s.sec ∧ ((pxReceive s typ p).2).power = s.power
    ∧ ((pxReceive s typ p).2).hbm = s.hbm ∧ ((pxReceive s typ p).2).tap = s.tap ∧ ((pxReceive s typ p).2).pins = s.pins
    ∧ ((pxReceive s typ p).2).sw = s.sw ∧ ((pxReceive s typ p).2).tables = s.tables ∧ ((pxReceive s typ p).2).net = s.net
    ∧ ((pxReceive s typ p).2).fabric = s.fabric ∧ ((pxReceive s typ p).2).qps = s.qps := by
  unfold pxReceive; grind [draw_same, pxSet_same, collect_same]

@[simp] theorem endPicture_same (s : State) (p : Nat) :
    ((endPicture s p)).mode = s.mode ∧ ((endPicture s p)).ready = s.ready ∧ ((endPicture s p)).epochCtr = s.epochCtr
    ∧ ((endPicture s p)).vfEnabled = s.vfEnabled ∧ ((endPicture s p)).dma = s.dma ∧ ((endPicture s p)).cores = s.cores
    ∧ ((endPicture s p)).sec = s.sec ∧ ((endPicture s p)).power = s.power ∧ ((endPicture s p)).hbm = s.hbm
    ∧ ((endPicture s p)).tap = s.tap ∧ ((endPicture s p)).pins = s.pins ∧ ((endPicture s p)).sw = s.sw
    ∧ ((endPicture s p)).tables = s.tables ∧ ((endPicture s p)).net = s.net ∧ ((endPicture s p)).fabric = s.fabric
    ∧ ((endPicture s p)).qps = s.qps := by
  unfold endPicture; dsimp only; (repeat' apply And.intro) <;> (first | rfl | simp | (repeat' split) <;> simp)

@[simp] theorem beginPicture_same (s : State) (p : PxPkt) (f : PxStart) (x : Session) :
    ((beginPicture s p f x)).mode = s.mode ∧ ((beginPicture s p f x)).ready = s.ready
    ∧ ((beginPicture s p f x)).epochCtr = s.epochCtr ∧ ((beginPicture s p f x)).vfEnabled = s.vfEnabled
    ∧ ((beginPicture s p f x)).dma = s.dma ∧ ((beginPicture s p f x)).cores = s.cores ∧ ((beginPicture s p f x)).sec = s.sec
    ∧ ((beginPicture s p f x)).power = s.power ∧ ((beginPicture s p f x)).hbm = s.hbm ∧ ((beginPicture s p f x)).tap = s.tap
    ∧ ((beginPicture s p f x)).pins = s.pins ∧ ((beginPicture s p f x)).sw = s.sw ∧ ((beginPicture s p f x)).tables = s.tables
    ∧ ((beginPicture s p f x)).net = s.net ∧ ((beginPicture s p f x)).fabric = s.fabric
    ∧ ((beginPicture s p f x)).qps = s.qps := by
  unfold beginPicture; simp

@[simp] theorem discardPicture_same (s : State) (p : PxPkt) (f : PxStart) :
    ((discardPicture s p f)).mode = s.mode ∧ ((discardPicture s p f)).ready = s.ready
    ∧ ((discardPicture s p f)).epochCtr = s.epochCtr ∧ ((discardPicture s p f)).vfEnabled = s.vfEnabled
    ∧ ((discardPicture s p f)).dma = s.dma ∧ ((discardPicture s p f)).sessions = s.sessions
    ∧ ((discardPicture s p f)).cores = s.cores ∧ ((discardPicture s p f)).sec = s.sec ∧ ((discardPicture s p f)).power = s.power
    ∧ ((discardPicture s p f)).hbm = s.hbm ∧ ((discardPicture s p f)).tap = s.tap ∧ ((discardPicture s p f)).pins = s.pins
    ∧ ((discardPicture s p f)).sw = s.sw ∧ ((discardPicture s p f)).tables = s.tables ∧ ((discardPicture s p f)).net = s.net
    ∧ ((discardPicture s p f)).fabric = s.fabric ∧ ((discardPicture s p f)).qps = s.qps := by
  unfold discardPicture; simp

@[simp] theorem startPicture_same (s : State) (p : PxPkt) :
    ((startPicture s p)).mode = s.mode ∧ ((startPicture s p)).ready = s.ready ∧ ((startPicture s p)).epochCtr = s.epochCtr
    ∧ ((startPicture s p)).vfEnabled = s.vfEnabled ∧ ((startPicture s p)).dma = s.dma ∧ ((startPicture s p)).cores = s.cores
    ∧ ((startPicture s p)).sec = s.sec ∧ ((startPicture s p)).power = s.power ∧ ((startPicture s p)).hbm = s.hbm
    ∧ ((startPicture s p)).tap = s.tap ∧ ((startPicture s p)).pins = s.pins ∧ ((startPicture s p)).sw = s.sw
    ∧ ((startPicture s p)).tables = s.tables ∧ ((startPicture s p)).net = s.net ∧ ((startPicture s p)).fabric = s.fabric
    ∧ ((startPicture s p)).qps = s.qps := by
  unfold startPicture; dsimp only; (repeat' split) <;> simp

@[simp] theorem orderError_same (s : State) (p : Nat) :
    ((orderError s p)).mode = s.mode ∧ ((orderError s p)).ready = s.ready ∧ ((orderError s p)).epochCtr = s.epochCtr
    ∧ ((orderError s p)).vfEnabled = s.vfEnabled ∧ ((orderError s p)).dma = s.dma ∧ ((orderError s p)).sessions = s.sessions
    ∧ ((orderError s p)).cores = s.cores ∧ ((orderError s p)).sec = s.sec ∧ ((orderError s p)).power = s.power
    ∧ ((orderError s p)).hbm = s.hbm ∧ ((orderError s p)).tap = s.tap ∧ ((orderError s p)).pins = s.pins
    ∧ ((orderError s p)).sw = s.sw ∧ ((orderError s p)).tables = s.tables ∧ ((orderError s p)).net = s.net
    ∧ ((orderError s p)).fabric = s.fabric ∧ ((orderError s p)).qps = s.qps := by
  unfold orderError; simp

@[simp] theorem takeLine_same (s : State) (p : PxPkt) :
    ((takeLine s p)).mode = s.mode ∧ ((takeLine s p)).ready = s.ready ∧ ((takeLine s p)).epochCtr = s.epochCtr
    ∧ ((takeLine s p)).vfEnabled = s.vfEnabled ∧ ((takeLine s p)).dma = s.dma ∧ ((takeLine s p)).sessions = s.sessions
    ∧ ((takeLine s p)).cores = s.cores ∧ ((takeLine s p)).sec = s.sec ∧ ((takeLine s p)).power = s.power
    ∧ ((takeLine s p)).hbm = s.hbm ∧ ((takeLine s p)).tap = s.tap ∧ ((takeLine s p)).pins = s.pins ∧ ((takeLine s p)).sw = s.sw
    ∧ ((takeLine s p)).tables = s.tables ∧ ((takeLine s p)).net = s.net ∧ ((takeLine s p)).fabric = s.fabric
    ∧ ((takeLine s p)).qps = s.qps := by
  unfold takeLine; (repeat' split) <;> simp

@[simp] theorem takeMetadata_same (s : State) (p : PxPkt) :
    ((takeMetadata s p)).mode = s.mode ∧ ((takeMetadata s p)).ready = s.ready ∧ ((takeMetadata s p)).epochCtr = s.epochCtr
    ∧ ((takeMetadata s p)).vfEnabled = s.vfEnabled ∧ ((takeMetadata s p)).dma = s.dma ∧ ((takeMetadata s p)).cores = s.cores
    ∧ ((takeMetadata s p)).sec = s.sec ∧ ((takeMetadata s p)).power = s.power ∧ ((takeMetadata s p)).hbm = s.hbm
    ∧ ((takeMetadata s p)).tap = s.tap ∧ ((takeMetadata s p)).pins = s.pins ∧ ((takeMetadata s p)).sw = s.sw
    ∧ ((takeMetadata s p)).tables = s.tables ∧ ((takeMetadata s p)).net = s.net ∧ ((takeMetadata s p)).fabric = s.fabric
    ∧ ((takeMetadata s p)).qps = s.qps := by
  unfold takeMetadata; dsimp only; (repeat' split) <;> simp

@[simp] theorem pxDown_same (s : State) (p : Nat) :
    ((pxDown s p)).mode = s.mode ∧ ((pxDown s p)).ready = s.ready ∧ ((pxDown s p)).epochCtr = s.epochCtr
    ∧ ((pxDown s p)).vfEnabled = s.vfEnabled ∧ ((pxDown s p)).dma = s.dma ∧ ((pxDown s p)).cores = s.cores
    ∧ ((pxDown s p)).sec = s.sec ∧ ((pxDown s p)).power = s.power ∧ ((pxDown s p)).hbm = s.hbm ∧ ((pxDown s p)).tap = s.tap
    ∧ ((pxDown s p)).pins = s.pins ∧ ((pxDown s p)).sw = s.sw ∧ ((pxDown s p)).tables = s.tables ∧ ((pxDown s p)).net = s.net
    ∧ ((pxDown s p)).fabric = s.fabric ∧ ((pxDown s p)).qps = s.qps := by
  unfold pxDown; simp

@[simp] theorem pxStartOutput_same (s : State) (port : Nat) (o : PxSending) :
    ((pxStartOutput s port o)).mode = s.mode ∧ ((pxStartOutput s port o)).ready = s.ready
    ∧ ((pxStartOutput s port o)).epochCtr = s.epochCtr ∧ ((pxStartOutput s port o)).vfEnabled = s.vfEnabled
    ∧ ((pxStartOutput s port o)).dma = s.dma ∧ ((pxStartOutput s port o)).sessions = s.sessions
    ∧ ((pxStartOutput s port o)).cores = s.cores ∧ ((pxStartOutput s port o)).sec = s.sec
    ∧ ((pxStartOutput s port o)).power = s.power ∧ ((pxStartOutput s port o)).hbm = s.hbm
    ∧ ((pxStartOutput s port o)).tap = s.tap ∧ ((pxStartOutput s port o)).pins = s.pins ∧ ((pxStartOutput s port o)).sw = s.sw
    ∧ ((pxStartOutput s port o)).tables = s.tables ∧ ((pxStartOutput s port o)).net = s.net
    ∧ ((pxStartOutput s port o)).fabric = s.fabric ∧ ((pxStartOutput s port o)).qps = s.qps := by
  unfold pxStartOutput; simp

@[simp] theorem sendLine_same (s : State) (port : Nat) (o : PxSending) (planes : List (List Bytes)) :
    ((sendLine s port o planes)).mode = s.mode ∧ ((sendLine s port o planes)).ready = s.ready
    ∧ ((sendLine s port o planes)).epochCtr = s.epochCtr ∧ ((sendLine s port o planes)).vfEnabled = s.vfEnabled
    ∧ ((sendLine s port o planes)).dma = s.dma ∧ ((sendLine s port o planes)).sessions = s.sessions
    ∧ ((sendLine s port o planes)).cores = s.cores ∧ ((sendLine s port o planes)).sec = s.sec
    ∧ ((sendLine s port o planes)).power = s.power ∧ ((sendLine s port o planes)).hbm = s.hbm
    ∧ ((sendLine s port o planes)).tap = s.tap ∧ ((sendLine s port o planes)).pins = s.pins
    ∧ ((sendLine s port o planes)).sw = s.sw ∧ ((sendLine s port o planes)).tables = s.tables
    ∧ ((sendLine s port o planes)).net = s.net ∧ ((sendLine s port o planes)).fabric = s.fabric
    ∧ ((sendLine s port o planes)).qps = s.qps := by
  unfold sendLine; simp

@[simp] theorem nextLineOut_same (s : State) (port : Nat) (o : PxSending) :
    ((nextLineOut s port o)).mode = s.mode ∧ ((nextLineOut s port o)).ready = s.ready
    ∧ ((nextLineOut s port o)).epochCtr = s.epochCtr ∧ ((nextLineOut s port o)).vfEnabled = s.vfEnabled
    ∧ ((nextLineOut s port o)).dma = s.dma ∧ ((nextLineOut s port o)).sec = s.sec ∧ ((nextLineOut s port o)).power = s.power
    ∧ ((nextLineOut s port o)).tap = s.tap ∧ ((nextLineOut s port o)).pins = s.pins ∧ ((nextLineOut s port o)).sw = s.sw
    ∧ ((nextLineOut s port o)).tables = s.tables ∧ ((nextLineOut s port o)).net = s.net
    ∧ ((nextLineOut s port o)).fabric = s.fabric := by
  unfold nextLineOut; (repeat' split) <;> simp

@[simp] theorem applyEth_same (s : State) (p : Nat) (d : Bytes) :
    ((applyEth s p d)).mode = s.mode ∧ ((applyEth s p d)).ready = s.ready ∧ ((applyEth s p d)).epochCtr = s.epochCtr
    ∧ ((applyEth s p d)).vfEnabled = s.vfEnabled ∧ ((applyEth s p d)).dma = s.dma ∧ ((applyEth s p d)).sessions = s.sessions
    ∧ ((applyEth s p d)).cores = s.cores ∧ ((applyEth s p d)).sec = s.sec ∧ ((applyEth s p d)).power = s.power
    ∧ ((applyEth s p d)).hbm = s.hbm ∧ ((applyEth s p d)).tap = s.tap ∧ ((applyEth s p d)).pins = s.pins
    ∧ ((applyEth s p d)).px = s.px ∧ ((applyEth s p d)).tables = s.tables ∧ ((applyEth s p d)).fabric = s.fabric
    ∧ ((applyEth s p d)).qps = s.qps := by
  unfold applyEth; simp

@[simp] theorem applyPx_same (s : State) (p : Nat) (d : Bytes) :
    ((applyPx s p d)).mode = s.mode ∧ ((applyPx s p d)).ready = s.ready ∧ ((applyPx s p d)).epochCtr = s.epochCtr
    ∧ ((applyPx s p d)).vfEnabled = s.vfEnabled ∧ ((applyPx s p d)).dma = s.dma ∧ ((applyPx s p d)).cores = s.cores
    ∧ ((applyPx s p d)).sec = s.sec ∧ ((applyPx s p d)).power = s.power ∧ ((applyPx s p d)).hbm = s.hbm
    ∧ ((applyPx s p d)).tap = s.tap ∧ ((applyPx s p d)).pins = s.pins ∧ ((applyPx s p d)).sw = s.sw
    ∧ ((applyPx s p d)).tables = s.tables ∧ ((applyPx s p d)).net = s.net ∧ ((applyPx s p d)).fabric = s.fabric
    ∧ ((applyPx s p d)).qps = s.qps := by
  unfold applyPx; simp

@[simp] theorem clearMerge_same (s : State) (f : Nat) :
    ((clearMerge s f)).mode = s.mode ∧ ((clearMerge s f)).ready = s.ready ∧ ((clearMerge s f)).epochCtr = s.epochCtr
    ∧ ((clearMerge s f)).vfEnabled = s.vfEnabled ∧ ((clearMerge s f)).dma = s.dma ∧ ((clearMerge s f)).sessions = s.sessions
    ∧ ((clearMerge s f)).cores = s.cores ∧ ((clearMerge s f)).sec = s.sec ∧ ((clearMerge s f)).power = s.power
    ∧ ((clearMerge s f)).hbm = s.hbm ∧ ((clearMerge s f)).tap = s.tap ∧ ((clearMerge s f)).pins = s.pins
    ∧ ((clearMerge s f)).px = s.px ∧ ((clearMerge s f)).tables = s.tables ∧ ((clearMerge s f)).fabric = s.fabric
    ∧ ((clearMerge s f)).qps = s.qps := by
  unfold clearMerge; (repeat' split) <;> simp (disch := first | assumption | (intros; (repeat' split) <;> simp [*]; done))

@[simp] theorem gateTurn_same (s : State) (p : Nat) (y : EthPort) (g : GateList) :
    ((gateTurn s p y g)).mode = s.mode ∧ ((gateTurn s p y g)).ready = s.ready ∧ ((gateTurn s p y g)).epochCtr = s.epochCtr
    ∧ ((gateTurn s p y g)).vfEnabled = s.vfEnabled ∧ ((gateTurn s p y g)).dma = s.dma
    ∧ ((gateTurn s p y g)).sessions = s.sessions ∧ ((gateTurn s p y g)).cores = s.cores ∧ ((gateTurn s p y g)).sec = s.sec
    ∧ ((gateTurn s p y g)).power = s.power ∧ ((gateTurn s p y g)).hbm = s.hbm ∧ ((gateTurn s p y g)).tap = s.tap
    ∧ ((gateTurn s p y g)).pins = s.pins ∧ ((gateTurn s p y g)).px = s.px ∧ ((gateTurn s p y g)).sw = s.sw
    ∧ ((gateTurn s p y g)).tables = s.tables ∧ ((gateTurn s p y g)).fabric = s.fabric ∧ ((gateTurn s p y g)).qps = s.qps := by
  unfold gateTurn; simp

@[simp] theorem ptpSet_same (s : State) (p : PtpState) :
    ((ptpSet s p)).mode = s.mode ∧ ((ptpSet s p)).ready = s.ready ∧ ((ptpSet s p)).epochCtr = s.epochCtr
    ∧ ((ptpSet s p)).vfEnabled = s.vfEnabled ∧ ((ptpSet s p)).dma = s.dma ∧ ((ptpSet s p)).sessions = s.sessions
    ∧ ((ptpSet s p)).cores = s.cores ∧ ((ptpSet s p)).sec = s.sec ∧ ((ptpSet s p)).power = s.power ∧ ((ptpSet s p)).hbm = s.hbm
    ∧ ((ptpSet s p)).tap = s.tap ∧ ((ptpSet s p)).pins = s.pins ∧ ((ptpSet s p)).px = s.px ∧ ((ptpSet s p)).sw = s.sw
    ∧ ((ptpSet s p)).tables = s.tables ∧ ((ptpSet s p)).fabric = s.fabric ∧ ((ptpSet s p)).qps = s.qps := by
  unfold ptpSet; simp

@[simp] theorem ptpShift_same (s : State) (by_ : Int) :
    ((ptpShift s by_)).mode = s.mode ∧ ((ptpShift s by_)).ready = s.ready ∧ ((ptpShift s by_)).epochCtr = s.epochCtr
    ∧ ((ptpShift s by_)).vfEnabled = s.vfEnabled ∧ ((ptpShift s by_)).dma = s.dma ∧ ((ptpShift s by_)).sessions = s.sessions
    ∧ ((ptpShift s by_)).cores = s.cores ∧ ((ptpShift s by_)).sec = s.sec ∧ ((ptpShift s by_)).power = s.power
    ∧ ((ptpShift s by_)).hbm = s.hbm ∧ ((ptpShift s by_)).tap = s.tap ∧ ((ptpShift s by_)).pins = s.pins
    ∧ ((ptpShift s by_)).px = s.px ∧ ((ptpShift s by_)).sw = s.sw ∧ ((ptpShift s by_)).tables = s.tables
    ∧ ((ptpShift s by_)).fabric = s.fabric ∧ ((ptpShift s by_)).qps = s.qps := by
  unfold ptpShift; simp

@[simp] theorem ptpStep_same (s : State) (by_ : Int) :
    ((ptpStep s by_)).mode = s.mode ∧ ((ptpStep s by_)).ready = s.ready ∧ ((ptpStep s by_)).epochCtr = s.epochCtr
    ∧ ((ptpStep s by_)).vfEnabled = s.vfEnabled ∧ ((ptpStep s by_)).dma = s.dma ∧ ((ptpStep s by_)).sessions = s.sessions
    ∧ ((ptpStep s by_)).cores = s.cores ∧ ((ptpStep s by_)).sec = s.sec ∧ ((ptpStep s by_)).power = s.power
    ∧ ((ptpStep s by_)).hbm = s.hbm ∧ ((ptpStep s by_)).tap = s.tap ∧ ((ptpStep s by_)).pins = s.pins
    ∧ ((ptpStep s by_)).px = s.px ∧ ((ptpStep s by_)).sw = s.sw ∧ ((ptpStep s by_)).tables = s.tables
    ∧ ((ptpStep s by_)).fabric = s.fabric ∧ ((ptpStep s by_)).qps = s.qps := by
  unfold ptpStep; simp

@[simp] theorem timeJudge_same (s : State) :
    ((timeJudge s)).mode = s.mode ∧ ((timeJudge s)).ready = s.ready ∧ ((timeJudge s)).epochCtr = s.epochCtr
    ∧ ((timeJudge s)).vfEnabled = s.vfEnabled ∧ ((timeJudge s)).dma = s.dma ∧ ((timeJudge s)).sessions = s.sessions
    ∧ ((timeJudge s)).cores = s.cores ∧ ((timeJudge s)).sec = s.sec ∧ ((timeJudge s)).power = s.power
    ∧ ((timeJudge s)).hbm = s.hbm ∧ ((timeJudge s)).tap = s.tap ∧ ((timeJudge s)).pins = s.pins ∧ ((timeJudge s)).px = s.px
    ∧ ((timeJudge s)).sw = s.sw ∧ ((timeJudge s)).tables = s.tables ∧ ((timeJudge s)).net = s.net
    ∧ ((timeJudge s)).qps = s.qps := by
  unfold timeJudge; simp

@[simp] theorem ptpServo_same (s : State) (m : PtpIn) :
    ((ptpServo s m)).mode = s.mode ∧ ((ptpServo s m)).ready = s.ready ∧ ((ptpServo s m)).epochCtr = s.epochCtr
    ∧ ((ptpServo s m)).vfEnabled = s.vfEnabled ∧ ((ptpServo s m)).dma = s.dma ∧ ((ptpServo s m)).sessions = s.sessions
    ∧ ((ptpServo s m)).cores = s.cores ∧ ((ptpServo s m)).sec = s.sec ∧ ((ptpServo s m)).power = s.power
    ∧ ((ptpServo s m)).hbm = s.hbm ∧ ((ptpServo s m)).tap = s.tap ∧ ((ptpServo s m)).pins = s.pins ∧ ((ptpServo s m)).px = s.px
    ∧ ((ptpServo s m)).sw = s.sw ∧ ((ptpServo s m)).tables = s.tables ∧ ((ptpServo s m)).fabric = s.fabric
    ∧ ((ptpServo s m)).qps = s.qps := by
  unfold ptpServo; simp

@[simp] theorem ptpAnnounce_same (s : State) (m : PtpIn) :
    ((ptpAnnounce s m)).mode = s.mode ∧ ((ptpAnnounce s m)).ready = s.ready ∧ ((ptpAnnounce s m)).epochCtr = s.epochCtr
    ∧ ((ptpAnnounce s m)).vfEnabled = s.vfEnabled ∧ ((ptpAnnounce s m)).dma = s.dma ∧ ((ptpAnnounce s m)).sessions = s.sessions
    ∧ ((ptpAnnounce s m)).cores = s.cores ∧ ((ptpAnnounce s m)).sec = s.sec ∧ ((ptpAnnounce s m)).power = s.power
    ∧ ((ptpAnnounce s m)).hbm = s.hbm ∧ ((ptpAnnounce s m)).tap = s.tap ∧ ((ptpAnnounce s m)).pins = s.pins
    ∧ ((ptpAnnounce s m)).px = s.px ∧ ((ptpAnnounce s m)).sw = s.sw ∧ ((ptpAnnounce s m)).tables = s.tables
    ∧ ((ptpAnnounce s m)).fabric = s.fabric ∧ ((ptpAnnounce s m)).qps = s.qps := by
  unfold ptpAnnounce; simp

@[simp] theorem ptpSend_same (s : State) (port kind : Nat) :
    ((ptpSend s port kind)).mode = s.mode ∧ ((ptpSend s port kind)).ready = s.ready
    ∧ ((ptpSend s port kind)).epochCtr = s.epochCtr ∧ ((ptpSend s port kind)).vfEnabled = s.vfEnabled
    ∧ ((ptpSend s port kind)).dma = s.dma ∧ ((ptpSend s port kind)).sessions = s.sessions
    ∧ ((ptpSend s port kind)).cores = s.cores ∧ ((ptpSend s port kind)).sec = s.sec ∧ ((ptpSend s port kind)).power = s.power
    ∧ ((ptpSend s port kind)).hbm = s.hbm ∧ ((ptpSend s port kind)).tap = s.tap ∧ ((ptpSend s port kind)).pins = s.pins
    ∧ ((ptpSend s port kind)).px = s.px ∧ ((ptpSend s port kind)).sw = s.sw ∧ ((ptpSend s port kind)).tables = s.tables
    ∧ ((ptpSend s port kind)).fabric = s.fabric ∧ ((ptpSend s port kind)).qps = s.qps := by
  unfold ptpSend; simp

@[simp] theorem ptpFromPps_same (s : State) :
    ((ptpFromPps s)).mode = s.mode ∧ ((ptpFromPps s)).ready = s.ready ∧ ((ptpFromPps s)).epochCtr = s.epochCtr
    ∧ ((ptpFromPps s)).vfEnabled = s.vfEnabled ∧ ((ptpFromPps s)).dma = s.dma ∧ ((ptpFromPps s)).sessions = s.sessions
    ∧ ((ptpFromPps s)).cores = s.cores ∧ ((ptpFromPps s)).sec = s.sec ∧ ((ptpFromPps s)).power = s.power
    ∧ ((ptpFromPps s)).hbm = s.hbm ∧ ((ptpFromPps s)).tap = s.tap ∧ ((ptpFromPps s)).pins = s.pins ∧ ((ptpFromPps s)).px = s.px
    ∧ ((ptpFromPps s)).sw = s.sw ∧ ((ptpFromPps s)).tables = s.tables ∧ ((ptpFromPps s)).fabric = s.fabric
    ∧ ((ptpFromPps s)).qps = s.qps := by
  unfold ptpFromPps; simp

@[simp] theorem fabSet_same (s : State) (f : FabricState → FabricState) :
    ((fabSet s f)).mode = s.mode ∧ ((fabSet s f)).ready = s.ready ∧ ((fabSet s f)).epochCtr = s.epochCtr
    ∧ ((fabSet s f)).vfEnabled = s.vfEnabled ∧ ((fabSet s f)).dma = s.dma ∧ ((fabSet s f)).sessions = s.sessions
    ∧ ((fabSet s f)).cores = s.cores ∧ ((fabSet s f)).sec = s.sec ∧ ((fabSet s f)).power = s.power ∧ ((fabSet s f)).hbm = s.hbm
    ∧ ((fabSet s f)).tap = s.tap ∧ ((fabSet s f)).pins = s.pins ∧ ((fabSet s f)).px = s.px ∧ ((fabSet s f)).sw = s.sw
    ∧ ((fabSet s f)).tables = s.tables ∧ ((fabSet s f)).net = s.net ∧ ((fabSet s f)).qps = s.qps := by
  unfold fabSet; simp

@[simp] theorem clpDiscard_same (s : State) :
    ((clpDiscard s)).mode = s.mode ∧ ((clpDiscard s)).ready = s.ready ∧ ((clpDiscard s)).epochCtr = s.epochCtr
    ∧ ((clpDiscard s)).vfEnabled = s.vfEnabled ∧ ((clpDiscard s)).dma = s.dma ∧ ((clpDiscard s)).sessions = s.sessions
    ∧ ((clpDiscard s)).cores = s.cores ∧ ((clpDiscard s)).sec = s.sec ∧ ((clpDiscard s)).power = s.power
    ∧ ((clpDiscard s)).hbm = s.hbm ∧ ((clpDiscard s)).tap = s.tap ∧ ((clpDiscard s)).pins = s.pins ∧ ((clpDiscard s)).px = s.px
    ∧ ((clpDiscard s)).sw = s.sw ∧ ((clpDiscard s)).tables = s.tables ∧ ((clpDiscard s)).net = s.net
    ∧ ((clpDiscard s)).qps = s.qps := by
  unfold clpDiscard; simp

@[simp] theorem rxMark_same (s : State) (h : ClpHdr) :
    ((rxMark s h)).mode = s.mode ∧ ((rxMark s h)).ready = s.ready ∧ ((rxMark s h)).epochCtr = s.epochCtr
    ∧ ((rxMark s h)).vfEnabled = s.vfEnabled ∧ ((rxMark s h)).dma = s.dma ∧ ((rxMark s h)).sessions = s.sessions
    ∧ ((rxMark s h)).cores = s.cores ∧ ((rxMark s h)).sec = s.sec ∧ ((rxMark s h)).power = s.power ∧ ((rxMark s h)).hbm = s.hbm
    ∧ ((rxMark s h)).tap = s.tap ∧ ((rxMark s h)).pins = s.pins ∧ ((rxMark s h)).px = s.px ∧ ((rxMark s h)).sw = s.sw
    ∧ ((rxMark s h)).tables = s.tables ∧ ((rxMark s h)).net = s.net ∧ ((rxMark s h)).qps = s.qps := by
  unfold rxMark; simp

@[simp] theorem clpAck_same (s : State) (h : ClpHdr) (kind : Nat) (fields : List Nat) :
    ((clpAck s h kind fields)).mode = s.mode ∧ ((clpAck s h kind fields)).ready = s.ready
    ∧ ((clpAck s h kind fields)).epochCtr = s.epochCtr ∧ ((clpAck s h kind fields)).vfEnabled = s.vfEnabled
    ∧ ((clpAck s h kind fields)).dma = s.dma ∧ ((clpAck s h kind fields)).sessions = s.sessions
    ∧ ((clpAck s h kind fields)).cores = s.cores ∧ ((clpAck s h kind fields)).sec = s.sec
    ∧ ((clpAck s h kind fields)).power = s.power ∧ ((clpAck s h kind fields)).hbm = s.hbm
    ∧ ((clpAck s h kind fields)).tap = s.tap ∧ ((clpAck s h kind fields)).pins = s.pins ∧ ((clpAck s h kind fields)).px = s.px
    ∧ ((clpAck s h kind fields)).sw = s.sw ∧ ((clpAck s h kind fields)).tables = s.tables
    ∧ ((clpAck s h kind fields)).net = s.net ∧ ((clpAck s h kind fields)).fabric = s.fabric
    ∧ ((clpAck s h kind fields)).qps = s.qps := by
  unfold clpAck; simp

theorem clpForeign_same (s : State) (h : ClpHdr) (t : State) (e : clpForeign s h = some t) :
    (t).epochCtr = s.epochCtr ∧ (t).vfEnabled = s.vfEnabled ∧ (t).dma = s.dma ∧ (t).sec = s.sec ∧ (t).power = s.power
    ∧ (t).tap = s.tap ∧ (t).pins = s.pins ∧ (t).px = s.px ∧ (t).sw = s.sw ∧ (t).tables = s.tables := by
  unfold clpForeign at e
  (repeat' split at e) <;> cases e <;> simp

@[simp] theorem clpIn_epochCtr (s0 : State) (h : ClpHdr) (kind : Nat) (i : Option Instr) (old : Bool) (k : State → State) (a : List Nat)
    (hk : ∀ s, (k s).epochCtr = s.epochCtr) : (clpIn s0 h kind i old k a).epochCtr = s0.epochCtr := by
  have hf := clpForeign_same (atTime s0 h.t) h
  unfold clpIn
  dsimp only
  split
  · rename_i s1 e
    have := hf s1 e
    simp at this ⊢
    simp [this]
  · (repeat' split) <;> simp [hk]

@[simp] theorem clpIn_vfEnabled (s0 : State) (h : ClpHdr) (kind : Nat) (i : Option Instr) (old : Bool) (k : State → State) (a : List Nat)
    (hk : ∀ s, (k s).vfEnabled = s.vfEnabled) : (clpIn s0 h kind i old k a).vfEnabled = s0.vfEnabled := by
  have hf := clpForeign_same (atTime s0 h.t) h
  unfold clpIn
  dsimp only
  split
  · rename_i s1 e
    have := hf s1 e
    simp at this ⊢
    simp [this]
  · (repeat' split) <;> simp [hk]

@[simp] theorem clpIn_dma (s0 : State) (h : ClpHdr) (kind : Nat) (i : Option Instr) (old : Bool) (k : State → State) (a : List Nat)
    (hk : ∀ s, (k s).dma = s.dma) : (clpIn s0 h kind i old k a).dma = s0.dma := by
  have hf := clpForeign_same (atTime s0 h.t) h
  unfold clpIn
  dsimp only
  split
  · rename_i s1 e
    have := hf s1 e
    simp at this ⊢
    simp [this]
  · (repeat' split) <;> simp [hk]

@[simp] theorem clpIn_sec (s0 : State) (h : ClpHdr) (kind : Nat) (i : Option Instr) (old : Bool) (k : State → State) (a : List Nat)
    (hk : ∀ s, (k s).sec = s.sec) : (clpIn s0 h kind i old k a).sec = s0.sec := by
  have hf := clpForeign_same (atTime s0 h.t) h
  unfold clpIn
  dsimp only
  split
  · rename_i s1 e
    have := hf s1 e
    simp at this ⊢
    simp [this]
  · (repeat' split) <;> simp [hk]

@[simp] theorem clpIn_power (s0 : State) (h : ClpHdr) (kind : Nat) (i : Option Instr) (old : Bool) (k : State → State) (a : List Nat)
    (hk : ∀ s, (k s).power = s.power) : (clpIn s0 h kind i old k a).power = s0.power := by
  have hf := clpForeign_same (atTime s0 h.t) h
  unfold clpIn
  dsimp only
  split
  · rename_i s1 e
    have := hf s1 e
    simp at this ⊢
    simp [this]
  · (repeat' split) <;> simp [hk]

@[simp] theorem clpIn_tap (s0 : State) (h : ClpHdr) (kind : Nat) (i : Option Instr) (old : Bool) (k : State → State) (a : List Nat)
    (hk : ∀ s, (k s).tap = s.tap) : (clpIn s0 h kind i old k a).tap = s0.tap := by
  have hf := clpForeign_same (atTime s0 h.t) h
  unfold clpIn
  dsimp only
  split
  · rename_i s1 e
    have := hf s1 e
    simp at this ⊢
    simp [this]
  · (repeat' split) <;> simp [hk]

@[simp] theorem clpIn_pins (s0 : State) (h : ClpHdr) (kind : Nat) (i : Option Instr) (old : Bool) (k : State → State) (a : List Nat)
    (hk : ∀ s, (k s).pins = s.pins) : (clpIn s0 h kind i old k a).pins = s0.pins := by
  have hf := clpForeign_same (atTime s0 h.t) h
  unfold clpIn
  dsimp only
  split
  · rename_i s1 e
    have := hf s1 e
    simp at this ⊢
    simp [this]
  · (repeat' split) <;> simp [hk]

@[simp] theorem clpIn_px (s0 : State) (h : ClpHdr) (kind : Nat) (i : Option Instr) (old : Bool) (k : State → State) (a : List Nat)
    (hk : ∀ s, (k s).px = s.px) : (clpIn s0 h kind i old k a).px = s0.px := by
  have hf := clpForeign_same (atTime s0 h.t) h
  unfold clpIn
  dsimp only
  split
  · rename_i s1 e
    have := hf s1 e
    simp at this ⊢
    simp [this]
  · (repeat' split) <;> simp [hk]

@[simp] theorem clpIn_sw (s0 : State) (h : ClpHdr) (kind : Nat) (i : Option Instr) (old : Bool) (k : State → State) (a : List Nat)
    (hk : ∀ s, (k s).sw = s.sw) : (clpIn s0 h kind i old k a).sw = s0.sw := by
  have hf := clpForeign_same (atTime s0 h.t) h
  unfold clpIn
  dsimp only
  split
  · rename_i s1 e
    have := hf s1 e
    simp at this ⊢
    simp [this]
  · (repeat' split) <;> simp [hk]

@[simp] theorem clpIn_tables (s0 : State) (h : ClpHdr) (kind : Nat) (i : Option Instr) (old : Bool) (k : State → State) (a : List Nat)
    (hk : ∀ s, (k s).tables = s.tables) : (clpIn s0 h kind i old k a).tables = s0.tables := by
  have hf := clpForeign_same (atTime s0 h.t) h
  unfold clpIn
  dsimp only
  split
  · rename_i s1 e
    have := hf s1 e
    simp at this ⊢
    simp [this]
  · (repeat' split) <;> simp [hk]

@[simp] theorem logFabric_same (s : State) :
    ((logFabric s)).mode = s.mode ∧ ((logFabric s)).ready = s.ready ∧ ((logFabric s)).epochCtr = s.epochCtr
    ∧ ((logFabric s)).vfEnabled = s.vfEnabled ∧ ((logFabric s)).dma = s.dma ∧ ((logFabric s)).sessions = s.sessions
    ∧ ((logFabric s)).cores = s.cores ∧ ((logFabric s)).sec = s.sec ∧ ((logFabric s)).power = s.power
    ∧ ((logFabric s)).hbm = s.hbm ∧ ((logFabric s)).tap = s.tap ∧ ((logFabric s)).pins = s.pins ∧ ((logFabric s)).px = s.px
    ∧ ((logFabric s)).sw = s.sw ∧ ((logFabric s)).tables = s.tables ∧ ((logFabric s)).net = s.net
    ∧ ((logFabric s)).fabric = s.fabric ∧ ((logFabric s)).qps = s.qps := by
  unfold logFabric; simp

@[simp] theorem quarantine_same (s : State) :
    ((quarantine s)).epochCtr = s.epochCtr ∧ ((quarantine s)).vfEnabled = s.vfEnabled ∧ ((quarantine s)).dma = s.dma
    ∧ ((quarantine s)).sec = s.sec ∧ ((quarantine s)).power = s.power ∧ ((quarantine s)).tap = s.tap
    ∧ ((quarantine s)).pins = s.pins ∧ ((quarantine s)).px = s.px ∧ ((quarantine s)).sw = s.sw
    ∧ ((quarantine s)).tables = s.tables ∧ ((quarantine s)).qps = s.qps := by
  unfold quarantine; simp

@[simp] theorem sendRenew_same (s : State) (dst : Nat) :
    ((sendRenew s dst)).mode = s.mode ∧ ((sendRenew s dst)).ready = s.ready ∧ ((sendRenew s dst)).epochCtr = s.epochCtr
    ∧ ((sendRenew s dst)).vfEnabled = s.vfEnabled ∧ ((sendRenew s dst)).dma = s.dma ∧ ((sendRenew s dst)).sessions = s.sessions
    ∧ ((sendRenew s dst)).cores = s.cores ∧ ((sendRenew s dst)).sec = s.sec ∧ ((sendRenew s dst)).power = s.power
    ∧ ((sendRenew s dst)).hbm = s.hbm ∧ ((sendRenew s dst)).tap = s.tap ∧ ((sendRenew s dst)).pins = s.pins
    ∧ ((sendRenew s dst)).px = s.px ∧ ((sendRenew s dst)).sw = s.sw ∧ ((sendRenew s dst)).tables = s.tables
    ∧ ((sendRenew s dst)).net = s.net ∧ ((sendRenew s dst)).qps = s.qps := by
  unfold sendRenew; simp

@[simp] theorem reassign_same (s : State) (x : Session) (region role : Nat) (not_ : List Nat) :
    ((reassign s x region role not_)).mode = s.mode ∧ ((reassign s x region role not_)).ready = s.ready
    ∧ ((reassign s x region role not_)).epochCtr = s.epochCtr ∧ ((reassign s x region role not_)).vfEnabled = s.vfEnabled
    ∧ ((reassign s x region role not_)).dma = s.dma ∧ ((reassign s x region role not_)).cores = s.cores
    ∧ ((reassign s x region role not_)).sec = s.sec ∧ ((reassign s x region role not_)).power = s.power
    ∧ ((reassign s x region role not_)).hbm = s.hbm ∧ ((reassign s x region role not_)).tap = s.tap
    ∧ ((reassign s x region role not_)).pins = s.pins ∧ ((reassign s x region role not_)).px = s.px
    ∧ ((reassign s x region role not_)).sw = s.sw ∧ ((reassign s x region role not_)).tables = s.tables
    ∧ ((reassign s x region role not_)).net = s.net ∧ ((reassign s x region role not_)).qps = s.qps := by
  unfold reassign; (repeat' split) <;> simp

@[simp] theorem sendPromote_same (s : State) (x : Session) (region dst : Nat) :
    ((sendPromote s x region dst)).mode = s.mode ∧ ((sendPromote s x region dst)).ready = s.ready
    ∧ ((sendPromote s x region dst)).epochCtr = s.epochCtr ∧ ((sendPromote s x region dst)).vfEnabled = s.vfEnabled
    ∧ ((sendPromote s x region dst)).dma = s.dma ∧ ((sendPromote s x region dst)).sessions = s.sessions
    ∧ ((sendPromote s x region dst)).cores = s.cores ∧ ((sendPromote s x region dst)).sec = s.sec
    ∧ ((sendPromote s x region dst)).power = s.power ∧ ((sendPromote s x region dst)).hbm = s.hbm
    ∧ ((sendPromote s x region dst)).tap = s.tap ∧ ((sendPromote s x region dst)).pins = s.pins
    ∧ ((sendPromote s x region dst)).px = s.px ∧ ((sendPromote s x region dst)).sw = s.sw
    ∧ ((sendPromote s x region dst)).tables = s.tables ∧ ((sendPromote s x region dst)).net = s.net
    ∧ ((sendPromote s x region dst)).qps = s.qps := by
  unfold sendPromote; simp

@[simp] theorem promote_same (s : State) (id session region lost : Nat) :
    ((promote s id session region lost)).mode = s.mode ∧ ((promote s id session region lost)).ready = s.ready
    ∧ ((promote s id session region lost)).epochCtr = s.epochCtr ∧ ((promote s id session region lost)).vfEnabled = s.vfEnabled
    ∧ ((promote s id session region lost)).dma = s.dma ∧ ((promote s id session region lost)).sec = s.sec
    ∧ ((promote s id session region lost)).power = s.power ∧ ((promote s id session region lost)).hbm = s.hbm
    ∧ ((promote s id session region lost)).tap = s.tap ∧ ((promote s id session region lost)).pins = s.pins
    ∧ ((promote s id session region lost)).px = s.px ∧ ((promote s id session region lost)).sw = s.sw
    ∧ ((promote s id session region lost)).tables = s.tables ∧ ((promote s id session region lost)).net = s.net := by
  unfold promote; (repeat' split) <;> simp

@[simp] theorem loseRole_same (s : State) (lost : Nat) (r : Nat × Nat × Nat) :
    ((loseRole s lost r)).mode = s.mode ∧ ((loseRole s lost r)).ready = s.ready ∧ ((loseRole s lost r)).epochCtr = s.epochCtr
    ∧ ((loseRole s lost r)).vfEnabled = s.vfEnabled ∧ ((loseRole s lost r)).dma = s.dma ∧ ((loseRole s lost r)).sec = s.sec
    ∧ ((loseRole s lost r)).power = s.power ∧ ((loseRole s lost r)).hbm = s.hbm ∧ ((loseRole s lost r)).tap = s.tap
    ∧ ((loseRole s lost r)).pins = s.pins ∧ ((loseRole s lost r)).px = s.px ∧ ((loseRole s lost r)).sw = s.sw
    ∧ ((loseRole s lost r)).tables = s.tables ∧ ((loseRole s lost r)).net = s.net := by
  unfold loseRole; (repeat' split) <;> simp

@[simp] theorem loseMember_same (s : State) (m reason : Nat) (tell : Bool) :
    ((loseMember s m reason tell)).mode = s.mode ∧ ((loseMember s m reason tell)).ready = s.ready
    ∧ ((loseMember s m reason tell)).epochCtr = s.epochCtr ∧ ((loseMember s m reason tell)).vfEnabled = s.vfEnabled
    ∧ ((loseMember s m reason tell)).dma = s.dma ∧ ((loseMember s m reason tell)).sec = s.sec
    ∧ ((loseMember s m reason tell)).power = s.power ∧ ((loseMember s m reason tell)).hbm = s.hbm
    ∧ ((loseMember s m reason tell)).tap = s.tap ∧ ((loseMember s m reason tell)).pins = s.pins
    ∧ ((loseMember s m reason tell)).px = s.px ∧ ((loseMember s m reason tell)).sw = s.sw
    ∧ ((loseMember s m reason tell)).tables = s.tables ∧ ((loseMember s m reason tell)).net = s.net := by
  unfold loseMember; (repeat' split) <;> simp

@[simp] theorem moveRoles_same (s : State) (m : Nat) (p : Nat → Bool) :
    ((moveRoles s m p)).mode = s.mode ∧ ((moveRoles s m p)).ready = s.ready ∧ ((moveRoles s m p)).epochCtr = s.epochCtr
    ∧ ((moveRoles s m p)).vfEnabled = s.vfEnabled ∧ ((moveRoles s m p)).dma = s.dma ∧ ((moveRoles s m p)).sec = s.sec
    ∧ ((moveRoles s m p)).power = s.power ∧ ((moveRoles s m p)).hbm = s.hbm ∧ ((moveRoles s m p)).tap = s.tap
    ∧ ((moveRoles s m p)).pins = s.pins ∧ ((moveRoles s m p)).px = s.px ∧ ((moveRoles s m p)).sw = s.sw
    ∧ ((moveRoles s m p)).tables = s.tables ∧ ((moveRoles s m p)).net = s.net := by
  unfold moveRoles; (repeat' split) <;> simp (disch := first | assumption | (intros; (repeat' split) <;> simp [*]; done))

@[simp] theorem renewIn_same (s : State) (h : ClpHdr) (status unreachable : Nat) (offset : Int) (gm : Nat) :
    ((renewIn s h status unreachable offset gm)).mode = s.mode ∧ ((renewIn s h status unreachable offset gm)).ready = s.ready
    ∧ ((renewIn s h status unreachable offset gm)).epochCtr = s.epochCtr
    ∧ ((renewIn s h status unreachable offset gm)).vfEnabled = s.vfEnabled
    ∧ ((renewIn s h status unreachable offset gm)).dma = s.dma ∧ ((renewIn s h status unreachable offset gm)).sec = s.sec
    ∧ ((renewIn s h status unreachable offset gm)).power = s.power ∧ ((renewIn s h status unreachable offset gm)).hbm = s.hbm
    ∧ ((renewIn s h status unreachable offset gm)).tap = s.tap ∧ ((renewIn s h status unreachable offset gm)).pins = s.pins
    ∧ ((renewIn s h status unreachable offset gm)).px = s.px ∧ ((renewIn s h status unreachable offset gm)).sw = s.sw
    ∧ ((renewIn s h status unreachable offset gm)).tables = s.tables
    ∧ ((renewIn s h status unreachable offset gm)).net = s.net := by
  unfold renewIn; simp

@[simp] theorem leaseRenewIn_same (h : ClpHdr) (status unreachable : Nat) (offset : Int) (gm : Nat) (s : State) :
    ((leaseRenewIn h status unreachable offset gm s)).epochCtr = s.epochCtr
    ∧ ((leaseRenewIn h status unreachable offset gm s)).vfEnabled = s.vfEnabled
    ∧ ((leaseRenewIn h status unreachable offset gm s)).dma = s.dma
    ∧ ((leaseRenewIn h status unreachable offset gm s)).sec = s.sec
    ∧ ((leaseRenewIn h status unreachable offset gm s)).power = s.power
    ∧ ((leaseRenewIn h status unreachable offset gm s)).tap = s.tap
    ∧ ((leaseRenewIn h status unreachable offset gm s)).pins = s.pins
    ∧ ((leaseRenewIn h status unreachable offset gm s)).px = s.px ∧ ((leaseRenewIn h status unreachable offset gm s)).sw = s.sw
    ∧ ((leaseRenewIn h status unreachable offset gm s)).tables = s.tables := by
  unfold leaseRenewIn; simp (disch := first | assumption | (intros; (try dsimp only); (repeat' split) <;> simp [*]; done))

@[simp] theorem sendHello_same (s : State) :
    ((sendHello s)).mode = s.mode ∧ ((sendHello s)).ready = s.ready ∧ ((sendHello s)).epochCtr = s.epochCtr
    ∧ ((sendHello s)).vfEnabled = s.vfEnabled ∧ ((sendHello s)).dma = s.dma ∧ ((sendHello s)).sessions = s.sessions
    ∧ ((sendHello s)).cores = s.cores ∧ ((sendHello s)).sec = s.sec ∧ ((sendHello s)).power = s.power
    ∧ ((sendHello s)).hbm = s.hbm ∧ ((sendHello s)).tap = s.tap ∧ ((sendHello s)).pins = s.pins ∧ ((sendHello s)).px = s.px
    ∧ ((sendHello s)).sw = s.sw ∧ ((sendHello s)).tables = s.tables ∧ ((sendHello s)).net = s.net
    ∧ ((sendHello s)).qps = s.qps := by
  unfold sendHello; simp

@[simp] theorem sendJoin_same (s : State) :
    ((sendJoin s)).mode = s.mode ∧ ((sendJoin s)).ready = s.ready ∧ ((sendJoin s)).epochCtr = s.epochCtr
    ∧ ((sendJoin s)).vfEnabled = s.vfEnabled ∧ ((sendJoin s)).dma = s.dma ∧ ((sendJoin s)).sessions = s.sessions
    ∧ ((sendJoin s)).cores = s.cores ∧ ((sendJoin s)).sec = s.sec ∧ ((sendJoin s)).power = s.power ∧ ((sendJoin s)).hbm = s.hbm
    ∧ ((sendJoin s)).tap = s.tap ∧ ((sendJoin s)).pins = s.pins ∧ ((sendJoin s)).px = s.px ∧ ((sendJoin s)).sw = s.sw
    ∧ ((sendJoin s)).tables = s.tables ∧ ((sendJoin s)).net = s.net ∧ ((sendJoin s)).qps = s.qps := by
  unfold sendJoin; simp

@[simp] theorem helloRole_same (s : State) (standby : Nat) :
    ((helloRole s standby)).epochCtr = s.epochCtr ∧ ((helloRole s standby)).vfEnabled = s.vfEnabled
    ∧ ((helloRole s standby)).dma = s.dma ∧ ((helloRole s standby)).sessions = s.sessions
    ∧ ((helloRole s standby)).cores = s.cores ∧ ((helloRole s standby)).sec = s.sec ∧ ((helloRole s standby)).power = s.power
    ∧ ((helloRole s standby)).hbm = s.hbm ∧ ((helloRole s standby)).tap = s.tap ∧ ((helloRole s standby)).pins = s.pins
    ∧ ((helloRole s standby)).px = s.px ∧ ((helloRole s standby)).sw = s.sw ∧ ((helloRole s standby)).tables = s.tables
    ∧ ((helloRole s standby)).net = s.net ∧ ((helloRole s standby)).qps = s.qps := by
  unfold helloRole; simp

@[simp] theorem leaveQuarantine_same (s : State) :
    ((leaveQuarantine s)).epochCtr = s.epochCtr ∧ ((leaveQuarantine s)).vfEnabled = s.vfEnabled
    ∧ ((leaveQuarantine s)).dma = s.dma ∧ ((leaveQuarantine s)).sessions = s.sessions ∧ ((leaveQuarantine s)).cores = s.cores
    ∧ ((leaveQuarantine s)).sec = s.sec ∧ ((leaveQuarantine s)).power = s.power ∧ ((leaveQuarantine s)).hbm = s.hbm
    ∧ ((leaveQuarantine s)).tap = s.tap ∧ ((leaveQuarantine s)).pins = s.pins ∧ ((leaveQuarantine s)).px = s.px
    ∧ ((leaveQuarantine s)).sw = s.sw ∧ ((leaveQuarantine s)).tables = s.tables ∧ ((leaveQuarantine s)).net = s.net
    ∧ ((leaveQuarantine s)).qps = s.qps := by
  unfold leaveQuarantine; simp

@[simp] theorem helloMember_same (s : State) (h : ClpHdr) (standby current next : Nat) :
    ((helloMember s h standby current next)).epochCtr = s.epochCtr
    ∧ ((helloMember s h standby current next)).vfEnabled = s.vfEnabled ∧ ((helloMember s h standby current next)).dma = s.dma
    ∧ ((helloMember s h standby current next)).sessions = s.sessions ∧ ((helloMember s h standby current next)).cores = s.cores
    ∧ ((helloMember s h standby current next)).sec = s.sec ∧ ((helloMember s h standby current next)).power = s.power
    ∧ ((helloMember s h standby current next)).hbm = s.hbm ∧ ((helloMember s h standby current next)).tap = s.tap
    ∧ ((helloMember s h standby current next)).pins = s.pins ∧ ((helloMember s h standby current next)).px = s.px
    ∧ ((helloMember s h standby current next)).sw = s.sw ∧ ((helloMember s h standby current next)).tables = s.tables
    ∧ ((helloMember s h standby current next)).net = s.net ∧ ((helloMember s h standby current next)).qps = s.qps := by
  unfold helloMember; simp

@[simp] theorem helloIn_same (h : ClpHdr) (standby current next : Nat) (s0 : State) :
    ((helloIn h standby current next s0)).epochCtr = s0.epochCtr
    ∧ ((helloIn h standby current next s0)).vfEnabled = s0.vfEnabled ∧ ((helloIn h standby current next s0)).dma = s0.dma
    ∧ ((helloIn h standby current next s0)).sec = s0.sec ∧ ((helloIn h standby current next s0)).power = s0.power
    ∧ ((helloIn h standby current next s0)).tap = s0.tap ∧ ((helloIn h standby current next s0)).pins = s0.pins
    ∧ ((helloIn h standby current next s0)).px = s0.px ∧ ((helloIn h standby current next s0)).sw = s0.sw
    ∧ ((helloIn h standby current next s0)).tables = s0.tables := by
  have hf := clpForeign_same (atTime s0 h.t) h
  unfold helloIn
  dsimp only
  split
  · rename_i s1 e
    have := hf s1 e
    simp at this ⊢
    exact this
  · (repeat' split) <;> simp

@[simp] theorem takeOver_same (s : State) :
    ((takeOver s)).epochCtr = s.epochCtr ∧ ((takeOver s)).vfEnabled = s.vfEnabled ∧ ((takeOver s)).dma = s.dma
    ∧ ((takeOver s)).sessions = s.sessions ∧ ((takeOver s)).cores = s.cores ∧ ((takeOver s)).sec = s.sec
    ∧ ((takeOver s)).power = s.power ∧ ((takeOver s)).hbm = s.hbm ∧ ((takeOver s)).tap = s.tap ∧ ((takeOver s)).pins = s.pins
    ∧ ((takeOver s)).px = s.px ∧ ((takeOver s)).sw = s.sw ∧ ((takeOver s)).tables = s.tables ∧ ((takeOver s)).net = s.net
    ∧ ((takeOver s)).qps = s.qps := by
  unfold takeOver; simp

@[simp] theorem answerJoin_same (s : State) (h : ClpHdr) (serial version fw : Nat) (headless qual : Bool) :
    ((answerJoin s h serial version fw headless qual)).mode = s.mode
    ∧ ((answerJoin s h serial version fw headless qual)).ready = s.ready
    ∧ ((answerJoin s h serial version fw headless qual)).epochCtr = s.epochCtr
    ∧ ((answerJoin s h serial version fw headless qual)).vfEnabled = s.vfEnabled
    ∧ ((answerJoin s h serial version fw headless qual)).dma = s.dma
    ∧ ((answerJoin s h serial version fw headless qual)).sessions = s.sessions
    ∧ ((answerJoin s h serial version fw headless qual)).cores = s.cores
    ∧ ((answerJoin s h serial version fw headless qual)).sec = s.sec
    ∧ ((answerJoin s h serial version fw headless qual)).power = s.power
    ∧ ((answerJoin s h serial version fw headless qual)).hbm = s.hbm
    ∧ ((answerJoin s h serial version fw headless qual)).tap = s.tap
    ∧ ((answerJoin s h serial version fw headless qual)).pins = s.pins
    ∧ ((answerJoin s h serial version fw headless qual)).px = s.px
    ∧ ((answerJoin s h serial version fw headless qual)).sw = s.sw
    ∧ ((answerJoin s h serial version fw headless qual)).tables = s.tables
    ∧ ((answerJoin s h serial version fw headless qual)).net = s.net
    ∧ ((answerJoin s h serial version fw headless qual)).qps = s.qps := by
  unfold answerJoin; simp

@[simp] theorem endJoin_same (s : State) (a : Reply) :
    ((endJoin s a)).mode = s.mode ∧ ((endJoin s a)).ready = s.ready ∧ ((endJoin s a)).epochCtr = s.epochCtr
    ∧ ((endJoin s a)).vfEnabled = s.vfEnabled ∧ ((endJoin s a)).dma = s.dma ∧ ((endJoin s a)).sessions = s.sessions
    ∧ ((endJoin s a)).cores = s.cores ∧ ((endJoin s a)).sec = s.sec ∧ ((endJoin s a)).power = s.power
    ∧ ((endJoin s a)).hbm = s.hbm ∧ ((endJoin s a)).tap = s.tap ∧ ((endJoin s a)).pins = s.pins ∧ ((endJoin s a)).px = s.px
    ∧ ((endJoin s a)).sw = s.sw ∧ ((endJoin s a)).tables = s.tables ∧ ((endJoin s a)).net = s.net := by
  unfold endJoin; (repeat' split) <;> simp

@[simp] theorem becomeMember_same (s : State) (h : ClpHdr) (sentAt result role m leaseMs configHash : Nat) :
    ((becomeMember s h sentAt result role m leaseMs configHash)).epochCtr = s.epochCtr
    ∧ ((becomeMember s h sentAt result role m leaseMs configHash)).vfEnabled = s.vfEnabled
    ∧ ((becomeMember s h sentAt result role m leaseMs configHash)).dma = s.dma
    ∧ ((becomeMember s h sentAt result role m leaseMs configHash)).sessions = s.sessions
    ∧ ((becomeMember s h sentAt result role m leaseMs configHash)).cores = s.cores
    ∧ ((becomeMember s h sentAt result role m leaseMs configHash)).sec = s.sec
    ∧ ((becomeMember s h sentAt result role m leaseMs configHash)).power = s.power
    ∧ ((becomeMember s h sentAt result role m leaseMs configHash)).hbm = s.hbm
    ∧ ((becomeMember s h sentAt result role m leaseMs configHash)).tap = s.tap
    ∧ ((becomeMember s h sentAt result role m leaseMs configHash)).pins = s.pins
    ∧ ((becomeMember s h sentAt result role m leaseMs configHash)).px = s.px
    ∧ ((becomeMember s h sentAt result role m leaseMs configHash)).sw = s.sw
    ∧ ((becomeMember s h sentAt result role m leaseMs configHash)).tables = s.tables
    ∧ ((becomeMember s h sentAt result role m leaseMs configHash)).net = s.net
    ∧ ((becomeMember s h sentAt result role m leaseMs configHash)).qps = s.qps := by
  unfold becomeMember; simp

@[simp] theorem startJoin_same (s : State) (id : Nat) (group : Bytes) (r : Option CmdRef) :
    ((startJoin s id group r)).mode = s.mode ∧ ((startJoin s id group r)).ready = s.ready
    ∧ ((startJoin s id group r)).epochCtr = s.epochCtr ∧ ((startJoin s id group r)).vfEnabled = s.vfEnabled
    ∧ ((startJoin s id group r)).dma = s.dma ∧ ((startJoin s id group r)).sessions = s.sessions
    ∧ ((startJoin s id group r)).cores = s.cores ∧ ((startJoin s id group r)).sec = s.sec
    ∧ ((startJoin s id group r)).power = s.power ∧ ((startJoin s id group r)).hbm = s.hbm
    ∧ ((startJoin s id group r)).tap = s.tap ∧ ((startJoin s id group r)).pins = s.pins ∧ ((startJoin s id group r)).px = s.px
    ∧ ((startJoin s id group r)).sw = s.sw ∧ ((startJoin s id group r)).tables = s.tables
    ∧ ((startJoin s id group r)).net = s.net ∧ ((startJoin s id group r)).qps = s.qps := by
  unfold startJoin; simp

@[simp] theorem timeCheckIn_same (h : ClpHdr) (managerPtp gm domain limit : Nat) (s : State) :
    ((timeCheckIn h managerPtp gm domain limit s)).epochCtr = s.epochCtr
    ∧ ((timeCheckIn h managerPtp gm domain limit s)).vfEnabled = s.vfEnabled
    ∧ ((timeCheckIn h managerPtp gm domain limit s)).dma = s.dma ∧ ((timeCheckIn h managerPtp gm domain limit s)).sec = s.sec
    ∧ ((timeCheckIn h managerPtp gm domain limit s)).power = s.power
    ∧ ((timeCheckIn h managerPtp gm domain limit s)).tap = s.tap ∧ ((timeCheckIn h managerPtp gm domain limit s)).pins = s.pins
    ∧ ((timeCheckIn h managerPtp gm domain limit s)).px = s.px ∧ ((timeCheckIn h managerPtp gm domain limit s)).sw = s.sw
    ∧ ((timeCheckIn h managerPtp gm domain limit s)).tables = s.tables := by
  unfold timeCheckIn; simp (disch := first | assumption | (intros; (try dsimp only); (repeat' split) <;> simp [*]; done))

@[simp] theorem giveUp_same (s : State) (u : Unacked) :
    ((giveUp s u)).mode = s.mode ∧ ((giveUp s u)).ready = s.ready ∧ ((giveUp s u)).epochCtr = s.epochCtr
    ∧ ((giveUp s u)).vfEnabled = s.vfEnabled ∧ ((giveUp s u)).dma = s.dma ∧ ((giveUp s u)).sec = s.sec
    ∧ ((giveUp s u)).power = s.power ∧ ((giveUp s u)).hbm = s.hbm ∧ ((giveUp s u)).tap = s.tap ∧ ((giveUp s u)).pins = s.pins
    ∧ ((giveUp s u)).px = s.px ∧ ((giveUp s u)).sw = s.sw ∧ ((giveUp s u)).tables = s.tables ∧ ((giveUp s u)).net = s.net := by
  unfold giveUp; simp

@[simp] theorem abortMember_same (s : State) (m : Nat) (p : EpochChange) :
    ((abortMember s m p)).mode = s.mode ∧ ((abortMember s m p)).ready = s.ready ∧ ((abortMember s m p)).epochCtr = s.epochCtr
    ∧ ((abortMember s m p)).vfEnabled = s.vfEnabled ∧ ((abortMember s m p)).dma = s.dma ∧ ((abortMember s m p)).sec = s.sec
    ∧ ((abortMember s m p)).power = s.power ∧ ((abortMember s m p)).hbm = s.hbm ∧ ((abortMember s m p)).tap = s.tap
    ∧ ((abortMember s m p)).pins = s.pins ∧ ((abortMember s m p)).px = s.px ∧ ((abortMember s m p)).sw = s.sw
    ∧ ((abortMember s m p)).tables = s.tables ∧ ((abortMember s m p)).net = s.net := by
  unfold abortMember; (repeat' split) <;> simp

@[simp] theorem epochNak_same (s : State) (m : Nat) (p : EpochChange) :
    ((epochNak s m p)).mode = s.mode ∧ ((epochNak s m p)).ready = s.ready ∧ ((epochNak s m p)).epochCtr = s.epochCtr
    ∧ ((epochNak s m p)).vfEnabled = s.vfEnabled ∧ ((epochNak s m p)).dma = s.dma ∧ ((epochNak s m p)).sec = s.sec
    ∧ ((epochNak s m p)).power = s.power ∧ ((epochNak s m p)).hbm = s.hbm ∧ ((epochNak s m p)).tap = s.tap
    ∧ ((epochNak s m p)).pins = s.pins ∧ ((epochNak s m p)).px = s.px ∧ ((epochNak s m p)).sw = s.sw
    ∧ ((epochNak s m p)).tables = s.tables ∧ ((epochNak s m p)).net = s.net := by
  unfold epochNak; (repeat' split) <;> simp (disch := first | assumption | (intros; (repeat' split) <;> simp [*]; done))

@[simp] theorem ackIn_same (s : State) (u : Unacked) (nak : Bool) (leaseMs : Nat) :
    ((ackIn s u nak leaseMs)).mode = s.mode ∧ ((ackIn s u nak leaseMs)).ready = s.ready
    ∧ ((ackIn s u nak leaseMs)).epochCtr = s.epochCtr ∧ ((ackIn s u nak leaseMs)).vfEnabled = s.vfEnabled
    ∧ ((ackIn s u nak leaseMs)).dma = s.dma ∧ ((ackIn s u nak leaseMs)).sec = s.sec ∧ ((ackIn s u nak leaseMs)).power = s.power
    ∧ ((ackIn s u nak leaseMs)).hbm = s.hbm ∧ ((ackIn s u nak leaseMs)).tap = s.tap ∧ ((ackIn s u nak leaseMs)).pins = s.pins
    ∧ ((ackIn s u nak leaseMs)).px = s.px ∧ ((ackIn s u nak leaseMs)).sw = s.sw ∧ ((ackIn s u nak leaseMs)).tables = s.tables
    ∧ ((ackIn s u nak leaseMs)).net = s.net := by
  unfold ackIn; (repeat' split) <;> simp

@[simp] theorem settleDrain_same (s : State) :
    ((settleDrain s)).mode = s.mode ∧ ((settleDrain s)).ready = s.ready ∧ ((settleDrain s)).vfEnabled = s.vfEnabled
    ∧ ((settleDrain s)).dma = s.dma ∧ ((settleDrain s)).sessions = s.sessions ∧ ((settleDrain s)).cores = s.cores
    ∧ ((settleDrain s)).sec = s.sec ∧ ((settleDrain s)).power = s.power ∧ ((settleDrain s)).hbm = s.hbm
    ∧ ((settleDrain s)).tap = s.tap ∧ ((settleDrain s)).pins = s.pins ∧ ((settleDrain s)).px = s.px
    ∧ ((settleDrain s)).sw = s.sw ∧ ((settleDrain s)).tables = s.tables ∧ ((settleDrain s)).net = s.net := by
  unfold settleDrain; (repeat' split) <;> simp

@[simp] theorem drainRole_same (s : State) (m : Nat) (r : Nat × Nat × Nat) :
    ((drainRole s m r)).mode = s.mode ∧ ((drainRole s m r)).ready = s.ready ∧ ((drainRole s m r)).epochCtr = s.epochCtr
    ∧ ((drainRole s m r)).vfEnabled = s.vfEnabled ∧ ((drainRole s m r)).dma = s.dma ∧ ((drainRole s m r)).sec = s.sec
    ∧ ((drainRole s m r)).power = s.power ∧ ((drainRole s m r)).hbm = s.hbm ∧ ((drainRole s m r)).tap = s.tap
    ∧ ((drainRole s m r)).pins = s.pins ∧ ((drainRole s m r)).px = s.px ∧ ((drainRole s m r)).sw = s.sw
    ∧ ((drainRole s m r)).tables = s.tables ∧ ((drainRole s m r)).net = s.net := by
  unfold drainRole; (repeat' split) <;> simp

@[simp] theorem settleVersion_same (s : State) :
    ((settleVersion s)).mode = s.mode ∧ ((settleVersion s)).ready = s.ready ∧ ((settleVersion s)).epochCtr = s.epochCtr
    ∧ ((settleVersion s)).vfEnabled = s.vfEnabled ∧ ((settleVersion s)).dma = s.dma ∧ ((settleVersion s)).sessions = s.sessions
    ∧ ((settleVersion s)).cores = s.cores ∧ ((settleVersion s)).sec = s.sec ∧ ((settleVersion s)).power = s.power
    ∧ ((settleVersion s)).hbm = s.hbm ∧ ((settleVersion s)).tap = s.tap ∧ ((settleVersion s)).pins = s.pins
    ∧ ((settleVersion s)).px = s.px ∧ ((settleVersion s)).sw = s.sw ∧ ((settleVersion s)).tables = s.tables
    ∧ ((settleVersion s)).net = s.net ∧ ((settleVersion s)).qps = s.qps := by
  unfold settleVersion; simp

@[simp] theorem moveVersion_same (s : State) (x : Session) (v frame : Nat) (plan : List (Nat × Nat × Nat)) :
    ((moveVersion s x v frame plan)).mode = s.mode ∧ ((moveVersion s x v frame plan)).ready = s.ready
    ∧ ((moveVersion s x v frame plan)).epochCtr = s.epochCtr ∧ ((moveVersion s x v frame plan)).vfEnabled = s.vfEnabled
    ∧ ((moveVersion s x v frame plan)).dma = s.dma ∧ ((moveVersion s x v frame plan)).cores = s.cores
    ∧ ((moveVersion s x v frame plan)).sec = s.sec ∧ ((moveVersion s x v frame plan)).power = s.power
    ∧ ((moveVersion s x v frame plan)).hbm = s.hbm ∧ ((moveVersion s x v frame plan)).tap = s.tap
    ∧ ((moveVersion s x v frame plan)).pins = s.pins ∧ ((moveVersion s x v frame plan)).px = s.px
    ∧ ((moveVersion s x v frame plan)).sw = s.sw ∧ ((moveVersion s x v frame plan)).tables = s.tables
    ∧ ((moveVersion s x v frame plan)).net = s.net ∧ ((moveVersion s x v frame plan)).qps = s.qps := by
  unfold moveVersion; simp

@[simp] theorem sinkFault_same (s : State) (x : Session) :
    ((sinkFault s x)).mode = s.mode ∧ ((sinkFault s x)).ready = s.ready ∧ ((sinkFault s x)).epochCtr = s.epochCtr
    ∧ ((sinkFault s x)).vfEnabled = s.vfEnabled ∧ ((sinkFault s x)).dma = s.dma ∧ ((sinkFault s x)).sec = s.sec
    ∧ ((sinkFault s x)).power = s.power ∧ ((sinkFault s x)).hbm = s.hbm ∧ ((sinkFault s x)).tap = s.tap
    ∧ ((sinkFault s x)).pins = s.pins ∧ ((sinkFault s x)).px = s.px ∧ ((sinkFault s x)).sw = s.sw
    ∧ ((sinkFault s x)).tables = s.tables ∧ ((sinkFault s x)).net = s.net := by
  unfold sinkFault; dsimp only; (repeat' apply And.intro) <;> (first | rfl | simp | (repeat' split) <;> simp)

@[simp] theorem toBacklog_same (s : State) (x : Session) (item : Bytes) :
    ((toBacklog s x item).1).mode = s.mode ∧ ((toBacklog s x item).1).ready = s.ready
    ∧ ((toBacklog s x item).1).epochCtr = s.epochCtr ∧ ((toBacklog s x item).1).vfEnabled = s.vfEnabled
    ∧ ((toBacklog s x item).1).dma = s.dma ∧ ((toBacklog s x item).1).sessions = s.sessions
    ∧ ((toBacklog s x item).1).cores = s.cores ∧ ((toBacklog s x item).1).sec = s.sec ∧ ((toBacklog s x item).1).power = s.power
    ∧ ((toBacklog s x item).1).hbm = s.hbm ∧ ((toBacklog s x item).1).tap = s.tap ∧ ((toBacklog s x item).1).pins = s.pins
    ∧ ((toBacklog s x item).1).px = s.px ∧ ((toBacklog s x item).1).sw = s.sw ∧ ((toBacklog s x item).1).tables = s.tables
    ∧ ((toBacklog s x item).1).net = s.net ∧ ((toBacklog s x item).1).fabric = s.fabric
    ∧ ((toBacklog s x item).1).qps = s.qps := by
  unfold toBacklog; simp

@[simp] theorem putPacket_same (s : State) (x : Session) (kind : Nat) (b : Bytes) :
    ((putPacket s x kind b).1).mode = s.mode ∧ ((putPacket s x kind b).1).ready = s.ready
    ∧ ((putPacket s x kind b).1).epochCtr = s.epochCtr ∧ ((putPacket s x kind b).1).vfEnabled = s.vfEnabled
    ∧ ((putPacket s x kind b).1).dma = s.dma ∧ ((putPacket s x kind b).1).sessions = s.sessions
    ∧ ((putPacket s x kind b).1).cores = s.cores ∧ ((putPacket s x kind b).1).sec = s.sec
    ∧ ((putPacket s x kind b).1).power = s.power ∧ ((putPacket s x kind b).1).hbm = s.hbm
    ∧ ((putPacket s x kind b).1).tap = s.tap ∧ ((putPacket s x kind b).1).pins = s.pins ∧ ((putPacket s x kind b).1).px = s.px
    ∧ ((putPacket s x kind b).1).sw = s.sw ∧ ((putPacket s x kind b).1).tables = s.tables
    ∧ ((putPacket s x kind b).1).net = s.net ∧ ((putPacket s x kind b).1).fabric = s.fabric
    ∧ ((putPacket s x kind b).1).qps = s.qps := by
  unfold putPacket; (repeat' split) <;> simp

@[simp] theorem sendRtp_same (s : State) (x : Session) (time : Nat) (payload : Bytes) (marker : Bool) :
    ((sendRtp s x time payload marker).1).mode = s.mode ∧ ((sendRtp s x time payload marker).1).ready = s.ready
    ∧ ((sendRtp s x time payload marker).1).epochCtr = s.epochCtr
    ∧ ((sendRtp s x time payload marker).1).vfEnabled = s.vfEnabled ∧ ((sendRtp s x time payload marker).1).dma = s.dma
    ∧ ((sendRtp s x time payload marker).1).sessions = s.sessions ∧ ((sendRtp s x time payload marker).1).cores = s.cores
    ∧ ((sendRtp s x time payload marker).1).sec = s.sec ∧ ((sendRtp s x time payload marker).1).power = s.power
    ∧ ((sendRtp s x time payload marker).1).hbm = s.hbm ∧ ((sendRtp s x time payload marker).1).tap = s.tap
    ∧ ((sendRtp s x time payload marker).1).pins = s.pins ∧ ((sendRtp s x time payload marker).1).px = s.px
    ∧ ((sendRtp s x time payload marker).1).sw = s.sw ∧ ((sendRtp s x time payload marker).1).tables = s.tables
    ∧ ((sendRtp s x time payload marker).1).net = s.net ∧ ((sendRtp s x time payload marker).1).fabric = s.fabric
    ∧ ((sendRtp s x time payload marker).1).qps = s.qps := by
  unfold sendRtp; simp

@[simp] theorem holdPayload_same (s : State) (x : Session) (time : Nat) (p : Bytes) :
    ((holdPayload s x time p).1).mode = s.mode ∧ ((holdPayload s x time p).1).ready = s.ready
    ∧ ((holdPayload s x time p).1).epochCtr = s.epochCtr ∧ ((holdPayload s x time p).1).vfEnabled = s.vfEnabled
    ∧ ((holdPayload s x time p).1).dma = s.dma ∧ ((holdPayload s x time p).1).sessions = s.sessions
    ∧ ((holdPayload s x time p).1).cores = s.cores ∧ ((holdPayload s x time p).1).sec = s.sec
    ∧ ((holdPayload s x time p).1).power = s.power ∧ ((holdPayload s x time p).1).hbm = s.hbm
    ∧ ((holdPayload s x time p).1).tap = s.tap ∧ ((holdPayload s x time p).1).pins = s.pins
    ∧ ((holdPayload s x time p).1).px = s.px ∧ ((holdPayload s x time p).1).sw = s.sw
    ∧ ((holdPayload s x time p).1).tables = s.tables ∧ ((holdPayload s x time p).1).net = s.net
    ∧ ((holdPayload s x time p).1).fabric = s.fabric ∧ ((holdPayload s x time p).1).qps = s.qps := by
  unfold holdPayload; dsimp only; (repeat' apply And.intro) <;> (first | rfl | simp | (repeat' split) <;> simp)

@[simp] theorem closeAggregate_same (s : State) (x : Session) (time : Nat) :
    ((closeAggregate s x time).1).mode = s.mode ∧ ((closeAggregate s x time).1).ready = s.ready
    ∧ ((closeAggregate s x time).1).epochCtr = s.epochCtr ∧ ((closeAggregate s x time).1).vfEnabled = s.vfEnabled
    ∧ ((closeAggregate s x time).1).dma = s.dma ∧ ((closeAggregate s x time).1).sessions = s.sessions
    ∧ ((closeAggregate s x time).1).cores = s.cores ∧ ((closeAggregate s x time).1).sec = s.sec
    ∧ ((closeAggregate s x time).1).power = s.power ∧ ((closeAggregate s x time).1).hbm = s.hbm
    ∧ ((closeAggregate s x time).1).tap = s.tap ∧ ((closeAggregate s x time).1).pins = s.pins
    ∧ ((closeAggregate s x time).1).px = s.px ∧ ((closeAggregate s x time).1).sw = s.sw
    ∧ ((closeAggregate s x time).1).tables = s.tables ∧ ((closeAggregate s x time).1).net = s.net
    ∧ ((closeAggregate s x time).1).fabric = s.fabric ∧ ((closeAggregate s x time).1).qps = s.qps := by
  unfold closeAggregate; (repeat' split) <;> simp

@[simp] theorem sendFragments_same (n : Nat) (s : State) (x : Session) (time : Nat) :
    ((sendFragments n s x time).1).mode = s.mode ∧ ((sendFragments n s x time).1).ready = s.ready
    ∧ ((sendFragments n s x time).1).epochCtr = s.epochCtr ∧ ((sendFragments n s x time).1).vfEnabled = s.vfEnabled
    ∧ ((sendFragments n s x time).1).dma = s.dma ∧ ((sendFragments n s x time).1).sessions = s.sessions
    ∧ ((sendFragments n s x time).1).cores = s.cores ∧ ((sendFragments n s x time).1).sec = s.sec
    ∧ ((sendFragments n s x time).1).power = s.power ∧ ((sendFragments n s x time).1).hbm = s.hbm
    ∧ ((sendFragments n s x time).1).tap = s.tap ∧ ((sendFragments n s x time).1).pins = s.pins
    ∧ ((sendFragments n s x time).1).px = s.px ∧ ((sendFragments n s x time).1).sw = s.sw
    ∧ ((sendFragments n s x time).1).tables = s.tables ∧ ((sendFragments n s x time).1).net = s.net
    ∧ ((sendFragments n s x time).1).fabric = s.fabric ∧ ((sendFragments n s x time).1).qps = s.qps := by
  induction n generalizing s x <;> unfold sendFragments <;> dsimp only <;> (repeat' split) <;> simp [*]

@[simp] theorem toRtp_same (s : State) (x : Session) (time : Nat) (b : Bytes) (last : Bool) :
    ((toRtp s x time b last).1).mode = s.mode ∧ ((toRtp s x time b last).1).ready = s.ready
    ∧ ((toRtp s x time b last).1).epochCtr = s.epochCtr ∧ ((toRtp s x time b last).1).vfEnabled = s.vfEnabled
    ∧ ((toRtp s x time b last).1).dma = s.dma ∧ ((toRtp s x time b last).1).sessions = s.sessions
    ∧ ((toRtp s x time b last).1).cores = s.cores ∧ ((toRtp s x time b last).1).sec = s.sec
    ∧ ((toRtp s x time b last).1).power = s.power ∧ ((toRtp s x time b last).1).hbm = s.hbm
    ∧ ((toRtp s x time b last).1).tap = s.tap ∧ ((toRtp s x time b last).1).pins = s.pins
    ∧ ((toRtp s x time b last).1).px = s.px ∧ ((toRtp s x time b last).1).sw = s.sw
    ∧ ((toRtp s x time b last).1).tables = s.tables ∧ ((toRtp s x time b last).1).net = s.net
    ∧ ((toRtp s x time b last).1).fabric = s.fabric ∧ ((toRtp s x time b last).1).qps = s.qps := by
  unfold toRtp; dsimp only; (repeat' split) <;> simp

@[simp] theorem sendDatagram_same (s : State) (x : Session) (all : Bool) :
    ((sendDatagram s x all).1).mode = s.mode ∧ ((sendDatagram s x all).1).ready = s.ready
    ∧ ((sendDatagram s x all).1).epochCtr = s.epochCtr ∧ ((sendDatagram s x all).1).vfEnabled = s.vfEnabled
    ∧ ((sendDatagram s x all).1).dma = s.dma ∧ ((sendDatagram s x all).1).sessions = s.sessions
    ∧ ((sendDatagram s x all).1).cores = s.cores ∧ ((sendDatagram s x all).1).sec = s.sec
    ∧ ((sendDatagram s x all).1).power = s.power ∧ ((sendDatagram s x all).1).hbm = s.hbm
    ∧ ((sendDatagram s x all).1).tap = s.tap ∧ ((sendDatagram s x all).1).pins = s.pins ∧ ((sendDatagram s x all).1).px = s.px
    ∧ ((sendDatagram s x all).1).sw = s.sw ∧ ((sendDatagram s x all).1).tables = s.tables
    ∧ ((sendDatagram s x all).1).net = s.net ∧ ((sendDatagram s x all).1).fabric = s.fabric
    ∧ ((sendDatagram s x all).1).qps = s.qps := by
  unfold sendDatagram; grind [putPacket_same]

@[simp] theorem putTs_same (s : State) (x : Session) (pid : Nat) (start : Bool) (p : Bytes) :
    ((putTs s x pid start p).1).mode = s.mode ∧ ((putTs s x pid start p).1).ready = s.ready
    ∧ ((putTs s x pid start p).1).epochCtr = s.epochCtr ∧ ((putTs s x pid start p).1).vfEnabled = s.vfEnabled
    ∧ ((putTs s x pid start p).1).dma = s.dma ∧ ((putTs s x pid start p).1).sessions = s.sessions
    ∧ ((putTs s x pid start p).1).cores = s.cores ∧ ((putTs s x pid start p).1).sec = s.sec
    ∧ ((putTs s x pid start p).1).power = s.power ∧ ((putTs s x pid start p).1).hbm = s.hbm
    ∧ ((putTs s x pid start p).1).tap = s.tap ∧ ((putTs s x pid start p).1).pins = s.pins
    ∧ ((putTs s x pid start p).1).px = s.px ∧ ((putTs s x pid start p).1).sw = s.sw
    ∧ ((putTs s x pid start p).1).tables = s.tables ∧ ((putTs s x pid start p).1).net = s.net
    ∧ ((putTs s x pid start p).1).fabric = s.fabric ∧ ((putTs s x pid start p).1).qps = s.qps := by
  unfold putTs; simp

@[simp] theorem putPcr_same (s : State) (x : Session) (number : Nat) :
    ((putPcr s x number).1).mode = s.mode ∧ ((putPcr s x number).1).ready = s.ready
    ∧ ((putPcr s x number).1).epochCtr = s.epochCtr ∧ ((putPcr s x number).1).vfEnabled = s.vfEnabled
    ∧ ((putPcr s x number).1).dma = s.dma ∧ ((putPcr s x number).1).sessions = s.sessions
    ∧ ((putPcr s x number).1).cores = s.cores ∧ ((putPcr s x number).1).sec = s.sec ∧ ((putPcr s x number).1).power = s.power
    ∧ ((putPcr s x number).1).hbm = s.hbm ∧ ((putPcr s x number).1).tap = s.tap ∧ ((putPcr s x number).1).pins = s.pins
    ∧ ((putPcr s x number).1).px = s.px ∧ ((putPcr s x number).1).sw = s.sw ∧ ((putPcr s x number).1).tables = s.tables
    ∧ ((putPcr s x number).1).net = s.net ∧ ((putPcr s x number).1).fabric = s.fabric
    ∧ ((putPcr s x number).1).qps = s.qps := by
  unfold putPcr; grind [sendDatagram_same]

@[simp] theorem putPsi_same (s : State) (x : Session) (number : Nat) :
    ((putPsi s x number).1).mode = s.mode ∧ ((putPsi s x number).1).ready = s.ready
    ∧ ((putPsi s x number).1).epochCtr = s.epochCtr ∧ ((putPsi s x number).1).vfEnabled = s.vfEnabled
    ∧ ((putPsi s x number).1).dma = s.dma ∧ ((putPsi s x number).1).sessions = s.sessions
    ∧ ((putPsi s x number).1).cores = s.cores ∧ ((putPsi s x number).1).sec = s.sec ∧ ((putPsi s x number).1).power = s.power
    ∧ ((putPsi s x number).1).hbm = s.hbm ∧ ((putPsi s x number).1).tap = s.tap ∧ ((putPsi s x number).1).pins = s.pins
    ∧ ((putPsi s x number).1).px = s.px ∧ ((putPsi s x number).1).sw = s.sw ∧ ((putPsi s x number).1).tables = s.tables
    ∧ ((putPsi s x number).1).net = s.net ∧ ((putPsi s x number).1).fabric = s.fabric
    ∧ ((putPsi s x number).1).qps = s.qps := by
  unfold putPsi; simp

@[simp] theorem drainPes_same (n : Nat) (s : State) (x : Session) :
    ((drainPes n s x).1).mode = s.mode ∧ ((drainPes n s x).1).ready = s.ready ∧ ((drainPes n s x).1).epochCtr = s.epochCtr
    ∧ ((drainPes n s x).1).vfEnabled = s.vfEnabled ∧ ((drainPes n s x).1).dma = s.dma
    ∧ ((drainPes n s x).1).sessions = s.sessions ∧ ((drainPes n s x).1).cores = s.cores ∧ ((drainPes n s x).1).sec = s.sec
    ∧ ((drainPes n s x).1).power = s.power ∧ ((drainPes n s x).1).hbm = s.hbm ∧ ((drainPes n s x).1).tap = s.tap
    ∧ ((drainPes n s x).1).pins = s.pins ∧ ((drainPes n s x).1).px = s.px ∧ ((drainPes n s x).1).sw = s.sw
    ∧ ((drainPes n s x).1).tables = s.tables ∧ ((drainPes n s x).1).net = s.net ∧ ((drainPes n s x).1).fabric = s.fabric
    ∧ ((drainPes n s x).1).qps = s.qps := by
  induction n generalizing s x <;> unfold drainPes <;> dsimp only <;> (repeat' split) <;> simp [*]

@[simp] theorem toTs_same (s : State) (x : Session) (b : Bytes) :
    ((toTs s x b).1).mode = s.mode ∧ ((toTs s x b).1).ready = s.ready ∧ ((toTs s x b).1).epochCtr = s.epochCtr
    ∧ ((toTs s x b).1).vfEnabled = s.vfEnabled ∧ ((toTs s x b).1).dma = s.dma ∧ ((toTs s x b).1).sessions = s.sessions
    ∧ ((toTs s x b).1).cores = s.cores ∧ ((toTs s x b).1).sec = s.sec ∧ ((toTs s x b).1).power = s.power
    ∧ ((toTs s x b).1).hbm = s.hbm ∧ ((toTs s x b).1).tap = s.tap ∧ ((toTs s x b).1).pins = s.pins ∧ ((toTs s x b).1).px = s.px
    ∧ ((toTs s x b).1).sw = s.sw ∧ ((toTs s x b).1).tables = s.tables ∧ ((toTs s x b).1).net = s.net
    ∧ ((toTs s x b).1).fabric = s.fabric ∧ ((toTs s x b).1).qps = s.qps := by
  unfold toTs; simp

@[simp] theorem sendPiece_same (s : State) (x : Session) (time : Nat) (b : Bytes) (first last : Bool) :
    ((sendPiece s x time b first last).1).mode = s.mode ∧ ((sendPiece s x time b first last).1).ready = s.ready
    ∧ ((sendPiece s x time b first last).1).epochCtr = s.epochCtr
    ∧ ((sendPiece s x time b first last).1).vfEnabled = s.vfEnabled ∧ ((sendPiece s x time b first last).1).dma = s.dma
    ∧ ((sendPiece s x time b first last).1).sessions = s.sessions ∧ ((sendPiece s x time b first last).1).cores = s.cores
    ∧ ((sendPiece s x time b first last).1).sec = s.sec ∧ ((sendPiece s x time b first last).1).power = s.power
    ∧ ((sendPiece s x time b first last).1).hbm = s.hbm ∧ ((sendPiece s x time b first last).1).tap = s.tap
    ∧ ((sendPiece s x time b first last).1).pins = s.pins ∧ ((sendPiece s x time b first last).1).px = s.px
    ∧ ((sendPiece s x time b first last).1).sw = s.sw ∧ ((sendPiece s x time b first last).1).tables = s.tables
    ∧ ((sendPiece s x time b first last).1).net = s.net ∧ ((sendPiece s x time b first last).1).fabric = s.fabric
    ∧ ((sendPiece s x time b first last).1).qps = s.qps := by
  unfold sendPiece; (repeat' split) <;> simp

@[simp] theorem sendUnits_same (s : State) (x : Session) (time : Nat) (l : List Bytes) :
    ((sendUnits s x time l).1).mode = s.mode ∧ ((sendUnits s x time l).1).ready = s.ready
    ∧ ((sendUnits s x time l).1).epochCtr = s.epochCtr ∧ ((sendUnits s x time l).1).vfEnabled = s.vfEnabled
    ∧ ((sendUnits s x time l).1).dma = s.dma ∧ ((sendUnits s x time l).1).sessions = s.sessions
    ∧ ((sendUnits s x time l).1).cores = s.cores ∧ ((sendUnits s x time l).1).sec = s.sec
    ∧ ((sendUnits s x time l).1).power = s.power ∧ ((sendUnits s x time l).1).hbm = s.hbm
    ∧ ((sendUnits s x time l).1).tap = s.tap ∧ ((sendUnits s x time l).1).pins = s.pins ∧ ((sendUnits s x time l).1).px = s.px
    ∧ ((sendUnits s x time l).1).sw = s.sw ∧ ((sendUnits s x time l).1).tables = s.tables
    ∧ ((sendUnits s x time l).1).net = s.net ∧ ((sendUnits s x time l).1).fabric = s.fabric
    ∧ ((sendUnits s x time l).1).qps = s.qps := by
  unfold sendUnits; simp (disch := first | assumption | (intros; (try dsimp only); (repeat' split) <;> simp [*]; done))

@[simp] theorem openUnit_same (s : State) (x : Session) (f : EncFrame) :
    ((openUnit s x f).1).mode = s.mode ∧ ((openUnit s x f).1).ready = s.ready ∧ ((openUnit s x f).1).epochCtr = s.epochCtr
    ∧ ((openUnit s x f).1).vfEnabled = s.vfEnabled ∧ ((openUnit s x f).1).dma = s.dma
    ∧ ((openUnit s x f).1).sessions = s.sessions ∧ ((openUnit s x f).1).cores = s.cores ∧ ((openUnit s x f).1).sec = s.sec
    ∧ ((openUnit s x f).1).power = s.power ∧ ((openUnit s x f).1).hbm = s.hbm ∧ ((openUnit s x f).1).tap = s.tap
    ∧ ((openUnit s x f).1).pins = s.pins ∧ ((openUnit s x f).1).px = s.px ∧ ((openUnit s x f).1).sw = s.sw
    ∧ ((openUnit s x f).1).tables = s.tables ∧ ((openUnit s x f).1).net = s.net ∧ ((openUnit s x f).1).fabric = s.fabric
    ∧ ((openUnit s x f).1).qps = s.qps := by
  unfold openUnit; grind [putPcr_same, putPsi_same, toTs_same]

@[simp] theorem closeUnit_same (s : State) (x : Session) (time : Nat) (ends : Bool) :
    ((closeUnit s x time ends).1).mode = s.mode ∧ ((closeUnit s x time ends).1).ready = s.ready
    ∧ ((closeUnit s x time ends).1).epochCtr = s.epochCtr ∧ ((closeUnit s x time ends).1).vfEnabled = s.vfEnabled
    ∧ ((closeUnit s x time ends).1).dma = s.dma ∧ ((closeUnit s x time ends).1).sessions = s.sessions
    ∧ ((closeUnit s x time ends).1).cores = s.cores ∧ ((closeUnit s x time ends).1).sec = s.sec
    ∧ ((closeUnit s x time ends).1).power = s.power ∧ ((closeUnit s x time ends).1).hbm = s.hbm
    ∧ ((closeUnit s x time ends).1).tap = s.tap ∧ ((closeUnit s x time ends).1).pins = s.pins
    ∧ ((closeUnit s x time ends).1).px = s.px ∧ ((closeUnit s x time ends).1).sw = s.sw
    ∧ ((closeUnit s x time ends).1).tables = s.tables ∧ ((closeUnit s x time ends).1).net = s.net
    ∧ ((closeUnit s x time ends).1).fabric = s.fabric ∧ ((closeUnit s x time ends).1).qps = s.qps := by
  unfold closeUnit; dsimp only; (repeat' split) <;> simp

@[simp] theorem endSequence_same (s : State) (x : Session) :
    ((endSequence s x).1).mode = s.mode ∧ ((endSequence s x).1).ready = s.ready ∧ ((endSequence s x).1).epochCtr = s.epochCtr
    ∧ ((endSequence s x).1).vfEnabled = s.vfEnabled ∧ ((endSequence s x).1).dma = s.dma
    ∧ ((endSequence s x).1).sessions = s.sessions ∧ ((endSequence s x).1).cores = s.cores ∧ ((endSequence s x).1).sec = s.sec
    ∧ ((endSequence s x).1).power = s.power ∧ ((endSequence s x).1).hbm = s.hbm ∧ ((endSequence s x).1).tap = s.tap
    ∧ ((endSequence s x).1).pins = s.pins ∧ ((endSequence s x).1).px = s.px ∧ ((endSequence s x).1).sw = s.sw
    ∧ ((endSequence s x).1).tables = s.tables ∧ ((endSequence s x).1).net = s.net ∧ ((endSequence s x).1).fabric = s.fabric
    ∧ ((endSequence s x).1).qps = s.qps := by
  unfold endSequence; (repeat' split) <;> simp

@[simp] theorem takeRow_same (s : State) (x : Session) (f : EncFrame) (i : Nat) (r : RowRec) :
    ((takeRow s x f i r).2).mode = s.mode ∧ ((takeRow s x f i r).2).ready = s.ready
    ∧ ((takeRow s x f i r).2).epochCtr = s.epochCtr ∧ ((takeRow s x f i r).2).vfEnabled = s.vfEnabled
    ∧ ((takeRow s x f i r).2).dma = s.dma ∧ ((takeRow s x f i r).2).sessions = s.sessions ∧ ((takeRow s x f i r).2).sec = s.sec
    ∧ ((takeRow s x f i r).2).power = s.power ∧ ((takeRow s x f i r).2).hbm = s.hbm ∧ ((takeRow s x f i r).2).tap = s.tap
    ∧ ((takeRow s x f i r).2).pins = s.pins ∧ ((takeRow s x f i r).2).px = s.px ∧ ((takeRow s x f i r).2).sw = s.sw
    ∧ ((takeRow s x f i r).2).tables = s.tables ∧ ((takeRow s x f i r).2).net = s.net
    ∧ ((takeRow s x f i r).2).fabric = s.fabric ∧ ((takeRow s x f i r).2).qps = s.qps := by
  unfold takeRow; simp

@[simp] theorem sendRow_same (s : State) (x : Session) (f : EncFrame) (time : Nat) (sizes : List Nat) (q : Nat × Nat × Nat × Bytes) :
    ((sendRow s x f time sizes q).1).mode = s.mode ∧ ((sendRow s x f time sizes q).1).ready = s.ready
    ∧ ((sendRow s x f time sizes q).1).epochCtr = s.epochCtr ∧ ((sendRow s x f time sizes q).1).vfEnabled = s.vfEnabled
    ∧ ((sendRow s x f time sizes q).1).dma = s.dma ∧ ((sendRow s x f time sizes q).1).sessions = s.sessions
    ∧ ((sendRow s x f time sizes q).1).cores = s.cores ∧ ((sendRow s x f time sizes q).1).sec = s.sec
    ∧ ((sendRow s x f time sizes q).1).power = s.power ∧ ((sendRow s x f time sizes q).1).hbm = s.hbm
    ∧ ((sendRow s x f time sizes q).1).tap = s.tap ∧ ((sendRow s x f time sizes q).1).pins = s.pins
    ∧ ((sendRow s x f time sizes q).1).px = s.px ∧ ((sendRow s x f time sizes q).1).sw = s.sw
    ∧ ((sendRow s x f time sizes q).1).tables = s.tables ∧ ((sendRow s x f time sizes q).1).net = s.net
    ∧ ((sendRow s x f time sizes q).1).fabric = s.fabric ∧ ((sendRow s x f time sizes q).1).qps = s.qps := by
  unfold sendRow; simp

@[simp] theorem finishFrame_same (s : State) (x : Session) (f : EncFrame) (time : Nat) :
    ((finishFrame s x f time).1).mode = s.mode ∧ ((finishFrame s x f time).1).ready = s.ready
    ∧ ((finishFrame s x f time).1).epochCtr = s.epochCtr ∧ ((finishFrame s x f time).1).vfEnabled = s.vfEnabled
    ∧ ((finishFrame s x f time).1).dma = s.dma ∧ ((finishFrame s x f time).1).sessions = s.sessions
    ∧ ((finishFrame s x f time).1).cores = s.cores ∧ ((finishFrame s x f time).1).sec = s.sec
    ∧ ((finishFrame s x f time).1).power = s.power ∧ ((finishFrame s x f time).1).hbm = s.hbm
    ∧ ((finishFrame s x f time).1).tap = s.tap ∧ ((finishFrame s x f time).1).pins = s.pins
    ∧ ((finishFrame s x f time).1).px = s.px ∧ ((finishFrame s x f time).1).sw = s.sw
    ∧ ((finishFrame s x f time).1).tables = s.tables ∧ ((finishFrame s x f time).1).net = s.net
    ∧ ((finishFrame s x f time).1).fabric = s.fabric ∧ ((finishFrame s x f time).1).qps = s.qps := by
  unfold finishFrame; grind [sendUnits_same, closeUnit_same, endSequence_same]

@[simp] theorem sendWhole_same (s : State) (y : Session) (f : EncFrame) (time : Nat) (rows : List (Nat × Nat × Nat × Bytes)) :
    ((sendWhole s y f time rows).1).mode = s.mode ∧ ((sendWhole s y f time rows).1).ready = s.ready
    ∧ ((sendWhole s y f time rows).1).epochCtr = s.epochCtr ∧ ((sendWhole s y f time rows).1).vfEnabled = s.vfEnabled
    ∧ ((sendWhole s y f time rows).1).dma = s.dma ∧ ((sendWhole s y f time rows).1).sessions = s.sessions
    ∧ ((sendWhole s y f time rows).1).cores = s.cores ∧ ((sendWhole s y f time rows).1).sec = s.sec
    ∧ ((sendWhole s y f time rows).1).power = s.power ∧ ((sendWhole s y f time rows).1).hbm = s.hbm
    ∧ ((sendWhole s y f time rows).1).tap = s.tap ∧ ((sendWhole s y f time rows).1).pins = s.pins
    ∧ ((sendWhole s y f time rows).1).px = s.px ∧ ((sendWhole s y f time rows).1).sw = s.sw
    ∧ ((sendWhole s y f time rows).1).tables = s.tables ∧ ((sendWhole s y f time rows).1).net = s.net
    ∧ ((sendWhole s y f time rows).1).fabric = s.fabric ∧ ((sendWhole s y f time rows).1).qps = s.qps := by
  unfold sendWhole; simp

@[simp] theorem openGroup_same (s : State) (y : Session) (f : EncFrame) (time : Nat) (head : Bool) :
    ((openGroup s y f time head).1).mode = s.mode ∧ ((openGroup s y f time head).1).ready = s.ready
    ∧ ((openGroup s y f time head).1).epochCtr = s.epochCtr ∧ ((openGroup s y f time head).1).vfEnabled = s.vfEnabled
    ∧ ((openGroup s y f time head).1).dma = s.dma ∧ ((openGroup s y f time head).1).sessions = s.sessions
    ∧ ((openGroup s y f time head).1).cores = s.cores ∧ ((openGroup s y f time head).1).sec = s.sec
    ∧ ((openGroup s y f time head).1).power = s.power ∧ ((openGroup s y f time head).1).hbm = s.hbm
    ∧ ((openGroup s y f time head).1).tap = s.tap ∧ ((openGroup s y f time head).1).pins = s.pins
    ∧ ((openGroup s y f time head).1).px = s.px ∧ ((openGroup s y f time head).1).sw = s.sw
    ∧ ((openGroup s y f time head).1).tables = s.tables ∧ ((openGroup s y f time head).1).net = s.net
    ∧ ((openGroup s y f time head).1).fabric = s.fabric ∧ ((openGroup s y f time head).1).qps = s.qps := by
  unfold openGroup; split <;> simp

theorem takeRows_same (s : State) (x : Session) (f : EncFrame) (l : List (Nat × Nat × Nat)) :
    ((takeRows s x f l).2.1).mode = s.mode ∧ ((takeRows s x f l).2.1).ready = s.ready
    ∧ ((takeRows s x f l).2.1).epochCtr = s.epochCtr ∧ ((takeRows s x f l).2.1).vfEnabled = s.vfEnabled
    ∧ ((takeRows s x f l).2.1).dma = s.dma ∧ ((takeRows s x f l).2.1).sec = s.sec ∧ ((takeRows s x f l).2.1).power = s.power
    ∧ ((takeRows s x f l).2.1).hbm = s.hbm ∧ ((takeRows s x f l).2.1).tap = s.tap ∧ ((takeRows s x f l).2.1).pins = s.pins
    ∧ ((takeRows s x f l).2.1).px = s.px ∧ ((takeRows s x f l).2.1).sw = s.sw ∧ ((takeRows s x f l).2.1).tables = s.tables
    ∧ ((takeRows s x f l).2.1).net = s.net ∧ ((takeRows s x f l).2.1).fabric = s.fabric
    ∧ ((takeRows s x f l).2.1).qps = s.qps := by
  induction l generalizing s x f with
  | nil => simp [takeRows]
  | cons p l ih => unfold takeRows; split <;> simp [ih]

@[simp] theorem releaseGroup_same (s : State) (x : Session) (f : EncFrame) (g : List (Nat × Nat × Nat)) (head tail : Bool) :
    (releaseGroup s x f g head tail).mode = s.mode ∧ (releaseGroup s x f g head tail).ready = s.ready
    ∧ (releaseGroup s x f g head tail).epochCtr = s.epochCtr ∧ (releaseGroup s x f g head tail).vfEnabled = s.vfEnabled
    ∧ (releaseGroup s x f g head tail).dma = s.dma ∧ (releaseGroup s x f g head tail).sec = s.sec
    ∧ (releaseGroup s x f g head tail).power = s.power ∧ (releaseGroup s x f g head tail).hbm = s.hbm
    ∧ (releaseGroup s x f g head tail).tap = s.tap ∧ (releaseGroup s x f g head tail).pins = s.pins
    ∧ (releaseGroup s x f g head tail).px = s.px ∧ (releaseGroup s x f g head tail).sw = s.sw
    ∧ (releaseGroup s x f g head tail).tables = s.tables ∧ (releaseGroup s x f g head tail).net = s.net
    ∧ (releaseGroup s x f g head tail).fabric = s.fabric ∧ (releaseGroup s x f g head tail).qps = s.qps := by
  have hr := takeRows_same s x f g
  unfold releaseGroup
  dsimp only
  generalize takeRows s x f g = q at hr ⊢
  obtain ⟨rows, s1, f1, x1⟩ := q
  dsimp only at hr ⊢
  (repeat' split) <;> simp [hr]

@[simp] theorem transferSlice_same (s : State) (x : Session) (f : EncFrame) (slice region : Nat) (b : Bytes) :
    ((transferSlice s x f slice region b)).mode = s.mode ∧ ((transferSlice s x f slice region b)).ready = s.ready
    ∧ ((transferSlice s x f slice region b)).epochCtr = s.epochCtr
    ∧ ((transferSlice s x f slice region b)).vfEnabled = s.vfEnabled ∧ ((transferSlice s x f slice region b)).dma = s.dma
    ∧ ((transferSlice s x f slice region b)).cores = s.cores ∧ ((transferSlice s x f slice region b)).sec = s.sec
    ∧ ((transferSlice s x f slice region b)).power = s.power ∧ ((transferSlice s x f slice region b)).hbm = s.hbm
    ∧ ((transferSlice s x f slice region b)).tap = s.tap ∧ ((transferSlice s x f slice region b)).pins = s.pins
    ∧ ((transferSlice s x f slice region b)).px = s.px ∧ ((transferSlice s x f slice region b)).sw = s.sw
    ∧ ((transferSlice s x f slice region b)).tables = s.tables ∧ ((transferSlice s x f slice region b)).net = s.net
    ∧ ((transferSlice s x f slice region b)).qps = s.qps := by
  unfold transferSlice; simp

@[simp] theorem settleSlices_same (n : Nat) (s : State) (id number : Nat) :
    ((settleSlices n s id number)).mode = s.mode ∧ ((settleSlices n s id number)).ready = s.ready
    ∧ ((settleSlices n s id number)).epochCtr = s.epochCtr ∧ ((settleSlices n s id number)).vfEnabled = s.vfEnabled
    ∧ ((settleSlices n s id number)).dma = s.dma ∧ ((settleSlices n s id number)).sec = s.sec
    ∧ ((settleSlices n s id number)).power = s.power ∧ ((settleSlices n s id number)).hbm = s.hbm
    ∧ ((settleSlices n s id number)).tap = s.tap ∧ ((settleSlices n s id number)).pins = s.pins
    ∧ ((settleSlices n s id number)).px = s.px ∧ ((settleSlices n s id number)).sw = s.sw
    ∧ ((settleSlices n s id number)).tables = s.tables ∧ ((settleSlices n s id number)).net = s.net
    ∧ ((settleSlices n s id number)).qps = s.qps := by
  induction n generalizing s <;> unfold settleSlices <;> (repeat' split) <;> simp [*]

@[simp] theorem releaseNext_same (s : State) (x : Session) :
    ((releaseNext s x)).mode = s.mode ∧ ((releaseNext s x)).ready = s.ready ∧ ((releaseNext s x)).epochCtr = s.epochCtr
    ∧ ((releaseNext s x)).vfEnabled = s.vfEnabled ∧ ((releaseNext s x)).dma = s.dma ∧ ((releaseNext s x)).sec = s.sec
    ∧ ((releaseNext s x)).power = s.power ∧ ((releaseNext s x)).hbm = s.hbm ∧ ((releaseNext s x)).tap = s.tap
    ∧ ((releaseNext s x)).pins = s.pins ∧ ((releaseNext s x)).px = s.px ∧ ((releaseNext s x)).sw = s.sw
    ∧ ((releaseNext s x)).tables = s.tables ∧ ((releaseNext s x)).net = s.net ∧ ((releaseNext s x)).fabric = s.fabric
    ∧ ((releaseNext s x)).qps = s.qps := by
  unfold releaseNext; dsimp only; (repeat' split) <;> simp

@[simp] theorem checkSink_same (s : State) (id : Nat) :
    ((checkSink s id)).mode = s.mode ∧ ((checkSink s id)).ready = s.ready ∧ ((checkSink s id)).epochCtr = s.epochCtr
    ∧ ((checkSink s id)).vfEnabled = s.vfEnabled ∧ ((checkSink s id)).dma = s.dma ∧ ((checkSink s id)).sec = s.sec
    ∧ ((checkSink s id)).power = s.power ∧ ((checkSink s id)).hbm = s.hbm ∧ ((checkSink s id)).tap = s.tap
    ∧ ((checkSink s id)).pins = s.pins ∧ ((checkSink s id)).px = s.px ∧ ((checkSink s id)).sw = s.sw
    ∧ ((checkSink s id)).tables = s.tables ∧ ((checkSink s id)).net = s.net := by
  unfold checkSink; (repeat' split) <;> simp

@[simp] theorem distEdit_same (s : State) (session : Nat) (f : DistState → DistState) :
    ((distEdit s session f)).mode = s.mode ∧ ((distEdit s session f)).ready = s.ready
    ∧ ((distEdit s session f)).epochCtr = s.epochCtr ∧ ((distEdit s session f)).vfEnabled = s.vfEnabled
    ∧ ((distEdit s session f)).dma = s.dma ∧ ((distEdit s session f)).cores = s.cores ∧ ((distEdit s session f)).sec = s.sec
    ∧ ((distEdit s session f)).power = s.power ∧ ((distEdit s session f)).hbm = s.hbm ∧ ((distEdit s session f)).tap = s.tap
    ∧ ((distEdit s session f)).pins = s.pins ∧ ((distEdit s session f)).px = s.px ∧ ((distEdit s session f)).sw = s.sw
    ∧ ((distEdit s session f)).tables = s.tables ∧ ((distEdit s session f)).net = s.net
    ∧ ((distEdit s session f)).fabric = s.fabric ∧ ((distEdit s session f)).qps = s.qps := by
  unfold distEdit; (repeat' split) <;> simp

@[simp] theorem dropOwnRole_same (s : State) (x : Session) (region : Nat) :
    ((dropOwnRole s x region)).mode = s.mode ∧ ((dropOwnRole s x region)).ready = s.ready
    ∧ ((dropOwnRole s x region)).epochCtr = s.epochCtr ∧ ((dropOwnRole s x region)).vfEnabled = s.vfEnabled
    ∧ ((dropOwnRole s x region)).dma = s.dma ∧ ((dropOwnRole s x region)).sec = s.sec
    ∧ ((dropOwnRole s x region)).power = s.power ∧ ((dropOwnRole s x region)).tap = s.tap
    ∧ ((dropOwnRole s x region)).pins = s.pins ∧ ((dropOwnRole s x region)).px = s.px ∧ ((dropOwnRole s x region)).sw = s.sw
    ∧ ((dropOwnRole s x region)).tables = s.tables ∧ ((dropOwnRole s x region)).fabric = s.fabric
    ∧ ((dropOwnRole s x region)).qps = s.qps := by
  unfold dropOwnRole; simp

theorem newPlaced_same (s : State) (session role region : Nat) (c : Bytes) (p : State × Session)
    (h : newPlaced s session role region c = some p) : (p.1).mode = s.mode ∧ (p.1).ready = s.ready ∧ (p.1).epochCtr = s.epochCtr ∧ (p.1).vfEnabled = s.vfEnabled ∧ (p.1).dma = s.dma ∧ (p.1).sec = s.sec ∧ (p.1).power = s.power ∧ (p.1).tap = s.tap ∧ (p.1).pins = s.pins ∧ (p.1).px = s.px ∧ (p.1).sw = s.sw ∧ (p.1).tables = s.tables ∧ (p.1).fabric = s.fabric ∧ (p.1).qps = s.qps := by
  unfold newPlaced at h
  dsimp only at h
  (repeat' split at h) <;> cases h <;> simp

@[simp] theorem assignOwn_same (s : State) (session role region from_ : Nat) (c : Bytes) :
    (assignOwn s session role region from_ c).mode = s.mode ∧ (assignOwn s session role region from_ c).ready = s.ready
    ∧ (assignOwn s session role region from_ c).epochCtr = s.epochCtr
    ∧ (assignOwn s session role region from_ c).vfEnabled = s.vfEnabled ∧ (assignOwn s session role region from_ c).dma = s.dma
    ∧ (assignOwn s session role region from_ c).sec = s.sec ∧ (assignOwn s session role region from_ c).power = s.power
    ∧ (assignOwn s session role region from_ c).tap = s.tap ∧ (assignOwn s session role region from_ c).pins = s.pins
    ∧ (assignOwn s session role region from_ c).px = s.px ∧ (assignOwn s session role region from_ c).sw = s.sw
    ∧ (assignOwn s session role region from_ c).tables = s.tables ∧ (assignOwn s session role region from_ c).fabric = s.fabric
    ∧ (assignOwn s session role region from_ c).qps = s.qps := by
  unfold assignOwn
  have k := newPlaced_same s session role region c
  dsimp only
  split
  · (repeat' split) <;> simp
  · split
    · simp
    · split
      · rename_i s1 x e
        have j := k _ e
        dsimp only at j
        simp [j]
      · simp

@[simp] theorem assignCopy_same (s : State) (m session role region : Nat) :
    ((assignCopy s m session role region)).mode = s.mode ∧ ((assignCopy s m session role region)).ready = s.ready
    ∧ ((assignCopy s m session role region)).epochCtr = s.epochCtr
    ∧ ((assignCopy s m session role region)).vfEnabled = s.vfEnabled ∧ ((assignCopy s m session role region)).dma = s.dma
    ∧ ((assignCopy s m session role region)).sessions = s.sessions ∧ ((assignCopy s m session role region)).cores = s.cores
    ∧ ((assignCopy s m session role region)).sec = s.sec ∧ ((assignCopy s m session role region)).power = s.power
    ∧ ((assignCopy s m session role region)).hbm = s.hbm ∧ ((assignCopy s m session role region)).tap = s.tap
    ∧ ((assignCopy s m session role region)).pins = s.pins ∧ ((assignCopy s m session role region)).px = s.px
    ∧ ((assignCopy s m session role region)).sw = s.sw ∧ ((assignCopy s m session role region)).tables = s.tables
    ∧ ((assignCopy s m session role region)).net = s.net ∧ ((assignCopy s m session role region)).qps = s.qps := by
  unfold assignCopy; simp

@[simp] theorem assignIn_same (h : ClpHdr) (session role region fromFrame : Nat) (config : Bytes) (s : State) :
    ((assignIn h session role region fromFrame config s)).epochCtr = s.epochCtr
    ∧ ((assignIn h session role region fromFrame config s)).vfEnabled = s.vfEnabled
    ∧ ((assignIn h session role region fromFrame config s)).dma = s.dma
    ∧ ((assignIn h session role region fromFrame config s)).sec = s.sec
    ∧ ((assignIn h session role region fromFrame config s)).power = s.power
    ∧ ((assignIn h session role region fromFrame config s)).tap = s.tap
    ∧ ((assignIn h session role region fromFrame config s)).pins = s.pins
    ∧ ((assignIn h session role region fromFrame config s)).px = s.px
    ∧ ((assignIn h session role region fromFrame config s)).sw = s.sw
    ∧ ((assignIn h session role region fromFrame config s)).tables = s.tables := by
  unfold assignIn; simp (disch := first | assumption | (intros; (try dsimp only); (repeat' split) <;> simp [*]; done))

@[simp] theorem expelFrom_same (s : State) (m session : Nat) :
    ((expelFrom s m session)).mode = s.mode ∧ ((expelFrom s m session)).ready = s.ready
    ∧ ((expelFrom s m session)).epochCtr = s.epochCtr ∧ ((expelFrom s m session)).vfEnabled = s.vfEnabled
    ∧ ((expelFrom s m session)).dma = s.dma ∧ ((expelFrom s m session)).sec = s.sec ∧ ((expelFrom s m session)).power = s.power
    ∧ ((expelFrom s m session)).hbm = s.hbm ∧ ((expelFrom s m session)).tap = s.tap ∧ ((expelFrom s m session)).pins = s.pins
    ∧ ((expelFrom s m session)).px = s.px ∧ ((expelFrom s m session)).sw = s.sw ∧ ((expelFrom s m session)).tables = s.tables
    ∧ ((expelFrom s m session)).net = s.net := by
  unfold expelFrom; dsimp only; (repeat' apply And.intro) <;> (first | rfl | simp | (repeat' split) <;> simp)

@[simp] theorem ledgerIn_same (h : ClpHdr) (session form frame budgetCrc_ : Nat) (snapshot : List (Nat × UnitStats)) (s : State) :
    ((ledgerIn h session form frame budgetCrc_ snapshot s)).epochCtr = s.epochCtr
    ∧ ((ledgerIn h session form frame budgetCrc_ snapshot s)).vfEnabled = s.vfEnabled
    ∧ ((ledgerIn h session form frame budgetCrc_ snapshot s)).dma = s.dma
    ∧ ((ledgerIn h session form frame budgetCrc_ snapshot s)).sec = s.sec
    ∧ ((ledgerIn h session form frame budgetCrc_ snapshot s)).power = s.power
    ∧ ((ledgerIn h session form frame budgetCrc_ snapshot s)).tap = s.tap
    ∧ ((ledgerIn h session form frame budgetCrc_ snapshot s)).pins = s.pins
    ∧ ((ledgerIn h session form frame budgetCrc_ snapshot s)).px = s.px
    ∧ ((ledgerIn h session form frame budgetCrc_ snapshot s)).sw = s.sw
    ∧ ((ledgerIn h session form frame budgetCrc_ snapshot s)).tables = s.tables := by
  unfold ledgerIn; simp (disch := first | assumption | (intros; (try dsimp only); (repeat' split) <;> simp [*]; done))

@[simp] theorem loseDivergence_same (s : State) (m : Nat) :
    ((loseDivergence s m)).epochCtr = s.epochCtr ∧ ((loseDivergence s m)).vfEnabled = s.vfEnabled
    ∧ ((loseDivergence s m)).dma = s.dma ∧ ((loseDivergence s m)).sec = s.sec ∧ ((loseDivergence s m)).power = s.power
    ∧ ((loseDivergence s m)).tap = s.tap ∧ ((loseDivergence s m)).pins = s.pins ∧ ((loseDivergence s m)).px = s.px
    ∧ ((loseDivergence s m)).sw = s.sw ∧ ((loseDivergence s m)).tables = s.tables := by
  unfold loseDivergence; simp

@[simp] theorem noMajority_same (s : State) (x : Session) (d : Divergence) :
    ((noMajority s x d)).epochCtr = s.epochCtr ∧ ((noMajority s x d)).vfEnabled = s.vfEnabled ∧ ((noMajority s x d)).dma = s.dma
    ∧ ((noMajority s x d)).sec = s.sec ∧ ((noMajority s x d)).power = s.power ∧ ((noMajority s x d)).tap = s.tap
    ∧ ((noMajority s x d)).pins = s.pins ∧ ((noMajority s x d)).px = s.px ∧ ((noMajority s x d)).sw = s.sw
    ∧ ((noMajority s x d)).tables = s.tables := by
  unfold noMajority; simp

@[simp] theorem dropDivergence_same (s : State) (session frame unit : Nat) :
    ((dropDivergence s session frame unit)).mode = s.mode ∧ ((dropDivergence s session frame unit)).ready = s.ready
    ∧ ((dropDivergence s session frame unit)).epochCtr = s.epochCtr
    ∧ ((dropDivergence s session frame unit)).vfEnabled = s.vfEnabled ∧ ((dropDivergence s session frame unit)).dma = s.dma
    ∧ ((dropDivergence s session frame unit)).cores = s.cores ∧ ((dropDivergence s session frame unit)).sec = s.sec
    ∧ ((dropDivergence s session frame unit)).power = s.power ∧ ((dropDivergence s session frame unit)).hbm = s.hbm
    ∧ ((dropDivergence s session frame unit)).tap = s.tap ∧ ((dropDivergence s session frame unit)).pins = s.pins
    ∧ ((dropDivergence s session frame unit)).px = s.px ∧ ((dropDivergence s session frame unit)).sw = s.sw
    ∧ ((dropDivergence s session frame unit)).tables = s.tables ∧ ((dropDivergence s session frame unit)).net = s.net
    ∧ ((dropDivergence s session frame unit)).fabric = s.fabric ∧ ((dropDivergence s session frame unit)).qps = s.qps := by
  unfold dropDivergence; simp

@[simp] theorem diverge_same (s : State) (x : Session) (frame unit : Nat) (a b : Nat × Option UnitStats) :
    ((diverge s x frame unit a b)).epochCtr = s.epochCtr ∧ ((diverge s x frame unit a b)).vfEnabled = s.vfEnabled
    ∧ ((diverge s x frame unit a b)).dma = s.dma ∧ ((diverge s x frame unit a b)).sec = s.sec
    ∧ ((diverge s x frame unit a b)).power = s.power ∧ ((diverge s x frame unit a b)).tap = s.tap
    ∧ ((diverge s x frame unit a b)).pins = s.pins ∧ ((diverge s x frame unit a b)).px = s.px
    ∧ ((diverge s x frame unit a b)).sw = s.sw ∧ ((diverge s x frame unit a b)).tables = s.tables := by
  unfold diverge; grind [giveRole_same, logFabric_same, distEdit_same, noMajority_same, dropDivergence_same]

@[simp] theorem decideReferee_same (s : State) (x : Session) (d : Divergence) (u : UnitStats) :
    ((decideReferee s x d u)).epochCtr = s.epochCtr ∧ ((decideReferee s x d u)).vfEnabled = s.vfEnabled
    ∧ ((decideReferee s x d u)).dma = s.dma ∧ ((decideReferee s x d u)).sec = s.sec ∧ ((decideReferee s x d u)).power = s.power
    ∧ ((decideReferee s x d u)).tap = s.tap ∧ ((decideReferee s x d u)).pins = s.pins ∧ ((decideReferee s x d u)).px = s.px
    ∧ ((decideReferee s x d u)).sw = s.sw ∧ ((decideReferee s x d u)).tables = s.tables := by
  unfold decideReferee; (repeat' split) <;> simp

@[simp] theorem refereeIn_same (h : ClpHdr) (session frame unit : Nat) (crcs : List (Nat × Nat)) (u : UnitStats) (s : State) :
    ((refereeIn h session frame unit crcs u s)).epochCtr = s.epochCtr
    ∧ ((refereeIn h session frame unit crcs u s)).vfEnabled = s.vfEnabled
    ∧ ((refereeIn h session frame unit crcs u s)).dma = s.dma ∧ ((refereeIn h session frame unit crcs u s)).sec = s.sec
    ∧ ((refereeIn h session frame unit crcs u s)).power = s.power ∧ ((refereeIn h session frame unit crcs u s)).tap = s.tap
    ∧ ((refereeIn h session frame unit crcs u s)).pins = s.pins ∧ ((refereeIn h session frame unit crcs u s)).px = s.px
    ∧ ((refereeIn h session frame unit crcs u s)).sw = s.sw
    ∧ ((refereeIn h session frame unit crcs u s)).tables = s.tables := by
  unfold refereeIn; simp (disch := first | assumption | (intros; (try dsimp only); (repeat' split) <;> simp [*]; done))

@[simp] theorem takeStats_same (s : State) (x : Session) (from_ frame unit : Nat) (u : UnitStats) :
    ((takeStats s x from_ frame unit u)).epochCtr = s.epochCtr ∧ ((takeStats s x from_ frame unit u)).vfEnabled = s.vfEnabled
    ∧ ((takeStats s x from_ frame unit u)).dma = s.dma ∧ ((takeStats s x from_ frame unit u)).sec = s.sec
    ∧ ((takeStats s x from_ frame unit u)).power = s.power ∧ ((takeStats s x from_ frame unit u)).tap = s.tap
    ∧ ((takeStats s x from_ frame unit u)).pins = s.pins ∧ ((takeStats s x from_ frame unit u)).px = s.px
    ∧ ((takeStats s x from_ frame unit u)).sw = s.sw ∧ ((takeStats s x from_ frame unit u)).tables = s.tables := by
  unfold takeStats; dsimp only; (repeat' split) <;> simp

@[simp] theorem answerStats_same (s : State) (x : Session) (dst frame unit : Nat) :
    ((answerStats s x dst frame unit)).mode = s.mode ∧ ((answerStats s x dst frame unit)).ready = s.ready
    ∧ ((answerStats s x dst frame unit)).epochCtr = s.epochCtr ∧ ((answerStats s x dst frame unit)).vfEnabled = s.vfEnabled
    ∧ ((answerStats s x dst frame unit)).dma = s.dma ∧ ((answerStats s x dst frame unit)).sessions = s.sessions
    ∧ ((answerStats s x dst frame unit)).cores = s.cores ∧ ((answerStats s x dst frame unit)).sec = s.sec
    ∧ ((answerStats s x dst frame unit)).power = s.power ∧ ((answerStats s x dst frame unit)).hbm = s.hbm
    ∧ ((answerStats s x dst frame unit)).tap = s.tap ∧ ((answerStats s x dst frame unit)).pins = s.pins
    ∧ ((answerStats s x dst frame unit)).px = s.px ∧ ((answerStats s x dst frame unit)).sw = s.sw
    ∧ ((answerStats s x dst frame unit)).tables = s.tables ∧ ((answerStats s x dst frame unit)).net = s.net
    ∧ ((answerStats s x dst frame unit)).qps = s.qps := by
  unfold answerStats; (repeat' split) <;> simp

@[simp] theorem drainStats_same (s : State) (x : Session) (from_ frame unit : Nat) :
    ((drainStats s x from_ frame unit)).mode = s.mode ∧ ((drainStats s x from_ frame unit)).ready = s.ready
    ∧ ((drainStats s x from_ frame unit)).vfEnabled = s.vfEnabled ∧ ((drainStats s x from_ frame unit)).dma = s.dma
    ∧ ((drainStats s x from_ frame unit)).sec = s.sec ∧ ((drainStats s x from_ frame unit)).power = s.power
    ∧ ((drainStats s x from_ frame unit)).hbm = s.hbm ∧ ((drainStats s x from_ frame unit)).tap = s.tap
    ∧ ((drainStats s x from_ frame unit)).pins = s.pins ∧ ((drainStats s x from_ frame unit)).px = s.px
    ∧ ((drainStats s x from_ frame unit)).sw = s.sw ∧ ((drainStats s x from_ frame unit)).tables = s.tables
    ∧ ((drainStats s x from_ frame unit)).net = s.net := by
  unfold drainStats; (repeat' split) <;> simp

@[simp] theorem statsIn_same (h : ClpHdr) (session frame unit : Nat) (u : UnitStats) (s : State) :
    ((statsIn h session frame unit u s)).vfEnabled = s.vfEnabled ∧ ((statsIn h session frame unit u s)).dma = s.dma
    ∧ ((statsIn h session frame unit u s)).sec = s.sec ∧ ((statsIn h session frame unit u s)).power = s.power
    ∧ ((statsIn h session frame unit u s)).tap = s.tap ∧ ((statsIn h session frame unit u s)).pins = s.pins
    ∧ ((statsIn h session frame unit u s)).px = s.px ∧ ((statsIn h session frame unit u s)).sw = s.sw
    ∧ ((statsIn h session frame unit u s)).tables = s.tables := by
  unfold statsIn; simp (disch := first | assumption | (intros; (try dsimp only); (repeat' split) <;> simp [*]; done))

@[simp] theorem commitIn_same (h : ClpHdr) (session frame received released : Nat) (s : State) :
    ((commitIn h session frame received released s)).epochCtr = s.epochCtr
    ∧ ((commitIn h session frame received released s)).vfEnabled = s.vfEnabled
    ∧ ((commitIn h session frame received released s)).dma = s.dma
    ∧ ((commitIn h session frame received released s)).sec = s.sec
    ∧ ((commitIn h session frame received released s)).power = s.power
    ∧ ((commitIn h session frame received released s)).tap = s.tap
    ∧ ((commitIn h session frame received released s)).pins = s.pins
    ∧ ((commitIn h session frame received released s)).px = s.px ∧ ((commitIn h session frame received released s)).sw = s.sw
    ∧ ((commitIn h session frame received released s)).tables = s.tables := by
  unfold commitIn; simp (disch := first | assumption | (intros; (try dsimp only); (repeat' split) <;> simp [*]; done))

@[simp] theorem seamCheckTake_same (s : State) (x : Session) (from_ frame slice crc : Nat) (refCrc : Option Nat) :
    ((seamCheckTake s x from_ frame slice crc refCrc)).epochCtr = s.epochCtr
    ∧ ((seamCheckTake s x from_ frame slice crc refCrc)).vfEnabled = s.vfEnabled
    ∧ ((seamCheckTake s x from_ frame slice crc refCrc)).dma = s.dma
    ∧ ((seamCheckTake s x from_ frame slice crc refCrc)).sec = s.sec
    ∧ ((seamCheckTake s x from_ frame slice crc refCrc)).power = s.power
    ∧ ((seamCheckTake s x from_ frame slice crc refCrc)).tap = s.tap
    ∧ ((seamCheckTake s x from_ frame slice crc refCrc)).pins = s.pins
    ∧ ((seamCheckTake s x from_ frame slice crc refCrc)).px = s.px
    ∧ ((seamCheckTake s x from_ frame slice crc refCrc)).sw = s.sw
    ∧ ((seamCheckTake s x from_ frame slice crc refCrc)).tables = s.tables := by
  unfold seamCheckTake; dsimp only; (repeat' split) <;> simp

@[simp] theorem seamCheckIn_same (h : ClpHdr) (session frame slice crc : Nat) (refCrc : Option Nat) (s : State) :
    ((seamCheckIn h session frame slice crc refCrc s)).epochCtr = s.epochCtr
    ∧ ((seamCheckIn h session frame slice crc refCrc s)).vfEnabled = s.vfEnabled
    ∧ ((seamCheckIn h session frame slice crc refCrc s)).dma = s.dma
    ∧ ((seamCheckIn h session frame slice crc refCrc s)).sec = s.sec
    ∧ ((seamCheckIn h session frame slice crc refCrc s)).power = s.power
    ∧ ((seamCheckIn h session frame slice crc refCrc s)).tap = s.tap
    ∧ ((seamCheckIn h session frame slice crc refCrc s)).pins = s.pins
    ∧ ((seamCheckIn h session frame slice crc refCrc s)).px = s.px
    ∧ ((seamCheckIn h session frame slice crc refCrc s)).sw = s.sw
    ∧ ((seamCheckIn h session frame slice crc refCrc s)).tables = s.tables := by
  unfold seamCheckIn; simp (disch := first | assumption | (intros; (try dsimp only); (repeat' split) <;> simp [*]; done))

@[simp] theorem sendCommit_same (s : State) (x : Session) (frame : Nat) :
    ((sendCommit s x frame)).mode = s.mode ∧ ((sendCommit s x frame)).ready = s.ready
    ∧ ((sendCommit s x frame)).epochCtr = s.epochCtr ∧ ((sendCommit s x frame)).vfEnabled = s.vfEnabled
    ∧ ((sendCommit s x frame)).dma = s.dma ∧ ((sendCommit s x frame)).cores = s.cores ∧ ((sendCommit s x frame)).sec = s.sec
    ∧ ((sendCommit s x frame)).power = s.power ∧ ((sendCommit s x frame)).hbm = s.hbm ∧ ((sendCommit s x frame)).tap = s.tap
    ∧ ((sendCommit s x frame)).pins = s.pins ∧ ((sendCommit s x frame)).px = s.px ∧ ((sendCommit s x frame)).sw = s.sw
    ∧ ((sendCommit s x frame)).tables = s.tables ∧ ((sendCommit s x frame)).net = s.net
    ∧ ((sendCommit s x frame)).qps = s.qps := by
  unfold sendCommit; (repeat' split) <;> simp

@[simp] theorem takeFragment_same (s : State) (x : Session) (f : SliceFrag) :
    ((takeFragment s x f)).mode = s.mode ∧ ((takeFragment s x f)).ready = s.ready ∧ ((takeFragment s x f)).epochCtr = s.epochCtr
    ∧ ((takeFragment s x f)).vfEnabled = s.vfEnabled ∧ ((takeFragment s x f)).dma = s.dma
    ∧ ((takeFragment s x f)).cores = s.cores ∧ ((takeFragment s x f)).sec = s.sec ∧ ((takeFragment s x f)).power = s.power
    ∧ ((takeFragment s x f)).hbm = s.hbm ∧ ((takeFragment s x f)).tap = s.tap ∧ ((takeFragment s x f)).pins = s.pins
    ∧ ((takeFragment s x f)).px = s.px ∧ ((takeFragment s x f)).sw = s.sw ∧ ((takeFragment s x f)).tables = s.tables
    ∧ ((takeFragment s x f)).net = s.net ∧ ((takeFragment s x f)).qps = s.qps := by
  unfold takeFragment; dsimp only; (repeat' split) <;> simp

@[simp] theorem resendSlice_same (s : State) (x : Session) (f : EncFrame) (slice : Nat) :
    ((resendSlice s x f slice)).mode = s.mode ∧ ((resendSlice s x f slice)).ready = s.ready
    ∧ ((resendSlice s x f slice)).epochCtr = s.epochCtr ∧ ((resendSlice s x f slice)).vfEnabled = s.vfEnabled
    ∧ ((resendSlice s x f slice)).dma = s.dma ∧ ((resendSlice s x f slice)).sessions = s.sessions
    ∧ ((resendSlice s x f slice)).cores = s.cores ∧ ((resendSlice s x f slice)).sec = s.sec
    ∧ ((resendSlice s x f slice)).power = s.power ∧ ((resendSlice s x f slice)).hbm = s.hbm
    ∧ ((resendSlice s x f slice)).tap = s.tap ∧ ((resendSlice s x f slice)).pins = s.pins
    ∧ ((resendSlice s x f slice)).px = s.px ∧ ((resendSlice s x f slice)).sw = s.sw
    ∧ ((resendSlice s x f slice)).tables = s.tables ∧ ((resendSlice s x f slice)).net = s.net
    ∧ ((resendSlice s x f slice)).fabric = s.fabric ∧ ((resendSlice s x f slice)).qps = s.qps := by
  unfold resendSlice; (repeat' split) <;> simp

@[simp] theorem haloIn_same (h : ClpHdr) (session frame band : Nat) (data : Bytes) (s : State) :
    ((haloIn h session frame band data s)).epochCtr = s.epochCtr
    ∧ ((haloIn h session frame band data s)).vfEnabled = s.vfEnabled ∧ ((haloIn h session frame band data s)).dma = s.dma
    ∧ ((haloIn h session frame band data s)).sec = s.sec ∧ ((haloIn h session frame band data s)).power = s.power
    ∧ ((haloIn h session frame band data s)).tap = s.tap ∧ ((haloIn h session frame band data s)).pins = s.pins
    ∧ ((haloIn h session frame band data s)).px = s.px ∧ ((haloIn h session frame band data s)).sw = s.sw
    ∧ ((haloIn h session frame band data s)).tables = s.tables := by
  unfold haloIn; simp (disch := first | assumption | (intros; (try dsimp only); (repeat' split) <;> simp [*]; done))

@[simp] theorem seamIn_same (h : ClpHdr) (session frame band : Nat) (data : Bytes) (s : State) :
    ((seamIn h session frame band data s)).epochCtr = s.epochCtr
    ∧ ((seamIn h session frame band data s)).vfEnabled = s.vfEnabled ∧ ((seamIn h session frame band data s)).dma = s.dma
    ∧ ((seamIn h session frame band data s)).sec = s.sec ∧ ((seamIn h session frame band data s)).power = s.power
    ∧ ((seamIn h session frame band data s)).tap = s.tap ∧ ((seamIn h session frame band data s)).pins = s.pins
    ∧ ((seamIn h session frame band data s)).px = s.px ∧ ((seamIn h session frame band data s)).sw = s.sw
    ∧ ((seamIn h session frame band data s)).tables = s.tables := by
  unfold seamIn; simp (disch := first | assumption | (intros; (try dsimp only); (repeat' split) <;> simp [*]; done))

@[simp] theorem stopRoles_same (s : State) (session : Nat) :
    ((stopRoles s session)).mode = s.mode ∧ ((stopRoles s session)).ready = s.ready
    ∧ ((stopRoles s session)).epochCtr = s.epochCtr ∧ ((stopRoles s session)).vfEnabled = s.vfEnabled
    ∧ ((stopRoles s session)).dma = s.dma ∧ ((stopRoles s session)).sec = s.sec ∧ ((stopRoles s session)).power = s.power
    ∧ ((stopRoles s session)).tap = s.tap ∧ ((stopRoles s session)).pins = s.pins ∧ ((stopRoles s session)).px = s.px
    ∧ ((stopRoles s session)).sw = s.sw ∧ ((stopRoles s session)).tables = s.tables ∧ ((stopRoles s session)).fabric = s.fabric
    ∧ ((stopRoles s session)).qps = s.qps := by
  unfold stopRoles; simp

@[simp] theorem fencedSelf_same (s : State) (reason session : Nat) :
    ((fencedSelf s reason session)).epochCtr = s.epochCtr ∧ ((fencedSelf s reason session)).vfEnabled = s.vfEnabled
    ∧ ((fencedSelf s reason session)).dma = s.dma ∧ ((fencedSelf s reason session)).sec = s.sec
    ∧ ((fencedSelf s reason session)).power = s.power ∧ ((fencedSelf s reason session)).tap = s.tap
    ∧ ((fencedSelf s reason session)).pins = s.pins ∧ ((fencedSelf s reason session)).px = s.px
    ∧ ((fencedSelf s reason session)).sw = s.sw ∧ ((fencedSelf s reason session)).tables = s.tables := by
  unfold fencedSelf; (repeat' split) <;> simp

@[simp] theorem fencedOther_same (s : State) (m session : Nat) :
    ((fencedOther s m session)).mode = s.mode ∧ ((fencedOther s m session)).ready = s.ready
    ∧ ((fencedOther s m session)).epochCtr = s.epochCtr ∧ ((fencedOther s m session)).vfEnabled = s.vfEnabled
    ∧ ((fencedOther s m session)).dma = s.dma ∧ ((fencedOther s m session)).sec = s.sec
    ∧ ((fencedOther s m session)).power = s.power ∧ ((fencedOther s m session)).hbm = s.hbm
    ∧ ((fencedOther s m session)).tap = s.tap ∧ ((fencedOther s m session)).pins = s.pins
    ∧ ((fencedOther s m session)).px = s.px ∧ ((fencedOther s m session)).sw = s.sw
    ∧ ((fencedOther s m session)).tables = s.tables ∧ ((fencedOther s m session)).net = s.net := by
  unfold fencedOther; (repeat' split) <;> simp (disch := first | assumption | (intros; (repeat' split) <;> simp [*]; done))

@[simp] theorem fenceIn_same (h : ClpHdr) (member reason session : Nat) (s : State) :
    ((fenceIn h member reason session s)).epochCtr = s.epochCtr ∧ ((fenceIn h member reason session s)).vfEnabled = s.vfEnabled
    ∧ ((fenceIn h member reason session s)).dma = s.dma ∧ ((fenceIn h member reason session s)).sec = s.sec
    ∧ ((fenceIn h member reason session s)).power = s.power ∧ ((fenceIn h member reason session s)).tap = s.tap
    ∧ ((fenceIn h member reason session s)).pins = s.pins ∧ ((fenceIn h member reason session s)).px = s.px
    ∧ ((fenceIn h member reason session s)).sw = s.sw ∧ ((fenceIn h member reason session s)).tables = s.tables := by
  unfold fenceIn; simp (disch := first | assumption | (intros; (try dsimp only); (repeat' split) <;> simp [*]; done))

@[simp] theorem sendHeld_same (s : State) (x : Session) (region frame first : Nat) :
    ((sendHeld s x region frame first)).mode = s.mode ∧ ((sendHeld s x region frame first)).ready = s.ready
    ∧ ((sendHeld s x region frame first)).epochCtr = s.epochCtr ∧ ((sendHeld s x region frame first)).vfEnabled = s.vfEnabled
    ∧ ((sendHeld s x region frame first)).dma = s.dma ∧ ((sendHeld s x region frame first)).sessions = s.sessions
    ∧ ((sendHeld s x region frame first)).cores = s.cores ∧ ((sendHeld s x region frame first)).sec = s.sec
    ∧ ((sendHeld s x region frame first)).power = s.power ∧ ((sendHeld s x region frame first)).hbm = s.hbm
    ∧ ((sendHeld s x region frame first)).tap = s.tap ∧ ((sendHeld s x region frame first)).pins = s.pins
    ∧ ((sendHeld s x region frame first)).px = s.px ∧ ((sendHeld s x region frame first)).sw = s.sw
    ∧ ((sendHeld s x region frame first)).tables = s.tables ∧ ((sendHeld s x region frame first)).net = s.net
    ∧ ((sendHeld s x region frame first)).fabric = s.fabric ∧ ((sendHeld s x region frame first)).qps = s.qps := by
  unfold sendHeld; simp

@[simp] theorem sendRetained_same (s : State) (x : Session) :
    ((sendRetained s x)).mode = s.mode ∧ ((sendRetained s x)).ready = s.ready ∧ ((sendRetained s x)).epochCtr = s.epochCtr
    ∧ ((sendRetained s x)).vfEnabled = s.vfEnabled ∧ ((sendRetained s x)).dma = s.dma
    ∧ ((sendRetained s x)).sessions = s.sessions ∧ ((sendRetained s x)).cores = s.cores ∧ ((sendRetained s x)).sec = s.sec
    ∧ ((sendRetained s x)).power = s.power ∧ ((sendRetained s x)).hbm = s.hbm ∧ ((sendRetained s x)).tap = s.tap
    ∧ ((sendRetained s x)).pins = s.pins ∧ ((sendRetained s x)).px = s.px ∧ ((sendRetained s x)).sw = s.sw
    ∧ ((sendRetained s x)).tables = s.tables ∧ ((sendRetained s x)).net = s.net ∧ ((sendRetained s x)).fabric = s.fabric
    ∧ ((sendRetained s x)).qps = s.qps := by
  unfold sendRetained; simp

@[simp] theorem promoteHere_same (s : State) (x : Session) (region newMember frame firstSlice : Nat) :
    ((promoteHere s x region newMember frame firstSlice)).mode = s.mode
    ∧ ((promoteHere s x region newMember frame firstSlice)).ready = s.ready
    ∧ ((promoteHere s x region newMember frame firstSlice)).epochCtr = s.epochCtr
    ∧ ((promoteHere s x region newMember frame firstSlice)).vfEnabled = s.vfEnabled
    ∧ ((promoteHere s x region newMember frame firstSlice)).dma = s.dma
    ∧ ((promoteHere s x region newMember frame firstSlice)).cores = s.cores
    ∧ ((promoteHere s x region newMember frame firstSlice)).sec = s.sec
    ∧ ((promoteHere s x region newMember frame firstSlice)).power = s.power
    ∧ ((promoteHere s x region newMember frame firstSlice)).hbm = s.hbm
    ∧ ((promoteHere s x region newMember frame firstSlice)).tap = s.tap
    ∧ ((promoteHere s x region newMember frame firstSlice)).pins = s.pins
    ∧ ((promoteHere s x region newMember frame firstSlice)).px = s.px
    ∧ ((promoteHere s x region newMember frame firstSlice)).sw = s.sw
    ∧ ((promoteHere s x region newMember frame firstSlice)).tables = s.tables
    ∧ ((promoteHere s x region newMember frame firstSlice)).net = s.net
    ∧ ((promoteHere s x region newMember frame firstSlice)).fabric = s.fabric
    ∧ ((promoteHere s x region newMember frame firstSlice)).qps = s.qps := by
  unfold promoteHere; simp

@[simp] theorem promoteIn_same (h : ClpHdr) (session region newMember frame firstSlice : Nat) (s : State) :
    ((promoteIn h session region newMember frame firstSlice s)).epochCtr = s.epochCtr
    ∧ ((promoteIn h session region newMember frame firstSlice s)).vfEnabled = s.vfEnabled
    ∧ ((promoteIn h session region newMember frame firstSlice s)).dma = s.dma
    ∧ ((promoteIn h session region newMember frame firstSlice s)).sec = s.sec
    ∧ ((promoteIn h session region newMember frame firstSlice s)).power = s.power
    ∧ ((promoteIn h session region newMember frame firstSlice s)).tap = s.tap
    ∧ ((promoteIn h session region newMember frame firstSlice s)).pins = s.pins
    ∧ ((promoteIn h session region newMember frame firstSlice s)).px = s.px
    ∧ ((promoteIn h session region newMember frame firstSlice s)).sw = s.sw
    ∧ ((promoteIn h session region newMember frame firstSlice s)).tables = s.tables := by
  unfold promoteIn; simp (disch := first | assumption | (intros; (try dsimp only); (repeat' split) <;> simp [*]; done))

@[simp] theorem runHeld_same (s : State) (i : Instr) :
    ((runHeld s i)).vfEnabled = s.vfEnabled ∧ ((runHeld s i)).dma = s.dma ∧ ((runHeld s i)).sec = s.sec
    ∧ ((runHeld s i)).power = s.power ∧ ((runHeld s i)).tap = s.tap ∧ ((runHeld s i)).pins = s.pins ∧ ((runHeld s i)).px = s.px
    ∧ ((runHeld s i)).sw = s.sw ∧ ((runHeld s i)).tables = s.tables := by
  unfold runHeld; (repeat' split) <;> simp

@[simp] theorem replayHeld_same (s : State) :
    ((replayHeld s)).vfEnabled = s.vfEnabled ∧ ((replayHeld s)).dma = s.dma ∧ ((replayHeld s)).sec = s.sec
    ∧ ((replayHeld s)).power = s.power ∧ ((replayHeld s)).tap = s.tap ∧ ((replayHeld s)).pins = s.pins
    ∧ ((replayHeld s)).px = s.px ∧ ((replayHeld s)).sw = s.sw ∧ ((replayHeld s)).tables = s.tables := by
  unfold replayHeld; simp

@[simp] theorem epochPhase_same (s : State) (phase epoch hash version : Nat) (changes : List (Nat × Nat)) :
    ((epochPhase s phase epoch hash version changes)).vfEnabled = s.vfEnabled
    ∧ ((epochPhase s phase epoch hash version changes)).dma = s.dma
    ∧ ((epochPhase s phase epoch hash version changes)).sec = s.sec
    ∧ ((epochPhase s phase epoch hash version changes)).power = s.power
    ∧ ((epochPhase s phase epoch hash version changes)).tap = s.tap
    ∧ ((epochPhase s phase epoch hash version changes)).pins = s.pins
    ∧ ((epochPhase s phase epoch hash version changes)).px = s.px ∧ ((epochPhase s phase epoch hash version changes)).sw = s.sw
    ∧ ((epochPhase s phase epoch hash version changes)).tables = s.tables := by
  unfold epochPhase; (repeat' split) <;> simp

@[simp] theorem epochAgain_same (s : State) (m : Nat) :
    ((epochAgain s m)).mode = s.mode ∧ ((epochAgain s m)).ready = s.ready ∧ ((epochAgain s m)).epochCtr = s.epochCtr
    ∧ ((epochAgain s m)).vfEnabled = s.vfEnabled ∧ ((epochAgain s m)).dma = s.dma ∧ ((epochAgain s m)).sessions = s.sessions
    ∧ ((epochAgain s m)).cores = s.cores ∧ ((epochAgain s m)).sec = s.sec ∧ ((epochAgain s m)).power = s.power
    ∧ ((epochAgain s m)).hbm = s.hbm ∧ ((epochAgain s m)).tap = s.tap ∧ ((epochAgain s m)).pins = s.pins
    ∧ ((epochAgain s m)).px = s.px ∧ ((epochAgain s m)).sw = s.sw ∧ ((epochAgain s m)).tables = s.tables
    ∧ ((epochAgain s m)).net = s.net ∧ ((epochAgain s m)).qps = s.qps := by
  unfold epochAgain; (repeat' split) <;> simp

@[simp] theorem releaseDecoders_same (s : State) (id pic : Nat) :
    ((releaseDecoders s id pic)).mode = s.mode ∧ ((releaseDecoders s id pic)).ready = s.ready
    ∧ ((releaseDecoders s id pic)).epochCtr = s.epochCtr ∧ ((releaseDecoders s id pic)).vfEnabled = s.vfEnabled
    ∧ ((releaseDecoders s id pic)).dma = s.dma ∧ ((releaseDecoders s id pic)).sessions = s.sessions
    ∧ ((releaseDecoders s id pic)).sec = s.sec ∧ ((releaseDecoders s id pic)).power = s.power
    ∧ ((releaseDecoders s id pic)).hbm = s.hbm ∧ ((releaseDecoders s id pic)).tap = s.tap
    ∧ ((releaseDecoders s id pic)).pins = s.pins ∧ ((releaseDecoders s id pic)).px = s.px
    ∧ ((releaseDecoders s id pic)).sw = s.sw ∧ ((releaseDecoders s id pic)).tables = s.tables
    ∧ ((releaseDecoders s id pic)).net = s.net ∧ ((releaseDecoders s id pic)).fabric = s.fabric
    ∧ ((releaseDecoders s id pic)).qps = s.qps := by
  unfold releaseDecoders; simp

theorem consumeInput_same (n : Nat) (s : State) (fn before consumed : Nat) (l : List (Nat × Nat × Nat)) :
    ((consumeInput n s fn before consumed l).1).mode = s.mode ∧ ((consumeInput n s fn before consumed l).1).ready = s.ready
    ∧ ((consumeInput n s fn before consumed l).1).epochCtr = s.epochCtr
    ∧ ((consumeInput n s fn before consumed l).1).vfEnabled = s.vfEnabled
    ∧ ((consumeInput n s fn before consumed l).1).dma = s.dma ∧ ((consumeInput n s fn before consumed l).1).sec = s.sec
    ∧ ((consumeInput n s fn before consumed l).1).power = s.power ∧ ((consumeInput n s fn before consumed l).1).tap = s.tap
    ∧ ((consumeInput n s fn before consumed l).1).pins = s.pins ∧ ((consumeInput n s fn before consumed l).1).px = s.px
    ∧ ((consumeInput n s fn before consumed l).1).sw = s.sw ∧ ((consumeInput n s fn before consumed l).1).tables = s.tables
    ∧ ((consumeInput n s fn before consumed l).1).net = s.net
    ∧ ((consumeInput n s fn before consumed l).1).fabric = s.fabric := by
  induction l generalizing n s before with
  | nil => unfold consumeInput; simp
  | cons p l ih =>
    unfold consumeInput
    (repeat' split) <;> simp [ih]

@[simp] theorem endDecode_same (s : State) (x : Session) (p : DecPicture) (bits consumed : Nat) (hashBad : Bool) :
    (endDecode s x p bits consumed hashBad).mode = s.mode ∧ (endDecode s x p bits consumed hashBad).ready = s.ready
    ∧ (endDecode s x p bits consumed hashBad).epochCtr = s.epochCtr
    ∧ (endDecode s x p bits consumed hashBad).vfEnabled = s.vfEnabled ∧ (endDecode s x p bits consumed hashBad).dma = s.dma
    ∧ (endDecode s x p bits consumed hashBad).sec = s.sec ∧ (endDecode s x p bits consumed hashBad).power = s.power
    ∧ (endDecode s x p bits consumed hashBad).tap = s.tap ∧ (endDecode s x p bits consumed hashBad).pins = s.pins
    ∧ (endDecode s x p bits consumed hashBad).px = s.px ∧ (endDecode s x p bits consumed hashBad).sw = s.sw
    ∧ (endDecode s x p bits consumed hashBad).tables = s.tables ∧ (endDecode s x p bits consumed hashBad).net = s.net
    ∧ (endDecode s x p bits consumed hashBad).fabric = s.fabric := by
  have h := consumeInput_same 4096 s x.fn (pendingStart x) (min x.dec.stream (max x.dec.consumed consumed)) x.dec.pendingIn
  unfold endDecode
  dsimp only
  split <;> simp [h]

@[simp] theorem refreshWanted_same (s : State) (x : Session) (p : DecPicture) :
    ((refreshWanted s x p).1).mode = s.mode ∧ ((refreshWanted s x p).1).ready = s.ready
    ∧ ((refreshWanted s x p).1).epochCtr = s.epochCtr ∧ ((refreshWanted s x p).1).vfEnabled = s.vfEnabled
    ∧ ((refreshWanted s x p).1).dma = s.dma ∧ ((refreshWanted s x p).1).sessions = s.sessions
    ∧ ((refreshWanted s x p).1).cores = s.cores ∧ ((refreshWanted s x p).1).sec = s.sec
    ∧ ((refreshWanted s x p).1).power = s.power ∧ ((refreshWanted s x p).1).hbm = s.hbm ∧ ((refreshWanted s x p).1).tap = s.tap
    ∧ ((refreshWanted s x p).1).pins = s.pins ∧ ((refreshWanted s x p).1).px = s.px ∧ ((refreshWanted s x p).1).sw = s.sw
    ∧ ((refreshWanted s x p).1).tables = s.tables ∧ ((refreshWanted s x p).1).net = s.net
    ∧ ((refreshWanted s x p).1).fabric = s.fabric ∧ ((refreshWanted s x p).1).qps = s.qps := by
  unfold refreshWanted; grind [logSession_same]

@[simp] theorem closeSending_same (s : State) (port : Nat) :
    ((closeSending s port)).mode = s.mode ∧ ((closeSending s port)).ready = s.ready
    ∧ ((closeSending s port)).epochCtr = s.epochCtr ∧ ((closeSending s port)).vfEnabled = s.vfEnabled
    ∧ ((closeSending s port)).dma = s.dma ∧ ((closeSending s port)).sec = s.sec ∧ ((closeSending s port)).power = s.power
    ∧ ((closeSending s port)).tap = s.tap ∧ ((closeSending s port)).pins = s.pins ∧ ((closeSending s port)).sw = s.sw
    ∧ ((closeSending s port)).tables = s.tables ∧ ((closeSending s port)).net = s.net
    ∧ ((closeSending s port)).fabric = s.fabric := by
  unfold closeSending; (repeat' split) <;> simp

@[simp] theorem startOutput_same (s : State) (x0 : Session) (p0 : DecPicture) :
    ((startOutput s x0 p0)).mode = s.mode ∧ ((startOutput s x0 p0)).ready = s.ready
    ∧ ((startOutput s x0 p0)).epochCtr = s.epochCtr ∧ ((startOutput s x0 p0)).vfEnabled = s.vfEnabled
    ∧ ((startOutput s x0 p0)).dma = s.dma ∧ ((startOutput s x0 p0)).sec = s.sec ∧ ((startOutput s x0 p0)).power = s.power
    ∧ ((startOutput s x0 p0)).tap = s.tap ∧ ((startOutput s x0 p0)).pins = s.pins ∧ ((startOutput s x0 p0)).sw = s.sw
    ∧ ((startOutput s x0 p0)).tables = s.tables ∧ ((startOutput s x0 p0)).net = s.net
    ∧ ((startOutput s x0 p0)).fabric = s.fabric := by
  unfold startOutput; simp

@[simp] theorem settleDegraded_same (s : State) :
    ((settleDegraded s)).mode = s.mode ∧ ((settleDegraded s)).ready = s.ready ∧ ((settleDegraded s)).epochCtr = s.epochCtr
    ∧ ((settleDegraded s)).vfEnabled = s.vfEnabled ∧ ((settleDegraded s)).dma = s.dma
    ∧ ((settleDegraded s)).sessions = s.sessions ∧ ((settleDegraded s)).cores = s.cores ∧ ((settleDegraded s)).sec = s.sec
    ∧ ((settleDegraded s)).power = s.power ∧ ((settleDegraded s)).hbm = s.hbm ∧ ((settleDegraded s)).tap = s.tap
    ∧ ((settleDegraded s)).pins = s.pins ∧ ((settleDegraded s)).px = s.px ∧ ((settleDegraded s)).sw = s.sw
    ∧ ((settleDegraded s)).tables = s.tables ∧ ((settleDegraded s)).net = s.net ∧ ((settleDegraded s)).fabric = s.fabric
    ∧ ((settleDegraded s)).qps = s.qps := by
  unfold settleDegraded; simp

@[simp] theorem hardFault_same (s : State) (bit : Nat) :
    ((hardFault s bit)).mode = s.mode ∧ ((hardFault s bit)).ready = s.ready ∧ ((hardFault s bit)).epochCtr = s.epochCtr
    ∧ ((hardFault s bit)).vfEnabled = s.vfEnabled ∧ ((hardFault s bit)).dma = s.dma ∧ ((hardFault s bit)).sessions = s.sessions
    ∧ ((hardFault s bit)).cores = s.cores ∧ ((hardFault s bit)).sec = s.sec ∧ ((hardFault s bit)).hbm = s.hbm
    ∧ ((hardFault s bit)).tap = s.tap ∧ ((hardFault s bit)).pins = s.pins ∧ ((hardFault s bit)).px = s.px
    ∧ ((hardFault s bit)).sw = s.sw ∧ ((hardFault s bit)).tables = s.tables ∧ ((hardFault s bit)).net = s.net
    ∧ ((hardFault s bit)).fabric = s.fabric ∧ ((hardFault s bit)).qps = s.qps := by
  unfold hardFault; simp

@[simp] theorem gateEgress_same (s : State) :
    ((gateEgress s)).mode = s.mode ∧ ((gateEgress s)).ready = s.ready ∧ ((gateEgress s)).epochCtr = s.epochCtr
    ∧ ((gateEgress s)).vfEnabled = s.vfEnabled ∧ ((gateEgress s)).dma = s.dma ∧ ((gateEgress s)).sessions = s.sessions
    ∧ ((gateEgress s)).cores = s.cores ∧ ((gateEgress s)).sec = s.sec ∧ ((gateEgress s)).hbm = s.hbm
    ∧ ((gateEgress s)).tap = s.tap ∧ ((gateEgress s)).pins = s.pins ∧ ((gateEgress s)).px = s.px ∧ ((gateEgress s)).sw = s.sw
    ∧ ((gateEgress s)).tables = s.tables ∧ ((gateEgress s)).net = s.net ∧ ((gateEgress s)).fabric = s.fabric
    ∧ ((gateEgress s)).qps = s.qps := by
  unfold gateEgress; simp

@[simp] theorem securityFault_same (s : State) :
    ((securityFault s)).mode = s.mode ∧ ((securityFault s)).ready = s.ready ∧ ((securityFault s)).epochCtr = s.epochCtr
    ∧ ((securityFault s)).vfEnabled = s.vfEnabled ∧ ((securityFault s)).dma = s.dma ∧ ((securityFault s)).sec = s.sec
    ∧ ((securityFault s)).power = s.power ∧ ((securityFault s)).hbm = s.hbm ∧ ((securityFault s)).tap = s.tap
    ∧ ((securityFault s)).pins = s.pins ∧ ((securityFault s)).px = s.px ∧ ((securityFault s)).sw = s.sw
    ∧ ((securityFault s)).tables = s.tables ∧ ((securityFault s)).net = s.net := by
  unfold securityFault; simp

@[simp] theorem enterSecError_same (s : State) (mask : BitVec 16) :
    ((enterSecError s mask)).mode = s.mode ∧ ((enterSecError s mask)).ready = s.ready
    ∧ ((enterSecError s mask)).epochCtr = s.epochCtr ∧ ((enterSecError s mask)).vfEnabled = s.vfEnabled
    ∧ ((enterSecError s mask)).dma = s.dma ∧ ((enterSecError s mask)).power = s.power ∧ ((enterSecError s mask)).hbm = s.hbm
    ∧ ((enterSecError s mask)).tap = s.tap ∧ ((enterSecError s mask)).pins = s.pins ∧ ((enterSecError s mask)).px = s.px
    ∧ ((enterSecError s mask)).sw = s.sw ∧ ((enterSecError s mask)).tables = s.tables
    ∧ ((enterSecError s mask)).net = s.net := by
  unfold enterSecError; simp

@[simp] theorem reactTo_same (s : State) (src : FaultSrc) (ev : ErrEvent) (addr : Nat) :
    ((reactTo s src ev addr)).epochCtr = s.epochCtr ∧ ((reactTo s src ev addr)).tap = s.tap
    ∧ ((reactTo s src ev addr)).pins = s.pins ∧ ((reactTo s src ev addr)).px = s.px
    ∧ ((reactTo s src ev addr)).tables = s.tables := by
  unfold reactTo; (repeat' split) <;> simp

@[simp] theorem corePort_same (s : State) (c cls addr : Nat) :
    ((corePort s c cls addr)).mode = s.mode ∧ ((corePort s c cls addr)).ready = s.ready
    ∧ ((corePort s c cls addr)).epochCtr = s.epochCtr ∧ ((corePort s c cls addr)).vfEnabled = s.vfEnabled
    ∧ ((corePort s c cls addr)).dma = s.dma ∧ ((corePort s c cls addr)).sec = s.sec ∧ ((corePort s c cls addr)).power = s.power
    ∧ ((corePort s c cls addr)).hbm = s.hbm ∧ ((corePort s c cls addr)).tap = s.tap ∧ ((corePort s c cls addr)).pins = s.pins
    ∧ ((corePort s c cls addr)).px = s.px ∧ ((corePort s c cls addr)).sw = s.sw ∧ ((corePort s c cls addr)).tables = s.tables
    ∧ ((corePort s c cls addr)).net = s.net := by
  unfold corePort; simp

@[simp] theorem blockPort_same (s : State) (src : FaultSrc) (ev : ErrEvent) (cls addr : Nat) :
    ((blockPort s src ev cls addr)).epochCtr = s.epochCtr ∧ ((blockPort s src ev cls addr)).tap = s.tap
    ∧ ((blockPort s src ev cls addr)).pins = s.pins ∧ ((blockPort s src ev cls addr)).px = s.px
    ∧ ((blockPort s src ev cls addr)).tables = s.tables := by
  unfold blockPort; dsimp only; (repeat' split) <;> simp

@[simp] theorem reassignUnit_same (s : State) (b : BandCmd) (dst start : Nat) :
    ((reassignUnit s b dst start)).mode = s.mode ∧ ((reassignUnit s b dst start)).ready = s.ready
    ∧ ((reassignUnit s b dst start)).epochCtr = s.epochCtr ∧ ((reassignUnit s b dst start)).vfEnabled = s.vfEnabled
    ∧ ((reassignUnit s b dst start)).dma = s.dma ∧ ((reassignUnit s b dst start)).cores = s.cores
    ∧ ((reassignUnit s b dst start)).sec = s.sec ∧ ((reassignUnit s b dst start)).power = s.power
    ∧ ((reassignUnit s b dst start)).hbm = s.hbm ∧ ((reassignUnit s b dst start)).tap = s.tap
    ∧ ((reassignUnit s b dst start)).pins = s.pins ∧ ((reassignUnit s b dst start)).px = s.px
    ∧ ((reassignUnit s b dst start)).sw = s.sw ∧ ((reassignUnit s b dst start)).tables = s.tables
    ∧ ((reassignUnit s b dst start)).net = s.net ∧ ((reassignUnit s b dst start)).qps = s.qps := by
  unfold reassignUnit; (repeat' split) <;> simp

@[simp] theorem pushUnits_same (s : State) (l : List BandCmd) (dst start : Nat) :
    ((pushUnits s l dst start)).mode = s.mode ∧ ((pushUnits s l dst start)).ready = s.ready
    ∧ ((pushUnits s l dst start)).epochCtr = s.epochCtr ∧ ((pushUnits s l dst start)).vfEnabled = s.vfEnabled
    ∧ ((pushUnits s l dst start)).dma = s.dma ∧ ((pushUnits s l dst start)).cores = s.cores
    ∧ ((pushUnits s l dst start)).sec = s.sec ∧ ((pushUnits s l dst start)).power = s.power
    ∧ ((pushUnits s l dst start)).hbm = s.hbm ∧ ((pushUnits s l dst start)).tap = s.tap
    ∧ ((pushUnits s l dst start)).pins = s.pins ∧ ((pushUnits s l dst start)).px = s.px ∧ ((pushUnits s l dst start)).sw = s.sw
    ∧ ((pushUnits s l dst start)).tables = s.tables ∧ ((pushUnits s l dst start)).net = s.net
    ∧ ((pushUnits s l dst start)).qps = s.qps := by
  unfold pushUnits; simp

@[simp] theorem stripCore_same (s : State) (c : Nat) :
    ((stripCore s c)).mode = s.mode ∧ ((stripCore s c)).ready = s.ready ∧ ((stripCore s c)).epochCtr = s.epochCtr
    ∧ ((stripCore s c)).vfEnabled = s.vfEnabled ∧ ((stripCore s c)).dma = s.dma ∧ ((stripCore s c)).sec = s.sec
    ∧ ((stripCore s c)).power = s.power ∧ ((stripCore s c)).hbm = s.hbm ∧ ((stripCore s c)).tap = s.tap
    ∧ ((stripCore s c)).pins = s.pins ∧ ((stripCore s c)).px = s.px ∧ ((stripCore s c)).sw = s.sw
    ∧ ((stripCore s c)).tables = s.tables ∧ ((stripCore s c)).net = s.net ∧ ((stripCore s c)).fabric = s.fabric
    ∧ ((stripCore s c)).qps = s.qps := by
  unfold stripCore; simp

@[simp] theorem handWork_same (s : State) (c dst : Nat) :
    ((handWork s c dst)).mode = s.mode ∧ ((handWork s c dst)).ready = s.ready ∧ ((handWork s c dst)).epochCtr = s.epochCtr
    ∧ ((handWork s c dst)).vfEnabled = s.vfEnabled ∧ ((handWork s c dst)).dma = s.dma ∧ ((handWork s c dst)).sec = s.sec
    ∧ ((handWork s c dst)).hbm = s.hbm ∧ ((handWork s c dst)).tap = s.tap ∧ ((handWork s c dst)).pins = s.pins
    ∧ ((handWork s c dst)).px = s.px ∧ ((handWork s c dst)).sw = s.sw ∧ ((handWork s c dst)).tables = s.tables
    ∧ ((handWork s c dst)).net = s.net ∧ ((handWork s c dst)).qps = s.qps := by
  unfold handWork; simp

@[simp] theorem cannotPlace_same (s : State) (c : Nat) :
    ((cannotPlace s c)).mode = s.mode ∧ ((cannotPlace s c)).ready = s.ready ∧ ((cannotPlace s c)).epochCtr = s.epochCtr
    ∧ ((cannotPlace s c)).vfEnabled = s.vfEnabled ∧ ((cannotPlace s c)).dma = s.dma ∧ ((cannotPlace s c)).sec = s.sec
    ∧ ((cannotPlace s c)).power = s.power ∧ ((cannotPlace s c)).hbm = s.hbm ∧ ((cannotPlace s c)).tap = s.tap
    ∧ ((cannotPlace s c)).pins = s.pins ∧ ((cannotPlace s c)).px = s.px ∧ ((cannotPlace s c)).sw = s.sw
    ∧ ((cannotPlace s c)).tables = s.tables ∧ ((cannotPlace s c)).net = s.net := by
  unfold cannotPlace; simp

@[simp] theorem leaveSurvey_same (s : State) (k : Nat) :
    ((leaveSurvey s k)).mode = s.mode ∧ ((leaveSurvey s k)).ready = s.ready ∧ ((leaveSurvey s k)).epochCtr = s.epochCtr
    ∧ ((leaveSurvey s k)).vfEnabled = s.vfEnabled ∧ ((leaveSurvey s k)).dma = s.dma ∧ ((leaveSurvey s k)).sec = s.sec
    ∧ ((leaveSurvey s k)).power = s.power ∧ ((leaveSurvey s k)).hbm = s.hbm ∧ ((leaveSurvey s k)).tap = s.tap
    ∧ ((leaveSurvey s k)).pins = s.pins ∧ ((leaveSurvey s k)).px = s.px ∧ ((leaveSurvey s k)).sw = s.sw
    ∧ ((leaveSurvey s k)).tables = s.tables ∧ ((leaveSurvey s k)).net = s.net := by
  unfold leaveSurvey; (repeat' split) <;> simp (disch := first | assumption | (intros; (repeat' split) <;> simp [*]; done))

@[simp] theorem stopUnit_same (s : State) (u : FenceUnit) :
    ((stopUnit s u)).mode = s.mode ∧ ((stopUnit s u)).ready = s.ready ∧ ((stopUnit s u)).epochCtr = s.epochCtr
    ∧ ((stopUnit s u)).vfEnabled = s.vfEnabled ∧ ((stopUnit s u)).sec = s.sec ∧ ((stopUnit s u)).power = s.power
    ∧ ((stopUnit s u)).tap = s.tap ∧ ((stopUnit s u)).pins = s.pins ∧ ((stopUnit s u)).tables = s.tables := by
  unfold stopUnit; (repeat' split) <;> simp

@[simp] theorem bistResult_same (s : State) (u : FenceUnit) (pass : Bool) :
    ((bistResult s u pass)).mode = s.mode ∧ ((bistResult s u pass)).ready = s.ready
    ∧ ((bistResult s u pass)).epochCtr = s.epochCtr ∧ ((bistResult s u pass)).vfEnabled = s.vfEnabled
    ∧ ((bistResult s u pass)).dma = s.dma ∧ ((bistResult s u pass)).sessions = s.sessions
    ∧ ((bistResult s u pass)).cores = s.cores ∧ ((bistResult s u pass)).sec = s.sec ∧ ((bistResult s u pass)).power = s.power
    ∧ ((bistResult s u pass)).hbm = s.hbm ∧ ((bistResult s u pass)).tap = s.tap ∧ ((bistResult s u pass)).pins = s.pins
    ∧ ((bistResult s u pass)).px = s.px ∧ ((bistResult s u pass)).sw = s.sw ∧ ((bistResult s u pass)).tables = s.tables
    ∧ ((bistResult s u pass)).net = s.net ∧ ((bistResult s u pass)).fabric = s.fabric
    ∧ ((bistResult s u pass)).qps = s.qps := by
  unfold bistResult; simp

@[simp] theorem reloadCore_same (s : State) (c : Nat) :
    ((reloadCore s c)).mode = s.mode ∧ ((reloadCore s c)).ready = s.ready ∧ ((reloadCore s c)).epochCtr = s.epochCtr
    ∧ ((reloadCore s c)).vfEnabled = s.vfEnabled ∧ ((reloadCore s c)).dma = s.dma ∧ ((reloadCore s c)).sessions = s.sessions
    ∧ ((reloadCore s c)).sec = s.sec ∧ ((reloadCore s c)).power = s.power ∧ ((reloadCore s c)).hbm = s.hbm
    ∧ ((reloadCore s c)).tap = s.tap ∧ ((reloadCore s c)).pins = s.pins ∧ ((reloadCore s c)).px = s.px
    ∧ ((reloadCore s c)).sw = s.sw ∧ ((reloadCore s c)).tables = s.tables ∧ ((reloadCore s c)).net = s.net
    ∧ ((reloadCore s c)).fabric = s.fabric ∧ ((reloadCore s c)).qps = s.qps := by
  unfold reloadCore; simp

@[simp] theorem returnUnit_same (s : State) (u : FenceUnit) :
    ((returnUnit s u)).mode = s.mode ∧ ((returnUnit s u)).ready = s.ready ∧ ((returnUnit s u)).epochCtr = s.epochCtr
    ∧ ((returnUnit s u)).vfEnabled = s.vfEnabled ∧ ((returnUnit s u)).dma = s.dma ∧ ((returnUnit s u)).sessions = s.sessions
    ∧ ((returnUnit s u)).sec = s.sec ∧ ((returnUnit s u)).power = s.power ∧ ((returnUnit s u)).hbm = s.hbm
    ∧ ((returnUnit s u)).tap = s.tap ∧ ((returnUnit s u)).pins = s.pins ∧ ((returnUnit s u)).sw = s.sw
    ∧ ((returnUnit s u)).tables = s.tables ∧ ((returnUnit s u)).fabric = s.fabric ∧ ((returnUnit s u)).qps = s.qps := by
  unfold returnUnit; (repeat' split) <;> simp

@[simp] theorem settleUnit_same (failed : List FenceUnit) (s : State) (u : FenceUnit) :
    ((settleUnit failed s u)).mode = s.mode ∧ ((settleUnit failed s u)).ready = s.ready
    ∧ ((settleUnit failed s u)).epochCtr = s.epochCtr ∧ ((settleUnit failed s u)).vfEnabled = s.vfEnabled
    ∧ ((settleUnit failed s u)).dma = s.dma ∧ ((settleUnit failed s u)).sessions = s.sessions
    ∧ ((settleUnit failed s u)).sec = s.sec ∧ ((settleUnit failed s u)).power = s.power ∧ ((settleUnit failed s u)).hbm = s.hbm
    ∧ ((settleUnit failed s u)).tap = s.tap ∧ ((settleUnit failed s u)).pins = s.pins ∧ ((settleUnit failed s u)).sw = s.sw
    ∧ ((settleUnit failed s u)).tables = s.tables ∧ ((settleUnit failed s u)).fabric = s.fabric
    ∧ ((settleUnit failed s u)).qps = s.qps := by
  unfold settleUnit; simp

@[simp] theorem authSet_same (s : State) (fn : Nat) (a : AuthState) :
    ((authSet s fn a)).mode = s.mode ∧ ((authSet s fn a)).ready = s.ready ∧ ((authSet s fn a)).epochCtr = s.epochCtr
    ∧ ((authSet s fn a)).vfEnabled = s.vfEnabled ∧ ((authSet s fn a)).dma = s.dma ∧ ((authSet s fn a)).sessions = s.sessions
    ∧ ((authSet s fn a)).cores = s.cores ∧ ((authSet s fn a)).sec = s.sec ∧ ((authSet s fn a)).power = s.power
    ∧ ((authSet s fn a)).hbm = s.hbm ∧ ((authSet s fn a)).tap = s.tap ∧ ((authSet s fn a)).pins = s.pins
    ∧ ((authSet s fn a)).px = s.px ∧ ((authSet s fn a)).sw = s.sw ∧ ((authSet s fn a)).tables = s.tables
    ∧ ((authSet s fn a)).net = s.net ∧ ((authSet s fn a)).fabric = s.fabric ∧ ((authSet s fn a)).qps = s.qps := by
  unfold authSet; simp

@[simp] theorem endRole_same (s : State) (fn : Nat) :
    ((endRole s fn)).mode = s.mode ∧ ((endRole s fn)).ready = s.ready ∧ ((endRole s fn)).epochCtr = s.epochCtr
    ∧ ((endRole s fn)).vfEnabled = s.vfEnabled ∧ ((endRole s fn)).dma = s.dma ∧ ((endRole s fn)).sessions = s.sessions
    ∧ ((endRole s fn)).cores = s.cores ∧ ((endRole s fn)).sec = s.sec ∧ ((endRole s fn)).power = s.power
    ∧ ((endRole s fn)).hbm = s.hbm ∧ ((endRole s fn)).tap = s.tap ∧ ((endRole s fn)).pins = s.pins ∧ ((endRole s fn)).px = s.px
    ∧ ((endRole s fn)).sw = s.sw ∧ ((endRole s fn)).tables = s.tables ∧ ((endRole s fn)).net = s.net
    ∧ ((endRole s fn)).fabric = s.fabric ∧ ((endRole s fn)).qps = s.qps := by
  unfold endRole; simp

@[simp] theorem generate_same (s : State) :
    ((generate s)).mode = s.mode ∧ ((generate s)).ready = s.ready ∧ ((generate s)).epochCtr = s.epochCtr
    ∧ ((generate s)).vfEnabled = s.vfEnabled ∧ ((generate s)).dma = s.dma ∧ ((generate s)).sessions = s.sessions
    ∧ ((generate s)).cores = s.cores ∧ ((generate s)).power = s.power ∧ ((generate s)).hbm = s.hbm ∧ ((generate s)).tap = s.tap
    ∧ ((generate s)).pins = s.pins ∧ ((generate s)).px = s.px ∧ ((generate s)).sw = s.sw ∧ ((generate s)).tables = s.tables
    ∧ ((generate s)).net = s.net ∧ ((generate s)).fabric = s.fabric ∧ ((generate s)).qps = s.qps := by
  unfold generate; simp

@[simp] theorem answerResponse_same (s : State) (r : CmdRef) (e d : Bytes) :
    ((answerResponse s r e d)).mode = s.mode ∧ ((answerResponse s r e d)).ready = s.ready
    ∧ ((answerResponse s r e d)).epochCtr = s.epochCtr ∧ ((answerResponse s r e d)).vfEnabled = s.vfEnabled
    ∧ ((answerResponse s r e d)).dma = s.dma ∧ ((answerResponse s r e d)).sessions = s.sessions
    ∧ ((answerResponse s r e d)).cores = s.cores ∧ ((answerResponse s r e d)).sec = s.sec
    ∧ ((answerResponse s r e d)).power = s.power ∧ ((answerResponse s r e d)).hbm = s.hbm
    ∧ ((answerResponse s r e d)).tap = s.tap ∧ ((answerResponse s r e d)).pins = s.pins ∧ ((answerResponse s r e d)).px = s.px
    ∧ ((answerResponse s r e d)).sw = s.sw ∧ ((answerResponse s r e d)).tables = s.tables
    ∧ ((answerResponse s r e d)).net = s.net ∧ ((answerResponse s r e d)).fabric = s.fabric := by
  unfold answerResponse; simp

@[simp] theorem deliverKey_same (s : State) (id : Nat) (key : Bytes) :
    ((deliverKey s id key)).mode = s.mode ∧ ((deliverKey s id key)).ready = s.ready
    ∧ ((deliverKey s id key)).epochCtr = s.epochCtr ∧ ((deliverKey s id key)).vfEnabled = s.vfEnabled
    ∧ ((deliverKey s id key)).dma = s.dma ∧ ((deliverKey s id key)).cores = s.cores ∧ ((deliverKey s id key)).sec = s.sec
    ∧ ((deliverKey s id key)).power = s.power ∧ ((deliverKey s id key)).hbm = s.hbm ∧ ((deliverKey s id key)).tap = s.tap
    ∧ ((deliverKey s id key)).pins = s.pins ∧ ((deliverKey s id key)).px = s.px ∧ ((deliverKey s id key)).sw = s.sw
    ∧ ((deliverKey s id key)).tables = s.tables ∧ ((deliverKey s id key)).net = s.net
    ∧ ((deliverKey s id key)).fabric = s.fabric ∧ ((deliverKey s id key)).qps = s.qps := by
  unfold deliverKey; simp

@[simp] theorem storeKey_same (s : State) (r : CmdRef) (d key : Bytes) :
    ((storeKey s r d key)).mode = s.mode ∧ ((storeKey s r d key)).ready = s.ready ∧ ((storeKey s r d key)).epochCtr = s.epochCtr
    ∧ ((storeKey s r d key)).vfEnabled = s.vfEnabled ∧ ((storeKey s r d key)).dma = s.dma
    ∧ ((storeKey s r d key)).cores = s.cores ∧ ((storeKey s r d key)).power = s.power ∧ ((storeKey s r d key)).hbm = s.hbm
    ∧ ((storeKey s r d key)).tap = s.tap ∧ ((storeKey s r d key)).pins = s.pins ∧ ((storeKey s r d key)).px = s.px
    ∧ ((storeKey s r d key)).sw = s.sw ∧ ((storeKey s r d key)).tables = s.tables ∧ ((storeKey s r d key)).net = s.net
    ∧ ((storeKey s r d key)).fabric = s.fabric := by
  unfold storeKey; simp

@[simp] theorem endRolesOf_same (s : State) (id : Nat) :
    ((endRolesOf s id)).mode = s.mode ∧ ((endRolesOf s id)).ready = s.ready ∧ ((endRolesOf s id)).epochCtr = s.epochCtr
    ∧ ((endRolesOf s id)).vfEnabled = s.vfEnabled ∧ ((endRolesOf s id)).dma = s.dma ∧ ((endRolesOf s id)).sessions = s.sessions
    ∧ ((endRolesOf s id)).cores = s.cores ∧ ((endRolesOf s id)).sec = s.sec ∧ ((endRolesOf s id)).power = s.power
    ∧ ((endRolesOf s id)).hbm = s.hbm ∧ ((endRolesOf s id)).tap = s.tap ∧ ((endRolesOf s id)).pins = s.pins
    ∧ ((endRolesOf s id)).px = s.px ∧ ((endRolesOf s id)).sw = s.sw ∧ ((endRolesOf s id)).tables = s.tables
    ∧ ((endRolesOf s id)).net = s.net ∧ ((endRolesOf s id)).fabric = s.fabric ∧ ((endRolesOf s id)).qps = s.qps := by
  unfold endRolesOf; simp

@[simp] theorem clearSecError_same (s : State) :
    ((clearSecError s)).mode = s.mode ∧ ((clearSecError s)).ready = s.ready ∧ ((clearSecError s)).epochCtr = s.epochCtr
    ∧ ((clearSecError s)).vfEnabled = s.vfEnabled ∧ ((clearSecError s)).dma = s.dma ∧ ((clearSecError s)).sessions = s.sessions
    ∧ ((clearSecError s)).cores = s.cores ∧ ((clearSecError s)).power = s.power ∧ ((clearSecError s)).hbm = s.hbm
    ∧ ((clearSecError s)).tap = s.tap ∧ ((clearSecError s)).pins = s.pins ∧ ((clearSecError s)).px = s.px
    ∧ ((clearSecError s)).sw = s.sw ∧ ((clearSecError s)).tables = s.tables ∧ ((clearSecError s)).net = s.net
    ∧ ((clearSecError s)).fabric = s.fabric ∧ ((clearSecError s)).qps = s.qps := by
  unfold clearSecError; simp

@[simp] theorem activateRow_same (s : State) (p : Nat) (r : HbmPend) :
    ((activateRow s p r)).mode = s.mode ∧ ((activateRow s p r)).ready = s.ready ∧ ((activateRow s p r)).epochCtr = s.epochCtr
    ∧ ((activateRow s p r)).vfEnabled = s.vfEnabled ∧ ((activateRow s p r)).dma = s.dma
    ∧ ((activateRow s p r)).sessions = s.sessions ∧ ((activateRow s p r)).cores = s.cores ∧ ((activateRow s p r)).sec = s.sec
    ∧ ((activateRow s p r)).power = s.power ∧ ((activateRow s p r)).tap = s.tap ∧ ((activateRow s p r)).pins = s.pins
    ∧ ((activateRow s p r)).px = s.px ∧ ((activateRow s p r)).sw = s.sw ∧ ((activateRow s p r)).tables = s.tables
    ∧ ((activateRow s p r)).net = s.net ∧ ((activateRow s p r)).fabric = s.fabric ∧ ((activateRow s p r)).qps = s.qps := by
  unfold activateRow; simp

@[simp] theorem issueReq_same (s : State) (p : Nat) (r : HbmPend) :
    ((issueReq s p r)).mode = s.mode ∧ ((issueReq s p r)).ready = s.ready ∧ ((issueReq s p r)).epochCtr = s.epochCtr
    ∧ ((issueReq s p r)).vfEnabled = s.vfEnabled ∧ ((issueReq s p r)).dma = s.dma ∧ ((issueReq s p r)).sessions = s.sessions
    ∧ ((issueReq s p r)).cores = s.cores ∧ ((issueReq s p r)).sec = s.sec ∧ ((issueReq s p r)).power = s.power
    ∧ ((issueReq s p r)).tap = s.tap ∧ ((issueReq s p r)).pins = s.pins ∧ ((issueReq s p r)).px = s.px
    ∧ ((issueReq s p r)).sw = s.sw ∧ ((issueReq s p r)).tables = s.tables ∧ ((issueReq s p r)).net = s.net
    ∧ ((issueReq s p r)).fabric = s.fabric ∧ ((issueReq s p r)).qps = s.qps := by
  unfold issueReq; simp

@[simp] theorem serveRead_same (s : State) (p : Nat) :
    ((serveRead s p)).mode = s.mode ∧ ((serveRead s p)).ready = s.ready ∧ ((serveRead s p)).epochCtr = s.epochCtr
    ∧ ((serveRead s p)).vfEnabled = s.vfEnabled ∧ ((serveRead s p)).dma = s.dma ∧ ((serveRead s p)).sessions = s.sessions
    ∧ ((serveRead s p)).cores = s.cores ∧ ((serveRead s p)).sec = s.sec ∧ ((serveRead s p)).power = s.power
    ∧ ((serveRead s p)).tap = s.tap ∧ ((serveRead s p)).pins = s.pins ∧ ((serveRead s p)).px = s.px
    ∧ ((serveRead s p)).sw = s.sw ∧ ((serveRead s p)).tables = s.tables ∧ ((serveRead s p)).net = s.net
    ∧ ((serveRead s p)).fabric = s.fabric ∧ ((serveRead s p)).qps = s.qps := by
  unfold serveRead; (repeat' split) <;> simp

@[simp] theorem serveWrite_same (s : State) (p : Nat) (f : HbmPend → Bool) :
    ((serveWrite s p f)).mode = s.mode ∧ ((serveWrite s p f)).ready = s.ready ∧ ((serveWrite s p f)).epochCtr = s.epochCtr
    ∧ ((serveWrite s p f)).vfEnabled = s.vfEnabled ∧ ((serveWrite s p f)).dma = s.dma
    ∧ ((serveWrite s p f)).sessions = s.sessions ∧ ((serveWrite s p f)).cores = s.cores ∧ ((serveWrite s p f)).sec = s.sec
    ∧ ((serveWrite s p f)).power = s.power ∧ ((serveWrite s p f)).tap = s.tap ∧ ((serveWrite s p f)).pins = s.pins
    ∧ ((serveWrite s p f)).px = s.px ∧ ((serveWrite s p f)).sw = s.sw ∧ ((serveWrite s p f)).tables = s.tables
    ∧ ((serveWrite s p f)).net = s.net ∧ ((serveWrite s p f)).fabric = s.fabric ∧ ((serveWrite s p f)).qps = s.qps := by
  unfold serveWrite; (repeat' split) <;> simp

@[simp] theorem drainWrites_same (n : Nat) (s : State) (p stop : Nat) :
    ((drainWrites n s p stop)).mode = s.mode ∧ ((drainWrites n s p stop)).ready = s.ready
    ∧ ((drainWrites n s p stop)).epochCtr = s.epochCtr ∧ ((drainWrites n s p stop)).vfEnabled = s.vfEnabled
    ∧ ((drainWrites n s p stop)).dma = s.dma ∧ ((drainWrites n s p stop)).sessions = s.sessions
    ∧ ((drainWrites n s p stop)).cores = s.cores ∧ ((drainWrites n s p stop)).sec = s.sec
    ∧ ((drainWrites n s p stop)).power = s.power ∧ ((drainWrites n s p stop)).tap = s.tap
    ∧ ((drainWrites n s p stop)).pins = s.pins ∧ ((drainWrites n s p stop)).px = s.px ∧ ((drainWrites n s p stop)).sw = s.sw
    ∧ ((drainWrites n s p stop)).tables = s.tables ∧ ((drainWrites n s p stop)).net = s.net
    ∧ ((drainWrites n s p stop)).fabric = s.fabric ∧ ((drainWrites n s p stop)).qps = s.qps := by
  induction n generalizing s <;> unfold drainWrites <;> (repeat' split) <;> simp [*]

@[simp] theorem serveQueues_same (s : State) (p : Nat) :
    ((serveQueues s p)).mode = s.mode ∧ ((serveQueues s p)).ready = s.ready ∧ ((serveQueues s p)).epochCtr = s.epochCtr
    ∧ ((serveQueues s p)).vfEnabled = s.vfEnabled ∧ ((serveQueues s p)).dma = s.dma ∧ ((serveQueues s p)).sessions = s.sessions
    ∧ ((serveQueues s p)).cores = s.cores ∧ ((serveQueues s p)).sec = s.sec ∧ ((serveQueues s p)).power = s.power
    ∧ ((serveQueues s p)).tap = s.tap ∧ ((serveQueues s p)).pins = s.pins ∧ ((serveQueues s p)).px = s.px
    ∧ ((serveQueues s p)).sw = s.sw ∧ ((serveQueues s p)).tables = s.tables ∧ ((serveQueues s p)).net = s.net
    ∧ ((serveQueues s p)).fabric = s.fabric ∧ ((serveQueues s p)).qps = s.qps := by
  unfold serveQueues; simp

@[simp] theorem serveAll_same (s : State) (p : Nat) :
    ((serveAll s p)).mode = s.mode ∧ ((serveAll s p)).ready = s.ready ∧ ((serveAll s p)).epochCtr = s.epochCtr
    ∧ ((serveAll s p)).vfEnabled = s.vfEnabled ∧ ((serveAll s p)).dma = s.dma ∧ ((serveAll s p)).sessions = s.sessions
    ∧ ((serveAll s p)).cores = s.cores ∧ ((serveAll s p)).sec = s.sec ∧ ((serveAll s p)).power = s.power
    ∧ ((serveAll s p)).tap = s.tap ∧ ((serveAll s p)).pins = s.pins ∧ ((serveAll s p)).px = s.px ∧ ((serveAll s p)).sw = s.sw
    ∧ ((serveAll s p)).tables = s.tables ∧ ((serveAll s p)).net = s.net ∧ ((serveAll s p)).fabric = s.fabric
    ∧ ((serveAll s p)).qps = s.qps := by
  unfold serveAll; simp

@[simp] theorem touchStack_same (s : State) (k : Nat) :
    ((touchStack s k)).mode = s.mode ∧ ((touchStack s k)).ready = s.ready ∧ ((touchStack s k)).epochCtr = s.epochCtr
    ∧ ((touchStack s k)).vfEnabled = s.vfEnabled ∧ ((touchStack s k)).dma = s.dma ∧ ((touchStack s k)).sessions = s.sessions
    ∧ ((touchStack s k)).cores = s.cores ∧ ((touchStack s k)).sec = s.sec ∧ ((touchStack s k)).hbm = s.hbm
    ∧ ((touchStack s k)).tap = s.tap ∧ ((touchStack s k)).pins = s.pins ∧ ((touchStack s k)).px = s.px
    ∧ ((touchStack s k)).sw = s.sw ∧ ((touchStack s k)).tables = s.tables ∧ ((touchStack s k)).net = s.net
    ∧ ((touchStack s k)).fabric = s.fabric ∧ ((touchStack s k)).qps = s.qps := by
  unfold touchStack; simp

@[simp] theorem acceptReq_same (s : State) (q : HbmReq) :
    ((acceptReq s q)).mode = s.mode ∧ ((acceptReq s q)).ready = s.ready ∧ ((acceptReq s q)).epochCtr = s.epochCtr
    ∧ ((acceptReq s q)).vfEnabled = s.vfEnabled ∧ ((acceptReq s q)).dma = s.dma ∧ ((acceptReq s q)).sessions = s.sessions
    ∧ ((acceptReq s q)).cores = s.cores ∧ ((acceptReq s q)).sec = s.sec ∧ ((acceptReq s q)).power = s.power
    ∧ ((acceptReq s q)).tap = s.tap ∧ ((acceptReq s q)).pins = s.pins ∧ ((acceptReq s q)).px = s.px
    ∧ ((acceptReq s q)).sw = s.sw ∧ ((acceptReq s q)).tables = s.tables ∧ ((acceptReq s q)).net = s.net
    ∧ ((acceptReq s q)).fabric = s.fabric ∧ ((acceptReq s q)).qps = s.qps := by
  unfold acceptReq; simp

@[simp] theorem logFlash_same (s : State) (bit arg1 : Nat) :
    ((logFlash s bit arg1)).mode = s.mode ∧ ((logFlash s bit arg1)).ready = s.ready
    ∧ ((logFlash s bit arg1)).epochCtr = s.epochCtr ∧ ((logFlash s bit arg1)).vfEnabled = s.vfEnabled
    ∧ ((logFlash s bit arg1)).dma = s.dma ∧ ((logFlash s bit arg1)).sessions = s.sessions
    ∧ ((logFlash s bit arg1)).cores = s.cores ∧ ((logFlash s bit arg1)).sec = s.sec ∧ ((logFlash s bit arg1)).power = s.power
    ∧ ((logFlash s bit arg1)).hbm = s.hbm ∧ ((logFlash s bit arg1)).tap = s.tap ∧ ((logFlash s bit arg1)).pins = s.pins
    ∧ ((logFlash s bit arg1)).px = s.px ∧ ((logFlash s bit arg1)).sw = s.sw ∧ ((logFlash s bit arg1)).tables = s.tables
    ∧ ((logFlash s bit arg1)).net = s.net ∧ ((logFlash s bit arg1)).fabric = s.fabric
    ∧ ((logFlash s bit arg1)).qps = s.qps := by
  unfold logFlash; dsimp only; (repeat' split) <;> simp

@[simp] theorem noteRow_same (s : State) (a : Nat) (hard : Bool) :
    ((noteRow s a hard)).mode = s.mode ∧ ((noteRow s a hard)).ready = s.ready ∧ ((noteRow s a hard)).epochCtr = s.epochCtr
    ∧ ((noteRow s a hard)).vfEnabled = s.vfEnabled ∧ ((noteRow s a hard)).dma = s.dma
    ∧ ((noteRow s a hard)).sessions = s.sessions ∧ ((noteRow s a hard)).cores = s.cores ∧ ((noteRow s a hard)).sec = s.sec
    ∧ ((noteRow s a hard)).power = s.power ∧ ((noteRow s a hard)).hbm = s.hbm ∧ ((noteRow s a hard)).tap = s.tap
    ∧ ((noteRow s a hard)).pins = s.pins ∧ ((noteRow s a hard)).px = s.px ∧ ((noteRow s a hard)).sw = s.sw
    ∧ ((noteRow s a hard)).tables = s.tables ∧ ((noteRow s a hard)).net = s.net ∧ ((noteRow s a hard)).fabric = s.fabric
    ∧ ((noteRow s a hard)).qps = s.qps := by
  unfold noteRow; simp

@[simp] theorem correctedRead_same (s : State) (a : Nat) :
    ((correctedRead s a)).mode = s.mode ∧ ((correctedRead s a)).ready = s.ready ∧ ((correctedRead s a)).epochCtr = s.epochCtr
    ∧ ((correctedRead s a)).vfEnabled = s.vfEnabled ∧ ((correctedRead s a)).dma = s.dma
    ∧ ((correctedRead s a)).sessions = s.sessions ∧ ((correctedRead s a)).cores = s.cores ∧ ((correctedRead s a)).sec = s.sec
    ∧ ((correctedRead s a)).power = s.power ∧ ((correctedRead s a)).tap = s.tap ∧ ((correctedRead s a)).pins = s.pins
    ∧ ((correctedRead s a)).px = s.px ∧ ((correctedRead s a)).sw = s.sw ∧ ((correctedRead s a)).tables = s.tables
    ∧ ((correctedRead s a)).net = s.net ∧ ((correctedRead s a)).fabric = s.fabric ∧ ((correctedRead s a)).qps = s.qps := by
  unfold correctedRead; simp

@[simp] theorem failedRead_same (s : State) (a : Nat) (replaced : Bool) :
    ((failedRead s a replaced)).mode = s.mode ∧ ((failedRead s a replaced)).ready = s.ready
    ∧ ((failedRead s a replaced)).epochCtr = s.epochCtr ∧ ((failedRead s a replaced)).vfEnabled = s.vfEnabled
    ∧ ((failedRead s a replaced)).dma = s.dma ∧ ((failedRead s a replaced)).sessions = s.sessions
    ∧ ((failedRead s a replaced)).cores = s.cores ∧ ((failedRead s a replaced)).sec = s.sec
    ∧ ((failedRead s a replaced)).power = s.power ∧ ((failedRead s a replaced)).tap = s.tap
    ∧ ((failedRead s a replaced)).pins = s.pins ∧ ((failedRead s a replaced)).px = s.px ∧ ((failedRead s a replaced)).sw = s.sw
    ∧ ((failedRead s a replaced)).tables = s.tables ∧ ((failedRead s a replaced)).net = s.net
    ∧ ((failedRead s a replaced)).fabric = s.fabric ∧ ((failedRead s a replaced)).qps = s.qps := by
  unfold failedRead; simp

@[simp] theorem settleRetrain_same (s : State) (pc : Nat) (ok : Bool) :
    ((settleRetrain s pc ok)).mode = s.mode ∧ ((settleRetrain s pc ok)).ready = s.ready
    ∧ ((settleRetrain s pc ok)).epochCtr = s.epochCtr ∧ ((settleRetrain s pc ok)).vfEnabled = s.vfEnabled
    ∧ ((settleRetrain s pc ok)).dma = s.dma ∧ ((settleRetrain s pc ok)).sessions = s.sessions
    ∧ ((settleRetrain s pc ok)).cores = s.cores ∧ ((settleRetrain s pc ok)).sec = s.sec
    ∧ ((settleRetrain s pc ok)).power = s.power ∧ ((settleRetrain s pc ok)).tap = s.tap
    ∧ ((settleRetrain s pc ok)).pins = s.pins ∧ ((settleRetrain s pc ok)).px = s.px ∧ ((settleRetrain s pc ok)).sw = s.sw
    ∧ ((settleRetrain s pc ok)).tables = s.tables ∧ ((settleRetrain s pc ok)).net = s.net
    ∧ ((settleRetrain s pc ok)).fabric = s.fabric ∧ ((settleRetrain s pc ok)).qps = s.qps := by
  unfold settleRetrain; simp

@[simp] theorem sramError_same (s : State) (array index word : Nat) :
    ((sramError s array index word)).epochCtr = s.epochCtr ∧ ((sramError s array index word)).tap = s.tap
    ∧ ((sramError s array index word)).pins = s.pins ∧ ((sramError s array index word)).px = s.px := by
  unfold sramError; grind [corePort_same, blockPort_same]

@[simp] theorem slotPut_same (s : State) (n : Nat) (x : SlotState) :
    ((slotPut s n x)).mode = s.mode ∧ ((slotPut s n x)).ready = s.ready ∧ ((slotPut s n x)).epochCtr = s.epochCtr
    ∧ ((slotPut s n x)).vfEnabled = s.vfEnabled ∧ ((slotPut s n x)).dma = s.dma ∧ ((slotPut s n x)).sessions = s.sessions
    ∧ ((slotPut s n x)).cores = s.cores ∧ ((slotPut s n x)).sec = s.sec ∧ ((slotPut s n x)).power = s.power
    ∧ ((slotPut s n x)).hbm = s.hbm ∧ ((slotPut s n x)).tap = s.tap ∧ ((slotPut s n x)).pins = s.pins
    ∧ ((slotPut s n x)).px = s.px ∧ ((slotPut s n x)).sw = s.sw ∧ ((slotPut s n x)).tables = s.tables
    ∧ ((slotPut s n x)).net = s.net ∧ ((slotPut s n x)).fabric = s.fabric ∧ ((slotPut s n x)).qps = s.qps := by
  unfold slotPut; simp

@[simp] theorem stageTo_same (s : State) (x : StageState) :
    ((stageTo s x)).mode = s.mode ∧ ((stageTo s x)).ready = s.ready ∧ ((stageTo s x)).epochCtr = s.epochCtr
    ∧ ((stageTo s x)).vfEnabled = s.vfEnabled ∧ ((stageTo s x)).dma = s.dma ∧ ((stageTo s x)).sessions = s.sessions
    ∧ ((stageTo s x)).cores = s.cores ∧ ((stageTo s x)).sec = s.sec ∧ ((stageTo s x)).power = s.power
    ∧ ((stageTo s x)).hbm = s.hbm ∧ ((stageTo s x)).tap = s.tap ∧ ((stageTo s x)).pins = s.pins ∧ ((stageTo s x)).px = s.px
    ∧ ((stageTo s x)).sw = s.sw ∧ ((stageTo s x)).tables = s.tables ∧ ((stageTo s x)).net = s.net
    ∧ ((stageTo s x)).fabric = s.fabric ∧ ((stageTo s x)).qps = s.qps := by
  unfold stageTo; simp

@[simp] theorem openStaging_same (s : State) (owner len : Nat) :
    ((openStaging s owner len)).mode = s.mode ∧ ((openStaging s owner len)).ready = s.ready
    ∧ ((openStaging s owner len)).epochCtr = s.epochCtr ∧ ((openStaging s owner len)).vfEnabled = s.vfEnabled
    ∧ ((openStaging s owner len)).dma = s.dma ∧ ((openStaging s owner len)).sessions = s.sessions
    ∧ ((openStaging s owner len)).cores = s.cores ∧ ((openStaging s owner len)).sec = s.sec
    ∧ ((openStaging s owner len)).power = s.power ∧ ((openStaging s owner len)).hbm = s.hbm
    ∧ ((openStaging s owner len)).tap = s.tap ∧ ((openStaging s owner len)).pins = s.pins
    ∧ ((openStaging s owner len)).px = s.px ∧ ((openStaging s owner len)).sw = s.sw
    ∧ ((openStaging s owner len)).tables = s.tables ∧ ((openStaging s owner len)).net = s.net
    ∧ ((openStaging s owner len)).fabric = s.fabric ∧ ((openStaging s owner len)).qps = s.qps := by
  unfold openStaging; simp

@[simp] theorem markVerified_same (s : State) (i : ImageFacts) :
    ((markVerified s i)).mode = s.mode ∧ ((markVerified s i)).ready = s.ready ∧ ((markVerified s i)).epochCtr = s.epochCtr
    ∧ ((markVerified s i)).vfEnabled = s.vfEnabled ∧ ((markVerified s i)).dma = s.dma
    ∧ ((markVerified s i)).sessions = s.sessions ∧ ((markVerified s i)).cores = s.cores ∧ ((markVerified s i)).sec = s.sec
    ∧ ((markVerified s i)).power = s.power ∧ ((markVerified s i)).hbm = s.hbm ∧ ((markVerified s i)).tap = s.tap
    ∧ ((markVerified s i)).pins = s.pins ∧ ((markVerified s i)).px = s.px ∧ ((markVerified s i)).sw = s.sw
    ∧ ((markVerified s i)).tables = s.tables ∧ ((markVerified s i)).net = s.net ∧ ((markVerified s i)).fabric = s.fabric
    ∧ ((markVerified s i)).qps = s.qps := by
  unfold markVerified; simp

@[simp] theorem activateStaged_same (s : State) :
    ((activateStaged s)).mode = s.mode ∧ ((activateStaged s)).ready = s.ready ∧ ((activateStaged s)).epochCtr = s.epochCtr
    ∧ ((activateStaged s)).vfEnabled = s.vfEnabled ∧ ((activateStaged s)).dma = s.dma
    ∧ ((activateStaged s)).sessions = s.sessions ∧ ((activateStaged s)).cores = s.cores ∧ ((activateStaged s)).sec = s.sec
    ∧ ((activateStaged s)).power = s.power ∧ ((activateStaged s)).hbm = s.hbm ∧ ((activateStaged s)).tap = s.tap
    ∧ ((activateStaged s)).pins = s.pins ∧ ((activateStaged s)).px = s.px ∧ ((activateStaged s)).sw = s.sw
    ∧ ((activateStaged s)).tables = s.tables ∧ ((activateStaged s)).net = s.net ∧ ((activateStaged s)).fabric = s.fabric
    ∧ ((activateStaged s)).qps = s.qps := by
  unfold activateStaged; simp

@[simp] theorem commitTrial_same (s : State) (raise : Bool) :
    ((commitTrial s raise)).mode = s.mode ∧ ((commitTrial s raise)).ready = s.ready
    ∧ ((commitTrial s raise)).epochCtr = s.epochCtr ∧ ((commitTrial s raise)).vfEnabled = s.vfEnabled
    ∧ ((commitTrial s raise)).dma = s.dma ∧ ((commitTrial s raise)).sessions = s.sessions
    ∧ ((commitTrial s raise)).cores = s.cores ∧ ((commitTrial s raise)).power = s.power ∧ ((commitTrial s raise)).hbm = s.hbm
    ∧ ((commitTrial s raise)).tap = s.tap ∧ ((commitTrial s raise)).pins = s.pins ∧ ((commitTrial s raise)).px = s.px
    ∧ ((commitTrial s raise)).sw = s.sw ∧ ((commitTrial s raise)).tables = s.tables ∧ ((commitTrial s raise)).net = s.net
    ∧ ((commitTrial s raise)).fabric = s.fabric ∧ ((commitTrial s raise)).qps = s.qps := by
  unfold commitTrial; simp

@[simp] theorem abortStaging_same (s : State) :
    ((abortStaging s)).mode = s.mode ∧ ((abortStaging s)).ready = s.ready ∧ ((abortStaging s)).epochCtr = s.epochCtr
    ∧ ((abortStaging s)).vfEnabled = s.vfEnabled ∧ ((abortStaging s)).dma = s.dma ∧ ((abortStaging s)).sessions = s.sessions
    ∧ ((abortStaging s)).cores = s.cores ∧ ((abortStaging s)).sec = s.sec ∧ ((abortStaging s)).power = s.power
    ∧ ((abortStaging s)).hbm = s.hbm ∧ ((abortStaging s)).tap = s.tap ∧ ((abortStaging s)).pins = s.pins
    ∧ ((abortStaging s)).px = s.px ∧ ((abortStaging s)).sw = s.sw ∧ ((abortStaging s)).tables = s.tables
    ∧ ((abortStaging s)).net = s.net ∧ ((abortStaging s)).fabric = s.fabric ∧ ((abortStaging s)).qps = s.qps := by
  unfold abortStaging; (repeat' split) <;> simp

@[simp] theorem answerSide_same (s : State) (fields : List Nat) :
    ((answerSide s fields)).mode = s.mode ∧ ((answerSide s fields)).ready = s.ready
    ∧ ((answerSide s fields)).epochCtr = s.epochCtr ∧ ((answerSide s fields)).vfEnabled = s.vfEnabled
    ∧ ((answerSide s fields)).dma = s.dma ∧ ((answerSide s fields)).sessions = s.sessions
    ∧ ((answerSide s fields)).cores = s.cores ∧ ((answerSide s fields)).sec = s.sec ∧ ((answerSide s fields)).power = s.power
    ∧ ((answerSide s fields)).hbm = s.hbm ∧ ((answerSide s fields)).tap = s.tap ∧ ((answerSide s fields)).pins = s.pins
    ∧ ((answerSide s fields)).px = s.px ∧ ((answerSide s fields)).sw = s.sw ∧ ((answerSide s fields)).tables = s.tables
    ∧ ((answerSide s fields)).net = s.net ∧ ((answerSide s fields)).fabric = s.fabric
    ∧ ((answerSide s fields)).qps = s.qps := by
  unfold answerSide; simp

@[simp] theorem freeWords_same (s : State) (n : Nat) :
    ((freeWords s n).2).mode = s.mode ∧ ((freeWords s n).2).ready = s.ready ∧ ((freeWords s n).2).epochCtr = s.epochCtr
    ∧ ((freeWords s n).2).vfEnabled = s.vfEnabled ∧ ((freeWords s n).2).dma = s.dma ∧ ((freeWords s n).2).sessions = s.sessions
    ∧ ((freeWords s n).2).cores = s.cores ∧ ((freeWords s n).2).sec = s.sec ∧ ((freeWords s n).2).power = s.power
    ∧ ((freeWords s n).2).hbm = s.hbm ∧ ((freeWords s n).2).tap = s.tap ∧ ((freeWords s n).2).pins = s.pins
    ∧ ((freeWords s n).2).px = s.px ∧ ((freeWords s n).2).sw = s.sw ∧ ((freeWords s n).2).tables = s.tables
    ∧ ((freeWords s n).2).net = s.net ∧ ((freeWords s n).2).fabric = s.fabric ∧ ((freeWords s n).2).qps = s.qps := by
  unfold freeWords; simp

@[simp] theorem countCores_same (s : State) :
    ((countCores s)).mode = s.mode ∧ ((countCores s)).ready = s.ready ∧ ((countCores s)).epochCtr = s.epochCtr
    ∧ ((countCores s)).vfEnabled = s.vfEnabled ∧ ((countCores s)).dma = s.dma ∧ ((countCores s)).sessions = s.sessions
    ∧ ((countCores s)).sec = s.sec ∧ ((countCores s)).power = s.power ∧ ((countCores s)).hbm = s.hbm
    ∧ ((countCores s)).tap = s.tap ∧ ((countCores s)).pins = s.pins ∧ ((countCores s)).px = s.px ∧ ((countCores s)).sw = s.sw
    ∧ ((countCores s)).tables = s.tables ∧ ((countCores s)).net = s.net ∧ ((countCores s)).fabric = s.fabric
    ∧ ((countCores s)).qps = s.qps := by
  unfold countCores
  exact ⟨foldl_mode _ (fun s c => by have h := freeWords_same s 4; (repeat' split) <;> simp_all) _ _, foldl_ready _ (fun s c => by have h := freeWords_same s 4; (repeat' split) <;> simp_all) _ _, foldl_epochCtr _ (fun s c => by have h := freeWords_same s 4; (repeat' split) <;> simp_all) _ _, foldl_vfEnabled _ (fun s c => by have h := freeWords_same s 4; (repeat' split) <;> simp_all) _ _, foldl_dma _ (fun s c => by have h := freeWords_same s 4; (repeat' split) <;> simp_all) _ _, foldl_sessions _ (fun s c => by have h := freeWords_same s 4; (repeat' split) <;> simp_all) _ _, foldl_sec _ (fun s c => by have h := freeWords_same s 4; (repeat' split) <;> simp_all) _ _, foldl_power _ (fun s c => by have h := freeWords_same s 4; (repeat' split) <;> simp_all) _ _, foldl_hbm _ (fun s c => by have h := freeWords_same s 4; (repeat' split) <;> simp_all) _ _, foldl_tap _ (fun s c => by have h := freeWords_same s 4; (repeat' split) <;> simp_all) _ _, foldl_pins _ (fun s c => by have h := freeWords_same s 4; (repeat' split) <;> simp_all) _ _, foldl_px _ (fun s c => by have h := freeWords_same s 4; (repeat' split) <;> simp_all) _ _, foldl_sw _ (fun s c => by have h := freeWords_same s 4; (repeat' split) <;> simp_all) _ _, foldl_tables _ (fun s c => by have h := freeWords_same s 4; (repeat' split) <;> simp_all) _ _, foldl_net _ (fun s c => by have h := freeWords_same s 4; (repeat' split) <;> simp_all) _ _, foldl_fabric _ (fun s c => by have h := freeWords_same s 4; (repeat' split) <;> simp_all) _ _, foldl_qps _ (fun s c => by have h := freeWords_same s 4; (repeat' split) <;> simp_all) _ _⟩

@[simp] theorem runSweep_same (s : State) (sensors : List Int) :
    ((runSweep s sensors)).mode = s.mode ∧ ((runSweep s sensors)).ready = s.ready ∧ ((runSweep s sensors)).epochCtr = s.epochCtr
    ∧ ((runSweep s sensors)).vfEnabled = s.vfEnabled ∧ ((runSweep s sensors)).dma = s.dma
    ∧ ((runSweep s sensors)).sessions = s.sessions ∧ ((runSweep s sensors)).sec = s.sec ∧ ((runSweep s sensors)).power = s.power
    ∧ ((runSweep s sensors)).hbm = s.hbm ∧ ((runSweep s sensors)).tap = s.tap ∧ ((runSweep s sensors)).pins = s.pins
    ∧ ((runSweep s sensors)).px = s.px ∧ ((runSweep s sensors)).sw = s.sw ∧ ((runSweep s sensors)).tables = s.tables
    ∧ ((runSweep s sensors)).net = s.net ∧ ((runSweep s sensors)).fabric = s.fabric ∧ ((runSweep s sensors)).qps = s.qps := by
  unfold runSweep; simp

@[simp] theorem telemetryBytes_same (s : State) (fn mask : Nat) :
    ((telemetryBytes s fn mask).2).mode = s.mode ∧ ((telemetryBytes s fn mask).2).ready = s.ready
    ∧ ((telemetryBytes s fn mask).2).epochCtr = s.epochCtr ∧ ((telemetryBytes s fn mask).2).vfEnabled = s.vfEnabled
    ∧ ((telemetryBytes s fn mask).2).dma = s.dma ∧ ((telemetryBytes s fn mask).2).sessions = s.sessions
    ∧ ((telemetryBytes s fn mask).2).cores = s.cores ∧ ((telemetryBytes s fn mask).2).sec = s.sec
    ∧ ((telemetryBytes s fn mask).2).power = s.power ∧ ((telemetryBytes s fn mask).2).hbm = s.hbm
    ∧ ((telemetryBytes s fn mask).2).tap = s.tap ∧ ((telemetryBytes s fn mask).2).pins = s.pins
    ∧ ((telemetryBytes s fn mask).2).px = s.px ∧ ((telemetryBytes s fn mask).2).sw = s.sw
    ∧ ((telemetryBytes s fn mask).2).tables = s.tables ∧ ((telemetryBytes s fn mask).2).net = s.net
    ∧ ((telemetryBytes s fn mask).2).fabric = s.fabric ∧ ((telemetryBytes s fn mask).2).qps = s.qps := by
  unfold telemetryBytes; (repeat' split) <;> simp

@[simp] theorem advanceBlock_same (n : Nat) (s : State) (eraseOk : Bool) :
    ((advanceBlock n s eraseOk)).mode = s.mode ∧ ((advanceBlock n s eraseOk)).ready = s.ready
    ∧ ((advanceBlock n s eraseOk)).epochCtr = s.epochCtr ∧ ((advanceBlock n s eraseOk)).vfEnabled = s.vfEnabled
    ∧ ((advanceBlock n s eraseOk)).dma = s.dma ∧ ((advanceBlock n s eraseOk)).sessions = s.sessions
    ∧ ((advanceBlock n s eraseOk)).cores = s.cores ∧ ((advanceBlock n s eraseOk)).sec = s.sec
    ∧ ((advanceBlock n s eraseOk)).power = s.power ∧ ((advanceBlock n s eraseOk)).hbm = s.hbm
    ∧ ((advanceBlock n s eraseOk)).tap = s.tap ∧ ((advanceBlock n s eraseOk)).pins = s.pins
    ∧ ((advanceBlock n s eraseOk)).px = s.px ∧ ((advanceBlock n s eraseOk)).sw = s.sw
    ∧ ((advanceBlock n s eraseOk)).tables = s.tables ∧ ((advanceBlock n s eraseOk)).net = s.net
    ∧ ((advanceBlock n s eraseOk)).fabric = s.fabric ∧ ((advanceBlock n s eraseOk)).qps = s.qps := by
  induction n generalizing s eraseOk with
  | zero => simp [advanceBlock]
  | succ k ih => unfold advanceBlock; dsimp only; split <;> simp [ih]

@[simp] theorem writeFlash_same (eraseOk : Bool) (s : State) (r : EventRec) :
    ((writeFlash eraseOk s r)).mode = s.mode ∧ ((writeFlash eraseOk s r)).ready = s.ready
    ∧ ((writeFlash eraseOk s r)).epochCtr = s.epochCtr ∧ ((writeFlash eraseOk s r)).vfEnabled = s.vfEnabled
    ∧ ((writeFlash eraseOk s r)).dma = s.dma ∧ ((writeFlash eraseOk s r)).sessions = s.sessions
    ∧ ((writeFlash eraseOk s r)).cores = s.cores ∧ ((writeFlash eraseOk s r)).sec = s.sec
    ∧ ((writeFlash eraseOk s r)).power = s.power ∧ ((writeFlash eraseOk s r)).hbm = s.hbm
    ∧ ((writeFlash eraseOk s r)).tap = s.tap ∧ ((writeFlash eraseOk s r)).pins = s.pins ∧ ((writeFlash eraseOk s r)).px = s.px
    ∧ ((writeFlash eraseOk s r)).sw = s.sw ∧ ((writeFlash eraseOk s r)).tables = s.tables
    ∧ ((writeFlash eraseOk s r)).net = s.net ∧ ((writeFlash eraseOk s r)).fabric = s.fabric
    ∧ ((writeFlash eraseOk s r)).qps = s.qps := by
  unfold writeFlash; simp

@[simp] theorem rotateCluster_same (s : State) (k : Nat) :
    ((rotateCluster s k)).mode = s.mode ∧ ((rotateCluster s k)).ready = s.ready ∧ ((rotateCluster s k)).epochCtr = s.epochCtr
    ∧ ((rotateCluster s k)).vfEnabled = s.vfEnabled ∧ ((rotateCluster s k)).dma = s.dma
    ∧ ((rotateCluster s k)).sessions = s.sessions ∧ ((rotateCluster s k)).cores = s.cores ∧ ((rotateCluster s k)).sec = s.sec
    ∧ ((rotateCluster s k)).power = s.power ∧ ((rotateCluster s k)).hbm = s.hbm ∧ ((rotateCluster s k)).tap = s.tap
    ∧ ((rotateCluster s k)).pins = s.pins ∧ ((rotateCluster s k)).px = s.px ∧ ((rotateCluster s k)).sw = s.sw
    ∧ ((rotateCluster s k)).tables = s.tables ∧ ((rotateCluster s k)).net = s.net ∧ ((rotateCluster s k)).fabric = s.fabric
    ∧ ((rotateCluster s k)).qps = s.qps := by
  unfold rotateCluster; (repeat' split) <;> simp

@[simp] theorem ptpSleep_same (s : State) :
    ((ptpSleep s)).mode = s.mode ∧ ((ptpSleep s)).ready = s.ready ∧ ((ptpSleep s)).epochCtr = s.epochCtr
    ∧ ((ptpSleep s)).vfEnabled = s.vfEnabled ∧ ((ptpSleep s)).dma = s.dma ∧ ((ptpSleep s)).sessions = s.sessions
    ∧ ((ptpSleep s)).cores = s.cores ∧ ((ptpSleep s)).sec = s.sec ∧ ((ptpSleep s)).power = s.power ∧ ((ptpSleep s)).hbm = s.hbm
    ∧ ((ptpSleep s)).tap = s.tap ∧ ((ptpSleep s)).pins = s.pins ∧ ((ptpSleep s)).px = s.px ∧ ((ptpSleep s)).sw = s.sw
    ∧ ((ptpSleep s)).tables = s.tables ∧ ((ptpSleep s)).fabric = s.fabric ∧ ((ptpSleep s)).qps = s.qps := by
  unfold ptpSleep; simp

@[simp] theorem gateArray_same (s : State) :
    ((gateArray s)).mode = s.mode ∧ ((gateArray s)).ready = s.ready ∧ ((gateArray s)).epochCtr = s.epochCtr
    ∧ ((gateArray s)).vfEnabled = s.vfEnabled ∧ ((gateArray s)).dma = s.dma ∧ ((gateArray s)).sessions = s.sessions
    ∧ ((gateArray s)).sec = s.sec ∧ ((gateArray s)).hbm = s.hbm ∧ ((gateArray s)).tap = s.tap ∧ ((gateArray s)).pins = s.pins
    ∧ ((gateArray s)).px = s.px ∧ ((gateArray s)).sw = s.sw ∧ ((gateArray s)).tables = s.tables ∧ ((gateArray s)).net = s.net
    ∧ ((gateArray s)).fabric = s.fabric ∧ ((gateArray s)).qps = s.qps := by
  unfold gateArray; simp

@[simp] theorem enterDormant_same (s : State) :
    ((enterDormant s)).epochCtr = s.epochCtr ∧ ((enterDormant s)).vfEnabled = s.vfEnabled ∧ ((enterDormant s)).dma = s.dma
    ∧ ((enterDormant s)).sec = s.sec ∧ ((enterDormant s)).hbm = s.hbm ∧ ((enterDormant s)).tap = s.tap
    ∧ ((enterDormant s)).pins = s.pins ∧ ((enterDormant s)).qps = s.qps := by
  unfold enterDormant; simp

@[simp] theorem leaveSelfRefresh_same (s : State) :
    ((leaveSelfRefresh s)).mode = s.mode ∧ ((leaveSelfRefresh s)).ready = s.ready ∧ ((leaveSelfRefresh s)).epochCtr = s.epochCtr
    ∧ ((leaveSelfRefresh s)).vfEnabled = s.vfEnabled ∧ ((leaveSelfRefresh s)).dma = s.dma
    ∧ ((leaveSelfRefresh s)).sessions = s.sessions ∧ ((leaveSelfRefresh s)).cores = s.cores ∧ ((leaveSelfRefresh s)).sec = s.sec
    ∧ ((leaveSelfRefresh s)).hbm = s.hbm ∧ ((leaveSelfRefresh s)).tap = s.tap ∧ ((leaveSelfRefresh s)).pins = s.pins
    ∧ ((leaveSelfRefresh s)).px = s.px ∧ ((leaveSelfRefresh s)).sw = s.sw ∧ ((leaveSelfRefresh s)).tables = s.tables
    ∧ ((leaveSelfRefresh s)).net = s.net ∧ ((leaveSelfRefresh s)).fabric = s.fabric ∧ ((leaveSelfRefresh s)).qps = s.qps := by
  unfold leaveSelfRefresh; simp

@[simp] theorem wakeUp_same (s : State) :
    ((wakeUp s)).epochCtr = s.epochCtr ∧ ((wakeUp s)).vfEnabled = s.vfEnabled ∧ ((wakeUp s)).dma = s.dma
    ∧ ((wakeUp s)).sessions = s.sessions ∧ ((wakeUp s)).sec = s.sec ∧ ((wakeUp s)).hbm = s.hbm ∧ ((wakeUp s)).tap = s.tap
    ∧ ((wakeUp s)).pins = s.pins ∧ ((wakeUp s)).px = s.px ∧ ((wakeUp s)).sw = s.sw ∧ ((wakeUp s)).tables = s.tables
    ∧ ((wakeUp s)).net = s.net ∧ ((wakeUp s)).qps = s.qps := by
  unfold wakeUp; simp

@[simp] theorem loseEthPorts_same (s : State) :
    ((loseEthPorts s)).mode = s.mode ∧ ((loseEthPorts s)).ready = s.ready ∧ ((loseEthPorts s)).epochCtr = s.epochCtr
    ∧ ((loseEthPorts s)).vfEnabled = s.vfEnabled ∧ ((loseEthPorts s)).dma = s.dma ∧ ((loseEthPorts s)).sessions = s.sessions
    ∧ ((loseEthPorts s)).cores = s.cores ∧ ((loseEthPorts s)).sec = s.sec ∧ ((loseEthPorts s)).power = s.power
    ∧ ((loseEthPorts s)).hbm = s.hbm ∧ ((loseEthPorts s)).tap = s.tap ∧ ((loseEthPorts s)).pins = s.pins
    ∧ ((loseEthPorts s)).px = s.px ∧ ((loseEthPorts s)).tables = s.tables ∧ ((loseEthPorts s)).fabric = s.fabric
    ∧ ((loseEthPorts s)).qps = s.qps := by
  unfold loseEthPorts; simp

@[simp] theorem losePxPorts_same (s : State) :
    ((losePxPorts s)).mode = s.mode ∧ ((losePxPorts s)).ready = s.ready ∧ ((losePxPorts s)).epochCtr = s.epochCtr
    ∧ ((losePxPorts s)).vfEnabled = s.vfEnabled ∧ ((losePxPorts s)).dma = s.dma ∧ ((losePxPorts s)).cores = s.cores
    ∧ ((losePxPorts s)).sec = s.sec ∧ ((losePxPorts s)).power = s.power ∧ ((losePxPorts s)).hbm = s.hbm
    ∧ ((losePxPorts s)).tap = s.tap ∧ ((losePxPorts s)).pins = s.pins ∧ ((losePxPorts s)).sw = s.sw
    ∧ ((losePxPorts s)).tables = s.tables ∧ ((losePxPorts s)).net = s.net ∧ ((losePxPorts s)).fabric = s.fabric
    ∧ ((losePxPorts s)).qps = s.qps := by
  unfold losePxPorts; simp

@[simp] theorem losePcie_same (s : State) :
    ((losePcie s)).mode = s.mode ∧ ((losePcie s)).ready = s.ready ∧ ((losePcie s)).epochCtr = s.epochCtr
    ∧ ((losePcie s)).power = s.power ∧ ((losePcie s)).tap = s.tap ∧ ((losePcie s)).pins = s.pins ∧ ((losePcie s)).px = s.px
    ∧ ((losePcie s)).sw = s.sw ∧ ((losePcie s)).tables = s.tables ∧ ((losePcie s)).fabric = s.fabric := by
  unfold losePcie; simp

@[simp] theorem avsTransact_same (s : State) (mv : Nat) (acked : Bool) :
    ((avsTransact s mv acked)).mode = s.mode ∧ ((avsTransact s mv acked)).ready = s.ready
    ∧ ((avsTransact s mv acked)).epochCtr = s.epochCtr ∧ ((avsTransact s mv acked)).vfEnabled = s.vfEnabled
    ∧ ((avsTransact s mv acked)).dma = s.dma ∧ ((avsTransact s mv acked)).sessions = s.sessions
    ∧ ((avsTransact s mv acked)).cores = s.cores ∧ ((avsTransact s mv acked)).sec = s.sec
    ∧ ((avsTransact s mv acked)).hbm = s.hbm ∧ ((avsTransact s mv acked)).tap = s.tap ∧ ((avsTransact s mv acked)).pins = s.pins
    ∧ ((avsTransact s mv acked)).px = s.px ∧ ((avsTransact s mv acked)).sw = s.sw ∧ ((avsTransact s mv acked)).tables = s.tables
    ∧ ((avsTransact s mv acked)).net = s.net ∧ ((avsTransact s mv acked)).fabric = s.fabric
    ∧ ((avsTransact s mv acked)).qps = s.qps := by
  unfold avsTransact; simp

@[simp] theorem endStretch_same (s : State) (since : Nat) :
    ((endStretch s since)).mode = s.mode ∧ ((endStretch s since)).ready = s.ready ∧ ((endStretch s since)).epochCtr = s.epochCtr
    ∧ ((endStretch s since)).vfEnabled = s.vfEnabled ∧ ((endStretch s since)).dma = s.dma
    ∧ ((endStretch s since)).sessions = s.sessions ∧ ((endStretch s since)).cores = s.cores ∧ ((endStretch s since)).sec = s.sec
    ∧ ((endStretch s since)).hbm = s.hbm ∧ ((endStretch s since)).tap = s.tap ∧ ((endStretch s since)).pins = s.pins
    ∧ ((endStretch s since)).px = s.px ∧ ((endStretch s since)).sw = s.sw ∧ ((endStretch s since)).tables = s.tables
    ∧ ((endStretch s since)).net = s.net ∧ ((endStretch s since)).fabric = s.fabric ∧ ((endStretch s since)).qps = s.qps := by
  unfold endStretch; simp

@[simp] theorem tapMaintenance_same (s : State) (code : BitVec 8) :
    ((tapMaintenance s code)).epochCtr = s.epochCtr ∧ ((tapMaintenance s code)).vfEnabled = s.vfEnabled
    ∧ ((tapMaintenance s code)).dma = s.dma ∧ ((tapMaintenance s code)).power = s.power
    ∧ ((tapMaintenance s code)).pins = s.pins ∧ ((tapMaintenance s code)).px = s.px ∧ ((tapMaintenance s code)).sw = s.sw
    ∧ ((tapMaintenance s code)).tables = s.tables ∧ ((tapMaintenance s code)).qps = s.qps := by
  unfold tapMaintenance; simp

end Sys2Proof.Machine
end

