-- ==== Sys2Proof/Laws/Outcome.lean ====
section
/-! SUPPORT. The shapes of a meaning: an effect under a condition, a unit that must exist, a host command that is served. -/

namespace Sys2Proof.Machine

@[simp] theorem act_true (s k : State) : act s true k = .next k := rfl
@[simp] theorem act_false (s k : State) : act s false k = .next s := rfl
@[simp] theorem withUnit_true (k : Result) : withUnit true k = k := rfl
@[simp] theorem withUnit_false (k : Result) : withUnit false k = .fault .noSuchUnit := rfl

/-- A meaning with a condition always answers a next state. -/
theorem act_next (s k : State) (c : Bool) : act s c k = .next (if c then k else s) := rfl

/-- A host command always answers a next state. -/
theorem serve_next (s : State) (r : CmdRef) (op : Nat) (chk : State → Bytes → Option Reply) (k : State → Bytes → State) :
    ∃ t, serve s r op chk k = .next t := by
  unfold serve
  dsimp only
  (repeat' split) <;> exact ⟨_, rfl⟩

/-- A host command that may start and that no check refuses takes its own effect. -/
theorem serve_accepts (s : State) (r : CmdRef) (op : Nat) (chk : State → Bytes → Option Reply) (k : State → Bytes → State) (i : InFlight)
    (h : startOf s r op = some i) (h1 : startCheck (markStarted s r) r.fn i.entry = none)
    (h2 : dataBad (markStarted s r) r.fn i.entry = false) (h3 : chk (markStarted s r) i.entry = none) :
    serve s r op chk k = .next (k (markStarted s r) i.entry) := by
  unfold serve
  simp [h, h1, h2, h3]

/-- The same from `Starts`. -/
theorem Starts.serve {s : State} {r : CmdRef} {op : Nat} {i : InFlight} (h : Starts s r op i)
    {chk : State → Bytes → Option Reply} (k : State → Bytes → State) (h3 : chk (markStarted s r) i.entry = none) :
    Machine.serve s r op chk k = .next (k (markStarted s r) i.entry) :=
  serve_accepts s r op chk k i h.found h.judged h.buffer h3

/-- No check fails. -/
theorem firstFail_none (l : List (Bool × Nat)) : firstFail l = none ↔ ∀ p ∈ l, p.1 = true := by
  induction l with
  | nil => simp [firstFail]
  | cons p l ih =>
    obtain ⟨b, off⟩ := p
    rw [firstFail]
    cases h : firstFail l <;> cases b <;> simp_all

/-- No field is refused exactly when every condition holds. -/
@[simp] theorem fieldCheck_none (l : List (Bool × Nat)) : fieldCheck l = none ↔ ∀ p ∈ l, p.1 = true := by
  rw [← firstFail_none, fieldCheck]
  cases firstFail l <;> simp

@[simp] theorem dataCheck_none (l : List (Bool × Nat)) : dataCheck l = none ↔ ∀ p ∈ l, p.1 = true := by
  rw [← firstFail_none, dataCheck]
  cases firstFail l <;> simp

@[simp] theorem orElse_none (a b : Option Reply) : orElse a b = none ↔ a = none ∧ b = none := by
  cases a <;> simp [orElse]

/-- On a device that is Off, in Lockdown or Dormant no host command starts. -/
theorem serve_asleep (s : State) (r : CmdRef) (op : Nat) (chk : State → Bytes → Option Reply) (k : State → Bytes → State)
    (h : asleep s = true) : serve s r op chk k = .next s := by
  unfold serve startOf
  simp [h]

/-- A host command keeps what its own effect keeps. -/
theorem serve_keeps (s : State) (r : CmdRef) (op : Nat) (chk : State → Bytes → Option Reply) (k : State → Bytes → State)
    (hk : ∀ s e, (k s e).pending = s.pending ∧ (k s e).sec.otp = s.sec.otp
      ∧ (Memory.wf s.hbm.mem = true → Memory.wf (k s e).hbm.mem = true))
    (t : State) (h : serve s r op chk k = .next t) :
    t.pending = s.pending ∧ t.sec.otp = s.sec.otp ∧ (Memory.wf s.hbm.mem = true → Memory.wf t.hbm.mem = true) := by
  unfold serve at h
  dsimp only at h
  (repeat' split at h) <;> cases h <;> simp +contextual (maxDischargeDepth := 20) [hk]

/-- A host command leaves the HBM's bytes alone where its own effect does. -/
theorem serve_mem (s : State) (r : CmdRef) (op : Nat) (chk : State → Bytes → Option Reply) (k : State → Bytes → State)
    (hk : ∀ s e, (k s e).hbm.mem = s.hbm.mem) (t : State) (h : serve s r op chk k = .next t) : t.hbm.mem = s.hbm.mem := by
  unfold serve at h
  dsimp only at h
  (repeat' split at h) <;> cases h <;> simp [hk]

/-- A host command leaves unchanged what completing commands, recording an unreadable data buffer and its own effect leave. -/
theorem serve_same {α : Type} (g : State → α) (hf : ∀ s r a, g (finish s r a) = g s) (hm : ∀ s r, g (markStarted s r) = g s)
    (hu : ∀ s a, g (uncorrectable s a) = g s) {s t : State} {r : CmdRef} {op : Nat} {chk : State → Bytes → Option Reply}
    {k : State → Bytes → State} (hk : ∀ s e, g (k s e) = g s) (h : serve s r op chk k = .next t) : g t = g s := by
  unfold serve at h
  dsimp only at h
  (repeat' split at h) <;> cases h <;> simp [hf, hm, hu, hk]

theorem act_keeps (s : State) (c : Bool) (k t : State)
    (hk : k.pending = s.pending ∧ k.sec.otp = s.sec.otp ∧ (Memory.wf s.hbm.mem = true → Memory.wf k.hbm.mem = true))
    (h : act s c k = .next t) :
    t.pending = s.pending ∧ t.sec.otp = s.sec.otp ∧ (Memory.wf s.hbm.mem = true → Memory.wf t.hbm.mem = true) := by
  unfold act at h
  cases c <;> cases h
  · exact ⟨rfl, rfl, id⟩
  · exact hk

theorem withUnit_keeps (s : State) (c : Bool) (k : Result) (t : State)
    (hk : ∀ t, k = .next t → t.pending = s.pending ∧ t.sec.otp = s.sec.otp
      ∧ (Memory.wf s.hbm.mem = true → Memory.wf t.hbm.mem = true))
    (h : withUnit c k = .next t) :
    t.pending = s.pending ∧ t.sec.otp = s.sec.otp ∧ (Memory.wf s.hbm.mem = true → Memory.wf t.hbm.mem = true) := by
  unfold withUnit at h
  cases c <;> simp at h
  exact hk t h

end Sys2Proof.Machine
end

