-- ==== Sys2Proof/Tests/Slice0.lean ====
section
/-! SUPPORT. Tests of the model.  First the states that the tests are about, then the terms that each check of
WellFormed refuses, then results that the manual's own examples and tables print, and last, for every statement with
premises, one theorem whose conjuncts are its clauses: each shows a state and operands that meet that clause's
premises together. -/

set_option Elab.async false
set_option maxRecDepth 100000

namespace Sys2Proof.Tests
open Sys2Proof.Machine

/-! ### States -/

def put (b : Bytes) (p : Nat × Nat × Nat) : Bytes := b.take p.1 ++ le p.2.1 p.2.2 ++ b.drop (p.1 + p.2.1)
def cmd (op : Nat) (l : List (Nat × Nat × Nat)) : Bytes := l.foldl put (BitVec.ofNat 8 op :: zeros 63)
def flight (e : Bytes) : InFlight := ⟨0, e, 0, false, 0, 0, none⟩
def up (m : OpMode) : Machine.State := { State.reset with mode := m, ready := true }
def adm : CmdRef := ⟨0, 0, 0⟩
def io : CmdRef := ⟨0, 1, 0⟩
def sub (s : Machine.State) (q : Nat) (e : Bytes) : Machine.State :=
  { s with qps := [(q, { QueuePair.make 0 q 64 0 0 0 0 0 with flight := [flight e] })] }
def after (c : Instr) (s : Machine.State) : Machine.State := match exec c s with | .next t => t | _ => s
def seed (l : List Nat) : PackFifo := { PackFifo.empty 2 2 1 with filling := l.map (BitVec.ofNat 8) }
def bootBad : BootInput := ⟨0, false, true, true, true, true, true, 400, 400, [], [], []⟩
def boot : BootInput := ⟨0, true, true, true, true, true, true, 400, 400, [], [], []⟩
/-- A pair with a second pair, 1, and its command of CID 5. -/
def pair2 (s : Machine.State) (started : Bool) : Machine.State :=
  { s with qps := s.qps ++ [(1, { QueuePair.make 0 1 16 0 0 0 0 0 with flight := [⟨5, cmd 0x26 [(2, 2, 5)], 0, started, 0, 0, none⟩] })] }
def fnWith (s : Machine.State) (f : FnState → FnState) : Machine.State := { s with fns := [(0, f (FnState.atReset 0))] }
def chan (f : DmaChannel → DmaChannel) : Machine.State := { up .ready with dma := [(15, f DmaChannel.atReset)] }


/-! ### States for the host interface, the resets and the management -/
def upFn (f : FnState) : Machine.State := { up .ready with fns := [(0, f)] }
def sFetch : Machine.State := { upFn { FnState.atReset 0 with mbEnable := true, mbEnabled := true, busMaster := true } with qps := [(0, { QueuePair.make 0 0 64 0 0 0 0 0 with sqTail := 1 })] }
def sCoal : Machine.State := { up .ready with qps := [(1, { QueuePair.make 0 1 16 3 4 9 0 0 with unannounced := 2, oldestAt := 1000 })] }
def sTimeout : Machine.State := pair2 (up .ready) true
def qFin : QueuePair := { QueuePair.make 0 0 64 0 0 0 0 0 with cqTail := 63, flight := [flight (put (cmd 1 []) (1, 1, 2))] }
def sFin : Machine.State := { up .ready with qps := [(0, qFin)] }
def fGood : FnState := { FnState.atReset 0 with adminDepth := 2 }
def fOn : FnState := { FnState.atReset 0 with mbEnable := true }
def fUp : FnState := { FnState.atReset 0 with mbEnable := true, mbEnabled := true }
def fCause : FnState := { FnState.atReset 0 with intrCause := 8 }
def fPend : FnState := { FnState.atReset 0 with vecMasked := [255], vecPending := [255] }
def sVf : Machine.State := { up .ready with vfEnabled := true, qps := [(64, QueuePair.make 1 0 16 0 0 0 0 0), (128, QueuePair.make 2 0 16 0 0 0 0 0)] }
def cArmed : DmaChannel := { DmaChannel.atReset with armed := true }
def cHalted : DmaChannel := { DmaChannel.atReset with state := .haltedError }
def cLate : DmaChannel := { DmaChannel.atReset with handedAt := some 7 }
def cDue : DmaChannel := { DmaChannel.atReset with armed := true, handOver := some 7, shLen := 64, shCfg := 1, shSrc := 5, shDst := 4096 }
def cRun : DmaChannel := { DmaChannel.atReset with state := .running, actCount := 600, setLen := 600, actCfg := 1, actFill := 0x0102 }
def cBeat : DmaChannel := { DmaChannel.atReset with state := .running, actCount := 1, actCfg := 1, beats := [⟨0, 4096, 64, 0⟩] }
def onCh (c : DmaChannel) : Machine.State := { up .ready with dma := [(15, c)] }
def sSess : Machine.State := { up .ready with sessions := [(255, Session.make 255 0 true [] Ring.none Ring.none 0)] }
def lit (m : OpMode) : Machine.State := { up m with larder := { LarderState.atReset with published := true, dynGen := 6 } }
def pwr (p : PowerStateRec) : Machine.State := { up .ready with power := p }
def pBank : PowerStateRec := { PowerStateRec.atReset with ceiling := .banked }
def pIn : PowerStateRec := { PowerStateRec.atReset with ceiling := .banked, current := .banked, selfRefresh := [0, 1], pllOff := [0, 1, 2, 3] }
def sDorm : Machine.State := after (.setPowerState adm) (sub (up .ready) 0 (cmd 7 [(24, 1, 3)]))
def pFail2 : PowerStateRec := { PowerStateRec.atReset with avsFails := 2 }
def pFail3 : PowerStateRec := { PowerStateRec.atReset with avsFails := 3, lastStep := some 5 }
def pOld : PowerStateRec := { PowerStateRec.atReset with oldSetpoint := some 755 }
def pDip : PowerStateRec := { PowerStateRec.atReset with stretchSince := some 100, above := some 100 }
def pHot : PowerStateRec := { PowerStateRec.atReset with throttle := true, warned := true, coolSince := some 3 }
def sAsleepCores : Machine.State := { up .ready with cores := (List.range 7).map (fun c => (21 + c, { CoreState.atReset with sleep := .clockGated })) }
def sStop : Machine.State := { up .ready with cores := [(27, { CoreState.atReset with fault := .stopped })] }
def sFence : Machine.State := { up .ready with canary := { CanaryState.atReset with pendingFences := [.pixelPort 3] } }
def sFault : Machine.State := { up .ready with canary := { CanaryState.atReset with faultN := false } }
def sBist : Machine.State := { up .maintenance with canary := { CanaryState.atReset with bist := true } }
def sReload : Machine.State := { up .ready with cores := [(27, { CoreState.atReset with fenced := true, fault := .replaced, parity := [0] })],
                                                canary := { CanaryState.atReset with fencedUnits := [.core 27] } }
def waiting5 (started : Bool) : InFlight := ⟨5, cmd 0x26 [(2, 2, 5)], 0, started, 0, 0, none⟩
def doorbell (n : Nat) : BitVec 32 := BitVec.ofNat 32 n
def noBeats : List DmaBeat := []
def sPriv : Machine.State := { up .ready with mode := .lockdown }
def sDor : Machine.State := { up .ready with mode := .dormant }
def onCore (f : CoreState) : Machine.State := { up .ready with cores := [(27, f)] }
def cGated : CoreState := { CoreState.atReset with sleep := .powerGated }
def cWaking : CoreState := { CoreState.atReset with sleep := .powerGated, waking := some 70 }
def unit0 : UnitRec := { index := 0, band := 0, tile := 0, row0 := 0, rows := 4, col0 := 0, cols := 4, core := 27, started := true, startAt := 0, due := 0, nextCu := 5, budget := 0, cap := none, acc := UnitAcc.zero, snap := UnitAcc.zero, commits := [], done := false }
def frame0 : EncFrame := { number := 0, code := 0, cfg := [], intra := true, refresh := false, changed := false, target := 0, cap := none, shares := [], bands := 1, dispatched := 1, units := [unit0], forceIntra := [], copyError := false, concealed := 0, padding := 0, violation := false, late := false, ts0 := 0, ts := [], stamp := none, holds := [], opened := [], reported := false, cells := [], cll := none }
def sess0 : Session := Session.make 255 0 false [] Ring.none Ring.none 0
def enc0 (s : Session) (f : EncState → EncState) : Session := { s with state := .running, enc := f s.enc }
def sWork : Machine.State := { onCore { CoreState.atReset with work := some ⟨255, 0, 0⟩, ladle := fifoWrite [] (zeros 70) (PackFifo.empty 64 32 8) } with sessions := [(255, enc0 sess0 (fun e => { e with frames := [frame0] }))] }
def wr (a : Nat) (n : Nat) : HbmReq := { requester := 2, addr := a, write := true, data := (List.range n).map (BitVec.ofNat 8), realTime := false, openHint := false, t := 5 }
def sPc (p : PseudoChannel) : Machine.State := { up .ready with hbm := { HbmState.atReset with pcs := [(0, p)] } }
def rd0 : HbmPend := ⟨0, false, 2, false, false, 0, 0, [7]⟩
def pIss : PseudoChannel := { PseudoChannel.atReset with issued := [rd0] }
def pQ : PseudoChannel := { PseudoChannel.atReset with readQ := [rd0], openRows := [(1, (5, 10))] }
def pDrift : PseudoChannel := { PseudoChannel.atReset with driftSince := some 5 }
def pTrain : PseudoChannel := { PseudoChannel.atReset with retraining := some 5 }
def upF (f : ForemanState) : Machine.State := { up .ready with foreman := f }
def fSt : ForemanState := { ForemanState.atReset with stage := .staging, owner := 1, imageLen := 65536 }
def fStd : ForemanState := { ForemanState.atReset with stage := .staging, owner := 1 }
def fVer : ForemanState := { ForemanState.atReset with stage := .verified, owner := 1, staged := [1, 2] }
def fTri : ForemanState := { ForemanState.atReset with stage := .trial, bootSlot := 1, trialLeft := 2, readySince := some 0, platform := { PlatformCfg.default with autoCommit := true } }
def fPnd : ForemanState := { ForemanState.atReset with stage := .activationPending, owner := 1, trialLeft := 3 }
def officer (s : Machine.State) : Machine.State := { s with fns := [(0, { FnState.atReset 0 with auth := { AuthState.empty with role := .cryptoOfficer } })], sec := { s.sec with vddFuse := true, unavailable := [] } }
def plat : Bytes := [(0,4,0x47464350),(4,2,1),(6,1,11),(8,4,4096),(12,2,24),(22,1,8),(24,2,500)].foldl put (zeros 64)
def rdq : HbmReq := { wr 4096 64 with write := false }
def pBk : PowerStateRec := { PowerStateRec.atReset with current := .banked }
def fSide : ForemanState := { ForemanState.atReset with stage := .staging, owner := 2, sidebandOpen := true }
def fSideV : ForemanState := { ForemanState.atReset with stage := .verified, owner := 2, staged := [1, 2], sidebandOpen := true }
def rec0 : EventRec := ⟨0, 1, 0x101, 7, false, true, 40, 0, 0, 0, 0, []⟩
def fLog : ForemanState := { ForemanState.atReset with flashPending := [rec0], samplePtp := some 5, ramLog := [rec0] }
def sRot : Machine.State := { upF { ForemanState.atReset with agingHours := [(3, 501)] } with clusters := [(0, { ClusterState.atReset with spare := some 6 })] }
def offi (s : Machine.State) : Machine.State := { s with fns := [(0, { FnState.atReset 0 with auth := { AuthState.empty with role := .cryptoOfficer } })] }
def secd (s : Machine.State) (x : SecurityState) : Machine.State := { s with sec := x }
def xKem : SecurityState := { SecurityState.atReset with kem := some (0, 0) }
def xKey : SecurityState := { SecurityState.atReset with keys := [(5, ⟨2, zeros 16, 1⟩), (6, ⟨4, zeros 48, 1⟩)] }
def sNonce : Machine.State := { up .ready with fns := [(0, { FnState.atReset 0 with auth := { AuthState.empty with nonce := some (zeros 48, 0) } })] }
def sLock : Machine.State := { up .ready with fns := [(0, { FnState.atReset 0 with auth := { AuthState.empty with lockout := some 0, failures := 5 } })] }
def sRole : Machine.State := { up .ready with fns := [(0, { FnState.atReset 0 with auth := { AuthState.empty with role := .user, keyId := 6 } })], sec := xKey }
def impD : Bytes := put (put (zeros 1660) (0x620, 2, 7)) (0x622, 1, 2)
def xRes : SecurityState := { SecurityState.atReset with drbgRequests := 1048576 }
def keyA : KeyEntry := ⟨2, zeros 16, 1⟩
def keyB : KeyEntry := ⟨4, zeros 48, 1⟩
/-- 64 bytes of a configuration record. -/
def blk (l : List (Nat × Nat × Nat)) : Bytes := l.foldl put (zeros 64)
/-- A VVC session: 256 by 256 at 4:2:2 and 10 bits, 30 pictures a second, memory to memory, constant quantiser. -/
def ecfg : Bytes := blk [(18, 2, 2), (20, 4, 16)]
  ++ blk [(2, 1, 2), (3, 1, 10), (4, 2, 256), (6, 2, 256), (8, 4, 30), (12, 4, 1), (28, 1, 255), (32, 1, 1), (33, 1, 1), (34, 1, 1)]
  ++ blk [(0, 1, 34), (1, 1, 255), (3, 1, 4), (4, 1, 1), (6, 1, 1), (7, 1, 1), (14, 2, 1), (18, 1, 1), (19, 1, 1)] ++ blk []
  ++ blk [(0, 1, 2), (2, 1, 1), (24, 2, 0x8000), (26, 2, 0x8000), (28, 2, 5120), (39, 1, 1)] ++ blk []
  ++ blk [(5, 1, 12), (8, 2, 1400), (10, 1, 96), (11, 1, 10), (18, 2, 0x20), (24, 2, 0x21), (26, 2, 512)] ++ blk [(40, 2, 10)]
def dcfg : Bytes := blk [(1, 1, 255), (2, 1, 2), (3, 1, 10), (4, 2, 256), (6, 2, 256), (8, 4, 30), (12, 4, 1), (16, 4, 1000)]
  ++ blk [(1, 1, 255)] ++ blk [] ++ blk [(1, 1, 96)]
def xE (st : SessState) : Session := { Session.make 255 0 false ecfg Ring.none Ring.none 0 with state := st, serving := [3], uses := [⟨3, ⟨1, 1⟩, ⟨0, 1⟩, ⟨1, 1⟩, ⟨0, 1⟩⟩] }
def xD (st : SessState) : Session := { Session.make 255 0 true dcfg Ring.none Ring.none 0 with state := st, serving := [3], uses := [⟨3, ⟨1, 1⟩, ⟨0, 1⟩, ⟨1, 1⟩, ⟨0, 1⟩⟩] }
def xEnc (x : Session) (e : EncState) : Session := { x with enc := e }
def withS (s : Machine.State) (x : Session) : Machine.State := { s with sessions := [(x.id % 256, x)] }
/-- Host software's command for session 255 waits at queue 1. -/
def ses (x : Session) (e : Bytes) : Machine.State := withS { up .standalone with qps := [(1, { QueuePair.make 0 1 64 0 0 0 0 0 with flight := [flight e] })] } x
def fr (us : List UnitRec) (d : Nat) : EncFrame := { frame0 with cfg := ecfg, units := us, dispatched := d, shares := [65536] }
def pic0 : SubPicture := { cid := 0, qid := 1, frame := 0, read := true, since := 0, stamp := 0, rows := 0, complete := false, coded := [], quarter := [], arrived := [], cll := none }
def withFr (f : EncFrame) : Session := xEnc (xE .running) { (xE .running).enc with frames := [f], submitted := [pic0], nextSubmit := 1 }
def unitV : UnitRec := { unit0 with rows := 2, cols := 2, nextCu := 0, started := false }
def unitRun : UnitRec := { unitV with started := true }
def xBack : Session := xEnc (xE .running) { (xE .running).enc with backlog := [[7]] }
def cMem (l : List (Nat × Nat × Nat)) : Bytes := l.foldl put ecfg
/-- A running encode session of a configuration with its frames. -/
def xRun (c : Bytes) (fs : List EncFrame) (ps : List SubPicture) : Session :=
  { Session.make 255 0 false c Ring.none Ring.none 0 with
    state := .running, serving := [3], uses := [⟨3, ⟨1, 1⟩, ⟨0, 1⟩, ⟨1, 1⟩, ⟨0, 1⟩⟩],
    enc := { EncState.empty c with frames := fs, submitted := ps, nextSubmit := ps.length } }
def alone (x : Session) : Machine.State := withS (up .standalone) x
def unitDone : UnitRec := { unitRun with done := true, nextCu := 4, commits := [⟨0, 27, false⟩, ⟨1, 27, false⟩] }
def xOut : Session := xRun ecfg [fr [unitDone] 1] [pic0]
def xWait : Session := xRun ecfg [fr [unitRun] 1] [pic0]
def frHold : EncFrame := { fr [unitRun] 1 with holds := [(0, 50)] }
def xHold : Session := xRun ecfg [frHold] [pic0]
def tsc : Bytes := cMem [(2, 1, 2)]
def xTs : Session := xRun tsc [] []
def xOpen : Session := xRun ecfg [fr [] 0] [pic0]
def xPic : Session := xRun ecfg [] [pic0]
def picRead : SubPicture := { pic0 with rows := 256 }
def fInter : EncFrame := { fr [unitV] 1 with intra := false }
def xQ : Session := xRun ecfg [fr [unitV] 1] [picRead]
def xInt : Session := xRun ecfg [fInter] [picRead]
def sQ : Machine.State := { alone xQ with clusters := [(3, { ClusterState.atReset with queue := [⟨255, 0, 0, 27⟩] })] }
def gapX (c : Bytes) : Session := { xRun c [] [] with enc := { EncState.empty c with arrivedAt := some 0, lastSource := some pic0, nextSubmit := 1 } }
def skipc : Bytes := cMem [(1, 1, 2), (17, 1, 1)]
def repc : Bytes := cMem [(1, 1, 2)]
def cell0 : SurveyCell := ⟨0, [[(4, 0)]], 100, false, false⟩
def sl0 : CuSlot := ⟨0, 0, 20, false, none, false, []⟩
def slD : CuSlot := ⟨0, 0, 20, false, none, true, []⟩
def entry0 : CuEntry := ⟨0, 4000, 4000, 60000, 20, 0, 100, 4096, 5⟩
def ladle0 : PackFifo := PackFifo.empty 4096 64 32
def working (f : EncFrame) (p : List (Option CuSlot)) : Machine.State :=
  { alone (xRun f.cfg [f] [picRead]) with cores := [(27, { CoreState.atReset with work := some ⟨255, 0, 0⟩, pipe := p, ladle := ladle0 })] }
def pipeAt (k : Nat) (x : CuSlot) : List (Option CuSlot) := lset [none, none, none, none, none, none, none] k (some x)
def unitN : UnitRec := { unitRun with nextCu := 1, budget := 10000000 }
def unitR : UnitRec := { unitRun with nextCu := 3, acc := { UnitAcc.zero with entries := [entry0, entry0] } }
def unitL : UnitRec := { unitRun with nextCu := 4, acc := { UnitAcc.zero with entries := [entry0, entry0, entry0, entry0] }, commits := [⟨0, 27, false⟩] }
def fN : EncFrame := fr [unitN] 1
def fNi : EncFrame := { fr [unitN] 1 with intra := false }
def flc : Bytes := cMem [(0x120, 2, 20000), (0x126, 1, 2)]
def fFl : EncFrame := { fr [unitN] 1 with cfg := flc }
def fR : EncFrame := fr [unitR] 1
def fL : EncFrame := fr [unitL] 1
def meas (sse : Nat) : CuMeas := { qp := 20, nY := 16384, sseY := sse, nC := 16384, sseC := 0, ssim := 65535, sseFinal := 3, bits := 100, bins := 130, llBits := 9000, llBins := 9100, llFinal := 0, area := 4096, motion := ⟨0, 0, 0, 0, 0, 0, [0, 0, 0, 0], 0, 0⟩ }
def llc : Bytes := cMem [(0x100, 1, 4)]
def ppu0 : PpuInput := ⟨255, 0, 256, [], false, 0⟩
def ppu1 : PpuInput := ⟨255, 0, 4, [], false, 0⟩
def unitSpent : UnitRec := { unitN with budget := 0 }
def keptOf (f : EncFrame) (m : CuMeas) : CuEntry := lossyEntry f.cfg m 0 0 20 false false false
def frNext : EncFrame := { fr [] 0 with units := (fr [] 0).units ++ bandUnits xOpen (fr [] 0) 0 [27], dispatched := 1 }
def band27 : BandCmd := ⟨255, 0, 0, 27⟩
def head0 : DecHead := { width := 256, height := 256, cuLog2 := 7, order := 0, chroma := 2, depth := 10, full := false, rgb := false, sync := 1, recovery := 0, rasl := false, intraOnly := false, keep := [], loadsCdf := none, ctxTile := (0, 2, 0, 2), crop := (0, 0, 0, 0), grain := none, stamp := 0, rateNum := 30, rateDen := 1, arrived := 0 }
def pict : DecPicture := { id := 0, head := head0, cus := [], planes := [], uncommitted := [], rowsDone := [], whole := false, noParams := false, cdfBad := false, isRef := true, shown := true, ended := false, method := 0, flags := 0, bits := 0, lostPackets := 0, synErrors := 0, ts := [], outRows := 0, output := [], number := 0, going := 0 }
def xDec (c : Bytes) (d : DecState) : Session := { xD .running with cfg := c, dec := d }
def dPics (ps : List DecPicture) : DecState := { DecState.empty with started := true, nextPic := 1, pics := ps, stream := 100, buffers := [⟨0, 1, 0, false, 524288, []⟩] }
def xOne : Session := xDec dcfg (dPics [pict])
def pict1 : DecPicture := { pict with uncommitted := [(27, 1)], cus := [(1, ⟨false, 0, false, false, false, false, false, 0, 5, true, none, none⟩)] }
def xUnc : Session := xDec dcfg (dPics [pict1])
def pictE : DecPicture := { pict with ended := true, rowsDone := [0, 1] }
def xEnd : Session := xDec dcfg (dPics [pictE])
def du (err pic cu : Nat) : DecCu := { core := 27, session := 255, pic := pic, head := head0, cu := cu, tileX := 0, tileW := 2, sliceEnd := 3, error := err, refsFinal := true, intra := true, qp := 5, reads := [], missingAps := false, bottom := none, centre := none, samples := [], t := 5 }
def xNew : Session := xDec dcfg DecState.empty
/-- The decode session with an RTP source (SOURCE 1), or a TS source (2). -/
def rtpc : Bytes := put (put dcfg (0x14, 1, 1)) (0xCC, 4, 10)
def tsin : Bytes := put dcfg (0x14, 1, 2)
def xRtp : Session := xDec rtpc DecState.empty
def xTsi : Session := xDec tsin DecState.empty
def rtp (pt seq : Nat) : RtpPkt := { session := 255, pt := pt, ssrc := 0, seq := seq, unsupported := false, bad := false, tagOk := true, ts := [], len := 100, t := 5 }
def xGap : Session := xDec rtpc { DecState.empty with expected := some 3, gapSince := some 0, reorder := [rtp 96 5] }
def xExp : Session := xDec rtpc { DecState.empty with expected := some 3 }
def pxp (typ : Nat) (b : Bytes) (ok : Bool) : PxPkt := { port := 3, frame := 9, line := 0, plane := 0, offset := 0, len := b.length, payload := b, crcOk := ok, ended := true, eccBad := false, t := 5 + 0 * typ }
def px0 : PxPort := { PxPort.atReset with cfg := { PxConfig.default with rxOn := true }, up := true, holdLow := false }
def pxs (q : PxPort) : Machine.State := { up .ready with px := [(3, q)] }
def startB : Bytes := [(0, 2, 0x4000), (2, 2, 0x4000)].foldl put (zeros 24)
def fmt0 : PxStart := { width := 64, height := 64, totalLines := 64, layout := 0, chroma := 0, depth := 8, kind := 0, sourceTime := 0 }
def pp0 : PxPicture := { frame := 9, fmt := fmt0, feeds := some (255, 0), lines := false, arrived := [[]], filled := 0, cll := none }
def px1 : PxPort := { px0 with picture := some pp0, lastFrame := some 9 }
def good (typ : Nat) (q : PxPort) (p : PxPkt) : Machine.State := (pxReceive (atTime (pxs q) 5) typ p).2
def snd (l : Nat) : PxSending := { session := 255, pic := 0, fmt := fmt0, startAt := 0, period := ⟨1000, 1⟩, line := l, held := false }
def pxT (l : Nat) : PxPort := { px0 with cfg := { PxConfig.default with txOn := true }, sending := some (snd l) }
def sTx (l : Nat) : Machine.State := { withS (up .standalone) xEnd with px := [(3, pxT l)] }
def acmd (op : Nat) (l : List (Nat × Nat × Nat)) : Machine.State := sub (up .ready) 0 (cmd op l)
def poolD : Bytes := [(0, 1, 0), (4, 4, 4), (8, 4, 3), (12, 4, 2), (16, 4, 1), (20, 4, 1)].foldl put (zeros 192)
def polB : Bytes := (List.range 8).foldl (fun b k => [(24 * k, 1, 8), (24 * k + 1, 1, 1), (24 * k + 4, 4, if k = 0 then 64 else 0), (24 * k + 8, 4, 30), (24 * k + 12, 4, 20), (24 * k + 16, 4, 10), (24 * k + 20, 4, 2)].foldl put b) (zeros 192)
def profD : Bytes := [(4, 4, 4096), (12, 4, 1), (24, 4, 1), (36, 4, 1)].foldl put (zeros 48)
def ethUp (p : Nat) (e : EthPort) (s : Machine.State) : Machine.State := { s with net := { s.net with ports := tset s.net.ports p e } }
def eUp : EthPort := { EthPort.atReset with up := true, cfg := { EthConfig.default with enable := true } }
def ehead : EthHead := { port := 15, t := 5, vlan := none, pcp := 0, dei := false, dstMac := 1, srcMac := 2, ether := 0x88B5, ip := 0, frag := false, proto := 0, srcIp := [], dstIp := [], ttl := 0, srcPort := 0, dstPort := 0, udpData := [], declLen := 0, macsec := 0, pn := 0, sc := 0, an := 0, icvOk := true, ptpEvent := false }
def eMac : EthPort := { eUp with macsec := ⟨[], none, true, false, 0⟩ }
def st0 (v : Nat) : Staged := { head := ehead, verdict := v, dest := [(16, 0)], flow := 0xFFFFFFFF, colour := 0, cls := 0, buffer := none, routed := false }
def sStaged (v : Nat) : Machine.State := ethUp 15 eUp { up .ready with sw := { SwitchState.atReset with staged := [(15, st0 v)] } }
def pkt : PortPkt := ⟨16, 100, 0xFFFFFFFF, 0, 0, 0, 5⟩
def bufA : Buffer := { pool := 0, state := .filling, owner := 16, refs := 0, sending := [], len := 100, inPort := 16, flow := 0xFFFFFFFF, colour := 0, cls := 0, head := [], bad := false, eof := true, readError := false, arrived := 0, dests := [(0, 0)], multicast := false, generated := false, clear := false, ptpEvent := false }
def sWaiting : Machine.State := { up .ready with sw := { SwitchState.atReset with waiting := [(bufA, 0)] } }
/-- The cache of the only pool is empty. -/
def fullPools : List Pool := [{ Pool.make 8 false 0 100 10 5 2 1 with cache := 0, freeList := 50 }]
def sFull (b : Buffer) : Machine.State := { up .ready with sw := { SwitchState.atReset with waiting := [(b, 0)], pools := fullPools } }
def retried (s : Machine.State) (w : Nat) (b : Buffer) : Machine.State := placePacket (swSet (atTime s w) { s.sw with waiting := [] }) b
def bufE : Buffer := { bufA with inPort := 15 }
def poolLow : Pool := { Pool.make 0 false 0 1000 100 50 20 10 with cache := 31, freeList := 900, refill := true }
def poolHigh : Pool := { Pool.make 0 false 0 1000 100 50 20 10 with cache := 97, freeList := 900, refill := true }
def sPool (p : Pool) : Machine.State := { up .ready with sw := { SwitchState.atReset with pools := [p] } }
def sEgress : Machine.State := after (.portPacketIn { pkt with dest := 12, port := 17 }) (ethUp 12 eUp (up .ready))
def bufS : Buffer := { bufA with state := .queued, refs := 1, sending := [15], owner := 0x40 }
def sSend : Machine.State := { up .ready with sw := { SwitchState.atReset with buffers := [(7, bufS)], nextBuf := 8 } }
def ent (s : Machine.State) (p : Nat) : Nat × EgressQueue × Copy × Buffer := ((ready (atTime s 5) p).getLast?).getD (0, EgressQueue.atReset 0, ⟨0, 0, 0, 0, false⟩, bufA)
def ent0 : Nat × EgressQueue × Copy × Buffer := ent sEgress 12
def cls0 : Machine.ClassState := ((pickClass (ethGet sEgress 12).classes (eligible (atTime sEgress 5) 12)).map (·.2)).getD EthPort.atReset.classes
def sEgr16 : Machine.State := after (.portPacketIn { pkt with dest := 17, port := 18 }) (up .ready)
def ent16 : Nat × EgressQueue × Copy × Buffer := ent sEgr16 17
def portD : Bytes := [(0, 1, 1), (1, 1, 2), (2, 1, 3), (4, 2, 9216)].foldl put (zeros 32)
def pxD : Bytes := [(0, 1, 3), (1, 1, 4), (2, 1, 1), (4, 2, 3072), (6, 2, 100), (10, 2, 16384)].foldl put (zeros 32)
def xMac : SecurityState := { SecurityState.atReset with keys := [(5, ⟨3, zeros 32, 1⟩)] }
def sMac (l : List (Nat × Nat × Nat)) : Machine.State := secd (sub (offi (up .ready)) 0 (cmd 0x51 l)) xMac
def macL : List (Nat × Nat × Nat) := [(24, 1, 12), (25, 1, 1), (26, 1, 3), (28, 2, 5)]
def flowD : Bytes := [(0, 1, 2), (2, 2, 0xFFFF), (8, 2, 0xFFFF), (10, 2, 0xFFFF), (24, 1, 3)].foldl put (zeros 96)
def gclD : Bytes := [(8, 4, 1000), (12, 2, 1), (32, 1, 255), (36, 4, 8)].foldl put (zeros 40)
def gl : GateList := ⟨0, 1000, [(255, 1000)]⟩
def ethS (e : EthPort) : Machine.State := ethUp 12 e (up .ready)
def eNext : EthPort := { eUp with nextGates := some (0, gl) }
def eGate : EthPort := { eUp with gates := some gl }
def eXoff : EthPort := { eUp with xoff := [(3, 5)] }
def mergeD : Bytes := [(0, 1, 2), (10, 2, 8), (16, 4, 1000), (20, 4, 100)].foldl put (zeros 96)
def sMerge : Machine.State := { up .ready with
  sw := { SwitchState.atReset with buffers := [(7, { bufA with arrived := 0 })] }
  net := { NetState.atReset with flows := [(9, ⟨mergeD, 0, []⟩)], merges := [(9, { expected := some 4, held := [(5, 7)], lastA := 0, lastB := 0, downA := false, downB := false, lost := [] })] } }
def eDown : EthPort := { EthPort.atReset with cfg := { EthConfig.default with enable := true } }
def key1 : Bytes := [(0, 1, 1), (2, 2, 4094), (9, 1, 7), (20, 1, 0), (21, 1, 49)].foldl put (zeros 32)
def ent1 : EmtEntry := ⟨1, true, keyOfSlots key1, resultOf key1, 0, 0⟩
def slot1 : Nat := emtBucket 0 (keyOfSlots key1)
def tabS (t : TableState) (s : Machine.State) : Machine.State := { s with tables := t }
def tab1 : TableState := { TableState.atReset with emt := [(slot1, ent1)], routes := [⟨4, 8, 10, 3⟩] }
def insL : List (Nat × Nat × Nat) := [(16, 4, 32)]
def dyn (port age mv : Nat) : EmtEntry := ⟨1, false, l2Key 1 7, ⟨0, port, 0, 0xFFFFFFFF⟩, age, mv⟩
def slotL : Nat := emtBucket 0 (l2Key 1 7)
def tabL (k port mv : Nat) (flap : Bool) : TableState := { TableState.atReset with
  emt := if k = 0 then [] else [(slotL, dyn port 0 mv)], requests := [⟨k, 15, 1, 7⟩],
  ports := [(15, { LearnPort.default with flapping := flap })] }
def sTab (t : TableState) : Machine.State := tabS t (up .ready)
def ptpD : Bytes := [(0, 1, 5), (1, 1, 127), (6, 1, 0xF9), (7, 1, 0xFD), (8, 1, 1), (9, 1, 10), (10, 1, 3), (12, 4, 1000), (16, 4, 500000), (20, 4, 1), (24, 8, 77)].foldl put (zeros 32)
def sPtp (p : PtpState) : Machine.State := { ethUp 0 eUp (up .ready) with net := { NetState.atReset with ports := [(0, eUp)], ptp := p } }
def pSlave : PtpState := { PtpState.atReset with state := 3, slavePort := 0 }
def pMaster : PtpState := { PtpState.atReset with state := 4 }
def pOne : PtpState := { PtpState.atReset with state := 4, cfg := { PtpConfig.default with flags := 3 } }
def pPps : PtpState := { PtpState.atReset with cfg := { PtpConfig.default with mode := 5, tod := 9 } }
def pin (kind : Nat) (o : Int) : PtpIn := { port := 0, domain := 127, kind := kind, t := 5, offset := o, meanPath := 3, freq := 7, gm := 9, bmcState := 3 }
def rtL : List (Nat × Nat × Nat) := [(24, 1, 4), (25, 1, 8), (28, 1, 10)]
def tabR (n : Nat) : TableState := { TableState.atReset with routes := (List.range n).map (fun k => ⟨6, 64, k * 2 ^ 40, 3⟩) }
def tabH : TableState := { TableState.atReset with routes := [⟨4, 8, routePfx (cmd 0x5C rtL), 3⟩] }
def sRoute : Machine.State := tabS tabH (acmd 0x5C rtL)
def sRouteD : Machine.State := tabS tabH (acmd 0x5D rtL)
def sRouteF : Machine.State := tabS (tabR 8192) (acmd 0x5C rtL)
def fab (m : OpMode) (f : FabricState) : Machine.State := { up m with fabric := f }
def mem0 : Member := { serial := 77, version := 0, fw := 0, headless := false, quarantined := false, status := 1, offset := 0, gm := 0, lastRenew := 0, unqualSince := none, ackedEpoch := true, naked := 0, roles := [] }
def fIn : FabricState := { FabricState.atReset with joined := true, member := 1, manager := 0, term := 3, epoch := 4, fabricId := 9, group := zeros 16 }
def fMan : FabricState := { FabricState.atReset with joined := true, member := 0, manager := 0, term := 3, epoch := 4, fabricId := 9, members := [(0, mem0), (5, mem0)], group := zeros 16 }
def onF (s : Machine.State) (op : Nat) (l : List (Nat × Nat × Nat)) : Machine.State := sub s 0 (cmd op l)
def hd (term epoch dest : Nat) : ClpHdr := { macsec := true, verMajor := 1, fabric := 9, sender := 5, dest := dest, term := term, epoch := epoch, seq := 2, ackReq := true, t := 5 }
def fJoin : FabricState := { fIn with joined := false, joining := some (some adm, 0), joinSeen := true }
def fHead : FabricState := { FabricState.atReset with rejoinAt := some 5 }
def sHead : Machine.State := { fab .ready fHead with foreman := { ForemanState.atReset with platform := { PlatformCfg.default with headless := true, fabricId := 3, groupAddress := zeros 16 } } }
def fLease : FabricState := { fIn with leaseEnd := some 500 }
def fStb : FabricState := { fIn with qualified := true, lastHello := some 0 }
/-- A session of fabric session 7 whose regions 0 and 1 live on members 1 and 5. -/
def xF : Session := { xRun ecfg [] [] with dist := { DistState.empty with fabricSession := 7, regions := [(0, 1), (1, 5)], roles := [(0, 0)] } }
def sF (m : OpMode) (f : FabricState) (x : Session) : Machine.State := withS (fab m f) x
def ust (fl : Nat) : UnitStats := { bits := 5, qpSum := 3, complexity := 1, charge := 0, lossless := 0, retries := 0, minPsnr := 0, flags := fl, bins := [] }
def dvg : Divergence := { frame := 2, unit := 0, first := (1, none), second := (5, none), referee := some 5, since := 0 }
def dvn : Divergence := { frame := 2, unit := 0, first := (1, none), second := (5, none), referee := none, since := 0 }
def xDiv : Session := { xF with dist := { xF.dist with diverging := [dvg] } }
def xDvn : Session := { xF with dist := { xF.dist with diverging := [dvn] } }
def una (kind tries : Nat) : Unacked := { dest := 5, seq := 8, kind := kind, tries := tries, sentAt := 0, fields := [1] }
def fUna (kind tries : Nat) : FabricState := { fIn with unacked := [una kind tries] }
def fQual : FabricState := { fIn with qualSince := some 0 }
def pQual : PtpState := { PtpState.atReset with state := 3 }
def sQual : Machine.State := { fab .worker fQual with net := { NetState.atReset with ptp := pQual } }
def memU : Member := { mem0 with unqualSince := some 0 }
def fMu : FabricState := { fMan with members := [(0, mem0), (5, memU)] }
def unitF : UnitRec := { unitDone with }
def frF : EncFrame := fr [unitDone] 1
def cmt (h : ClpHdr) : Instr := .commit h 7 3 0 0
def fHeld : FabricState := { fIn with heldMsgs := [(.flapClear 0 0, 6, 0)] }
def frag (crc : Nat) : SliceFrag := { flags := 1, index := 0, session := 7, epoch := 4, frame := 2, offset := 0, region := 1, crc := crc, sender := 5, data := [1, 2, 3] }
def xShadow : Session := { xF with dist := { xF.dist with roles := [(1, 3)] } }
def xColl : Session := { xF with dist := { xF.dist with roles := [(1, 2)] } }
def xOutc : Session := { xColl with dist := { xColl.dist with outcast := [(1, 5)] } }
def xDup : Session := { xColl with dist := { xColl.dist with slices := [(2 * 4096, [1])] } }
def xUn (kind : Nat) : Session := { xF with enc := { xF.enc with frames := [frF] }, dist := { xF.dist with unacked := [(0, 0, kind, 0)] } }
def memH : Member := { mem0 with headless := true }
def fHl : FabricState := { fMan with members := [(0, mem0), (5, memH)] }
def fMan9 : FabricState := { fMan with member := 9 }
def frS : EncFrame := { fr [unitRun] 1 with ts := [none, none, none, some 0] }
def xSt : Session := { xF with enc := { xF.enc with frames := [frS] }, dist := { xF.dist with regions := [(0, 5)] } }
def hdOld : ClpHdr := { hd 0 0 0 with verMajor := 2 }
def hdNew : ClpHdr := { hd 0 0 0 with sender := 0xFFFF }
def hdBare : ClpHdr := { hd 3 4 1 with macsec := false }
/-- Addresses whose keys have the two hash values of address 7. -/
def clashes : List Nat := [270339091, 795073901, 1323022022, 1065275769, 1590082258, 1639476140, 1906665400, 2282620429]
def key7 : Bytes := [(0, 1, 1), (2, 2, 1), (9, 1, 7)].foldl put (zeros 32)
def fullEmt : Tbl EmtEntry := clashes.zipIdx.map (fun p =>
  ((if p.2 < 4 then 65520 else 69284) + p.2 % 4, ⟨1, true, l2Key 1 p.1, ⟨0, 0, 0, 0⟩, 0, 0⟩))
def sEmtFull : Machine.State := tabS { TableState.atReset with emt := fullEmt } (acmd 0x58 insL)
def ent7 : EmtEntry := ⟨1, true, keyOfSlots key7, resultOf key7, 0, 0⟩
def lcD : Machine.State := officer (sub (up .ready) 0 (cmd 0x8D [(24, 1, 1), (16, 4, 97)]))
def sPend : Machine.State := { State.reset with pending := [.powerRemoved] }
def sOff : Machine.State := after .powerRemoved State.reset

/-! ### The shared premises -/

/-- A command is there, started, and its fields and data pass their checks. -/
theorem starts_of {s : Machine.State} {r : CmdRef} {op : Nat} {i : InFlight}
    (h : startOf s r op = some i ∧ startCheck (markStarted s r) r.fn i.entry = none ∧
      dataBad (markStarted s r) r.fn i.entry = false) : Starts s r op i := ⟨h.1, h.2.1, h.2.2⟩

/-- A message of the session that the device takes. -/
theorem heard_of {s : Machine.State} {h : ClpHdr}
    (p : asleep s = false ∧ h.macsec = true ∧ h.fabric = s.fabric.fabricId ∧ h.verMajor = 1 ∧ s.fabric.joined = true ∧
      s.fabric.term ≤ h.term ∧ (s.mode = .manager → h.term = s.fabric.term) ∧ h.epoch ≤ heldEpoch s ∧
      rxDup s h = false) : Heard s h :=
  ⟨p.1, p.2.1, p.2.2.1, p.2.2.2.1, p.2.2.2.2.1, p.2.2.2.2.2.1, p.2.2.2.2.2.2.1, p.2.2.2.2.2.2.2.1,
   p.2.2.2.2.2.2.2.2⟩

/-! ### A term that each check of WellFormed refuses -/

theorem test_wf_cores : (Instr.coreSleep 28).wf = false ∧ (Instr.coreSleep 27).wf = true := by decide
theorem test_wf_clusters : (Instr.clusterPllOff 4).wf = false ∧ (Instr.clusterPllOff 3).wf = true := by decide
theorem test_wf_ethernet_ports : (Instr.ethLinkUp 16 0).wf = false ∧ (Instr.ethLinkUp 15 0).wf = true := by decide
theorem test_wf_pixel_ports : (Instr.pxFifoRead 4).wf = false ∧ (Instr.pxFifoRead 3).wf = true := by decide
theorem test_wf_functions : (Instr.flr 64).wf = false ∧ (Instr.flr 63).wf = true := by decide
theorem test_wf_channels : (Instr.dmaArm 16 0).wf = false ∧ (Instr.dmaArm 15 0).wf = true := by decide
theorem test_wf_pseudo_channels : (Instr.bulkPromotion 64 0).wf = false ∧ (Instr.bulkPromotion 63 0).wf = true := by decide
theorem test_wf_stacks : (Instr.hbmTempRead 2 85 0).wf = false ∧ (Instr.hbmTempRead 1 85 0).wf = true := by decide
theorem test_wf_vectors :
    (Instr.registerWrite 0 (.msixMask 2048) 1).wf = false ∧ (Instr.registerWrite 0 (.msixMask 2047) 1).wf = true := by decide
theorem test_wf_sub_ports :
    (Instr.portPacketIn { pkt with port := 15 }).wf = false ∧ (Instr.portPacketIn { pkt with port := 45 }).wf = true := by
  decide
theorem test_wf_pools : (Instr.poolCacheRefill 8).wf = false ∧ (Instr.poolCacheRefill 7).wf = true := by decide
theorem test_wf_engines : (Instr.cuStart 0 7 []).wf = false ∧ (Instr.cuStart 0 6 []).wf = true := by decide
theorem test_wf_egress_ports : (Instr.pantryRetry 46 0).wf = false ∧ (Instr.pantryRetry 45 0).wf = true := by decide
theorem test_wf_flows : (Instr.mergeLostTimeout 16384 0).wf = false ∧ (Instr.mergeLostTimeout 16383 0).wf = true := by decide
theorem test_wf_queues : (Instr.queueAvgDecay 4096 0).wf = false ∧ (Instr.queueAvgDecay 4095 0).wf = true := by decide
theorem test_wf_sensors : (Instr.sensorTrim 64 0).wf = false ∧ (Instr.sensorTrim 63 0).wf = true := by decide
theorem test_wf_arrays : (Instr.sramScrub 1 28 0 0 0).wf = false ∧ (Instr.sramScrub 5 0 0 0 0).wf = false := by decide
theorem test_wf_addresses :
    (Instr.patrolScrub (2 ^ 40) 0 0).wf = false ∧ (Instr.patrolScrub 0 0 0).wf = true := by decide
theorem test_wf_error_ports :
    (Instr.errorPortEvent (.dma 32) .dmaParity 0 0).wf = false ∧ (Instr.errorPortEvent (.dma 31) .dmaParity 0 0).wf = true := by
  decide
theorem test_wf_fenced_units :
    (Instr.fenceEffect (.ethPort 16) 0).wf = false ∧ (Instr.fenceEffect .dmaHost 0).wf = true := by decide
theorem test_wf_registers :
    (Instr.registerWrite 0 (.dmaStatus 16) 1).wf = false ∧ (Instr.registerWrite 0 .intrCause 1).wf = true := by decide

/-- A command that names a unit that the part does not have stops by that name. -/
theorem test_absent_unit_stops : exec (.coreSleep 28) State.reset = .fault .noSuchUnit := rfl
/-- A command waits in the queue, and the step takes it. -/
theorem test_step_takes_the_front : step sPend = exec .powerRemoved State.reset := rfl
/-- The empty queue idles. -/
theorem test_step_idles : step State.reset = .next State.reset := rfl

/-! ### Results that the manual prints -/

/-- The reference picture: 8K 4:2:2 10-bit VVC at effort 4 and 60,000 / 1,001 pictures per second, four tile columns,
two refresh columns, a luma floor of 42 dB, ENTROPY_BPP 1. -/
def refc : Bytes := [(0x44, 2, 7680), (0x46, 2, 4320), (0x48, 4, 60000), (0x4C, 4, 1001), (0x91, 1, 1), (0x92, 1, 4),
  (0x93, 1, 1), (0x94, 1, 1), (0x8E, 2, 2), (0x120, 2, 0x2A00), (0x126, 1, 2), (0x127, 1, 3), (0x128, 1, 10),
  (0x19A, 2, 1)].foldl put ecfg
/-- The AVC picture of R21's example: 4:2:0 at effort 4. -/
def avcc : Bytes := [(0x00, 1, 2), (0x42, 1, 1), (0x5C, 1, 0xFF), (0xE0, 8, 0)].foldl put refc

/-- R21: an AVC macroblock of 4:2:0 at effort 4 is scheduled at 194 cycles. -/
theorem test_avc_cost : pipelineCost avcc = 194 := by decide +kernel
/-- The reference band: four tile columns of 15 CTUs; one unit needs 393,000 cycles. -/
theorem test_reference_band : tileCols refc = [15, 15, 15, 15] ∧ 15 * schedCost refc = 393000 := by decide +kernel
/-- The sweep of the reference picture takes 30 pictures. -/
theorem test_sweep_period : sweepLen refc = 30 := by decide +kernel
/-- The Ladle ring of the reference band is 1,572,864 bytes. -/
theorem test_ladle_ring : maxCuBytes refc = 51264 ∧ ladleBytes refc = 1572864 := by decide +kernel
/-- The 8K 4:2:2 10-bit source buffer, in PLANAR and in PACKED10. -/
theorem test_source_buffer :
    srcBytes (put refc (0x41, 1, 0)) = 132710400 ∧ srcBytes (put refc (0x41, 1, 2)) = 88473600 := by decide +kernel
/-- The submitted 8K source takes RATE 27. -/
theorem test_dma_rate : dmaUnits (fracMul (rateOf refc) (fracOf 132710400)) = 27 := by decide +kernel
/-- At RATE 27 the next 512-byte burst starts 38 cycles after the last, and at RATE 100 it starts after 11. -/
theorem test_burst_spacing :
    rateAllows { cRun with actCfg := 0x1B04, lastBurst := some (0, 512) } 37 = false ∧
    rateAllows { cRun with actCfg := 0x1B04, lastBurst := some (0, 512) } 38 = true ∧
    rateAllows { cRun with actCfg := 0x6408, lastBurst := some (0, 512) } 10 = false ∧
    rateAllows { cRun with actCfg := 0x6408, lastBurst := some (0, 512) } 11 = true := by decide +kernel
/-- The floor-bound unit of the manual: its budget, a retry's charge and a lossless recode's. -/
theorem test_floor_bound_unit :
    unitBudget refc 15 = 39300 ∧ retryCharge refc = 32750 ∧ losslessCharge refc 180000 = 45000 := by decide +kernel
/-- Levels are coded as the standards code them: VVC 6.3, HEVC 6.2, AVC 6.2, AV1 6.3 (Table 2.8). -/
theorem test_highest_levels : (List.range 4).map highestLevel = [105, 186, 62, 19] := by decide
/-- At the first start the spares are cores 6, 13, 20 and 27. -/
theorem test_first_spares :
    (List.range 4).map (fun k => (clGet (after (.secureBoot boot) State.reset) k).spare) = [some 6, some 13, some 20, some 27] := by
  decide +kernel
/-- PSNR by hand: an error of the full peak measures 0 dB, of a tenth of its square 10 dB, of none 0xFFFF. -/
theorem test_psnr : psnrCode 1 8 65025 = 0 ∧ psnrCode 1 8 6502 = 2560 ∧ psnrCode 1 8 0 = 0xFFFF := by decide +kernel
/-- A yellow copy of profile 1 that meets avg = 512 KiB: 64 of 256 over half the ramp, so one draw in eight drops. -/
theorem test_drop_ramp :
    let c := curveOf DropProfile.default 1
    c.p * (524288 - c.lo) * 8 = 256 * (c.hi - c.lo) := by decide
/-- The check values of the two CRCs on "123456789". -/
theorem test_crcs : crc32 (ascii "123456789") = 0xCBF43926 ∧ crc32c (ascii "123456789") = 0xE3069283 := by decide +kernel
/-- Multi-byte fields are little-endian. -/
theorem test_byte_order : le 4 0x12345678 = [0x78, 0x56, 0x34, 0x12] ∧ u32 (le 4 0x12345678) 0 = 0x12345678 := by
  decide +kernel


/-! ### Every statement's premises are met somewhere -/

theorem witness_PackingFifoKeepsItsBytes :
    ((PackFifo.empty 2 2 1).low < (PackFifo.empty 2 2 1).high ∧
      List.length (PackFifo.empty 2 2 1).filling < 64 ∧
      (PackFifo.empty 2 2 1).capacity * 64 <
          (PackFifo.empty 2 2 1).words.length * 64 + List.length (PackFifo.empty 2 2 1).filling + List.length (zeros 129)) ∧
    (fifoWrite [] (zeros 128) (PackFifo.empty 2 2 1) = fifoWrite [] (zeros 128) (PackFifo.empty 2 2 1) ∧
      (PackFifo.empty 2 2 1).low < (PackFifo.empty 2 2 1).high ∧
      List.length (PackFifo.empty 2 2 1).filling < 64 ∧
      (PackFifo.empty 2 2 1).words.length * 64 + List.length (PackFifo.empty 2 2 1).filling + List.length (zeros 128) ≤
          (PackFifo.empty 2 2 1).capacity * 64) ∧
    ((seed [1]).low < (seed [1]).high ∧
      List.length (seed [1]).filling < 64 ∧
      (seed [1]).filling ≠ []) ∧
    ((seed []).low < (seed []).high ∧
      List.length (seed []).filling < 64 ∧
      (seed []).filling = []) ∧
    ((fifoWrite [] (zeros 65) (seed [])).low < (fifoWrite [] (zeros 65) (seed [])).high ∧
      List.length (fifoWrite [] (zeros 65) (seed [])).filling < 64 ∧
      (fifoWrite [] (zeros 65) (seed [])).words = [{ bytes := zeros 64, ended := false, tag := [] }]) ∧
    ((seed []).low < (seed []).high ∧
      List.length (seed []).filling < 64 ∧
      (seed []).words.length * 64 + List.length (seed []).filling + List.length (zeros 128) ≤ (seed []).capacity * 64 ∧
      (fifoWrite [] (zeros 128) (seed []) = fifoWrite [] (zeros 128) (seed []) ∨
          fifoWrite [] (zeros 128) (seed []) = (fifoRead (seed [])).snd ∧ (seed []).words ≠ [])) ∧
    ((seed []).low < (seed []).high ∧
      List.length (seed []).filling < 64 ∧
      (seed []).words.length * 64 + List.length (seed []).filling + List.length (zeros 64) ≤ (seed []).capacity * 64 ∧
      (fifoWrite [] (zeros 64) (seed []) = fifoWrite [] (zeros 64) (seed []) ∨
          fifoWrite [] (zeros 64) (seed []) = (fifoRead (seed [])).snd ∧ (seed []).words ≠ [])) :=
  ⟨by decide +kernel,
   ⟨rfl, by decide +kernel⟩,
   by decide +kernel,
   by decide +kernel,
   by decide +kernel,
   by decide +kernel,
   by decide +kernel⟩

theorem witness_SpareIsTheMostAgedCore :
    (exec (Instr.secureBoot boot) State.reset = Host.Outcome.next (after (Instr.secureBoot boot) State.reset) ∧
      State.reset.mode = OpMode.secureBoot ∧
      State.reset.power.supplies = true ∧
      State.reset.hbm.hotWait = false ∧
      chooseSlot (atTime State.reset boot.t) boot = (some 0, (chooseSlot (atTime State.reset 0) boot).snd) ∧
      3 < 4 ∧
      (after (Instr.secureBoot boot) State.reset).hbm.hotWait = false) :=
  ⟨rfl, by decide +kernel⟩

theorem witness_DeviceCommandsComplete :
    (Starts (sub (up OpMode.ready) 0 (cmd 1 [(16, 4, 256)])) adm 1 (flight (cmd 1 [(16, 4, 256)])) ∧
      256 ≤ cmdDataLen (flight (cmd 1 [(16, 4, 256)])).entry ∧
      u8 (flight (cmd 1 [(16, 4, 256)])).entry 24 = 0) ∧
    (Starts (sub (up OpMode.ready) 0 (cmd 1 [(16, 4, 256), (24, 1, 1)])) adm 1 (flight (cmd 1 [(16, 4, 256), (24, 1, 1)])) ∧
      256 ≤ cmdDataLen (flight (cmd 1 [(16, 4, 256), (24, 1, 1)])).entry ∧
      u8 (flight (cmd 1 [(16, 4, 256), (24, 1, 1)])).entry 24 = 1) ∧
    (Starts (sub (up OpMode.ready) 0 (cmd 3 [(32, 2, 4096)])) adm 3 (flight (cmd 3 [(32, 2, 4096)])) ∧
      u64 (flight (cmd 3 [(32, 2, 4096)])).entry 24 % 4096 = 0 ∧
      depthOk (u16 (flight (cmd 3 [(32, 2, 4096)])).entry 32) = true ∧
      u16 (flight (cmd 3 [(32, 2, 4096)])).entry 34 < vectors adm.fn) ∧
    (Starts (sub (up OpMode.ready) 0 (cmd 4 [(24, 2, 63), (26, 2, 64), (48, 2, 1000)])) adm 4
          (flight (cmd 4 [(24, 2, 63), (26, 2, 64), (48, 2, 1000)])) ∧
      qpGet (markStarted (sub (up OpMode.ready) 0 (cmd 4 [(24, 2, 63), (26, 2, 64), (48, 2, 1000)])) adm) adm.fn
            (u16 (flight (cmd 4 [(24, 2, 63), (26, 2, 64), (48, 2, 1000)])).entry 24) =
          none ∧
      1 ≤ u16 (flight (cmd 4 [(24, 2, 63), (26, 2, 64), (48, 2, 1000)])).entry 24 ∧
      u16 (flight (cmd 4 [(24, 2, 63), (26, 2, 64), (48, 2, 1000)])).entry 24 ≤
          (fnGet (sub (up OpMode.ready) 0 (cmd 4 [(24, 2, 63), (26, 2, 64), (48, 2, 1000)])) adm.fn).qpGrant - 1 ∧
      2 ≤ u16 (flight (cmd 4 [(24, 2, 63), (26, 2, 64), (48, 2, 1000)])).entry 26 ∧
      u16 (flight (cmd 4 [(24, 2, 63), (26, 2, 64), (48, 2, 1000)])).entry 26 ≤ 64 ∧
      u16 (flight (cmd 4 [(24, 2, 63), (26, 2, 64), (48, 2, 1000)])).entry 28 < vectors adm.fn ∧
      u64 (flight (cmd 4 [(24, 2, 63), (26, 2, 64), (48, 2, 1000)])).entry 32 % 4096 = 0 ∧
      u64 (flight (cmd 4 [(24, 2, 63), (26, 2, 64), (48, 2, 1000)])).entry 40 % 4096 = 0 ∧
      u16 (flight (cmd 4 [(24, 2, 63), (26, 2, 64), (48, 2, 1000)])).entry 48 ≤ 1000) ∧
    (Starts (pair2 (sub (up OpMode.ready) 0 (cmd 5 [(24, 2, 1)])) false) adm 5 (flight (cmd 5 [(24, 2, 1)])) ∧
      qpGet (markStarted (pair2 (sub (up OpMode.ready) 0 (cmd 5 [(24, 2, 1)])) false) adm) adm.fn
            (u16 (flight (cmd 5 [(24, 2, 1)])).entry 24) =
          some
            ((qpGet (pair2 (sub (up OpMode.ready) 0 (cmd 5 [(24, 2, 1)])) false) 0 1).getD (QueuePair.make 0 0 0 0 0 0 0 0)) ∧
      u16 (flight (cmd 5 [(24, 2, 1)])).entry 24 ≠ 0 ∧
      ((qpGet (pair2 (sub (up OpMode.ready) 0 (cmd 5 [(24, 2, 1)])) false) 0 1).getD
              (QueuePair.make 0 0 0 0 0 0 0 0)).deleting =
          none) ∧
    (Starts (sub (up OpMode.ready) 0 (cmd 10 [(24, 2, 1)])) adm 10 (flight (cmd 10 [(24, 2, 1)])) ∧
      inFlight (markStarted (sub (up OpMode.ready) 0 (cmd 10 [(24, 2, 1)])) adm)
            { fn := adm.fn, qid := u16 (flight (cmd 10 [(24, 2, 1)])).entry 24,
              cid := u16 (flight (cmd 10 [(24, 2, 1)])).entry 26 } =
          none) ∧
    (Starts (pair2 (sub (up OpMode.ready) 0 (cmd 10 [(24, 2, 1), (26, 2, 5)])) true) adm 10
          (flight (cmd 10 [(24, 2, 1), (26, 2, 5)])) ∧
      inFlight (markStarted (pair2 (sub (up OpMode.ready) 0 (cmd 10 [(24, 2, 1), (26, 2, 5)])) true) adm)
            { fn := adm.fn, qid := u16 (flight (cmd 10 [(24, 2, 1), (26, 2, 5)])).entry 24,
              cid := u16 (flight (cmd 10 [(24, 2, 1), (26, 2, 5)])).entry 26 } =
          some (waiting5 true) ∧
      (waiting5 true).started = true) ∧
    (Starts (pair2 (sub (up OpMode.ready) 0 (cmd 10 [(24, 2, 1), (26, 2, 5)])) false) adm 10
          (flight (cmd 10 [(24, 2, 1), (26, 2, 5)])) ∧
      inFlight (markStarted (pair2 (sub (up OpMode.ready) 0 (cmd 10 [(24, 2, 1), (26, 2, 5)])) false) adm)
            { fn := adm.fn, qid := u16 (flight (cmd 10 [(24, 2, 1), (26, 2, 5)])).entry 24,
              cid := u16 (flight (cmd 10 [(24, 2, 1), (26, 2, 5)])).entry 26 } =
          some (waiting5 false) ∧
      (waiting5 false).started = false) ∧
    (Starts (sub (up OpMode.ready) 0 (cmd 2 [(24, 1, 5)])) adm 2 (flight (cmd 2 [(24, 1, 5)])) ∧
      u8 (flight (cmd 2 [(24, 1, 5)])).entry 24 < 12) ∧
    (Starts (sub (up OpMode.ready) 0 (cmd 2 [(24, 1, 10)])) adm 2 (flight (cmd 2 [(24, 1, 10)])) ∧
      u8 (flight (cmd 2 [(24, 1, 10)])).entry 24 < 12) ∧
    (Starts (sub (up OpMode.standalone) 0 (cmd 2 [(24, 1, 4)])) adm 2 (flight (cmd 2 [(24, 1, 4)])) ∧
      u8 (flight (cmd 2 [(24, 1, 4)])).entry 24 < 12) ∧
    (Starts (sub (up OpMode.maintenance) 0 (cmd 2 [(24, 1, 4)])) adm 2 (flight (cmd 2 [(24, 1, 4)])) ∧
      u8 (flight (cmd 2 [(24, 1, 4)])).entry 24 < 12) :=
  ⟨⟨starts_of (by decide +kernel), by decide +kernel⟩,
   ⟨starts_of (by decide +kernel), by decide +kernel⟩,
   ⟨starts_of (by decide +kernel), by decide +kernel⟩,
   ⟨starts_of (by decide +kernel), rfl, by decide +kernel⟩,
   ⟨starts_of (by decide +kernel), rfl, by decide +kernel⟩,
   ⟨starts_of (by decide +kernel), by decide +kernel⟩,
   ⟨starts_of (by decide +kernel), by decide +kernel⟩,
   ⟨starts_of (by decide +kernel), by decide +kernel⟩,
   ⟨starts_of (by decide +kernel), by decide +kernel⟩,
   ⟨starts_of (by decide +kernel), by decide +kernel⟩,
   ⟨starts_of (by decide +kernel), by decide +kernel⟩,
   ⟨starts_of (by decide +kernel), by decide +kernel⟩⟩

theorem witness_DoorbellsAndFetchesComplete :
    (qpGet (pair2 (up OpMode.ready) false) 0 1 =
          some ((qpGet (pair2 (up OpMode.ready) false) 0 1).getD (QueuePair.make 0 0 0 0 0 0 0 0)) ∧
      asleep (pair2 (up OpMode.ready) false) = false ∧
      fnExists (pair2 (up OpMode.ready) false) 0 = true ∧
      (doorbell 15).toNat % 128 < ((qpGet (pair2 (up OpMode.ready) false) 0 1).getD (QueuePair.make 0 0 0 0 0 0 0 0)).depth) ∧
    (qpGet (pair2 (up OpMode.ready) false) 0 1 =
          some ((qpGet (pair2 (up OpMode.ready) false) 0 1).getD (QueuePair.make 0 0 0 0 0 0 0 0)) ∧
      asleep (pair2 (up OpMode.ready) false) = false ∧
      fnExists (pair2 (up OpMode.ready) false) 0 = true ∧
      ((qpGet (pair2 (up OpMode.ready) false) 0 1).getD (QueuePair.make 0 0 0 0 0 0 0 0)).depth ≤ (doorbell 16).toNat % 128) ∧
    (qpGet sFetch 0 0 = some ((qpGet sFetch 0 0).getD qFin) ∧
      asleep sFetch = false ∧
      fnExists sFetch 0 = true ∧
      sFetch.ready = true ∧
      fetchTurn sFetch (qpKey 0 0) = true) ∧
    (qpGet sCoal 0 1 = some ((qpGet sCoal 0 1).getD qFin) ∧
      asleep sCoal = false ∧
      fnExists sCoal 0 = true ∧
      ((qpGet sCoal 0 1).getD qFin).unannounced ≠ 0 ∧
      ((qpGet sCoal 0 1).getD qFin).oldestAt + ((qpGet sCoal 0 1).getD qFin).coalUs * 1000 ≤ 10000) ∧
    (qpGet sTimeout 0 1 = some ((qpGet sTimeout 0 1).getD qFin) ∧
      asleep sTimeout = false ∧
      fnExists sTimeout 0 = true ∧
      sTimeout.ready = true ∧
      inFlight sTimeout { fn := 0, qid := 1, cid := 5 } = some (waiting5 true) ∧
      noBound (cmdOpcode (waiting5 true).entry) = false ∧
      (waiting5 true).fetched + 1000000000 ≤ 1000000000) ∧
    (qpGet sFin 0 0 = some qFin ∧
      qFin.fn = 0 ∧
      qFin.qid = 0 ∧
      qFin.deleting = none ∧
      qFin.flight = [flight (put (cmd 1 []) (1, 1, 2))] ∧
      (flight (put (cmd 1 []) (1, 1, 2))).reply = none ∧
      cmdNoIrq (flight (put (cmd 1 []) (1, 1, 2))).entry = true) :=
  ⟨⟨rfl, by decide +kernel⟩,
   ⟨rfl, by decide +kernel⟩,
   ⟨rfl, by decide +kernel⟩,
   ⟨rfl, by decide +kernel⟩,
   ⟨rfl, by decide +kernel⟩,
   ⟨rfl, by decide +kernel⟩⟩

theorem witness_FunctionRegistersComplete :
    (asleep (upFn fGood) = false ∧
      fnExists (upFn fGood) 0 = true ∧
      (upFn fGood).ready = true ∧
      (fnGet (upFn fGood) 0).mbEnable = false ∧
      (fnGet (upFn fGood) 0).mbEnabled = false ∧
      adminGood (fnGet (upFn fGood) 0) = true) ∧
    (asleep (up OpMode.ready) = false ∧
      fnExists (up OpMode.ready) 0 = true ∧
      (up OpMode.ready).ready = true ∧
      (fnGet (up OpMode.ready) 0).mbEnable = false ∧
      (fnGet (up OpMode.ready) 0).mbEnabled = false ∧
      adminGood (fnGet (up OpMode.ready) 0) = false) ∧
    (asleep (upFn fOn) = false ∧
      fnExists (upFn fOn) 0 = true ∧
      (fnGet (upFn fOn) 0).mbEnable = true ∧
      fnPairs (upFn fOn) 0 = []) ∧
    (asleep (up OpMode.ready) = false ∧
      fnExists (up OpMode.ready) 0 = true ∧
      (fnGet (up OpMode.ready) 0).intrCause &&& (fnGet (up OpMode.ready) 0).intrMask &&& ~~~(1023 &&& 511) = 0) ∧
    (asleep (upFn fCause) = false ∧
      fnExists (upFn fCause) 0 = true ∧
      (fnGet (upFn fCause) 0).intrCause &&& (fnGet (upFn fCause) 0).intrMask &&& ~~~(0 &&& 511) ≠ 0) ∧
    (asleep (upFn fPend) = false ∧
      fnExists (upFn fPend) 0 = true ∧
      255 < vectors 0 ∧
      (fnGet (upFn fPend) 0).vecPending.contains 255 = true) ∧
    (asleep sVf = false ∧
      fnExists sVf 63 = true) ∧
    (asleep (upFn fCause) = false ∧
      fnExists (upFn fCause) 0 = true) ∧
    (asleep (up OpMode.ready) = false ∧
      fnExists (up OpMode.ready) 0 = true ∧
      (fnGet (up OpMode.ready) 0).mbEnabled = false) ∧
    (asleep (upFn fUp) = false ∧
      fnExists (upFn fUp) 0 = true ∧
      (fnGet (upFn fUp) 0).mbEnabled = true) ∧
    (asleep (upFn fUp) = false ∧
      fnExists (upFn fUp) 0 = true) :=
  ⟨by decide +kernel,
   by decide +kernel,
   by decide +kernel,
   by decide +kernel,
   by decide +kernel,
   by decide +kernel,
   by decide +kernel,
   by decide +kernel,
   by decide +kernel,
   by decide +kernel,
   by decide +kernel⟩

theorem witness_Bar2StaysInsideTheGrant :
    (asleep (up OpMode.ready) = false ∧
      fnExists (up OpMode.ready) 0 = true ∧
      Memory.wf (up OpMode.ready).hbm.mem = true) ∧
    (asleep (up OpMode.ready) = false ∧
      fnExists (up OpMode.ready) 0 = true ∧
      Memory.wf (up OpMode.ready).hbm.mem = true) ∧
    (asleep (up OpMode.ready) = false ∧
      fnExists (up OpMode.ready) 0 = true ∧
      Memory.wf (up OpMode.ready).hbm.mem = true ∧
      (up OpMode.ready).hbm.bad = []) ∧
    (asleep (up OpMode.ready) = false ∧
      fnExists (up OpMode.ready) 0 = true ∧
      Memory.wf (up OpMode.ready).hbm.mem = true) ∧
    (asleep (up OpMode.ready) = false ∧
      fnExists (up OpMode.ready) 0 = true ∧
      Memory.wf (up OpMode.ready).hbm.mem = true ∧
      (up OpMode.ready).hbm.bad = []) :=
  ⟨by decide +kernel,
   by decide +kernel,
   by decide +kernel,
   by decide +kernel,
   by decide +kernel⟩

theorem witness_DmaSetupCompletes :
    (asleep (up OpMode.ready) = false ∧
      15 < 16 ∧
      (dmaGet (up OpMode.ready) 15).handOver = none ∧
      (dmaGet (up OpMode.ready) 15).armed = false ∧
      (dmaGet (up OpMode.ready) 15).state = DmaState.idle) ∧
    (asleep (onCh cHalted) = false ∧
      15 < 16 ∧
      (dmaGet (onCh cHalted) 15).handOver = none ∧
      (dmaGet (onCh cHalted) 15).armed = false ∧
      (dmaGet (onCh cHalted) 15).state ≠ DmaState.idle) ∧
    (asleep (onCh cArmed) = false ∧
      15 < 16 ∧
      (dmaGet (onCh cArmed) 15).handOver = none ∧
      (dmaGet (onCh cArmed) 15).armed = true) ∧
    (asleep (up OpMode.ready) = false ∧
      15 < 16 ∧
      (dmaGet (up OpMode.ready) 15).handOver = none ∧
      (dmaGet (up OpMode.ready) 15).handedAt ≠ some 7) ∧
    (asleep (onCh cLate) = false ∧
      15 < 16 ∧
      (dmaGet (onCh cLate) 15).handOver = none ∧
      (dmaGet (onCh cLate) 15).handedAt = some 7) ∧
    (asleep (onCh cDue) = false ∧
      15 < 16 ∧
      (dmaGet (onCh cDue) 15).armed = true ∧
      (dmaGet (onCh cDue) 15).handOver = some 7 ∧
      setDefect (onCh cDue)
            (have __src := dmaGet (onCh cDue) 15;
            { owner := __src.owner, state := __src.state, armed := __src.armed, shadowLate := __src.shadowLate,
              done := __src.done, error := __src.error, mismatch := __src.mismatch, doneCount := __src.doneCount,
              doneVec := __src.doneVec, errVec := __src.errVec, shSrc := __src.shSrc, shDst := __src.shDst,
              shLen := __src.shLen, shCfg := __src.shCfg, shFill := __src.shFill, actSrc := __src.actSrc,
              actDst := __src.actDst, actCount := __src.actCount, actCfg := __src.actCfg, actFill := __src.actFill,
              setLen := __src.setLen, failAddr := __src.failAddr, failInfo := __src.failInfo,
              mismatchOff := __src.mismatchOff, beats := __src.beats, lastBurst := __src.lastBurst, handOver := none,
              handedAt := some 7, bytes := __src.bytes, halts := __src.halts }) =
          none) :=
  ⟨by decide +kernel,
   by decide +kernel,
   by decide +kernel,
   by decide +kernel,
   by decide +kernel,
   by decide +kernel⟩

theorem witness_DmaTransfersComplete :
    (asleep (onCh cRun) = false ∧
      15 < 16 ∧
      (dmaGet (onCh cRun) 15).handOver = none ∧
      (dmaGet (onCh cRun) 15).state = DmaState.running ∧
      (dmaGet (onCh cRun) 15).actCount ≠ 0 ∧
      rateAllows (dmaGet (onCh cRun) 15) 7 = true ∧
      (onCh cRun).canary.fencedUnits.contains FenceUnit.dmaHost = false) ∧
    (asleep (onCh cBeat) = false ∧
      15 < 16 ∧
      (dmaGet (onCh cBeat) 15).handOver = none ∧
      (dmaGet (onCh cBeat) 15).state = DmaState.running ∧
      (dmaGet (onCh cBeat) 15).beats = { src := 0, dst := 4096, len := 64, offset := 0 } :: noBeats ∧
      cfgMode (dmaGet (onCh cBeat) 15).actCfg = 1 ∧
      cfgDstHbm (dmaGet (onCh cBeat) 15).actCfg = false ∧
      (noBeats ≠ [] ∨ (dmaGet (onCh cBeat) 15).actCount ≠ 0)) ∧
    (asleep (onCh cBeat) = false ∧
      15 < 16 ∧
      (dmaGet (onCh cBeat) 15).handOver = none ∧
      (dmaGet (onCh cBeat) 15).state = DmaState.running ∧
      (dmaGet (onCh cBeat) 15).beats = [{ src := 0, dst := 4096, len := 64, offset := 0 }]) ∧
    (asleep (onCh cHalted) = false ∧
      15 < 16 ∧
      (dmaGet (onCh cHalted) 15).handOver = none ∧
      ((dmaGet (onCh cHalted) 15).state = DmaState.haltedError ∨ (dmaGet (onCh cHalted) 15).state = DmaState.haltedMismatch)) ∧
    (asleep (onCh cBeat) = false ∧
      15 < 16 ∧
      (dmaGet (onCh cBeat) 15).handOver = none) :=
  ⟨by decide +kernel,
   by decide +kernel,
   by decide +kernel,
   by decide +kernel,
   by decide +kernel⟩

theorem witness_ChannelOwnershipCompletes :
    (Starts (sub sVf 0 (cmd 160 [(24, 1, 15), (25, 1, 63)])) adm 160 (flight (cmd 160 [(24, 1, 15), (25, 1, 63)])) ∧
      u8 (flight (cmd 160 [(24, 1, 15), (25, 1, 63)])).entry 24 < 16 ∧
      fnExists (sub sVf 0 (cmd 160 [(24, 1, 15), (25, 1, 63)]))
            (u8 (flight (cmd 160 [(24, 1, 15), (25, 1, 63)])).entry 25) =
          true ∧
      (dmaGet (sub sVf 0 (cmd 160 [(24, 1, 15), (25, 1, 63)]))
              (u8 (flight (cmd 160 [(24, 1, 15), (25, 1, 63)])).entry 24)).state =
          DmaState.idle ∧
      (dmaGet (sub sVf 0 (cmd 160 [(24, 1, 15), (25, 1, 63)]))
              (u8 (flight (cmd 160 [(24, 1, 15), (25, 1, 63)])).entry 24)).armed =
          false ∧
      fencing (sub sVf 0 (cmd 160 [(24, 1, 15), (25, 1, 63)])) FenceUnit.dmaHost = false ∧
      (dmaGet (sub sVf 0 (cmd 160 [(24, 1, 15), (25, 1, 63)]))
              (u8 (flight (cmd 160 [(24, 1, 15), (25, 1, 63)])).entry 24)).owner ≠
          u8 (flight (cmd 160 [(24, 1, 15), (25, 1, 63)])).entry 25) ∧
    (Starts (sub (up OpMode.ready) 0 (cmd 160 [(24, 1, 15)])) adm 160 (flight (cmd 160 [(24, 1, 15)])) ∧
      u8 (flight (cmd 160 [(24, 1, 15)])).entry 24 < 16 ∧
      fnExists (sub (up OpMode.ready) 0 (cmd 160 [(24, 1, 15)])) (u8 (flight (cmd 160 [(24, 1, 15)])).entry 25) = true ∧
      (dmaGet (sub (up OpMode.ready) 0 (cmd 160 [(24, 1, 15)])) (u8 (flight (cmd 160 [(24, 1, 15)])).entry 24)).state =
          DmaState.idle ∧
      (dmaGet (sub (up OpMode.ready) 0 (cmd 160 [(24, 1, 15)])) (u8 (flight (cmd 160 [(24, 1, 15)])).entry 24)).armed =
          false ∧
      fencing (sub (up OpMode.ready) 0 (cmd 160 [(24, 1, 15)])) FenceUnit.dmaHost = false ∧
      (dmaGet (sub (up OpMode.ready) 0 (cmd 160 [(24, 1, 15)])) (u8 (flight (cmd 160 [(24, 1, 15)])).entry 24)).owner =
          u8 (flight (cmd 160 [(24, 1, 15)])).entry 25) ∧
    (Starts (sub (up OpMode.ready) 0 (cmd 161 [])) adm 161 (flight (cmd 161 []))) ∧
    (Starts (sub sVf 0 (cmd 11 [(24, 1, 63), (25, 1, 0), (28, 4, 1)])) adm 11
          (flight (cmd 11 [(24, 1, 63), (25, 1, 0), (28, 4, 1)])) ∧
      chkResources (markStarted (sub sVf 0 (cmd 11 [(24, 1, 63), (25, 1, 0), (28, 4, 1)])) adm)
            (flight (cmd 11 [(24, 1, 63), (25, 1, 0), (28, 4, 1)])).entry =
          none) :=
  ⟨⟨starts_of (by decide +kernel), by decide +kernel⟩,
   ⟨starts_of (by decide +kernel), by decide +kernel⟩,
   starts_of (by decide +kernel),
   ⟨starts_of (by decide +kernel), by decide +kernel⟩⟩

theorem witness_DeviceResetsClear :
    ((up OpMode.off).mode = OpMode.off) ∧
    (dead sSess = false ∧
      warmDue sSess WarmTrigger.resetN 5 = true ∧
      (WarmTrigger.resetN ≠ WarmTrigger.perstN ∨ sSess.power.perstWarm = true)) ∧
    (Starts (sub sSess 0 (cmd 6 [])) adm 6 (flight (cmd 6 [])) ∧
      u8 (flight (cmd 6 [])).entry 24 = 0) ∧
    (sSess.mode ≠ OpMode.off) ∧
    (dead sVf = false ∧
      1 ≠ 0 ∧
      fnExists sVf 1 = true) ∧
    (dead sSess = false) ∧
    (dead sVf = false ∧
      sVf.vfEnabled = true) ∧
    (dead sVf = false) :=
  ⟨by decide +kernel,
   by decide +kernel,
   ⟨starts_of (by decide +kernel), by decide +kernel⟩,
   by decide +kernel,
   by decide +kernel,
   by decide +kernel,
   by decide +kernel,
   by decide +kernel⟩

theorem witness_SecureBootEndsReady :
    (State.reset.mode = OpMode.secureBoot ∧
      State.reset.power.supplies = true ∧
      State.reset.hbm.hotWait = false ∧
      chooseSlot (atTime State.reset bootBad.t) bootBad = (none, (chooseSlot (atTime State.reset 0) bootBad).snd)) ∧
    (State.reset.mode = OpMode.secureBoot ∧
      State.reset.power.supplies = true ∧
      State.reset.hbm.hotWait = false ∧
      chooseSlot (atTime State.reset boot.t) boot = (some 0, (chooseSlot (atTime State.reset 0) boot).snd) ∧
      boot.stackTemp0 ≤ 1760 ∧
      boot.stackTemp1 ≤ 1760) ∧
    (asleep (lit OpMode.ready) = false ∧
      (lit OpMode.ready).ready = true ∧
      (lit OpMode.ready).larder.published = true) :=
  ⟨by decide +kernel,
   by decide +kernel,
   by decide +kernel⟩

theorem witness_PowerStatesComplete :
    (Starts (sub (up OpMode.ready) 0 (cmd 7 [(24, 1, 2)])) adm 7 (flight (cmd 7 [(24, 1, 2)])) ∧
      u8 (flight (cmd 7 [(24, 1, 2)])).entry 24 < 3) ∧
    (Starts (sub (up OpMode.ready) 0 (cmd 7 [(24, 1, 3)])) adm 7 (flight (cmd 7 [(24, 1, 3)])) ∧
      u8 (flight (cmd 7 [(24, 1, 3)])).entry 24 = 3) ∧
    (asleep (pwr pBank) = false ∧
      (pwr pBank).power.ceiling = PowerState.banked ∧
      (pwr pBank).power.current ≠ PowerState.banked ∧
      arrayIdle (pwr pBank) = true ∧
      (∀ (x : Session), x ∈ sessList (pwr pBank) → 50 ≤ keepWarm x) ∧
      200000 ≤ 200000 ∧
      (∀ (c : Nat × DmaChannel), c ∈ (pwr pBank).dma → c.snd.state ≠ DmaState.running)) ∧
    (asleep (pwr pIn) = false ∧
      (pwr pIn).power.current = PowerState.banked) ∧
    (sDorm.mode = OpMode.dormant ∧
      WakeSource.mctp ≠ WakeSource.resetN ∧
      WakeSource.mctp ≠ WakeSource.perstN) ∧
    (dead (up OpMode.ready) = false ∧
      (up OpMode.ready).power.lostClocks.contains RefClk.sysClk = false ∧
      (∀ (a : Nat), (up OpMode.ready).power.trimmedAt = some a → a + 1000000000 ≤ max (up OpMode.ready).now 5)) ∧
    (asleep (up OpMode.ready) = false ∧
      (up OpMode.ready).power.avsFails < 3 ∧
      avsAllowed (up OpMode.ready).power 755 = true ∧
      avsWaited (up OpMode.ready).power (max (up OpMode.ready).now 5) 1000000 = true) ∧
    (asleep (pwr pFail2) = false ∧
      (pwr pFail2).power.avsFails < 3 ∧
      avsAllowed (pwr pFail2).power 745 = true ∧
      avsWaited (pwr pFail2).power (max (pwr pFail2).now 5) 1000000 = true) ∧
    (asleep (pwr pFail3) = false ∧
      3 ≤ (pwr pFail3).power.avsFails ∧
      avsAllowed (pwr pFail3).power 750 = true ∧
      avsWaited (pwr pFail3).power (max (pwr pFail3).now 1000000005) 1000000000 = true) ∧
    (asleep (pwr pOld) = false ∧
      (pwr pOld).power.oldSetpoint.isSome = true ∧
      (pwr pOld).power.changedAt + 100000 ≤ max (pwr pOld).now 100000) ∧
    (asleep (pwr pOld) = false ∧
      (pwr pOld).power.oldSetpoint.isSome = true) :=
  ⟨⟨starts_of (by decide +kernel), by decide +kernel⟩,
   ⟨starts_of (by decide +kernel), by decide +kernel⟩,
   by decide +kernel,
   by decide +kernel,
   by decide +kernel,
   by decide +kernel,
   by decide +kernel,
   by decide +kernel,
   by decide +kernel,
   by decide +kernel,
   by decide +kernel⟩

theorem witness_ClockAndRailLossesComplete :
    (dead sSess = false ∧
      sSess.power.lostClocks.contains RefClk.sysClk = false) ∧
    (dead sSess = false ∧
      sSess.power.lostClocks.contains RefClk.ethRefclk = false) ∧
    (dead sSess = false ∧
      sSess.power.lostClocks.contains RefClk.pxRefclk = false) ∧
    (dead sVf = false ∧
      sVf.power.lostClocks.contains RefClk.pcieRefclk = false) ∧
    (dead sSess = false ∧
      sSess.power.lostClocks.contains RefClk.xtal32k = false) ∧
    (dead sSess = false ∧
      (Rail.vddio18 = Rail.vddSram ∨ Rail.vddio18 = Rail.hbmRail ∨ Rail.vddio18 = Rail.vddio18)) ∧
    (dead sSess = false) ∧
    (dead sSess = false) ∧
    (dead sAsleepCores = false ∧
      asleep sAsleepCores = false ∧
      3 < 4 ∧
      sAsleepCores.power.pllOff.contains 3 = false ∧
      (∀ (c : Nat),
          c ∈ clCores 3 →
            (coreGet sAsleepCores c).waking = none ∧
              ((coreGet sAsleepCores c).sleep ≠ CoreSleep.awake ∨ coreUsable sAsleepCores c = false)) ∧
      (∀ (x : Session), x ∈ sessList sAsleepCores → x.serving.contains 3 = true → 43 ≤ keepWarm x)) ∧
    (asleep (up OpMode.ready) = false ∧
      697 * 100 < warnLevel (atTime (up OpMode.ready) 5) ∧
      (up OpMode.ready).power.stretchSince = none) ∧
    (asleep (pwr pDip) = false ∧
      697 * 100 < warnLevel (atTime (pwr pDip) 5) ∧
      (pwr pDip).power.stretchSince = some 100) ∧
    (asleep (pwr pDip) = false ∧
      (pwr pDip).power.stretchSince = some 100 ∧
      recoverLevel (atTime (pwr pDip) 10100) < 708 * 100 ∧
      (pwr pDip).power.above = some 100 ∧
      100 + 10000 ≤ max (pwr pDip).now 10100) ∧
    (asleep (pwr pDip) = false ∧
      (pwr pDip).power.stretchLong = false ∧
      (pwr pDip).power.stretchSince = some 100 ∧
      100 + 2000000 ≤ max (pwr pDip).now 2000100) ∧
    (asleep sSess = false ∧
      659 * 100 < resetLevel (atTime sSess 5)) :=
  ⟨by decide +kernel,
   by decide +kernel,
   by decide +kernel,
   by decide +kernel,
   by decide +kernel,
   by decide +kernel,
   by decide +kernel,
   by decide +kernel,
   by decide +kernel,
   by decide +kernel,
   by decide +kernel,
   by decide +kernel,
   by decide +kernel,
   by decide +kernel⟩

theorem witness_ThermalAndTamperComplete :
    (asleep sSess = false ∧
      sSess.power.warned = false) ∧
    (asleep sSess = false ∧
      sSess.power.throttle = false) ∧
    (asleep (pwr pHot) = false ∧
      (pwr pHot).power.throttle = true ∧
      1840 ≤ 1840 ∧
      (pwr pHot).power.coolSince = some 3 ∧
      3 + 1000000000 ≤ max (pwr pHot).now 1000000003) ∧
    (dead sSess = false) ∧
    (dead sSess = false) :=
  ⟨by decide +kernel,
   by decide +kernel,
   by decide +kernel,
   by decide +kernel,
   by decide +kernel⟩

theorem witness_ErrorPortEventsComplete :
    (asleep sSess = false ∧
      isSrc FaultSrc.security = true ∧
      ErrEvent.tamper ≠ ErrEvent.overrun ∧
      faultClass FaultSrc.security ErrEvent.tamper = some 5) ∧
    (asleep sSess = false ∧
      27 < 28 ∧
      (coreGet sSess 27).fenced = false ∧
      (coreGet sSess 27).lost = false) ∧
    (asleep sSess = false ∧
      isSrc (FaultSrc.dma 31) = true) ∧
    (asleep sStop = false ∧
      27 < 28 ∧
      (coreGet sStop 27).fault = CoreFault.stopped) ∧
    (asleep sFence = false ∧
      isUnit (FenceUnit.pixelPort 3) = true ∧
      sFence.canary.pendingFences.contains (FenceUnit.pixelPort 3) = true) ∧
    (asleep sFault = false ∧
      sFault.canary.faultN = false ∧
      sFault.canary.afterClass4 = false ∧
      sFault.canary.lastSevere + 1000000 ≤ max sFault.now 1000000 ∧
      (∀ (x : Session), x ∈ sessList sFault → x.state ≠ SessState.resync)) :=
  ⟨by decide +kernel,
   by decide +kernel,
   by decide +kernel,
   by decide +kernel,
   by decide +kernel,
   by decide +kernel⟩

theorem witness_SelfTestsAndWatchdogComplete :
    (asleep sBist = false ∧
      sBist.canary.bist = true) ∧
    (asleep sSess = false ∧
      27 < 28 ∧
      (coreGet sSess 27).fenced = false ∧
      (coreGet sSess 27).lost = false) ∧
    (asleep sReload = false ∧
      27 < 28 ∧
      (coreGet sReload 27).fenced = true ∧
      (coreGet sReload 27).patchOk = false ∧
      (coreGet sReload 27).lost = false ∧
      (coreGet sReload 27).fault = CoreFault.replaced ∧
      parity24 (atTime sReload 5) 27 = 1) ∧
    (asleep sSess = false ∧
      sSess.canary.gatedAt = none) ∧
    (asleep sSess = false ∧
      sSess.foreman.lastService + 200000000 ≤ max sSess.now 200000000) :=
  ⟨by decide +kernel,
   by decide +kernel,
   by decide +kernel,
   by decide +kernel,
   by decide +kernel⟩

theorem witness_TapInLockdownAndDormant :
    ((sPriv.mode = OpMode.lockdown ∨ sPriv.mode = OpMode.dormant)) ∧
    ((sDor.mode = OpMode.lockdown ∨ sDor.mode = OpMode.dormant)) ∧
    ((sPriv.mode = OpMode.lockdown ∨ sPriv.mode = OpMode.dormant)) ∧
    ((sPriv.mode = OpMode.lockdown ∨ sPriv.mode = OpMode.dormant)) ∧
    (dead sWork = false ∧
      pinDriving 0 = true) :=
  ⟨by decide +kernel,
   by decide +kernel,
   by decide +kernel,
   by decide +kernel,
   by decide +kernel⟩

theorem witness_TapInstructionsComplete :
    (asleep sWork = false ∧
      pinDriving 0 = true ∧
      0 ≠ 128) ∧
    (asleep sWork = false ∧
      (2 = 1 ∨ 2 = 2 ∨ 2 = 255)) ∧
    (sWork.mode ≠ OpMode.off) :=
  ⟨by decide +kernel,
   by decide +kernel,
   by decide +kernel⟩

theorem witness_CoreSleepAndRestartComplete :
    (asleep (onCore CoreState.atReset) = false ∧
      27 < 28 ∧
      coreIdle (onCore CoreState.atReset) 27 = true ∧
      (coreGet (onCore CoreState.atReset) 27).waking = none ∧
      (coreGet (onCore CoreState.atReset) 27).sleep = CoreSleep.awake) ∧
    (asleep (onCore cGated) = false ∧
      27 < 28 ∧
      (coreGet (onCore cGated) 27).sleep ≠ CoreSleep.awake ∧
      (coreGet (onCore cGated) 27).waking = none ∧
      (coreGet (onCore cGated) 27).fenced = false ∧
      (coreGet (onCore cGated) 27).lost = false) ∧
    (asleep (onCore cWaking) = false ∧
      27 < 28 ∧
      (coreGet (onCore cWaking) 27).waking = some 70 ∧
      70 ≤ max (onCore cWaking).now 70) ∧
    ((workOf sWork 27).isSome = true ∧
      asleep sWork = false ∧
      27 < 28 ∧
      (coreGet sWork 27).decoding = none) :=
  ⟨by decide +kernel,
   by decide +kernel,
   by decide +kernel,
   ⟨rfl, by decide +kernel⟩⟩

theorem witness_HbmRequestsComplete :
    (asleep (up OpMode.ready) = false ∧
      isAddr (wr 4096 64).addr (max 1 (List.length (wr 4096 64).data)) = true ∧
      Memory.wf (up OpMode.ready).hbm.mem = true ∧
      (wr 4096 64).write = true ∧
      (pcGet (up OpMode.ready) (pcOf (wr 4096 64).addr)).writeQ.length < 64 ∧
      (up OpMode.ready).hbm.bad = []) ∧
    (asleep (up OpMode.ready) = false ∧
      isAddr (wr 4100 3).addr (max 1 (List.length (wr 4100 3).data)) = true ∧
      Memory.wf (up OpMode.ready).hbm.mem = true ∧
      (wr 4100 3).write = true ∧
      (pcGet (up OpMode.ready) (pcOf (wr 4100 3).addr)).writeQ.length < 64 ∧
      (up OpMode.ready).hbm.bad = []) ∧
    (asleep (up OpMode.ready) = false ∧
      isAddr rdq.addr (max 1 (List.length rdq.data)) = true ∧
      Memory.wf (up OpMode.ready).hbm.mem = true ∧
      rdq.write = false ∧
      (pcGet (up OpMode.ready) (pcOf rdq.addr)).readQ.length < 64) :=
  ⟨by decide +kernel,
   by decide +kernel,
   by decide +kernel⟩

theorem witness_HbmReadsAndScrubsComplete :
    (asleep (sPc pIss) = false ∧
      isAddr 0 1 = true ∧
      (List.find? (fun r => r.addr == 0 && r.requester == 2) (pcGet (sPc pIss) (pcOf 0)).issued = some rd0) ∧
      (sPc pIss).hbm.bad.contains (0 / 64) = false) ∧
    (asleep (sPc pIss) = false ∧
      isAddr 0 1 = true ∧
      (List.find? (fun r => r.addr == 0 && r.requester == 2) (pcGet (sPc pIss) (pcOf 0)).issued = some rd0) ∧
      (sPc pIss).hbm.bad.contains (0 / 64) = false) ∧
    (asleep (sPc pIss) = false ∧
      isAddr 0 1 = true ∧
      2 ≤ 2 ∧
      (List.find? (fun r => r.addr == 0 && r.requester == 2) (pcGet (sPc pIss) (pcOf 0)).issued = some rd0)) ∧
    (asleep (sPc pIss) = false ∧
      isAddr 0 1 = true ∧
      stackAwake (sPc pIss) (stackOf 0) = true ∧
      (sPc pIss).hbm.bad.contains (0 / 64) = false) ∧
    (asleep (sPc pIss) = false ∧
      isAddr 0 1 = true ∧
      isArray 0 3 = true) ∧
    (asleep (sPc pIss) = false ∧
      isAddr 0 1 = true ∧
      isArray 1 27 = true) ∧
    (asleep (sPc pQ) = false ∧
      0 < 64) ∧
    (tfind (pcGet (sPc pQ) 0).openRows 1 = some (5, 10) ∧
      asleep (sPc pQ) = false ∧
      0 < 64 ∧
      (5, 10).snd + 1000 ≤ max (sPc pQ).now 1010) ∧
    (asleep (sPc pQ) = false ∧
      0 < 64 ∧
      stackAwake (atTime (sPc pQ) 1010) (0 / 32) = true ∧
      tget 0 (pcGet (sPc pQ) 0).nextRefresh 1 ≤ max (sPc pQ).now 1010) ∧
    (asleep (sPc pQ) = false ∧
      0 < 64 ∧
      (pcGet (sPc pQ) 0).windowFrom + 32000000 ≤ max (sPc pQ).now 32000000) ∧
    (asleep (sPc pQ) = false ∧
      0 < 64 ∧
      1 < 2 ∧
      (sPc pQ).hbm.hotWait = false ∧
      (∀ (n : Nat), n < 64 → (pcGet (sPc pQ) n).trained = true)) ∧
    (asleep (sPc pQ) = false ∧
      0 < 64 ∧
      1 < 2 ∧
      (sPc pQ).hbm.hotWait = false ∧
      (∀ (n : Nat), n < 64 → (pcGet (sPc pQ) n).trained = true)) ∧
    (asleep (sPc pDrift) = false ∧
      0 < 64 ∧
      stackAwake (atTime (sPc pDrift) 5) (0 / 32) = true ∧
      (∀ (n : Nat), n ∈ stackPcs (0 / 32) → (pcGet (sPc pDrift) n).retraining = none) ∧
      retrainDue (atTime (sPc pDrift) 5) 0 25000 = true ∧
      (pcGet (sPc pDrift) 0).writeQ = []) ∧
    (asleep (sPc pTrain) = false ∧
      0 < 64 ∧
      (pcGet (sPc pTrain) 0).retraining = some 5 ∧
      5 + 20000 ≤ max (sPc pTrain).now 20005) ∧
    (asleep (pwr pBk) = false ∧
      0 < 64 ∧
      1 < 2 ∧
      (pwr pBk).power.current = PowerState.banked ∧
      (pwr pBk).power.selfRefresh.contains 1 = false ∧
      tget 0 (pwr pBk).power.lastHbmReq 1 + 50000 ≤ max (pwr pBk).now 50000) :=
  ⟨by decide +kernel,
   by decide +kernel,
   by decide +kernel,
   by decide +kernel,
   by decide +kernel,
   by decide +kernel,
   by decide +kernel,
   ⟨rfl, by decide +kernel⟩,
   by decide +kernel,
   by decide +kernel,
   by decide +kernel,
   by decide +kernel,
   by decide +kernel,
   by decide +kernel,
   by decide +kernel⟩

theorem witness_UpdateCommandsComplete :
    (Starts (sub (up OpMode.ready) 0 (cmd 144 [(24, 4, 65536)])) adm 144 (flight (cmd 144 [(24, 4, 65536)])) ∧
      (sub (up OpMode.ready) 0 (cmd 144 [(24, 4, 65536)])).sec.unavailable.contains 8 = false ∧
      65536 ≤ u32 (flight (cmd 144 [(24, 4, 65536)])).entry 24 ∧
      u32 (flight (cmd 144 [(24, 4, 65536)])).entry 24 ≤ 25161728 ∧
      (sub (up OpMode.ready) 0 (cmd 144 [(24, 4, 65536)])).sec.otp.lifecycle ≠ Lifecycle.decommissioned ∧
      (sub (up OpMode.ready) 0 (cmd 144 [(24, 4, 65536)])).foreman.owner = 0 ∧
      (sub (up OpMode.ready) 0 (cmd 144 [(24, 4, 65536)])).foreman.stage ≠ StageState.trial) ∧
    (Starts (sub (up OpMode.ready) 0 (cmd 144 [(24, 4, 25161728)])) adm 144 (flight (cmd 144 [(24, 4, 25161728)])) ∧
      (sub (up OpMode.ready) 0 (cmd 144 [(24, 4, 25161728)])).sec.unavailable.contains 8 = false ∧
      65536 ≤ u32 (flight (cmd 144 [(24, 4, 25161728)])).entry 24 ∧
      u32 (flight (cmd 144 [(24, 4, 25161728)])).entry 24 ≤ 25161728 ∧
      (sub (up OpMode.ready) 0 (cmd 144 [(24, 4, 25161728)])).sec.otp.lifecycle ≠ Lifecycle.decommissioned ∧
      (sub (up OpMode.ready) 0 (cmd 144 [(24, 4, 25161728)])).foreman.owner = 0 ∧
      (sub (up OpMode.ready) 0 (cmd 144 [(24, 4, 25161728)])).foreman.stage ≠ StageState.trial) ∧
    (Starts (sub (upF fSt) 0 (cmd 145 [(16, 4, 2)])) adm 145 (flight (cmd 145 [(16, 4, 2)])) ∧
      (sub (upF fSt) 0 (cmd 145 [(16, 4, 2)])).sec.unavailable.contains 8 = false ∧
      (sub (upF fSt) 0 (cmd 145 [(16, 4, 2)])).foreman.owner = 1 ∧
      (sub (upF fSt) 0 (cmd 145 [(16, 4, 2)])).foreman.stage = StageState.staging ∧
      1 ≤ cmdDataLen (flight (cmd 145 [(16, 4, 2)])).entry ∧
      cmdDataLen (flight (cmd 145 [(16, 4, 2)])).entry ≤ 262144 ∧
      List.length (sub (upF fSt) 0 (cmd 145 [(16, 4, 2)])).foreman.staged +
            cmdDataLen (flight (cmd 145 [(16, 4, 2)])).entry ≤
          (sub (upF fSt) 0 (cmd 145 [(16, 4, 2)])).foreman.imageLen ∧
      u32 (flight (cmd 145 [(16, 4, 2)])).entry 24 % 65536 = 0 ∧
      u32 (flight (cmd 145 [(16, 4, 2)])).entry 24 = List.length (sub (upF fSt) 0 (cmd 145 [(16, 4, 2)])).foreman.staged) ∧
    (Starts (sub (upF fStd) 0 (cmd 146 [])) adm 146 (flight (cmd 146 [])) ∧
      (sub (upF fStd) 0 (cmd 146 [])).sec.unavailable.contains 8 = false ∧
      (sub (upF fStd) 0 (cmd 146 [])).foreman.owner = 1 ∧
      (sub (upF fStd) 0 (cmd 146 [])).foreman.stage = StageState.staging ∧
      List.length (sub (upF fStd) 0 (cmd 146 [])).foreman.staged = (sub (upF fStd) 0 (cmd 146 [])).foreman.imageLen) ∧
    (Starts (sub (upF fVer) 0 (cmd 147 [])) adm 147 (flight (cmd 147 [])) ∧
      (sub (upF fVer) 0 (cmd 147 [])).sec.unavailable.contains 8 = false ∧
      u8 (flight (cmd 147 [])).entry 24 = 0 ∧
      (sub (upF fVer) 0 (cmd 147 [])).foreman.owner = 1 ∧
      (sub (upF fVer) 0 (cmd 147 [])).foreman.stage = StageState.verified) ∧
    (Starts (sub (upF fVer) 0 (cmd 147 [(24, 1, 1)])) adm 147 (flight (cmd 147 [(24, 1, 1)])) ∧
      (sub (upF fVer) 0 (cmd 147 [(24, 1, 1)])).sec.unavailable.contains 8 = false ∧
      u8 (flight (cmd 147 [(24, 1, 1)])).entry 24 = 1 ∧
      (sub (upF fVer) 0 (cmd 147 [(24, 1, 1)])).foreman.owner = 1 ∧
      (sub (upF fVer) 0 (cmd 147 [(24, 1, 1)])).foreman.stage = StageState.verified ∧
      (sub (upF fVer) 0 (cmd 147 [(24, 1, 1)])).sessions = []) ∧
    (Starts (sub (upF fTri) 0 (cmd 148 [])) adm 148 (flight (cmd 148 [])) ∧
      u8 (flight (cmd 148 [])).entry 24 = 0 ∧
      (sub (upF fTri) 0 (cmd 148 [])).foreman.stage = StageState.trial) ∧
    (Starts (officer (sub (upF fTri) 0 (cmd 148 [(24, 1, 1)]))) adm 148 (flight (cmd 148 [(24, 1, 1)])) ∧
      u8 (flight (cmd 148 [(24, 1, 1)])).entry 24 = 1 ∧
      holds (officer (sub (upF fTri) 0 (cmd 148 [(24, 1, 1)]))) adm.fn true = true ∧
      (officer (sub (upF fTri) 0 (cmd 148 [(24, 1, 1)]))).foreman.stage = StageState.trial ∧
      (officer (sub (upF fTri) 0 (cmd 148 [(24, 1, 1)]))).sec.vddFuse = true) ∧
    (Starts (sub (upF fVer) 0 (cmd 149 [])) adm 149 (flight (cmd 149 [])) ∧
      ((sub (upF fVer) 0 (cmd 149 [])).foreman.stage = StageState.staging ∨
          (sub (upF fVer) 0 (cmd 149 [])).foreman.stage = StageState.verified)) ∧
    (Starts (sub (upF fStd) 0 (cmd 149 [])) adm 149 (flight (cmd 149 [])) ∧
      ((sub (upF fStd) 0 (cmd 149 [])).foreman.stage = StageState.staging ∨
          (sub (upF fStd) 0 (cmd 149 [])).foreman.stage = StageState.verified)) ∧
    (Starts (sub (up OpMode.ready) 0 (cmd 149 [])) adm 149 (flight (cmd 149 [])) ∧
      (sub (up OpMode.ready) 0 (cmd 149 [])).foreman.stage = StageState.idle) ∧
    (Starts (sub (upF fTri) 0 (cmd 149 [])) adm 149 (flight (cmd 149 [])) ∧
      ((sub (upF fTri) 0 (cmd 149 [])).foreman.stage = StageState.activationPending ∨
          (sub (upF fTri) 0 (cmd 149 [])).foreman.stage = StageState.trial)) ∧
    (Starts (sub (upF fPnd) 0 (cmd 149 [])) adm 149 (flight (cmd 149 [])) ∧
      ((sub (upF fPnd) 0 (cmd 149 [])).foreman.stage = StageState.activationPending ∨
          (sub (upF fPnd) 0 (cmd 149 [])).foreman.stage = StageState.trial)) ∧
    (Starts (sub (upF fTri) 0 (cmd 150 [(16, 4, 32)])) adm 150 (flight (cmd 150 [(16, 4, 32)])) ∧
      32 ≤ cmdDataLen (flight (cmd 150 [(16, 4, 32)])).entry) ∧
    (asleep (officer (upF fTri)) = false ∧
      (officer (upF fTri)).foreman.platform.autoCommit = true ∧
      (officer (upF fTri)).foreman.stage = StageState.trial ∧
      (officer (upF fTri)).sec.vddFuse = true ∧
      (officer (upF fTri)).foreman.readySince = some 0 ∧
      0 + 60000000000 ≤ max (officer (upF fTri)).now 60000000000) ∧
    (Starts (officer (sub (up OpMode.ready) 0 (cmd 151 [(16, 4, 64)]))) adm 151 (flight (cmd 151 [(16, 4, 64)])) ∧
      holds (officer (sub (up OpMode.ready) 0 (cmd 151 [(16, 4, 64)]))) adm.fn true = true ∧
      (officer (sub (up OpMode.ready) 0 (cmd 151 [(16, 4, 64)]))).sec.unavailable.contains 16 = false ∧
      64 ≤ cmdDataLen (flight (cmd 151 [(16, 4, 64)])).entry ∧
      (∀ (p : Bool × Nat),
          p ∈
              platformRules
                (readData (officer (sub (up OpMode.ready) 0 (cmd 151 [(16, 4, 64)]))) adm.fn
                  (flight (cmd 151 [(16, 4, 64)])).entry plat) →
            p.fst = true)) :=
  ⟨⟨starts_of (by decide +kernel), by decide +kernel⟩,
   ⟨starts_of (by decide +kernel), by decide +kernel⟩,
   ⟨starts_of (by decide +kernel), by decide +kernel⟩,
   ⟨starts_of (by decide +kernel), by decide +kernel⟩,
   ⟨starts_of (by decide +kernel), by decide +kernel⟩,
   ⟨starts_of (by decide +kernel), by decide +kernel⟩,
   ⟨starts_of (by decide +kernel), by decide +kernel⟩,
   ⟨starts_of (by decide +kernel), by decide +kernel⟩,
   ⟨starts_of (by decide +kernel), by decide +kernel⟩,
   ⟨starts_of (by decide +kernel), by decide +kernel⟩,
   ⟨starts_of (by decide +kernel), by decide +kernel⟩,
   ⟨starts_of (by decide +kernel), by decide +kernel⟩,
   ⟨starts_of (by decide +kernel), by decide +kernel⟩,
   ⟨starts_of (by decide +kernel), by decide +kernel⟩,
   by decide +kernel,
   ⟨starts_of (by decide +kernel), by decide +kernel⟩⟩

theorem witness_SidebandCompletes :
    (asleep (up OpMode.ready) = false ∧
      8 ≤ 8 ∧
      8 ≤ 254) ∧
    (asleep (up OpMode.ready) = false) ∧
    (asleep (up OpMode.ready) = false ∧
      (255 = 0 ∨ 255 = 1 ∨ 255 = 255)) ∧
    (asleep (up OpMode.ready) = false) ∧
    (asleep (up OpMode.ready) = false ∧
      (up OpMode.ready).foreman.owner = 0 ∧
      (up OpMode.ready).sec.otp.lifecycle ≠ Lifecycle.decommissioned ∧
      (up OpMode.ready).sec.unavailable.contains 8 = false ∧
      (up OpMode.ready).foreman.stage ≠ StageState.trial) ∧
    (asleep (upF fSide) = false ∧
      (upF fSide).foreman.owner = 2 ∧
      (upF fSide).foreman.stage = StageState.staging) ∧
    (asleep (upF fSideV) = false ∧
      (upF fSideV).foreman.owner = 2 ∧
      (upF fSideV).foreman.stage = StageState.verified) :=
  ⟨by decide +kernel,
   by decide +kernel,
   by decide +kernel,
   by decide +kernel,
   by decide +kernel,
   by decide +kernel,
   by decide +kernel⟩

theorem witness_TelemetryAndLogsComplete :
    (asleep (up OpMode.ready) = false ∧
      (up OpMode.ready).ready = true ∧
      (up OpMode.ready).foreman.bootRom = false ∧
      (up OpMode.ready).canary.gatedAt = none ∧
      (up OpMode.ready).foreman.lastService + 1000000 ≤ max (up OpMode.ready).now 1000000) ∧
    (asleep (up OpMode.ready) = false ∧
      (up OpMode.ready).ready = true ∧
      (up OpMode.ready).foreman.bootRom = false ∧
      (∀ (p : Int),
          (up OpMode.ready).foreman.samplePtp = some p → p / 10000000 < ptpTime (atTime (up OpMode.ready) 5) / 10000000)) ∧
    (tfind (up OpMode.ready).foreman.lastTrim 0 = none ∧
      asleep (up OpMode.ready) = false ∧
      isSensor 0 = true ∧
      (up OpMode.ready).foreman.trimUntil = none) ∧
    (Starts (sub (up OpMode.ready) 0 (cmd 9 [(24, 4, 1)])) adm 9 (flight (cmd 9 [(24, 4, 1)])) ∧
      cmdDataLen (flight (cmd 9 [(24, 4, 1)])).entry = 0 ∧
      u32 (flight (cmd 9 [(24, 4, 1)])).entry 24 < 65536 ∧
      adm.fn = 0) ∧
    (Starts (sub (upF fLog) 0 (cmd 9 [(24, 4, 1), (16, 4, 4096)])) adm 9 (flight (cmd 9 [(24, 4, 1), (16, 4, 4096)])) ∧
      (sub (upF fLog) 0 (cmd 9 [(24, 4, 1), (16, 4, 4096)])).foreman.samplePtp = some 5 ∧
      cmdDataLen (flight (cmd 9 [(24, 4, 1), (16, 4, 4096)])).entry ≠ 0 ∧
      u32 (flight (cmd 9 [(24, 4, 1), (16, 4, 4096)])).entry 24 < 65536 ∧
      itemsSize (sub (upF fLog) 0 (cmd 9 [(24, 4, 1), (16, 4, 4096)])) adm.fn
            (u32 (flight (cmd 9 [(24, 4, 1), (16, 4, 4096)])).entry 24) ≤
          cmdDataLen (flight (cmd 9 [(24, 4, 1), (16, 4, 4096)])).entry ∧
      (adm.fn = 0 ∨ u32 (flight (cmd 9 [(24, 4, 1), (16, 4, 4096)])).entry 24 &&& 65525 = 0)) ∧
    (Starts (sub (upF fLog) 0 (cmd 8 [(16, 4, 64)])) adm 8 (flight (cmd 8 [(16, 4, 64)])) ∧
      u8 (flight (cmd 8 [(16, 4, 64)])).entry 24 ≤ 1) ∧
    (asleep (upF fLog) = false ∧
      (upF fLog).foreman.flashPending ≠ [] ∧
      (upF fLog).foreman.flashUsed + (upF fLog).foreman.flashPending.length ≤ 2046) ∧
    (asleep (upF fLog) = false) ∧
    (asleep sRot = false ∧
      sRot.foreman.platform.rotation = true) :=
  ⟨by decide +kernel,
   by decide +kernel,
   ⟨rfl, by decide +kernel⟩,
   ⟨starts_of (by decide +kernel), by decide +kernel⟩,
   ⟨starts_of (by decide +kernel), by decide +kernel⟩,
   ⟨starts_of (by decide +kernel), by decide +kernel⟩,
   by decide +kernel,
   by decide +kernel,
   by decide +kernel⟩

theorem witness_RolesComplete :
    (Starts (sub (up OpMode.ready) 0 (cmd 128 [(16, 4, 16)])) adm 128 (flight (cmd 128 [(16, 4, 16)])) ∧
      16 ≤ cmdDataLen (flight (cmd 128 [(16, 4, 16)])).entry) ∧
    (Starts (sub (up OpMode.ready) 0 (cmd 129 [(16, 4, 48)])) adm 129 (flight (cmd 129 [(16, 4, 48)])) ∧
      (sub (up OpMode.ready) 0 (cmd 129 [(16, 4, 48)])).sec.unavailable.contains 2 = false ∧
      48 ≤ cmdDataLen (flight (cmd 129 [(16, 4, 48)])).entry) ∧
    (Starts (sub sNonce 0 (cmd 130 [(24, 1, 2), (16, 4, 193)])) adm 130 (flight (cmd 130 [(24, 1, 2), (16, 4, 193)])) ∧
      (sub sNonce 0 (cmd 130 [(24, 1, 2), (16, 4, 193)])).sec.unavailable.contains 2 = false ∧
      u8 (flight (cmd 130 [(24, 1, 2), (16, 4, 193)])).entry 24 = 2 ∧
      193 ≤ cmdDataLen (flight (cmd 130 [(24, 1, 2), (16, 4, 193)])).entry ∧
      lockedOut (sub sNonce 0 (cmd 130 [(24, 1, 2), (16, 4, 193)]))
            (fnGet (sub sNonce 0 (cmd 130 [(24, 1, 2), (16, 4, 193)])) adm.fn).auth =
          false) ∧
    (Starts (sub sNonce 0 (cmd 130 [(24, 1, 1), (16, 4, 48)])) adm 130 (flight (cmd 130 [(24, 1, 1), (16, 4, 48)])) ∧
      (sub sNonce 0 (cmd 130 [(24, 1, 1), (16, 4, 48)])).sec.unavailable.contains 2 = false ∧
      u8 (flight (cmd 130 [(24, 1, 1), (16, 4, 48)])).entry 24 = 1 ∧
      48 ≤ cmdDataLen (flight (cmd 130 [(24, 1, 1), (16, 4, 48)])).entry ∧
      lockedOut (sub sNonce 0 (cmd 130 [(24, 1, 1), (16, 4, 48)]))
            (fnGet (sub sNonce 0 (cmd 130 [(24, 1, 1), (16, 4, 48)])) adm.fn).auth =
          false) ∧
    (Starts (sub sRole 0 (cmd 131 [])) adm 131 (flight (cmd 131 []))) ∧
    (dead sNonce = false ∧
      0 < 64 ∧
      (fnGet sNonce 0).auth.nonce = some (zeros 48, 0) ∧
      (zeros 48, 0).snd + 30000000000 ≤ max sNonce.now 30000000000) ∧
    (dead sLock = false ∧
      0 < 64 ∧
      (fnGet sLock 0).auth.lockout = some 0 ∧
      0 + 60000000000 ≤ max sLock.now 60000000000) ∧
    (dead sRole = false ∧
      0 < 64 ∧
      (fnGet sRole 0).auth.role ≠ Role.none ∧
      (fnGet sRole 0).auth.since + 3600000000000 ≤ max sRole.now 3600000000000) :=
  ⟨⟨starts_of (by decide +kernel), by decide +kernel⟩,
   ⟨starts_of (by decide +kernel), by decide +kernel⟩,
   ⟨starts_of (by decide +kernel), by decide +kernel⟩,
   ⟨starts_of (by decide +kernel), by decide +kernel⟩,
   starts_of (by decide +kernel),
   by decide +kernel,
   by decide +kernel,
   by decide +kernel⟩

theorem witness_KeyCommandsComplete :
    (Starts (sub (offi (up OpMode.ready)) 0 (cmd 132 [(16, 4, 1664)])) adm 132 (flight (cmd 132 [(16, 4, 1664)])) ∧
      holds (sub (offi (up OpMode.ready)) 0 (cmd 132 [(16, 4, 1664)])) adm.fn true = true ∧
      (sub (offi (up OpMode.ready)) 0 (cmd 132 [(16, 4, 1664)])).sec.unavailable.contains 5 = false ∧
      1664 ≤ cmdDataLen (flight (cmd 132 [(16, 4, 1664)])).entry) ∧
    (Starts (secd (sub (offi (up OpMode.ready)) 0 (cmd 133 [(16, 4, 1660)])) xKem) adm 133
          (flight (cmd 133 [(16, 4, 1660)])) ∧
      holds (secd (sub (offi (up OpMode.ready)) 0 (cmd 133 [(16, 4, 1660)])) xKem) adm.fn true = true ∧
      (secd (sub (offi (up OpMode.ready)) 0 (cmd 133 [(16, 4, 1660)])) xKem).sec.unavailable.contains 6 = false ∧
      importRules (flight (cmd 133 [(16, 4, 1660)])).entry
            (readData (secd (sub (offi (up OpMode.ready)) 0 (cmd 133 [(16, 4, 1660)])) xKem) adm.fn
              (flight (cmd 133 [(16, 4, 1660)])).entry impD) =
          none ∧
      mayStore (secd (sub (offi (up OpMode.ready)) 0 (cmd 133 [(16, 4, 1660)])) xKem)
            (readData (secd (sub (offi (up OpMode.ready)) 0 (cmd 133 [(16, 4, 1660)])) xKem) adm.fn
              (flight (cmd 133 [(16, 4, 1660)])).entry impD) =
          true) ∧
    (Starts (sub (offi (up OpMode.ready)) 0 (cmd 133 [(16, 4, 1660)])) adm 133 (flight (cmd 133 [(16, 4, 1660)])) ∧
      holds (sub (offi (up OpMode.ready)) 0 (cmd 133 [(16, 4, 1660)])) adm.fn true = true ∧
      (sub (offi (up OpMode.ready)) 0 (cmd 133 [(16, 4, 1660)])).sec.unavailable.contains 6 = false ∧
      importRules (flight (cmd 133 [(16, 4, 1660)])).entry
            (readData (sub (offi (up OpMode.ready)) 0 (cmd 133 [(16, 4, 1660)])) adm.fn
              (flight (cmd 133 [(16, 4, 1660)])).entry impD) =
          none ∧
      unwrapKey (sub (offi (up OpMode.ready)) 0 (cmd 133 [(16, 4, 1660)]))
            (readData (sub (offi (up OpMode.ready)) 0 (cmd 133 [(16, 4, 1660)])) adm.fn
              (flight (cmd 133 [(16, 4, 1660)])).entry impD) =
          none) ∧
    (Starts (secd (sub (offi (up OpMode.ready)) 0 (cmd 134 [(24, 2, 5)])) xKey) adm 134 (flight (cmd 134 [(24, 2, 5)])) ∧
      tfind (secd (sub (offi (up OpMode.ready)) 0 (cmd 134 [(24, 2, 5)])) xKey).sec.keys
            (u16 (flight (cmd 134 [(24, 2, 5)])).entry 24) =
          some keyA ∧
      holds (secd (sub (offi (up OpMode.ready)) 0 (cmd 134 [(24, 2, 5)])) xKey) adm.fn true = true ∧
      (secd (sub (offi (up OpMode.ready)) 0 (cmd 134 [(24, 2, 5)])) xKey).sec.unavailable.contains 7 = false ∧
      1 ≤ u16 (flight (cmd 134 [(24, 2, 5)])).entry 24 ∧
      u16 (flight (cmd 134 [(24, 2, 5)])).entry 24 ≤ 1023 ∧
      keyInUse (secd (sub (offi (up OpMode.ready)) 0 (cmd 134 [(24, 2, 5)])) xKey)
            (u16 (flight (cmd 134 [(24, 2, 5)])).entry 24) =
          false ∧
      keyA.typ ≠ 4) ∧
    (Starts (secd (sub (offi (up OpMode.ready)) 0 (cmd 134 [(24, 2, 6)])) xKey) adm 134 (flight (cmd 134 [(24, 2, 6)])) ∧
      tfind (secd (sub (offi (up OpMode.ready)) 0 (cmd 134 [(24, 2, 6)])) xKey).sec.keys
            (u16 (flight (cmd 134 [(24, 2, 6)])).entry 24) =
          some keyB ∧
      holds (secd (sub (offi (up OpMode.ready)) 0 (cmd 134 [(24, 2, 6)])) xKey) adm.fn true = true ∧
      (secd (sub (offi (up OpMode.ready)) 0 (cmd 134 [(24, 2, 6)])) xKey).sec.unavailable.contains 7 = false ∧
      1 ≤ u16 (flight (cmd 134 [(24, 2, 6)])).entry 24 ∧
      u16 (flight (cmd 134 [(24, 2, 6)])).entry 24 ≤ 1023 ∧
      keyInUse (secd (sub (offi (up OpMode.ready)) 0 (cmd 134 [(24, 2, 6)])) xKey)
            (u16 (flight (cmd 134 [(24, 2, 6)])).entry 24) =
          false ∧
      keyB.typ = 4) ∧
    (Starts (secd (sub (offi (up OpMode.ready)) 0 (cmd 135 [(24, 2, 6), (16, 4, 16)])) xKey) adm 135
          (flight (cmd 135 [(24, 2, 6), (16, 4, 16)])) ∧
      tfind (secd (sub (offi (up OpMode.ready)) 0 (cmd 135 [(24, 2, 6), (16, 4, 16)])) xKey).sec.keys
            (u16 (flight (cmd 135 [(24, 2, 6), (16, 4, 16)])).entry 24) =
          some keyB ∧
      holds (secd (sub (offi (up OpMode.ready)) 0 (cmd 135 [(24, 2, 6), (16, 4, 16)])) xKey) adm.fn false = true ∧
      (secd (sub (offi (up OpMode.ready)) 0 (cmd 135 [(24, 2, 6), (16, 4, 16)])) xKey).sec.unavailable.contains 7 = false ∧
      16 ≤ cmdDataLen (flight (cmd 135 [(24, 2, 6), (16, 4, 16)])).entry ∧
      1 ≤ u16 (flight (cmd 135 [(24, 2, 6), (16, 4, 16)])).entry 24 ∧
      u16 (flight (cmd 135 [(24, 2, 6), (16, 4, 16)])).entry 24 ≤ 1023) ∧
    (Starts (secd (sub (offi (up OpMode.ready)) 0 (cmd 135 [(24, 2, 1023), (16, 4, 16)])) xKey) adm 135
          (flight (cmd 135 [(24, 2, 1023), (16, 4, 16)])) ∧
      tfind (secd (sub (offi (up OpMode.ready)) 0 (cmd 135 [(24, 2, 1023), (16, 4, 16)])) xKey).sec.keys
            (u16 (flight (cmd 135 [(24, 2, 1023), (16, 4, 16)])).entry 24) =
          none ∧
      holds (secd (sub (offi (up OpMode.ready)) 0 (cmd 135 [(24, 2, 1023), (16, 4, 16)])) xKey) adm.fn false = true ∧
      (secd (sub (offi (up OpMode.ready)) 0 (cmd 135 [(24, 2, 1023), (16, 4, 16)])) xKey).sec.unavailable.contains 7 = false ∧
      16 ≤ cmdDataLen (flight (cmd 135 [(24, 2, 1023), (16, 4, 16)])).entry ∧
      1 ≤ u16 (flight (cmd 135 [(24, 2, 1023), (16, 4, 16)])).entry 24 ∧
      u16 (flight (cmd 135 [(24, 2, 1023), (16, 4, 16)])).entry 24 ≤ 1023) ∧
    (dead (secd (up OpMode.ready) xKem) = false ∧
      (secd (up OpMode.ready) xKem).sec.kem = some (0, 0) ∧
      (0, 0).snd + 600000000000 ≤ max (secd (up OpMode.ready) xKem).now 600000000000) ∧
    (Starts (secd (sub (offi (up OpMode.ready)) 0 (cmd 136 [])) xKey) adm 136 (flight (cmd 136 [])) ∧
      holds (secd (sub (offi (up OpMode.ready)) 0 (cmd 136 [])) xKey) adm.fn true = true ∧
      (secd (sub (offi (up OpMode.ready)) 0 (cmd 136 [])) xKey).sec.unavailable.contains 4 = false) :=
  ⟨⟨starts_of (by decide +kernel), by decide +kernel⟩,
   ⟨starts_of (by decide +kernel), by decide +kernel⟩,
   ⟨starts_of (by decide +kernel), by decide +kernel⟩,
   ⟨starts_of (by decide +kernel), rfl, by decide +kernel⟩,
   ⟨starts_of (by decide +kernel), rfl, by decide +kernel⟩,
   ⟨starts_of (by decide +kernel), rfl, by decide +kernel⟩,
   ⟨starts_of (by decide +kernel), rfl, by decide +kernel⟩,
   by decide +kernel,
   ⟨starts_of (by decide +kernel), by decide +kernel⟩⟩

theorem witness_IslandTestsComplete :
    (Starts (sub (offi (up OpMode.ready)) 0 (cmd 137 [])) adm 137 (flight (cmd 137 [])) ∧
      holds (sub (offi (up OpMode.ready)) 0 (cmd 137 [])) adm.fn true = true ∧
      (sub (offi (up OpMode.ready)) 0 (cmd 137 [])).sec.unavailable.contains 3 = false) ∧
    (Starts (sub (offi (up OpMode.ready)) 0 (cmd 137 [])) adm 137 (flight (cmd 137 [])) ∧
      holds (sub (offi (up OpMode.ready)) 0 (cmd 137 [])) adm.fn true = true ∧
      (sub (offi (up OpMode.ready)) 0 (cmd 137 [])).sec.unavailable.contains 3 = false ∧
      algMask 2 ≠ 0) ∧
    (dead (up OpMode.ready) = false ∧
      (up OpMode.ready).sec.lastPeriodic + 86400000000000 ≤ max (up OpMode.ready).now 86400000000000) ∧
    (dead (up OpMode.ready) = false) ∧
    (dead (secd (up OpMode.ready) xRes) = false ∧
      (secd (up OpMode.ready) xRes).sec.errorAlgs.getLsbD 10 = false ∧
      2 ^ 20 ≤ (secd (up OpMode.ready) xRes).sec.drbgRequests) ∧
    (dead (up OpMode.ready) = false) ∧
    (dead (up OpMode.ready) = false) :=
  ⟨⟨starts_of (by decide +kernel), by decide +kernel⟩,
   ⟨starts_of (by decide +kernel), by decide +kernel⟩,
   by decide +kernel,
   by decide +kernel,
   by decide +kernel,
   by decide +kernel,
   by decide +kernel⟩

theorem witness_IslandServicesComplete :
    (Starts (sub (offi (up OpMode.ready)) 0 (cmd 138 [(16, 4, 256)])) adm 138 (flight (cmd 138 [(16, 4, 256)])) ∧
      holds (sub (offi (up OpMode.ready)) 0 (cmd 138 [(16, 4, 256)])) adm.fn false = true ∧
      (sub (offi (up OpMode.ready)) 0 (cmd 138 [(16, 4, 256)])).sec.unavailable.contains 10 = false ∧
      256 ≤ cmdDataLen (flight (cmd 138 [(16, 4, 256)])).entry) ∧
    (Starts (sub (offi (up OpMode.ready)) 0 (cmd 139 [(16, 4, 4096), (24, 4, 4096)])) adm 139
          (flight (cmd 139 [(16, 4, 4096), (24, 4, 4096)])) ∧
      holds (sub (offi (up OpMode.ready)) 0 (cmd 139 [(16, 4, 4096), (24, 4, 4096)])) adm.fn false = true ∧
      (sub (offi (up OpMode.ready)) 0 (cmd 139 [(16, 4, 4096), (24, 4, 4096)])).sec.unavailable.contains 11 = false ∧
      1 ≤ u32 (flight (cmd 139 [(16, 4, 4096), (24, 4, 4096)])).entry 24 ∧
      u32 (flight (cmd 139 [(16, 4, 4096), (24, 4, 4096)])).entry 24 ≤ 4096 ∧
      u32 (flight (cmd 139 [(16, 4, 4096), (24, 4, 4096)])).entry 24 ≤
          cmdDataLen (flight (cmd 139 [(16, 4, 4096), (24, 4, 4096)])).entry) ∧
    (Starts (sub (offi (up OpMode.ready)) 0 (cmd 140 [(24, 1, 2)])) adm 140 (flight (cmd 140 [(24, 1, 2)])) ∧
      holds (sub (offi (up OpMode.ready)) 0 (cmd 140 [(24, 1, 2)])) adm.fn false = true ∧
      (sub (offi (up OpMode.ready)) 0 (cmd 140 [(24, 1, 2)])).sec.unavailable.contains 12 = false ∧
      u8 (flight (cmd 140 [(24, 1, 2)])).entry 24 = 2) ∧
    (Starts (sub (offi (up OpMode.ready)) 0 (cmd 140 [(24, 1, 3)])) adm 140 (flight (cmd 140 [(24, 1, 3)])) ∧
      holds (sub (offi (up OpMode.ready)) 0 (cmd 140 [(24, 1, 3)])) adm.fn false = true ∧
      (sub (offi (up OpMode.ready)) 0 (cmd 140 [(24, 1, 3)])).sec.unavailable.contains 12 = false ∧
      u8 (flight (cmd 140 [(24, 1, 3)])).entry 24 = 3) ∧
    (Starts lcD adm 141 (flight (cmd 141 [(24, 1, 1), (16, 4, 97)])) ∧
      lifecycleCheck adm (markStarted lcD adm) (flight (cmd 141 [(24, 1, 1), (16, 4, 97)])).entry = none) :=
  ⟨⟨starts_of (by decide +kernel), by decide +kernel⟩,
   ⟨starts_of (by decide +kernel), by decide +kernel⟩,
   ⟨starts_of (by decide +kernel), by decide +kernel⟩,
   ⟨starts_of (by decide +kernel), by decide +kernel⟩,
   ⟨starts_of (by decide +kernel), by decide +kernel⟩⟩

theorem witness_SessionStatesComplete :
    (Starts (ses (xE SessState.created) (cmd 33 [(4, 4, 255)])) io 33 (flight (cmd 33 [(4, 4, 255)])) ∧
      targetOf (ses (xE SessState.created) (cmd 33 [(4, 4, 255)])) io.fn (flight (cmd 33 [(4, 4, 255)])).entry =
          some (xE SessState.created) ∧
      ((xE SessState.created).state = SessState.created ∨ (xE SessState.created).state = SessState.stopped) ∧
      securityStops (markStarted (ses (xE SessState.created) (cmd 33 [(4, 4, 255)])) io) (xE SessState.created) = false) ∧
    (Starts (ses (xE SessState.stopped) (cmd 33 [(4, 4, 255)])) io 33 (flight (cmd 33 [(4, 4, 255)])) ∧
      targetOf (ses (xE SessState.stopped) (cmd 33 [(4, 4, 255)])) io.fn (flight (cmd 33 [(4, 4, 255)])).entry =
          some (xE SessState.stopped) ∧
      ((xE SessState.stopped).state = SessState.created ∨ (xE SessState.stopped).state = SessState.stopped) ∧
      securityStops (markStarted (ses (xE SessState.stopped) (cmd 33 [(4, 4, 255)])) io) (xE SessState.stopped) = false) ∧
    (Starts (ses (xE SessState.running) (cmd 33 [(4, 4, 255)])) io 33 (flight (cmd 33 [(4, 4, 255)])) ∧
      targetOf (ses (xE SessState.running) (cmd 33 [(4, 4, 255)])) io.fn (flight (cmd 33 [(4, 4, 255)])).entry =
          some (xE SessState.running) ∧
      ((xE SessState.running).state = SessState.running ∨ (xE SessState.running).state = SessState.resync) ∧
      securityStops (markStarted (ses (xE SessState.running) (cmd 33 [(4, 4, 255)])) io) (xE SessState.running) = false) ∧
    (Starts (ses (xE SessState.running) (cmd 34 [(4, 4, 255), (16, 4, 512), (24, 8, 3)])) io 34
          (flight (cmd 34 [(4, 4, 255), (16, 4, 512), (24, 8, 3)])) ∧
      targetOf (ses (xE SessState.running) (cmd 34 [(4, 4, 255), (16, 4, 512), (24, 8, 3)])) io.fn
            (flight (cmd 34 [(4, 4, 255), (16, 4, 512), (24, 8, 3)])).entry =
          some (xE SessState.running) ∧
      chkReconfigure io ecfg (markStarted (ses (xE SessState.running) (cmd 34 [(4, 4, 255), (16, 4, 512), (24, 8, 3)])) io)
            (xE SessState.running) (flight (cmd 34 [(4, 4, 255), (16, 4, 512), (24, 8, 3)])).entry =
          none) ∧
    (Starts (ses (xE SessState.created) (cmd 35 [(4, 4, 255)])) io 35 (flight (cmd 35 [(4, 4, 255)])) ∧
      targetOf (ses (xE SessState.created) (cmd 35 [(4, 4, 255)])) io.fn (flight (cmd 35 [(4, 4, 255)])).entry =
          some (xE SessState.created) ∧
      u8 (flight (cmd 35 [(4, 4, 255)])).entry 24 ≤ 1 ∧
      (xE SessState.created).state = SessState.created) ∧
    (Starts (ses (xE SessState.stopped) (cmd 35 [(4, 4, 255)])) io 35 (flight (cmd 35 [(4, 4, 255)])) ∧
      targetOf (ses (xE SessState.stopped) (cmd 35 [(4, 4, 255)])) io.fn (flight (cmd 35 [(4, 4, 255)])).entry =
          some (xE SessState.stopped) ∧
      u8 (flight (cmd 35 [(4, 4, 255)])).entry 24 ≤ 1 ∧
      (xE SessState.stopped).state = SessState.stopped) ∧
    (Starts (ses (xE SessState.resync) (cmd 35 [(4, 4, 255)])) io 35 (flight (cmd 35 [(4, 4, 255)])) ∧
      targetOf (ses (xE SessState.resync) (cmd 35 [(4, 4, 255)])) io.fn (flight (cmd 35 [(4, 4, 255)])).entry =
          some (xE SessState.resync) ∧
      u8 (flight (cmd 35 [(4, 4, 255)])).entry 24 ≤ 1 ∧
      ((xE SessState.resync).state = SessState.resync ∨
          (xE SessState.resync).state = SessState.running ∧
            (u8 (flight (cmd 35 [(4, 4, 255)])).entry 24 = 1 ∨ drained (xE SessState.resync) = true))) ∧
    (Starts (ses (xE SessState.running) (cmd 35 [(4, 4, 255)])) io 35 (flight (cmd 35 [(4, 4, 255)])) ∧
      targetOf (ses (xE SessState.running) (cmd 35 [(4, 4, 255)])) io.fn (flight (cmd 35 [(4, 4, 255)])).entry =
          some (xE SessState.running) ∧
      u8 (flight (cmd 35 [(4, 4, 255)])).entry 24 ≤ 1 ∧
      ((xE SessState.running).state = SessState.resync ∨
          (xE SessState.running).state = SessState.running ∧
            (u8 (flight (cmd 35 [(4, 4, 255)])).entry 24 = 1 ∨ drained (xE SessState.running) = true))) ∧
    (Starts (ses (withFr (fr [unitRun] 1)) (cmd 35 [(4, 4, 255), (24, 1, 1)])) io 35
          (flight (cmd 35 [(4, 4, 255), (24, 1, 1)])) ∧
      targetOf (ses (withFr (fr [unitRun] 1)) (cmd 35 [(4, 4, 255), (24, 1, 1)])) io.fn
            (flight (cmd 35 [(4, 4, 255), (24, 1, 1)])).entry =
          some (withFr (fr [unitRun] 1)) ∧
      u8 (flight (cmd 35 [(4, 4, 255), (24, 1, 1)])).entry 24 ≤ 1 ∧
      ((withFr (fr [unitRun] 1)).state = SessState.resync ∨
          (withFr (fr [unitRun] 1)).state = SessState.running ∧
            (u8 (flight (cmd 35 [(4, 4, 255), (24, 1, 1)])).entry 24 = 1 ∨ drained (withFr (fr [unitRun] 1)) = true))) ∧
    (Starts (ses (withFr (fr [unitRun] 1)) (cmd 35 [(4, 4, 255)])) io 35 (flight (cmd 35 [(4, 4, 255)])) ∧
      targetOf (ses (withFr (fr [unitRun] 1)) (cmd 35 [(4, 4, 255)])) io.fn (flight (cmd 35 [(4, 4, 255)])).entry =
          some (withFr (fr [unitRun] 1)) ∧
      u8 (flight (cmd 35 [(4, 4, 255)])).entry 24 = 0 ∧
      (withFr (fr [unitRun] 1)).state = SessState.running ∧
      drained (withFr (fr [unitRun] 1)) = false) ∧
    (Starts (ses (xE SessState.stopping) (cmd 35 [(4, 4, 255)])) io 35 (flight (cmd 35 [(4, 4, 255)])) ∧
      targetOf (ses (xE SessState.stopping) (cmd 35 [(4, 4, 255)])) io.fn (flight (cmd 35 [(4, 4, 255)])).entry =
          some (xE SessState.stopping) ∧
      u8 (flight (cmd 35 [(4, 4, 255)])).entry 24 = 0 ∧
      (xE SessState.stopping).state = SessState.stopping) ∧
    (Starts (ses (xE SessState.stopped) (cmd 36 [(4, 4, 255)])) io 36 (flight (cmd 36 [(4, 4, 255)])) ∧
      targetOf (ses (xE SessState.stopped) (cmd 36 [(4, 4, 255)])) io.fn (flight (cmd 36 [(4, 4, 255)])).entry =
          some (xE SessState.stopped) ∧
      ((xE SessState.stopped).state = SessState.created ∨ (xE SessState.stopped).state = SessState.stopped)) ∧
    (Starts (ses (xD SessState.created) (cmd 36 [(4, 4, 255)])) io 36 (flight (cmd 36 [(4, 4, 255)])) ∧
      targetOf (ses (xD SessState.created) (cmd 36 [(4, 4, 255)])) io.fn (flight (cmd 36 [(4, 4, 255)])).entry =
          some (xD SessState.created) ∧
      ((xD SessState.created).state = SessState.created ∨ (xD SessState.created).state = SessState.stopped)) ∧
    (Starts (ses (xE SessState.running) (cmd 37 [(4, 4, 255), (16, 4, 512)])) io 37
          (flight (cmd 37 [(4, 4, 255), (16, 4, 512)])) ∧
      targetOf (ses (xE SessState.running) (cmd 37 [(4, 4, 255), (16, 4, 512)])) io.fn
            (flight (cmd 37 [(4, 4, 255), (16, 4, 512)])).entry =
          some (xE SessState.running) ∧
      List.length (xE SessState.running).cfg ≤ cmdDataLen (flight (cmd 37 [(4, 4, 255), (16, 4, 512)])).entry) ∧
    (Starts (ses (xE SessState.running) (cmd 38 [(4, 4, 255)])) io 38 (flight (cmd 38 [(4, 4, 255)])) ∧
      targetOf (ses (xE SessState.running) (cmd 38 [(4, 4, 255)])) io.fn (flight (cmd 38 [(4, 4, 255)])).entry =
          some (xE SessState.running) ∧
      fieldCheck
            (ringRules io.fn (xE SessState.running).decode (flight (cmd 38 [(4, 4, 255)])).entry ++
              [mapRule (ses (xE SessState.running) (cmd 38 [(4, 4, 255)])) io.fn (xE SessState.running).decode
                  (xE SessState.running).cfg (flight (cmd 38 [(4, 4, 255)])).entry]) =
          none) ∧
    (Starts (ses (xE SessState.running) (cmd 39 [(4, 4, 255), (24, 8, 3)])) io 39
          (flight (cmd 39 [(4, 4, 255), (24, 8, 3)])) ∧
      targetOf (ses (xE SessState.running) (cmd 39 [(4, 4, 255), (24, 8, 3)])) io.fn
            (flight (cmd 39 [(4, 4, 255), (24, 8, 3)])).entry =
          some (xE SessState.running) ∧
      (xE SessState.running).decode = false ∧
      isDispatched (xE SessState.running)
            (forcedFrame (xE SessState.running).cfg (u64 (flight (cmd 39 [(4, 4, 255), (24, 8, 3)])).entry 24)) =
          false) ∧
    (Starts (sub (up OpMode.standalone) 1 (cmd 32 [(16, 4, 512)])) io 32 (flight (cmd 32 [(16, 4, 512)])) ∧
      chkCreate io ecfg (markStarted (sub (up OpMode.standalone) 1 (cmd 32 [(16, 4, 512)])) io)
            (flight (cmd 32 [(16, 4, 512)])).entry =
          none) :=
  ⟨⟨starts_of (by decide +kernel), rfl, by decide +kernel⟩,
   ⟨starts_of (by decide +kernel), rfl, by decide +kernel⟩,
   ⟨starts_of (by decide +kernel), rfl, by decide +kernel⟩,
   ⟨starts_of (by decide +kernel), rfl, by decide +kernel⟩,
   ⟨starts_of (by decide +kernel), rfl, by decide +kernel⟩,
   ⟨starts_of (by decide +kernel), rfl, by decide +kernel⟩,
   ⟨starts_of (by decide +kernel), rfl, by decide +kernel⟩,
   ⟨starts_of (by decide +kernel), rfl, by decide +kernel⟩,
   ⟨starts_of (by decide +kernel), rfl, by decide +kernel⟩,
   ⟨starts_of (by decide +kernel), rfl, by decide +kernel⟩,
   ⟨starts_of (by decide +kernel), rfl, by decide +kernel⟩,
   ⟨starts_of (by decide +kernel), rfl, by decide +kernel⟩,
   ⟨starts_of (by decide +kernel), rfl, by decide +kernel⟩,
   ⟨starts_of (by decide +kernel), rfl, by decide +kernel⟩,
   ⟨starts_of (by decide +kernel), rfl, by decide +kernel⟩,
   ⟨starts_of (by decide +kernel), rfl, by decide +kernel⟩,
   ⟨starts_of (by decide +kernel), by decide +kernel⟩⟩

theorem witness_PictureBuffersComplete :
    (Starts (ses (xE SessState.running) (cmd 64 [(4, 4, 255), (16, 4, 524288)])) io 64
          (flight (cmd 64 [(4, 4, 255), (16, 4, 524288)])) ∧
      targetOf (ses (xE SessState.running) (cmd 64 [(4, 4, 255), (16, 4, 524288)])) io.fn
            (flight (cmd 64 [(4, 4, 255), (16, 4, 524288)])).entry =
          some (xE SessState.running) ∧
      chkSubmit (ses (xE SessState.running) (cmd 64 [(4, 4, 255), (16, 4, 524288)])) (xE SessState.running)
            (flight (cmd 64 [(4, 4, 255), (16, 4, 524288)])).entry =
          none) ∧
    (Starts (ses (xD SessState.running) (cmd 65 [(4, 4, 255), (16, 4, 4), (24, 1, 1)])) io 65
          (flight (cmd 65 [(4, 4, 255), (16, 4, 4), (24, 1, 1)])) ∧
      targetOf (ses (xD SessState.running) (cmd 65 [(4, 4, 255), (16, 4, 4), (24, 1, 1)])) io.fn
            (flight (cmd 65 [(4, 4, 255), (16, 4, 4), (24, 1, 1)])).entry =
          some (xD SessState.running) ∧
      (xD SessState.running).decode = true ∧
      u8 (xD SessState.running).cfg 20 = 0 ∧
      ((xD SessState.running).state = SessState.running ∨ (xD SessState.running).state = SessState.resync) ∧
      securityStops (markStarted (ses (xD SessState.running) (cmd 65 [(4, 4, 255), (16, 4, 4), (24, 1, 1)])) io)
            (xD SessState.running) =
          false) ∧
    (Starts (ses (xD SessState.running) (cmd 66 [(4, 4, 255), (16, 4, 524288)])) io 66
          (flight (cmd 66 [(4, 4, 255), (16, 4, 524288)])) ∧
      targetOf (ses (xD SessState.running) (cmd 66 [(4, 4, 255), (16, 4, 524288)])) io.fn
            (flight (cmd 66 [(4, 4, 255), (16, 4, 524288)])).entry =
          some (xD SessState.running) ∧
      (xD SessState.running).decode = true ∧
      u8 (xD SessState.running).cfg 21 ≠ 1 ∧
      bufferMin (xD SessState.running) ≤ cmdDataLen (flight (cmd 66 [(4, 4, 255), (16, 4, 524288)])).entry) ∧
    (Starts (ses (xE SessState.running) (cmd 66 [(4, 4, 255), (16, 4, 4096)])) io 66
          (flight (cmd 66 [(4, 4, 255), (16, 4, 4096)])) ∧
      targetOf (ses (xE SessState.running) (cmd 66 [(4, 4, 255), (16, 4, 4096)])) io.fn
            (flight (cmd 66 [(4, 4, 255), (16, 4, 4096)])).entry =
          some (xE SessState.running) ∧
      (xE SessState.running).decode = false ∧
      cSink (xE SessState.running).cfg = 0 ∧
      bufferMin (xE SessState.running) ≤ cmdDataLen (flight (cmd 66 [(4, 4, 255), (16, 4, 4096)])).entry ∧
      (xE SessState.running).enc.backlog = [] ∧
      (xE SessState.running).state ≠ SessState.stopping) ∧
    (Starts (ses xBack (cmd 66 [(4, 4, 255), (16, 4, 4096)])) io 66 (flight (cmd 66 [(4, 4, 255), (16, 4, 4096)])) ∧
      targetOf (ses xBack (cmd 66 [(4, 4, 255), (16, 4, 4096)])) io.fn
            (flight (cmd 66 [(4, 4, 255), (16, 4, 4096)])).entry =
          some xBack ∧
      xBack.decode = false ∧
      cSink xBack.cfg = 0 ∧
      u8 xBack.cfg 388 ≠ 2 ∧
      bufferMin xBack ≤ cmdDataLen (flight (cmd 66 [(4, 4, 255), (16, 4, 4096)])).entry ∧
      xBack.enc.backlog = [[7]] ∧
      [7] ≠ [] ∧
      [7].length < cmdDataLen (flight (cmd 66 [(4, 4, 255), (16, 4, 4096)])).entry ∧
      xBack.enc.buffers = [] ∧
      xBack.state ≠ SessState.stopping) ∧
    (Starts (ses (xE SessState.created) (cmd 67 [(4, 4, 255)])) io 67 (flight (cmd 67 [(4, 4, 255)])) ∧
      targetOf (ses (xE SessState.created) (cmd 67 [(4, 4, 255)])) io.fn (flight (cmd 67 [(4, 4, 255)])).entry =
          some (xE SessState.created) ∧
      u8 (flight (cmd 67 [(4, 4, 255)])).entry 24 ≤ 1 ∧
      ((xE SessState.created).state = SessState.created ∨ (xE SessState.created).state = SessState.stopped)) ∧
    (Starts (ses (xE SessState.running) (cmd 67 [(4, 4, 255)])) io 67 (flight (cmd 67 [(4, 4, 255)])) ∧
      targetOf (ses (xE SessState.running) (cmd 67 [(4, 4, 255)])) io.fn (flight (cmd 67 [(4, 4, 255)])).entry =
          some (xE SessState.running) ∧
      u8 (flight (cmd 67 [(4, 4, 255)])).entry 24 = 0 ∧
      ((xE SessState.running).state = SessState.running ∨ (xE SessState.running).state = SessState.resync)) ∧
    (Starts (ses (xE SessState.running) (cmd 67 [(4, 4, 255), (24, 1, 1)])) io 67
          (flight (cmd 67 [(4, 4, 255), (24, 1, 1)])) ∧
      targetOf (ses (xE SessState.running) (cmd 67 [(4, 4, 255), (24, 1, 1)])) io.fn
            (flight (cmd 67 [(4, 4, 255), (24, 1, 1)])).entry =
          some (xE SessState.running) ∧
      u8 (flight (cmd 67 [(4, 4, 255), (24, 1, 1)])).entry 24 = 1 ∧
      ((xE SessState.running).state = SessState.running ∨ (xE SessState.running).state = SessState.resync) ∧
      (xE SessState.running).decode = false) :=
  ⟨⟨starts_of (by decide +kernel), rfl, by decide +kernel⟩,
   ⟨starts_of (by decide +kernel), rfl, by decide +kernel⟩,
   ⟨starts_of (by decide +kernel), rfl, by decide +kernel⟩,
   ⟨starts_of (by decide +kernel), rfl, by decide +kernel⟩,
   ⟨starts_of (by decide +kernel), rfl, by decide +kernel⟩,
   ⟨starts_of (by decide +kernel), rfl, by decide +kernel⟩,
   ⟨starts_of (by decide +kernel), rfl, by decide +kernel⟩,
   ⟨starts_of (by decide +kernel), rfl, by decide +kernel⟩⟩

theorem witness_PacketsAreReleased :
    (sessById (alone xOut) 255 = some xOut ∧
      asleep (alone xOut) = false ∧
      xOut.decode = false ∧
      securityStops (atTime (alone xOut) 5) xOut = false ∧
      (alone xOut).canary.gatedAt = none ∧
      isDist xOut = false ∧
      collates xOut = true ∧
      xOut.enc.frames.head? = some (fr [unitDone] 1) ∧
      (List.filter (fun g => !groupOut xOut (fr [unitDone] 1) g) (releaseGroups (fr [unitDone] 1).cfg) =
          [[(0, 0, 0)], [(0, 0, 1)]]) ∧
      groupReady (atTime (alone xOut) 5) xOut (fr [unitDone] 1) [(0, 0, 0)] = true ∧
      ([[(0, 0, 1)]] ≠ [] ∨ (fr [unitDone] 1).reported = true)) ∧
    (sessById (alone xWait) 255 = some xWait ∧
      asleep (alone xWait) = false ∧
      xWait.decode = false ∧
      securityStops (atTime (alone xWait) 5) xWait = false ∧
      (alone xWait).canary.gatedAt = none ∧
      isDist xWait = false ∧
      collates xWait = true ∧
      xWait.enc.frames.head? = some (fr [unitRun] 1) ∧
      (List.filter (fun g => !groupOut xWait (fr [unitRun] 1) g) (releaseGroups (fr [unitRun] 1).cfg) =
          [[(0, 0, 0)], [(0, 0, 1)]]) ∧
      groupReady (atTime (alone xWait) 5) xWait (fr [unitRun] 1) [(0, 0, 0)] = false) ∧
    (sessById (alone xHold) 255 = some xHold ∧
      frameOf xHold 0 = some frHold ∧
      asleep (alone xHold) = false ∧
      ((frHold.holds.any fun h => decide (h.fst = 0) && decide (h.snd ≤ max (alone xHold).now 50)) = true) ∧
      frHold.opened.contains 0 = false) ∧
    (sessById (alone xTs) 255 = some xTs ∧
      asleep (alone xTs) = false ∧
      xTs.decode = false ∧
      (alone xTs).canary.gatedAt = none ∧
      cSink xTs.cfg = 2 ∧
      (∀ (v : Nat), xTs.enc.patAt = some v → v + 100 ≤ streamMs xTs)) :=
  ⟨⟨rfl, by decide +kernel⟩,
   ⟨rfl, by decide +kernel⟩,
   ⟨rfl, rfl, by decide +kernel⟩,
   ⟨rfl, by decide +kernel⟩⟩

theorem witness_EncodeWorkStarts :
    (sessById (alone xOpen) 255 = some xOpen ∧
      openFrame xOpen = some (fr [] 0) ∧
      bandUnits xOpen (fr [] 0) 0 [27] = bandUnits xOpen (fr [] 0) (fr [] 0).dispatched [27] ∧
      asleep (alone xOpen) = false ∧
      xOpen.decode = false ∧
      (bandUnits xOpen (fr [] 0) 0 [27]).length = [27].length ∧
      [27].all (placeable (atTime (alone xOpen) 5) xOpen (fr [] 0).cfg) = true ∧
      ((bandUnits xOpen (fr [] 0) 0 [27]).length =
          (List.filter (fun u => decide (u.band = (fr [] 0).dispatched) && codesUnit xOpen (fr [] 0).cfg u)
              (pictureUnits (fr [] 0).cfg)).length) ∧
      frNext =
          { number := (fr [] 0).number, code := (fr [] 0).code, cfg := (fr [] 0).cfg, intra := (fr [] 0).intra,
            refresh := (fr [] 0).refresh, changed := (fr [] 0).changed, target := (fr [] 0).target, cap := (fr [] 0).cap,
            shares := (fr [] 0).shares, bands := (fr [] 0).bands, dispatched := (fr [] 0).dispatched + 1,
            units := (fr [] 0).units ++ bandUnits xOpen (fr [] 0) 0 [27], forceIntra := (fr [] 0).forceIntra,
            copyError := (fr [] 0).copyError, concealed := (fr [] 0).concealed, padding := (fr [] 0).padding,
            violation := (fr [] 0).violation, late := (fr [] 0).late, ts0 := (fr [] 0).ts0, ts := (fr [] 0).ts,
            stamp := (fr [] 0).stamp, holds := (fr [] 0).holds, opened := (fr [] 0).opened, reported := (fr [] 0).reported,
            cells := (fr [] 0).cells, cll := (fr [] 0).cll }) ∧
    (sessById (alone xPic) 255 = some xPic ∧
      xPic.decode = false ∧
      openFrame xPic = none ∧
      xPic = newSequence xPic ∧
      sourceOf xPic (frameAt xPic 0) = some pic0 ∧
      asleep (alone xPic) = false ∧
      0 = nextCode xPic ∧
      ecfg = cfgAt xPic (frameAt xPic 0) ∧
      ([65536] = if hasHistory xPic ecfg = true then [] else evenShares ecfg) ∧
      mayBegin xPic = true ∧
      securityStops (atTime (alone xPic) 5) xPic = false ∧
      ledgerReady xPic ecfg = true ∧
      [65536].length = (pictureUnits ecfg).length ∧
      (List.foldl (fun x1 x2 => x1 + x2) 0 [65536] ≤ 65536) ∧
      [27].all (placeable (atTime (alone xPic) 5) xPic ecfg) = true ∧
      ([27].length = (List.filter (fun u => decide (u.band = 0) && codesUnit xPic ecfg u) (pictureUnits ecfg)).length)) ∧
    (sessById sQ 255 = some xQ ∧
      headCommand sQ 27 = some band27 ∧
      frameOf xQ band27.frame = some (fr [unitV] 1) ∧
      asleep sQ = false ∧
      27 < 28 ∧
      band27.session = 255 ∧
      (fr [unitV] 1).units[band27.unit]? = some unitV ∧
      startable (atTime sQ 5) 27 xQ (fr [unitV] 1) unitV = true) ∧
    (sessById (alone xInt) 255 = some xInt ∧
      frameOf xInt 0 = some fInter ∧
      asleep (alone xInt) = false ∧
      3 < 4 ∧
      surveyable (alone xInt) 3 0 xInt fInter [cell0] = true) ∧
    (sessById (alone (gapX skipc)) 255 = some (gapX skipc) ∧
      asleep (alone (gapX skipc)) = false ∧
      (gapX skipc).enc.arrivedAt = some 0 ∧
      (gapX skipc).decode = false ∧
      cSource (gapX skipc).cfg ≠ 0 ∧
      ((gapX skipc).state = SessState.running ∨ (gapX skipc).state = SessState.resync) ∧
      0 + 2 * framePeriod (gapX skipc).cfg ≤ max (alone (gapX skipc)).now 100000000 ∧
      u8 (gapX skipc).cfg 17 = 1) ∧
    (sessById (alone (gapX repc)) 255 = some (gapX repc) ∧
      asleep (alone (gapX repc)) = false ∧
      (gapX repc).enc.arrivedAt = some 0 ∧
      (gapX repc).decode = false ∧
      cSource (gapX repc).cfg ≠ 0 ∧
      ((gapX repc).state = SessState.running ∨ (gapX repc).state = SessState.resync) ∧
      0 + 2 * framePeriod (gapX repc).cfg ≤ max (alone (gapX repc)).now 100000000 ∧
      u8 (gapX repc).cfg 17 ≠ 1 ∧
      (gapX repc).enc.lastSource = some pic0) :=
  ⟨⟨rfl, rfl, rfl, by decide +kernel⟩,
   ⟨rfl, rfl, rfl, rfl, rfl, by decide +kernel⟩,
   ⟨rfl, rfl, rfl, by decide +kernel⟩,
   ⟨rfl, rfl, by decide +kernel⟩,
   ⟨rfl, by decide +kernel⟩,
   ⟨rfl, by decide +kernel⟩⟩

theorem witness_CodingPipelineCompletes :
    (workOf (working fN [none, none, none, none, none, none, none]) 27 =
          some (xRun ecfg [fN] [picRead], fN, unitN, { session := 255, frame := 0, unit := 0 }) ∧
      slotOf (coreGet (working fN [none, none, none, none, none, none, none]) 27) 0 = none ∧
      asleep (working fN [none, none, none, none, none, none, none]) = false ∧
      27 < 28 ∧
      unitN.nextCu < unitCus unitN) ∧
    (workOf (working fN (pipeAt 0 sl0)) 27 =
          some (xRun ecfg [fN] [picRead], fN, unitN, { session := 255, frame := 0, unit := 0 }) ∧
      slotOf (coreGet (working fN (pipeAt 0 sl0)) 27) (1 - 1) = some sl0 ∧
      asleep (working fN (pipeAt 0 sl0)) = false ∧
      27 < 28 ∧
      1 ≤ 1 ∧
      1 ≤ 6 ∧
      (slotOf (coreGet (working fN (pipeAt 0 sl0)) 27) 1 = none ∨ 1 = 6) ∧
      mayEnter (working fN (pipeAt 0 sl0)) 27 1 fN unitN sl0 = true ∧
      (1 ≠ 1 ∨ fN.intra = true)) ∧
    (workOf (working fN (pipeAt 4 slD)) 27 =
          some (xRun ecfg [fN] [picRead], fN, unitN, { session := 255, frame := 0, unit := 0 }) ∧
      slotOf (coreGet (working fN (pipeAt 4 slD)) 27) (5 - 1) = some slD ∧
      asleep (working fN (pipeAt 4 slD)) = false ∧
      27 < 28 ∧
      1 ≤ 5 ∧
      5 ≤ 6 ∧
      (slotOf (coreGet (working fN (pipeAt 4 slD)) 27) 5 = none ∨ 5 = 6) ∧
      mayEnter (working fN (pipeAt 4 slD)) 27 5 fN unitN slD = true ∧
      (5 ≠ 1 ∨ fN.intra = true)) ∧
    (workOf (working fN (pipeAt 5 slD)) 27 =
          some (xRun ecfg [fN] [picRead], fN, unitN, { session := 255, frame := 0, unit := 0 }) ∧
      slotOf (coreGet (working fN (pipeAt 5 slD)) 27) (6 - 1) = some slD ∧
      asleep (working fN (pipeAt 5 slD)) = false ∧
      27 < 28 ∧
      1 ≤ 6 ∧
      6 ≤ 6 ∧
      (slotOf (coreGet (working fN (pipeAt 5 slD)) 27) 6 = none ∨ 6 = 6) ∧
      mayEnter (working fN (pipeAt 5 slD)) 27 6 fN unitN slD = true ∧
      (6 ≠ 1 ∨ fN.intra = true)) ∧
    (workOf (working fNi (pipeAt 0 sl0)) 27 =
          some (xRun ecfg [fNi] [picRead], fNi, unitN, { session := 255, frame := 0, unit := 0 }) ∧
      slotOf (coreGet (working fNi (pipeAt 0 sl0)) 27) 0 = some sl0 ∧
      slotOf (coreGet (working fNi (pipeAt 0 sl0)) 27) 1 = none ∧
      asleep (working fNi (pipeAt 0 sl0)) = false ∧
      27 < 28 ∧
      rowAboveDone (working fNi (pipeAt 0 sl0)) fNi unitN sl0.cu = true ∧
      fNi.intra = false) ∧
    (workOf (working fN (pipeAt 4 sl0)) 27 =
          some (xRun ecfg [fN] [picRead], fN, unitN, { session := 255, frame := 0, unit := 0 }) ∧
      slotOf (coreGet (working fN (pipeAt 4 sl0)) 27) 4 = some sl0 ∧
      asleep (working fN (pipeAt 4 sl0)) = false ∧
      27 < 28 ∧
      sl0.decided = false ∧
      inOpenRow unitN sl0.cu = true ∧
      (20 = if sl0.attempt = 0 then firstQp fN.cfg unitN sl0.cu (meas 5).qp else sl0.qp0) ∧
      floorStep fN.cfg unitN (meas 5) sl0.cu sl0.attempt (qpOf fN.cfg 20 sl0.attempt) sl0.kept =
          FloorDecision.keep (keptOf fN (meas 5)) 0 0) ∧
    (workOf (working fFl (pipeAt 4 sl0)) 27 =
          some (xRun flc [fFl] [picRead], fFl, unitN, { session := 255, frame := 0, unit := 0 }) ∧
      slotOf (coreGet (working fFl (pipeAt 4 sl0)) 27) 4 = some sl0 ∧
      asleep (working fFl (pipeAt 4 sl0)) = false ∧
      27 < 28 ∧
      sl0.decided = false ∧
      inOpenRow unitN sl0.cu = true ∧
      (20 = if sl0.attempt = 0 then firstQp fFl.cfg unitN sl0.cu (meas 100000000).qp else sl0.qp0) ∧
      floorStep fFl.cfg unitN (meas 100000000) sl0.cu sl0.attempt (qpOf fFl.cfg 20 sl0.attempt) sl0.kept =
          FloorDecision.retry (keptOf fFl (meas 100000000))) ∧
    (workOf (working fR [none, none, none, none, none, none, none]) 27 =
          some (xRun ecfg [fR] [picRead], fR, unitR, { session := 255, frame := 0, unit := 0 }) ∧
      asleep (working fR [none, none, none, none, none, none, none]) = false ∧
      27 < 28 ∧
      rowOut (atTime (working fR [none, none, none, none, none, none, none]) 5) 27 unitR = true ∧
      unitR.commits.length + 1 ≠ unitR.rows ∧
      (fifoWrite (rowTag { session := 255, frame := 0, unit := 0 } (openRow unitR)) [1, 2, 3]
              (coreGet (working fR [none, none, none, none, none, none, none]) 27).ladle).overflow =
          (coreGet (working fR [none, none, none, none, none, none, none]) 27).ladle.overflow) ∧
    (workOf (working fL [none, none, none, none, none, none, none]) 27 =
          some (xRun ecfg [fL] [picRead], fL, unitL, { session := 255, frame := 0, unit := 0 }) ∧
      asleep (working fL [none, none, none, none, none, none, none]) = false ∧
      27 < 28 ∧
      rowOut (atTime (working fL [none, none, none, none, none, none, none]) 5) 27 unitL = true ∧
      unitL.commits.length + 1 = unitL.rows ∧
      (fifoWrite (rowTag { session := 255, frame := 0, unit := 0 } (openRow unitL)) [1, 2, 3]
              (coreGet (working fL [none, none, none, none, none, none, none]) 27).ladle).overflow =
          (coreGet (working fL [none, none, none, none, none, none, none]) 27).ladle.overflow) ∧
    (cRateMode flc ≠ 4 ∧
      strictHrd flc = false ∧
      (floorOn flc = false ∨ floorPass flc (meas 5) = true)) ∧
    (cRateMode flc ≠ 4 ∧
      strictHrd flc = false ∧
      floorOn flc = true ∧
      floorPass flc (meas 100000000) = false ∧
      0 < u8 flc 294 ∧
      qpMin flc < 20 ∧
      unitN.acc.spent + retryCharge flc ≤ unitN.budget) ∧
    (cRateMode flc ≠ 4 ∧
      strictHrd flc = false ∧
      floorOn flc = true ∧
      floorPass flc (meas 100000000) = false ∧
      losslessAble flc = true ∧
      (u8 flc 294 ≤ 2 ∨ 20 ≤ qpMin flc ∨ unitN.budget < unitN.acc.spent + retryCharge flc)) ∧
    (cRateMode flc ≠ 4 ∧
      strictHrd flc = false ∧
      floorOn flc = true ∧
      floorPass flc (meas 100000000) = false ∧
      losslessAble flc = true ∧
      (u8 flc 294 ≤ 0 ∨ 20 ≤ qpMin flc ∨ unitSpent.budget < unitSpent.acc.spent + retryCharge flc)) ∧
    (cRateMode llc = 4) :=
  ⟨⟨rfl, rfl, by decide +kernel⟩,
   ⟨rfl, rfl, by decide +kernel⟩,
   ⟨rfl, rfl, by decide +kernel⟩,
   ⟨rfl, rfl, by decide +kernel⟩,
   ⟨rfl, rfl, rfl, by decide +kernel⟩,
   ⟨rfl, rfl, by decide +kernel⟩,
   ⟨rfl, rfl, by decide +kernel⟩,
   ⟨rfl, by decide +kernel⟩,
   ⟨rfl, by decide +kernel⟩,
   by decide +kernel,
   by decide +kernel,
   by decide +kernel,
   by decide +kernel,
   by decide +kernel⟩

theorem witness_PpuBandsComplete :
    (sessById (alone xPic) ppu0.session = some xPic ∧
      xPic.decode = false ∧
      sourceOf (arrivingSource (atTime (alone xPic) 5) xPic ppu0) ppu0.frame = some pic0 ∧
      asleep (alone xPic) = false ∧
      3 < 4 ∧
      ppuServes (atTime (alone xPic) 5) xPic 3 = true ∧
      xPic.state ≠ SessState.created ∧
      xPic.state ≠ SessState.stopped ∧
      rowsReadable (atTime (alone xPic) 5) (arrivingSource (atTime (alone xPic) 5) xPic ppu0) pic0 ppu0.rows = true) ∧
    (sessById (alone (xD SessState.running)) ppu1.session = some (xD SessState.running) ∧
      asleep (alone (xD SessState.running)) = false ∧
      3 < 4 ∧
      ppuServes (atTime (alone (xD SessState.running)) 5) (xD SessState.running) 3 = true ∧
      (xD SessState.running).state ≠ SessState.created ∧
      (xD SessState.running).state ≠ SessState.stopped ∧
      (xD SessState.running).decode = true) :=
  ⟨⟨rfl, rfl, rfl, by decide +kernel⟩,
   ⟨rfl, by decide +kernel⟩⟩

theorem witness_DecodingCompletes :
    (sessById (alone xOne) 255 = some xOne ∧
      picOf xOne (du 0 0 1).pic = some pict ∧
      tfind pict.cus (du 0 0 1).cu = none ∧
      asleep (alone xOne) = false ∧
      (du 0 0 1).session = 255 ∧
      (du 0 0 1).core < 28 ∧
      xOne.decode = true ∧
      isLive xOne = true ∧
      decodable (atTime (alone xOne) (du 0 0 1).t) xOne (du 0 0 1) = true ∧
      pict.ended = false ∧
      (du 0 0 1).cu < gridN pict.head ∧
      pict.whole = false ∧
      (du 0 0 1).error ≠ 1 ∧
      (du 0 0 1).error ≠ 2 ∧
      (du 0 0 1).error ≠ 3) ∧
    (sessById (alone xOne) 255 = some xOne ∧
      picOf xOne (du 1 0 1).pic = some pict ∧
      tfind pict.cus (du 1 0 1).cu = none ∧
      asleep (alone xOne) = false ∧
      (du 1 0 1).session = 255 ∧
      (du 1 0 1).core < 28 ∧
      xOne.decode = true ∧
      isLive xOne = true ∧
      decodable (atTime (alone xOne) (du 1 0 1).t) xOne (du 1 0 1) = true ∧
      pict.ended = false ∧
      (du 1 0 1).cu < gridN pict.head ∧
      pict.whole = false ∧
      ((du 1 0 1).error = 1 ∨ (du 1 0 1).error = 2 ∨ (du 1 0 1).error = 3)) ∧
    (sessById (alone xOne) 255 = some xOne ∧
      picOf xOne (du 2 0 1).pic = some pict ∧
      tfind pict.cus (du 2 0 1).cu = none ∧
      asleep (alone xOne) = false ∧
      (du 2 0 1).session = 255 ∧
      (du 2 0 1).core < 28 ∧
      xOne.decode = true ∧
      isLive xOne = true ∧
      decodable (atTime (alone xOne) (du 2 0 1).t) xOne (du 2 0 1) = true ∧
      pict.ended = false ∧
      (du 2 0 1).cu < gridN pict.head ∧
      pict.whole = false ∧
      ((du 2 0 1).error = 1 ∨ (du 2 0 1).error = 2 ∨ (du 2 0 1).error = 3)) ∧
    (sessById (alone xNew) 255 = some xNew ∧
      picOf xNew (du 0 0 3).pic = none ∧
      asleep (alone xNew) = false ∧
      (du 0 0 3).session = 255 ∧
      (du 0 0 3).core < 28 ∧
      xNew.decode = true ∧
      isLive xNew = true ∧
      decodable (atTime (alone xNew) (du 0 0 3).t) xNew (du 0 0 3) = true ∧
      (du 0 0 3).pic = xNew.dec.nextPic ∧
      xNew.state ≠ SessState.stopping ∧
      picAccepted xNew (du 0 0 3).head = true ∧
      inFlightPics xNew < 4 ∧
      (du 0 0 3).cu < gridN (du 0 0 3).head) ∧
    (sessById (alone xUnc) 255 = some xUnc ∧
      picOf xUnc 0 = some pict1 ∧
      asleep (alone xUnc) = false ∧
      27 < 28 ∧
      pict1.ended = false ∧
      ((pict1.uncommitted.all fun c => !(c.fst == 27 && c.snd / gridW pict1.head == 0)) = false)) ∧
    (sessById (alone xOne) 255 = some xOne ∧
      picOf xOne 0 = some pict ∧
      asleep (alone xOne) = false ∧
      pict.ended = false ∧
      pict.uncommitted = [] ∧
      pict.isRef = true ∧
      xOne.state ≠ SessState.stopping) ∧
    (sessById (alone xEnd) 255 = some xEnd ∧
      picOf xEnd 0 = some pictE ∧
      asleep (alone xEnd) = false ∧
      xEnd.decode = true ∧
      outputReady (atTime (alone xEnd) 5) xEnd pictE = true) :=
  ⟨⟨rfl, rfl, rfl, by decide +kernel⟩,
   ⟨rfl, rfl, rfl, by decide +kernel⟩,
   ⟨rfl, rfl, rfl, by decide +kernel⟩,
   ⟨rfl, rfl, by decide +kernel⟩,
   ⟨rfl, rfl, by decide +kernel⟩,
   ⟨rfl, rfl, by decide +kernel⟩,
   ⟨rfl, rfl, by decide +kernel⟩⟩

theorem witness_DecodeInputCompletes :
    (sessById (alone xRtp) (rtp 97 5).session = some xRtp ∧
      asleep (alone xRtp) = false ∧
      xRtp.decode = true ∧
      (xRtp.state = SessState.running ∨ xRtp.state = SessState.resync) ∧
      securityStops (atTime (alone xRtp) (rtp 97 5).t) xRtp = false ∧
      u8 xRtp.cfg 20 = 1 ∧
      ((rtp 97 5).pt ≠ u8 xRtp.cfg 193 ∨ u8 xRtp.cfg 194 = 1 ∧ (rtp 97 5).ssrc ≠ u32 xRtp.cfg 196)) ∧
    (sessById (alone xRtp) (rtp 96 5).session = some xRtp ∧
      asleep (alone xRtp) = false ∧
      xRtp.decode = true ∧
      (xRtp.state = SessState.running ∨ xRtp.state = SessState.resync) ∧
      securityStops (atTime (alone xRtp) (rtp 96 5).t) xRtp = false ∧
      u8 xRtp.cfg 20 = 1 ∧
      (rtp 96 5).pt = u8 xRtp.cfg 193 ∧
      (u8 xRtp.cfg 194 ≠ 1 ∨ (rtp 96 5).ssrc = u32 xRtp.cfg 196) ∧
      (rtp 96 5).bad = false ∧
      (u8 xRtp.cfg 195 ≠ 1 ∨ (rtp 96 5).tagOk = true) ∧
      (rtp 96 5).unsupported = false ∧
      xRtp.dec.reorder = [] ∧
      (xRtp.dec.expected = none ∨ xRtp.dec.expected = some (rtp 96 5).seq)) ∧
    (sessById (alone xExp) (rtp 96 5).session = some xExp ∧
      asleep (alone xExp) = false ∧
      xExp.decode = true ∧
      (xExp.state = SessState.running ∨ xExp.state = SessState.resync) ∧
      securityStops (atTime (alone xExp) (rtp 96 5).t) xExp = false ∧
      u8 xExp.cfg 20 = 1 ∧
      (rtp 96 5).pt = u8 xExp.cfg 193 ∧
      (u8 xExp.cfg 194 ≠ 1 ∨ (rtp 96 5).ssrc = u32 xExp.cfg 196) ∧
      xExp.dec.expected = some 3 ∧
      0 < seqAhead 3 (rtp 96 5).seq ∧
      (∀ (q : RtpPkt), q ∈ xExp.dec.reorder → q.seq ≠ (rtp 96 5).seq ∧ q.seq ≠ 3)) ∧
    (sessById (alone xTsi) (rtp 96 5).session = some xTsi ∧
      asleep (alone xTsi) = false ∧
      xTsi.decode = true ∧
      (xTsi.state = SessState.running ∨ xTsi.state = SessState.resync) ∧
      securityStops (atTime (alone xTsi) (rtp 96 5).t) xTsi = false ∧
      u8 xTsi.cfg 20 = 2) ∧
    (sessById (alone xGap) (rtp 96 5).session = some xGap ∧
      asleep (alone xGap) = false ∧
      xGap.decode = true ∧
      (xGap.state = SessState.running ∨ xGap.state = SessState.resync) ∧
      securityStops (atTime (alone xGap) (rtp 96 5).t) xGap = false ∧
      xGap.dec.gapSince = some 0 ∧
      xGap.dec.expected = some 3 ∧
      0 + u32 xGap.cfg 204 * 1000 ≤ max (alone xGap).now 10000 ∧
      nextBehind xGap 3 = some (rtp 96 5)) :=
  ⟨⟨rfl, by decide +kernel⟩,
   ⟨rfl, by decide +kernel⟩,
   ⟨rfl, by decide +kernel⟩,
   ⟨rfl, by decide +kernel⟩,
   ⟨rfl, by decide +kernel⟩⟩

theorem witness_PixelPacketsComplete :
    (pxReceive (atTime (pxs px0) (pxp 1 [] false).t) 1 (pxp 1 [] false) = (false, good 1 px0 (pxp 1 [] false)) ∧
      asleep (pxs px0) = false ∧
      (pxp 1 [] false).port < 4 ∧
      pxReceives (pxs px0) (pxp 1 [] false).port = true) ∧
    (pxReceive (atTime (pxs px0) (pxp 2 [] false).t) 2 (pxp 2 [] false) = (false, good 2 px0 (pxp 2 [] false)) ∧
      asleep (pxs px0) = false ∧
      (pxp 2 [] false).port < 4 ∧
      pxReceives (pxs px0) (pxp 2 [] false).port = true) ∧
    (pxReceive (atTime (pxs px0) (pxp 3 [] false).t) 3 (pxp 3 [] false) = (false, good 3 px0 (pxp 3 [] false)) ∧
      asleep (pxs px0) = false ∧
      (pxp 3 [] false).port < 4 ∧
      pxReceives (pxs px0) (pxp 3 [] false).port = true) ∧
    (pxReceive (atTime (pxs px0) (pxp 4 [] false).t) 4 (pxp 4 [] false) = (false, good 4 px0 (pxp 4 [] false)) ∧
      asleep (pxs px0) = false ∧
      (pxp 4 [] false).port < 4 ∧
      pxReceives (pxs px0) (pxp 4 [] false).port = true) ∧
    (pxReceive (atTime (pxs px0) (pxp 1 startB true).t) 1 (pxp 1 startB true) = (true, good 1 px0 (pxp 1 startB true)) ∧
      asleep (pxs px0) = false ∧
      (pxp 1 startB true).port < 4 ∧
      pxReceives (pxs px0) (pxp 1 startB true).port = true) ∧
    (pxReceive (atTime (pxs px1) (pxp 2 (zeros 64) true).t) 2 (pxp 2 (zeros 64) true) =
          (true, good 2 px1 (pxp 2 (zeros 64) true)) ∧
      asleep (pxs px1) = false ∧
      (pxp 2 (zeros 64) true).port < 4 ∧
      pxReceives (pxs px1) (pxp 2 (zeros 64) true).port = true ∧
      (pxGet (good 2 px1 (pxp 2 (zeros 64) true)) (pxp 2 (zeros 64) true).port).picture = some pp0 ∧
      pp0.feeds = some (255, 0) ∧
      segmentFits pp0.fmt (pxp 2 (zeros 64) true) = true ∧
      segmentLate pp0 (pxp 2 (zeros 64) true) = false) ∧
    (pxReceive (atTime (pxs px1) (pxp 3 [] true).t) 3 (pxp 3 [] true) = (true, good 3 px1 (pxp 3 [] true)) ∧
      asleep (pxs px1) = false ∧
      (pxp 3 [] true).port < 4 ∧
      pxReceives (pxs px1) (pxp 3 [] true).port = true ∧
      (pxGet (good 3 px1 (pxp 3 [] true)) (pxp 3 [] true).port).picture = some pp0) ∧
    (pxReceive (atTime (pxs px1) (pxp 4 [1, 0, 3, 0, 2, 0, 0, 0] true).t) 4 (pxp 4 [1, 0, 3, 0, 2, 0, 0, 0] true) =
          (true, good 4 px1 (pxp 4 [1, 0, 3, 0, 2, 0, 0, 0] true)) ∧
      asleep (pxs px1) = false ∧
      (pxp 4 [1, 0, 3, 0, 2, 0, 0, 0] true).port < 4 ∧
      pxReceives (pxs px1) (pxp 4 [1, 0, 3, 0, 2, 0, 0, 0] true).port = true ∧
      (pxGet (good 4 px1 (pxp 4 [1, 0, 3, 0, 2, 0, 0, 0] true)) (pxp 4 [1, 0, 3, 0, 2, 0, 0, 0] true).port).picture =
          some pp0 ∧
      pp0.lines = false ∧
      u8 (pxp 4 [1, 0, 3, 0, 2, 0, 0, 0] true).payload 0 = 1 ∧
      (pxp 4 [1, 0, 3, 0, 2, 0, 0, 0] true).payload ≠ []) :=
  ⟨⟨Prod.ext (by decide +kernel) rfl, by decide +kernel⟩,
   ⟨Prod.ext (by decide +kernel) rfl, by decide +kernel⟩,
   ⟨Prod.ext (by decide +kernel) rfl, by decide +kernel⟩,
   ⟨Prod.ext (by decide +kernel) rfl, by decide +kernel⟩,
   ⟨Prod.ext (by decide +kernel) rfl, by decide +kernel⟩,
   ⟨Prod.ext (by decide +kernel) rfl, by decide +kernel⟩,
   ⟨Prod.ext (by decide +kernel) rfl, by decide +kernel⟩,
   ⟨Prod.ext (by decide +kernel) rfl, by decide +kernel⟩⟩

theorem witness_PixelPortsComplete :
    (asleep (pxs px0) = false ∧
      3 < 4) ∧
    (asleep
            (pxs
              (let __src := px0;
              { cfg := __src.cfg, fenced := __src.fenced, up := false, holdLow := __src.holdLow, fifo := __src.fifo,
                picture := __src.picture, lastFrame := __src.lastFrame, skid := __src.skid, counters := __src.counters,
                txFrame := __src.txFrame, sending := __src.sending })) =
          false ∧
      3 < 4 ∧
      (pxGet
              (pxs
                (let __src := px0;
                { cfg := __src.cfg, fenced := __src.fenced, up := false, holdLow := __src.holdLow, fifo := __src.fifo,
                  picture := __src.picture, lastFrame := __src.lastFrame, skid := __src.skid, counters := __src.counters,
                  txFrame := __src.txFrame, sending := __src.sending }))
              3).up =
          false ∧
      fencing
            (pxs
              (let __src := px0;
              { cfg := __src.cfg, fenced := __src.fenced, up := false, holdLow := __src.holdLow, fifo := __src.fifo,
                picture := __src.picture, lastFrame := __src.lastFrame, skid := __src.skid, counters := __src.counters,
                txFrame := __src.txFrame, sending := __src.sending }))
            (FenceUnit.pixelPort 3) =
          false ∧
      (pxGet
                (pxs
                  (let __src := px0;
                  { cfg := __src.cfg, fenced := __src.fenced, up := false, holdLow := __src.holdLow, fifo := __src.fifo,
                    picture := __src.picture, lastFrame := __src.lastFrame, skid := __src.skid, counters := __src.counters,
                    txFrame := __src.txFrame, sending := __src.sending }))
                3).cfg.rxOn =
          true) ∧
    (asleep (pxs px0) = false ∧
      3 < 4 ∧
      (pxGet (pxs px0) 3).up = true) ∧
    (sessById (sTx 0) (snd 0).session = some xEnd ∧
      picOf xEnd (snd 0).pic = some pictE ∧
      asleep (sTx 0) = false ∧
      3 < 4 ∧
      (sTx 0).canary.gatedAt = none ∧
      (pxGet (sTx 0) 3).cfg.txOn = true ∧
      (pxGet (sTx 0) 3).fenced = false ∧
      (pxGet (sTx 0) 3).sending = some (snd 0) ∧
      lineTime (pxGet (sTx 0) 3) (snd 0) (snd 0).line ≤ max (sTx 0).now 5000 ∧
      (snd 0).line + 1 < (snd 0).fmt.height) ∧
    (sessById (sTx 63) (snd 63).session = some xEnd ∧
      picOf xEnd (snd 63).pic = some pictE ∧
      asleep (sTx 63) = false ∧
      3 < 4 ∧
      (sTx 63).canary.gatedAt = none ∧
      (pxGet (sTx 63) 3).cfg.txOn = true ∧
      (pxGet (sTx 63) 3).fenced = false ∧
      (pxGet (sTx 63) 3).sending = some (snd 63) ∧
      lineTime (pxGet (sTx 63) 3) (snd 63) (snd 63).line ≤ max (sTx 63).now 5000 ∧
      (snd 63).fmt.height ≤ (snd 63).line + 1) :=
  ⟨by decide +kernel,
   by decide +kernel,
   by decide +kernel,
   ⟨rfl, rfl, by decide +kernel⟩,
   ⟨rfl, rfl, by decide +kernel⟩⟩

theorem witness_SwitchCommandsComplete :
    (Starts (acmd 96 [(16, 4, 192)]) adm 96 (flight (cmd 96 [(16, 4, 192)])) ∧
      newPools (acmd 96 [(16, 4, 192)]) (flight (cmd 96 [(16, 4, 192)])).entry
            (readData (acmd 96 [(16, 4, 192)]) 0 (flight (cmd 96 [(16, 4, 192)])).entry polB) =
          newPools (acmd 96 [(16, 4, 192)]) (flight (cmd 96 [(16, 4, 192)])).entry
            (readData (acmd 96 [(16, 4, 192)]) adm.fn (flight (cmd 96 [(16, 4, 192)])).entry polB) ∧
      chkPools adm.fn polB (markStarted (acmd 96 [(16, 4, 192)]) adm) (flight (cmd 96 [(16, 4, 192)])).entry = none) ∧
    (Starts (acmd 97 [(16, 4, 256)]) adm 97 (flight (cmd 97 [(16, 4, 256)])) ∧
      256 ≤ cmdDataLen (flight (cmd 97 [(16, 4, 256)])).entry) ∧
    (Starts (acmd 98 [(24, 1, 1), (28, 4, 16)]) adm 98 (flight (cmd 98 [(24, 1, 1), (28, 4, 16)])) ∧
      u8 (flight (cmd 98 [(24, 1, 1), (28, 4, 16)])).entry 24 = 1 ∧
      16 ≤ u32 (flight (cmd 98 [(24, 1, 1), (28, 4, 16)])).entry 28 ∧
      u32 (flight (cmd 98 [(24, 1, 1), (28, 4, 16)])).entry 28 ≤ 5592405 ∧
      u64 (flight (cmd 98 [(24, 1, 1), (28, 4, 16)])).entry 32 % 4096 = 0 ∧
      u64 (flight (cmd 98 [(24, 1, 1), (28, 4, 16)])).entry 32 + 64 +
            192 * u32 (flight (cmd 98 [(24, 1, 1), (28, 4, 16)])).entry 28 ≤
          grantBytes (acmd 98 [(24, 1, 1), (28, 4, 16)]) 0) ∧
    (Starts (acmd 98 []) adm 98 (flight (cmd 98 [])) ∧
      u8 (flight (cmd 98 [])).entry 24 = 0) ∧
    (Starts (acmd 99 [(24, 1, 63), (25, 1, 1), (26, 1, 3), (27, 1, 255), (32, 2, 2047)]) adm 99
          (flight (cmd 99 [(24, 1, 63), (25, 1, 1), (26, 1, 3), (27, 1, 255), (32, 2, 2047)])) ∧
      u8 (flight (cmd 99 [(24, 1, 63), (25, 1, 1), (26, 1, 3), (27, 1, 255), (32, 2, 2047)])).entry 24 < 64 ∧
      u8 (flight (cmd 99 [(24, 1, 63), (25, 1, 1), (26, 1, 3), (27, 1, 255), (32, 2, 2047)])).entry 25 ≤ 1 ∧
      u8 (flight (cmd 99 [(24, 1, 63), (25, 1, 1), (26, 1, 3), (27, 1, 255), (32, 2, 2047)])).entry 26 < 4 ∧
      (u8 (flight (cmd 99 [(24, 1, 63), (25, 1, 1), (26, 1, 3), (27, 1, 255), (32, 2, 2047)])).entry 27 = 255 ∨
          u8 (flight (cmd 99 [(24, 1, 63), (25, 1, 1), (26, 1, 3), (27, 1, 255), (32, 2, 2047)])).entry 27 < 50) ∧
      u16 (flight (cmd 99 [(24, 1, 63), (25, 1, 1), (26, 1, 3), (27, 1, 255), (32, 2, 2047)])).entry 32 < 2048) ∧
    (Starts (acmd 100 [(24, 1, 255), (16, 4, 48)]) adm 100 (flight (cmd 100 [(24, 1, 255), (16, 4, 48)])) ∧
      readData (acmd 100 [(24, 1, 255), (16, 4, 48)]) 0 (flight (cmd 100 [(24, 1, 255), (16, 4, 48)])).entry profD =
          readData (acmd 100 [(24, 1, 255), (16, 4, 48)]) adm.fn (flight (cmd 100 [(24, 1, 255), (16, 4, 48)])).entry profD ∧
      1 ≤ u8 (flight (cmd 100 [(24, 1, 255), (16, 4, 48)])).entry 24 ∧
      48 ≤ cmdDataLen (flight (cmd 100 [(24, 1, 255), (16, 4, 48)])).entry ∧
      dataCheck
            (profileRules
              (readData (acmd 100 [(24, 1, 255), (16, 4, 48)]) 0 (flight (cmd 100 [(24, 1, 255), (16, 4, 48)])).entry
                profD)) =
          none) :=
  ⟨⟨starts_of (by decide +kernel), rfl, by decide +kernel⟩,
   ⟨starts_of (by decide +kernel), by decide +kernel⟩,
   ⟨starts_of (by decide +kernel), by decide +kernel⟩,
   ⟨starts_of (by decide +kernel), by decide +kernel⟩,
   ⟨starts_of (by decide +kernel), by decide +kernel⟩,
   ⟨starts_of (by decide +kernel), rfl, by decide +kernel⟩⟩

theorem witness_FramesAreReceived :
    (tfind (ethUp 15 eUp (up OpMode.ready)).sw.staged ehead.port = none ∧
      asleep (ethUp 15 eUp (up OpMode.ready)) = false ∧
      ehead.port < 16 ∧
      (ethGet (ethUp 15 eUp (up OpMode.ready)) ehead.port).up = true ∧
      (ethGet (ethUp 15 eUp (up OpMode.ready)) ehead.port).fenced = false) ∧
    (tfind (ethUp 15 eMac (up OpMode.ready)).sw.staged ehead.port = none ∧
      asleep (ethUp 15 eMac (up OpMode.ready)) = false ∧
      ehead.port < 16 ∧
      (ethGet (ethUp 15 eMac (up OpMode.ready)) ehead.port).up = true ∧
      (ethGet (ethUp 15 eMac (up OpMode.ready)) ehead.port).fenced = false) ∧
    (tfind (sStaged 3).sw.staged 15 = some (st0 3) ∧
      asleep (sStaged 3) = false ∧
      15 < 16 ∧
      (st0 3).buffer = none ∧
      ((st0 3).verdict ≠ 0 ∨ (ethGet (sStaged 3) (st0 3).head.port).cfg.maxFrame < 100 ∨ true = false)) ∧
    (tfind (sStaged 0).sw.staged 15 = some (st0 0) ∧
      asleep (sStaged 0) = false ∧
      15 < 16 ∧
      (st0 0).buffer = none ∧
      ((st0 0).verdict ≠ 0 ∨ (ethGet (sStaged 0) (st0 0).head.port).cfg.maxFrame < 9217 ∨ true = false)) ∧
    (tfind (sStaged 0).sw.staged 15 = some (st0 0) ∧
      asleep (sStaged 0) = false ∧
      15 < 16 ∧
      (st0 0).buffer = none ∧
      ((st0 0).verdict ≠ 0 ∨ (ethGet (sStaged 0) (st0 0).head.port).cfg.maxFrame < 100 ∨ false = false)) ∧
    (tfind (sStaged 0).sw.staged 15 = some (st0 0) ∧
      asleep (sStaged 0) = false ∧
      15 < 16 ∧
      (st0 0).buffer = none ∧
      (st0 0).verdict = 0 ∧
      9216 ≤ (ethGet (sStaged 0) (st0 0).head.port).cfg.maxFrame ∧
      (st0 0).head.macsec = 0 ∧
      (st0 0).head.ptpEvent = false ∧
      legA (sStaged 0) (st0 0).flow = none) :=
  ⟨⟨rfl, by decide +kernel⟩,
   ⟨rfl, by decide +kernel⟩,
   ⟨rfl, by decide +kernel⟩,
   ⟨rfl, by decide +kernel⟩,
   ⟨rfl, by decide +kernel⟩,
   ⟨rfl, by decide +kernel⟩⟩

theorem witness_PacketsMoveThroughTheSwitch :
    (asleep (up OpMode.ready) = false ∧
      pkt.t = 5 ∧
      16 ≤ pkt.port ∧
      pkt.port ≤ 45 ∧
      portWaits (up OpMode.ready) pkt.port = false) ∧
    (asleep sWaiting = false ∧
      pkt.t = 5 ∧
      16 ≤ pkt.port ∧
      pkt.port ≤ 45 ∧
      portWaits sWaiting pkt.port = true) ∧
    (firstWaiting sWaiting.sw.waiting 16 = some ((bufA, 0), []) ∧
      retried sWaiting 5 bufA =
          placePacket
            (swSet (atTime sWaiting 5)
              (have __src := sWaiting.sw;
              { pools := __src.pools, buffers := __src.buffers, nextBuf := __src.nextBuf, profiles := __src.profiles,
                rules := __src.rules, capture := __src.capture, counters := __src.counters, staged := __src.staged,
                avg := __src.avg, waiting := [] }))
            bufA ∧
      asleep sWaiting = false ∧
      16 < 46 ∧
      (retried sWaiting 5 bufA).sw.waiting = []) ∧
    (firstWaiting (sFull bufE).sw.waiting 15 = some ((bufE, 0), []) ∧
      retried (sFull bufE) 300 bufE =
          placePacket
            (swSet (atTime (sFull bufE) 300)
              (have __src := (sFull bufE).sw;
              { pools := __src.pools, buffers := __src.buffers, nextBuf := __src.nextBuf, profiles := __src.profiles,
                rules := __src.rules, capture := __src.capture, counters := __src.counters, staged := __src.staged,
                avg := __src.avg, waiting := [] }))
            bufE ∧
      asleep (sFull bufE) = false ∧
      15 < 46 ∧
      (retried (sFull bufE) 300 bufE).sw.waiting = [] ++ [(bufE, max (sFull bufE).now 300)] ∧
      15 < 16 ∧
      0 + 256 ≤ (retried (sFull bufE) 300 bufE).now) ∧
    (firstWaiting (sFull bufA).sw.waiting 16 = some ((bufA, 0), []) ∧
      retried (sFull bufA) 300 bufA =
          placePacket
            (swSet (atTime (sFull bufA) 300)
              (have __src := (sFull bufA).sw;
              { pools := __src.pools, buffers := __src.buffers, nextBuf := __src.nextBuf, profiles := __src.profiles,
                rules := __src.rules, capture := __src.capture, counters := __src.counters, staged := __src.staged,
                avg := __src.avg, waiting := [] }))
            bufA ∧
      asleep (sFull bufA) = false ∧
      16 < 46 ∧
      (retried (sFull bufA) 300 bufA).sw.waiting = [] ++ [(bufA, max (sFull bufA).now 300)] ∧
      (16 ≤ 16 ∨ (retried (sFull bufA) 300 bufA).now < 0 + 256)) ∧
    (asleep (sPool poolLow) = false ∧
      0 < 8 ∧
      0 < (sPool poolLow).sw.pools.length ∧
      (poolAt (sPool poolLow) 0).refill = true) ∧
    (asleep (sPool poolHigh) = false ∧
      0 < 8 ∧
      0 < (sPool poolHigh).sw.pools.length ∧
      (poolAt (sPool poolHigh) 0).refill = true) ∧
    (pickClass (ethGet sEgress 12).classes (eligible (atTime sEgress 5) 12) = some (0, cls0) ∧
      pickSub cls0 0 (startable' (atTime sEgress 5) 12 0) = some (96, ent0) ∧
      asleep sEgress = false ∧
      12 < 16 ∧
      (ethGet sEgress 12).up = true ∧
      (ethGet sEgress 12).sending = none) ∧
    (asleep sEgr16 = false ∧
      16 ≤ 17 ∧
      17 < 46 ∧
      (ready (atTime sEgr16 5) 17).getLast? = some ent16) ∧
    (bufGet sSend 7 = some bufS ∧
      asleep sSend = false ∧
      15 < 46 ∧
      bufS.sending.contains 15 = true ∧
      bufS.eof = true ∧
      (16 ≤ 15 ∨ (ethGet sSend 15).busyTo ≤ max sSend.now 5)) ∧
    (asleep sSend = false ∧
      15 < 46 ∧
      65 ≠ 64) ∧
    (asleep (up OpMode.ready) = false ∧
      4095 < 4096 ∧
      (queueGet (up OpMode.ready) 4095).copies = []) :=
  ⟨by decide +kernel,
   by decide +kernel,
   ⟨rfl, rfl, by decide +kernel⟩,
   ⟨rfl, rfl, by decide +kernel⟩,
   ⟨rfl, rfl, by decide +kernel⟩,
   by decide +kernel,
   by decide +kernel,
   ⟨rfl, rfl, by decide +kernel⟩,
   by decide +kernel,
   ⟨rfl, by decide +kernel⟩,
   by decide +kernel,
   by decide +kernel⟩

theorem witness_TrafficCommandsComplete :
    (Starts (acmd 80 [(16, 4, 32), (24, 1, 12)]) adm 80 (flight (cmd 80 [(16, 4, 32), (24, 1, 12)])) ∧
      chkPort adm.fn portD (markStarted (acmd 80 [(16, 4, 32), (24, 1, 12)]) adm)
            (flight (cmd 80 [(16, 4, 32), (24, 1, 12)])).entry =
          none) ∧
    (Starts (acmd 80 [(16, 4, 32), (24, 1, 49)]) adm 80 (flight (cmd 80 [(16, 4, 32), (24, 1, 49)])) ∧
      chkPort adm.fn pxD (markStarted (acmd 80 [(16, 4, 32), (24, 1, 49)]) adm)
            (flight (cmd 80 [(16, 4, 32), (24, 1, 49)])).entry =
          none) ∧
    (Starts (sMac macL) adm 81 (flight (cmd 81 macL)) ∧
      chkMacsec adm.fn (markStarted (sMac macL) adm) (flight (cmd 81 macL)).entry = none) ∧
    (Starts
          (acmd 84 [(24, 2, 8191), (26, 1, 3), (28, 4, 400000000), (32, 4, 400000000), (36, 4, 16777215), (40, 4, 16777215)])
          adm 84
          (flight
            (cmd 84
              [(24, 2, 8191), (26, 1, 3), (28, 4, 400000000), (32, 4, 400000000), (36, 4, 16777215), (40, 4, 16777215)])) ∧
      u16
            (flight
                (cmd 84
                  [(24, 2, 8191), (26, 1, 3), (28, 4, 400000000), (32, 4, 400000000), (36, 4, 16777215),
                    (40, 4, 16777215)])).entry
            24 ≤
          8191 ∧
      u8
            (flight
                (cmd 84
                  [(24, 2, 8191), (26, 1, 3), (28, 4, 400000000), (32, 4, 400000000), (36, 4, 16777215),
                    (40, 4, 16777215)])).entry
            26 ≤
          3 ∧
      u32
            (flight
                (cmd 84
                  [(24, 2, 8191), (26, 1, 3), (28, 4, 400000000), (32, 4, 400000000), (36, 4, 16777215),
                    (40, 4, 16777215)])).entry
            28 ≤
          400000000 ∧
      (u8
                (flight
                    (cmd 84
                      [(24, 2, 8191), (26, 1, 3), (28, 4, 400000000), (32, 4, 400000000), (36, 4, 16777215),
                        (40, 4, 16777215)])).entry
                26 %
              2 =
            0 ∨
          u32
                (flight
                    (cmd 84
                      [(24, 2, 8191), (26, 1, 3), (28, 4, 400000000), (32, 4, 400000000), (36, 4, 16777215),
                        (40, 4, 16777215)])).entry
                28 ≤
              u32
                (flight
                    (cmd 84
                      [(24, 2, 8191), (26, 1, 3), (28, 4, 400000000), (32, 4, 400000000), (36, 4, 16777215),
                        (40, 4, 16777215)])).entry
                32 ∧
            u32
                (flight
                    (cmd 84
                      [(24, 2, 8191), (26, 1, 3), (28, 4, 400000000), (32, 4, 400000000), (36, 4, 16777215),
                        (40, 4, 16777215)])).entry
                32 ≤
              400000000) ∧
      u32
            (flight
                (cmd 84
                  [(24, 2, 8191), (26, 1, 3), (28, 4, 400000000), (32, 4, 400000000), (36, 4, 16777215),
                    (40, 4, 16777215)])).entry
            36 ≤
          16777215 ∧
      u32
            (flight
                (cmd 84
                  [(24, 2, 8191), (26, 1, 3), (28, 4, 400000000), (32, 4, 400000000), (36, 4, 16777215),
                    (40, 4, 16777215)])).entry
            40 ≤
          16777215) ∧
    (Starts (acmd 84 [(26, 1, 2), (28, 4, 5)]) adm 84 (flight (cmd 84 [(26, 1, 2), (28, 4, 5)])) ∧
      u16 (flight (cmd 84 [(26, 1, 2), (28, 4, 5)])).entry 24 ≤ 8191 ∧
      u8 (flight (cmd 84 [(26, 1, 2), (28, 4, 5)])).entry 26 ≤ 3 ∧
      u32 (flight (cmd 84 [(26, 1, 2), (28, 4, 5)])).entry 28 ≤ 400000000 ∧
      (u8 (flight (cmd 84 [(26, 1, 2), (28, 4, 5)])).entry 26 % 2 = 0 ∨
          u32 (flight (cmd 84 [(26, 1, 2), (28, 4, 5)])).entry 28 ≤ u32 (flight (cmd 84 [(26, 1, 2), (28, 4, 5)])).entry 32 ∧
            u32 (flight (cmd 84 [(26, 1, 2), (28, 4, 5)])).entry 32 ≤ 400000000) ∧
      u32 (flight (cmd 84 [(26, 1, 2), (28, 4, 5)])).entry 36 ≤ 16777215 ∧
      u32 (flight (cmd 84 [(26, 1, 2), (28, 4, 5)])).entry 40 ≤ 16777215) ∧
    (Starts (acmd 85 [(16, 4, 96), (24, 4, 16383)]) adm 85 (flight (cmd 85 [(16, 4, 96), (24, 4, 16383)])) ∧
      chkFlow adm.fn flowD (markStarted (acmd 85 [(16, 4, 96), (24, 4, 16383)]) adm)
            (flight (cmd 85 [(16, 4, 96), (24, 4, 16383)])).entry =
          none) ∧
    (Starts (acmd 85 [(16, 4, 96), (24, 4, 0)]) adm 85 (flight (cmd 85 [(16, 4, 96), (24, 4, 0)])) ∧
      chkFlow adm.fn flowD (markStarted (acmd 85 [(16, 4, 96), (24, 4, 0)]) adm)
            (flight (cmd 85 [(16, 4, 96), (24, 4, 0)])).entry =
          none) ∧
    (Starts (acmd 86 [(24, 2, 4095), (26, 1, 12), (28, 2, 96), (30, 2, 1), (32, 4, 2048)]) adm 86
          (flight (cmd 86 [(24, 2, 4095), (26, 1, 12), (28, 2, 96), (30, 2, 1), (32, 4, 2048)])) ∧
      chkQueue (markStarted (acmd 86 [(24, 2, 4095), (26, 1, 12), (28, 2, 96), (30, 2, 1), (32, 4, 2048)]) adm)
            (flight (cmd 86 [(24, 2, 4095), (26, 1, 12), (28, 2, 96), (30, 2, 1), (32, 4, 2048)])).entry =
          none) ∧
    (Starts (acmd 87 [(24, 2, 1023), (26, 1, 12), (27, 1, 7), (36, 4, 9216)]) adm 87
          (flight (cmd 87 [(24, 2, 1023), (26, 1, 12), (27, 1, 7), (36, 4, 9216)])) ∧
      chkSubscriber (markStarted (acmd 87 [(24, 2, 1023), (26, 1, 12), (27, 1, 7), (36, 4, 9216)]) adm)
            (flight (cmd 87 [(24, 2, 1023), (26, 1, 12), (27, 1, 7), (36, 4, 9216)])).entry =
          none) ∧
    (Starts (acmd 103 [(24, 1, 12), (32, 4, 16843009), (36, 4, 16843009)]) adm 103
          (flight (cmd 103 [(24, 1, 12), (32, 4, 16843009), (36, 4, 16843009)])) ∧
      portUsed (acmd 103 [(24, 1, 12), (32, 4, 16843009), (36, 4, 16843009)])
            (u8 (flight (cmd 103 [(24, 1, 12), (32, 4, 16843009), (36, 4, 16843009)])).entry 24) =
          true ∧
      (∀ (k : Nat), k < 8 → 1 ≤ u8 (flight (cmd 103 [(24, 1, 12), (32, 4, 16843009), (36, 4, 16843009)])).entry (32 + k))) ∧
    (Starts (acmd 104 [(16, 4, 40), (24, 1, 12)]) adm 104 (flight (cmd 104 [(16, 4, 40), (24, 1, 12)])) ∧
      readGates
            (readData (acmd 104 [(16, 4, 40), (24, 1, 12)]) 0 (flight (cmd 104 [(16, 4, 40), (24, 1, 12)])).entry gclD) =
          readGates
            (readData (acmd 104 [(16, 4, 40), (24, 1, 12)]) adm.fn (flight (cmd 104 [(16, 4, 40), (24, 1, 12)])).entry gclD) ∧
      chkGcl adm.fn gclD (markStarted (acmd 104 [(16, 4, 40), (24, 1, 12)]) adm)
            (flight (cmd 104 [(16, 4, 40), (24, 1, 12)])).entry =
          none) ∧
    (Starts (acmd 104 [(16, 4, 32), (24, 1, 12)]) adm 104 (flight (cmd 104 [(16, 4, 32), (24, 1, 12)])) ∧
      readGates
            (readData (acmd 104 [(16, 4, 32), (24, 1, 12)]) 0 (flight (cmd 104 [(16, 4, 32), (24, 1, 12)])).entry
              (zeros 32)) =
          readGates
            (readData (acmd 104 [(16, 4, 32), (24, 1, 12)]) adm.fn (flight (cmd 104 [(16, 4, 32), (24, 1, 12)])).entry
              (zeros 32)) ∧
      chkGcl adm.fn (zeros 32) (markStarted (acmd 104 [(16, 4, 32), (24, 1, 12)]) adm)
            (flight (cmd 104 [(16, 4, 32), (24, 1, 12)])).entry =
          none) :=
  ⟨⟨starts_of (by decide +kernel), by decide +kernel⟩,
   ⟨starts_of (by decide +kernel), by decide +kernel⟩,
   ⟨starts_of (by decide +kernel), by decide +kernel⟩,
   ⟨starts_of (by decide +kernel), by decide +kernel⟩,
   ⟨starts_of (by decide +kernel), by decide +kernel⟩,
   ⟨starts_of (by decide +kernel), by decide +kernel⟩,
   ⟨starts_of (by decide +kernel), by decide +kernel⟩,
   ⟨starts_of (by decide +kernel), by decide +kernel⟩,
   ⟨starts_of (by decide +kernel), by decide +kernel⟩,
   ⟨starts_of (by decide +kernel), by decide +kernel⟩,
   ⟨starts_of (by decide +kernel), rfl, by decide +kernel⟩,
   ⟨starts_of (by decide +kernel), rfl, by decide +kernel⟩⟩

theorem witness_PortEventsComplete :
    (asleep (ethS eNext) = false ∧
      12 < 16 ∧
      (ethGet (ethS eNext) 12).nextGates = some (0, gl) ∧
      ↑0 ≤ ptpTime (atTime (ethS eNext) 5)) ∧
    (asleep (ethS eGate) = false ∧
      12 < 16 ∧
      (ethGet (ethS eGate) 12).nextGates = none ∧
      (ethGet (ethS eGate) 12).gates = some gl) ∧
    (asleep (ethS eXoff) = false ∧
      12 < 16 ∧
      (ethGet (ethS eXoff) 12).up = true ∧
      bitOf (ethGet (ethS eXoff) 12).cfg.flags 0 = true ∧
      1 ≠ 0) ∧
    (asleep (ethS eXoff) = false ∧
      12 < 16) ∧
    (asleep sMerge = false ∧
      9 ≤ 16383 ∧
      heldSince sMerge 9 = some 0 ∧
      0 + skewNs sMerge 9 ≤ max sMerge.now 1000000) ∧
    (asleep sMerge = false ∧
      9 ≤ 16383 ∧
      flowReal sMerge 9 = true ∧
      mergeNamed (flowGet sMerge 9).raw = true ∧
      (mergeGet sMerge 9).lastB + skewNs sMerge 9 ≤ max sMerge.now 1000000) ∧
    (asleep sMerge = false ∧
      9 ≤ 16383 ∧
      flowReal sMerge 9 = true ∧
      mergeNamed (flowGet sMerge 9).raw = true ∧
      (mergeGet sMerge 9).lastA + skewNs sMerge 9 ≤ max sMerge.now 1000000) ∧
    (asleep (ethS eDown) = false ∧
      12 < 16 ∧
      portUsed (ethS eDown) 12 = true ∧
      (ethGet (ethS eDown) 12).cfg.enable = true ∧
      fencing (ethS eDown) (FenceUnit.ethPort 12) = false ∧
      (ethGet (ethS eDown) 12).up = false) ∧
    (asleep (ethS eUp) = false ∧
      12 < 16 ∧
      (ethGet (ethS eUp) 12).up = true) :=
  ⟨by decide +kernel,
   by decide +kernel,
   by decide +kernel,
   by decide +kernel,
   by decide +kernel,
   by decide +kernel,
   by decide +kernel,
   by decide +kernel,
   by decide +kernel⟩

theorem witness_TableCommandsComplete :
    (Starts (acmd 88 insL) adm 88 (flight (cmd 88 insL)) ∧
      readData (acmd 88 insL) 0 (flight (cmd 88 insL)).entry key1 =
          readData (acmd 88 insL) adm.fn (flight (cmd 88 insL)).entry key1 ∧
      fieldCheck
            (lenRule (flight (cmd 88 insL)).entry (readData (acmd 88 insL) 0 (flight (cmd 88 insL)).entry key1) ++
              [(decide (u8 (flight (cmd 88 insL)).entry 24 ≤ 1), 24)]) =
          none ∧
      dataCheck
            (keyRules (readData (acmd 88 insL) 0 (flight (cmd 88 insL)).entry key1) ++
              resultRules (u8 (readData (acmd 88 insL) 0 (flight (cmd 88 insL)).entry key1) 20)
                (u8 (readData (acmd 88 insL) 0 (flight (cmd 88 insL)).entry key1) 21)
                (u16 (readData (acmd 88 insL) 0 (flight (cmd 88 insL)).entry key1) 22) 20) =
          none ∧
      (∀ (p : Nat × EmtEntry),
          emtFind (acmd 88 insL).tables.emt (keyOfSlots (readData (acmd 88 insL) 0 (flight (cmd 88 insL)).entry key1)) =
              some p →
            p.snd.static = false ∨ u8 (flight (cmd 88 insL)).entry 24 = 1) ∧
      ent1 =
          { typ := u8 (readData (acmd 88 insL) 0 (flight (cmd 88 insL)).entry key1) 0 % 4, static := true,
            key := keyOfSlots (readData (acmd 88 insL) 0 (flight (cmd 88 insL)).entry key1),
            result := resultOf (readData (acmd 88 insL) 0 (flight (cmd 88 insL)).entry key1), ageStamp := 0, moveStamp := 0 } ∧
      emtInsert (acmd 88 insL).tables.emt ent1 = some (0, [(slot1, ent1)])) ∧
    (Starts (tabS tab1 (acmd 89 insL)) adm 89 (flight (cmd 89 insL)) ∧
      readData (tabS tab1 (acmd 89 insL)) 0 (flight (cmd 89 insL)).entry key1 =
          readData (tabS tab1 (acmd 89 insL)) adm.fn (flight (cmd 89 insL)).entry key1 ∧
      emtFind (tabS tab1 (acmd 89 insL)).tables.emt
            (keyOfSlots (readData (tabS tab1 (acmd 89 insL)) 0 (flight (cmd 89 insL)).entry key1)) =
          some (slot1, ent1) ∧
      fieldCheck
            (lenRule (flight (cmd 89 insL)).entry (readData (tabS tab1 (acmd 89 insL)) 0 (flight (cmd 89 insL)).entry key1)) =
          none ∧
      dataCheck (keyRules (readData (tabS tab1 (acmd 89 insL)) 0 (flight (cmd 89 insL)).entry key1)) = none) ∧
    (Starts (acmd 89 insL) adm 89 (flight (cmd 89 insL)) ∧
      readData (acmd 89 insL) 0 (flight (cmd 89 insL)).entry key1 =
          readData (acmd 89 insL) adm.fn (flight (cmd 89 insL)).entry key1 ∧
      emtFind (acmd 89 insL).tables.emt (keyOfSlots (readData (acmd 89 insL) 0 (flight (cmd 89 insL)).entry key1)) = none ∧
      fieldCheck (lenRule (flight (cmd 89 insL)).entry (readData (acmd 89 insL) 0 (flight (cmd 89 insL)).entry key1)) = none ∧
      dataCheck (keyRules (readData (acmd 89 insL) 0 (flight (cmd 89 insL)).entry key1)) = none) ∧
    (Starts (tabS tab1 (acmd 90 [(16, 4, 32), (24, 4, 131071), (28, 4, 1)])) adm 90
          (flight (cmd 90 [(16, 4, 32), (24, 4, 131071), (28, 4, 1)])) ∧
      u32 (flight (cmd 90 [(16, 4, 32), (24, 4, 131071), (28, 4, 1)])).entry 24 < 131072 ∧
      1 ≤ u32 (flight (cmd 90 [(16, 4, 32), (24, 4, 131071), (28, 4, 1)])).entry 28 ∧
      u32 (flight (cmd 90 [(16, 4, 32), (24, 4, 131071), (28, 4, 1)])).entry 28 ≤ 4096 ∧
      32 * u32 (flight (cmd 90 [(16, 4, 32), (24, 4, 131071), (28, 4, 1)])).entry 28 ≤
          cmdDataLen (flight (cmd 90 [(16, 4, 32), (24, 4, 131071), (28, 4, 1)])).entry) ∧
    (Starts (tabS tab1 (acmd 91 [(24, 1, 1), (25, 1, 49)])) adm 91 (flight (cmd 91 [(24, 1, 1), (25, 1, 49)])) ∧
      u8 (flight (cmd 91 [(24, 1, 1), (25, 1, 49)])).entry 24 ≤ 2 ∧
      (u8 (flight (cmd 91 [(24, 1, 1), (25, 1, 49)])).entry 24 = 1 →
          u8 (flight (cmd 91 [(24, 1, 1), (25, 1, 49)])).entry 25 < 50) ∧
      (u8 (flight (cmd 91 [(24, 1, 1), (25, 1, 49)])).entry 24 = 2 →
          1 ≤ u16 (flight (cmd 91 [(24, 1, 1), (25, 1, 49)])).entry 26 ∧
            u16 (flight (cmd 91 [(24, 1, 1), (25, 1, 49)])).entry 26 ≤ 4094)) ∧
    (Starts (tabS tab1 (acmd 91 [(24, 1, 2), (26, 2, 4094)])) adm 91 (flight (cmd 91 [(24, 1, 2), (26, 2, 4094)])) ∧
      u8 (flight (cmd 91 [(24, 1, 2), (26, 2, 4094)])).entry 24 ≤ 2 ∧
      (u8 (flight (cmd 91 [(24, 1, 2), (26, 2, 4094)])).entry 24 = 1 →
          u8 (flight (cmd 91 [(24, 1, 2), (26, 2, 4094)])).entry 25 < 50) ∧
      (u8 (flight (cmd 91 [(24, 1, 2), (26, 2, 4094)])).entry 24 = 2 →
          1 ≤ u16 (flight (cmd 91 [(24, 1, 2), (26, 2, 4094)])).entry 26 ∧
            u16 (flight (cmd 91 [(24, 1, 2), (26, 2, 4094)])).entry 26 ≤ 4094)) ∧
    (Starts (acmd 92 [(24, 1, 4), (25, 1, 32), (26, 2, 4095)]) adm 92
          (flight (cmd 92 [(24, 1, 4), (25, 1, 32), (26, 2, 4095)])) ∧
      fieldCheck
            (routeRules (flight (cmd 92 [(24, 1, 4), (25, 1, 32), (26, 2, 4095)])).entry ++
              [(decide (u16 (flight (cmd 92 [(24, 1, 4), (25, 1, 32), (26, 2, 4095)])).entry 26 < 4096), 26)]) =
          none ∧
      (acmd 92 [(24, 1, 4), (25, 1, 32), (26, 2, 4095)]).tables.routes.any
            (sameRoute (flight (cmd 92 [(24, 1, 4), (25, 1, 32), (26, 2, 4095)])).entry) =
          false ∧
      ((trieUnits (acmd 92 [(24, 1, 4), (25, 1, 32), (26, 2, 4095)]).tables.routes +
            if u8 (flight (cmd 92 [(24, 1, 4), (25, 1, 32), (26, 2, 4095)])).entry 24 = 4 then 1 else 4) ≤
          32768)) ∧
    (Starts (acmd 92 [(24, 1, 6), (25, 1, 64), (26, 2, 4095)]) adm 92
          (flight (cmd 92 [(24, 1, 6), (25, 1, 64), (26, 2, 4095)])) ∧
      fieldCheck
            (routeRules (flight (cmd 92 [(24, 1, 6), (25, 1, 64), (26, 2, 4095)])).entry ++
              [(decide (u16 (flight (cmd 92 [(24, 1, 6), (25, 1, 64), (26, 2, 4095)])).entry 26 < 4096), 26)]) =
          none ∧
      (acmd 92 [(24, 1, 6), (25, 1, 64), (26, 2, 4095)]).tables.routes.any
            (sameRoute (flight (cmd 92 [(24, 1, 6), (25, 1, 64), (26, 2, 4095)])).entry) =
          false ∧
      ((trieUnits (acmd 92 [(24, 1, 6), (25, 1, 64), (26, 2, 4095)]).tables.routes +
            if u8 (flight (cmd 92 [(24, 1, 6), (25, 1, 64), (26, 2, 4095)])).entry 24 = 4 then 1 else 4) ≤
          32768)) ∧
    (Starts sRoute adm 92 (flight (cmd 92 rtL)) ∧
      fieldCheck (routeRules (flight (cmd 92 rtL)).entry ++ [(decide (u16 (flight (cmd 92 rtL)).entry 26 < 4096), 26)]) =
          none ∧
      sRoute.tables.routes.any (sameRoute (flight (cmd 92 rtL)).entry) = true) ∧
    (Starts sRouteF adm 92 (flight (cmd 92 rtL)) ∧
      fieldCheck (routeRules (flight (cmd 92 rtL)).entry ++ [(decide (u16 (flight (cmd 92 rtL)).entry 26 < 4096), 26)]) =
          none ∧
      sRouteF.tables.routes.any (sameRoute (flight (cmd 92 rtL)).entry) = false ∧
      (32768 < trieUnits sRouteF.tables.routes + if u8 (flight (cmd 92 rtL)).entry 24 = 4 then 1 else 4)) ∧
    (Starts sRouteD adm 93 (flight (cmd 93 rtL)) ∧
      fieldCheck (routeRules (flight (cmd 93 rtL)).entry) = none ∧
      sRouteD.tables.routes.any (sameRoute (flight (cmd 93 rtL)).entry) = true) ∧
    (Starts (acmd 93 rtL) adm 93 (flight (cmd 93 rtL)) ∧
      fieldCheck (routeRules (flight (cmd 93 rtL)).entry) = none ∧
      (acmd 93 rtL).tables.routes.any (sameRoute (flight (cmd 93 rtL)).entry) = false) ∧
    (Starts (acmd 94 [(24, 2, 4095), (26, 1, 0), (27, 1, 49)]) adm 94
          (flight (cmd 94 [(24, 2, 4095), (26, 1, 0), (27, 1, 49)])) ∧
      u16 (flight (cmd 94 [(24, 2, 4095), (26, 1, 0), (27, 1, 49)])).entry 24 < 4096 ∧
      fieldCheck
            (resultRules (u8 (flight (cmd 94 [(24, 2, 4095), (26, 1, 0), (27, 1, 49)])).entry 26)
              (u8 (flight (cmd 94 [(24, 2, 4095), (26, 1, 0), (27, 1, 49)])).entry 27)
              (u16 (flight (cmd 94 [(24, 2, 4095), (26, 1, 0), (27, 1, 49)])).entry 28) 26) =
          none) ∧
    (Starts (acmd 95 [(24, 1, 255), (28, 4, 65535), (32, 2, 60000)]) adm 95
          (flight (cmd 95 [(24, 1, 255), (28, 4, 65535), (32, 2, 60000)])) ∧
      fieldCheck (learnRules (flight (cmd 95 [(24, 1, 255), (28, 4, 65535), (32, 2, 60000)])).entry) = none ∧
      u8 (flight (cmd 95 [(24, 1, 255), (28, 4, 65535), (32, 2, 60000)])).entry 24 = 255) ∧
    (Starts (acmd 95 [(24, 1, 15), (25, 1, 63), (26, 2, 4094), (28, 4, 131071), (32, 2, 1000)]) adm 95
          (flight (cmd 95 [(24, 1, 15), (25, 1, 63), (26, 2, 4094), (28, 4, 131071), (32, 2, 1000)])) ∧
      fieldCheck
            (learnRules (flight (cmd 95 [(24, 1, 15), (25, 1, 63), (26, 2, 4094), (28, 4, 131071), (32, 2, 1000)])).entry) =
          none ∧
      u8 (flight (cmd 95 [(24, 1, 15), (25, 1, 63), (26, 2, 4094), (28, 4, 131071), (32, 2, 1000)])).entry 24 ≠ 255) ∧
    (Starts (acmd 101 [(16, 4, 16), (24, 2, 4095)]) adm 101 (flight (cmd 101 [(16, 4, 16), (24, 2, 4095)])) ∧
      readData (acmd 101 [(16, 4, 16), (24, 2, 4095)]) 0 (flight (cmd 101 [(16, 4, 16), (24, 2, 4095)])).entry (zeros 16) =
          readData (acmd 101 [(16, 4, 16), (24, 2, 4095)]) adm.fn (flight (cmd 101 [(16, 4, 16), (24, 2, 4095)])).entry
            (zeros 16) ∧
      1 ≤ u16 (flight (cmd 101 [(16, 4, 16), (24, 2, 4095)])).entry 24 ∧
      u16 (flight (cmd 101 [(16, 4, 16), (24, 2, 4095)])).entry 24 ≤ 4095 ∧
      16 ≤ cmdDataLen (flight (cmd 101 [(16, 4, 16), (24, 2, 4095)])).entry ∧
      u64
            (readData (acmd 101 [(16, 4, 16), (24, 2, 4095)]) 0 (flight (cmd 101 [(16, 4, 16), (24, 2, 4095)])).entry
              (zeros 16))
            0 <
          2 ^ 50) ∧
    (Starts (acmd 102 [(16, 4, 32)]) adm 102 (flight (cmd 102 [(16, 4, 32)])) ∧
      32 ≤ cmdDataLen (flight (cmd 102 [(16, 4, 32)])).entry) ∧
    (emtFind [] ent1.key = none ∧
      freePlace [] (emtBucket 0 ent1.key) ent1.typ = some slot1) ∧
    (Starts sEmtFull adm 88 (flight (cmd 88 insL)) ∧
      readData sEmtFull 0 (flight (cmd 88 insL)).entry key7 = readData sEmtFull adm.fn (flight (cmd 88 insL)).entry key7 ∧
      fieldCheck
            (lenRule (flight (cmd 88 insL)).entry (readData sEmtFull 0 (flight (cmd 88 insL)).entry key7) ++
              [(decide (u8 (flight (cmd 88 insL)).entry 24 ≤ 1), 24)]) =
          none ∧
      dataCheck
            (keyRules (readData sEmtFull 0 (flight (cmd 88 insL)).entry key7) ++
              resultRules (u8 (readData sEmtFull 0 (flight (cmd 88 insL)).entry key7) 20)
                (u8 (readData sEmtFull 0 (flight (cmd 88 insL)).entry key7) 21)
                (u16 (readData sEmtFull 0 (flight (cmd 88 insL)).entry key7) 22) 20) =
          none ∧
      (∀ (p : Nat × EmtEntry),
          emtFind sEmtFull.tables.emt (keyOfSlots (readData sEmtFull 0 (flight (cmd 88 insL)).entry key7)) = some p →
            p.snd.static = false ∨ u8 (flight (cmd 88 insL)).entry 24 = 1) ∧
      ent7 =
          { typ := u8 (readData sEmtFull 0 (flight (cmd 88 insL)).entry key7) 0 % 4, static := true,
            key := keyOfSlots (readData sEmtFull 0 (flight (cmd 88 insL)).entry key7),
            result := resultOf (readData sEmtFull 0 (flight (cmd 88 insL)).entry key7), ageStamp := 0, moveStamp := 0 } ∧
      emtInsert sEmtFull.tables.emt ent7 = none) :=
  ⟨⟨starts_of (by decide +kernel), rfl, by decide +kernel⟩,
   ⟨starts_of (by decide +kernel), rfl, rfl, by decide +kernel⟩,
   ⟨starts_of (by decide +kernel), rfl, rfl, by decide +kernel⟩,
   ⟨starts_of (by decide +kernel), by decide +kernel⟩,
   ⟨starts_of (by decide +kernel), by decide +kernel⟩,
   ⟨starts_of (by decide +kernel), by decide +kernel⟩,
   ⟨starts_of (by decide +kernel), by decide +kernel⟩,
   ⟨starts_of (by decide +kernel), by decide +kernel⟩,
   ⟨starts_of (by decide +kernel), by decide +kernel⟩,
   ⟨starts_of (by decide +kernel), by decide +kernel⟩,
   ⟨starts_of (by decide +kernel), by decide +kernel⟩,
   ⟨starts_of (by decide +kernel), by decide +kernel⟩,
   ⟨starts_of (by decide +kernel), by decide +kernel⟩,
   ⟨starts_of (by decide +kernel), by decide +kernel⟩,
   ⟨starts_of (by decide +kernel), by decide +kernel⟩,
   ⟨starts_of (by decide +kernel), rfl, by decide +kernel⟩,
   ⟨starts_of (by decide +kernel), by decide +kernel⟩,
   ⟨rfl, by decide +kernel⟩,
   ⟨starts_of (by decide +kernel), rfl, by decide +kernel⟩⟩

theorem witness_LearningCompletes :
    (emtFind (sTab (tabL 0 15 0 false)).tables.emt (l2Key 1 7) = none ∧
      asleep (sTab (tabL 0 15 0 false)) = false ∧
      15 < 16 ∧
      (sTab (tabL 0 15 0 false)).tables.requests = [{ kind := 0, port := 15, fid := 1, mac := 7 }] ∧
      learnedOn (sTab (tabL 0 15 0 false)).tables 15 < (learnPort (sTab (tabL 0 15 0 false)).tables 15).limit ∧
      emtInsert (sTab (tabL 0 15 0 false)).tables.emt
            (learnedEntry (atTime (sTab (tabL 0 15 0 false)) 5) { kind := 0, port := 15, fid := 1, mac := 7 }) =
          some
            (0, [(slotL, learnedEntry (atTime (sTab (tabL 0 15 0 false)) 5) { kind := 0, port := 15, fid := 1, mac := 7 })])) ∧
    (emtFind (sTab (tabL 1 15 0 false)).tables.emt (l2Key 1 7) = some (slotL, dyn 15 0 0) ∧
      asleep (sTab (tabL 1 15 0 false)) = false ∧
      15 < 16 ∧
      (sTab (tabL 1 15 0 false)).tables.requests = [{ kind := 1, port := 15, fid := 1, mac := 7 }] ∧
      (dyn 15 0 0).static = false ∧
      (dyn 15 0 0).result.port = 15) ∧
    (emtFind (sTab (tabL 2 14 0 false)).tables.emt (l2Key 1 7) = some (slotL, dyn 14 0 0) ∧
      asleep (sTab (tabL 2 14 0 false)) = false ∧
      15 < 16 ∧
      (sTab (tabL 2 14 0 false)).tables.requests = [{ kind := 2, port := 15, fid := 1, mac := 7 }] ∧
      (dyn 14 0 0).static = false ∧
      (dyn 14 0 0).result.port ≠ 15 ∧
      (sTab (tabL 2 14 0 false)).tables.dampMs ≤
          (ptpMs16 (atTime (sTab (tabL 2 14 0 false)) 1000000000) + 65536 - (dyn 14 0 0).moveStamp) % 65536 ∧
      learnedOn (sTab (tabL 2 14 0 false)).tables 15 < (learnPort (sTab (tabL 2 14 0 false)).tables 15).limit) ∧
    (emtFind (sTab (tabL 2 14 0 true)).tables.emt (l2Key 1 7) = some (slotL, dyn 14 0 0) ∧
      asleep (sTab (tabL 2 14 0 true)) = false ∧
      15 < 16 ∧
      (sTab (tabL 2 14 0 true)).tables.requests = [{ kind := 2, port := 15, fid := 1, mac := 7 }] ∧
      (dyn 14 0 0).static = false ∧
      (dyn 14 0 0).result.port ≠ 15 ∧
      (ptpMs16 (atTime (sTab (tabL 2 14 0 true)) 5) + 65536 - (dyn 14 0 0).moveStamp) % 65536 <
          (sTab (tabL 2 14 0 true)).tables.dampMs) ∧
    (asleep (sTab (tabL 2 14 0 true)) = false ∧
      15 < 16) ∧
    (asleep (sTab (tabL 2 14 0 true)) = false ∧
      15 < 16 ∧
      (learnPort (sTab (tabL 2 14 0 true)).tables 15).flapping = true ∧
      (learnPort (sTab (tabL 2 14 0 true)).tables 15).lastFlap + 60000000000 ≤ max (sTab (tabL 2 14 0 true)).now 60000000000) :=
  ⟨⟨rfl, by decide +kernel⟩,
   ⟨rfl, by decide +kernel⟩,
   ⟨rfl, by decide +kernel⟩,
   ⟨rfl, by decide +kernel⟩,
   by decide +kernel,
   by decide +kernel⟩

theorem witness_PtpClockCompletes :
    (Starts (acmd 82 [(16, 4, 32)]) adm 82 (flight (cmd 82 [(16, 4, 32)])) ∧
      chkPtp adm.fn ptpD (markStarted (acmd 82 [(16, 4, 32)]) adm) (flight (cmd 82 [(16, 4, 32)])).entry = none) ∧
    (Starts (acmd 83 [(16, 4, 32)]) adm 83 (flight (cmd 83 [(16, 4, 32)])) ∧
      32 ≤ cmdDataLen (flight (cmd 83 [(16, 4, 32)])).entry) ∧
    (asleep (sPtp pSlave) = false ∧
      (pin 1 0).port < 16 ∧
      ptpRuns (sPtp pSlave) (pin 1 0).port = true ∧
      (pin 1 0).domain = (sPtp pSlave).net.ptp.cfg.domain ∧
      (pin 1 0).t = 5 ∧
      (pin 1 0).kind = 1) ∧
    (asleep (sPtp pMaster) = false ∧
      (pin 2 0).port < 16 ∧
      ptpRuns (sPtp pMaster) (pin 2 0).port = true ∧
      (pin 2 0).domain = (sPtp pMaster).net.ptp.cfg.domain ∧
      (pin 2 0).t = 5 ∧
      (pin 2 0).kind = 2 ∧
      ptpMaster (sPtp pMaster).net.ptp (pin 2 0).port = true) ∧
    (asleep (sPtp pSlave) = false ∧
      (pin 0 (-100000)).port < 16 ∧
      ptpRuns (sPtp pSlave) (pin 0 (-100000)).port = true ∧
      (pin 0 (-100000)).domain = (sPtp pSlave).net.ptp.cfg.domain ∧
      (pin 0 (-100000)).t = 5 ∧
      ((pin 0 (-100000)).kind = 0 ∨ (pin 0 (-100000)).kind = 3) ∧
      ptpFollows (sPtp pSlave).net.ptp = true ∧
      (sPtp pSlave).net.ptp.slavePort = (pin 0 (-100000)).port ∧
      (pin 0 (-100000)).offset.natAbs ≤ (sPtp pSlave).net.ptp.cfg.stepNs) ∧
    (asleep (sPtp pSlave) = false ∧
      (pin 3 100001).port < 16 ∧
      ptpRuns (sPtp pSlave) (pin 3 100001).port = true ∧
      (pin 3 100001).domain = (sPtp pSlave).net.ptp.cfg.domain ∧
      (pin 3 100001).t = 5 ∧
      ((pin 3 100001).kind = 0 ∨ (pin 3 100001).kind = 3) ∧
      ptpFollows (sPtp pSlave).net.ptp = true ∧
      (sPtp pSlave).net.ptp.slavePort = (pin 3 100001).port ∧
      (sPtp pSlave).net.ptp.cfg.stepNs < (pin 3 100001).offset.natAbs) ∧
    (asleep (sPtp pMaster) = false ∧
      0 < 16 ∧
      ptpMaySend (sPtp pMaster) 0 0 = true ∧
      ptpDue (sPtp pMaster) 0 0 (max (sPtp pMaster).now 5) = true) ∧
    (asleep (sPtp pOne) = false ∧
      0 < 16 ∧
      ptpMaySend (sPtp pOne) 0 0 = true ∧
      ptpDue (sPtp pOne) 0 0 (max (sPtp pOne).now 5) = true) ∧
    (asleep (sPtp pSlave) = false ∧
      0 < 16 ∧
      ptpMaySend (sPtp pSlave) 0 2 = true ∧
      ptpDue (sPtp pSlave) 0 2 (max (sPtp pSlave).now 5) = true) ∧
    (asleep (sPtp pSlave) = false ∧
      ptpFollows (sPtp pSlave).net.ptp = true ∧
      (sPtp pSlave).net.ptp.announceAt.getD 0 +
            (sPtp pSlave).net.ptp.cfg.announceTimeout * logInterval (sPtp pSlave).net.ptp.cfg.logAnnounce ≤
          max (sPtp pSlave).now 750000000) ∧
    (asleep (sPtp pPps) = false) ∧
    (asleep (sPtp pSlave) = false) ∧
    (dead (sPtp pSlave) = false) :=
  ⟨⟨starts_of (by decide +kernel), by decide +kernel⟩,
   ⟨starts_of (by decide +kernel), by decide +kernel⟩,
   by decide +kernel,
   by decide +kernel,
   by decide +kernel,
   by decide +kernel,
   by decide +kernel,
   by decide +kernel,
   by decide +kernel,
   by decide +kernel,
   by decide +kernel,
   by decide +kernel,
   by decide +kernel⟩

theorem witness_FabricCommandsComplete :
    (Starts (onF (fab OpMode.ready FabricState.atReset) 112 [(24, 4, 9), (28, 4, 100000), (32, 2, 48820), (34, 2, 600)])
          adm 112 (flight (cmd 112 [(24, 4, 9), (28, 4, 100000), (32, 2, 48820), (34, 2, 600)])) ∧
      (onF (fab OpMode.ready FabricState.atReset) 112 [(24, 4, 9), (28, 4, 100000), (32, 2, 48820), (34, 2, 600)]).mode =
          OpMode.ready ∧
      (onF (fab OpMode.ready FabricState.atReset) 112
                  [(24, 4, 9), (28, 4, 100000), (32, 2, 48820), (34, 2, 600)]).foreman.platform.headless =
          false ∧
      (onF (fab OpMode.ready FabricState.atReset) 112
                [(24, 4, 9), (28, 4, 100000), (32, 2, 48820), (34, 2, 600)]).fabric.joining =
          none ∧
      100 ≤ u32 (flight (cmd 112 [(24, 4, 9), (28, 4, 100000), (32, 2, 48820), (34, 2, 600)])).entry 28 ∧
      u32 (flight (cmd 112 [(24, 4, 9), (28, 4, 100000), (32, 2, 48820), (34, 2, 600)])).entry 28 ≤ 100000 ∧
      1 ≤ u16 (flight (cmd 112 [(24, 4, 9), (28, 4, 100000), (32, 2, 48820), (34, 2, 600)])).entry 34 ∧
      u16 (flight (cmd 112 [(24, 4, 9), (28, 4, 100000), (32, 2, 48820), (34, 2, 600)])).entry 34 ≤ 600) ∧
    (Starts (onF (fab OpMode.ready FabricState.atReset) 113 [(24, 4, 9)]) adm 113 (flight (cmd 113 [(24, 4, 9)])) ∧
      (onF (fab OpMode.ready FabricState.atReset) 113 [(24, 4, 9)]).mode = OpMode.ready ∧
      (onF (fab OpMode.ready FabricState.atReset) 113 [(24, 4, 9)]).fabric.joining = none) ∧
    (Starts (onF (fab OpMode.worker fIn) 114 []) adm 114 (flight (cmd 114 [])) ∧
      (onF (fab OpMode.worker fIn) 114 []).mode ≠ OpMode.standalone ∧
      (onF (fab OpMode.worker fIn) 114 []).fabric.joined = true ∧
      ((onF (fab OpMode.worker fIn) 114 []).mode ≠ OpMode.ready ∨ (onF (fab OpMode.worker fIn) 114 []).fabric.joining ≠ none) ∧
      ((onF (fab OpMode.worker fIn) 114 []).mode ≠ OpMode.manager ∨
          fabricSessions (onF (fab OpMode.worker fIn) 114 []) = [] ∨ bitOf (u8 (flight (cmd 114 [])).entry 24) 0 = true)) ∧
    (Starts (onF (fab OpMode.manager fMan) 114 []) adm 114 (flight (cmd 114 [])) ∧
      (onF (fab OpMode.manager fMan) 114 []).mode ≠ OpMode.standalone ∧
      (onF (fab OpMode.manager fMan) 114 []).fabric.joined = true ∧
      ((onF (fab OpMode.manager fMan) 114 []).mode ≠ OpMode.ready ∨
          (onF (fab OpMode.manager fMan) 114 []).fabric.joining ≠ none) ∧
      ((onF (fab OpMode.manager fMan) 114 []).mode ≠ OpMode.manager ∨
          fabricSessions (onF (fab OpMode.manager fMan) 114 []) = [] ∨ bitOf (u8 (flight (cmd 114 [])).entry 24) 0 = true)) ∧
    (Starts (onF (fab OpMode.worker fIn) 115 [(16, 4, 64)]) adm 115 (flight (cmd 115 [(16, 4, 64)])) ∧
      u8 (flight (cmd 115 [(16, 4, 64)])).entry 24 = 0) ∧
    (Starts (onF (fab OpMode.manager fMan) 115 [(16, 4, 128), (24, 1, 1)]) adm 115
          (flight (cmd 115 [(16, 4, 128), (24, 1, 1)])) ∧
      u8 (flight (cmd 115 [(16, 4, 128), (24, 1, 1)])).entry 24 = 1) ∧
    (Starts (onF (fab OpMode.manager fMan) 116 [(24, 2, 5)]) adm 116 (flight (cmd 116 [(24, 2, 5)])) ∧
      memberGet (onF (fab OpMode.manager fMan) 116 [(24, 2, 5)]) (u16 (flight (cmd 116 [(24, 2, 5)])).entry 24) = some mem0 ∧
      (onF (fab OpMode.manager fMan) 116 [(24, 2, 5)]).mode = OpMode.manager ∧
      mem0.roles = [] ∧
      (onF (fab OpMode.manager fMan) 116 [(24, 2, 5)]).fabric.draining = none) ∧
    (Starts (onF (fab OpMode.manager fMan) 117 [(24, 2, 65535)]) adm 117 (flight (cmd 117 [(24, 2, 65535)])) ∧
      (onF (fab OpMode.manager fMan) 117 [(24, 2, 65535)]).mode = OpMode.manager ∧
      u16 (flight (cmd 117 [(24, 2, 65535)])).entry 24 = 65535) ∧
    (Starts (onF (fab OpMode.manager fMan) 117 [(24, 2, 5)]) adm 117 (flight (cmd 117 [(24, 2, 5)])) ∧
      memberGet (onF (fab OpMode.manager fMan) 117 [(24, 2, 5)]) (u16 (flight (cmd 117 [(24, 2, 5)])).entry 24) = some mem0 ∧
      (onF (fab OpMode.manager fMan) 117 [(24, 2, 5)]).mode = OpMode.manager ∧
      u16 (flight (cmd 117 [(24, 2, 5)])).entry 24 ≠ (onF (fab OpMode.manager fMan) 117 [(24, 2, 5)]).fabric.member ∧
      mem0.headless = false ∧
      mem0.quarantined = false) ∧
    (Starts (onF (fab OpMode.manager fHl) 117 [(24, 2, 5)]) adm 117 (flight (cmd 117 [(24, 2, 5)])) ∧
      memberGet (onF (fab OpMode.manager fHl) 117 [(24, 2, 5)]) (u16 (flight (cmd 117 [(24, 2, 5)])).entry 24) = some memH ∧
      (onF (fab OpMode.manager fHl) 117 [(24, 2, 5)]).mode = OpMode.manager ∧
      u16 (flight (cmd 117 [(24, 2, 5)])).entry 24 ≠ 65535 ∧
      memH.headless = true) ∧
    (Starts (onF (fab OpMode.manager fMan) 118 [(24, 4, 2)]) adm 118 (flight (cmd 118 [(24, 4, 2)])) ∧
      (beginEpoch
            (fabSet (markStarted (onF (fab OpMode.manager fMan) 118 [(24, 4, 2)]) adm) fun f =>
              { fabricId := f.fabricId, port := f.port, group := f.group, joined := f.joined, member := f.member,
                term := f.term, epoch := f.epoch, epochs := f.epochs, prepared := f.prepared, standby := f.standby,
                manager := f.manager, current := f.current, next := u32 (flight (cmd 118 [(24, 4, 2)])).entry 24,
                timeLimit := f.timeLimit, unqualHold := f.unqualHold, leaseEnd := f.leaseEnd, lastHello := f.lastHello,
                lastHelloSent := f.lastHelloSent, lastRenew := f.lastRenew, lastDigest := f.lastDigest,
                lastCheck := f.lastCheck, joining := f.joining, joinSeen := f.joinSeen, rejoinAt := f.rejoinAt,
                checkGm := f.checkGm, qualSince := f.qualSince, qualified := f.qualified, txSeq := f.txSeq, rx := f.rx,
                unacked := f.unacked, unreachable := f.unreachable, heldMsgs := f.heldMsgs, hashBad := f.hashBad,
                draining := f.draining, members := f.members, discards := f.discards, unprotected := f.unprotected,
                retransmits := f.retransmits, duplicates := f.duplicates, statsRequests := f.statsRequests,
                nextSession := f.nextSession })
            [] =
          beginEpoch
            (fabSet (markStarted (onF (fab OpMode.manager fMan) 118 [(24, 4, 2)]) adm) fun f =>
              { fabricId := f.fabricId, port := f.port, group := f.group, joined := f.joined, member := f.member,
                term := f.term, epoch := f.epoch, epochs := f.epochs, prepared := f.prepared, standby := f.standby,
                manager := f.manager, current := f.current, next := u32 (flight (cmd 118 [(24, 4, 2)])).entry 24,
                timeLimit := f.timeLimit, unqualHold := f.unqualHold, leaseEnd := f.leaseEnd, lastHello := f.lastHello,
                lastHelloSent := f.lastHelloSent, lastRenew := f.lastRenew, lastDigest := f.lastDigest,
                lastCheck := f.lastCheck, joining := f.joining, joinSeen := f.joinSeen, rejoinAt := f.rejoinAt,
                checkGm := f.checkGm, qualSince := f.qualSince, qualified := f.qualified, txSeq := f.txSeq, rx := f.rx,
                unacked := f.unacked, unreachable := f.unreachable, heldMsgs := f.heldMsgs, hashBad := f.hashBad,
                draining := f.draining, members := f.members, discards := f.discards, unprotected := f.unprotected,
                retransmits := f.retransmits, duplicates := f.duplicates, statsRequests := f.statsRequests,
                nextSession := f.nextSession })
            []) ∧
      (onF (fab OpMode.manager fMan) 118 [(24, 4, 2)]).mode = OpMode.manager ∧
      u32 (flight (cmd 118 [(24, 4, 2)])).entry 28 = 0) ∧
    (Starts (onF (fab OpMode.worker fIn) 116 [(24, 2, 5)]) adm 116 (flight (cmd 116 [(24, 2, 5)])) ∧
      (onF (fab OpMode.worker fIn) 116 [(24, 2, 5)]).mode ≠ OpMode.manager) :=
  ⟨⟨starts_of (by decide +kernel), by decide +kernel⟩,
   ⟨starts_of (by decide +kernel), by decide +kernel⟩,
   ⟨starts_of (by decide +kernel), by decide +kernel⟩,
   ⟨starts_of (by decide +kernel), by decide +kernel⟩,
   ⟨starts_of (by decide +kernel), by decide +kernel⟩,
   ⟨starts_of (by decide +kernel), by decide +kernel⟩,
   ⟨starts_of (by decide +kernel), rfl, by decide +kernel⟩,
   ⟨starts_of (by decide +kernel), by decide +kernel⟩,
   ⟨starts_of (by decide +kernel), rfl, by decide +kernel⟩,
   ⟨starts_of (by decide +kernel), rfl, by decide +kernel⟩,
   ⟨starts_of (by decide +kernel), rfl, by decide +kernel⟩,
   ⟨starts_of (by decide +kernel), by decide +kernel⟩⟩

theorem witness_MembershipCompletes :
    (asleep (fab OpMode.worker fIn) = false ∧
      (hd 3 4 65535).macsec = true ∧
      (hd 3 4 65535).fabric = (fab OpMode.worker fIn).fabric.fabricId ∧
      (hd 3 4 65535).verMajor = 1 ∧
      (fab OpMode.worker fIn).fabric.joining = none ∧
      (fab OpMode.worker fIn).fabric.joined = true ∧
      (fab OpMode.worker fIn).fabric.term ≤ (hd 3 4 65535).term ∧
      (fab OpMode.worker fIn).mode ≠ OpMode.manager) ∧
    (asleep (fab OpMode.worker fIn) = false ∧
      (hd 3 4 65535).macsec = true ∧
      (hd 3 4 65535).fabric = (fab OpMode.worker fIn).fabric.fabricId ∧
      (hd 3 4 65535).verMajor = 1 ∧
      (fab OpMode.worker fIn).fabric.joining = none ∧
      (fab OpMode.worker fIn).fabric.joined = true ∧
      (fab OpMode.worker fIn).fabric.term ≤ (hd 3 4 65535).term ∧
      (fab OpMode.worker fIn).mode ≠ OpMode.manager ∧
      (fab OpMode.worker fIn).mode ≠ OpMode.quarantine ∧
      (fab OpMode.worker fIn).mode ≠ OpMode.standby ∧
      (fab OpMode.worker fIn).fabric.term = (hd 3 4 65535).term ∧
      ((fab OpMode.worker fIn).mode = OpMode.worker → 2 ≠ (fab OpMode.worker fIn).fabric.member)) ∧
    (asleep (fab OpMode.worker fIn) = false ∧
      (hd 4 4 65535).macsec = true ∧
      (hd 4 4 65535).fabric = (fab OpMode.worker fIn).fabric.fabricId ∧
      (hd 4 4 65535).verMajor = 1 ∧
      (fab OpMode.worker fIn).fabric.joining = none ∧
      (fab OpMode.worker fIn).fabric.joined = true ∧
      (fab OpMode.worker fIn).fabric.term ≤ (hd 4 4 65535).term ∧
      (fab OpMode.worker fIn).mode ≠ OpMode.manager) ∧
    (asleep (fab OpMode.worker fIn) = false ∧
      (hd 2 4 65535).macsec = true ∧
      (hd 2 4 65535).fabric = (fab OpMode.worker fIn).fabric.fabricId ∧
      (hd 2 4 65535).verMajor = 1 ∧
      (fab OpMode.worker fIn).fabric.joined = true ∧
      (fab OpMode.worker fIn).fabric.joining = none ∧
      (hd 2 4 65535).term < (fab OpMode.worker fIn).fabric.term) ∧
    (asleep (fab OpMode.manager fMan) = false ∧
      (hd 4 4 65535).macsec = true ∧
      (hd 4 4 65535).fabric = (fab OpMode.manager fMan).fabric.fabricId ∧
      (hd 4 4 65535).verMajor = 1 ∧
      (fab OpMode.manager fMan).fabric.joining = none ∧
      (fab OpMode.manager fMan).fabric.joined = true ∧
      (fab OpMode.manager fMan).mode = OpMode.manager ∧
      ((fab OpMode.manager fMan).fabric.term < (hd 4 4 65535).term ∨
          (fab OpMode.manager fMan).fabric.term = (hd 4 4 65535).term ∧
            (hd 4 4 65535).sender < (fab OpMode.manager fMan).fabric.member)) ∧
    (asleep (fab OpMode.manager fMan9) = false ∧
      (hd 3 4 65535).macsec = true ∧
      (hd 3 4 65535).fabric = (fab OpMode.manager fMan9).fabric.fabricId ∧
      (hd 3 4 65535).verMajor = 1 ∧
      (fab OpMode.manager fMan9).fabric.joining = none ∧
      (fab OpMode.manager fMan9).fabric.joined = true ∧
      (fab OpMode.manager fMan9).mode = OpMode.manager ∧
      ((fab OpMode.manager fMan9).fabric.term < (hd 3 4 65535).term ∨
          (fab OpMode.manager fMan9).fabric.term = (hd 3 4 65535).term ∧
            (hd 3 4 65535).sender < (fab OpMode.manager fMan9).fabric.member)) ∧
    (asleep (fab OpMode.manager fMan) = false ∧
      (fab OpMode.manager fMan).mode = OpMode.manager ∧
      (∀ (v : Nat),
          (fab OpMode.manager fMan).fabric.lastHelloSent = some v → v + 100000000 ≤ max (fab OpMode.manager fMan).now 5)) ∧
    (asleep (fab OpMode.manager fMan) = false ∧
      (hd 0 0 0).macsec = true ∧
      (hd 0 0 0).fabric = (fab OpMode.manager fMan).fabric.fabricId ∧
      (fab OpMode.manager fMan).mode = OpMode.manager) ∧
    (asleep (fab OpMode.manager fMan) = false ∧
      hdOld.macsec = true ∧
      hdOld.fabric = (fab OpMode.manager fMan).fabric.fabricId ∧
      (fab OpMode.manager fMan).mode = OpMode.manager ∧
      hdOld.verMajor ≠ 1) ∧
    (memberGet (fab OpMode.manager fMan) hdNew.sender = none ∧
      asleep (fab OpMode.manager fMan) = false ∧
      hdNew.macsec = true ∧
      hdNew.fabric = (fab OpMode.manager fMan).fabric.fabricId ∧
      (fab OpMode.manager fMan).mode = OpMode.manager ∧
      hdNew.verMajor = 1 ∧
      (∀ (p : Nat × Member), p ∈ (fab OpMode.manager fMan).fabric.members → p.snd.serial ≠ 78) ∧
      freeMember (fab OpMode.manager fMan) = some 1 ∧
      0 = (fab OpMode.manager fMan).fabric.current) ∧
    (asleep (fab OpMode.ready fJoin) = false ∧
      (fab OpMode.ready fJoin).fabric.joining ≠ none ∧
      (fab OpMode.ready fJoin).fabric.joinSeen = true ∧
      (hd 3 4 65535).macsec = true ∧
      (hd 3 4 65535).fabric = (fab OpMode.ready fJoin).fabric.fabricId ∧
      (0 = 0 ∨ 0 = 1)) ∧
    (asleep (fab OpMode.ready fJoin) = false ∧
      (fab OpMode.ready fJoin).fabric.joining ≠ none ∧
      (fab OpMode.ready fJoin).fabric.joinSeen = true ∧
      (hd 3 4 65535).macsec = true ∧
      (hd 3 4 65535).fabric = (fab OpMode.ready fJoin).fabric.fabricId ∧
      (0 = 0 ∨ 0 = 1)) ∧
    (asleep (fab OpMode.ready fJoin) = false ∧
      (fab OpMode.ready fJoin).fabric.joining ≠ none ∧
      (fab OpMode.ready fJoin).fabric.joinSeen = true ∧
      (hd 3 4 65535).macsec = true ∧
      (hd 3 4 65535).fabric = (fab OpMode.ready fJoin).fabric.fabricId ∧
      (1 = 0 ∨ 1 = 1)) ∧
    (2 = 2 ∧
      asleep (fab OpMode.ready fJoin) = false ∧
      (fab OpMode.ready fJoin).fabric.joining ≠ none ∧
      (fab OpMode.ready fJoin).fabric.joinSeen = true ∧
      (hd 3 4 65535).macsec = true ∧
      (hd 3 4 65535).fabric = (fab OpMode.ready fJoin).fabric.fabricId) ∧
    (3 = 3 ∧
      asleep (fab OpMode.ready fJoin) = false ∧
      (fab OpMode.ready fJoin).fabric.joining ≠ none ∧
      (fab OpMode.ready fJoin).fabric.joinSeen = true ∧
      (hd 3 4 65535).macsec = true ∧
      (hd 3 4 65535).fabric = (fab OpMode.ready fJoin).fabric.fabricId) ∧
    (asleep (fab OpMode.ready fJoin) = false ∧
      (fab OpMode.ready fJoin).fabric.joining = some (some adm, 0) ∧
      (fab OpMode.ready fJoin).fabric.joinSeen = true ∧
      (∀ (u : Unacked), u ∈ (fab OpMode.ready fJoin).fabric.unacked → u.kind ≠ 2) ∧
      0 + 1001200000 ≤ max (fab OpMode.ready fJoin).now 1001200000) ∧
    (asleep sHead = false ∧
      sHead.mode = OpMode.ready ∧
      sHead.foreman.platform.headless = true ∧
      sHead.fabric.joining = none ∧
      sHead.fabric.rejoinAt = some 5 ∧
      5 ≤ max sHead.now 5) ∧
    (Heard (fab OpMode.manager fMan) (hd 3 4 0) ∧
      asleep (fab OpMode.manager fMan) = false) ∧
    (Heard (fab OpMode.manager fMan) (hd 3 4 0) ∧
      65535 = 65535 ∧
      asleep (fab OpMode.manager fMan) = false ∧
      (fab OpMode.manager fMan).mode = OpMode.manager ∧
      bitOf 1 0 = true ∧
      (hd 3 4 0).ackReq = true) ∧
    (asleep (fab OpMode.worker fIn) = false ∧
      (fab OpMode.worker fIn).fabric.joined = true ∧
      (fab OpMode.worker fIn).mode ≠ OpMode.manager ∧
      (∀ (v : Nat), (fab OpMode.worker fIn).fabric.lastRenew = some v → v + 100000000 ≤ max (fab OpMode.worker fIn).now 5)) ∧
    (asleep (fab OpMode.worker fLease) = false ∧
      (fab OpMode.worker fLease).fabric.joined = true ∧
      (fab OpMode.worker fLease).mode ≠ OpMode.manager ∧
      (fab OpMode.worker fLease).fabric.leaseEnd = some 500 ∧
      500 ≤ max (fab OpMode.worker fLease).now 500) ∧
    (memberGet (fab OpMode.manager fMan) 5 = some mem0 ∧
      asleep (fab OpMode.manager fMan) = false ∧
      (fab OpMode.manager fMan).mode = OpMode.manager ∧
      mem0.lastRenew + 500000000 ≤ max (fab OpMode.manager fMan).now 500000000) ∧
    (memberGet (fab OpMode.manager fMan) 0 = some mem0 ∧
      asleep (fab OpMode.manager fMan) = false ∧
      (fab OpMode.manager fMan).mode = OpMode.manager ∧
      mem0.lastRenew + 500000000 ≤ max (fab OpMode.manager fMan).now 500000000 ∧
      0 = (fab OpMode.manager fMan).fabric.member) ∧
    (asleep (fab OpMode.standby fStb) = false ∧
      (fab OpMode.standby fStb).mode = OpMode.standby ∧
      (fab OpMode.standby fStb).fabric.qualified = true ∧
      (fab OpMode.standby fStb).fabric.heldMsgs = [] ∧
      (fab OpMode.standby fStb).fabric.lastHello = some 0 ∧
      0 + 310000000 ≤ max (fab OpMode.standby fStb).now 310000000) :=
  ⟨by decide +kernel,
   by decide +kernel,
   by decide +kernel,
   by decide +kernel,
   by decide +kernel,
   by decide +kernel,
   by decide +kernel,
   by decide +kernel,
   by decide +kernel,
   ⟨rfl, by decide +kernel⟩,
   by decide +kernel,
   by decide +kernel,
   by decide +kernel,
   ⟨rfl, by decide +kernel⟩,
   ⟨rfl, by decide +kernel⟩,
   by decide +kernel,
   by decide +kernel,
   ⟨heard_of (by decide +kernel), by decide +kernel⟩,
   ⟨heard_of (by decide +kernel), rfl, by decide +kernel⟩,
   by decide +kernel,
   by decide +kernel,
   ⟨rfl, by decide +kernel⟩,
   ⟨rfl, by decide +kernel⟩,
   by decide +kernel⟩

theorem witness_FabricMessagesComplete :
    (asleep (fab OpMode.worker fIn) = false ∧
      hdBare.macsec = false) ∧
    (asleep (fab OpMode.worker fIn) = false ∧
      (hd 2 4 1).macsec = true ∧
      ((hd 2 4 1).fabric ≠ (fab OpMode.worker fIn).fabric.fabricId ∨
          (hd 2 4 1).verMajor ≠ 1 ∨
            (fab OpMode.worker fIn).fabric.joined = false ∨ (hd 2 4 1).term < (fab OpMode.worker fIn).fabric.term)) ∧
    (asleep (sF OpMode.worker fIn xF) = false ∧
      (hd 3 6 1).macsec = true ∧
      (hd 3 6 1).fabric = (sF OpMode.worker fIn xF).fabric.fabricId ∧
      (hd 3 6 1).verMajor = 1 ∧
      (sF OpMode.worker fIn xF).fabric.joined = true ∧
      (sF OpMode.worker fIn xF).fabric.term ≤ (hd 3 6 1).term ∧
      (sF OpMode.worker fIn xF).mode ≠ OpMode.manager ∧
      heldEpoch (sF OpMode.worker fIn xF) < (hd 3 6 1).epoch) ∧
    (Heard (sF OpMode.worker fIn xF) (hd 3 4 1) ∧
      epochFor (sF OpMode.worker fIn xF) 7 2 ≤ (hd 3 4 1).epoch ∧
      assignOk (sF OpMode.worker fIn xF) (hd 3 4 1) 7 1 0 ecfg = true ∧
      assignOk (heardAt (sF OpMode.worker fIn xF) (hd 3 4 1)) (hd 3 4 1) 7 1 0 ecfg = true ∧
      (hd 3 4 1).dest = (sF OpMode.worker fIn xF).fabric.member) ∧
    (Heard (sF OpMode.worker fIn xF) (hd 3 4 1) ∧
      epochFor (sF OpMode.worker fIn xF) 0 2 ≤ (hd 3 4 1).epoch ∧
      assignOk (sF OpMode.worker fIn xF) (hd 3 4 1) 0 1 0 ecfg = false ∧
      assignOk (heardAt (sF OpMode.worker fIn xF) (hd 3 4 1)) (hd 3 4 1) 0 1 0 ecfg = false) ∧
    (Heard (sF OpMode.worker fIn xF) (hd 3 4 1) ∧
      sessOfFabric (sF OpMode.worker fIn xF) 7 = some xF) ∧
    (Heard (sF OpMode.worker fIn xF) (hd 3 4 1) ∧
      ((sF OpMode.worker fIn xF).mode ≠ OpMode.manager ∨ sessOfFabric (sF OpMode.worker fIn xF) 8 = none)) ∧
    (Heard (sF OpMode.worker fIn xF) (hd 3 4 1) ∧
      sessOfFabric (sF OpMode.worker fIn xF) 7 = some xF ∧
      epochFor (sF OpMode.worker fIn xF) 7 2 ≤ (hd 3 4 1).epoch ∧
      bitOf (ust 16).flags 4 = true) ∧
    (Heard (sF OpMode.worker fIn xF) (hd 3 4 1) ∧
      sessOfFabric (sF OpMode.worker fIn xF) 7 = some xF ∧
      epochFor (sF OpMode.worker fIn xF) 7 2 ≤ (hd 3 4 1).epoch ∧
      bitOf (ust 0).flags 4 = false ∧
      (sF OpMode.worker fIn xF).fabric.draining = none) ∧
    (Heard (sF OpMode.worker fIn xF) (hd 3 4 1) ∧
      sessOfFabric (sF OpMode.worker fIn xF) 7 = some xF) ∧
    (Heard (sF OpMode.worker fIn xF) (hd 3 4 1) ∧
      sessOfFabric (sF OpMode.worker fIn xF) 7 = some xF) ∧
    (Heard (sF OpMode.worker fIn xF) (hd 3 4 1)) ∧
    (Heard (fab OpMode.manager fMan) (hd 3 4 0) ∧
      5 ≠ (fab OpMode.manager fMan).fabric.member ∧
      (fab OpMode.manager fMan).mode = OpMode.manager) ∧
    (Heard (sF OpMode.worker fIn xF) (hd 3 4 1) ∧
      5 ≠ (sF OpMode.worker fIn xF).fabric.member ∧
      (sF OpMode.worker fIn xF).mode = OpMode.worker) ∧
    (Heard (sF OpMode.worker fIn xF) (hd 3 4 1) ∧
      sessOfFabric (sF OpMode.worker fIn xF) 7 = some xF) ∧
    (Heard (sF OpMode.worker fIn xF) (hd 3 4 1) ∧
      (sF OpMode.worker fIn xF).mode ≠ OpMode.manager) ∧
    (Heard (sF OpMode.worker fIn xF) (hd 3 4 1) ∧
      sessOfFabric (sF OpMode.worker fIn xF) 7 = some xF ∧
      xF.dist.outcast = []) ∧
    (Heard (sF OpMode.worker fIn xF) (hd 3 4 1) ∧
      sessOfFabric (sF OpMode.worker fIn xF) 7 = some xF ∧
      frameOf xF 2 = none ∧
      xF.dist.outcast = []) ∧
    (Heard (sF OpMode.manager fMan xDiv) (hd 3 4 0) ∧
      sessOfFabric (sF OpMode.manager fMan xDiv) 7 = some xDiv ∧
      (sF OpMode.manager fMan xDiv).mode = OpMode.manager ∧
      dvg.referee = some (hd 3 4 0).sender ∧
      (List.find? (fun v => v.frame == 2 && v.unit == 0) xDiv.dist.diverging = some dvg)) ∧
    (Heard (fab OpMode.worker fIn) (hd 3 4 1) ∧
      (fab OpMode.worker fIn).mode = OpMode.worker ∧
      prepareOk (fab OpMode.worker fIn) 0 99 = false) ∧
    (Heard (fab OpMode.worker fIn) (hd 3 4 1) ∧
      ownVersion (fab OpMode.worker fIn) = ownVersion (fab OpMode.worker fIn) ∧
      (fab OpMode.worker fIn).mode = OpMode.worker ∧
      (fab OpMode.worker fIn).fabric.hashBad = false ∧
      (fab OpMode.worker fIn).fabric.heldMsgs = []) ∧
    (asleep (fab OpMode.worker (fUna 4 0)) = false ∧
      (hd 3 4 1).macsec = true ∧
      (hd 3 4 1).fabric = (fab OpMode.worker (fUna 4 0)).fabric.fabricId ∧
      (hd 3 4 1).verMajor = 1 ∧
      (fab OpMode.worker (fUna 4 0)).fabric.joined = true ∧
      (fab OpMode.worker (fUna 4 0)).fabric.term ≤ (hd 3 4 1).term ∧
      (List.find? (fun u => u.dest == (hd 3 4 1).sender && u.seq == 8 && u.kind == 4)
            (fab OpMode.worker (fUna 4 0)).fabric.unacked =
          some (una 4 0))) ∧
    (asleep (fab OpMode.worker (fUna 5 0)) = false ∧
      (hd 3 4 1).macsec = true ∧
      (hd 3 4 1).fabric = (fab OpMode.worker (fUna 5 0)).fabric.fabricId ∧
      (hd 3 4 1).verMajor = 1 ∧
      (fab OpMode.worker (fUna 5 0)).fabric.joined = true ∧
      (fab OpMode.worker (fUna 5 0)).fabric.term ≤ (hd 3 4 1).term ∧
      (List.find? (fun u => u.dest == (hd 3 4 1).sender && u.seq == 8 && u.kind == 5)
            (fab OpMode.worker (fUna 5 0)).fabric.unacked =
          some (una 5 0))) :=
  ⟨by decide +kernel,
   by decide +kernel,
   by decide +kernel,
   ⟨heard_of (by decide +kernel), by decide +kernel⟩,
   ⟨heard_of (by decide +kernel), by decide +kernel⟩,
   ⟨heard_of (by decide +kernel), rfl⟩,
   ⟨heard_of (by decide +kernel), by decide +kernel⟩,
   ⟨heard_of (by decide +kernel), rfl, by decide +kernel⟩,
   ⟨heard_of (by decide +kernel), rfl, by decide +kernel⟩,
   ⟨heard_of (by decide +kernel), rfl⟩,
   ⟨heard_of (by decide +kernel), rfl⟩,
   heard_of (by decide +kernel),
   ⟨heard_of (by decide +kernel), by decide +kernel⟩,
   ⟨heard_of (by decide +kernel), by decide +kernel⟩,
   ⟨heard_of (by decide +kernel), rfl⟩,
   ⟨heard_of (by decide +kernel), by decide +kernel⟩,
   ⟨heard_of (by decide +kernel), rfl, by decide +kernel⟩,
   ⟨heard_of (by decide +kernel), rfl, rfl, by decide +kernel⟩,
   ⟨heard_of (by decide +kernel), rfl, by decide +kernel⟩,
   ⟨heard_of (by decide +kernel), by decide +kernel⟩,
   ⟨heard_of (by decide +kernel), rfl, by decide +kernel⟩,
   by decide +kernel,
   by decide +kernel⟩

theorem witness_FabricTimersComplete :
    (asleep (fab OpMode.manager fMan) = false ∧
      (fab OpMode.manager fMan).mode = OpMode.manager ∧
      (∀ (v : Nat),
          (fab OpMode.manager fMan).fabric.lastCheck = some v → v + 1000000000 ≤ max (fab OpMode.manager fMan).now 5)) ∧
    (asleep sQual = false ∧
      sQual.fabric.joined = true ∧
      timeHolds sQual = true ∧
      sQual.fabric.qualSince = some 0 ∧
      0 + 1000000000 ≤ max sQual.now 1000000000) ∧
    (memberGet (fab OpMode.manager fMu) 5 = some memU ∧
      asleep (fab OpMode.manager fMu) = false ∧
      (fab OpMode.manager fMu).mode = OpMode.manager ∧
      memU.unqualSince = some 0 ∧
      0 + (fab OpMode.manager fMu).fabric.unqualHold * 1000000000 ≤ max (fab OpMode.manager fMu).now 10000000000) ∧
    (asleep (fab OpMode.worker (fUna 7 0)) = false ∧
      (List.find? (fun u => u.dest == 5 && u.seq == 8) (fab OpMode.worker (fUna 7 0)).fabric.unacked = some (una 7 0)) ∧
      (una 7 0).sentAt + ((una 7 0).tries + 1) * 200000 ≤ max (fab OpMode.worker (fUna 7 0)).now 200000 ∧
      (una 7 0).tries < 5) ∧
    (asleep (fab OpMode.worker (fUna 7 4)) = false ∧
      (List.find? (fun u => u.dest == 5 && u.seq == 8) (fab OpMode.worker (fUna 7 4)).fabric.unacked = some (una 7 4)) ∧
      (una 7 4).sentAt + ((una 7 4).tries + 1) * 200000 ≤ max (fab OpMode.worker (fUna 7 4)).now 1000000 ∧
      (una 7 4).tries < 5) ∧
    (asleep (fab OpMode.worker (fUna 7 5)) = false ∧
      (List.find? (fun u => u.dest == 5 && u.seq == 8) (fab OpMode.worker (fUna 7 5)).fabric.unacked = some (una 7 5)) ∧
      (una 7 5).sentAt + ((una 7 5).tries + 1) * 200000 ≤ max (fab OpMode.worker (fUna 7 5)).now 1200000 ∧
      5 ≤ (una 7 5).tries) ∧
    (fabricSessions (fab OpMode.worker fIn) = [] ∧
      asleep (fab OpMode.worker fIn) = false ∧
      (fab OpMode.worker fIn).fabric.joined = true ∧
      (fab OpMode.worker fIn).mode ≠ OpMode.manager ∧
      (∀ (v : Nat), (fab OpMode.worker fIn).fabric.lastDigest = some v → v + 1000000000 ≤ max (fab OpMode.worker fIn).now 5)) ∧
    (fabricSessions (sF OpMode.worker fIn (xUn 0)) = [xUn 0] ∧
      asleep (sF OpMode.worker fIn (xUn 0)) = false ∧
      (sF OpMode.worker fIn (xUn 0)).fabric.joined = true ∧
      (sF OpMode.worker fIn (xUn 0)).mode ≠ OpMode.manager ∧
      (∀ (v : Nat),
          (sF OpMode.worker fIn (xUn 0)).fabric.lastDigest = some v →
            v + 1000000000 ≤ max (sF OpMode.worker fIn (xUn 0)).now 5) ∧
      (xUn 0).enc.frames.getLast? = some frF) ∧
    (sessOfFabric (sF OpMode.worker fIn xSt) 7 = some xSt ∧
      asleep (sF OpMode.worker fIn xSt) = false ∧
      primaryOf xSt (unitRegion xSt 0 0) = some 5 ∧
      statsMissing (atTime (sF OpMode.worker fIn xSt) 200000) xSt 0 0 200000 = true ∧
      statsMissing (atTime (sF OpMode.worker fIn xSt) 200000) xSt 0 0 (statsTimeoutNs xSt) = false) ∧
    (sessOfFabric (sF OpMode.worker fIn xSt) 7 = some xSt ∧
      asleep (sF OpMode.worker fIn xSt) = false ∧
      primaryOf xSt (unitRegion xSt 0 0) = some 5 ∧
      ((xSt.dist.roles.any fun r => r.snd == 1) = false) ∧
      statsMissing (atTime (sF OpMode.worker fIn xSt) 1000000) xSt 0 0 (statsTimeoutNs xSt) = true ∧
      (sF OpMode.worker fIn xSt).mode ≠ OpMode.manager) ∧
    (sessOfFabric (sF OpMode.manager fMan xSt) 7 = some xSt ∧
      asleep (sF OpMode.manager fMan xSt) = false ∧
      primaryOf xSt (unitRegion xSt 0 0) = some 5 ∧
      ((xSt.dist.roles.any fun r => r.snd == 1) = false) ∧
      statsMissing (atTime (sF OpMode.manager fMan xSt) 1000000) xSt 0 0 (statsTimeoutNs xSt) = true ∧
      (sF OpMode.manager fMan xSt).mode = OpMode.manager) ∧
    (sessOfFabric (sF OpMode.manager fMan xDvn) 7 = some xDvn ∧
      asleep (sF OpMode.manager fMan xDvn) = false ∧
      (sF OpMode.manager fMan xDvn).mode = OpMode.manager ∧
      dvn.referee = none ∧
      dvn.since + statsTimeoutNs xDvn ≤ max (sF OpMode.manager fMan xDvn).now 600000000 ∧
      (List.find? (fun v => v.frame == 2 && v.unit == 0) xDvn.dist.diverging = some dvn)) ∧
    (asleep (fab OpMode.worker fHeld) = false ∧
      (((fab OpMode.worker fHeld).fabric.heldMsgs.any fun m =>
            m.snd.fst == 6 && decide (m.snd.snd + 10000000 ≤ max (fab OpMode.worker fHeld).now 10000000)) =
          true) ∧
      heldEpoch (fab OpMode.worker fHeld) < 6 ∧
      (fab OpMode.worker fHeld).mode = OpMode.worker) ∧
    (sessOfFabric (sF OpMode.worker fIn xOutc) (frag 0).session = some xOutc ∧
      asleep (sF OpMode.worker fIn xOutc) = false ∧
      (sF OpMode.worker fIn xOutc).fabric.joined = true ∧
      collates xOutc = true ∧
      epochFor (sF OpMode.worker fIn xOutc) (frag 0).session (frag 0).frame ≤ (frag 0).epoch ∧
      (frag 0).epoch ≤ heldEpoch (sF OpMode.worker fIn xOutc) ∧
      xOutc.dist.outcast.contains ((frag 0).region, (frag 0).sender) = true) ∧
    (sessOfFabric (sF OpMode.worker fIn xColl) (frag 0).session = some xColl ∧
      tfind xColl.dist.slices (statsKey (frag 0).frame (frag 0).index) = none ∧
      asleep (sF OpMode.worker fIn xColl) = false ∧
      (sF OpMode.worker fIn xColl).fabric.joined = true ∧
      collates xColl = true ∧
      epochFor (sF OpMode.worker fIn xColl) (frag 0).session (frag 0).frame ≤ (frag 0).epoch ∧
      (frag 0).epoch ≤ heldEpoch (sF OpMode.worker fIn xColl) ∧
      xColl.dist.outcast = [] ∧
      sliceParts xColl (frag 0) = [] ∧
      (frag 0).offset = 0 ∧
      bitOf (frag 0).flags 0 = true ∧
      (frag 0).crc ≠ crc32 (frag 0).data) ∧
    (sessOfFabric (sF OpMode.worker fIn xShadow) (frag (crc32 [1, 2, 3])).session = some xShadow ∧
      tfind xShadow.dist.slices (statsKey (frag (crc32 [1, 2, 3])).frame (frag (crc32 [1, 2, 3])).index) = none ∧
      asleep (sF OpMode.worker fIn xShadow) = false ∧
      (sF OpMode.worker fIn xShadow).fabric.joined = true ∧
      collates xShadow = true ∧
      epochFor (sF OpMode.worker fIn xShadow) (frag (crc32 [1, 2, 3])).session (frag (crc32 [1, 2, 3])).frame ≤
          (frag (crc32 [1, 2, 3])).epoch ∧
      (frag (crc32 [1, 2, 3])).epoch ≤ heldEpoch (sF OpMode.worker fIn xShadow) ∧
      xShadow.dist.outcast = [] ∧
      sliceParts xShadow (frag (crc32 [1, 2, 3])) = [] ∧
      (frag (crc32 [1, 2, 3])).offset = 0 ∧
      bitOf (frag (crc32 [1, 2, 3])).flags 0 = true ∧
      (frag (crc32 [1, 2, 3])).crc = crc32 (frag (crc32 [1, 2, 3])).data ∧
      collator xShadow = false) ∧
    (sessOfFabric (sF OpMode.worker fIn xDup) (frag 0).session = some xDup ∧
      (∃ b, tfind xDup.dist.slices (statsKey (frag 0).frame (frag 0).index) = some b) ∧
      asleep (sF OpMode.worker fIn xDup) = false ∧
      (sF OpMode.worker fIn xDup).fabric.joined = true ∧
      collates xDup = true ∧
      epochFor (sF OpMode.worker fIn xDup) (frag 0).session (frag 0).frame ≤ (frag 0).epoch ∧
      (frag 0).epoch ≤ heldEpoch (sF OpMode.worker fIn xDup) ∧
      xDup.dist.outcast = []) ∧
    (sessOfFabric (sF OpMode.worker fIn (xUn 1)) 7 = some (xUn 1) ∧
      frameOf (xUn 1) 0 = some frF ∧
      asleep (sF OpMode.worker fIn (xUn 1)) = false ∧
      overdue (xUn 1) 0 0 1 (max (sF OpMode.worker fIn (xUn 1)).now 200000) = true) ∧
    (sessOfFabric (sF OpMode.worker fIn (xUn 0)) 7 = some (xUn 0) ∧
      frameOf (xUn 0) 0 = some frF ∧
      asleep (sF OpMode.worker fIn (xUn 0)) = false ∧
      overdue (xUn 0) 0 0 0 (max (sF OpMode.worker fIn (xUn 0)).now 200000) = true) :=
  ⟨by decide +kernel,
   by decide +kernel,
   ⟨rfl, by decide +kernel⟩,
   by decide +kernel,
   by decide +kernel,
   by decide +kernel,
   ⟨rfl, by decide +kernel⟩,
   ⟨rfl, by decide +kernel⟩,
   ⟨rfl, by decide +kernel⟩,
   ⟨rfl, by decide +kernel⟩,
   ⟨rfl, by decide +kernel⟩,
   ⟨rfl, by decide +kernel⟩,
   by decide +kernel,
   ⟨rfl, by decide +kernel⟩,
   ⟨rfl, rfl, by decide +kernel⟩,
   ⟨rfl, rfl, by decide +kernel⟩,
   ⟨rfl, ⟨_, rfl⟩, by decide +kernel⟩,
   ⟨rfl, rfl, by decide +kernel⟩,
   ⟨rfl, rfl, by decide +kernel⟩⟩

theorem witness_LifecycleMovesForward :
    (exec Instr.powerRemoved State.reset = Host.Outcome.next sOff) ∧
    (exec (Instr.secLifecycle adm (zeros 97)) lcD = Host.Outcome.next (after (Instr.secLifecycle adm (zeros 97)) lcD) ∧
      (after (Instr.secLifecycle adm (zeros 97)) lcD).sec.otp.lifecycle ≠ lcD.sec.otp.lifecycle) :=
  ⟨rfl,
   ⟨rfl, by decide +kernel⟩⟩

theorem witness_EveryStepKeepsTheInvariant :
    (Kept sPend ∧
      step sPend = Host.Outcome.next sOff) :=
  ⟨⟨rfl, by decide, rfl⟩, rfl⟩

theorem witness_OffAndLockdownEndByPowerAlone :
    (exec Instr.powerRemoved State.reset = Host.Outcome.next sOff) :=
  rfl

theorem witness_ModesAreEnteredAsTheTableHasIt :
    (exec Instr.powerRemoved State.reset = Host.Outcome.next sOff ∧
      State.reset.mode ≠ sOff.mode) :=
  ⟨rfl, by decide +kernel⟩

theorem witness_HostPartsKeepTheirFrame :
    (exec (Instr.identify adm) State.reset = Host.Outcome.next State.reset ∧
      ¬Part.mode ∈ writes (Instr.identify adm) ∧
      Part.mode ∈
          [Part.mode, Part.degraded, Part.ready, Part.epochCtr, Part.vfEnabled, Part.fns, Part.qps, Part.round, Part.dma,
            Part.dmaCycle]) :=
  ⟨rfl, by decide +kernel⟩

theorem witness_ManagementPartsKeepTheirFrame :
    (exec (Instr.identify adm) State.reset = Host.Outcome.next State.reset ∧
      ¬Part.tap ∈ writes (Instr.identify adm) ∧
      Part.tap ∈ [Part.canary, Part.larder, Part.foreman, Part.sec, Part.power, Part.hbm, Part.memory, Part.tap, Part.pins]) ∧
    (exec (Instr.setMode adm) State.reset = Host.Outcome.next State.reset ∧
      Part.memory = Part.memory ∧
      ¬Part.memory ∈ writes (Instr.setMode adm) ∧
      Part.memory ∈
          [Part.canary, Part.larder, Part.foreman, Part.sec, Part.power, Part.hbm, Part.memory, Part.tap, Part.pins]) :=
  ⟨⟨rfl, by decide +kernel⟩,
   ⟨rfl, rfl, by decide +kernel⟩⟩

theorem witness_CodingPartsKeepTheirFrame :
    (exec (Instr.identify adm) State.reset = Host.Outcome.next State.reset ∧
      ¬Part.sw ∈ writes (Instr.identify adm) ∧
      Part.sw ∈
          [Part.sessions, Part.slotGen, Part.cores, Part.clusters, Part.px, Part.sw, Part.tables, Part.net, Part.fabric]) :=
  ⟨rfl, by decide +kernel⟩

end Sys2Proof.Tests
end

section
/-! PROOFS. What a command answers (R2, R263, Table 24.10; log entries 4 and 60): the shapes of a meaning each answer a next state
with the waiting commands as they were, or stop for an absent unit; TAP_UPDATE_IR alone is ever refused. -/

namespace Sys2Proof.Machine

/-! ### The two answers of a command -/

/-- The machine goes on: the result is a next state, and the waiting commands are as they were. -/
def GoesOn (s : State) (r : Result) : Prop := ∃ t, r = .next t ∧ t.pending = s.pending

/-- The result of a command whose units exist exactly when `ok` holds: with them the machine goes on, without them it stops. -/
def Answers (ok : Bool) (s : State) (r : Result) : Prop := if ok then GoesOn s r else r = .fault .noSuchUnit

theorem GoesOn.ne_fault {s : State} {r : Result} {f : Fault} (h : GoesOn s r) : r ≠ .fault f := by
  obtain ⟨t, rfl, -⟩ := h
  simp

theorem GoesOn.ne_refused {s : State} {r : Result} {f : Refusal} (h : GoesOn s r) : r ≠ .refused f := by
  obtain ⟨t, rfl, -⟩ := h
  simp

theorem Answers.goesOn_or_fault {ok : Bool} {s : State} {r : Result} (h : Answers ok s r) :
    GoesOn s r ∨ r = .fault .noSuchUnit := by
  cases ok
  · exact .inr h
  · exact .inl h

theorem Answers.fault_iff {ok : Bool} {s : State} {r : Result} (h : Answers ok s r) : r = .fault .noSuchUnit ↔ ok = false := by
  cases ok
  · exact iff_of_true h rfl
  · exact iff_of_false (GoesOn.ne_fault h) (by simp)

theorem Answers.ne_refused {ok : Bool} {s : State} {r : Result} {f : Refusal} (h : Answers ok s r) : r ≠ .refused f := by
  obtain h | rfl := h.goesOn_or_fault
  · exact h.ne_refused
  · simp

/-! ### One rule per shape of a meaning -/

theorem act_goesOn {s k : State} {c : Bool} (hk : k.pending = s.pending) : GoesOn s (act s c k) :=
  ⟨_, act_next s k c, by simp [hk]⟩

theorem act_answers {s k : State} {c : Bool} (hk : k.pending = s.pending) : Answers true s (act s c k) := act_goesOn hk

theorem withUnit_answers {s : State} {ok : Bool} {r : Result} (hr : GoesOn s r) : Answers ok s (withUnit ok r) := by
  cases ok
  · rfl
  · exact hr

theorem unit_answers {s k : State} {ok c : Bool} (hk : k.pending = s.pending) : Answers ok s (withUnit ok (act s c k)) :=
  withUnit_answers (act_goesOn hk)

theorem serve_answers {s : State} {r : CmdRef} {op : Nat} {chk : State → Bytes → Option Reply} {k : State → Bytes → State}
    (hk : ∀ s e, (k s e).pending = s.pending) : Answers true s (serve s r op chk k) := by
  obtain ⟨t, ht⟩ := serve_next s r op chk k
  exact ⟨t, ht, serve_same State.pending (fun s r a => (finish_keeps s r a).1) (fun s r => (markStarted_keeps s r).1)
    (fun s a => (uncorrectable_keeps s a).1) hk ht⟩

theorem onSession_pending {fn : Nat} {k : State → Session → Bytes → State} {s : State} {e : Bytes}
    (hk : ∀ x, (k s x e).pending = s.pending) : (onSession fn k s e).pending = s.pending := by
  unfold onSession
  split
  · rfl
  · exact hk _

/-- A host command that names a session. -/
theorem session_answers {s : State} {r : CmdRef} {op : Nat} {chk : State → Bytes → Option Reply}
    {k : State → Session → Bytes → State} (hk : ∀ s x e, (k s x e).pending = s.pending) :
    Answers true s (serve s r op chk (onSession r.fn k)) :=
  serve_answers fun s e => onSession_pending fun x => hk s x e

/-! ### Operations whose state stands in a pair or an option -/

@[simp] theorem commitTrial_pending (s : State) (raise : Bool) : (commitTrial s raise).pending = s.pending := by
  unfold commitTrial; simp

theorem pxReceive_pending {s s1 : State} {typ : Nat} {p : PxPkt} {b : Bool} (h : pxReceive s typ p = (b, s1)) :
    s1.pending = s.pending := by
  simpa [h] using (pxReceive_keeps s typ p).1

theorem chooseSlot_pending {s s1 : State} {i : BootInput} {o : Option Nat} (h : chooseSlot s i = (o, s1)) :
    s1.pending = s.pending := by
  simpa [h] using (chooseSlot_keeps s i).1

theorem takeRequest_pending {s s1 : State} {q : LearnReq} (h : takeRequest s q = some s1) : s1.pending = s.pending := by
  unfold takeRequest at h
  (repeat' split at h) <;> cases h
  simp

/-! ### Commands whose effect is a loop, or is decided by more than a condition -/

/-- SECURE_BOOT goes on from the state in which the boot slot was chosen. -/
theorem execSecureBoot_answers (i : BootInput) (s : State) : Answers true s (execSecureBoot i s) :=
  act_answers (by split <;> next h => simp [chooseSlot_pending h])

theorem execMbDisable_answers (fn : Nat) (s : State) : Answers (isFn fn) s (execMbDisable fn s) :=
  unit_answers ((foldl_pending _ (fun s q => by split <;> simp) _ _).trans (by simp))

theorem execBistComplete_answers (failed : List Nat) (t : Nat) (s : State) : Answers true s (execBistComplete failed t s) :=
  act_answers (by
    simp only [settleDegraded_keeps, larderUpdate_keeps]
    exact (foldl_pending _ (fun s k => by (repeat' split) <;> simp) _ _).trans (by simp))

theorem execLedgerDigestTimer_answers (t : Nat) (s : State) : Answers true s (execLedgerDigestTimer t s) :=
  act_answers ((foldl_pending _ (fun s x => by split <;> simp) _ _).trans (by simp))

theorem execEpochAdvance_answers (h : ClpHdr) (phase newEpoch configHash version : Nat) (changes : List (Nat × Nat)) (s : State) :
    Answers true s (execEpochAdvance h phase newEpoch configHash version changes s) :=
  act_answers (clpIn_keeps _ _ _ _ _ _ _ fun s => by split <;> simp +contextual).1

/-- CLP_ACK_RECEIVED: a message of a foreign fabric is counted in its own state, any other goes on from the state at its time. -/
theorem execClpAckReceived_answers (h : ClpHdr) (kind seq : Nat) (nak : Bool) (leaseMs : Nat) (s : State) :
    Answers true s (execClpAckReceived h kind seq nak leaseMs s) :=
  act_answers (by
    dsimp only
    split
    · next s2 hs2 => simpa using (clpForeign_keeps _ _ _ hs2).1
    · (repeat' split) <;> simp)

/-- VF_ENABLE_CLEAR is an effect under a condition, written out. -/
theorem execVfEnableClear_answers (s : State) : Answers true s (execVfEnableClear s) :=
  act_answers (s := s) (by simp)

/-- BAR2_ACCESS has one effect per access and, for reads, per mode. -/
theorem execBar2Access_answers (fn offset : Nat) (op : Bar2Op) (s : State) :
    Answers (isFn fn) s (execBar2Access fn offset op s) :=
  withUnit_answers (by
    cases op with
    | read len =>
      dsimp only
      split
      · exact ⟨s, rfl, rfl⟩
      · split <;> exact act_goesOn (by simp)
    | write data => exact act_goesOn (by simp))

/-! ### Every command but TAP_UPDATE_IR -/

/-- A command other than TAP_UPDATE_IR goes on when its units exist and stops otherwise: by the rule of its meaning's shape,
where the effect is a chain of operations that each leave the waiting commands (`Laws/Keeps`), branch by branch. -/
theorem exec_answers (c : Instr) (s : State) (hc : ∀ code k w, c ≠ .tapUpdateIr code k w) : Answers c.wf s (exec c s) := by
  cases c with (dsimp only [exec, Instr.wf])
  -- Host commands.
  | identify | setMode | configureEvents | createQp | reset | setPowerState | getLog | getTelemetry | setFunctionResources
  | createSession | setPort | setMacsec | setPtp | queryPtp | setMeter | setFlow | setQueue | setSubscriber | setClasses
  | setGcl | tableRead | tableFlush | routeAdd | routeDelete | setNextHop | setLearn | setGroup | queryTables | setPools
  | queryPools | setCapture | setMirrorRule | setDropProfile | fabricCreate | fabricJoin | fabricLeave | fabricQuery
  | fabricDrain | fabricSetStandby | secQuery | secAuthChallenge | secAuthResponse | secLogout | secKemKeygen | secKeyQuery
  | secZeroize | secSelfTest | secAttest | secRandom | secDigest | secLifecycle | updateOpen | updateWrite | updateVerify
  | updateActivate | updateCommit | updateAbort | updateStatus | setPlatformConfig | setChannelOwner | queryChannels =>
    exact serve_answers fun _ _ => by simp
  | deleteQp | tableDelete | fabricSetVersion => exact serve_answers fun _ _ => by (repeat' split) <;> simp
  | abort | tableInsert | secKeyImport | secKeyDelete => exact serve_answers fun _ _ => by dsimp only; (repeat' split) <;> simp
  -- Host commands that name a session.
  | reconfigureSession | stopSession | destroySession | querySession | setSessionRings | forceRefresh | submitPicture
  | submitBitstream => exact session_answers fun _ _ _ => by simp
  | startSession => exact session_answers fun _ _ _ => by split <;> simp
  | returnBuffer | flush => exact session_answers fun _ _ _ => by dsimp only; (repeat' split) <;> simp
  -- Events under a condition.
  | coldReset | warmReset | hostInterfaceReset | powerRemoved | larderUpdate | bankedEntry | bankedExit | avsStep
  | avsRetry | vddCoreWarn | stretch2ms | vddCoreResetThreshold | thermalWarn | thermalThrottle | thermtrip | tamperDetect
  | wakeOscTrim | fwHeartbeat | watchdogTimeout | lockstepMismatch | faultNRelease | agingSweep | announceTimeout
  | ppsInEdge | ppsOut | hello | helloTimer | joinReq | joinRetry | headlessRejoin | leaseRenew | leaseRenewTimer
  | leaseExpiry | memberLost | managerTakeover | assign | ledger | stats | commit | seamCheck | fence | promote
  | epochHoldTimeout | timeCheck | timeCheckTimer | unqualHoldExpiry | haloStrip | seamStrip | refereeResult
  | selfTestPeriodic | entropyHealthFail | drbgReseed | telemetrySweep | agingWrite | rotationCheck | autoCommit
  | flashLogWrite | mctpSetEndpointId | mctpGetEndpointId | mctpGetVersionSupport | mctpGetMessageTypeSupport
  | requestUpdate | activateFirmware | tapReset | vddFuseChange | avsSettled => exact act_answers (by simp)
  | commandTimeout | dormantWake | railUndervoltage | refclkLoss | joinAck | clpRetransmit =>
    exact act_answers (by (repeat' split) <;> simp)
  | vddCoreRecover | throttleRelease | bandDispatch | packetRelease | bandReleaseTime | tsPsiTimer | inputGapTimeout
  | decodePictureEnd | reorderTimeout | rtpPacketRx | decodeOutputStart | statsRequest | statsTimeout | timeQualified
  | sliceTransfer | sliceResendTimer | haloResendTimer | decapKeyExpiry | transferComplete | refereeTimeout =>
    exact act_answers (by dsimp only; (repeat' split) <;> simp)
  -- Events that name a unit.
  | mbEnable | intrMaskWrite | registerWrite | dmaArm | dmaClearHalt | dmaShadowWrite | dmaBurstIssue | flr
  | busMasterEnableSet | hbmSelfRefreshTimer | coreSleep | keepWarmWake | clusterPllOff | fenceEffect | patchParityError
  | coreBistReloadDone | pxLinkUp | pxLinkDown | pxFifoRead | ethFrameHead | portPacketIn | poolCacheRefill | egressSelect
  | queueAvgDecay | pfcXoffRx | pfcXoffExpire | mergeLegDown | flapClear | ptpMessageTimer | roleExpiry | sensorTrim
  | hbmRequest | bulkPromotion | hbmRefresh | hbmTempRead | actWindowEnd | patrolScrub | retrainStart | sramScrub
  | ethLinkUp | ethLinkDown | msixVectorUnmask => exact unit_answers (by simp)
  | sqTailWrite | cqHeadWrite | commandFetch | coalesceTimer | dmaBeatReturn | dmaBeatError | errorPortEvent | coreRestart
  | cuStart | cuMeasure | surveyRowStart | ethFrameEnd | ptpMessageRx => exact unit_answers (by (repeat' split) <;> simp)
  | dmaDisable | coreWakeComplete | spareTakeover | bandStart | rowCommit | ppuBand | decodeUnitStart | decodeRowCommit
  | pxTxLine | pantryRetry | copyDone | gclBoundary | mergeLostTimeout | nonceExpiry | authLockoutEnd | hbmReadReturn
  | pageCloseTimeout | retrainDone => exact unit_answers (by dsimp only; (repeat' split) <;> simp)
  -- Packets of a pixel port, and requests to the tables.
  | frameStart | line | frameEnd | metadata =>
    refine unit_answers ?_
    split <;> next h => simp [pxReceive_pending h]
  | learn | refresh | move =>
    refine unit_answers ?_
    split
    · next h => simp [takeRequest_pending h]
    · rfl
  -- Commands with a lemma of their own.
  | secureBoot i => exact execSecureBoot_answers i s
  | mbDisable fn => exact execMbDisable_answers fn s
  | bistComplete failed t => exact execBistComplete_answers failed t s
  | ledgerDigestTimer t => exact execLedgerDigestTimer_answers t s
  | epochAdvance h phase newEpoch configHash version changes =>
    exact execEpochAdvance_answers h phase newEpoch configHash version changes s
  | clpAckReceived h kind seq nak leaseMs => exact execClpAckReceived_answers h kind seq nak leaseMs s
  | vfEnableClear => exact execVfEnableClear_answers s
  | bar2Access fn offset op => exact execBar2Access_answers fn offset op s
  | tapUpdateIr code k w => exact absurd rfl (hc code k w)

/-! ### TAP_UPDATE_IR -/

/-- A code from 0x81 to 0xFE (Table 24.10) that the lifecycle leaves open, on a device that is awake. -/
structure OpenTapCode (s : State) (code : BitVec 8) : Prop where
  above : 0x81 ≤ code.toNat
  notBypass : code ≠ 0xFF
  awake : asleep s = false
  opened : privateOpen s = true

/-- What acts is the loaded code, on an awake device that leaves it open, or a public code, or BYPASS. -/
theorem tapActs_cases (s : State) (code : BitVec 8) :
    (tapActs s code = code ∧ asleep s = false ∧ privateOpen s = true) ∨ (tapActs s code).toNat < 0x80 ∨ tapActs s code = 0xFF := by
  unfold tapActs
  split
  · split
    · next hcode => obtain rfl | rfl := hcode <;> exact .inr (.inl (by decide))
    · exact .inr (.inr rfl)
  · next hawake =>
    split
    · next hbist =>
      split
      · obtain rfl | rfl := hbist <;> exact .inr (.inl (by decide))
      · exact .inr (.inr rfl)
    · split
      · split
        · next hopen => exact .inl ⟨rfl, by simpa using hawake, hopen⟩
        · exact .inr (.inr rfl)
      · next hlow =>
        split
        · exact .inr (.inl (by omega))
        · exact .inr (.inr rfl)

/-- INTEST, 0x80, drives the pins, so an acting instruction that drives none lies above it. -/
theorem openTapCode_of_tapActs {s : State} {code : BitVec 8} (hdrive : ¬ pinDriving (tapActs s code) = true)
    (habove : 0x80 ≤ (tapActs s code).toNat) (hbypass : tapActs s code ≠ 0xFF) : OpenTapCode s code := by
  obtain ⟨hacts, hawake, hopen⟩ | hpublic | hbypassed := tapActs_cases s code
  · rw [hacts] at hdrive habove hbypass
    have hintest : code.toNat ≠ 0x80 := fun h => hdrive (by rw [BitVec.eq_of_toNat_eq (y := 0x80#8) h]; rfl)
    exact ⟨by omega, hbypass, hawake, hopen⟩
  · omega
  · exact absurd hbypassed hbypass

theorem execTapUpdateIr_outcome (code : BitVec 8) (k : Bool) (w : Nat) (s : State) :
    GoesOn s (execTapUpdateIr code k w s) ∨ execTapUpdateIr code k w s = .refused .privateTap ∧ OpenTapCode s code := by
  unfold execTapUpdateIr
  dsimp only
  split
  · exact .inl ⟨s, rfl, rfl⟩
  · split
    · exact .inl ⟨_, rfl, by simp⟩
    · split
      · exact .inl ⟨_, rfl, by simp⟩
      · next hdrive =>
        split
        · next hpriv => exact .inr ⟨rfl, openTapCode_of_tapActs hdrive hpriv.1 hpriv.2⟩
        · exact .inl ⟨_, rfl, by simp⟩

/-! ### The statement -/

/-- Every command goes on or stops as its units exist, but for the refusal of an open code at the TAP. -/
theorem exec_outcome (c : Instr) (s : State) :
    Answers c.wf s (exec c s) ∨
      exec c s = .refused .privateTap ∧ c.wf = true ∧ ∃ code k w, c = .tapUpdateIr code k w ∧ OpenTapCode s code := by
  by_cases hc : ∃ code k w, c = .tapUpdateIr code k w
  · obtain ⟨code, k, w, rfl⟩ := hc
    obtain h | ⟨hr, hp⟩ := execTapUpdateIr_outcome code k w s
    · exact .inl h
    · exact .inr ⟨hr, rfl, code, k, w, rfl, hp⟩
  · exact .inl (exec_answers c s fun code k w h => hc ⟨code, k, w, h⟩)

/-- Settles O54: by the shape of each command's meaning (`exec_answers`), and for TAP_UPDATE_IR by the instruction that acts. -/
theorem stopsAreNamed : Obligations.StopsAreNamed := by
  intro c s
  obtain h | ⟨hr, hwf, code, k, w, hc, hp⟩ := exec_outcome c s
  · refine ⟨?_, h.fault_iff, fun hr => absurd hr h.ne_refused⟩
    obtain hn | hf := h.goesOn_or_fault
    · exact .inl hn
    · exact .inr (.inl hf)
  · exact ⟨.inr (.inr hr), by simp [hr, hwf], fun _ => ⟨code, k, w, hc, hp.above, hp.notBypass, hp.awake, hp.opened⟩⟩

end Sys2Proof.Machine
end

section
/-! PROOFS. How the cores sleep, wake and restart, and how encode work reaches them (R12, R13, R19, R27, R28, R44, R48, R54, R77,
R109, R256): first what reading gives after the shared writes, then one lemma per command and case. -/

namespace Sys2Proof.Machine

/-! ### Reading after the shared writes -/

@[simp] theorem coreGet_atTime (s : State) (t k : Nat) : coreGet (atTime s t) k = coreGet s k := rfl
@[simp] theorem sessById_atTime (s : State) (t id : Nat) : sessById (atTime s t) id = sessById s id := rfl
@[simp] theorem headCommand_atTime (s : State) (t k : Nat) : headCommand (atTime s t) k = headCommand s k := rfl

theorem coreGet_eq_of_cores {s t : State} (h : t.cores = s.cores) (k : Nat) : coreGet t k = coreGet s k := by
  rw [coreGet, coreGet, h]

theorem sessById_eq_of_sessions {s t : State} (h : t.sessions = s.sessions) (id : Nat) : sessById t id = sessById s id := by
  rw [sessById, sessById, h]

theorem id_of_sessById {s : State} {id : Nat} {x : Session} (h : sessById s id = some x) : x.id = id := by
  unfold sessById at h
  split at h
  · split at h
    · next hid => cases h; exact hid
    · cases h
  · cases h

@[simp] theorem sessById_sessPut (s : State) (x : Session) : sessById (sessPut s x) x.id = some x := by
  simp [sessById, sessPut]

theorem lset_eq_set {α : Type} (l : List α) (i : Nat) (a : α) : lset l i a = l.set i a := by
  induction l generalizing i with
  | nil => rfl
  | cons b l ih => cases i <;> simp [lset, ih]

theorem number_of_frameOf {x : Session} {n : Nat} {f : EncFrame} (h : frameOf x n = some f) : f.number = n := by
  simpa using List.find?_some h

/-- A frame written back is found under its number. -/
theorem frameOf_framePut {x : Session} {f g : EncFrame} (h : frameOf x g.number = some f) :
    frameOf (framePut x g) g.number = some g := by
  have hsame (e : EncFrame) : (if e.number = g.number then g else e).number = g.number ↔ e.number = g.number := by
    split <;> simp [*]
  rw [frameOf] at h
  simp only [frameOf, framePut, List.find?_map, Function.comp_def, hsame, h, Option.map_some]
  rw [if_pos (number_of_frameOf h)]

/-- A unit written back is found in its frame of its session. -/
theorem unitPut_found {s : State} {x : Session} {f g : EncFrame} {i : Nat} (u : UnitRec)
    (hf : frameOf x g.number = some f) (hi : i < g.units.length) :
    ∃ y h, sessById (unitPut s x g i u) x.id = some y ∧ frameOf y g.number = some h ∧ h.units[i]? = some u :=
  ⟨_, _, sessById_sessPut s _, frameOf_framePut (g := { g with units := lset g.units i u }) hf, by simp [lset_eq_set, hi]⟩

/-! ### Sleep, wake and restart (R19, R44, R48, R109) -/

theorem isCore_of_lt {c : Nat} (h : c < 28) : isCore c = true := decide_eq_true h

theorem exec_coreSleep_of_idle {s : State} {c : Nat} (hs : asleep s = false) (hc : c < 28) (hidle : coreIdle s c = true)
    (hwaking : (coreGet s c).waking = none) (hawake : (coreGet s c).sleep = .awake) :
    exec (.coreSleep c) s = .next (coreSet s c { coreGet s c with sleep := sleepState s c }) := by
  change execCoreSleep c s = _
  simp [execCoreSleep, isCore_of_lt hc, hs, hidle, hwaking, hawake]

theorem exec_keepWarmWake_of_asleep {s : State} {c : Nat} (w : Nat) (hs : asleep s = false) (hc : c < 28)
    (hsleep : (coreGet s c).sleep ≠ .awake) (hwaking : (coreGet s c).waking = none) (hfenced : (coreGet s c).fenced = false)
    (hlost : (coreGet s c).lost = false) : exec (.keepWarmWake c w) s = .next (beginWake (atTime s w) c) := by
  have hasleep : ((coreGet s c).sleep != .awake) = true := bne_iff_ne.2 hsleep
  change execKeepWarmWake c w s = _
  simp [execKeepWarmWake, isCore_of_lt hc, hs, hasleep, hwaking, hfenced, hlost]

theorem coreGet_beginWake (s : State) (c : Nat) :
    coreGet (beginWake s c) c = { coreGet s c with waking := some (s.now + wakeTime s c) } :=
  coreGet_coreSet s c _

theorem coreGet_beginWake_ne (s : State) {c k : Nat} (h : k ≠ c) : coreGet (beginWake s c) k = coreGet s k :=
  coreGet_coreSet_ne s c k _ h

theorem exec_coreWakeComplete_of_due {s : State} {c w d : Nat} (hs : asleep s = false) (hc : c < 28)
    (hwaking : (coreGet s c).waking = some d) (hdue : d ≤ max s.now w) :
    exec (.coreWakeComplete c w) s = .next (coreSet (atTime s w) c { coreGet s c with sleep := .awake, waking := none }) := by
  have hnow : d ≤ (atTime s w).now := hdue
  change execCoreWakeComplete c w s = _
  simp [execCoreWakeComplete, isCore_of_lt hc, hs, hwaking, hnow]

/-- A restart writes the core and, through its session alone, the unit of work. -/
theorem restartCore_cores (s : State) (c : Nat) :
    (restartCore s c).cores = (coreSet s c { coreGet s c with
      pipe := [none, none, none, none, none, none, none], ladle := fifoRewind (coreGet s c).ladle }).cores := by
  unfold restartCore
  dsimp only
  split <;> simp

theorem coreGet_restartCore (s : State) (c : Nat) :
    coreGet (restartCore s c) c = { coreGet s c with
      pipe := [none, none, none, none, none, none, none], ladle := fifoRewind (coreGet s c).ladle } := by
  rw [coreGet_eq_of_cores (restartCore_cores s c), coreGet_coreSet]

theorem coreGet_restartCore_ne (s : State) {c k : Nat} (h : k ≠ c) : coreGet (restartCore s c) k = coreGet s k := by
  rw [coreGet_eq_of_cores (restartCore_cores s c), coreGet_coreSet_ne _ _ _ _ h]

theorem exec_coreRestart_of_interrupt {s : State} {c : Nat} (w : Nat) (hs : asleep s = false) (hc : c < 28)
    (hwork : (workOf s c).isSome = true) (hdecoding : (coreGet s c).decoding = none) :
    exec (.coreRestart c .interrupt w) s = .next (restartCore (atTime s w) c) := by
  change execCoreRestart c .interrupt w s = _
  simp [execCoreRestart, restartAny, isCore_of_lt hc, hs, hwork, hdecoding]

/-- Settles O19: each command's effect is one write of its core, read back. -/
theorem coreSleepAndRestartComplete : Obligations.CoreSleepAndRestartComplete := by
  intro s c w hs hc
  refine ⟨exec_coreSleep_of_idle hs hc, fun hsleep hwaking hfenced hlost => ?_, fun d => exec_coreWakeComplete_of_due hs hc,
    fun hwork hdecoding => ?_⟩
  · exact ⟨_, exec_keepWarmWake_of_asleep w hs hc hsleep hwaking hfenced hlost, coreGet_beginWake _ c, rfl,
      fun k hk => coreGet_beginWake_ne _ hk, by simp⟩
  · refine ⟨_, exec_coreRestart_of_interrupt w hs hc hwork hdecoding, ?_, ?_, fun k hk => coreGet_restartCore_ne _ hk, by simp⟩
    · rw [coreGet_restartCore]
    · rw [coreGet_restartCore]; rfl

/-! ### BAND_DISPATCH (R12, R27, R28, R77) -/

/-- A frame with the units of its next band. -/
def withBand (f : EncFrame) (us : List UnitRec) : EncFrame := { f with units := f.units ++ us, dispatched := f.dispatched + 1 }

/-- A band that the cores of `place` can take is queued as one step. -/
theorem dispatchBand_of_placeable {s : State} {x : Session} {f : EncFrame} {place : List Nat} {us : List UnitRec}
    (hus : us = bandUnits x f f.dispatched place) (hlen : us.length = place.length)
    (hplace : place.all (placeable s x f.cfg) = true)
    (hall : us.length = ((pictureUnits f.cfg).filter (fun u => u.band = f.dispatched && codesUnit x f.cfg u)).length) :
    dispatchBand s x f place =
      limitReached (queueUnits (sessPut s (framePut x (withBand f us))) x (withBand f us) f.units.length us) x.id
        (withBand f us) := by
  subst hus
  unfold dispatchBand
  rw [if_pos]
  · rfl
  · rw [Bool.and_eq_true, Bool.and_eq_true]
    exact ⟨⟨decide_eq_true hlen, hplace⟩, beq_iff_eq.2 hall⟩

theorem exec_bandDispatch_of_open {s : State} {id w target : Nat} {place shares : List Nat} {x : Session} {f : EncFrame}
    (hs : asleep s = false) (hx : sessById s id = some x) (henc : x.decode = false) (hf : openFrame x = some f) :
    exec (.bandDispatch id place target shares w) s = .next (dispatchBand (atTime s w) x f place) := by
  change execBandDispatch id place target shares w s = _
  simp [execBandDispatch, hs, hx, henc, hf]

theorem exec_bandDispatch_of_closed {s : State} {id w target : Nat} {place shares : List Nat} {x : Session}
    (hs : asleep s = false) (hx : sessById s id = some x) (henc : x.decode = false) (hf : openFrame x = none) :
    exec (.bandDispatch id place target shares w) s = .next (dispatchFrame (atTime s w) x place target shares) := by
  change execBandDispatch id place target shares w s = _
  simp [execBandDispatch, hs, hx, henc, hf]

/-! ### The session that the frame limit stops keeps its frames in coding (R253, R254) -/

/-- Completing the pictures of no band writes the session back without them. -/
theorem dropUndispatched_found (s : State) (x : Session) :
    ∃ z, sessById (dropUndispatched s x) x.id = some z ∧ z.decode = x.decode ∧ z.enc.frames = x.enc.frames ∧
      z.enc.codeTotal = x.enc.codeTotal :=
  ⟨_, sessById_sessPut _ _, rfl, rfl, rfl⟩

/-- A session with a frame in coding is not drained. -/
theorem settleStop_of_frames {s : State} {id : Nat} {x : Session} (hx : sessById s id = some x) (henc : x.decode = false)
    (hframes : x.enc.frames ≠ []) : settleStop s id = s := by
  simp [settleStop, hx, drained, henc, hframes]

theorem stopAfter_frames (s : State) {x : Session} (henc : x.decode = false) (hframes : x.enc.frames ≠ []) :
    ∃ z, sessById (stopAfter s x) x.id = some z ∧ z.enc.frames = x.enc.frames ∧ z.enc.codeTotal = x.enc.codeTotal := by
  obtain ⟨z, hz, hdecode, hsame, htotal⟩ := dropUndispatched_found s { x with state := .stopping }
  refine ⟨z, ?_, hsame, htotal⟩
  rw [stopAfter, settleStop_of_frames hz (hdecode.trans henc) (hsame ▸ hframes)]
  exact hz

theorem limitReached_frames {s : State} {id : Nat} {x : Session} (f : EncFrame) (hx : sessById s id = some x)
    (henc : x.decode = false) (hframes : x.enc.frames ≠ []) :
    ∃ z, sessById (limitReached s id f) id = some z ∧ z.enc.frames = x.enc.frames ∧ z.enc.codeTotal = x.enc.codeTotal := by
  unfold limitReached
  simp only [hx]
  split
  · rw [← id_of_sessById hx]
    exact stopAfter_frames s henc hframes
  · exact ⟨x, hx, rfl, rfl⟩

/-! ### A new frame and its first band (R76 to R78) -/

/-- The session as it begins its `n`-th picture: after a restart the rate account starts anew (R254). -/
def codingAt (x : Session) (n : Nat) : Session :=
  let x1 := { x with enc := { x.enc with codeCount := n } }
  if x.enc.refreshDue then
    { x1 with enc := { x1.enc with hrdBase := x1.enc.codeTotal, hrdNext := x1.enc.codeTotal, hrdAcc := fracOf 0 } }
  else x1

/-- The frame of a source picture. -/
def pictureFrame (s : State) (x : Session) (c : Bytes) (n target : Nat) (shares : List Nat) (p : SubPicture) : EncFrame :=
  newFrame (codingAt x n) c (frameAt x n) target shares (toBits 64 (toPtp s p.since)) (if cSource c = 2 then some p.stamp else none)

/-- The session that has begun it. -/
def begun (s : State) (x : Session) (c : Bytes) (n target : Nat) (shares : List Nat) (p : SubPicture) : Session :=
  beginFrame (codingAt x n) c n (pictureFrame s x c n target shares p)

/-- A picture whose source and ledger are ready begins, and its first band goes to the cores of `place` (R77). -/
theorem dispatchFrame_of_ready {s : State} {x y : Session} {place shares wts : List Nat} {target n : Nat} {c : Bytes}
    {p : SubPicture} (hy : y = newSequence x) (hn : n = nextCode y) (hc : c = cfgAt y (frameAt y n)) (hp : sourceOf y (frameAt y n) = some p)
    (hwts : wts = if hasHistory y c then shares else evenShares c) (hbegin : mayBegin y = true) (hsec : securityStops s y = false)
    (hledger : ledgerReady y c = true) (hlen : wts.length = (pictureUnits c).length) (hsum : wts.foldl (· + ·) 0 ≤ 65536)
    (hplace : place.all (placeable s y c) = true)
    (hunits : place.length = ((pictureUnits c).filter (fun u => u.band = 0 && codesUnit y c u)).length) :
    dispatchFrame s x place target shares =
      dispatchBand (sessPut s (begun s y c n target wts p)) (begun s y c n target wts p)
        (pictureFrame s y c n target wts p) place := by
  subst hy hn hc hwts
  unfold dispatchFrame
  simp only [hp]
  rw [if_pos]
  · rfl
  · simp only [Bool.and_eq_true, Bool.not_eq_true', beq_iff_eq, decide_eq_true_eq]
    exact ⟨⟨⟨⟨⟨⟨hbegin, hsec⟩, hledger⟩, hlen⟩, hsum⟩, hplace⟩, hunits⟩

theorem newSequence_frame (x : Session) :
    (newSequence x).id = x.id ∧ (newSequence x).decode = x.decode ∧ (newSequence x).enc.frames = x.enc.frames ∧
      (newSequence x).enc.codeTotal = x.enc.codeTotal := by
  unfold newSequence
  split
  · exact ⟨rfl, rfl, rfl, rfl⟩
  · split <;> exact ⟨rfl, rfl, rfl, rfl⟩

theorem codingAt_frame (x : Session) (n : Nat) :
    (codingAt x n).id = x.id ∧ (codingAt x n).decode = x.decode ∧ (codingAt x n).serving = x.serving ∧
      (codingAt x n).dist = x.dist ∧ (codingAt x n).enc.frames = x.enc.frames ∧
      (codingAt x n).enc.codeTotal = x.enc.codeTotal := by
  unfold codingAt
  split <;> exact ⟨rfl, rfl, rfl, rfl, rfl, rfl⟩

/-- Beginning a frame appends it and counts it. -/
theorem begun_frame (s : State) (x : Session) (c : Bytes) (n target : Nat) (shares : List Nat) (p : SubPicture) :
    (begun s x c n target shares p).id = x.id ∧ (begun s x c n target shares p).decode = x.decode ∧
      (begun s x c n target shares p).serving = x.serving ∧ (begun s x c n target shares p).dist = x.dist ∧
      (begun s x c n target shares p).enc.frames = x.enc.frames ++ [pictureFrame s x c n target shares p] ∧
      (begun s x c n target shares p).enc.codeTotal = x.enc.codeTotal + 1 := by
  obtain ⟨hid, hdecode, hserving, hdist, hframes, htotal⟩ := codingAt_frame x n
  exact ⟨hid, hdecode, hserving, hdist, congrArg (· ++ [_]) hframes, congrArg (· + 1) htotal⟩

/-- The units that a device codes are those of its roles. -/
theorem codesUnit_of_dist {x y : Session} (h : y.dist = x.dist) (c : Bytes) (u : UnitRec) : codesUnit y c u = codesUnit x c u := by
  simp only [codesUnit, codesRegion, isDist, h]

/-- A core's place depends on the session's clusters, not on what the sessions hold. -/
theorem placeable_sessPut (s : State) {x y : Session} (z : Session) (h : y.serving = x.serving) (c : Bytes) :
    placeable (sessPut s z) y c = placeable s x c := by
  funext core
  unfold placeable
  rw [h]
  rfl

theorem length_bandUnits (x : Session) (f : EncFrame) (b : Nat) (place : List Nat) : (bandUnits x f b place).length =
    min ((pictureUnits f.cfg).filter (fun u => u.band = b && codesUnit x f.cfg u)).length place.length := by
  simp [bandUnits]

/-- A frame written back in the last place is the last. -/
theorem getLast?_framePut {x : Session} {l : List EncFrame} {f g : EncFrame} (hx : x.enc.frames = l ++ [f])
    (h : f.number = g.number) : (framePut x g).enc.frames.getLast? = some g := by
  simp [framePut, hx, h]

@[simp] theorem sessById_queueUnits (s : State) (x : Session) (f : EncFrame) (first : Nat) (l : List UnitRec) (id : Nat) :
    sessById (queueUnits s x f first l) id = sessById s id :=
  sessById_eq_of_sessions (by simp) id

/-- A band that is queued stands in its frame, whether or not the frame limit then stops the session. -/
theorem dispatchBand_found {s : State} {x : Session} {f : EncFrame} {place : List Nat} {us : List UnitRec}
    (hus : us = bandUnits x f f.dispatched place) (hlen : us.length = place.length)
    (hplace : place.all (placeable s x f.cfg) = true)
    (hall : us.length = ((pictureUnits f.cfg).filter (fun u => u.band = f.dispatched && codesUnit x f.cfg u)).length)
    (henc : x.decode = false) (hframes : x.enc.frames ≠ []) :
    ∃ z, sessById (dispatchBand s x f place) x.id = some z ∧ z.enc.frames = (framePut x (withBand f us)).enc.frames ∧
      z.enc.codeTotal = x.enc.codeTotal := by
  have hput : sessById (queueUnits (sessPut s (framePut x (withBand f us))) x (withBand f us) f.units.length us) x.id =
      some (framePut x (withBand f us)) := by
    rw [sessById_queueUnits]
    exact sessById_sessPut s _
  rw [dispatchBand_of_placeable hus hlen hplace hall]
  exact limitReached_frames _ hput henc (by simpa [framePut] using hframes)

/-- The first band of a new frame: the frame is the last in coding, with one unit for each core of `place`. -/
theorem dispatchBand_first {s : State} {x : Session} {c : Bytes} {n target : Nat} {shares place : List Nat} {p : SubPicture}
    (henc : x.decode = false) (hplace : place.all (placeable s x c) = true)
    (hunits : place.length = ((pictureUnits c).filter (fun u => u.band = 0 && codesUnit x c u)).length) :
    ∃ z f, sessById (dispatchBand (sessPut s (begun s x c n target shares p)) (begun s x c n target shares p)
        (pictureFrame s x c n target shares p) place) x.id = some z ∧
      z.enc.frames.length = x.enc.frames.length + 1 ∧ z.enc.frames.getLast? = some f ∧ f.number = frameAt x n ∧ f.cfg = c ∧
      f.target = target ∧ f.shares = shares ∧ f.dispatched = 1 ∧ f.units.length = place.length ∧
      z.enc.codeTotal = x.enc.codeTotal + 1 := by
  obtain ⟨hid, hdecode, hserving, hdist, hframes, htotal⟩ := begun_frame s x c n target shares p
  have hcodes : place.length = ((pictureUnits c).filter (fun u => u.band = 0 &&
      codesUnit (begun s x c n target shares p) c u)).length := by
    simpa only [codesUnit_of_dist hdist] using hunits
  have hlen : (bandUnits (begun s x c n target shares p) (pictureFrame s x c n target shares p) 0 place).length = place.length := by
    rw [length_bandUnits]
    exact Nat.min_eq_right (Nat.le_of_eq hcodes)
  obtain ⟨z, hz, hzframes, hztotal⟩ := dispatchBand_found (s := sessPut s (begun s x c n target shares p)) rfl hlen
    ((placeable_sessPut s _ hserving c).symm ▸ hplace) (hlen.trans hcodes) (hdecode.trans henc) (by simp [hframes])
  refine ⟨z, withBand (pictureFrame s x c n target shares p) (bandUnits (begun s x c n target shares p) _ 0 place),
    hid ▸ hz, ?_, ?_, rfl, rfl, rfl, rfl, rfl, hlen, hztotal.trans htotal⟩
  · simp [hzframes, framePut, hframes]
  · rw [hzframes]
    exact getLast?_framePut hframes rfl

/-! ### BAND_START (R12, R13) -/

@[simp] theorem stampAt_frame (f : EncFrame) (k t : Nat) : (stampAt f k t).number = f.number ∧ (stampAt f k t).units = f.units := by
  unfold stampAt
  split <;> exact ⟨rfl, rfl⟩

/-- The core has taken the command from its cluster's queue. -/
def takeCommand (s : State) (core : Nat) (b : BandCmd) : State :=
  let s1 := clSet s (core / 7) { clGet s (core / 7) with queue := (clGet s (core / 7)).queue.erase b }
  coreSet s1 core { coreGet s1 core with
    work := some ⟨b.session, b.frame, b.unit⟩, pipe := [none, none, none, none, none, none, none], sourceRetry := false }

/-- The frame of a unit that starts, with the timestamps of its first and last band (Table 11.17) and the hold of R48. -/
def startingFrame (s : State) (f : EncFrame) (u : UnitRec) : EncFrame :=
  let f1 := stampAt (if u.band = 0 then stampAt f 0 (ptp64 s) else f) (if u.band + 1 = f.bands then 2 else 0) (ptp64 s)
  { f1 with holds := f1.holds ++ holdFrom f1 u.band s.now }

theorem startUnit_eq (s : State) (core : Nat) (b : BandCmd) (x : Session) (f : EncFrame) (u : UnitRec) :
    startUnit s core b x f u = unitPut (takeCommand s core b) x (startingFrame s f u) b.unit
      { rewindUnit u with started := true, startAt := s.now, due := s.now + bandTime f u.band } := rfl

theorem startingFrame_frame (s : State) (f : EncFrame) (u : UnitRec) :
    (startingFrame s f u).number = f.number ∧ (startingFrame s f u).units = f.units := by
  unfold startingFrame
  split <;> simp

theorem coreGet_startUnit (s : State) (core : Nat) (b : BandCmd) (x : Session) (f : EncFrame) (u : UnitRec) :
    (coreGet (startUnit s core b x f u) core).work = some ⟨b.session, b.frame, b.unit⟩ ∧
      (coreGet (startUnit s core b x f u) core).pipe = [none, none, none, none, none, none, none] :=
  ⟨congrArg CoreState.work (coreGet_coreSet s core _), congrArg CoreState.pipe (coreGet_coreSet s core _)⟩

theorem coreGet_startUnit_ne (s : State) {core k : Nat} (b : BandCmd) (x : Session) (f : EncFrame) (u : UnitRec) (h : k ≠ core) :
    coreGet (startUnit s core b x f u) k = coreGet s k :=
  coreGet_coreSet_ne s core k _ h

theorem queue_startUnit (s : State) (core : Nat) (b : BandCmd) (x : Session) (f : EncFrame) (u : UnitRec) :
    (clGet (startUnit s core b x f u) (core / 7)).queue = (clGet s (core / 7)).queue.erase b :=
  congrArg ClusterState.queue (clGet_clSet s (core / 7) _)

/-- The unit that a core takes up is started, now. -/
theorem startUnit_found (s : State) (core : Nat) {b : BandCmd} {x : Session} {f : EncFrame} {u : UnitRec}
    (hf : frameOf x b.frame = some f) (hu : f.units[b.unit]? = some u) :
    ∃ y g v, sessById (startUnit s core b x f u) x.id = some y ∧ frameOf y f.number = some g ∧ g.units[b.unit]? = some v ∧
      v.started = true ∧ v.startAt = s.now := by
  obtain ⟨hnumber, hunits⟩ := startingFrame_frame s f u
  have hunit : b.unit < (startingFrame s f u).units.length := hunits ▸ (List.getElem?_eq_some_iff.1 hu).1
  have hframe : frameOf x (startingFrame s f u).number = some f := by rw [hnumber, number_of_frameOf hf, hf]
  rw [startUnit_eq]
  obtain ⟨y, g, hy, hg, hv⟩ := unitPut_found (s := takeCommand s core b)
    { rewindUnit u with started := true, startAt := s.now, due := s.now + bandTime f u.band } hframe hunit
  exact ⟨y, g, _, hy, hnumber ▸ hg, hv, rfl, rfl⟩

theorem exec_bandStart_of_startable {s : State} {core w : Nat} {b : BandCmd} {x : Session} {f : EncFrame} {u : UnitRec}
    (hs : asleep s = false) (hcore : core < 28) (hb : headCommand s core = some b) (hx : sessById s b.session = some x)
    (hf : frameOf x b.frame = some f) (hu : f.units[b.unit]? = some u) (hstart : startable (atTime s w) core x f u = true) :
    exec (.bandStart core w) s = .next (startUnit (atTime s w) core b x f u) := by
  change execBandStart core w s = _
  simp [execBandStart, isCore_of_lt hcore, hs, hb, hx, hf, hu, hstart]

/-! ### SURVEY_ROW_START (R54) -/

theorem exec_surveyRowStart_of_surveyable {s : State} {k id frame row : Nat} {x : Session} {f : EncFrame} {cells : List SurveyCell}
    (hs : asleep s = false) (hk : k < 4) (hx : sessById s id = some x) (hf : frameOf x frame = some f)
    (hsurvey : surveyable s k row x f cells = true) :
    exec (.surveyRowStart k id frame row cells) s = .next (sessPut s (framePut x { f with
      cells := cells.foldl (fun t k => tset t k.cell (keepCell f.cfg k)) f.cells,
      copyError := f.copyError || cells.any (·.copyErr) })) := by
  have hunit : isCluster k = true := decide_eq_true hk
  change execSurveyRowStart k id frame row cells s = _
  simp [execSurveyRowStart, hunit, hs, hx, hf, hsurvey]

/-! ### INPUT_GAP_TIMEOUT (R256) -/

theorem exec_inputGapTimeout_of_due {s : State} {id w last : Nat} {x : Session} (hs : asleep s = false)
    (hx : sessById s id = some x) (hlast : x.enc.arrivedAt = some last) (henc : x.decode = false) (hsource : cSource x.cfg ≠ 0)
    (hstate : x.state = .running ∨ x.state = .resync) (hdue : last + 2 * framePeriod x.cfg ≤ max s.now w) :
    exec (.inputGapTimeout id w) s = .next (fillGap (atTime s w) x last) := by
  have hnow : last + 2 * framePeriod x.cfg ≤ (atTime s w).now := hdue
  change execInputGapTimeout id w s = _
  simp [execInputGapTimeout, hs, hx, hlast, henc, hsource, hstate, hnow]

/-- INPUT_GAP 1 passes the missing picture's number over. -/
theorem fillGap_skips (s : State) {x : Session} (last : Nat) (hskip : u8 x.cfg 0x011 = 1) :
    ∃ y, sessById (fillGap s x last) x.id = some y ∧ y.enc.skipped = x.enc.skipped ++ [x.enc.nextSubmit] ∧
      y.enc.nextSubmit = x.enc.nextSubmit + 1 ∧ y.enc.submitted = x.enc.submitted := by
  unfold fillGap
  rw [if_pos hskip]
  exact ⟨_, sessById_sessPut s _, rfl, rfl, rfl⟩

/-- Otherwise the previous source picture stands in under the missing number. -/
theorem fillGap_repeats (s : State) {x : Session} {p : SubPicture} (last : Nat) (hrepeat : u8 x.cfg 0x011 ≠ 1)
    (hp : x.enc.lastSource = some p) :
    ∃ y, sessById (fillGap s x last) x.id = some y ∧
      y.enc.submitted = x.enc.submitted ++ [{ p with frame := x.enc.nextSubmit, since := s.now }] ∧
      y.enc.nextSubmit = x.enc.nextSubmit + 1 ∧ y.enc.skipped = x.enc.skipped := by
  unfold fillGap
  rw [if_neg hrepeat]
  simp only [hp]
  exact ⟨_, sessById_sessPut s _, rfl, rfl, rfl⟩

/-- Settles O33: each command answers its one operation, whose session, frame and unit are read back. -/
theorem encodeWorkStarts : Obligations.EncodeWorkStarts := by
  intro s id w x hs hx
  obtain rfl := id_of_sessById hx
  refine ⟨?_, ?_, ?_, ?_, ?_⟩
  · rintro place target shares f g us henc hf hus hlen hplace hall rfl
    rw [exec_bandDispatch_of_open hs hx henc hf, dispatchBand_of_placeable hus hlen hplace hall]
    rfl
  · intro place target shares y n c wts p henc hf hy hn hc hp hwts hbegin hsec hledger hlen hsum hplace hunits
    obtain ⟨hid, hdecode, hframes, htotal⟩ := hy ▸ newSequence_frame x
    rw [exec_bandDispatch_of_closed hs hx henc hf,
      dispatchFrame_of_ready hy hn hc hp hwts hbegin hsec hledger hlen hsum hplace hunits, ← hid, ← hframes, ← htotal]
    obtain ⟨z, f, hz, hcount, hlast, hnumber, hcfg, htarget, hshares, hdispatched, hplaced, hcoded⟩ :=
      dispatchBand_first (n := n) (target := target) (shares := wts) (p := p) (hdecode.trans henc) hplace hunits
    exact ⟨_, z, f, rfl, hz, hcount, hlast, hnumber, hcfg, htarget, hshares, hdispatched, hplaced, hcoded, by simp⟩
  · intro core b f u hcore hb hid hf hu hstart
    obtain ⟨hwork, hpipe⟩ := coreGet_startUnit (atTime s w) core b x f u
    obtain ⟨y, g, v, hy, hg, hv, hstarted, hat⟩ := startUnit_found (atTime s w) core hf hu
    exact ⟨_, y, g, v, exec_bandStart_of_startable hs hcore hb (hid ▸ hx) hf hu hstart, hwork, hpipe,
      fun k hk => coreGet_startUnit_ne _ b x f u hk, queue_startUnit _ core b x f u, hy, hg, hv, hstarted, hat⟩
  · intro k frame row f cells hk hf hsurvey
    exact exec_surveyRowStart_of_surveyable hs hk hx hf hsurvey
  · intro last hlast henc hsource hstate hdue
    rw [exec_inputGapTimeout_of_due hs hx hlast henc hsource hstate hdue]
    refine ⟨fun hskip => ?_, fun hrepeat p hp => ?_⟩
    · obtain ⟨y, hy⟩ := fillGap_skips (atTime s w) last hskip
      exact ⟨_, y, rfl, hy⟩
    · obtain ⟨y, hy⟩ := fillGap_repeats (atTime s w) last hrepeat hp
      exact ⟨_, y, rfl, hy⟩

end Sys2Proof.Machine
end

section
/-! PROOFS. How coding units pass the pipeline and rows commit (R24, R29, R43, R87, R90, R107): one equation per command and case,
then what reading a core, a frame and a unit gives after a commit. -/

namespace Sys2Proof.Machine

/-! ### A core's unit of work -/

/-- The unit that a core works on stands in its frame of its session. -/
theorem found_of_workOf {s : State} {core : Nat} {x : Session} {f : EncFrame} {u : UnitRec} {wr : WorkRef}
    (h : workOf s core = some (x, f, u, wr)) :
    sessById s wr.session = some x ∧ frameOf x wr.frame = some f ∧ f.units[wr.unit]? = some u := by
  unfold workOf at h
  generalize (if (coreGet s core).fault == .none then (coreGet s core).work else none) = work at h
  cases work with
  | none => cases h
  | some w =>
    dsimp only at h
    split at h
    · cases h
    · next y hy =>
      split at h
      · cases h
      · next g hg =>
        obtain ⟨v, hv, heq⟩ := Option.map_eq_some_iff.1 h
        cases heq
        exact ⟨hy, hg, hv⟩

@[simp] theorem workOf_atTime (s : State) (w core : Nat) : workOf (atTime s w) core = workOf s core := rfl

/-! ### CU_START (R24, R29) -/

theorem exec_cuStart_of_working {s : State} {core e : Nat} {x : Session} {f : EncFrame} {u : UnitRec} {wr : WorkRef}
    (l : List AssayIn) (hs : asleep s = false) (hcore : core < 28) (he : e ≤ 6) (hwork : workOf s core = some (x, f, u, wr)) :
    exec (.cuStart core e l) s = .next (if e = 0 then enterFront s core x f u wr else moveInto s core e l x f u) := by
  have hengine : isEngine e = true := decide_eq_true (by omega)
  change execCuStart core e l s = _
  simp [execCuStart, isCore_of_lt hcore, hengine, hs, hwork]

theorem enterFront_of_free {s : State} {core : Nat} {x : Session} {f : EncFrame} {u : UnitRec} (wr : WorkRef)
    (hfree : slotOf (coreGet s core) 0 = none) (hleft : u.nextCu < unitCus u) :
    enterFront s core x f u wr = unitPut (coreSet s core { coreGet s core with
      pipe := lset (coreGet s core).pipe 0 (some ⟨u.nextCu, 0, 0, cRateMode f.cfg == 4, none, false, []⟩) }) x f wr.unit
      { u with nextCu := u.nextCu + 1 } := by
  have hmore : ¬ unitCus u ≤ u.nextCu := Nat.not_le_of_lt hleft
  simp [enterFront, hfree, hmore]

/-- A coding unit whose next engine is free moves; on its way into Assay of an inter frame it takes the lists of candidates. -/
theorem moveInto_of_free {s : State} {core e : Nat} {l : List AssayIn} {x : Session} {f : EncFrame} {u : UnitRec} {sl : CuSlot}
    (hslot : slotOf (coreGet s core) (e - 1) = some sl) (hfree : slotOf (coreGet s core) e = none ∨ e = 6)
    (hmay : mayEnter s core e f u sl = true) :
    moveInto s core e l x f u = coreSet s core { coreGet s core with
      pipe := lset (lset (coreGet s core).pipe (e - 1) none) e
        (some (if e = 1 && !f.intra then { sl with assay := l.zipIdx.map (fun a => assayList x f u sl.cu a.2 a.1) } else sl)) } := by
  unfold moveInto
  simp only [hslot]
  rw [if_neg]
  obtain hfree | rfl := hfree
  · simp [hfree, hmay]
  · simp [hmay]

/-! ### CU_MEASURE (R87, R90) -/

theorem exec_cuMeasure_of_undecided {s : State} {core : Nat} {x : Session} {f : EncFrame} {u : UnitRec} {wr : WorkRef} {sl : CuSlot}
    (m : CuMeas) (hs : asleep s = false) (hcore : core < 28) (hwork : workOf s core = some (x, f, u, wr))
    (hslot : slotOf (coreGet s core) 4 = some sl) (hopen : sl.decided = false) (hrow : inOpenRow u sl.cu = true) :
    exec (.cuMeasure core m) s = .next (measureCu s core m sl x f u wr) := by
  change execCuMeasure core m s = _
  simp [execCuMeasure, isCore_of_lt hcore, hs, hwork, hslot, hopen, hrow]

theorem measureCu_of_keep {s : State} {core charge flags : Nat} {m : CuMeas} {sl : CuSlot} {x : Session} {f : EncFrame} {u : UnitRec}
    {q : Int} {e : CuEntry} (wr : WorkRef) (hq : q = if sl.attempt = 0 then firstQp f.cfg u sl.cu m.qp else sl.qp0)
    (hstep : floorStep f.cfg u m sl.cu sl.attempt (qpOf f.cfg q sl.attempt) sl.kept = .keep e charge flags) :
    measureCu s core m sl x f u wr = unitPut (coreSet s core { coreGet s core with
      pipe := lset (coreGet s core).pipe 4
        (some { sl with qp0 := q, kept := some e, decided := true, lossless := e.state / 4 % 2 == 1 }) }) x f wr.unit
      (keepCu f.cfg u m e charge flags) := by
  subst hq
  simp only [measureCu, hstep]

theorem measureCu_of_retry {s : State} {core : Nat} {m : CuMeas} {sl : CuSlot} {x : Session} {f : EncFrame} {u : UnitRec}
    {q : Int} {prev : CuEntry} (wr : WorkRef) (hq : q = if sl.attempt = 0 then firstQp f.cfg u sl.cu m.qp else sl.qp0)
    (hstep : floorStep f.cfg u m sl.cu sl.attempt (qpOf f.cfg q sl.attempt) sl.kept = .retry prev) :
    measureCu s core m sl x f u wr =
      unitPut (coreSet s core (retryPipe (coreGet s core) { sl with qp0 := q } prev)) x f wr.unit
        { u with nextCu := sl.cu + 1, acc := { u.acc with
          spent := u.acc.spent + retryCharge f.cfg, retries := u.acc.retries + 1 } } := by
  subst hq
  simp only [measureCu, hstep]

/-! ### ROW_COMMIT (R43, R107) -/

/-- A core whose Ladle has packed and committed a row. -/
def rowInLadle (k : CoreState) (tag : List Nat) (b : Bytes) : CoreState :=
  { k with ladle := fifoCommit tag (fifoWrite tag b k.ladle), pipe := lset k.pipe 6 none }

/-- A unit of work after the commit of its open row. -/
def rowCommitted (u : UnitRec) (core complexity : Nat) : UnitRec :=
  let acc := { u.acc with complexity := u.acc.complexity + complexity }
  { u with acc := acc, snap := acc, commits := u.commits ++ [⟨openRow u, core, false⟩], done := u.commits.length + 1 == u.rows }

theorem exec_rowCommit_of_out {s : State} {core w : Nat} {x : Session} {f : EncFrame} {u : UnitRec} {wr : WorkRef} (b : Bytes) (n : Nat)
    (hs : asleep s = false) (hcore : core < 28) (hwork : workOf s core = some (x, f, u, wr))
    (hout : rowOut (atTime s w) core u = true) :
    exec (.rowCommit core b n w) s = .next (settleRotation (commitRow (atTime s w) core b n x f u wr) (core / 7)) := by
  change execRowCommit core b n w s = _
  simp [execRowCommit, isCore_of_lt hcore, hs, hwork, hout]

/-- A row that the Ladle has room for commits. -/
theorem commitRow_of_room {s : State} {core : Nat} {b : Bytes} {u : UnitRec} {wr : WorkRef} (n : Nat) (x : Session) (f : EncFrame)
    (hroom : (fifoWrite (rowTag wr (openRow u)) b (coreGet s core).ladle).overflow = (coreGet s core).ladle.overflow) :
    commitRow s core b n x f u wr =
      if (rowCommitted u core n).done then
        finishUnit (coreSet s core (rowInLadle (coreGet s core) (rowTag wr (openRow u)) b)) core x f wr.unit (rowCommitted u core n)
      else
        unitPut (coreSet s core (rowInLadle (coreGet s core) (rowTag wr (openRow u)) b)) x f wr.unit (rowCommitted u core n) := by
  unfold commitRow
  rw [if_neg (not_not_intro hroom)]
  rfl

/-- The last commit of a unit takes the unit from its core; what the frame then reports touches no core. -/
theorem finishUnit_cores (s : State) (core : Nat) (x : Session) (f : EncFrame) (i : Nat) (u : UnitRec) :
    (finishUnit s core x f i u).cores = (coreSet s core { coreGet s core with
      work := none, redoing := false, pipe := [none, none, none, none, none, none, none] }).cores := by
  simp [finishUnit, coreSet]

theorem coreGet_finishUnit (s : State) (core : Nat) (x : Session) (f : EncFrame) (i : Nat) (u : UnitRec) :
    coreGet (finishUnit s core x f i u) core = { coreGet s core with
      work := none, redoing := false, pipe := [none, none, none, none, none, none, none] } := by
  rw [coreGet_eq_of_cores (finishUnit_cores s core x f i u), coreGet_coreSet]

theorem coreGet_finishUnit_ne (s : State) {core k : Nat} (x : Session) (f : EncFrame) (i : Nat) (u : UnitRec) (h : k ≠ core) :
    coreGet (finishUnit s core x f i u) k = coreGet s k := by
  rw [coreGet_eq_of_cores (finishUnit_cores s core x f i u), coreGet_coreSet_ne _ _ _ _ h]

@[simp] theorem coreGet_settleRotation (s : State) (k c : Nat) : coreGet (settleRotation s k) c = coreGet s c :=
  coreGet_eq_of_cores (by simp) c

@[simp] theorem sessById_settleRotation (s : State) (k id : Nat) : sessById (settleRotation s k) id = sessById s id :=
  sessById_eq_of_sessions (by simp) id

@[simp] theorem coreGet_unitPut (s : State) (x : Session) (f : EncFrame) (i : Nat) (u : UnitRec) (c : Nat) :
    coreGet (unitPut s x f i u) c = coreGet s c := rfl

/-- The commit of a row that is not the last of its unit: the unit goes on from its new snapshot. -/
theorem exec_rowCommit_of_further {s : State} {core w : Nat} {x : Session} {f : EncFrame} {u : UnitRec} {wr : WorkRef} {b : Bytes}
    {n : Nat} (hs : asleep s = false) (hcore : core < 28) (hwork : workOf s core = some (x, f, u, wr))
    (hout : rowOut (atTime s w) core u = true) (hfurther : u.commits.length + 1 ≠ u.rows)
    (hroom : (fifoWrite (rowTag wr (openRow u)) b (coreGet s core).ladle).overflow = (coreGet s core).ladle.overflow) :
    ∃ t y g, exec (.rowCommit core b n w) s = .next t ∧ sessById t x.id = some y ∧ frameOf y f.number = some g ∧
      g.units[wr.unit]? = some (rowCommitted u core n) ∧
      (coreGet t core).ladle = fifoCommit (rowTag wr (openRow u)) (fifoWrite (rowTag wr (openRow u)) b (coreGet s core).ladle) := by
  obtain ⟨-, hf, hu⟩ := found_of_workOf hwork
  have hframe : frameOf x f.number = some f := by rw [number_of_frameOf hf, hf]
  have hopen : (rowCommitted u core n).done = false := beq_eq_false_iff_ne.2 hfurther
  rw [exec_rowCommit_of_out b n hs hcore hwork hout, commitRow_of_room (s := atTime s w) n x f hroom, hopen, if_neg Bool.false_ne_true]
  obtain ⟨y, g, hy, hg, hv⟩ := unitPut_found
    (s := coreSet (atTime s w) core (rowInLadle (coreGet (atTime s w) core) (rowTag wr (openRow u)) b))
    (rowCommitted u core n) hframe (List.getElem?_eq_some_iff.1 hu).1
  exact ⟨_, y, g, rfl, by simpa using hy, hg, hv, by simp [rowInLadle]⟩

/-- The commit of the last row: the unit leaves the core, and no other core changes. -/
theorem exec_rowCommit_of_last {s : State} {core w : Nat} {x : Session} {f : EncFrame} {u : UnitRec} {wr : WorkRef} {b : Bytes}
    {n : Nat} (hs : asleep s = false) (hcore : core < 28) (hwork : workOf s core = some (x, f, u, wr))
    (hout : rowOut (atTime s w) core u = true) (hlast : u.commits.length + 1 = u.rows)
    (hroom : (fifoWrite (rowTag wr (openRow u)) b (coreGet s core).ladle).overflow = (coreGet s core).ladle.overflow) :
    ∃ t, exec (.rowCommit core b n w) s = .next t ∧ (coreGet t core).work = none ∧
      (coreGet t core).ladle = fifoCommit (rowTag wr (openRow u)) (fifoWrite (rowTag wr (openRow u)) b (coreGet s core).ladle) ∧
      (∀ k, k ≠ core → coreGet t k = coreGet s k) ∧ t.mode = s.mode := by
  have hdone : (rowCommitted u core n).done = true := beq_iff_eq.2 hlast
  rw [exec_rowCommit_of_out b n hs hcore hwork hout, commitRow_of_room (s := atTime s w) n x f hroom, hdone, if_pos rfl]
  refine ⟨_, rfl, ?_, ?_, fun k hk => ?_, by simp⟩
  · rw [coreGet_settleRotation, coreGet_finishUnit]
  · rw [coreGet_settleRotation, coreGet_finishUnit, coreGet_coreSet]
    rfl
  · rw [coreGet_settleRotation, coreGet_finishUnit_ne _ _ _ _ _ hk, coreGet_coreSet_ne _ _ _ _ hk, coreGet_atTime]

/-! ### The floor loop (R87, R90) -/

/-- Without STRICT_HRD a lossy attempt is judged by the floor alone: kept where it passes, coded again while a retry is left and
fits, otherwise left to the lossless step. -/
theorem floorStep_of_lossy {c : Bytes} (u : UnitRec) (m : CuMeas) (cu i : Nat) (qp : Int) (prev : Option CuEntry)
    (hlossy : cRateMode c ≠ 4) (hstrict : strictHrd c = false) :
    floorStep c u m cu i qp prev =
      if !floorOn c || floorPass c m then .keep (lossyEntry c m cu i qp false false false) 0 0
      else if decide (i < u8 c 0x126) && decide (qpMin c < qp) && decide (u.acc.spent + retryCharge c ≤ u.budget) then
        .retry (lossyEntry c m cu i qp false false false)
      else floorLast c u m cu i (lossyEntry c m cu i qp false false false)
        (decide (i < u8 c 0x126) && decide (qpMin c < qp) && !decide (u.acc.spent + retryCharge c ≤ u.budget)) := by
  unfold floorStep
  rw [if_neg hlossy, hstrict]
  cases prev <;> rfl

theorem floorStep_of_pass {c : Bytes} {m : CuMeas} (u : UnitRec) (cu i : Nat) (qp : Int) (prev : Option CuEntry)
    (hlossy : cRateMode c ≠ 4) (hstrict : strictHrd c = false) (hpass : floorOn c = false ∨ floorPass c m = true) :
    floorStep c u m cu i qp prev = .keep (lossyEntry c m cu i qp false false false) 0 0 := by
  rw [floorStep_of_lossy u m cu i qp prev hlossy hstrict, if_pos]
  obtain h | h := hpass <;> simp [h]

theorem floorStep_of_retry {c : Bytes} {m : CuMeas} {u : UnitRec} {i : Nat} {qp : Int} (cu : Nat) (prev : Option CuEntry)
    (hlossy : cRateMode c ≠ 4) (hstrict : strictHrd c = false) (hon : floorOn c = true) (hfail : floorPass c m = false)
    (hmore : i < u8 c 0x126) (hqp : qpMin c < qp) (hfits : u.acc.spent + retryCharge c ≤ u.budget) :
    floorStep c u m cu i qp prev = .retry (lossyEntry c m cu i qp false false false) := by
  rw [floorStep_of_lossy u m cu i qp prev hlossy hstrict, if_neg (by simp [hon, hfail]), if_pos (by simp [hmore, hqp, hfits])]

theorem floorLast_of_able {c : Bytes} (u : UnitRec) (m : CuMeas) (cu i : Nat) (e : CuEntry) (short : Bool)
    (hable : losslessAble c = true) (hstrict : strictHrd c = false) :
    floorLast c u m cu i e short = .keep (losslessEntry c m cu i short) (losslessCharge c m.llBins)
      (if u.budget < u.acc.spent + losslessCharge c m.llBins then 2 else 0) := by
  simp [floorLast, hable, hstrict]

/-- Where no retry is left or fits, the coding unit is coded losslessly. -/
theorem floorStep_of_spent {c : Bytes} {m : CuMeas} {u : UnitRec} {i : Nat} {qp : Int} (cu : Nat) (prev : Option CuEntry)
    (hlossy : cRateMode c ≠ 4) (hstrict : strictHrd c = false) (hon : floorOn c = true) (hfail : floorPass c m = false)
    (hable : losslessAble c = true) (hspent : u8 c 0x126 ≤ i ∨ qp ≤ qpMin c ∨ u.budget < u.acc.spent + retryCharge c) :
    ∃ short charge flags, floorStep c u m cu i qp prev = .keep (losslessEntry c m cu i short) charge flags := by
  rw [floorStep_of_lossy u m cu i qp prev hlossy hstrict, if_neg (by simp [hon, hfail]), if_neg]
  · exact ⟨_, _, _, floorLast_of_able u m cu i _ _ hable hstrict⟩
  · simp only [Bool.and_eq_true, decide_eq_true_eq]
    omega

theorem floorStep_of_lossless {c : Bytes} (u : UnitRec) (m : CuMeas) (cu i : Nat) (qp : Int) (prev : Option CuEntry)
    (h : cRateMode c = 4) : floorStep c u m cu i qp prev = .keep (losslessEntry c m cu 0 false) 0 0 := by
  unfold floorStep
  exact if_pos h

/-- Settles O34: each command answers its one operation on the core and its unit of work, and the floor loop decides by case. -/
theorem codingPipelineCompletes : Obligations.CodingPipelineCompletes := by
  refine ⟨fun s core x f u wr hs hcore hwork => ⟨?_, ?_, ?_, ?_, ?_, ?_, ?_⟩, fun c u m cu i qp prev => ⟨?_, ?_, ?_, ?_⟩⟩
  · intro l hfree hleft
    rw [exec_cuStart_of_working l hs hcore (by omega) hwork, if_pos rfl, enterFront_of_free wr hfree hleft]
  · intro e l sl hlow hhigh hslot hfree hmay hplain
    rw [exec_cuStart_of_working l hs hcore hhigh hwork, if_neg (by omega), moveInto_of_free hslot hfree hmay, if_neg]
    obtain h | h := hplain <;> simp [h]
  · intro l sl hslot hfree habove hinter
    have hmay : mayEnter s core 1 f u sl = true := habove
    rw [exec_cuStart_of_working l hs hcore (by omega) hwork, if_neg (by omega), moveInto_of_free hslot (.inl hfree) hmay,
      if_pos (by simp [hinter])]
  · intro m sl e charge flags q hslot hopen hrow hq hstep
    rw [exec_cuMeasure_of_undecided m hs hcore hwork hslot hopen hrow, measureCu_of_keep wr hq hstep]
  · intro m sl prev q hslot hopen hrow hq hstep
    rw [exec_cuMeasure_of_undecided m hs hcore hwork hslot hopen hrow, measureCu_of_retry wr hq hstep]
  · intro b n w hout hfurther hroom
    obtain ⟨t, y, g, ht, hy, hg, hv, hladle⟩ := exec_rowCommit_of_further (n := n) hs hcore hwork hout hfurther hroom
    exact ⟨t, y, g, _, ht, hy, hg, hv, rfl, rfl, rfl, beq_eq_false_iff_ne.2 hfurther, hladle⟩
  · intro b n w hout hlast hroom
    exact exec_rowCommit_of_last hs hcore hwork hout hlast hroom
  · exact floorStep_of_pass u cu i qp prev
  · exact floorStep_of_retry cu prev
  · intro hlossy hstrict hon hfail hable hspent
    obtain ⟨short, charge, flags, h⟩ := floorStep_of_spent cu prev hlossy hstrict hon hfail hable hspent
    exact ⟨_, charge, flags, h, rfl, rfl, rfl, rfl⟩
  · exact floorStep_of_lossless u m cu i qp prev

end Sys2Proof.Machine
end

section
/-! PROOFS. Self-tests, patch parity, lockstep and watchdog (R42, R408, R410, R411): first what reports to the host leave, then what
a fault and a passing unit leave, then one lemma per command. -/

namespace Sys2Proof.Machine

/-! ### Reports to the host: causes, log records, the Larder -/

/-- A loop keeps any part of the state that its body keeps. -/
theorem foldl_view {α β : Type} (g : State → β) {f : State → α → State} (h : ∀ s a, g (f s a) = g s) (l : List α) (s : State) :
    g (l.foldl f s) = g s := by
  induction l generalizing s with
  | nil => rfl
  | cons a l ih => rw [List.foldl_cons, ih, h]

@[simp] theorem sendMsix_rest (s : State) (fn v : Nat) :
    (sendMsix s fn v).now = s.now ∧ (sendMsix s fn v).canary = s.canary ∧ (sendMsix s fn v).clusters = s.clusters ∧
      (sendMsix s fn v).degraded = s.degraded ∧ (sendMsix s fn v).larder = s.larder ∧ (sendMsix s fn v).foreman = s.foreman := by
  unfold sendMsix
  (repeat' split) <;> simp

@[simp] theorem setCause_rest (s : State) (fn bit : Nat) :
    (setCause s fn bit).now = s.now ∧ (setCause s fn bit).canary = s.canary ∧ (setCause s fn bit).clusters = s.clusters ∧
      (setCause s fn bit).degraded = s.degraded ∧ (setCause s fn bit).larder = s.larder ∧
      (setCause s fn bit).foreman = s.foreman := by
  unfold setCause
  dsimp only
  (repeat' split) <;> simp

@[simp] theorem causeAll_rest (s : State) (bit : Nat) :
    (causeAll s bit).now = s.now ∧ (causeAll s bit).canary = s.canary ∧ (causeAll s bit).clusters = s.clusters ∧
      (causeAll s bit).degraded = s.degraded ∧ (causeAll s bit).larder = s.larder ∧ (causeAll s bit).foreman = s.foreman :=
  ⟨foldl_view State.now (by simp) _ s, foldl_view State.canary (by simp) _ s, foldl_view State.clusters (by simp) _ s,
    foldl_view State.degraded (by simp) _ s, foldl_view State.larder (by simp) _ s, foldl_view State.foreman (by simp) _ s⟩

@[simp] theorem postEvent_rest (s : State) (r : EventRec) :
    (postEvent s r).now = s.now ∧ (postEvent s r).canary = s.canary ∧ (postEvent s r).clusters = s.clusters ∧
      (postEvent s r).degraded = s.degraded ∧ (postEvent s r).larder = s.larder := by
  unfold postEvent
  dsimp only
  (repeat' split) <;> simp

@[simp] theorem argOf_rest (s : State) (a : Option Nat) (bound : Nat) :
    (argOf s a bound).2.now = s.now ∧ (argOf s a bound).2.canary = s.canary ∧ (argOf s a bound).2.clusters = s.clusters ∧
      (argOf s a bound).2.degraded = s.degraded ∧ (argOf s a bound).2.larder = s.larder := by
  cases a <;> simp [argOf, draw]

@[simp] theorem logEvent_rest (s : State) (code cls source : Nat) (arg0 arg1 : Option Nat) :
    (logEvent s code cls source arg0 arg1).now = s.now ∧ (logEvent s code cls source arg0 arg1).canary = s.canary ∧
      (logEvent s code cls source arg0 arg1).clusters = s.clusters ∧
      (logEvent s code cls source arg0 arg1).degraded = s.degraded ∧
      (logEvent s code cls source arg0 arg1).larder = s.larder := by
  simp [logEvent, logRec]

@[simp] theorem larderUpdate_rest (s : State) :
    (larderUpdate s).now = s.now ∧ (larderUpdate s).canary = s.canary ∧ (larderUpdate s).clusters = s.clusters ∧
      (larderUpdate s).degraded = s.degraded ∧ (larderUpdate s).foreman = s.foreman := by
  unfold larderUpdate
  split <;> simp

@[simp] theorem setMode_rest (s : State) (m : OpMode) :
    (setMode s m).now = s.now ∧ (setMode s m).clusters = s.clusters ∧ (setMode s m).degraded = s.degraded ∧
      (setMode s m).larder = s.larder ∧ (setMode s m).foreman = s.foreman := by
  simp [setMode]

@[simp] theorem setDegraded_rest (s : State) :
    (setDegraded s).now = s.now ∧ (setDegraded s).canary = s.canary ∧ (setDegraded s).clusters = s.clusters ∧
      (setDegraded s).degraded = true := by
  simp [setDegraded]

@[simp] theorem settleDegraded_rest (s : State) :
    (settleDegraded s).now = s.now ∧ (settleDegraded s).canary = s.canary ∧ (settleDegraded s).clusters = s.clusters := by
  unfold settleDegraded
  split <;> simp

theorem clGet_eq_of_clusters {s t : State} (h : t.clusters = s.clusters) (k : Nat) : clGet t k = clGet s k := by
  rw [clGet, clGet, h]

@[simp] theorem coreGet_larderUpdate (s : State) (c : Nat) : coreGet (larderUpdate s) c = coreGet s c :=
  coreGet_eq_of_cores (by simp) c

@[simp] theorem coreGet_settleDegraded (s : State) (c : Nat) : coreGet (settleDegraded s) c = coreGet s c :=
  coreGet_eq_of_cores (by simp) c

@[simp] theorem clGet_larderUpdate (s : State) (k : Nat) : clGet (larderUpdate s) k = clGet s k :=
  clGet_eq_of_clusters (by simp) k

@[simp] theorem clGet_settleDegraded (s : State) (k : Nat) : clGet (settleDegraded s) k = clGet s k :=
  clGet_eq_of_clusters (by simp) k

/-! ### BIST_COMPLETE (R410) -/

/-- The collector as the end of the self-tests finds it: no unit fenced, lost or about to be fenced. -/
def bistEnded (s : State) : State :=
  { s with canary := { s.canary with bist := false, fencedUnits := [], pendingFences := [], lostUnits := [] } }

@[simp] theorem bistEnded_frame (s : State) : (bistEnded s).mode = s.mode ∧ (bistEnded s).hbm = s.hbm := ⟨rfl, rfl⟩

/-- A cluster whose spare failed has none. -/
def dropUnusableSpare (s : State) (k : Nat) : State :=
  match (clGet s k).spare with
  | some c => if coreUsable s c then s else clSet s k { clGet s k with spare := none }
  | none => s

theorem exec_bistComplete_of_bist {s : State} (failed : List Nat) (w : Nat) (hs : asleep s = false) (hbist : s.canary.bist = true) :
    exec (.bistComplete failed w) s = .next (settleDegraded (larderUpdate ((List.range 4).foldl dropUnusableSpare
      (allUnits.foldl (settleUnit (failed.filterMap unitOf)) (bistEnded (atTime s w)))))) := by
  change execBistComplete failed w s = _
  unfold execBistComplete
  rw [hs, hbist]
  rfl

@[simp] theorem dropUnusableSpare_keeps (s : State) (k : Nat) :
    (dropUnusableSpare s k).canary = s.canary ∧ (dropUnusableSpare s k).mode = s.mode ∧ (dropUnusableSpare s k).hbm = s.hbm := by
  unfold dropUnusableSpare
  (repeat' split) <;> simp

@[simp] theorem unitFence_canary (s : State) (u : FenceUnit) (on : Bool) : (unitFence s u on).canary = s.canary := by
  cases u <;> simp [unitFence]

/-- A unit that passes is entered in no list of fenced or lost units. -/
theorem settleUnit_passed (s : State) (u : FenceUnit) :
    (settleUnit [] s u).canary.bist = s.canary.bist ∧ (settleUnit [] s u).canary.fencedUnits = s.canary.fencedUnits ∧
      (settleUnit [] s u).canary.lostUnits = s.canary.lostUnits := by
  cases u <;> simp [settleUnit, bistResult, returnUnit, reloadCore]

theorem canary_of_bistPassed (s : State) (l : List FenceUnit) :
    (l.foldl (settleUnit []) (bistEnded s)).canary.bist = false ∧
      (l.foldl (settleUnit []) (bistEnded s)).canary.fencedUnits = [] ∧
      (l.foldl (settleUnit []) (bistEnded s)).canary.lostUnits = [] :=
  ⟨foldl_view (·.canary.bist) (fun s u => (settleUnit_passed s u).1) l _,
    foldl_view (·.canary.fencedUnits) (fun s u => (settleUnit_passed s u).2.1) l _,
    foldl_view (·.canary.lostUnits) (fun s u => (settleUnit_passed s u).2.2) l _⟩

/-! ### PATCH_PARITY_ERROR (R42) -/

theorem canaryCount_status (s : State) {bit cls : Nat} (hbit : bit < 64) (hcls : cls ≠ 0) :
    (canaryCount s bit cls).canary.status.getLsbD bit = true := by
  simp [canaryCount, hcls, hbit]

/-- A class 2 fault is counted, sets its bit and degrades the device. -/
theorem recordFault_class2 (s : State) (bit : Nat) (addr : Option Nat) :
    (recordFault s bit 2 addr).canary = (canaryCount s bit 2).canary ∧ (recordFault s bit 2 addr).degraded = true := by
  simp [recordFault, draw]

theorem coreFault_of_class2 {s : State} {c : Nat} (addr : Option Nat) (hfenced : (coreGet s c).fenced = false)
    (hlost : (coreGet s c).lost = false) :
    (coreFault s c 2 addr).2 = stopCore (recordFault (endRotation s (c / 7)) c 2 addr) c := by
  simp [coreFault, hfenced, hlost, collect]

/-- The fence of a unit stands, is under way, or is ordered now. -/
theorem fencing_orderFence (s : State) (u : FenceUnit) : fencing (orderFence s u) u = true := by
  unfold orderFence
  split
  · next h => exact h
  · simp [fencing]

@[simp] theorem orderFence_frame (s : State) (u : FenceUnit) :
    (orderFence s u).cores = s.cores ∧ (orderFence s u).degraded = s.degraded ∧ (orderFence s u).canary.status = s.canary.status := by
  unfold orderFence
  split <;> simp

theorem stopCore_effect (s : State) (c : Nat) :
    (coreGet (stopCore s c) c).patchOk = (coreGet s c).patchOk ∧ (stopCore s c).degraded = s.degraded ∧
      (stopCore s c).canary.status = s.canary.status ∧ fencing (stopCore s c) (.core c) = true := by
  refine ⟨?_, by simp [stopCore], by simp [stopCore], fencing_orderFence _ _⟩
  rw [stopCore, coreGet_eq_of_cores (orderFence_frame _ _).1, coreGet_coreSet]

/-- The core after an error in its patch RAM. -/
def patchBroken (s : State) (c : Nat) : State :=
  coreSet s c { coreGet s c with patchOk := false, parity := s.now :: (coreGet s c).parity }

theorem exec_patchParityError_of_unfenced {s : State} {c : Nat} (w : Nat) (hs : asleep s = false) (hc : c < 28)
    (hfenced : (coreGet s c).fenced = false) (hlost : (coreGet s c).lost = false) :
    exec (.patchParityError c w) s =
      .next (stopCore (recordFault (endRotation (patchBroken (atTime s w) c) (c / 7)) c 2 none) c) := by
  have hbroken : (coreGet (patchBroken (atTime s w) c) c).fenced = false ∧ (coreGet (patchBroken (atTime s w) c) c).lost = false := by
    simp [patchBroken, hfenced, hlost]
  rw [← coreFault_of_class2 none hbroken.1 hbroken.2]
  change execPatchParityError c w s = _
  simp [execPatchParityError, isCore_of_lt hc, hs, hfenced, hlost, patchBroken]

/-! ### CORE_BIST_RELOAD_DONE (R42) -/

/-- A reloaded core in service again, as its cluster's spare. -/
def coreReturned (s : State) (c : Nat) : State :=
  let s1 := reloadCore (unitFence s (.core c) false) c
  let s2 := clSet s1 (c / 7) { clGet s1 (c / 7) with spare := some c }
  { s2 with canary := { s2.canary with fencedUnits := s2.canary.fencedUnits.filter (· ≠ .core c) } }

theorem exec_coreBistReloadDone_of_pass {s : State} {c w : Nat} (hs : asleep s = false) (hc : c < 28)
    (hfenced : (coreGet s c).fenced = true) (hpatch : (coreGet s c).patchOk = false) (hlost : (coreGet s c).lost = false)
    (hfault : (coreGet s c).fault = .replaced) (hparity : parity24 (atTime s w) c = 1) :
    exec (.coreBistReloadDone c true w) s = .next (settleDegraded (larderUpdate (coreReturned (atTime s w) c))) := by
  change execCoreBistReloadDone c true w s = _
  unfold execCoreBistReloadDone
  rw [isCore_of_lt hc, hs, hfenced, hpatch, hlost, hfault, hparity]
  rfl

theorem coreGet_reloadCore (s : State) (c : Nat) :
    (coreGet (reloadCore s c) c).fenced = false ∧ (coreGet (reloadCore s c) c).patchOk = true :=
  ⟨congrArg CoreState.fenced (coreGet_coreSet s c _), congrArg CoreState.patchOk (coreGet_coreSet s c _)⟩

theorem coreReturned_effect (s : State) (c : Nat) :
    (coreGet (coreReturned s c) c).fenced = false ∧ (coreGet (coreReturned s c) c).patchOk = true ∧
      (clGet (coreReturned s c) (c / 7)).spare = some c ∧ (coreReturned s c).mode = s.mode := by
  obtain ⟨hin, hok⟩ := coreGet_reloadCore (unitFence s (.core c) false) c
  exact ⟨hin, hok, congrArg ClusterState.spare (clGet_clSet _ (c / 7) _), by simp [coreReturned]⟩

/-! ### LOCKSTEP_MISMATCH and WATCHDOG_TIMEOUT (R408, R411) -/

theorem gateEgress_gatedAt {s : State} (h : s.canary.gatedAt = none) : (gateEgress s).canary.gatedAt = some s.now := by
  simp [gateEgress, hardFault, canaryCount, h]

/-- A warm reset starts Secure Boot without sessions and keeps the collector's bits (R466). -/
theorem warmReset_effect (s : State) :
    (warmReset s).mode = .secureBoot ∧ (warmReset s).ready = false ∧ (warmReset s).sessions = [] ∧
      (warmReset s).canary.status = s.canary.status :=
  ⟨rfl, rfl, rfl, rfl⟩

/-- Settles O16: each command's effect is one operation on the collector, the core or the mode, read back. -/
theorem selfTestsAndWatchdogComplete : Obligations.SelfTestsAndWatchdogComplete := by
  intro s w hs
  refine ⟨fun hbist => ?_, fun c hc hfenced hlost => ?_, fun c hc hfenced hpatch hlost hfault hparity => ?_, fun hgate => ?_,
    fun hdue => ?_⟩
  · obtain ⟨hend, hfences, hlosses⟩ := canary_of_bistPassed (atTime s w) allUnits
    refine ⟨_, exec_bistComplete_of_bist [] w hs hbist, ?_⟩
    have hspares (t : State) : ((List.range 4).foldl dropUnusableSpare t).canary = t.canary :=
      foldl_view State.canary (by simp) _ t
    simp [hspares, hend, hfences, hlosses]
  · obtain ⟨hok, hdegraded, hstatus, hfence⟩ :=
      stopCore_effect (recordFault (endRotation (patchBroken (atTime s w) c) (c / 7)) c 2 none) c
    obtain ⟨hcanary, hrecorded⟩ := recordFault_class2 (endRotation (patchBroken (atTime s w) c) (c / 7)) c none
    refine ⟨_, exec_patchParityError_of_unfenced w hs hc hfenced hlost, ?_, hdegraded.trans hrecorded, ?_, hfence,
      by simp [patchBroken]⟩
    · rw [hok, coreGet_eq_of_cores (t := recordFault _ c 2 none) (s := patchBroken (atTime s w) c) (by simp)]
      simp [patchBroken]
    · rw [hstatus, hcanary]
      exact canaryCount_status _ (by omega) (by decide)
  · obtain ⟨hin, hok, hspare, hmode⟩ := coreReturned_effect (atTime s w) c
    refine ⟨_, exec_coreBistReloadDone_of_pass hs hc hfenced hpatch hlost hfault hparity, ?_⟩
    simp [hin, hok, hspare, hmode]
  · refine ⟨gateEgress (atTime s w), ?_, gateEgress_gatedAt hgate⟩
    change execLockstepMismatch w s = _
    simp [execLockstepMismatch, hs]
  · obtain ⟨hmode, hready, hsessions, hstatus⟩ := warmReset_effect (hardFault (atTime s w) 41)
    refine ⟨warmReset (hardFault (atTime s w) 41), ?_, hmode, hready, hsessions, ?_⟩
    · change execWatchdogTimeout w s = _
      simp [execWatchdogTimeout, hs, hdue]
    · rw [hstatus]
      exact canaryCount_status (atTime s w) (by decide) (by decide)

end Sys2Proof.Machine
end

section
/-! PROOFS. The spare of each cluster at a Secure Boot (R414, R488): the choice over the usable cores, the loop that makes it for every
cluster, and what the rest of the boot leaves of it. -/

namespace Sys2Proof.Machine

/-! ### The most aged core, the highest index among equals -/

/-- Core `c` comes before `d` in the choice of R488: more aged, or as much and of no lower index. -/
def MoreAged (age : Nat → Nat) (c d : Nat) : Prop := age d < age c ∨ (age d = age c ∧ d ≤ c)

theorem MoreAged.refl (age : Nat → Nat) (c : Nat) : MoreAged age c c := .inr ⟨rfl, Nat.le_refl c⟩

theorem MoreAged.trans {age : Nat → Nat} {a b c : Nat} (hab : MoreAged age a b) (hbc : MoreAged age b c) : MoreAged age a c := by
  unfold MoreAged at *
  omega

/-- One step of the choice: the core at hand replaces a choice that is not older. -/
def olderOf (age : Nat → Nat) (b : Option Nat) (c : Nat) : Option Nat :=
  match b with
  | none => some c
  | some d => if age d ≤ age c then some c else some d

/-- Over cores of rising index the choice ends with one that comes before every other. -/
theorem foldl_olderOf (age : Nat → Nat) {l : List Nat} {b : Nat} (hl : (b :: l).Pairwise (· < ·)) :
    ∃ c, l.foldl (olderOf age) (some b) = some c ∧ c ∈ b :: l ∧ ∀ d ∈ b :: l, MoreAged age c d := by
  induction l generalizing b with
  | nil => exact ⟨b, rfl, by simp, by simp [MoreAged.refl]⟩
  | cons a l ih =>
    obtain ⟨hb, hal⟩ := List.pairwise_cons.1 hl
    have hba : b < a := hb a (by simp)
    rw [List.foldl_cons, olderOf]
    split
    · next hage =>
      obtain ⟨c, hc, hmem, hall⟩ := ih hal
      refine ⟨c, hc, List.mem_cons_of_mem b hmem, List.forall_mem_cons.2 ⟨?_, hall⟩⟩
      exact (hall a (by simp)).trans (by unfold MoreAged; omega)
    · next hage =>
      have hbl : (b :: l).Pairwise (· < ·) :=
        List.pairwise_cons.2 ⟨fun d hd => hb d (List.mem_cons_of_mem a hd), (List.pairwise_cons.1 hal).2⟩
      obtain ⟨c, hc, hmem, hall⟩ := ih hbl
      obtain ⟨hcb, hcl⟩ := List.forall_mem_cons.1 hall
      refine ⟨c, hc, by grind, List.forall_mem_cons.2 ⟨hcb, List.forall_mem_cons.2 ⟨hcb.trans ?_, hcl⟩⟩⟩
      exact .inl (by omega)

/-! ### The usable cores of a cluster -/

theorem mem_usableCores {s : State} {k c : Nat} : c ∈ usableCores s k ↔ c / 7 = k ∧ coreUsable s c = true := by
  have hcores : c ∈ clCores k ↔ c / 7 = k := by
    simp only [clCores, List.mem_map, List.mem_range]
    constructor
    · rintro ⟨i, hi, rfl⟩
      omega
    · rintro rfl
      exact ⟨c % 7, by omega, by omega⟩
  rw [usableCores, List.mem_filter, hcores]

theorem usableCores_rising (s : State) (k : Nat) : (usableCores s k).Pairwise (· < ·) := by
  refine List.Pairwise.filter _ (List.Pairwise.map _ (fun a b h => ?_) List.pairwise_lt_range)
  exact Nat.add_lt_add_left h _

theorem unfenced_of_coreUsable {s : State} {c : Nat} (h : coreUsable s c = true) :
    (coreGet s c).fenced = false ∧ (coreGet s c).lost = false := by
  simp only [coreUsable, Bool.and_eq_true, Bool.not_eq_true'] at h
  exact h.1

theorem bootSpare_eq (s : State) (k : Nat) : bootSpare s k =
    if (usableCores s k).length ≤ 1 then none else (usableCores s k).foldl (olderOf (tget 0 s.foreman.agingFlash)) none := rfl

/-- With two usable cores or more the spare is the one of them that comes before every other (R488). -/
theorem bootSpare_of_two {s : State} {k : Nat} (h : ¬ (usableCores s k).length ≤ 1) :
    ∃ c, bootSpare s k = some c ∧ c ∈ usableCores s k ∧
      ∀ d ∈ usableCores s k, MoreAged (tget 0 s.foreman.agingFlash) c d := by
  have hrising := usableCores_rising s k
  rw [bootSpare_eq, if_neg h]
  generalize usableCores s k = l at h hrising
  cases l with
  | nil => exact absurd (Nat.zero_le 1) h
  | cons b l => exact foldl_olderOf _ hrising

theorem bootSpare_eq_none {s : State} {k : Nat} : bootSpare s k = none ↔ (usableCores s k).length ≤ 1 := by
  by_cases h : (usableCores s k).length ≤ 1
  · exact iff_of_true (if_pos h) h
  · obtain ⟨c, hc, -⟩ := bootSpare_of_two h
    exact iff_of_false (by simp [hc]) h

theorem bootSpare_eq_some {s : State} {k c : Nat} (h : bootSpare s k = some c) :
    c ∈ usableCores s k ∧ ∀ d ∈ usableCores s k, MoreAged (tget 0 s.foreman.agingFlash) c d := by
  have htwo : ¬ (usableCores s k).length ≤ 1 := fun hle => by simp [bootSpare_eq_none.2 hle] at h
  obtain ⟨d, hd, hmem, hall⟩ := bootSpare_of_two htwo
  obtain rfl : d = c := Option.some.inj (hd.symm.trans h)
  exact ⟨hmem, hall⟩

/-! ### What the choice depends on -/

/-- The choice of the spares reads the cores, the fences of the clusters and the ages in flash. -/
structure SameWear (s t : State) : Prop where
  cores : t.cores = s.cores
  fenced : ∀ k, (clGet t k).fenced = (clGet s k).fenced
  aging : t.foreman.agingFlash = s.foreman.agingFlash

theorem SameWear.coreUsable {s t : State} (h : SameWear s t) (c : Nat) : coreUsable t c = coreUsable s c := by
  rw [Machine.coreUsable, Machine.coreUsable, coreGet_eq_of_cores h.cores, h.fenced]

theorem SameWear.usableCores {s t : State} (h : SameWear s t) (k : Nat) : usableCores t k = usableCores s k := by
  rw [Machine.usableCores, Machine.usableCores, funext h.coreUsable]

theorem SameWear.bootSpare {s t : State} (h : SameWear s t) (k : Nat) : bootSpare t k = bootSpare s k := by
  rw [bootSpare_eq, bootSpare_eq, h.usableCores, h.aging]

/-- The cluster's spare is the core that R488 chooses. -/
def SpareChosen (s : State) (k : Nat) : Prop := (clGet s k).spare = bootSpare s k

/-- Name the spare of one cluster. -/
def nameSpare (s : State) (k : Nat) : State := clSet s k { clGet s k with spare := bootSpare s k }

theorem nameSpare_sameWear (s : State) (j : Nat) : SameWear s (nameSpare s j) where
  cores := rfl
  fenced k := by
    by_cases hk : k = j
    · subst hk
      simp [nameSpare]
    · rw [nameSpare, clGet_clSet_ne _ _ _ _ hk]
  aging := rfl

/-- Naming a cluster's spare makes its choice, and leaves the choice of every other. -/
theorem spareChosen_nameSpare {s : State} {j k : Nat} (h : k = j ∨ SpareChosen s k) : SpareChosen (nameSpare s j) k := by
  rw [SpareChosen, (nameSpare_sameWear s j).bootSpare]
  by_cases hk : k = j
  · subst hk
    simp [nameSpare]
  · rw [nameSpare, clGet_clSet_ne _ _ _ _ hk]
    exact h.resolve_left hk

theorem spareChosen_foldl {l : List Nat} {s : State} {k : Nat} (h : k ∈ l ∨ SpareChosen s k) :
    SpareChosen (l.foldl nameSpare s) k := by
  induction l generalizing s with
  | nil => exact h.resolve_left (by simp)
  | cons j l ih =>
    refine ih ?_
    by_cases hk : k ∈ l
    · exact .inl hk
    · exact .inr (spareChosen_nameSpare (h.imp_left fun hmem => (List.mem_cons.1 hmem).resolve_right hk))

/-! ### The boot after the choice (R414) -/

/-- The state of a boot with firmware in which the spares are chosen: security, platform, HBM and patches are done. -/
def bootPatched (s : State) (i : BootInput) (slot : Nat) : State :=
  let s1 := bootPlatform { s with sec := { s.sec with secError := false, errorAlgs := 0,
                                                      identityOk := i.identityOk && s.sec.otp.identityWrapped.isSome } } i slot
  let s2 := trainHbm (repairRows (bootBist (copyAon s1) i.bistFail)) i
  loadPatch s2 (if slot = 0 then s2.foreman.slotA else s2.foreman.slotB).facts.version i.patchFail

/-- What a boot does once the spares are named: DEGRADED, the services, and the end of the boot unless a stack is hot (R281). -/
def bootPublish (s : State) : State :=
  let s1 := setServices { s with degraded := capacityLost s }
  if stackHot s1 then { s1 with hbm := { s1.hbm with hotWait := true } } else finishBoot s1

theorem bootFirmware_eq (s : State) (i : BootInput) (slot : Nat) :
    bootFirmware s i slot = bootPublish ((List.range 4).foldl nameSpare (bootPatched s i slot)) := rfl

theorem exec_secureBoot_of_slot {s s1 : State} {i : BootInput} {slot : Nat} (hmode : s.mode = .secureBoot)
    (hpower : s.power.supplies = true) (hwait : s.hbm.hotWait = false) (hslot : chooseSlot (atTime s i.t) i = (some slot, s1)) :
    exec (.secureBoot i) s = .next (bootFirmware s1 i slot) := by
  change execSecureBoot i s = _
  simp [execSecureBoot, hmode, hpower, hwait, hslot]

@[simp] theorem larderPublish_rest (s : State) (reduced signed : Bool) :
    (larderPublish s reduced signed).clusters = s.clusters ∧ (larderPublish s reduced signed).foreman = s.foreman ∧
      (larderPublish s reduced signed).larder.dyn = if reduced then [] else larderView s :=
  ⟨rfl, rfl, rfl⟩

/-- The end of a boot publishes the Larder of the state that it finds. -/
theorem finishBoot_rest (s : State) :
    (finishBoot s).clusters = s.clusters ∧ (finishBoot s).foreman.agingFlash = s.foreman.agingFlash ∧
      (finishBoot s).larder.dyn = larderView { s with hbm := { s.hbm with hotWait := false } } := by
  unfold finishBoot
  dsimp only
  split <;> simp

theorem bootPublish_rest (s : State) :
    (bootPublish s).cores = s.cores ∧ (bootPublish s).clusters = s.clusters ∧
      (bootPublish s).foreman.agingFlash = s.foreman.agingFlash := by
  unfold bootPublish
  dsimp only
  split
  · exact ⟨rfl, rfl, rfl⟩
  · obtain ⟨hclusters, haging, -⟩ := finishBoot_rest (setServices { s with degraded := capacityLost s })
    exact ⟨by simp, hclusters, haging⟩

/-- A boot that does not wait for a hot stack has published the Larder, with the clusters as it leaves them. -/
theorem bootPublish_larder {s : State} (h : (bootPublish s).hbm.hotWait = false) :
    ∃ t, t.clusters = s.clusters ∧ (bootPublish s).larder.dyn = larderView t := by
  unfold bootPublish at h ⊢
  dsimp only at h ⊢
  split
  · next hhot =>
    rw [if_pos hhot] at h
    cases h
  · obtain ⟨-, -, hdyn⟩ := finishBoot_rest (setServices { s with degraded := capacityLost s })
    refine ⟨_, ?_, hdyn⟩
    rfl

/-- SPARE_CORE of a cluster in the Larder (Table 10.3). -/
def spareField (spare : Option Nat) : Int :=
  match spare with
  | some c => (c : Int)
  | none => 0xFF

theorem spareField_larderView (s : State) {k : Nat} (hk : k < 4) :
    (tget [] (larderView s) (0x20000 + k)).getD 1 0 = spareField (clGet s k).spare :=
  match k, hk with
  | 0, _ => rfl
  | 1, _ => rfl
  | 2, _ => rfl
  | 3, _ => rfl

/-- Settles O2: the loop over the clusters names for each the core that R488 chooses, and the rest of the boot leaves the choice,
the cores and the ages, and publishes what it finds. -/
theorem spareIsTheMostAgedCore : Obligations.SpareIsTheMostAgedCore := by
  intro s t s1 i slot k hmode hpower hwait hslot hexec hk
  rw [exec_secureBoot_of_slot hmode hpower hwait hslot, bootFirmware_eq] at hexec
  obtain rfl := Host.Outcome.next.inj hexec
  have hchosen : SpareChosen ((List.range 4).foldl nameSpare (bootPatched s1 i slot)) k :=
    spareChosen_foldl (.inl (List.mem_range.2 hk))
  generalize (List.range 4).foldl nameSpare (bootPatched s1 i slot) = s4 at hchosen ⊢
  obtain ⟨hcores, hclusters, haging⟩ := bootPublish_rest s4
  have hwear : SameWear s4 (bootPublish s4) := ⟨hcores, fun j => by rw [clGet_eq_of_clusters hclusters], haging⟩
  have hspare : (clGet (bootPublish s4) k).spare = bootSpare (bootPublish s4) k := by
    rw [clGet_eq_of_clusters hclusters, hwear.bootSpare]
    exact hchosen
  refine ⟨fun c hc => ?_, ?_, fun hcool => ?_⟩
  · obtain ⟨hmem, hall⟩ := bootSpare_eq_some (hspare.symm.trans hc)
    obtain ⟨hcluster, husable⟩ := mem_usableCores.1 hmem
    obtain ⟨hfenced, hlost⟩ := unfenced_of_coreUsable husable
    exact ⟨hcluster, hfenced, hlost, fun d hd hdusable => hall d (mem_usableCores.2 ⟨hd, hdusable⟩)⟩
  · rw [hspare, bootSpare_eq_none]
  · obtain ⟨v, hv, hdyn⟩ := bootPublish_larder hcool
    rw [hdyn, spareField_larderView v hk, clGet_eq_of_clusters hv, clGet_eq_of_clusters hclusters]
    rfl

end Sys2Proof.Machine
end

section
/-! PROOFS. Session commands (R38, R214, R230, R238, R252 to R255): what a command that names a session starts from, what it means that
a command writes one session and no other, and then one lemma per command and state. -/

namespace Sys2Proof.Machine

/-! ### A command that names a session -/

@[simp] theorem markStarted_fns (s : State) (r : CmdRef) : (markStarted s r).fns = s.fns := by
  unfold markStarted editFlight
  split <;> simp

@[simp] theorem targetOf_markStarted (s : State) (r : CmdRef) (fn : Nat) (e : Bytes) :
    targetOf (markStarted s r) fn e = targetOf s fn e := by
  rw [targetOf, targetOf, sessById_eq_of_sessions (t := markStarted s r) (s := s) (by simp)]

@[simp] theorem readData_markStarted (s : State) (r : CmdRef) (fn : Nat) (e d : Bytes) :
    readData (markStarted s r) fn e d = readData s fn e d := by
  simp [readData, grantAddr, fnGet]

@[simp] theorem mapRule_markStarted (s : State) (r : CmdRef) (fn : Nat) (decode : Bool) (c e : Bytes) :
    mapRule (markStarted s r) fn decode c e = mapRule s fn decode c e := by
  have hgrant : grantBytes (markStarted s r) fn = grantBytes s fn := by simp [grantBytes, fnGet]
  simp only [mapRule, hgrant]

/-- A command that names a live session and that its check lets pass has its effect on that session. -/
theorem serve_session {s : State} {r : CmdRef} {op : Nat} {i : InFlight} {x : Session}
    {chk : State → Session → Bytes → Option Reply} (k : State → Session → Bytes → State) (h : Starts s r op i)
    (hx : targetOf s r.fn i.entry = some x) (hchk : chk (markStarted s r) x i.entry = none) :
    serve s r op (chkSession r.fn chk) (onSession r.fn k) = .next (k (markStarted s r) x i.entry) := by
  rw [h.serve (onSession r.fn k) (by simp only [chkSession, targetOf_markStarted, hx, hchk])]
  simp only [onSession, targetOf_markStarted, hx]

@[simp] theorem bumpEpoch_epochCtr (s : State) : (bumpEpoch s).epochCtr = s.epochCtr + 1 := rfl

/-! ### Writing one session -/

/-- From `s` to `t` one session became `y`, and every other is as before. -/
structure WritesOne (s t : State) (y : Session) : Prop where
  found : sessById t y.id = some y
  others : ∀ k, k ≠ y.id % 256 → tfind t.sessions k = tfind s.sessions k

theorem writesOne_sessPut (s : State) (y : Session) : WritesOne s (sessPut s y) y where
  found := sessById_sessPut s y
  others _ hk := tfind_tset_ne _ _ _ _ hk

/-- Operations that leave the sessions may stand before and after the write. -/
theorem WritesOne.congr {s s' t t' : State} {y : Session} (h : WritesOne s t y) (hs : s'.sessions = s.sessions)
    (ht : t'.sessions = t.sessions) : WritesOne s' t' y where
  found := (sessById_eq_of_sessions ht y.id).trans h.found
  others k hk := by rw [ht, hs, h.others k hk]

theorem writesOne_of_sessions {s t : State} {y : Session} (h : t.sessions = (sessPut s y).sessions) : WritesOne s t y :=
  (writesOne_sessPut s y).congr rfl h

theorem tfind_of_sessById {s : State} {id : Nat} {x : Session} (h : sessById s id = some x) : tfind s.sessions (id % 256) = some x := by
  unfold sessById at h
  split at h
  · next y hy =>
    split at h <;> cases h
    exact hy
  · cases h

/-- The session that was written stands in its slot. -/
theorem WritesOne.slot {s t : State} {y : Session} {slot : Nat} (h : WritesOne s t y) (hid : y.id % 256 = slot) :
    tfind t.sessions slot = some y ∧ ∀ k, k ≠ slot → tfind t.sessions k = tfind s.sessions k := by
  subst hid
  exact ⟨tfind_of_sessById h.found, h.others⟩

/-- Two writes of the same session are one. -/
theorem WritesOne.trans {s t u : State} {y z : Session} (hy : WritesOne s t y) (hz : WritesOne t u z) (hid : z.id = y.id) :
    WritesOne s u z where
  found := hz.found
  others k hk := (hz.others k hk).trans (hy.others k (hid ▸ hk))

/-! ### Placing a session over the fabric changes its place alone (R383, R391) -/

/-- As `WritesOne`, up to the session's place in the fabric. -/
def WritesPlaced (s t : State) (y : Session) : Prop := ∃ d, WritesOne s t { y with dist := d }

theorem WritesOne.placed {s t : State} {y : Session} (h : WritesOne s t y) : WritesPlaced s t y := ⟨y.dist, h⟩

theorem WritesPlaced.congr {s t u : State} {y : Session} (h : WritesPlaced s t y) (hu : u.sessions = t.sessions) :
    WritesPlaced s u y :=
  h.imp fun _ hd => hd.congr rfl hu

theorem WritesPlaced.beginEpoch {s t : State} {y : Session} (h : WritesPlaced s t y) (changes : List (Nat × Nat)) :
    WritesPlaced s (beginEpoch t changes) y :=
  h.congr (by simp)

theorem sendAssign_sessions (s : State) (m session role region from_ : Nat) (c : Bytes) :
    (sendAssign s m session role region from_ c).sessions = s.sessions := by
  simp

theorem WritesPlaced.editSession {s t : State} {y : Session} (h : WritesPlaced s t y) {f : Session → Session}
    (hf : ∀ z, ∃ d, f z = { z with dist := d }) : WritesPlaced s (editSession t y.id f) y := by
  obtain ⟨d, hd⟩ := h
  obtain ⟨d', hd'⟩ := hf { y with dist := d }
  have hfound : sessById t y.id = some { y with dist := d } := hd.found
  simp only [Machine.editSession, hfound, hd']
  exact ⟨d', hd.trans (writesOne_sessPut t _) rfl⟩

theorem WritesPlaced.giveRole {s t : State} {y : Session} (h : WritesPlaced s t y) (m region role from_ : Nat) :
    WritesPlaced s (giveRole t y.id m region role from_) y := by
  unfold Machine.giveRole
  split
  · exact h
  · next z hz =>
    have hrole : WritesPlaced s (addRole t m z.dist.fabricSession region role) y := h.congr (by simp)
    dsimp only
    split
    · exact hrole.editSession fun z => ⟨_, rfl⟩
    · exact (hrole.editSession fun z => ⟨_, rfl⟩).congr (sendAssign_sessions _ _ _ _ _ _ _)

theorem WritesPlaced.giveRoles {s t : State} {y : Session} (h : WritesPlaced s t y) (from_ : Nat) (l : List (Nat × Nat × Nat)) :
    WritesPlaced s (l.foldl (fun s p => Machine.giveRole s y.id p.1 p.2.1 p.2.2 from_) t) y := by
  induction l generalizing t with
  | nil => exact h
  | cons p l ih => exact ih (h.giveRole p.1 p.2.1 p.2.2 from_)

theorem WritesPlaced.restartFabric {s t : State} {x y : Session} (h : WritesPlaced s t y) (hid : x.id = y.id) :
    WritesPlaced s (restartFabric t x) y := by
  unfold Machine.restartFabric
  rw [hid]
  (repeat' split)
  · exact ((h.editSession fun z => ⟨_, rfl⟩).giveRoles x.enc.nextFrame _).beginEpoch _
  · exact h
  · exact h

theorem WritesPlaced.placeFabric {s t : State} {y : Session} (h : WritesPlaced s t y) (l : List (Nat × Nat × Nat)) :
    WritesPlaced s (placeFabric t y.id l) y := by
  have hnumber : WritesPlaced s { t with fabric := { t.fabric with nextSession := t.fabric.nextSession + 1 } } y := h.congr rfl
  exact ((hnumber.editSession fun z => ⟨_, rfl⟩).giveRoles 0 l).beginEpoch _

/-! ### START_SESSION (R252, R254) -/

/-- A session that starts. -/
def sessionStarted (x : Session) : Session := { x with state := .running, enc := startEnc x.enc }

theorem exec_startSession_of_idle {s : State} {r : CmdRef} {i : InFlight} {x : Session} (hx : targetOf s r.fn i.entry = some x)
    (h : Starts s r 0x21 i) (hstate : x.state = .created ∨ x.state = .stopped) (hsec : securityStops (markStarted s r) x = false) :
    ∃ t, exec (.startSession r) s = .next t ∧ WritesPlaced s t (sessionStarted x) := by
  change ∃ t, execStartSession r s = .next t ∧ _
  have hwrite : WritesPlaced s (sessPut (markStarted s r) (sessionStarted x)) (sessionStarted x) :=
    ((writesOne_sessPut (markStarted s r) (sessionStarted x)).congr (by simp) rfl).placed
  unfold execStartSession
  rw [serve_session _ h hx (by obtain hs | hs := hstate <;> simp [hs, hsec])]
  obtain hs | hs := hstate <;> simp only [hs]
  · exact ⟨_, rfl, hwrite.congr (by simp [sessionStarted])⟩
  · exact ⟨_, rfl, (hwrite.restartFabric (x := x) rfl).congr (by simp [sessionStarted])⟩

theorem exec_startSession_of_live {s : State} {r : CmdRef} {i : InFlight} {x : Session} (hx : targetOf s r.fn i.entry = some x)
    (h : Starts s r 0x21 i) (hstate : x.state = .running ∨ x.state = .resync) (hsec : securityStops (markStarted s r) x = false) :
    exec (.startSession r) s = .next (succeed (markStarted s r) r 0) := by
  change execStartSession r s = _
  unfold execStartSession
  rw [serve_session _ h hx (by obtain hs | hs := hstate <;> simp [hs, hsec])]
  obtain hs | hs := hstate <;> simp only [hs]

/-! ### RECONFIGURE_SESSION (R255) -/

/-- A change that no check refuses fits the capacity. -/
theorem admitted_of_chkReconfigure {r : CmdRef} {d : Bytes} {s : State} {x : Session} {e : Bytes}
    (h : chkReconfigure r d s x e = none) : ∃ l, admitFor (sessPut s (unreserved x))
      (maskOf x.decode (readData s r.fn e d)) (demandFor x (readData s r.fn e d)) = some l := by
  unfold chkReconfigure at h
  dsimp only at h
  split at h
  · cases h
  · simp only [orElse_none] at h
    obtain ⟨-, -, -, hlimits⟩ := h
    split at hlimits
    · cases hlimits
    · split at hlimits
      · cases hlimits
      · next hfits => exact Option.ne_none_iff_exists'.1 (by simpa using hfits)

/-- A session that takes a reservation. -/
def withReservation (x : Session) (d : Demand) (l : List ClusterUse) : Session :=
  { x with uses := l, serving := l.map (·.cluster), rsBytes := d.rs, poolBytes := d.pool, dmaIn := d.dmaIn, dmaOut := d.dmaOut }

theorem sessions_reserve (s : State) (x : Session) (d : Demand) (l : List ClusterUse) :
    (reserve s x d l).sessions = (sessPut s (withReservation x d l)).sessions := by
  simp [reserve, sessPut, withReservation]

/-- A session with a change pending for a frame. -/
def withChange (x : Session) (f : Nat) (c : Bytes) : Session := { x with pendingCfg := otherChanges x f ++ [(f, c)] }

theorem exec_reconfigureSession_of_accepted {s : State} {r : CmdRef} {i : InFlight} {x : Session} {d : Bytes}
    (hx : targetOf s r.fn i.entry = some x) (h : Starts s r 0x22 i) (hchk : chkReconfigure r d (markStarted s r) x i.entry = none) :
    ∃ t y, exec (.reconfigureSession r d) s = .next t ∧ WritesOne s t y ∧ y.id = x.id ∧ y.state = x.state ∧ y.cfg = x.cfg ∧
      y.pendingCfg = otherChanges x (u64 i.entry 24) ++ [(u64 i.entry 24, readData s r.fn i.entry d)] ∧
      t.epochCtr = s.epochCtr + 1 := by
  obtain ⟨l, hl⟩ := admitted_of_chkReconfigure hchk
  simp only [readData_markStarted] at hl
  change ∃ t y, execReconfigureSession r d s = .next t ∧ _
  unfold execReconfigureSession
  rw [serve_session _ h hx hchk]
  simp only [acceptChange, readData_markStarted, hl]
  have hreserve := sessions_reserve (markStarted s r) (withChange x (u64 i.entry 24) (readData s r.fn i.entry d))
    (demandFor x (readData s r.fn i.entry d)) l
  exact ⟨_, _, rfl, (writesOne_of_sessions hreserve).congr (by simp) (by simp [withChange]), rfl, rfl, rfl, rfl, by simp⟩

/-! ### STOP_SESSION (R253, R262) -/

/-- A session that a STOP_SESSION waits for. -/
def withStopCid (x : Session) (r : CmdRef) : Session := { x with stopCids := x.stopCids ++ [(r.qid, r.cid)] }

/-- A session of which only started work is left. -/
def withoutUndispatched (x : Session) : Session :=
  { x with enc := { x.enc with submitted := x.enc.submitted.filter (fun p => !(undispatched x).contains p) },
           dec := { x.dec with pendingIn := [] } }

/-- What a stop leaves of the session of an ID: STOPPED, with no change pending and no STOP_SESSION waiting. -/
structure StoppedAs (id : Nat) (y : Session) : Prop where
  sameId : y.id = id
  state : y.state = .stopped
  pendingCfg : y.pendingCfg = []
  stopCids : y.stopCids = []

theorem writesOne_reachStopped (s : State) (x : Session) : ∃ y, WritesOne s (reachStopped s x) y ∧ StoppedAs x.id y := by
  refine ⟨_, (writesOne_sessPut _ _).congr ?_ (foldl_sessions _ (fun s c => by simp) _ _), rfl, rfl, rfl, rfl⟩
  simp

theorem writesOne_dropUndispatched (s : State) (x : Session) : WritesOne s (dropUndispatched s x) (withoutUndispatched x) := by
  refine writesOne_of_sessions ?_
  simp [dropUndispatched, sessPut, withoutUndispatched]

theorem settleStop_of_found {s : State} {x : Session} (hx : sessById s x.id = some x) (hstate : x.state = .stopping) :
    settleStop s x.id = if drained x then reachStopped s x else s := by
  simp [settleStop, hx, hstate]

/-- The session of a stop with WHEN 0x0 before its started work is out. -/
def stoppingSession (x : Session) : Session := withoutUndispatched { x with state := .stopping }

theorem stopAfter_eq (s : State) (x : Session) : stopAfter s x =
    if drained x then reachStopped (dropUndispatched s { x with state := .stopping }) (stoppingSession x)
    else dropUndispatched s { x with state := .stopping } :=
  settleStop_of_found (x := stoppingSession x) (writesOne_dropUndispatched s _).found rfl

theorem writesOne_stopAfter_of_drained {s : State} {x : Session} (h : drained x = true) :
    ∃ y, WritesOne s (stopAfter s x) y ∧ StoppedAs x.id y := by
  obtain ⟨y, hy, hstopped⟩ := writesOne_reachStopped (dropUndispatched s { x with state := .stopping }) (stoppingSession x)
  rw [stopAfter_eq, if_pos h]
  exact ⟨y, (writesOne_dropUndispatched s _).trans hy hstopped.sameId, hstopped⟩

theorem writesOne_stopAfter_of_undrained {s : State} {x : Session} (h : drained x = false) :
    WritesOne s (stopAfter s x) (stoppingSession x) := by
  rw [stopAfter_eq, if_neg (by simp [h])]
  exact writesOne_dropUndispatched s _

theorem exec_stopSession {s : State} {r : CmdRef} {i : InFlight} {x : Session} (hx : targetOf s r.fn i.entry = some x)
    (h : Starts s r 0x23 i) (hwhen : u8 i.entry 24 ≤ 1) :
    exec (.stopSession r) s = .next (stopSession (markStarted s r) r x i.entry) := by
  change execStopSession r s = _
  unfold execStopSession
  rw [serve_session _ h hx (by simp [hwhen])]

/-- The stop of a live session: at once in RESYNC and with WHEN 0x1, otherwise after its started work. -/
theorem stopSession_of_live {x : Session} (s : State) (r : CmdRef) (e : Bytes) (hstate : x.state = .resync ∨ x.state = .running) :
    stopSession s r x e = withdrawFabric (bumpEpoch
      (if x.state = .resync ∨ u8 e 24 = 1 then reachStopped s (withStopCid x r) else stopAfter s (withStopCid x r))) x := by
  unfold stopSession
  obtain hs | hs := hstate <;> simp only [hs]
  · rfl
  · simp only [reduceCtorEq, false_or]
    rfl

/-- A live session that has nothing started left, or that stops at once, is STOPPED. -/
theorem exec_stopSession_of_ended {s : State} {r : CmdRef} {i : InFlight} {x : Session} (hx : targetOf s r.fn i.entry = some x)
    (h : Starts s r 0x23 i) (hwhen : u8 i.entry 24 ≤ 1)
    (hstate : x.state = .resync ∨ (x.state = .running ∧ (u8 i.entry 24 = 1 ∨ drained x = true))) :
    ∃ t y, exec (.stopSession r) s = .next t ∧ WritesOne s t y ∧ StoppedAs x.id y ∧ t.epochCtr = s.epochCtr + 1 := by
  rw [exec_stopSession hx h hwhen, stopSession_of_live _ _ _ (hstate.imp_right And.left)]
  by_cases hnow : x.state = .resync ∨ u8 i.entry 24 = 1
  · obtain ⟨y, hy, hstopped⟩ := writesOne_reachStopped (markStarted s r) (withStopCid x r)
    rw [if_pos hnow]
    exact ⟨_, y, rfl, hy.congr (by simp) (by simp), hstopped, by simp⟩
  · have hdrained : drained (withStopCid x r) = true := by
      obtain hs | ⟨-, hw | hd⟩ := hstate
      · exact absurd (.inl hs) hnow
      · exact absurd (.inr hw) hnow
      · exact hd
    obtain ⟨y, hy, hstopped⟩ := writesOne_stopAfter_of_drained (s := markStarted s r) hdrained
    rw [if_neg hnow]
    exact ⟨_, y, rfl, hy.congr (by simp) (by simp), hstopped, by simp⟩

/-- A running session with started work left is STOPPING under WHEN 0x0. -/
theorem exec_stopSession_of_working {s : State} {r : CmdRef} {i : InFlight} {x : Session} (hx : targetOf s r.fn i.entry = some x)
    (h : Starts s r 0x23 i) (hwhen : u8 i.entry 24 = 0) (hstate : x.state = .running) (hleft : drained x = false) :
    ∃ t, exec (.stopSession r) s = .next t ∧ WritesOne s t (stoppingSession (withStopCid x r)) ∧ t.epochCtr = s.epochCtr + 1 := by
  rw [exec_stopSession hx h (by omega), stopSession_of_live _ _ _ (.inr hstate), if_neg (by simp [hstate, hwhen])]
  have hstop := writesOne_stopAfter_of_undrained (s := markStarted s r) (x := withStopCid x r) hleft
  exact ⟨_, rfl, hstop.congr (by simp) (by simp), by simp⟩

/-! ### DESTROY_SESSION (R252) -/

theorem exec_destroySession_of_idle {s : State} {r : CmdRef} {i : InFlight} {x : Session} (hx : targetOf s r.fn i.entry = some x)
    (h : Starts s r 0x24 i) (hstate : x.state = .created ∨ x.state = .stopped) :
    ∃ t, exec (.destroySession r) s = .next t ∧ t.sessions = tdel s.sessions (x.id % 256) ∧ t.epochCtr = s.epochCtr + 1 ∧
      t.mode = s.mode := by
  have hdestroy (t : State) : (destroySession t x).sessions = tdel t.sessions (x.id % 256) := rfl
  change ∃ t, execDestroySession r s = .next t ∧ _
  unfold execDestroySession
  rw [serve_session _ h hx (by obtain hs | hs := hstate <;> simp [destroyable, hs])]
  exact ⟨_, rfl, by simp [hdestroy], by simp, by simp⟩

/-! ### CREATE_SESSION (R214, R230, R238, R252) -/

theorem ite_some_eq_none {α : Type} {p : Prop} [Decidable p] {a : α} {o : Option α} :
    (if p then some a else o) = none ↔ ¬ p ∧ o = none := by
  split <;> simp [*]

/-- A configuration that no limit refuses has a slot and its capacity. -/
theorem room_of_createLimits {s : State} {fn : Nat} {decode : Bool} {c : Bytes} (h : createLimits s fn decode c = none) :
    ∃ slot l, freeSlot s = some slot ∧ admitHere s decode c = some l := by
  simp only [createLimits, ite_some_eq_none] at h
  obtain ⟨-, -, -, h⟩ := h
  split at h
  · cases h
  · simp only [ite_some_eq_none, Bool.or_eq_true, not_or, Option.isNone_iff_eq_none] at h
    obtain ⟨⟨⟨⟨-, hslot⟩, -⟩, hadmit⟩, -⟩ := h
    obtain ⟨slot, hslot⟩ := Option.ne_none_iff_exists'.1 hslot
    obtain ⟨l, hl⟩ := Option.ne_none_iff_exists'.1 hadmit
    exact ⟨slot, l, hslot, hl⟩

theorem room_of_chkCreate {r : CmdRef} {d : Bytes} {s : State} {e : Bytes} (h : chkCreate r d s e = none) :
    ∃ slot l, freeSlot s = some slot ∧ admitHere s (u8 e 24 == 1) (readData s r.fn e d) = some l := by
  unfold chkCreate at h
  simp only [orElse_none] at h
  obtain ⟨-, -, -, hlimits⟩ := h
  exact room_of_createLimits hlimits

theorem free_of_freeSlot {s : State} {slot : Nat} (h : freeSlot s = some slot) : slot < 256 ∧ tfind s.sessions slot = none := by
  have hmem := List.mem_of_mem_head? h
  simpa using hmem

/-- The slot of a new ID is the one that it was made for. -/
theorem newId_slot (s : State) {slot : Nat} (h : slot < 256) : newId s slot % 256 = slot := by
  unfold newId
  omega

/-- The session that CREATE_SESSION makes, before it has its capacity. -/
def newSession (s : State) (fn id : Nat) (e c : Bytes) : Session :=
  { Session.make id fn (u8 e 24 == 1) c ⟨u64 e 28, u16 e 26, u16 e 36, 0⟩ ⟨u64 e 40, u16 e 38, u16 e 48, 0⟩ (u64 e 56) with
    keyMatter := keyOf s (u8 e 24 == 1) c }

/-- The new session stands in its slot, placed over the fabric where the device is a manager. -/
theorem createSession_effect {s : State} {r : CmdRef} {e c : Bytes} {slot : Nat} {l : List ClusterUse}
    (hslot : freeSlot s = some slot) (hl : admitHere s (u8 e 24 == 1) c = some l) :
    WritesPlaced s (createSession s r e c)
        (withReservation (newSession s r.fn (newId s slot) e c) (demandHere s (u8 e 24 == 1) c) l) ∧
      (createSession s r e c).epochCtr = s.epochCtr + 1 ∧ (createSession s r e c).hbm.mem = s.hbm.mem := by
  have hreserve : WritesPlaced s (bindFlows (reserve { s with slotGen := tset s.slotGen slot (tget 0 s.slotGen slot + 1) }
      (newSession s r.fn (newId s slot) e c) (demandHere s (u8 e 24 == 1) c) l) (u8 e 24 == 1) c (newId s slot))
      (withReservation (newSession s r.fn (newId s slot) e c) (demandHere s (u8 e 24 == 1) c) l) :=
    ((writesOne_of_sessions (s := { s with slotGen := tset s.slotGen slot (tget 0 s.slotGen slot + 1) })
      (sessions_reserve _ _ _ l)).congr (s' := s) rfl (by simp)).placed
  simp only [createSession, hslot, hl]
  split
  · exact ⟨(hreserve.placeFabric ((planFor s c).getD [])).congr (by simp [newSession]; rfl), by simp, by simp⟩
  · exact ⟨hreserve.congr (by simp [newSession]), by simp, by simp⟩

/-! ### The commands that write one session and complete -/

theorem exec_querySession_of_room {s : State} {r : CmdRef} {i : InFlight} {x : Session} (hx : targetOf s r.fn i.entry = some x)
    (h : Starts s r 0x25 i) (hroom : x.cfg.length ≤ cmdDataLen i.entry) :
    exec (.querySession r) s = .next (succeed (writeData (markStarted s r) r.fn i.entry x.cfg) r (sessCode x.state)) := by
  change execQuerySession r s = _
  unfold execQuerySession
  rw [serve_session _ h hx (by simp [cfgInForce, hroom])]
  rfl

theorem exec_setSessionRings_of_accepted {s : State} {r : CmdRef} {i : InFlight} {x : Session} (hx : targetOf s r.fn i.entry = some x)
    (h : Starts s r 0x26 i) (hchk : fieldCheck (ringRules r.fn x.decode i.entry ++ [mapRule s r.fn x.decode x.cfg i.entry]) = none) :
    exec (.setSessionRings r) s = .next (succeed (sessPut (markStarted s r) { x with
      report := ⟨u64 i.entry 28, u16 i.entry 26, u16 i.entry 36, 0⟩,
      motion := ⟨u64 i.entry 40, u16 i.entry 38, u16 i.entry 48, 0⟩, mapBase := u64 i.entry 56 }) r 0) := by
  change execSetSessionRings r s = _
  unfold execSetSessionRings
  rw [serve_session _ h hx (by rw [mapRule_markStarted, hchk])]

theorem exec_forceRefresh_of_ahead {s : State} {r : CmdRef} {i : InFlight} {x : Session} (hx : targetOf s r.fn i.entry = some x)
    (h : Starts s r 0x27 i) (henc : x.decode = false) (hahead : isDispatched x (forcedFrame x.cfg (u64 i.entry 24)) = false) :
    exec (.forceRefresh r) s = .next (succeed (sessPut (markStarted s r) { x with
      enc := { x.enc with forced := forcedFrame x.cfg (u64 i.entry 24) :: x.enc.forced } }) r
      (forcedFrame x.cfg (u64 i.entry 24) % 2 ^ 32)) := by
  change execForceRefresh r s = _
  unfold execForceRefresh
  rw [serve_session _ h hx (by simp [henc, hahead])]

/-- Settles O30: every command writes at most the session that TARGET names, or the one that it creates (`WritesOne`), and its state
is read back by case. -/
theorem sessionStatesComplete : Obligations.SessionStatesComplete := by
  refine ⟨fun s r i x hx => ⟨?_, ?_, ?_, ?_, ?_, ?_, ?_, ?_, ?_, ?_, ?_, ?_⟩, ?_⟩
  · intro h hstate hsec
    obtain ⟨t, ht, d, hfound, hothers⟩ := exec_startSession_of_idle hx h hstate hsec
    exact ⟨t, _, ht, hfound, rfl, rfl, rfl, rfl, hothers⟩
  · exact exec_startSession_of_live hx
  · intro d h hchk
    obtain ⟨t, y, ht, ⟨hfound, hothers⟩, hid, hstate, hcfg, hpending, hepoch⟩ := exec_reconfigureSession_of_accepted hx h hchk
    exact ⟨t, y, ht, hid ▸ hfound, hstate, hcfg, hpending, hepoch, hid ▸ hothers⟩
  · intro h hwhen hstate
    rw [exec_stopSession hx h hwhen]
    simp only [stopSession, hstate]
  · intro h hwhen hstate
    rw [exec_stopSession hx h hwhen]
    simp only [stopSession, hstate]
  · intro h hwhen hstate
    obtain ⟨t, y, ht, ⟨hfound, hothers⟩, ⟨hid, hstopped, hpending, hcids⟩, hepoch⟩ := exec_stopSession_of_ended hx h hwhen hstate
    exact ⟨t, y, ht, hid ▸ hfound, hstopped, hpending, hcids, hepoch, hid ▸ hothers⟩
  · intro h hwhen hstate hleft
    obtain ⟨t, ht, ⟨hfound, hothers⟩, hepoch⟩ := exec_stopSession_of_working hx h hwhen hstate hleft
    exact ⟨t, _, ht, hfound, rfl, rfl, rfl, rfl, hepoch, hothers⟩
  · intro h hwhen hstate
    rw [exec_stopSession hx h (by omega)]
    simp [stopSession, hstate, hwhen]
  · exact exec_destroySession_of_idle hx
  · exact exec_querySession_of_room hx
  · exact exec_setSessionRings_of_accepted hx
  · exact exec_forceRefresh_of_ahead hx
  · intro s r i d h hchk
    obtain ⟨slot, l, hslot, hl⟩ := room_of_chkCreate hchk
    obtain ⟨hrange, hfree⟩ := free_of_freeSlot hslot
    obtain ⟨⟨p, hwrites⟩, hepoch, hmem⟩ := createSession_effect (r := r) hslot hl
    have hid : newId (markStarted s r) slot % 256 = slot := newId_slot _ hrange
    obtain ⟨hstands, hothers⟩ := hwrites.slot hid
    refine ⟨_, slot, _, h.serve (fun s e => createSession s r e (readData s r.fn e d)) hchk, hrange, ?_, hstands, hid, rfl, rfl, rfl,
      ?_, rfl, rfl, rfl, fun k hk => ?_, ?_, ?_, ?_⟩
    · simpa using hfree
    · exact readData_markStarted s r r.fn i.entry d
    · exact (hothers k hk).trans (by simp)
    · exact hepoch.trans (by simp)
    · simp
    · exact hmem.trans (by simp)

end Sys2Proof.Machine
end

section
/-! PROOFS. The packing FIFO (R103, R105, R106; log entry 64): closing full words moves bytes from the word being filled to the
closed words and changes nothing else, and HOLD is settled once, at the end of each write, flush and read. -/

namespace Sys2Proof.Machine

/-! ### The bytes of a FIFO, in order -/

/-- The bytes that a FIFO holds, oldest first: those of the closed words, then those of the word being filled. -/
def fifoBytes (f : PackFifo) : Bytes := f.words.flatMap (·.bytes) ++ f.filling

@[simp] theorem fifoHold_frame (f : PackFifo) :
    (fifoHold f).words = f.words ∧ (fifoHold f).filling = f.filling ∧ (fifoHold f).overflow = f.overflow ∧
      (fifoHold f).committed = f.committed := ⟨rfl, rfl, rfl, rfl⟩

@[simp] theorem fifoBytes_fifoHold (f : PackFifo) : fifoBytes (fifoHold f) = fifoBytes f := rfl

@[simp] theorem fifoOccupancy_fifoHold (f : PackFifo) : fifoOccupancy (fifoHold f) = fifoOccupancy f := rfl

/-- Bytes that a write brings stand after all the others. -/
theorem fifoBytes_append (f : PackFifo) (b : Bytes) : fifoBytes { f with filling := f.filling ++ b } = fifoBytes f ++ b :=
  (List.append_assoc _ _ _).symm

/-! ### Closing full words (R103) -/

@[simp] theorem fifoClose_frame (n : Nat) (tag : List Nat) (f : PackFifo) :
    (fifoClose n tag f).overflow = f.overflow ∧ (fifoClose n tag f).committed = f.committed ∧
      (fifoClose n tag f).hold = f.hold ∧ (fifoClose n tag f).high = f.high ∧ (fifoClose n tag f).low = f.low := by
  induction n generalizing f with
  | zero => simp [fifoClose]
  | succ n ih =>
    unfold fifoClose
    split
    · simp
    · simp [ih]

@[simp] theorem fifoBytes_fifoClose (n : Nat) (tag : List Nat) (f : PackFifo) : fifoBytes (fifoClose n tag f) = fifoBytes f := by
  induction n generalizing f with
  | zero => rfl
  | succ n ih =>
    unfold fifoClose
    split
    · rfl
    · rw [ih]
      simp [fifoBytes]

/-- After at most n closings the word being filled has room again. -/
theorem length_filling_fifoClose {n : Nat} {tag : List Nat} {f : PackFifo} (h : f.filling.length < 64 * (n + 1)) :
    (fifoClose n tag f).filling.length < 64 := by
  induction n generalizing f with
  | zero => exact h
  | succ n ih =>
    unfold fifoClose
    split
    · assumption
    · exact ih (by simp only [List.length_drop]; omega)

/-! ### One write (R103, R106) -/

theorem fifoWrite_of_full {f : PackFifo} {b : Bytes} (tag : List Nat)
    (h : f.capacity * 64 < f.words.length * 64 + f.filling.length + b.length) :
    fifoWrite tag b f = { f with overflow := f.overflow + 1 } := if_pos h

theorem fifoWrite_of_room {f : PackFifo} {b : Bytes} (tag : List Nat)
    (h : f.words.length * 64 + f.filling.length + b.length ≤ f.capacity * 64) :
    fifoWrite tag b f = fifoHold (fifoClose (b.length / 64 + 1) tag { f with filling := f.filling ++ b }) :=
  if_neg (by omega)

theorem fifoBytes_fifoWrite {f : PackFifo} {b : Bytes} (tag : List Nat)
    (h : f.words.length * 64 + f.filling.length + b.length ≤ f.capacity * 64) :
    fifoBytes (fifoWrite tag b f) = fifoBytes f ++ b := by
  rw [fifoWrite_of_room tag h, fifoBytes_fifoHold, fifoBytes_fifoClose, fifoBytes_append]

theorem length_filling_fifoWrite {f : PackFifo} {b : Bytes} (tag : List Nat)
    (h : f.words.length * 64 + f.filling.length + b.length ≤ f.capacity * 64) (hfilling : f.filling.length < 64) :
    (fifoWrite tag b f).filling.length < 64 := by
  rw [fifoWrite_of_room tag h]
  exact length_filling_fifoClose (by simp only [List.length_append]; omega)

/-! ### HOLD (R105) -/

/-- HOLD of `g`, reached from `f` by one write or read: set at HIGH, clear at LOW, as it was between them. -/
def HoldFollows (f g : PackFifo) : Prop :=
  (f.high ≤ fifoOccupancy g → g.hold = true) ∧ (fifoOccupancy g ≤ f.low → g.hold = false) ∧
    (f.low < fifoOccupancy g → fifoOccupancy g < f.high → g.hold = f.hold)

theorem hold_fifoHold_of_high {f : PackFifo} (h : f.high ≤ fifoOccupancy f) : (fifoHold f).hold = true := if_pos h

theorem hold_fifoHold_of_low {f : PackFifo} (hsizes : f.low < f.high) (h : fifoOccupancy f ≤ f.low) : (fifoHold f).hold = false :=
  (if_neg (by omega)).trans (if_pos h)

theorem hold_fifoHold_of_between {f : PackFifo} (hlow : f.low < fifoOccupancy f) (hhigh : fifoOccupancy f < f.high) :
    (fifoHold f).hold = f.hold :=
  (if_neg (by omega)).trans (if_neg (by omega))

theorem holdFollows_fifoHold {f g : PackFifo} (hsizes : f.low < f.high) (hhold : g.hold = f.hold) (hhigh : g.high = f.high)
    (hlow : g.low = f.low) : HoldFollows f (fifoHold g) := by
  unfold HoldFollows
  rw [fifoOccupancy_fifoHold, ← hhigh, ← hlow, ← hhold]
  exact ⟨hold_fifoHold_of_high, hold_fifoHold_of_low (by omega), hold_fifoHold_of_between⟩

theorem holdFollows_fifoWrite {f : PackFifo} {b : Bytes} (tag : List Nat) (hsizes : f.low < f.high)
    (h : f.words.length * 64 + f.filling.length + b.length ≤ f.capacity * 64) : HoldFollows f (fifoWrite tag b f) := by
  rw [fifoWrite_of_room tag h]
  exact holdFollows_fifoHold hsizes (by simp) (by simp) (by simp)

/-! ### Flush and read (R103, R104) -/

theorem fifoFlush_of_pending {f : PackFifo} (tag : List Nat) (h : f.filling ≠ []) :
    fifoFlush tag f = fifoHold { f with words := f.words ++ [⟨f.filling, true, tag⟩], filling := [] } :=
  if_neg (by simpa using h)

theorem fifoFlush_of_none_pending {f : PackFifo} (tag : List Nat) (h : f.filling = []) : fifoFlush tag f = f :=
  if_pos (by simpa using h)

theorem fifoRead_of_cons {f : PackFifo} {w : FifoWord} {l : List FifoWord} (h : f.words = w :: l) :
    fifoRead f = (some w, fifoHold { f with words := l, committed := f.committed - 1 }) := by
  rw [fifoRead, h]

theorem holdFollows_fifoRead {f : PackFifo} (hsizes : f.low < f.high) (h : f.words ≠ []) : HoldFollows f (fifoRead f).2 := by
  obtain ⟨w, l, hwords⟩ := List.exists_cons_of_ne_nil h
  rw [fifoRead_of_cons hwords]
  exact holdFollows_fifoHold hsizes rfl rfl rfl

/-- Settles O1: a write is the closing of full words over the appended bytes, and every write and read ends by settling HOLD. -/
theorem packingFifoKeepsItsBytes : Obligations.PackingFifoKeepsItsBytes := by
  intro f g tag b hsizes hfilling
  refine ⟨fifoWrite_of_full tag, ?_, fifoFlush_of_pending tag, fifoFlush_of_none_pending tag, ?_, ?_⟩
  · rintro hroom rfl
    refine ⟨fifoBytes_fifoWrite tag hroom, length_filling_fifoWrite tag hroom hfilling, ?_⟩
    rw [fifoWrite_of_room tag hroom]
    simp
  · intro w l hwords
    rw [fifoRead_of_cons hwords]
    simp
  · rintro hroom (rfl | ⟨rfl, hwords⟩)
    · exact holdFollows_fifoWrite tag hsizes hroom
    · exact holdFollows_fifoRead hsizes hwords

end Sys2Proof.Machine
end

section
/-! PROOFS. The pixel ports' FIFO reads, links and transmitted lines (R104, R145, R301, R305, R307, R309): each command writes its
own port alone; first what the hold pin, the end of a picture and the packets of a line leave of the ports. -/

namespace Sys2Proof.Machine

/-! ### Reading a port -/

@[simp] theorem pxGet_atTime (s : State) (t k : Nat) : pxGet (atTime s t) k = pxGet s k := rfl
@[simp] theorem pxGet_emit (s : State) (o : OutItem) (k : Nat) : pxGet (emit s o) k = pxGet s k := rfl

theorem pxGet_eq_of_px {s t : State} (h : t.px = s.px) (k : Nat) : pxGet t k = pxGet s k := by
  rw [pxGet, pxGet, h]

@[simp] theorem pxGet_larderUpdate (s : State) (k : Nat) : pxGet (larderUpdate s) k = pxGet s k := pxGet_eq_of_px (by simp) k
@[simp] theorem pxGet_finishOutput (s : State) (id pic k : Nat) : pxGet (finishOutput s id pic) k = pxGet s k :=
  pxGet_eq_of_px (by simp) k
@[simp] theorem pxGet_markLate (s : State) (id pic k : Nat) : pxGet (markLate s id pic) k = pxGet s k := pxGet_eq_of_px (by simp) k

theorem isPixel_of_lt {n : Nat} (h : n < 4) : isPixel n = true := decide_eq_true h

/-! ### The hold pin (R307) -/

@[simp] theorem pxPin_frame (p : PxPort) : (pxPin p).up = p.up ∧ (pxPin p).picture = p.picture := by
  unfold pxPin
  dsimp only
  split <;> exact ⟨rfl, rfl⟩

theorem holdLow_pxPin (p : PxPort) : (pxPin p).holdLow = (!p.up || !p.cfg.rxOn || p.fifo.hold) := by
  unfold pxPin
  dsimp only
  split
  · next h => exact (Bool.and_eq_true_iff.1 h).1.symm
  · rfl

/-! ### FIFO reads and links (R104, R301) -/

theorem exec_pxFifoRead {s : State} {n : Nat} (hs : asleep s = false) (hn : n < 4) :
    exec (.pxFifoRead n) s = .next (emit (pxSet s n (pxPin { pxGet s n with fifo := (fifoRead (pxGet s n).fifo).2 }))
      (.fifoWord n (wordTag (fifoRead (pxGet s n).fifo).1) (wordBytes (fifoRead (pxGet s n).fifo).1))) := by
  change execPxFifoRead n s = _
  simp [execPxFifoRead, isPixel_of_lt hn, hs]

theorem exec_pxLinkUp_of_down {s : State} {n : Nat} (w : Nat) (hs : asleep s = false) (hn : n < 4)
    (hup : (pxGet s n).up = false) (hfencing : fencing s (.pixelPort n) = false) (hrx : (pxGet s n).cfg.rxOn = true) :
    exec (.pxLinkUp n w) s = .next (larderUpdate (pxSet (atTime s w) n (pxPin { pxGet s n with up := true }))) := by
  change execPxLinkUp n w s = _
  simp [execPxLinkUp, isPixel_of_lt hn, hs, hup, hfencing, hrx]

theorem exec_pxLinkDown_of_up {s : State} {n : Nat} (w : Nat) (hs : asleep s = false) (hn : n < 4) (hup : (pxGet s n).up = true) :
    exec (.pxLinkDown n w) s = .next (larderUpdate (pxDown (atTime s w) n)) := by
  change execPxLinkDown n w s = _
  simp [execPxLinkDown, isPixel_of_lt hn, hs, hup]

/-! ### A port goes down (R301, R305) -/

/-- The end of the picture in arrival writes the ports as one write of its port, whose picture is gone. -/
theorem px_endPicture (s : State) (p : Nat) :
    ∃ q : PxPort, q.picture = none ∧ ∀ k, pxGet (endPicture s p) k = pxGet (pxSet s p q) k := by
  unfold endPicture
  split
  · next hpicture => exact ⟨pxGet s p, hpicture, fun k => by by_cases hk : k = p <;> simp [hk, pxGet_pxSet_ne]⟩
  · next g _ =>
    split
    · exact ⟨{ pxGet s p with picture := none }, rfl, fun _ => rfl⟩
    · refine ⟨{ countPx (pxGet s p) 10 (fillTo g (fillerOf s g) (reachAll g.fmt)).filled with picture := none }, rfl,
        fun k => pxGet_eq_of_px ?_ k⟩
      dsimp only
      split
      · rfl
      · split <;> simp

theorem picture_endPicture (s : State) (p : Nat) : (pxGet (endPicture s p) p).picture = none := by
  obtain ⟨q, hq, hports⟩ := px_endPicture s p
  rw [hports, pxGet_pxSet, hq]

theorem pxGet_endPicture_ne (s : State) {p k : Nat} (h : k ≠ p) : pxGet (endPicture s p) k = pxGet s k := by
  obtain ⟨q, -, hports⟩ := px_endPicture s p
  rw [hports, pxGet_pxSet_ne _ _ _ _ h]

theorem pxDown_of_up {s : State} {p : Nat} (h : (pxGet s p).up = true) :
    pxDown s p = pxSet (endPicture s p) p (pxPin { countPx (pxGet (endPicture s p) p) 13 1 with up := false }) := if_pos h

theorem pxGet_pxDown {s : State} {p : Nat} (h : (pxGet s p).up = true) :
    (pxGet (pxDown s p) p).up = false ∧ (pxGet (pxDown s p) p).holdLow = true ∧ (pxGet (pxDown s p) p).picture = none := by
  rw [pxDown_of_up h, pxGet_pxSet]
  exact ⟨by simp, by simp [holdLow_pxPin], by simp [countPx, picture_endPicture]⟩

theorem pxGet_pxDown_ne {s : State} {p k : Nat} (h : (pxGet s p).up = true) (hk : k ≠ p) : pxGet (pxDown s p) k = pxGet s k := by
  rw [pxDown_of_up h, pxGet_pxSet_ne _ _ _ _ hk, pxGet_endPicture_ne s hk]

/-! ### Lines of a monitor output (R145, R309) -/

theorem pxGet_sendLine_ne (s : State) {port k : Nat} (o : PxSending) (planes : List (List Bytes)) (h : k ≠ port) :
    pxGet (sendLine s port o planes) k = pxGet s k :=
  foldl_view (pxGet · k) (fun s _ => foldl_view (pxGet · k) (fun _ _ => by simp [pxGet_pxSet_ne, h]) _ s) _ s

/-- The state when the packets of line `o.line` are out: a line that is not final is marked and counted as late. -/
def lineSent (s : State) (port : Nat) (o : PxSending) (x : Session) (p : DecPicture) : State :=
  sendLine (if (linePlanes x p o).2 then pxSet (markLate s o.session o.pic) port (countPx (pxGet s port) 14 1) else s) port o
    (planeRows o.fmt.layout o.fmt.depth (linePlanes x p o).1)

theorem pxGet_lineSent_ne (s : State) {port k : Nat} (o : PxSending) (x : Session) (p : DecPicture) (h : k ≠ port) :
    pxGet (lineSent s port o x p) k = pxGet s k := by
  rw [lineSent, pxGet_sendLine_ne _ _ _ h]
  split
  · rw [pxGet_pxSet_ne _ _ _ _ h, pxGet_markLate]
  · rfl

section
variable {s : State} {port : Nat} {o : PxSending} {x : Session} {p : DecPicture}

theorem nextLineOut_of_further (hx : sessById s o.session = some x) (hp : picOf x o.pic = some p)
    (h : o.line + 1 < o.fmt.height) :
    nextLineOut s port o = pxSet (lineSent s port o x p) port { pxGet (lineSent s port o x p) port with
      sending := some { o with line := o.line + 1, held := (linePlanes x p o).2 } } := by
  have hlast : ¬ o.fmt.height ≤ o.line + 1 := by omega
  simp only [nextLineOut, hx, hp, hlast, if_false, lineSent]

theorem nextLineOut_of_last (hx : sessById s o.session = some x) (hp : picOf x o.pic = some p)
    (h : o.fmt.height ≤ o.line + 1) :
    nextLineOut s port o = finishOutput (emit (pxSet (lineSent s port o x p) port
        { countPx (pxGet (lineSent s port o x p) port) 1 1 with sending := none })
      (.pixel port 3 ((pxGet (lineSent s port o x p) port).txFrame - 1) 0 0 0 [])) o.session o.pic := by
  simp only [nextLineOut, hx, hp, h, if_true, lineSent]

theorem exec_pxTxLine_of_due {w : Nat} (hs : asleep s = false) (hn : port < 4) (hgated : s.canary.gatedAt = none)
    (htx : (pxGet s port).cfg.txOn = true) (hfenced : (pxGet s port).fenced = false) (hsending : (pxGet s port).sending = some o)
    (hdue : lineTime (pxGet s port) o o.line ≤ max s.now w) :
    exec (.pxTxLine port o.line w) s = .next (nextLineOut (atTime s w) port o) := by
  have hnow : lineTime (pxGet s port) o o.line ≤ (atTime s w).now := hdue
  change execPxTxLine port o.line w s = _
  simp [execPxTxLine, isPixel_of_lt hn, hs, hgated, htx, hfenced, hsending, hnow]

end

/-- Settles O39: each command's effect is one operation on its port, read back. -/
theorem pixelPortsComplete : Obligations.PixelPortsComplete := by
  intro s n w hs hn
  refine ⟨exec_pxFifoRead hs hn, exec_pxLinkUp_of_down w hs hn, ?_, ?_⟩
  · intro hup
    obtain ⟨hdown, hlow, hpicture⟩ := pxGet_pxDown (s := atTime s w) hup
    refine ⟨_, exec_pxLinkDown_of_up w hs hn hup, ?_⟩
    simp only [pxGet_larderUpdate]
    exact ⟨hdown, hlow, hpicture, fun k hk => pxGet_pxDown_ne (s := atTime s w) hup hk, by simp⟩
  · intro o x p hgated htx hfenced hsending hdue hx hp
    have hx' : sessById (atTime s w) o.session = some x := hx
    have hexec := exec_pxTxLine_of_due hs hn hgated htx hfenced hsending hdue
    refine ⟨fun hfurther => ⟨_, hexec, ?_⟩, fun hlast => ⟨_, hexec, ?_⟩⟩
    · rw [nextLineOut_of_further hx' hp hfurther]
      exact ⟨by simp, fun k hk => by rw [pxGet_pxSet_ne _ _ _ _ hk, pxGet_lineSent_ne _ _ _ _ hk, pxGet_atTime]⟩
    · rw [nextLineOut_of_last hx' hp hlast]
      exact ⟨by simp, fun k hk => by
        rw [pxGet_finishOutput, pxGet_emit, pxGet_pxSet_ne _ _ _ _ hk, pxGet_lineSent_ne _ _ _ _ hk, pxGet_atTime]⟩

end Sys2Proof.Machine
end

section
/-! PROOFS. The network input of a decode session (R131, R132; log entry 71): reading one entry of a list after writing it back, then
what delivering one packet and draining those that wait leave, and one lemma per command and case. -/

namespace Sys2Proof.Machine

/-! ### Reading one entry after writing it back -/

/-- An entry that replaces the one of its number in a list is found under that number. -/
theorem find?_map_replace {α : Type} (number : α → Nat) {l : List α} {n : Nat} {a b : α}
    (h : l.find? (fun e => number e = n) = some a) (hb : number b = n) :
    (l.map (fun e => if number e = n then b else e)).find? (fun e => number e = n) = some b := by
  have hsame (e : α) : number (if number e = n then b else e) = n ↔ number e = n := by
    split <;> simp [*]
  have ha : number a = n := by simpa using List.find?_some h
  simp only [List.find?_map, Function.comp_def, hsame, h, Option.map_some, ha, if_true]

/-- The session that was written is found under its ID. -/
theorem sessById_sessPut_of_id (s : State) {y : Session} {id : Nat} (h : y.id = id) : sessById (sessPut s y) id = some y := by
  subst h
  exact sessById_sessPut s y

theorem id_of_picOf {x : Session} {n : Nat} {p : DecPicture} (h : picOf x n = some p) : p.id = n := by
  simpa using List.find?_some h

theorem picOf_picPut {x : Session} {n : Nat} {p q : DecPicture} (h : picOf x n = some p) (hq : q.id = n) :
    picOf (picPut x q) n = some q := by
  subst hq
  exact find?_map_replace DecPicture.id h rfl

theorem sourceOf_sourcePut {x : Session} {n : Nat} {p q : SubPicture} (h : sourceOf x n = some p) (hq : q.frame = n) :
    sourceOf (sourcePut x q) n = some q := by
  subst hq
  exact find?_map_replace SubPicture.frame h rfl

theorem frame_of_sourceOf {x : Session} {n : Nat} {p : SubPicture} (h : sourceOf x n = some p) : p.frame = n := by
  simpa using List.find?_some h

/-! ### Packets in order (R131, R132) -/

theorem seqAhead_self (a : Nat) : seqAhead a a = 0 := by
  have hzero : (a + 65536 - a % 65536) % 65536 = 0 := by omega
  simp [seqAhead, hzero, signed]

@[simp] theorem deliverRtp_frame (s : State) (x : Session) (p : RtpPkt) :
    (deliverRtp s x p).id = x.id ∧ (deliverRtp s x p).state = x.state ∧
      (deliverRtp s x p).dec.reorder = x.dec.reorder := by
  unfold deliverRtp
  dsimp only
  split
  · exact ⟨rfl, rfl, rfl⟩
  · split <;> exact ⟨rfl, rfl, rfl⟩

theorem lostPackets_le_deliverRtp (s : State) (x : Session) (p : RtpPkt) :
    x.dec.lostPackets ≤ (deliverRtp s x p).dec.lostPackets := by
  unfold deliverRtp
  dsimp only
  split
  · exact Nat.le_succ _
  · split <;> exact Nat.le_refl _

/-- A whole packet of a type in use joins the stream. -/
theorem deliverRtp_of_good {s : State} {x : Session} {p : RtpPkt} (hbad : p.bad = false)
    (htag : u8 x.cfg 0xC3 ≠ 1 ∨ p.tagOk = true) (hused : p.unsupported = false) :
    (deliverRtp s x p).dec.stream = x.dec.stream + p.len ∧
      (deliverRtp s x p).dec.expected = some ((p.seq + 1) % 65536) ∧
      (deliverRtp s x p).dec.reorder = x.dec.reorder ∧
      (deliverRtp s x p).dec.lostPackets = x.dec.lostPackets := by
  have hwhole : (p.bad || (u8 x.cfg 0xC3 == 1 && !p.tagOk)) = false := by
    obtain h | h := htag <;> simp [hbad, h]
  simp [deliverRtp, hwhole, hused]

/-- A session of which one packet no longer waits. -/
def withoutPacket (x : Session) (p : RtpPkt) : Session :=
  { x with dec := { x.dec with reorder := x.dec.reorder.filter (· ≠ p) } }

/-- The next packet in order is delivered, and draining goes on from there. -/
theorem drainRtp_of_next (n : Nat) (s : State) {x : Session} {p : RtpPkt}
    (h : x.dec.reorder.find? (fun q => some q.seq = x.dec.expected) = some p) :
    drainRtp (n + 1) s x = drainRtp n s (deliverRtp s (withoutPacket x p) p) := by
  simp only [drainRtp, h, withoutPacket]

/-- Nothing is drained while the next packet is missing. -/
theorem drainRtp_of_gap (n : Nat) (s : State) {x : Session}
    (h : x.dec.reorder.find? (fun q => some q.seq = x.dec.expected) = none) : drainRtp n s x = x := by
  cases n with
  | zero => rfl
  | succ n => simp only [drainRtp, h]

/-- Draining keeps what `deliverRtp` and taking a packet off the queue keep. -/
theorem drainRtp_induction {P : Session → Prop} (s : State) (hstep : ∀ x p, P x → P (deliverRtp s (withoutPacket x p) p))
    (n : Nat) {x : Session} (h : P x) : P (drainRtp n s x) := by
  induction n generalizing x with
  | zero => exact h
  | succ n ih =>
    cases hp : x.dec.reorder.find? (fun q => some q.seq = x.dec.expected) with
    | none => rwa [drainRtp_of_gap _ _ hp]
    | some p =>
      rw [drainRtp_of_next _ _ hp]
      exact ih (hstep x p h)

@[simp] theorem drainRtp_frame (n : Nat) (s : State) (x : Session) :
    (drainRtp n s x).id = x.id ∧ (drainRtp n s x).state = x.state :=
  drainRtp_induction (P := fun y => y.id = x.id ∧ y.state = x.state) s
    (fun y p h => by simpa [withoutPacket] using h) n ⟨rfl, rfl⟩

/-- Draining takes no loss back. -/
theorem lostPackets_le_drainRtp (n : Nat) (s : State) (x : Session) :
    x.dec.lostPackets ≤ (drainRtp n s x).dec.lostPackets :=
  drainRtp_induction (P := fun y => x.dec.lostPackets ≤ y.dec.lostPackets) s
    (fun y p h => Nat.le_trans h (lostPackets_le_deliverRtp s (withoutPacket y p) p)) n (Nat.le_refl _)

/-- Draining adds no packet to those that wait. -/
theorem length_reorder_drainRtp_le (n : Nat) (s : State) (x : Session) :
    (drainRtp n s x).dec.reorder.length ≤ x.dec.reorder.length :=
  drainRtp_induction (P := fun y => y.dec.reorder.length ≤ x.dec.reorder.length) s
    (fun y p h => by simpa [withoutPacket] using Nat.le_trans (List.length_filter_le _ y.dec.reorder) h) n (Nat.le_refl _)

/-- When a packet that waits is the next one, fewer wait afterwards. -/
theorem length_reorder_drainRtp_lt (n : Nat) (s : State) {x : Session} {p : RtpPkt} (hp : p ∈ x.dec.reorder)
    (hnext : x.dec.expected = some p.seq) : (drainRtp (n + 1) s x).dec.reorder.length < x.dec.reorder.length := by
  cases hq : x.dec.reorder.find? (fun q => some q.seq = x.dec.expected) with
  | none => exact absurd hnext.symm (by simpa using List.find?_eq_none.1 hq p hp)
  | some q =>
    rw [drainRtp_of_next _ _ hq]
    calc (drainRtp n s (deliverRtp s (withoutPacket x q) q)).dec.reorder.length
        ≤ (deliverRtp s (withoutPacket x q) q).dec.reorder.length := length_reorder_drainRtp_le n s _
      _ = (x.dec.reorder.filter (· ≠ q)).length := by simp [withoutPacket]
      _ < x.dec.reorder.length :=
        List.length_filter_lt_length_iff_exists.2 ⟨q, List.mem_of_find?_eq_some hq, by simp⟩

/-- A session with one more packet that waits. -/
def withPacket (x : Session) (p : RtpPkt) : Session := { x with dec := { x.dec with reorder := x.dec.reorder ++ [p] } }

/-- The session notes since when its gap is open. -/
def withGap (x : Session) : Session := { x with dec := { x.dec with gapSince := gapStart x } }

/-- A packet that is not late and not there already waits its turn. -/
theorem takeRtp_of_waits {s : State} {x : Session} {p : RtpPkt} {e : Nat} (he : x.dec.expected = some e)
    (hlate : 0 ≤ seqAhead e p.seq) (hfresh : ∀ q ∈ x.dec.reorder, q.seq ≠ p.seq) :
    takeRtp s x p = withGap (drainRtp (x.dec.reorder.length + 1) s (withPacket x p)) := by
  have hgo : ¬ (seqAhead e p.seq < 0 ∨ x.dec.reorder.any (fun q => q.seq == p.seq) = true) := by
    simpa [hlate] using hfresh
  unfold takeRtp
  split
  · next hnone => cases he.symm.trans hnone
  · next d hsome =>
    cases he.symm.trans hsome
    exact if_neg hgo

/-- A packet in its place, with none waiting, is delivered at once. -/
theorem takeRtp_of_next {s : State} {x : Session} {p : RtpPkt} (hempty : x.dec.reorder = [])
    (hnext : x.dec.expected = none ∨ x.dec.expected = some p.seq) :
    ∃ g, takeRtp s x p = { deliverRtp s x p with dec := { (deliverRtp s x p).dec with gapSince := g } } := by
  obtain hnone | hsome := hnext
  · exact ⟨(deliverRtp s x p).dec.gapSince, by simp only [takeRtp, hnone]⟩
  · have hlist : (x.dec.reorder ++ [p]).filter (· ≠ p) = x.dec.reorder := by simp [hempty]
    have hx : withoutPacket (withPacket x p) p = x := by simp only [withoutPacket, withPacket, hlist]
    have hfind : (withPacket x p).dec.reorder.find? (fun q => some q.seq = (withPacket x p).dec.expected) = some p := by
      simp [withPacket, hempty, hsome]
    rw [takeRtp_of_waits hsome (by simp [seqAhead_self]) (by simp [hempty]), drainRtp_of_next _ _ hfind, hempty, hx]
    exact ⟨_, rfl⟩

/-- A packet ahead of a gap waits behind it. -/
theorem takeRtp_of_ahead {s : State} {x : Session} {p : RtpPkt} {e : Nat} (he : x.dec.expected = some e)
    (hahead : 0 < seqAhead e p.seq) (hfresh : ∀ q ∈ x.dec.reorder, q.seq ≠ p.seq ∧ q.seq ≠ e) :
    takeRtp s x p = withGap (withPacket x p) := by
  have hp : p.seq ≠ e := by
    rintro rfl
    simp [seqAhead_self] at hahead
  have hgap : (withPacket x p).dec.reorder.find? (fun q => some q.seq = (withPacket x p).dec.expected) = none := by
    simp only [withPacket, he, List.find?_eq_none, List.mem_append, List.mem_singleton, decide_eq_true_eq, Option.some.injEq]
    rintro q (hq | rfl)
    · exact (hfresh q hq).2
    · exact hp
  rw [takeRtp_of_waits he (Int.le_of_lt hahead) (fun q hq => (hfresh q hq).1), drainRtp_of_gap _ _ hgap]

theorem takeTs_frame (l : List (Nat × Bool)) (x : Session) :
    (takeTs x l).id = x.id ∧ (takeTs x l).dec.stream = x.dec.stream ∧ x.dec.lostPackets ≤ (takeTs x l).dec.lostPackets := by
  induction l generalizing x with
  | nil => exact ⟨rfl, rfl, Nat.le_refl _⟩
  | cons q l ih =>
    obtain ⟨hid, hstream, hlost⟩ := ih _
    exact ⟨hid, hstream, Nat.le_trans (Nat.le_add_right _ _) hlost⟩

/-! ### RTP_PACKET_RX and REORDER_TIMEOUT (R131, R132) -/

section
variable {s : State} {p : RtpPkt} {x : Session}

/-- A session that takes network input, with a packet of its source. -/
structure TakesInput (s : State) (p : RtpPkt) (x : Session) : Prop where
  awake : asleep s = false
  found : sessById s p.session = some x
  decodes : x.decode = true
  live : x.state = .running ∨ x.state = .resync
  secure : securityStops (atTime s p.t) x = false

/-- What a packet does to the session that takes it (R131, R132). -/
def rtpInput (s : State) (x : Session) (p : RtpPkt) : State :=
  if u8 x.cfg 0x14 = 1 then
    if p.pt ≠ u8 x.cfg 0xC1 ∨ (u8 x.cfg 0xC2 = 1 ∧ p.ssrc ≠ u32 x.cfg 0xC4) then
      sessPut s { x with dec := { x.dec with foreign := x.dec.foreign + 1 } }
    else sessPut s (takeRtp s x p)
  else if u8 x.cfg 0x14 = 2 then
    sessPut s { takeTs x p.ts with dec := { (takeTs x p.ts).dec with
      stream := (takeTs x p.ts).dec.stream + p.len, firstAt := some ((takeTs x p.ts).dec.firstAt.getD s.now) } }
  else s

theorem TakesInput.exec (h : TakesInput s p x) : exec (.rtpPacketRx p) s = .next (rtpInput (atTime s p.t) x p) := by
  obtain ⟨hs, hx, hdecode, hstate, hsec⟩ := h
  have hguard : (!x.decode || (x.state != .running && x.state != .resync) || securityStops (atTime s p.t) x) = false := by
    obtain h | h := hstate <;> simp [hdecode, hsec, h]
  change execRtpPacketRx p s = _
  simp only [execRtpPacketRx, hs, sessById_atTime, hx, hguard, Bool.false_eq_true, if_false]
  rfl

theorem rtpInput_of_foreign (h1 : u8 x.cfg 0x14 = 1)
    (h : p.pt ≠ u8 x.cfg 0xC1 ∨ (u8 x.cfg 0xC2 = 1 ∧ p.ssrc ≠ u32 x.cfg 0xC4)) :
    rtpInput s x p = sessPut s { x with dec := { x.dec with foreign := x.dec.foreign + 1 } } := by
  rw [rtpInput, if_pos h1, if_pos h]

theorem rtpInput_of_own (h1 : u8 x.cfg 0x14 = 1) (hpt : p.pt = u8 x.cfg 0xC1)
    (hssrc : u8 x.cfg 0xC2 ≠ 1 ∨ p.ssrc = u32 x.cfg 0xC4) : rtpInput s x p = sessPut s (takeRtp s x p) := by
  have hown : ¬ (p.pt ≠ u8 x.cfg 0xC1 ∨ (u8 x.cfg 0xC2 = 1 ∧ p.ssrc ≠ u32 x.cfg 0xC4)) := by
    rintro (h | ⟨hone, h⟩)
    · exact h hpt
    · exact h (hssrc.resolve_left (· hone))
  rw [rtpInput, if_pos h1, if_neg hown]

theorem rtpInput_of_ts (h2 : u8 x.cfg 0x14 = 2) :
    rtpInput s x p = sessPut s { takeTs x p.ts with dec := { (takeTs x p.ts).dec with
      stream := (takeTs x p.ts).dec.stream + p.len, firstAt := some ((takeTs x p.ts).dec.firstAt.getD s.now) } } := by
  rw [rtpInput, if_neg (by omega), if_pos h2]

end

/-- The session when its gap up to a sequence number is given up. -/
def gapLost (x : Session) (e seq : Nat) : Session := { x with dec := { x.dec with
  expected := some seq, lostPackets := x.dec.lostPackets + (seqAhead e seq).toNat,
  lostSeen := x.dec.lostSeen + (seqAhead e seq).toNat } }

theorem exec_reorderTimeout_of_due {s : State} {id w g e : Nat} {x : Session} {q : RtpPkt} (hs : asleep s = false)
    (hx : sessById s id = some x) (hg : x.dec.gapSince = some g) (he : x.dec.expected = some e)
    (hdue : g + u32 x.cfg 0xCC * 1000 ≤ max s.now w) (hq : nextBehind x e = some q) :
    exec (.reorderTimeout id w) s = .next (sessPut (atTime s w)
      (withGap (drainRtp (x.dec.reorder.length + 1) (atTime s w) (gapLost x e q.seq)))) := by
  have hnow : g + u32 x.cfg 0xCC * 1000 ≤ (atTime s w).now := hdue
  change execReorderTimeout id w s = _
  simp [execReorderTimeout, hs, hx, hg, he, hnow, hq, withGap, gapLost]

/-- The nearest packet behind a gap is one that waits. -/
theorem mem_of_nextBehind {x : Session} {e : Nat} {q : RtpPkt} (h : nextBehind x e = some q) : q ∈ x.dec.reorder := by
  unfold nextBehind at h
  refine List.foldlRecOn (motive := fun b => ∀ q, b = some q → q ∈ x.dec.reorder) x.dec.reorder _ (by simp) ?_ q h
  intro b hb p hp q hq
  split at hq
  · cases hq
    exact hp
  · split at hq
    · cases hq
      exact hp
    · exact hb q hq

/-- Settles O37: each packet and each lost gap is one write of the session, whose stream, queue and losses are read back. -/
theorem decodeInputCompletes : Obligations.DecodeInputCompletes := by
  intro s p x hs hx hdecode hstate hsec
  have htakes : TakesInput s p x := ⟨hs, hx, hdecode, hstate, hsec⟩
  have hid := id_of_sessById hx
  refine ⟨?_, ?_, ?_, ?_, ?_⟩
  · intro h1 hforeign
    rw [htakes.exec, rtpInput_of_foreign h1 hforeign]
  · intro h1 hpt hssrc hbad htag hused hempty hnext
    obtain ⟨g, hg⟩ := takeRtp_of_next (s := atTime s p.t) hempty hnext
    obtain ⟨hstream, hexpected, hreorder, hlost⟩ := deliverRtp_of_good (s := atTime s p.t) hbad htag hused
    rw [htakes.exec, rtpInput_of_own h1 hpt hssrc, hg]
    exact ⟨_, _, rfl, sessById_sessPut_of_id _ ((deliverRtp_frame _ x p).1.trans hid), hstream, hexpected, hreorder.trans hempty,
      hlost, by simp, by simp⟩
  · intro e h1 hpt hssrc he hahead hfresh
    rw [htakes.exec, rtpInput_of_own h1 hpt hssrc, takeRtp_of_ahead he hahead hfresh]
    exact ⟨_, _, rfl, sessById_sessPut_of_id _ hid, rfl, rfl, he, rfl⟩
  · intro h2
    obtain ⟨htid, hstream, hlost⟩ := takeTs_frame p.ts x
    rw [htakes.exec, rtpInput_of_ts h2]
    exact ⟨_, _, rfl, sessById_sessPut_of_id _ (htid.trans hid), congrArg (· + p.len) hstream, hlost⟩
  · intro w g e q hg he hdue hq
    have hwaits : q ∈ (gapLost x e q.seq).dec.reorder := mem_of_nextBehind hq
    obtain ⟨hdid, hdstate⟩ := drainRtp_frame (x.dec.reorder.length + 1) (atTime s w) (gapLost x e q.seq)
    rw [exec_reorderTimeout_of_due hs hx hg he hdue hq]
    exact ⟨_, _, rfl, sessById_sessPut_of_id _ (hdid.trans hid), lostPackets_le_drainRtp _ (atTime s w) (gapLost x e q.seq),
      length_reorder_drainRtp_lt _ (atTime s w) hwaits rfl, hdstate⟩

end Sys2Proof.Machine
end

section
/-! PROOFS. Decoding of a picture (R128, R130 to R133, R138; log entry 71): what marking a region, keeping a coding unit, beginning and
dropping a picture leave, and one lemma per command and case. -/

namespace Sys2Proof.Machine

/-! ### The stored pictures (R128) -/

/-- A picture that is not ended, is still referred to, or has not gone out. -/
def picStays (p : DecPicture) : Bool := !p.ended || p.isRef || p.going != 2

/-- A picture that stays is found after the others have left. -/
theorem picOf_dropPics {x : Session} {n : Nat} {p : DecPicture} (h : picOf x n = some p) (hstays : picStays p = true) :
    picOf (dropPics x) n = some p := by
  obtain ⟨hp, l, r, hl, hbefore⟩ := List.find?_eq_some_iff_append.1 h
  have hnone : (l.filter picStays).find? (fun p => p.id = n) = none :=
    List.find?_eq_none.2 fun q hq => by simpa using hbefore q (List.mem_filter.1 hq).1
  have hpics : (dropPics x).dec.pics = l.filter picStays ++ p :: r.filter picStays := by
    rw [← List.filter_cons_of_pos hstays, ← List.filter_append, ← hl]
    rfl
  simp [picOf, hpics, hnone, of_decide_eq_true hp]

/-! ### One coding unit (R128, R133, R138) -/

/-- Mark one coding unit damaged. -/
def damageUnit (lost syn : Bool) (t : Tbl DecCuState) (c : Nat) : Tbl DecCuState :=
  tset t c { tget DecCuState.blank t c with
    damaged := true, tainted := true, lost := lost, syn := syn, bottom := none, centre := none }

theorem markDamaged_cus (p : DecPicture) (l : List Nat) (lost syn : Bool) :
    (markDamaged p l lost syn).cus = l.foldl (damageUnit lost syn) p.cus := rfl

theorem tfind_foldl_damageUnit_of_not_mem {lost syn : Bool} {c : Nat} {l : List Nat} (t : Tbl DecCuState) (h : c ∉ l) :
    tfind (l.foldl (damageUnit lost syn) t) c = tfind t c := by
  induction l generalizing t with
  | nil => rfl
  | cons a l ih =>
    obtain ⟨hne, hl⟩ := List.ne_and_not_mem_of_not_mem_cons h
    rw [List.foldl_cons, ih _ hl, damageUnit, tfind_tset_ne _ _ _ _ hne]

theorem tfind_foldl_damageUnit_of_mem {lost syn : Bool} {c : Nat} {l : List Nat} (t : Tbl DecCuState) (h : c ∈ l) :
    ∃ k, tfind (l.foldl (damageUnit lost syn) t) c = some k ∧ k.damaged = true ∧ k.tainted = true ∧ k.lost = lost := by
  induction l generalizing t with
  | nil => cases h
  | cons a l ih =>
    by_cases hl : c ∈ l
    · exact ih _ hl
    · obtain rfl : c = a := (List.mem_cons.1 h).resolve_right hl
      exact ⟨_, (tfind_foldl_damageUnit_of_not_mem _ hl).trans (tfind_tset _ _ _), rfl, rfl, rfl⟩

theorem decodeUnit_frame (x : Session) (p : DecPicture) (u : DecCu) :
    (decodeUnit x p u).id = p.id ∧ (decodeUnit x p u).head = p.head ∧ (decodeUnit x p u).ended = p.ended := by
  unfold decodeUnit
  split
  · exact ⟨rfl, rfl, rfl⟩
  · split <;> exact ⟨rfl, rfl, rfl⟩

/-- A coding unit that decodes is kept and waits for its commit. -/
theorem decodeUnit_of_good {x : Session} {p : DecPicture} {u : DecCu} (hwhole : p.whole = false) (h1 : u.error ≠ 1)
    (h2 : u.error ≠ 2) (h3 : u.error ≠ 3) :
    ∃ k, (decodeUnit x p u).cus = tset p.cus u.cu k ∧ k.damaged = false ∧ k.qp = u.qp ∧
      k.tainted = (readsMissing x u || u.error == 7 || u.missingAps || readsTainted x u) ∧
      (decodeUnit x p u).uncommitted = p.uncommitted ++ [(u.core, u.cu)] := by
  have herror : ¬ (u.error = 1 ∨ u.error = 2 ∨ u.error = 3) := by simp [h1, h2, h3]
  rw [decodeUnit, if_neg (by simp [hwhole]), if_neg herror]
  exact ⟨_, rfl, rfl, rfl, rfl, rfl⟩

/-- A coding unit with an error damages its region. -/
theorem decodeUnit_of_error {x : Session} {p : DecPicture} {u : DecCu} (hwhole : p.whole = false)
    (herror : u.error = 1 ∨ u.error = 2 ∨ u.error = 3) :
    decodeUnit x p u = { markDamaged p (damagedRegion p.head u) (u.error == 1) (u.error != 1) with
      synErrors := p.synErrors + (if u.error = 1 then 0 else 1) } := by
  simp only [decodeUnit, hwhole, herror, Bool.false_eq_true, if_false, if_true]

/-! ### DECODE_UNIT_START (R128, R254) -/

/-- The state when a core has met a coding unit of a picture. -/
def unitDecoded (s : State) (x : Session) (p : DecPicture) (u : DecCu) : State :=
  coreSet (sessPut s (picPut x (decodeUnit x p u))) u.core { coreGet s u.core with decoding := some (u.session, u.pic) }

theorem unitDecoded_found {s : State} {x : Session} {p : DecPicture} {u : DecCu} (hid : x.id = u.session)
    (hp : picOf x u.pic = some p) :
    ∃ y, sessById (unitDecoded s x p u) u.session = some y ∧ picOf y u.pic = some (decodeUnit x p u) ∧
      y.dec.started = x.dec.started ∧ y.dec.nextPic = x.dec.nextPic ∧
      (coreGet (unitDecoded s x p u) u.core).decoding = some (u.session, u.pic) := by
  have hput : picOf (picPut x (decodeUnit x p u)) u.pic = some (decodeUnit x p u) :=
    picOf_picPut hp ((decodeUnit_frame x p u).1.trans (id_of_picOf hp))
  refine ⟨picPut x (decodeUnit x p u), ?_, hput, rfl, rfl, by simp [unitDecoded]⟩
  rw [← hid]
  exact sessById_sessPut s (picPut x (decodeUnit x p u))

/-- The common premises of a DECODE_UNIT_START that its core may take. -/
structure Decodes (s : State) (x : Session) (u : DecCu) : Prop where
  awake : asleep s = false
  core : u.core < 28
  found : sessById s u.session = some x
  decode : x.decode = true
  live : isLive x = true
  able : decodable (atTime s u.t) x u = true

/-- A picture that takes a coding unit: not ended, and the unit is one of its grid that is not there yet. -/
structure TakesUnit (p : DecPicture) (u : DecCu) : Prop where
  going : p.ended = false
  fresh : tfind p.cus u.cu = none
  inside : u.cu < gridN p.head

theorem Decodes.exec_of_known {s : State} {x : Session} {u : DecCu} {p : DecPicture} (h : Decodes s x u)
    (hp : picOf x u.pic = some p) (hu : TakesUnit p u) :
    exec (.decodeUnitStart u) s = .next (unitDecoded (atTime s u.t) x p u) := by
  obtain ⟨hs, hcore, hx, hdecode, hlive, hable⟩ := h
  obtain ⟨hgoing, hfresh, hinside⟩ := hu
  have hgrid : ¬ gridN p.head ≤ u.cu := Nat.not_le.2 hinside
  change execDecodeUnitStart u s = _
  simp [execDecodeUnitStart, isCore_of_lt hcore, hs, hx, hdecode, hlive, hable, hp, hgoing, hfresh, hgrid, unitDecoded]

/-- The next picture may begin (R128, R254). -/
structure MayBeginPic (x : Session) (u : DecCu) : Prop where
  new : picOf x u.pic = none
  next : u.pic = x.dec.nextPic
  running : x.state ≠ .stopping
  accepted : picAccepted x u.head = true
  room : inFlightPics x < 4

theorem Decodes.exec_of_new {s : State} {x : Session} {u : DecCu} {p : DecPicture} (h : Decodes s x u) (hbegin : MayBeginPic x u)
    (hp : picOf (beginDecode (atTime s u.t) x u) u.pic = some p) (hu : TakesUnit p u) :
    exec (.decodeUnitStart u) s = .next (unitDecoded (atTime s u.t) (beginDecode (atTime s u.t) x u) p u) := by
  obtain ⟨hs, hcore, hx, hdecode, hlive, hable⟩ := h
  obtain ⟨hnone, hnext, hrunning, haccepted, hroom⟩ := hbegin
  obtain ⟨hgoing, hfresh, hinside⟩ := hu
  have hgrid : ¬ gridN p.head ≤ u.cu := Nat.not_le.2 hinside
  change execDecodeUnitStart u s = _
  simp [execDecodeUnitStart, isCore_of_lt hcore, hs, hx, hdecode, hlive, hable, hnone, ← hnext, hp, hrunning, haccepted,
    hroom, hgoing, hfresh, hgrid, unitDecoded]

/-- The picture that a coding unit begins. -/
def freshPicture (s : State) (x : Session) (u : DecCu) : DecPicture :=
  DecPicture.make s x u.pic u.head
    ((if x.dec.started then x.dec.recovery - 1 else if u.head.sync = 2 then u.head.recovery else 0) == 0)
    (exceedsLimits x.cfg u.head || cdfLost x u.head || u.error == 4) (cdfLost x u.head || u.error == 4)

/-- A picture that begins is found in its session. -/
theorem picOf_beginDecode (s : State) {x : Session} {u : DecCu} (hnew : picOf x u.pic = none) :
    picOf (beginDecode s x u) u.pic = some (freshPicture s x u) := by
  have hother : ∀ q ∈ x.dec.pics, q.id ≠ u.pic := by simpa [picOf] using hnew
  have hold : (x.dec.pics.map (fun q => { q with isRef := u.head.keep.contains q.id })).find? (fun p => p.id = u.pic) = none := by
    simpa using hother
  unfold beginDecode
  refine picOf_dropPics ?_ rfl
  simp only [picOf, List.find?_append, hold]
  simp [freshPicture, DecPicture.make]

/-! ### DECODE_ROW_COMMIT (R130) -/

/-- A commit takes the core's coding units of the row off those that wait, and changes none of them. -/
theorem commitDecoded_frame (s : State) (core row : Nat) (p : DecPicture) :
    (commitDecoded s core row p).id = p.id ∧ (commitDecoded s core row p).cus = p.cus ∧
      (commitDecoded s core row p).uncommitted = p.uncommitted.filter (fun c => !(c.1 == core && c.2 / gridW p.head == row)) := by
  unfold commitDecoded
  dsimp only
  split <;> exact ⟨rfl, rfl, rfl⟩

theorem mem_rowsDone_commitDecoded {s : State} {core row : Nat} {p : DecPicture}
    (h : rowFinal (commitDecoded s core row p) row = true) : row ∈ (commitDecoded s core row p).rowsDone := by
  unfold commitDecoded at h ⊢
  dsimp only at h ⊢
  split
  · simp
  · next hno =>
    rw [if_neg hno] at h
    simp only [Bool.and_eq_true, not_and, Bool.not_eq_true', Bool.not_eq_false] at hno
    exact List.contains_iff_mem.1 (hno h)

theorem settleRotation_cores (s : State) (k : Nat) : (settleRotation s k).cores = s.cores := by simp

/-- The state when a core has committed a row. -/
def rowDone (s : State) (core : Nat) (x : Session) (q : DecPicture) : State :=
  if q.uncommitted.all (fun c => c.1 != core) then
    settleRotation (coreSet (sessPut s (picPut x q)) core { coreGet s core with decoding := none }) (core / 7)
  else sessPut s (picPut x q)

theorem exec_decodeRowCommit {s : State} {core id pic row w : Nat} {x : Session} {p : DecPicture} (hs : asleep s = false)
    (hcore : core < 28) (hx : sessById s id = some x) (hp : picOf x pic = some p) (hgoing : p.ended = false)
    (hwaits : p.uncommitted.all (fun c => !(c.1 == core && c.2 / gridW p.head == row)) = false) :
    exec (.decodeRowCommit core id pic row w) s =
      .next (rowDone (atTime s w) core x (commitDecoded (atTime s w) core row p)) := by
  change execDecodeRowCommit core id pic row w s = _
  simp only [execDecodeRowCommit, isCore_of_lt hcore, hs, sessById_atTime, hx, hp, hgoing, hwaits]
  rfl

theorem sessById_rowDone (s : State) (core : Nat) (x : Session) (q : DecPicture) :
    sessById (rowDone s core x q) x.id = some (picPut x q) := by
  unfold rowDone
  split
  · rw [sessById_eq_of_sessions (t := settleRotation _ _) (s := sessPut s (picPut x q)) (by simp)]
    exact sessById_sessPut s (picPut x q)
  · exact sessById_sessPut s (picPut x q)

/-- A core whose units are all committed is free again. -/
theorem decoding_rowDone {s : State} {core : Nat} {x : Session} {q : DecPicture}
    (h : q.uncommitted.all (fun c => c.1 != core) = true) : (coreGet (rowDone s core x q) core).decoding = none := by
  rw [rowDone, if_pos h]
  rw [coreGet_eq_of_cores (settleRotation_cores _ _), coreGet_coreSet]

/-! ### DECODE_PICTURE_END (R131, R133) -/

theorem consumeInput_sessions (n : Nat) (s : State) (fn before consumed : Nat) (l : List (Nat × Nat × Nat)) :
    (consumeInput n s fn before consumed l).1.sessions = s.sessions := by
  induction l generalizing n s before with
  | nil => rw [consumeInput]
  | cons p l ih =>
    cases n with
    | zero => rw [consumeInput]
    | succ n =>
      rw [consumeInput]
      split
      · rw [ih]
        simp
      · rfl

theorem settleStop_of_live {s : State} {id : Nat} {x : Session} (hx : sessById s id = some x) (h : x.state ≠ .stopping) :
    settleStop s id = s := by
  simp [settleStop, hx, h]

theorem settleFlush_sessions (s : State) (x : Session) : (settleFlush s x).sessions = s.sessions := by simp

/-- Complete what waits for a session to be out. -/
def settleSession (s : State) (id : Nat) : State :=
  settleStop (match sessById s id with | some y => settleFlush s y | none => s) id

/-- Settling changes no session that is not stopping. -/
theorem settleSession_of_live {s : State} {id : Nat} {x : Session} (hx : sessById s id = some x) (h : x.state ≠ .stopping) :
    settleSession s id = settleFlush s x := by
  simp only [settleSession, hx]
  exact settleStop_of_live ((sessById_eq_of_sessions (settleFlush_sessions s x) id).trans hx) h

theorem closePicture_frame (x : Session) (p : DecPicture) (bits : Nat) (bad : Bool) :
    (closePicture x p bits bad).id = p.id ∧ (closePicture x p bits bad).isRef = p.isRef := ⟨rfl, rfl⟩

/-- A decoder's session with a picture that has ended. -/
def decodeEnded (x : Session) (q : DecPicture) (upTo : Nat) (left : List (Nat × Nat × Nat)) : Session :=
  { picPut x q with dec := { (picPut x q).dec with
    consumed := upTo, pendingIn := left, lostSeen := 0
    ages := (q.cus.filter (fun k => k.2.tainted)).map (fun k => (k.1, k.2.age)) } }

theorem picOf_decodeEnded {x : Session} {n : Nat} {p q : DecPicture} (h : picOf x n = some p) (hq : q.id = n)
    (upTo : Nat) (left : List (Nat × Nat × Nat)) : picOf (decodeEnded x q upTo left) n = some q :=
  picOf_picPut h hq

/-- The read position of a stream once a picture has consumed it up to a byte. -/
def consumedTo (x : Session) (consumed : Nat) : Nat := min x.dec.stream (max x.dec.consumed consumed)

/-- The SUBMIT_BITSTREAM commands that a picture's end completes, and those that still wait. -/
def endInput (s : State) (x : Session) (consumed : Nat) : State × List (Nat × Nat × Nat) :=
  consumeInput 4096 s x.fn (pendingStart x) (consumedTo x consumed) x.dec.pendingIn

theorem endDecode_eq (s : State) (x : Session) (p : DecPicture) (bits consumed : Nat) (bad : Bool) :
    endDecode s x p bits consumed bad = settleSession (releaseDecoders (sessPut (endInput s x consumed).1
      (dropPics (decodeEnded x (closePicture x p bits bad) (consumedTo x consumed) (endInput s x consumed).2))) x.id p.id) x.id := by
  unfold endDecode endInput consumedTo
  dsimp only
  generalize consumeInput 4096 s x.fn (pendingStart x) (min x.dec.stream (max x.dec.consumed consumed)) x.dec.pendingIn = r
  rfl

/-- The end of a picture writes the session of a decoder that is not stopping, and nothing after it changes the session. -/
theorem sessById_endDecode (s : State) {x : Session} (p : DecPicture) (bits consumed : Nat) (bad : Bool)
    (h : x.state ≠ .stopping) : sessById (endDecode s x p bits consumed bad) x.id =
      some (dropPics (decodeEnded x (closePicture x p bits bad) (consumedTo x consumed) (endInput s x consumed).2)) := by
  have hput : sessById (releaseDecoders (sessPut (endInput s x consumed).1
      (dropPics (decodeEnded x (closePicture x p bits bad) (consumedTo x consumed) (endInput s x consumed).2))) x.id p.id) x.id =
      some (dropPics (decodeEnded x (closePicture x p bits bad) (consumedTo x consumed) (endInput s x consumed).2)) :=
    sessById_sessPut_of_id _ rfl
  rw [endDecode_eq, settleSession_of_live hput h, sessById_eq_of_sessions (settleFlush_sessions _ _)]
  exact hput

theorem exec_decodePictureEnd {s : State} {id pic bits consumed w : Nat} {bad : Bool} {x : Session} {p : DecPicture}
    (hs : asleep s = false) (hx : sessById s id = some x) (hp : picOf x pic = some p) (hgoing : p.ended = false)
    (hdone : p.uncommitted = []) :
    exec (.decodePictureEnd id pic bits consumed bad w) s = .next (endDecode (atTime s w) x p bits consumed bad) := by
  change execDecodePictureEnd id pic bits consumed bad w s = _
  simp [execDecodePictureEnd, hs, hx, hp, hgoing, hdone]

/-! ### DECODE_OUTPUT_START (R144, R145) -/

theorem exec_decodeOutputStart {s : State} {id pic w : Nat} {x : Session} {p : DecPicture} (hs : asleep s = false)
    (hx : sessById s id = some x) (hdecode : x.decode = true) (hp : picOf x pic = some p)
    (hready : outputReady (atTime s w) x p = true) :
    exec (.decodeOutputStart id pic w) s = .next (startOutput (atTime s w) x p) := by
  change execDecodeOutputStart id pic w s = _
  simp [execDecodeOutputStart, hs, hx, hdecode, hp, hready]

/-- Settles O36: each command writes one picture of its session, which is read back. -/
theorem decodingCompletes : Obligations.DecodingCompletes := by
  intro s id w x hs hx
  have hid := id_of_sessById hx
  refine ⟨?_, ?_, ?_, ?_, ?_⟩
  · rintro u p rfl hcore hdecode hlive hable hp hgoing hfresh hinside hwhole
    have hexec := Decodes.exec_of_known ⟨hs, hcore, hx, hdecode, hlive, hable⟩ hp ⟨hgoing, hfresh, hinside⟩
    obtain ⟨y, hy, hq, -, -, hbusy⟩ := unitDecoded_found (s := atTime s u.t) hid hp
    constructor
    · intro h1 h2 h3
      obtain ⟨k, hcus, hdamaged, hqp, htainted, hwaits⟩ := decodeUnit_of_good (x := x) hwhole h1 h2 h3
      refine ⟨_, y, _, k, hexec, hy, hq, ?_, hdamaged, hqp, htainted, hwaits, hbusy, fun c hc => ?_⟩
      · rw [hcus, tfind_tset]
      · rw [hcus, tfind_tset_ne _ _ _ _ hc]
    · intro herror
      rw [decodeUnit_of_error hwhole herror] at hq
      exact ⟨_, y, _, hexec, hy, hq, fun c hc => tfind_foldl_damageUnit_of_mem p.cus hc,
        fun c hc => tfind_foldl_damageUnit_of_not_mem p.cus hc, rfl, rfl, rfl⟩
  · rintro u rfl hcore hdecode hlive hable hnew hnext hrunning haccepted hroom hinside
    have hp := picOf_beginDecode (atTime s u.t) hnew
    have hexec := Decodes.exec_of_new ⟨hs, hcore, hx, hdecode, hlive, hable⟩ ⟨hnew, hnext, hrunning, haccepted, hroom⟩ hp
      ⟨rfl, rfl, hinside⟩
    obtain ⟨y, hy, hq, hstarted, hposition, hbusy⟩ :=
      unitDecoded_found (s := atTime s u.t) (x := beginDecode (atTime s u.t) x u) hid hp
    obtain ⟨-, hqhead, hqgoing⟩ := decodeUnit_frame (beginDecode (atTime s u.t) x u) (freshPicture (atTime s u.t) x u) u
    exact ⟨_, y, _, hexec, hy, hq, hqhead, hqgoing, hstarted, hposition, hbusy⟩
  · intro core pic row p hcore hp hgoing hwaits
    obtain ⟨hqid, hcus, hleft⟩ := commitDecoded_frame (atTime s w) core row p
    exact ⟨_, _, _, exec_decodeRowCommit hs hcore hx hp hgoing hwaits, hid ▸ sessById_rowDone _ _ _ _,
      picOf_picPut hp (hqid.trans (id_of_picOf hp)), hleft, hcus, mem_rowsDone_commitDecoded, decoding_rowDone⟩
  · intro pic bits consumed bad p hp hgoing hdone href hlive
    subst hid
    obtain ⟨hqid, hqref⟩ := closePicture_frame x p bits bad
    exact ⟨_, _, exec_decodePictureEnd hs hx hp hgoing hdone, sessById_endDecode _ p bits consumed bad hlive,
      picOf_dropPics (picOf_decodeEnded hp (hqid.trans (id_of_picOf hp)) _ _) (by simp [picStays, hqref, href]), rfl, rfl, rfl⟩
  · intro pic p hdecode hp hready
    exact exec_decodeOutputStart hs hx hdecode hp hready

end Sys2Proof.Machine
end

section
/-! PROOFS. The bands of the picture processing units (R145, R147, R257; log entries 13 to 15 and 38): what a source that arrives and a band
that is read leave, and one lemma per direction of the PPU. -/

namespace Sys2Proof.Machine

/-! ### A source that arrives (R251, R259) -/

theorem arrivingSource_frame (s : State) (x : Session) (i : PpuInput) :
    (arrivingSource s x i).id = x.id ∧ (arrivingSource s x i).decode = x.decode ∧ (arrivingSource s x i).state = x.state ∧
      (arrivingSource s x i).enc.frames = x.enc.frames ∧ (∀ f, cfgAt (arrivingSource s x i) f = cfgAt x f) := by
  unfold arrivingSource
  split
  · split <;> exact ⟨rfl, rfl, rfl, rfl, fun _ => rfl⟩
  · exact ⟨rfl, rfl, rfl, rfl, fun _ => rfl⟩

theorem arrivingSource_of_decode (s : State) {x : Session} (i : PpuInput) (h : x.decode = true) : arrivingSource s x i = x := by
  simp [arrivingSource, h]

/-! ### PPU_BAND (R145, R147, R257) -/

/-- Completing a picture and writing its rungs changes no session. -/
theorem sessions_sourceDone (s : State) (x : Session) (p : SubPicture) (fn : Nat) (c : Bytes) (frame : Nat) (src : List Plane) :
    (writeRungs (completeSource s x p) fn c frame src).sessions = s.sessions := by
  simp

/-- A band of a source picture is written into the picture, whether or not the last row then completes it. -/
theorem ppuSource_found (s : State) {x : Session} {p : SubPicture} (i : PpuInput) (hp : sourceOf x p.frame = some p) :
    ∃ y q, sessById (ppuSource s x p i) x.id = some y ∧ sourceOf y p.frame = some q ∧ q.rows = i.rows ∧
      q.complete = (p.complete || decide (srcH (cfgAt x p.frame) ≤ i.rows)) ∧ y.enc.frames = x.enc.frames ∧ y.state = x.state := by
  unfold ppuSource
  dsimp only
  split
  · rw [sessById_eq_of_sessions (sessions_sourceDone _ _ _ _ _ _ _)]
    exact ⟨_, _, sessById_sessPut_of_id s rfl, sourceOf_sourcePut hp (by rfl), rfl, rfl, rfl, rfl⟩
  · exact ⟨_, _, sessById_sessPut_of_id s rfl, sourceOf_sourcePut hp (by rfl), rfl, rfl, rfl, rfl⟩

/-- A cluster whose PPU works for the session of a band, which is neither new nor stopped. -/
structure ServesBand (s : State) (k w : Nat) (i : PpuInput) (x : Session) : Prop where
  awake : asleep s = false
  cluster : k < 4
  found : sessById s i.session = some x
  serves : ppuServes (atTime s w) x k = true
  begun : x.state ≠ .created
  going : x.state ≠ .stopped

section
variable {s : State} {k w : Nat} {i : PpuInput} {x : Session}

theorem ServesBand.exec_of_source (h : ServesBand s k w i x) {p : SubPicture} (henc : x.decode = false)
    (hp : sourceOf (arrivingSource (atTime s w) x i) i.frame = some p)
    (hrows : rowsReadable (atTime s w) (arrivingSource (atTime s w) x i) p i.rows = true) :
    exec (.ppuBand k i w) s = .next (ppuSource (atTime s w) (arrivingSource (atTime s w) x i) p i) := by
  obtain ⟨hs, hk, hx, hserves, hbegun, hgoing⟩ := h
  obtain ⟨-, hdecode, -, -, -⟩ := arrivingSource_frame (atTime s w) x i
  have hunit : isCluster k = true := decide_eq_true hk
  change execPpuBand k i w s = _
  simp [execPpuBand, hunit, hs, hx, hserves, hbegun, hgoing, hdecode, henc, hp, hrows]

theorem ServesBand.exec_of_decoded (h : ServesBand s k w i x) (hdecode : x.decode = true) :
    exec (.ppuBand k i w) s = .next (ppuOutput (atTime s w) x i) := by
  obtain ⟨hs, hk, hx, hserves, hbegun, hgoing⟩ := h
  have hunit : isCluster k = true := decide_eq_true hk
  change execPpuBand k i w s = _
  simp [execPpuBand, hunit, hs, hx, hserves, hbegun, hgoing, hdecode, arrivingSource_of_decode]

end

/-- Settles O35: a band is one write of the picture's read position, read back, or of the output of a decoded picture. -/
theorem ppuBandsComplete : Obligations.PpuBandsComplete := by
  intro s k w i x hs hk hx hserves hbegun hgoing
  have hband : ServesBand s k w i x := ⟨hs, hk, hx, hserves, hbegun, hgoing⟩
  refine ⟨fun p henc hp hrows => ?_, hband.exec_of_decoded⟩
  obtain ⟨hid, -, hstate, hframes, hcfg⟩ := arrivingSource_frame (atTime s w) x i
  have hframe := frame_of_sourceOf hp
  obtain ⟨y, q, hy, hq, hread, hcomplete, hyframes, hystate⟩ := ppuSource_found (atTime s w) i (hframe.symm ▸ hp)
  rw [hid, id_of_sessById hx] at hy
  rw [hframe] at hq
  rw [hcfg] at hcomplete
  exact ⟨_, y, q, hband.exec_of_source henc hp hrows, hy, hq, hread, hcomplete, hyframes.trans hframes, hystate.trans hstate,
    by simp, by simp⟩

end Sys2Proof.Machine
end

section
/-! PROOFS. Pictures, streams and buffers that host software hands over (R131, R257 to R260; log entries 18 and 71): what admitting, feeding,
sending and pouring leave of a session, and one lemma per command and case. -/

namespace Sys2Proof.Machine

/-! ### SUBMIT_PICTURE (R257) -/

@[simp] theorem markStarted_out (s : State) (r : CmdRef) : (markStarted s r).out = s.out := by
  unfold markStarted editFlight
  split <;> simp

/-- Is a picture one of the first SUBMIT_DEPTH that wait, or admitted already? -/
def readAdmitted (x : Session) (p : SubPicture) : Bool :=
  (((x.enc.submitted.filter (fun p => !p.complete)).take (u16 x.cfg 0x012)).map (·.frame)).contains p.frame || p.read

/-- A session whose pictures are marked for reading. -/
def withReads (x : Session) (f : SubPicture → Bool) : Session :=
  { x with enc := { x.enc with submitted := x.enc.submitted.map (fun p => { p with read := f p }) } }

/-- Admitting pictures for reading marks them and changes no more. -/
theorem admitReads_eq (x : Session) : ∃ f, admitReads x = withReads x f := by
  unfold admitReads
  dsimp only
  split
  · exact ⟨SubPicture.read, by simp [withReads]⟩
  · refine ⟨readAdmitted x, ?_⟩
    have hmark (p : SubPicture) : { p with read := readAdmitted x p } =
        if (((x.enc.submitted.filter (fun p => !p.complete)).take (u16 x.cfg 0x012)).map (·.frame)).contains p.frame then
          { p with read := true } else p := by
      unfold readAdmitted
      generalize List.contains _ p.frame = c
      cases c <;> rfl
    simp only [withReads, hmark]

/-- The picture that a SUBMIT_PICTURE brings. -/
def submittedPicture (s : State) (r : CmdRef) (e : Bytes) : SubPicture :=
  { cid := r.cid, qid := r.qid, frame := u64 e 24, read := false, since := ((inFlight s r).map (·.fetched)).getD s.now, stamp := 0,
    rows := 0, complete := false, coded := [], quarter := [], arrived := [], cll := none }

/-- A session with one more source picture. -/
def withPicture (x : Session) (p : SubPicture) : Session :=
  { x with enc := { x.enc with nextSubmit := x.enc.nextSubmit + 1, submitted := x.enc.submitted ++ [p] } }

/-- A picture that is submitted is the last, admitted for reading or not. -/
theorem submitted_frame (x : Session) (p : SubPicture) (f : SubPicture → Bool) :
    (withReads (withPicture x p) f).id = x.id ∧
      (withReads (withPicture x p) f).enc.nextSubmit = x.enc.nextSubmit + 1 ∧
      (withReads (withPicture x p) f).enc.submitted.length = x.enc.submitted.length + 1 ∧
      (withReads (withPicture x p) f).enc.submitted.getLast? = some { p with read := f p } :=
  ⟨rfl, rfl, by simp [withReads, withPicture], by simp [withReads, withPicture]⟩

theorem exec_submitPicture_of_accepted {s : State} {r : CmdRef} {i : InFlight} {x : Session} (hx : targetOf s r.fn i.entry = some x)
    (h : Starts s r 0x40 i) (hchk : chkSubmit s x i.entry = none) :
    exec (.submitPicture r) s = .next (sessPut (markStarted s r)
      (admitReads (withPicture x (submittedPicture (markStarted s r) r i.entry)))) := by
  change execSubmitPicture r s = _
  unfold execSubmitPicture
  rw [serve_session _ h hx (hchk : chkSubmit (markStarted s r) x i.entry = none)]
  rfl

/-! ### SUBMIT_BITSTREAM (R131, R257) -/

theorem length_memRead (m : Mem) (a n : Nat) : (memRead m a n).length = n := by
  induction n generalizing a with
  | zero => rfl
  | succ n ih => rw [memRead, List.length_cons, ih]

/-- A command reads as many bytes as its data buffer has. -/
theorem length_readData (s : State) (fn : Nat) (e d : Bytes) : (readData s fn e d).length = cmdDataLen e := by
  unfold readData
  split
  · exact length_memRead _ _ _
  · simp only [padTo, zeros, List.length_take, List.length_append, List.length_replicate]
    omega

theorem feed_frame (s : State) (x : Session) (b : Bytes) :
    (feed s x b).id = x.id ∧ (feed s x b).dec.stream = x.dec.stream + b.length ∧
      (feed s x b).dec.pendingIn = x.dec.pendingIn ∧ (feed s x b).dec.endOfStream = x.dec.endOfStream := by
  unfold feed
  cases x.nextKey <;> exact ⟨rfl, rfl, rfl, rfl⟩

/-- A session whose SUBMIT_BITSTREAM waits for its bytes to be consumed. -/
def withBitstream (y : Session) (r : CmdRef) (e b : Bytes) : Session :=
  { y with dec := { y.dec with endOfStream := y.dec.endOfStream || bitOf (u8 e 24) 0,
                               pendingIn := y.dec.pendingIn ++ [(r.qid, r.cid, b.length)] } }

/-- What the waiting SUBMIT_BITSTREAM leaves and adds. -/
theorem withBitstream_frame (y : Session) (r : CmdRef) (e b : Bytes) :
    (withBitstream y r e b).id = y.id ∧ (withBitstream y r e b).dec.stream = y.dec.stream ∧
      (withBitstream y r e b).dec.pendingIn = y.dec.pendingIn ++ [(r.qid, r.cid, b.length)] ∧
      (withBitstream y r e b).dec.endOfStream = (y.dec.endOfStream || bitOf (u8 e 24) 0) := ⟨rfl, rfl, rfl, rfl⟩

/-- The bytes of a SUBMIT_BITSTREAM are in the session's stream, and the command waits for them to be consumed. -/
theorem fed_frame (s : State) (x : Session) (r : CmdRef) (e b : Bytes) :
    (withBitstream (feed s x b) r e b).id = x.id ∧ (withBitstream (feed s x b) r e b).dec.stream = x.dec.stream + b.length ∧
      (withBitstream (feed s x b) r e b).dec.pendingIn = x.dec.pendingIn ++ [(r.qid, r.cid, b.length)] ∧
      (withBitstream (feed s x b) r e b).dec.endOfStream = (x.dec.endOfStream || bitOf (u8 e 24) 0) := by
  obtain ⟨hid, hstream, hpending, hend⟩ := feed_frame s x b
  obtain ⟨hid', hstream', hpending', hend'⟩ := withBitstream_frame (feed s x b) r e b
  rw [hid', hstream', hpending', hend', hid, hstream, hpending, hend]
  exact ⟨rfl, rfl, rfl, rfl⟩

theorem exec_submitBitstream_of_live {s : State} {r : CmdRef} {i : InFlight} {x : Session} {d : Bytes}
    (hx : targetOf s r.fn i.entry = some x) (h : Starts s r 0x41 i) (hdecode : x.decode = true) (hsource : u8 x.cfg 0x14 = 0)
    (hstate : x.state = .running ∨ x.state = .resync) (hsec : securityStops (markStarted s r) x = false) :
    exec (.submitBitstream r d) s = .next (sessPut (markStarted s r) (withBitstream
      (feed (markStarted s r) x (readData s r.fn i.entry d)) r i.entry (readData s r.fn i.entry d))) := by
  change execSubmitBitstream r d s = _
  unfold execSubmitBitstream
  rw [serve_session _ h hx (by obtain hs | hs := hstate <;> simp [hdecode, hsource, hs])]
  simp only [hsec, readData_markStarted]
  rfl

/-! ### What sending leaves of a session -/

/-- The session is the same one, in the same state and with the same ends of sequences. -/
@[simp] abbrev KeepsPlace (y x : Session) : Prop := y.id = x.id ∧ y.state = x.state ∧ y.enc.seqEnds = x.enc.seqEnds

@[simp] theorem withPack_place (x : Session) (p : PackState) : KeepsPlace (withPack x p) x := ⟨rfl, rfl, rfl⟩

@[simp] theorem coded_place (x : Session) (first : Bool) (b : Bytes) : KeepsPlace (coded x first b).2 x := by
  unfold coded
  split <;> simp

@[simp] theorem rekey_place (x : Session) : KeepsPlace (rekey x) x := by
  unfold rekey
  split <;> simp

@[simp] theorem closeChunks_place (n : Nat) (last : Bool) (x : Session) : KeepsPlace (closeChunks n last x) x := by
  induction n generalizing x with
  | zero => simp [closeChunks]
  | succ n ih =>
    unfold closeChunks
    dsimp only
    split
    · simp
    · simpa using ih _

@[simp] theorem toMemory_place (x : Session) (b : Bytes) : KeepsPlace (toMemory x b) x := by
  unfold toMemory
  dsimp only
  (repeat' split) <;> simp

@[simp] theorem putPacket_place (s : State) (x : Session) (kind : Nat) (b : Bytes) : KeepsPlace (putPacket s x kind b).2 x := by
  unfold putPacket
  split <;> simp

@[simp] theorem sendRtp_place (s : State) (x : Session) (time : Nat) (payload : Bytes) (marker : Bool) :
    KeepsPlace (sendRtp s x time payload marker).2 x := by
  unfold sendRtp
  simp

@[simp] theorem holdPayload_place (s : State) (x : Session) (time : Nat) (p : Bytes) : KeepsPlace (holdPayload s x time p).2 x := by
  unfold holdPayload
  cases x.enc.pack.held <;> simp

@[simp] theorem closeAggregate_place (s : State) (x : Session) (time : Nat) : KeepsPlace (closeAggregate s x time).2 x := by
  unfold closeAggregate
  split <;> simp

@[simp] theorem sendFragments_place (n : Nat) (s : State) (x : Session) (time : Nat) :
    KeepsPlace (sendFragments n s x time).2 x := by
  induction n generalizing s x with
  | zero => simp [sendFragments]
  | succ n ih =>
    unfold sendFragments
    dsimp only
    (repeat' split) <;> simp [ih]

@[simp] theorem toRtp_place (s : State) (x : Session) (time : Nat) (b : Bytes) (last : Bool) :
    KeepsPlace (toRtp s x time b last).2 x := by
  unfold toRtp
  dsimp only
  (repeat' split) <;> simp

@[simp] theorem sendDatagram_place (s : State) (x : Session) (all : Bool) : KeepsPlace (sendDatagram s x all).2 x := by
  unfold sendDatagram
  dsimp only
  split <;> simp

@[simp] theorem putTs_place (s : State) (x : Session) (pid : Nat) (start : Bool) (p : Bytes) :
    KeepsPlace (putTs s x pid start p).2 x := by
  unfold putTs
  simp

@[simp] theorem drainPes_place (n : Nat) (s : State) (x : Session) : KeepsPlace (drainPes n s x).2 x := by
  induction n generalizing s x with
  | zero => simp [drainPes]
  | succ n ih =>
    unfold drainPes
    dsimp only
    split <;> simp [ih]

@[simp] theorem toTs_place (s : State) (x : Session) (b : Bytes) : KeepsPlace (toTs s x b).2 x := by
  unfold toTs
  simp

@[simp] theorem sendPiece_place (s : State) (x : Session) (time : Nat) (b : Bytes) (first last : Bool) :
    KeepsPlace (sendPiece s x time b first last).2 x := by
  unfold sendPiece
  dsimp only
  split <;> simp

@[simp] theorem sendUnits_place (s : State) (x : Session) (time : Nat) (l : List Bytes) :
    KeepsPlace (sendUnits s x time l).2 x := by
  refine List.foldlRecOn (motive := fun q : State × Session => KeepsPlace q.2 x) l _ (by simp) fun q hq b _ => ?_
  split
  · exact hq
  · simpa using hq

@[simp] theorem closeUnit_place (s : State) (x : Session) (time : Nat) (ends : Bool) :
    KeepsPlace (closeUnit s x time ends).2 x := by
  unfold closeUnit
  dsimp only
  (repeat' split) <;> simp

@[simp] theorem endSequence_place (s : State) (x : Session) : KeepsPlace (endSequence s x).2 x := by
  unfold endSequence
  (repeat' split) <;> simp

/-! ### Pouring the backlog (R258, R259) -/

@[simp] theorem admitReads_place (x : Session) : KeepsPlace (admitReads x) x := by
  obtain ⟨f, hf⟩ := admitReads_eq x
  rw [hf]
  exact ⟨rfl, rfl, rfl⟩

@[simp] theorem closeBuffer_place (s : State) (x : Session) (detail : Nat) : KeepsPlace (closeBuffer s x detail).2 x := by
  unfold closeBuffer
  split <;> simp

@[simp] theorem pourItem_place (n : Nat) (s : State) (x : Session) : KeepsPlace (pourItem n s x).2 x := by
  induction n generalizing s x with
  | zero => simp [pourItem]
  | succ n ih =>
    unfold pourItem
    dsimp only
    (repeat' split) <;> simp [ih]

theorem pourItem_of_empty (n : Nat) (s : State) {x : Session} (h : x.enc.backlog = []) : pourItem n s x = (s, x) := by
  cases n with
  | zero => rfl
  | succ n => simp only [pourItem, h]

/-- A session whose one buffer holds what waited. -/
def withPoured (x : Session) (b : OutBuffer) : Session := { x with enc := { x.enc with buffers := [b], backlog := [] } }

/-- An item that fits an empty buffer with room to spare fills it and leaves it open. -/
theorem pourItem_of_fits (n : Nat) (s : State) {x : Session} {item : Bytes} {b : OutBuffer} (hbacklog : x.enc.backlog = [item])
    (hbuffers : x.enc.buffers = [b]) (hopen : b.filled = []) (hsome : item ≠ []) (hroom : item.length < b.size)
    (hformat : u8 x.cfg 0x184 ≠ 2) : pourItem (n + 1) s x = (s, withPoured x { b with filled := item }) := by
  have htake : item.take b.size = item := List.take_of_length_le (Nat.le_of_lt hroom)
  have hdrop : item.drop b.size = [] := List.drop_of_length_le (Nat.le_of_lt hroom)
  have hleft : b.size - item.length ≠ 0 := by omega
  have hdone : pourItem n s (withPoured x { b with filled := item }) = (s, withPoured x { b with filled := item }) :=
    pourItem_of_empty n s rfl
  rw [← hdone]
  simp [pourItem, hbacklog, hbuffers, hopen, hsome, hformat, OutBuffer.room, htake, hdrop, hleft, withPoured]

/-! ### Settling the output (R258 to R260) -/

/-- The session when its backlog is poured and its pictures are admitted. -/
def poured (s : State) (x : Session) : Session := admitReads (pourItem 4096 s x).2

theorem settleOutput_eq (s : State) {id : Nat} {x : Session} (hx : sessById s id = some x) :
    settleOutput s id = settleSession (sessPut (pourItem 4096 s x).1 (poured s x)) id := by
  unfold settleOutput poured
  rw [hx]
  dsimp only
  generalize pourItem 4096 s x = r
  rfl

theorem poured_place (s : State) (x : Session) : KeepsPlace (poured s x) x := by
  unfold poured
  simp

/-- Settling the output of a session that is not stopping writes the session as pouring and admitting leave it. -/
theorem settleOutput_of_live {s : State} {id : Nat} {x : Session} (hx : sessById s id = some x) (h : x.state ≠ .stopping) :
    settleOutput s id = settleFlush (sessPut (pourItem 4096 s x).1 (poured s x)) (poured s x) := by
  obtain ⟨hid, hstate, -⟩ := poured_place s x
  rw [settleOutput_eq s hx]
  exact settleSession_of_live (sessById_sessPut_of_id _ (hid.trans (id_of_sessById hx))) (by rwa [hstate])

theorem sessById_settleOutput {s : State} {id : Nat} {x : Session} (hx : sessById s id = some x) (h : x.state ≠ .stopping) :
    sessById (settleOutput s id) id = some (poured s x) := by
  obtain ⟨hid, -, -⟩ := poured_place s x
  rw [settleOutput_of_live hx h, sessById_eq_of_sessions (settleFlush_sessions _ _)]
  exact sessById_sessPut_of_id _ (hid.trans (id_of_sessById hx))

theorem poured_of_empty (s : State) {x : Session} (h : x.enc.backlog = []) : ∃ f, poured s x = withReads x f := by
  rw [poured, pourItem_of_empty _ _ h]
  exact admitReads_eq x

theorem poured_of_fits (s : State) {x : Session} {item : Bytes} {b : OutBuffer} (hbacklog : x.enc.backlog = [item])
    (hbuffers : x.enc.buffers = [b]) (hopen : b.filled = []) (hsome : item ≠ []) (hroom : item.length < b.size)
    (hformat : u8 x.cfg 0x184 ≠ 2) : ∃ f, poured s x = withReads (withPoured x { b with filled := item }) f := by
  rw [poured, pourItem_of_fits 4095 s hbacklog hbuffers hopen hsome hroom hformat]
  exact admitReads_eq _

theorem settleOutput_hbm_of_empty {s : State} {id : Nat} {x : Session} (hx : sessById s id = some x) (h : x.state ≠ .stopping)
    (hempty : x.enc.backlog = []) : (settleOutput s id).hbm = s.hbm := by
  rw [settleOutput_of_live hx h, pourItem_of_empty _ _ hempty]
  simp

/-! ### RETURN_BUFFER (R258) -/

/-- The buffer that a RETURN_BUFFER brings. -/
def returnedBuffer (r : CmdRef) (e : Bytes) : OutBuffer := ⟨r.cid, r.qid, cmdDataPtr e, cmdInHbm e, cmdDataLen e, []⟩

/-- An encode session with one more buffer, no longer blocked. -/
def withBuffer (x : Session) (b : OutBuffer) : Session :=
  { x with blocked := false, enc := { x.enc with buffers := x.enc.buffers ++ [b] } }

/-- The state in which an encode session has taken a returned buffer. -/
def bufferTaken (s : State) (r : CmdRef) (x : Session) (e : Bytes) : State :=
  sessPut (markStarted s r) (withBuffer x (returnedBuffer r e))

theorem sessById_bufferTaken (s : State) (r : CmdRef) (x : Session) (e : Bytes) :
    sessById (bufferTaken s r x e) x.id = some (withBuffer x (returnedBuffer r e)) := sessById_sessPut_of_id _ rfl

section
variable {s : State} {r : CmdRef} {i : InFlight} {x : Session}

theorem exec_returnBuffer_of_decode (hx : targetOf s r.fn i.entry = some x) (h : Starts s r 0x42 i) (hdecode : x.decode = true)
    (hsink : u8 x.cfg 0x15 ≠ 1) (hsize : bufferMin x ≤ cmdDataLen i.entry) :
    exec (.returnBuffer r) s = .next (sessPut (markStarted s r)
      { x with dec := { x.dec with buffers := x.dec.buffers ++ [returnedBuffer r i.entry] } }) := by
  change execReturnBuffer r s = _
  unfold execReturnBuffer
  rw [serve_session _ h hx (by simp [hdecode, hsink, hsize]), if_pos hdecode]
  rfl

theorem exec_returnBuffer_of_encode (hx : targetOf s r.fn i.entry = some x) (h : Starts s r 0x42 i) (hdecode : x.decode = false)
    (hsink : cSink x.cfg = 0) (hsize : bufferMin x ≤ cmdDataLen i.entry) :
    exec (.returnBuffer r) s = .next (settleOutput (bufferTaken s r x i.entry) x.id) := by
  change execReturnBuffer r s = _
  unfold execReturnBuffer
  rw [serve_session _ h hx (by simp [hdecode, hsink, hsize]), if_neg (by simp [hdecode])]
  rfl

/-! ### FLUSH (R260) -/

theorem exec_flush_of_idle (hx : targetOf s r.fn i.entry = some x) (h : Starts s r 0x43 i) (hmode : u8 i.entry 24 ≤ 1)
    (hstate : x.state = .created ∨ x.state = .stopped) : exec (.flush r) s = .next (succeed (markStarted s r) r 0) := by
  change execFlush r s = _
  unfold execFlush
  rw [serve_session _ h hx (by obtain hs | hs := hstate <;> simp [hmode, hs]), if_pos (by obtain hs | hs := hstate <;> simp [hs])]

theorem exec_flush_of_live (hx : targetOf s r.fn i.entry = some x) (h : Starts s r 0x43 i) (hmode : u8 i.entry 24 = 0)
    (hstate : x.state = .running ∨ x.state = .resync) :
    exec (.flush r) s = .next (settleOutput (sessPut (markStarted s r) x) x.id) := by
  change execFlush r s = _
  unfold execFlush
  rw [serve_session _ h hx (by obtain hs | hs := hstate <;> simp [hmode, hs]), if_neg (by obtain hs | hs := hstate <;> simp [hs]),
    if_neg (by simp [hmode])]
  simp [hmode]

/-- An encode session that ends its sequence before the next picture submitted. -/
def withSequenceEnd (x : Session) : Session :=
  { x with enc := { x.enc with seqEnds := x.enc.seqEnds ++ [x.enc.nextSubmit],
                               pack := { x.enc.pack with eos := x.enc.pack.eos ++ [x.enc.nextSubmit] } } }

/-- The state and the session in which that end is sent, once everything before it is out. -/
def sequenceEnded (s : State) (r : CmdRef) (x : Session) : State × Session := endSequence (markStarted s r) (withSequenceEnd x)

theorem exec_flush_of_end (hx : targetOf s r.fn i.entry = some x) (h : Starts s r 0x43 i) (hmode : u8 i.entry 24 = 1)
    (hstate : x.state = .running ∨ x.state = .resync) (hdecode : x.decode = false) :
    exec (.flush r) s = .next (settleOutput (sessPut (sequenceEnded s r x).1 (sequenceEnded s r x).2) x.id) := by
  change execFlush r s = _
  unfold execFlush
  rw [serve_session _ h hx (by obtain hs | hs := hstate <;> simp [hmode, hs]), if_neg (by obtain hs | hs := hstate <;> simp [hs]),
    if_pos (by simp [hmode, hdecode])]
  rfl

end

/-- Settles O31: each command writes the session that TARGET names, and the session is read back after the output is settled. -/
theorem pictureBuffersComplete : Obligations.PictureBuffersComplete := by
  intro s r i x hx
  refine ⟨?_, ?_, ?_, ?_, ?_, exec_flush_of_idle hx, exec_flush_of_live hx, ?_⟩
  · intro h hchk
    obtain ⟨f, hf⟩ := admitReads_eq (withPicture x (submittedPicture (markStarted s r) r i.entry))
    obtain ⟨hid, hnext, hlength, hlast⟩ := submitted_frame x (submittedPicture (markStarted s r) r i.entry) f
    rw [exec_submitPicture_of_accepted hx h hchk, hf]
    exact ⟨_, _, _, rfl, sessById_sessPut_of_id _ hid, hnext, hlength, hlast, rfl, rfl, rfl, rfl, by simp, by simp⟩
  · intro d h hdecode hsource hstate hsec
    obtain ⟨hid, hstream, hpending, hend⟩ := fed_frame (markStarted s r) x r i.entry (readData s r.fn i.entry d)
    rw [length_readData] at hstream hpending
    rw [exec_submitBitstream_of_live hx h hdecode hsource hstate hsec]
    exact ⟨_, _, rfl, sessById_sessPut_of_id _ hid, hstream, hpending, hend, by simp, by simp⟩
  · exact exec_returnBuffer_of_decode hx
  · intro h hdecode hsink hsize hempty hlive
    obtain ⟨f, hf⟩ := poured_of_empty (bufferTaken s r x i.entry) (x := withBuffer x (returnedBuffer r i.entry)) hempty
    have hfound := sessById_settleOutput (sessById_bufferTaken s r x i.entry) hlive
    rw [hf] at hfound
    refine ⟨_, _, exec_returnBuffer_of_encode hx h hdecode hsink hsize, hfound, rfl, rfl, ?_⟩
    rw [settleOutput_hbm_of_empty (sessById_bufferTaken s r x i.entry) hlive hempty]
    simp [bufferTaken]
  · intro item h hdecode hsink hformat hsize hbacklog hsome hroom hbuffers hlive
    have hone : (withBuffer x (returnedBuffer r i.entry)).enc.buffers = [returnedBuffer r i.entry] := by simp [withBuffer, hbuffers]
    obtain ⟨f, hf⟩ := poured_of_fits (bufferTaken s r x i.entry) (x := withBuffer x (returnedBuffer r i.entry)) hbacklog hone rfl
      hsome hroom hformat
    have hfound := sessById_settleOutput (sessById_bufferTaken s r x i.entry) hlive
    rw [hf] at hfound
    exact ⟨_, _, exec_returnBuffer_of_encode hx h hdecode hsink hsize, hfound, rfl, rfl⟩
  · intro h hmode hstate hdecode
    obtain ⟨hid, hsame, hends⟩ : KeepsPlace (sequenceEnded s r x).2 (withSequenceEnd x) := endSequence_place _ _
    obtain ⟨-, hpoured, hkept⟩ := poured_place (sessPut (sequenceEnded s r x).1 (sequenceEnded s r x).2) (sequenceEnded s r x).2
    have hlive : (sequenceEnded s r x).2.state ≠ .stopping := by
      rw [hsame]
      obtain hs | hs := hstate <;> simp [withSequenceEnd, hs]
    exact ⟨_, _, exec_flush_of_end hx h hmode hstate hdecode, sessById_settleOutput (sessById_sessPut_of_id _ hid) hlive,
      hpoured.trans hsame, hkept.trans hends⟩

end Sys2Proof.Machine
end

section
/-! PROOFS. Receiving on the Crew Link (R380 to R382, R391, R394): what the shared writes of the fabric leave, and the ways that a
message may take (Table 19.4). -/

namespace Sys2Proof.Machine

/-! ### Reading after the writes of the fabric -/

@[simp] theorem fabSet_fabric (s : State) (f : FabricState → FabricState) : (fabSet s f).fabric = f s.fabric := rfl

@[simp] theorem memberPut_fabric (s : State) (m : Nat) (x : Member) :
    (memberPut s m x).fabric = { s.fabric with members := tset s.fabric.members m x } := rfl

@[simp] theorem sendClp_fabric (s : State) (kind dest : Nat) (l : List Nat) :
    (sendClp s kind dest l).fabric =
      { s.fabric with txSeq := tset s.fabric.txSeq dest ((tget 0 s.fabric.txSeq dest + 1) % 2 ^ 32) } := rfl

@[simp] theorem sendAcked_fabric (s : State) (kind dest : Nat) (l : List Nat) :
    (sendAcked s kind dest l).fabric =
      { s.fabric with
        txSeq := tset s.fabric.txSeq dest ((tget 0 s.fabric.txSeq dest + 1) % 2 ^ 32)
        unacked := s.fabric.unacked ++ [{ dest := dest, seq := tget 0 s.fabric.txSeq dest, kind := kind, tries := 0,
                                          sentAt := s.now, fields := l }] } := rfl

@[simp] theorem sessOfFabric_atTime (s : State) (t n : Nat) : sessOfFabric (atTime s t) n = sessOfFabric s n := rfl
@[simp] theorem sessOfFabric_heardAt (s : State) (h : ClpHdr) (n : Nat) : sessOfFabric (heardAt s h) n = sessOfFabric s n := rfl
@[simp] theorem heardAt_mode (s : State) (h : ClpHdr) : (heardAt s h).mode = s.mode := rfl
@[simp] theorem heardAt_member (s : State) (h : ClpHdr) : (heardAt s h).fabric.member = s.fabric.member := rfl
@[simp] theorem heardAt_epochs (s : State) (h : ClpHdr) : (heardAt s h).fabric.epochs = s.fabric.epochs := rfl
@[simp] theorem heardAt_now (s : State) (h : ClpHdr) : (heardAt s h).now = max s.now h.t := rfl

/-- The session that was written stands in its slot. -/
theorem tfind_sessPut_of_id (s : State) {y : Session} {id : Nat} (h : y.id = id) :
    tfind (sessPut s y).sessions (id % 256) = some y := by
  subst h
  exact tfind_tset _ _ _

/-! ### The ways a message may take (R380, R381, R394, Table 19.4) -/

theorem act_awake {s k : State} (hs : asleep s = false) : act s (!asleep s) k = .next k := by rw [hs]; rfl

theorem clpForeign_of_own {s : State} {h : ClpHdr} (hmac : h.macsec = true) (hfab : h.fabric = s.fabric.fabricId)
    (hmajor : h.verMajor = 1) : clpForeign s h = none := by
  simp [clpForeign, hmac, hfab, hmajor]

theorem clpIn_of_unprotected {s : State} {h : ClpHdr} (hmac : h.macsec = false) (kind : Nat) (i : Option Instr) (old : Bool)
    (k : State → State) (a : List Nat) :
    clpIn s h kind i old k a = fabSet (atTime s h.t) (fun f => { f with unprotected := f.unprotected + 1 }) := by
  simp [clpIn, clpForeign, hmac]

theorem clpIn_of_foreign {s : State} {h : ClpHdr} (hmac : h.macsec = true)
    (hforeign : h.fabric ≠ s.fabric.fabricId ∨ h.verMajor ≠ 1 ∨ s.fabric.joined = false ∨ h.term < s.fabric.term)
    (kind : Nat) (i : Option Instr) (old : Bool) (k : State → State) (a : List Nat) :
    clpIn s h kind i old k a = clpDiscard (atTime s h.t) := by
  by_cases hown : h.fabric = s.fabric.fabricId ∧ h.verMajor = 1
  · obtain ⟨hfab, hmajor⟩ := hown
    have hout : s.fabric.joined = false ∨ h.term < s.fabric.term := by simpa [hfab, hmajor] using hforeign
    have hnone : clpForeign (atTime s h.t) h = none := clpForeign_of_own hmac hfab hmajor
    have hdrop : (!s.fabric.joined || decide (h.term < s.fabric.term) || old) = true := by
      obtain h | h := hout <;> simp [h]
    simp only [clpIn, hnone, atTime_frame, hdrop, if_true]
  · have hsome : clpForeign (atTime s h.t) h = some (clpDiscard (atTime s h.t)) := by
      have hor : h.fabric ≠ s.fabric.fabricId ∨ h.verMajor ≠ 1 := Classical.not_and_iff_not_or_not.1 hown
      simp [clpForeign, hmac, hor]
    simp only [clpIn, hsome]

/-- A member does not drop a message of its fabric's TERM or a later one. -/
theorem not_dropped_of_term {s : State} {h : ClpHdr} (hjoined : s.fabric.joined = true) (hterm : s.fabric.term ≤ h.term) :
    (!s.fabric.joined || decide (h.term < s.fabric.term) || false) = false := by
  simp [hjoined, hterm]

/-- A message of an epoch that is not known here waits, and the manager is asked for the epoch (R394). -/
theorem clpIn_of_newer {s : State} {h : ClpHdr} {i : Instr} (hmac : h.macsec = true) (hfab : h.fabric = s.fabric.fabricId)
    (hmajor : h.verMajor = 1) (hjoined : s.fabric.joined = true) (hterm : s.fabric.term ≤ h.term) (hmode : s.mode ≠ .manager)
    (hepoch : heldEpoch s < h.epoch) (kind : Nat) (k : State → State) (a : List Nat) :
    clpIn s h kind (some i) false k a = fabSet (sendClp (atTime s h.t) 0x0C s.fabric.manager [])
      (fun f => { f with heldMsgs := f.heldMsgs ++ [(i, h.epoch, max s.now h.t)] }) := by
  have hnone : clpForeign (atTime s h.t) h = none := clpForeign_of_own hmac hfab hmajor
  have hmgr : (s.mode == .manager && decide (s.fabric.term < h.term)) = false := by simp [hmode]
  have hheld : ((some i).isSome && decide (heldEpoch (atTime s h.t) < h.epoch)) = true := by
    have hlt : heldEpoch (atTime s h.t) < h.epoch := hepoch
    simp [hlt]
  simp only [clpIn, hnone, atTime_frame, not_dropped_of_term hjoined hterm, hmgr, hheld, Bool.false_eq_true, if_false, if_true]
  rfl

/-- A message that is heard has its effect, and then its acknowledgement. -/
theorem clpIn_of_heard {s : State} {h : ClpHdr} {old : Bool} (hh : Heard s h) (hold : old = false) (kind : Nat) (i : Option Instr)
    (k : State → State) (a : List Nat) : clpIn s h kind i old k a = clpAck (k (heardAt s h)) h kind a := by
  subst hold
  have hnone : clpForeign (atTime s h.t) h = none := clpForeign_of_own hh.macsec hh.fabric hh.major
  have hstays : (s.mode == .manager && decide (s.fabric.term < h.term)) = false := by
    cases hm : s.mode == .manager
    · rfl
    · simp [hh.manager (by simpa using hm)]
  have hknown : (i.isSome && decide (heldEpoch (atTime s h.t) < h.epoch)) = false := by
    have hle : h.epoch ≤ heldEpoch (atTime s h.t) := hh.epoch
    simp [hle]
  have hfresh : rxDup (atTime s h.t) h = false := hh.fresh
  simp only [clpIn, hnone, atTime_frame, not_dropped_of_term hh.joined hh.term, hstays, hknown, hfresh, Bool.false_eq_true, if_false]
  rfl

end Sys2Proof.Machine
end

section
/-! PROOFS. A device that is draining no member stays so while it takes statistics (R177, R188, R189, R396): no operation that
settles a divergence begins a drain. -/

namespace Sys2Proof.Machine

@[simp] theorem ite_draining (c : Prop) [Decidable c] (a b : FabricState) :
    (if c then a else b).draining = if c then a.draining else b.draining :=
  apply_ite FabricState.draining c a b

@[simp] theorem foldl_draining {α : Type} {f : State → α → State}
    (h : ∀ s a, (f s a).fabric.draining = s.fabric.draining) (l : List α) (s : State) :
    (l.foldl f s).fabric.draining = s.fabric.draining :=
  foldl_view (·.fabric.draining) h l s

/-! ### Roles and their holders (R378, R383, R387) -/

@[simp] theorem copyToStandby_draining (s : State) (kind m : Nat) (l : List Nat) :
    (copyToStandby s kind m l).fabric.draining = s.fabric.draining := by
  unfold copyToStandby
  dsimp only
  split <;> rfl

@[simp] theorem sendAssign_draining (s : State) (m session role region from_ : Nat) (c : Bytes) :
    (sendAssign s m session role region from_ c).fabric.draining = s.fabric.draining := by
  simp [sendAssign]

@[simp] theorem addRole_draining (s : State) (m session region role : Nat) :
    (addRole s m session region role).fabric.draining = s.fabric.draining := by
  unfold addRole
  split <;> simp

@[simp] theorem dropRole_draining (s : State) (m session region role : Nat) :
    (dropRole s m session region role).fabric.draining = s.fabric.draining := by
  unfold dropRole
  split <;> simp

@[simp] theorem editSession_fabric (s : State) (id : Nat) (f : Session → Session) : (editSession s id f).fabric = s.fabric := by
  unfold editSession
  split <;> simp

@[simp] theorem giveRole_draining (s : State) (id m region role from_ : Nat) :
    (giveRole s id m region role from_).fabric.draining = s.fabric.draining := by
  unfold giveRole
  split <;> simp

@[simp] theorem takeRole_draining (s : State) (id m region role : Nat) :
    (takeRole s id m region role).fabric.draining = s.fabric.draining := by
  unfold takeRole
  split <;> simp

@[simp] theorem reassign_draining (s : State) (x : Session) (region role : Nat) (l : List Nat) :
    (reassign s x region role l).fabric.draining = s.fabric.draining := by
  unfold reassign
  split <;> simp

/-! ### Losing a member or a divergence (R178, R188 to R190, R387) -/

@[simp] theorem fenceSelf_draining (s : State) (x : Session) : (fenceSelf s x).fabric.draining = s.fabric.draining := by
  simp [fenceSelf]

@[simp] theorem enterResync_draining (s : State) (x : Session) : (enterResync s x).fabric.draining = s.fabric.draining := by
  unfold enterResync
  split <;> simp

@[simp] theorem sendPromote_draining (s : State) (x : Session) (region dst : Nat) :
    (sendPromote s x region dst).fabric.draining = s.fabric.draining := by
  simp [sendPromote]

@[simp] theorem promote_draining (s : State) (id session region lost : Nat) :
    (promote s id session region lost).fabric.draining = s.fabric.draining := by
  unfold promote
  dsimp only
  (repeat' split) <;> simp

@[simp] theorem loseRole_draining (s : State) (lost : Nat) (r : Nat × Nat × Nat) :
    (loseRole s lost r).fabric.draining = s.fabric.draining := by
  unfold loseRole
  dsimp only
  (repeat' split) <;> simp

@[simp] theorem commitEpoch_draining (s : State) (p : EpochChange) : (commitEpoch s p).fabric.draining = s.fabric.draining :=
  foldl_draining (f := fun s m => sendAcked s 0x0C m (epochFields s p 1 m)) (fun _ _ => rfl) (epochMembers s) s

@[simp] theorem settleEpoch_draining (s : State) : (settleEpoch s).fabric.draining = s.fabric.draining := by
  unfold settleEpoch
  split <;> simp

@[simp] theorem loseMember_draining (s : State) (m reason : Nat) (tell : Bool) :
    (loseMember s m reason tell).fabric.draining = s.fabric.draining := by
  unfold loseMember
  split <;> simp

@[simp] theorem setMode_draining (s : State) (m : OpMode) : (setMode s m).fabric.draining = s.fabric.draining := by
  simp [setMode]

/-- A device that leaves its fabric drains no member. -/
@[simp] theorem leaveFabric_draining (s : State) : (leaveFabric s).fabric.draining = none := by
  simp [leaveFabric]

theorem class4_draining {s : State} (h : s.fabric.draining = none) : (class4 s).fabric.draining = none := by
  unfold class4
  dsimp only
  (repeat' split) <;> simp [h]

theorem loseDivergence_draining {s : State} (m : Nat) (h : s.fabric.draining = none) :
    (loseDivergence s m).fabric.draining = none := by
  unfold loseDivergence
  split
  · exact class4_draining (by simpa using h)
  · simpa using h

theorem noMajority_draining {s : State} (x : Session) (d : Divergence) (h : s.fabric.draining = none) :
    (noMajority s x d).fabric.draining = none := by
  simp [noMajority, loseDivergence_draining, h]

theorem diverge_draining {s : State} (x : Session) (frame unit : Nat) (a b : Nat × Option UnitStats)
    (h : s.fabric.draining = none) :
    (diverge s x frame unit a b).fabric.draining = none := by
  unfold diverge
  dsimp only
  split
  · exact h
  · split
    · simpa using h
    · split
      · exact noMajority_draining _ _ (by simpa using h)
      · split <;> simpa using h

/-- Taking statistics begins no drain. -/
theorem takeStats_draining {s : State} (x : Session) (from_ frame unit : Nat) (u : UnitStats) (h : s.fabric.draining = none) :
    (takeStats s x from_ frame unit u).fabric.draining = none := by
  unfold takeStats
  dsimp only
  split
  · exact h
  · split
    · simpa using h
    · split
      · simpa using h
      · exact diverge_draining _ _ _ _ _ (by simpa using h)

/-- Without a drain, statistics that were taken ask for nothing more. -/
theorem drainStats_takeStats {s : State} (h : s.fabric.draining = none) (x : Session) (from_ frame unit : Nat) (u : UnitStats) :
    drainStats (takeStats s x from_ frame unit u) x from_ frame unit = takeStats s x from_ frame unit u := by
  simp only [drainStats, takeStats_draining x from_ frame unit u h]

end Sys2Proof.Machine
end

section
/-! PROOFS. The messages of a distributed session, of time qualification and of epochs, and acknowledgements (R175, R177, R183 to
R191, R381 to R384, R387, R391, R393): one lemma per message and case. -/

namespace Sys2Proof.Machine

section
variable {s : State} {h : ClpHdr} {session frame : Nat} {x : Session}

/-! ### Messages that are discarded or held (R380, R381, R394) -/

theorem exec_leaseRenew_of_unprotected (hs : asleep s = false) (hmac : h.macsec = false) (st un : Nat) (off : Int) (gm : Nat) :
    exec (.leaseRenew h st un off gm) s =
      .next (fabSet (atTime s h.t) (fun f => { f with unprotected := f.unprotected + 1 })) := by
  change execLeaseRenew h st un off gm s = _
  rw [execLeaseRenew, act_awake hs, leaseRenewIn, clpIn_of_unprotected hmac]

theorem exec_leaseRenew_of_foreign (hs : asleep s = false) (hmac : h.macsec = true)
    (hforeign : h.fabric ≠ s.fabric.fabricId ∨ h.verMajor ≠ 1 ∨ s.fabric.joined = false ∨ h.term < s.fabric.term)
    (st un : Nat) (off : Int) (gm : Nat) :
    exec (.leaseRenew h st un off gm) s = .next (clpDiscard (atTime s h.t)) := by
  change execLeaseRenew h st un off gm s = _
  rw [execLeaseRenew, act_awake hs, leaseRenewIn, clpIn_of_foreign hmac hforeign]

theorem exec_commit_of_newer (hs : asleep s = false) (hmac : h.macsec = true) (hfab : h.fabric = s.fabric.fabricId)
    (hmajor : h.verMajor = 1) (hjoined : s.fabric.joined = true) (hterm : s.fabric.term ≤ h.term) (hmode : s.mode ≠ .manager)
    (hepoch : heldEpoch s < h.epoch) (received released : Nat) :
    exec (.commit h session frame received released) s = .next (fabSet (sendClp (atTime s h.t) 0x0C s.fabric.manager [])
      (fun f => { f with heldMsgs := f.heldMsgs ++ [(.commit h session frame received released, h.epoch, max s.now h.t)] })) := by
  change execCommit h session frame received released s = _
  rw [execCommit, act_awake hs, commitIn, clpIn_of_newer hmac hfab hmajor hjoined hterm hmode hepoch]

/-! ### ASSIGN (R383) -/

theorem exec_assign_of_own {role region : Nat} {c : Bytes} (hh : Heard s h) (hepoch : epochFor s session frame ≤ h.epoch)
    (hok : assignOk s h session role region c = true) (hok' : assignOk (heardAt s h) h session role region c = true)
    (hdest : h.dest = s.fabric.member) :
    exec (.assign h session role region frame c) s =
      .next (clpAck (assignOwn (heardAt s h) session role region frame c) h 0x05 []) := by
  change execAssign h session role region frame c s = _
  rw [execAssign, act_awake hh.awake, assignIn, clpIn_of_heard hh (by simpa using hepoch)]
  simp only [hok, hok', heardAt_member, hdest, if_true, Bool.not_true, Bool.false_eq_true, if_false]

theorem exec_assign_of_refused {role region : Nat} {c : Bytes} (hh : Heard s h) (hepoch : epochFor s session frame ≤ h.epoch)
    (hok : assignOk s h session role region c = false) (hok' : assignOk (heardAt s h) h session role region c = false) :
    exec (.assign h session role region frame c) s = .next (clpAck (heardAt s h) h (0x05 + clpNak) []) := by
  change execAssign h session role region frame c s = _
  rw [execAssign, act_awake hh.awake, assignIn, clpIn_of_heard hh (by simpa using hepoch)]
  simp only [hok, hok', if_true, Bool.not_false, Bool.false_eq_true, if_false]

/-! ### LEDGER, STATS and the messages about slices (R177, R183 to R187, R384, R394) -/

theorem exec_ledger_of_snapshot (hh : Heard s h) (hx : sessOfFabric s session = some x) (b : Nat) (l : List (Nat × UnitStats)) :
    exec (.ledger h session 1 frame b l) s = .next (clpAck (sessPut (heardAt s h)
      { x with dist := { x.dist with stats := l.foldl (fun t p => tset t p.1 p.2) x.dist.stats } }) h 0x06 []) := by
  change execLedger h session 1 frame b l s = _
  rw [execLedger, act_awake hh.awake, ledgerIn, clpIn_of_heard hh rfl]
  simp only [distEdit, sessOfFabric_heardAt, hx, Nat.one_ne_zero, if_false]

/-- A digest is compared at the manager of the session only. -/
theorem exec_ledger_of_digest (hh : Heard s h) (hidle : s.mode ≠ .manager ∨ sessOfFabric s session = none) (b : Nat)
    (l : List (Nat × UnitStats)) : exec (.ledger h session 0 frame b l) s = .next (clpAck (heardAt s h) h 0x06 []) := by
  change execLedger h session 0 frame b l s = _
  rw [execLedger, act_awake hh.awake, ledgerIn, clpIn_of_heard hh rfl]
  simp only [sessOfFabric_heardAt, heardAt_mode, if_true]
  cases hx : sessOfFabric s session with
  | none => rfl
  | some x =>
    have hmode : s.mode ≠ .manager := hidle.resolve_right (by simp [hx])
    simp [hmode]

theorem exec_stats_of_request {u : UnitStats} (hh : Heard s h) (hx : sessOfFabric s session = some x)
    (hepoch : epochFor s session frame ≤ h.epoch) (hreq : bitOf u.flags 4 = true) (k : Nat) :
    exec (.stats h session frame k u) s = .next (clpAck (answerStats (heardAt s h) x h.sender frame k) h 0x07 []) := by
  change execStats h session frame k u s = _
  rw [execStats, act_awake hh.awake, statsIn, clpIn_of_heard hh (by simpa using hepoch)]
  simp only [sessOfFabric_heardAt, hx, hreq, if_true]

theorem exec_stats_of_report {u : UnitStats} (hh : Heard s h) (hx : sessOfFabric s session = some x)
    (hepoch : epochFor s session frame ≤ h.epoch) (hreq : bitOf u.flags 4 = false) (hdrain : s.fabric.draining = none) (k : Nat) :
    exec (.stats h session frame k u) s = .next (clpAck (takeStats (heardAt s h) x h.sender frame k u) h 0x07 []) := by
  change execStats h session frame k u s = _
  have hdrain' : (heardAt s h).fabric.draining = none := hdrain
  rw [execStats, act_awake hh.awake, statsIn, clpIn_of_heard hh (by simpa using hepoch)]
  simp only [sessOfFabric_heardAt, hx, hreq, Bool.false_eq_true, if_false, drainStats_takeStats hdrain']

theorem exec_commit_of_heard (hh : Heard s h) (hx : sessOfFabric s session = some x) (received released : Nat) :
    exec (.commit h session frame received released) s =
      .next (clpAck (sessPut (heardAt s h) (coverCommit x frame received released)) h 0x08 []) := by
  change execCommit h session frame received released s = _
  rw [execCommit, act_awake hh.awake, commitIn, clpIn_of_heard hh rfl]
  simp only [sessOfFabric_heardAt, hx]

theorem exec_seamCheck_of_heard (hh : Heard s h) (hx : sessOfFabric s session = some x) (k crc : Nat) (refCrc : Option Nat) :
    exec (.seamCheck h session frame k crc refCrc) s =
      .next (clpAck (seamCheckTake (heardAt s h) x h.sender frame k crc refCrc) h 0x09 []) := by
  change execSeamCheck h session frame k crc refCrc s = _
  rw [execSeamCheck, act_awake hh.awake, seamCheckIn, clpIn_of_heard hh rfl]
  simp only [sessOfFabric_heardAt, hx]

/-! ### FENCE and PROMOTE (R187, R190, R191, R387) -/

theorem exec_fence_of_self (hh : Heard s h) (reason : Nat) :
    exec (.fence h s.fabric.member reason session) s = .next (clpAck (fencedSelf (heardAt s h) reason session) h 0x0A []) := by
  change execFence h s.fabric.member reason session s = _
  rw [execFence, act_awake hh.awake, fenceIn, clpIn_of_heard hh rfl]
  simp only [heardAt_member, if_true]

theorem exec_fence_of_manager {m : Nat} (hh : Heard s h) (hm : m ≠ s.fabric.member) (hmode : s.mode = .manager) (reason : Nat) :
    exec (.fence h m reason session) s = .next (clpAck (fencedOther (heardAt s h) m session) h 0x0A []) := by
  change execFence h m reason session s = _
  rw [execFence, act_awake hh.awake, fenceIn, clpIn_of_heard hh rfl]
  simp [hm, hmode]

/-- A worker does nothing about another member that is fenced. -/
theorem exec_fence_of_worker {m : Nat} (hh : Heard s h) (hm : m ≠ s.fabric.member) (hmode : s.mode = .worker) (reason : Nat) :
    exec (.fence h m reason session) s = .next (clpAck (heardAt s h) h 0x0A []) := by
  change execFence h m reason session s = _
  rw [execFence, act_awake hh.awake, fenceIn, clpIn_of_heard hh rfl]
  simp [hm, hmode]

theorem exec_promote_of_heard (hh : Heard s h) (hx : sessOfFabric s session = some x) (region m first : Nat) :
    exec (.promote h session region m frame first) s =
      .next (clpAck (promoteHere (heardAt s h) x region m frame first) h 0x0B []) := by
  change execPromote h session region m frame first s = _
  rw [execPromote, act_awake hh.awake, promoteIn, clpIn_of_heard hh rfl]
  simp only [sessOfFabric_heardAt, hx]

/-! ### TIME_CHECK (R393) -/

@[simp] theorem timeJudge_frame (s : State) :
    (timeJudge s).mode = s.mode ∧ (timeJudge s).out = s.out ∧ (timeJudge s).fabric.checkGm = s.fabric.checkGm ∧
      (timeJudge s).fabric.timeLimit = s.fabric.timeLimit ∧ (timeJudge s).fabric.lastCheck = s.fabric.lastCheck := by
  unfold timeJudge
  split <;> exact ⟨rfl, rfl, rfl, rfl, rfl⟩

/-- Time qualification lasts only while the three conditions of R393 hold. -/
theorem qualified_of_timeJudge {s : State} (hq : (timeJudge s).fabric.qualified = true) :
    s.fabric.qualified = true ∧ timeHolds s = true := by
  unfold timeJudge at hq
  split at hq
  · next hholds => exact ⟨hq, hholds⟩
  · cases hq

theorem clock_of_timeHolds {s : State} (hholds : timeHolds s = true) :
    (ptpGet s).gm = s.fabric.checkGm ∧ (ptpGet s).offsetNs.natAbs ≤ s.fabric.timeLimit := by
  simp only [timeHolds, Bool.and_eq_true, beq_iff_eq, decide_eq_true_eq] at hholds
  exact ⟨hholds.1.2, hholds.2⟩

/-- A member with the manager's clock, limit and check time, before it is judged by them. -/
def timeChecked (s : State) (gm limit : Nat) : State :=
  fabSet s (fun f => { f with checkGm := gm, timeLimit := limit, lastCheck := some s.now })

theorem exec_timeCheck_of_heard (hh : Heard s h) (hmode : s.mode ≠ .manager) (mp gm d limit : Nat) :
    exec (.timeCheck h mp gm d limit) s = .next (clpAck (timeJudge (timeChecked (heardAt s h) gm limit)) h 0x0D []) := by
  change execTimeCheck h mp gm d limit s = _
  have hgo : (!asleep s && s.mode != .manager) = true := by simp [hh.awake, hmode]
  rw [execTimeCheck, hgo, act_true, timeCheckIn, clpIn_of_heard hh rfl]
  rfl

/-! ### HALO_STRIP and SEAM_STRIP (R175, R180) -/

/-- No sender is fenced from a region, so that every region of the sender counts. -/
theorem regionsOf_of_no_outcast (hout : x.dist.outcast = []) (m : Nat) :
    (regionsOf x m).filter (fun r => !x.dist.outcast.contains (r, m)) = regionsOf x m := by
  simp [hout]

/-- The strips of a band that a device sends: one entry per region of it. -/
def bandStrips (x : Session) (m frame band : Nat) : List (Nat × Nat × Nat) := (regionsOf x m).map (fun q => (frame, band, q))

/-- A session that has more halo strips, and one that has more strips along its seams. -/
def withStrips (x : Session) (l : List (Nat × Nat × Nat)) : Session :=
  { x with dist := { x.dist with strips := x.dist.strips ++ l } }
def withSeams (x : Session) (l : List (Nat × Nat × Nat)) : Session :=
  { x with dist := { x.dist with seams := x.dist.seams ++ l } }

@[simp] theorem withStrips_id (x : Session) (l : List (Nat × Nat × Nat)) : (withStrips x l).id = x.id := rfl
@[simp] theorem withSeams_id (x : Session) (l : List (Nat × Nat × Nat)) : (withSeams x l).id = x.id := rfl

theorem exec_haloStrip_of_heard (hh : Heard s h) (hx : sessOfFabric s session = some x) (hout : x.dist.outcast = []) (band : Nat)
    (b : Bytes) : exec (.haloStrip h session frame band b) s =
      .next (clpAck (sessPut (heardAt s h) (withStrips x (bandStrips x h.sender frame band))) h 0xF0 []) := by
  change execHaloStrip h session frame band b s = _
  rw [execHaloStrip, act_awake hh.awake, haloIn, clpIn_of_heard hh rfl]
  simp only [sessOfFabric_heardAt, hx, regionsOf_of_no_outcast hout]
  rfl

theorem exec_seamStrip_of_no_frame (hh : Heard s h) (hx : sessOfFabric s session = some x) (hf : frameOf x frame = none)
    (hout : x.dist.outcast = []) (band : Nat) (b : Bytes) : exec (.seamStrip h session frame band b) s =
      .next (clpAck (sessPut (heardAt s h) (withSeams x (bandStrips x h.sender frame band))) h 0xF2 []) := by
  change execSeamStrip h session frame band b s = _
  have hnone : frameOf (withSeams x (bandStrips x h.sender frame band)) frame = none := hf
  rw [execSeamStrip, act_awake hh.awake, seamIn, clpIn_of_heard hh rfl]
  simp only [withSeams, bandStrips] at hnone ⊢
  simp only [sessOfFabric_heardAt, hx, regionsOf_of_no_outcast hout, hnone]

/-! ### REFEREE_RESULT (R188) -/

theorem exec_refereeResult_of_referee {k : Nat} {d : Divergence} (hh : Heard s h) (hx : sessOfFabric s session = some x)
    (hmode : s.mode = .manager) (href : d.referee = some h.sender)
    (hd : x.dist.diverging.find? (fun v => v.frame == frame && v.unit == k) = some d) (crcs : List (Nat × Nat)) (u : UnitStats) :
    exec (.refereeResult h session frame k crcs u) s = .next (clpAck (decideReferee (heardAt s h) x d u) h 0x0E []) := by
  change execRefereeResult h session frame k crcs u s = _
  rw [execRefereeResult, act_awake hh.awake, refereeIn, clpIn_of_heard hh rfl]
  simp [hx, hd, hmode, href]

/-! ### EPOCH_ADVANCE (R391) -/

theorem exec_epochAdvance_of_refused {hash v : Nat} (hh : Heard s h) (hmode : s.mode = .worker)
    (hbad : prepareOk s hash v = false) (l : List (Nat × Nat)) : exec (.epochAdvance h 0 frame hash v l) s =
      .next (clpAck (epochPhase (heardAt s h) 0 frame hash v l) h (0x0C + clpNak) []) := by
  change execEpochAdvance h 0 frame hash v l s = _
  rw [execEpochAdvance, act_awake hh.awake, clpIn_of_heard hh rfl]
  simp [hbad, hmode]

theorem exec_epochAdvance_of_commit {hash v : Nat} (hh : Heard s h) (hmode : s.mode = .worker) (l : List (Nat × Nat)) :
    exec (.epochAdvance h 1 frame hash v l) s = .next (clpAck (epochPhase (heardAt s h) 1 frame hash v l) h 0x0C []) := by
  change execEpochAdvance h 1 frame hash v l s = _
  rw [execEpochAdvance, act_awake hh.awake, clpIn_of_heard hh rfl]
  simp [hmode]

theorem replayHeld_of_none (hheld : s.fabric.heldMsgs = []) : replayHeld s = s := by
  have hfab : { s.fabric with heldMsgs := [] } = s.fabric := by rw [← hheld]
  simp [replayHeld, fabSet, hheld, hfab]

/-- A member whose fabric has committed an epoch change. -/
def epochCommitted (s : State) (epoch hash version : Nat) (l : List (Nat × Nat)) : State :=
  fabSet s (fun f => { f with
    epoch := epoch, prepared := none, current := version
    epochs := { epoch := epoch, hash := hash, version := version, changes := l, commit := true } :: f.epochs })

/-- What a commit of a version asks of the member: Quarantine for a wrong version or hash, and the way out of it otherwise. -/
def judgeCommit (version : Nat) (s : State) : State :=
  if version != ownVersion s || s.fabric.hashBad then (if s.mode == .quarantine then s else quarantine s) else leaveQuarantine s

theorem epochPhase_commit (s : State) (epoch hash version : Nat) (l : List (Nat × Nat)) :
    epochPhase s 1 epoch hash version l = judgeCommit version (replayHeld (epochCommitted s epoch hash version l)) := rfl

theorem judgeCommit_of_worker {version : Nat} (hmode : s.mode = .worker) (hversion : version = ownVersion s)
    (hhash : s.fabric.hashBad = false) : judgeCommit version s = s := by
  simp [judgeCommit, leaveQuarantine, hmode, ← hversion, hhash]

/-- A worker of the version and the hash of an epoch, with no message waiting for it, stays one when it commits. -/
theorem epochPhase_of_commit {hash version : Nat} (hmode : s.mode = .worker) (hversion : version = ownVersion s)
    (hhash : s.fabric.hashBad = false) (hheld : s.fabric.heldMsgs = []) (epoch : Nat) (l : List (Nat × Nat)) :
    epochPhase s 1 epoch hash version l = epochCommitted s epoch hash version l := by
  have hnone : (epochCommitted s epoch hash version l).fabric.heldMsgs = [] := hheld
  rw [epochPhase_commit, replayHeld_of_none hnone]
  exact judgeCommit_of_worker hmode hversion hhash

/-! ### Acknowledgements (R382, R386, R391) -/

theorem ackIn_of_renew {u : Unacked} (hkind : u.kind = 0x04) (nak : Bool) (lease : Nat) :
    ackIn s u nak lease =
      fabSet s (fun f => { f with leaseEnd := some (u.sentAt + lease * 1000000), unreachable := 0xFFFF }) := by
  simp only [ackIn, hkind]

theorem ackIn_of_plain {u : Unacked} (hrenew : u.kind ≠ 0x04) (hepoch : u.kind ≠ 0x0C) (nak : Bool) (lease : Nat) :
    ackIn s u nak lease = s := by
  unfold ackIn
  split
  · contradiction
  · contradiction
  · rfl

theorem exec_clpAckReceived_of_unacked {kind seq : Nat} {u : Unacked} (hs : asleep s = false) (hmac : h.macsec = true)
    (hfab : h.fabric = s.fabric.fabricId) (hmajor : h.verMajor = 1) (hjoined : s.fabric.joined = true)
    (hterm : s.fabric.term ≤ h.term)
    (hu : s.fabric.unacked.find? (fun u => u.dest == h.sender && u.seq == seq && u.kind == kind) = some u) (nak : Bool)
    (lease : Nat) : exec (.clpAckReceived h kind seq nak lease) s =
      .next (ackIn (fabSet (atTime s h.t) (fun f => { f with unacked := f.unacked.filter (· ≠ u) })) u nak lease) := by
  change execClpAckReceived h kind seq nak lease s = _
  have hnone : clpForeign (atTime s h.t) h = none := clpForeign_of_own hmac hfab hmajor
  have hmember : (!s.fabric.joined || decide (h.term < s.fabric.term)) = false := by simp [hjoined, hterm]
  rw [execClpAckReceived, act_awake hs]
  simp only [hnone, atTime_frame, hmember, Bool.false_eq_true, if_false, hu]

end

/-- Settles O50: each message that is heard has its one effect and then its acknowledgement (`clpIn_of_heard`); one that is not is
discarded or held. -/
theorem fabricMessagesComplete : Obligations.FabricMessagesComplete := by
  intro s h session frame
  refine ⟨?discarded, ?held, ?heard, ?acknowledged⟩
  case discarded =>
    intro hs st un off gm
    exact ⟨fun hmac => exec_leaseRenew_of_unprotected hs hmac st un off gm,
      fun hmac hforeign => exec_leaseRenew_of_foreign hs hmac hforeign st un off gm⟩
  case held =>
    intro hs hmac hfab hmajor hjoined hterm hmode hepoch rc rl
    exact ⟨_, exec_commit_of_newer hs hmac hfab hmajor hjoined hterm hmode hepoch rc rl, rfl, rfl, rfl⟩
  case heard =>
    intro hh
    refine ⟨fun _ _ _ => exec_assign_of_own hh, fun _ _ _ => exec_assign_of_refused hh,
      fun _ b l hx => exec_ledger_of_snapshot hh hx b l,
      fun b l hidle => exec_ledger_of_digest hh hidle b l,
      fun _ _ k hx hepoch hreq => exec_stats_of_request hh hx hepoch hreq k,
      fun _ _ k hx hepoch hreq hdrain => exec_stats_of_report hh hx hepoch hreq hdrain k,
      fun _ rc rl hx => exec_commit_of_heard hh hx rc rl, fun _ k crc rf hx => exec_seamCheck_of_heard hh hx k crc rf,
      exec_fence_of_self hh, fun _ reason hm hmode => exec_fence_of_manager hh hm hmode reason,
      fun _ reason hm hmode => exec_fence_of_worker hh hm hmode reason,
      fun _ region m first hx => exec_promote_of_heard hh hx region m first, ?timeCheck, ?haloStrip, ?seamStrip,
      fun _ _ _ crcs u hx hmode href hd => exec_refereeResult_of_referee hh hx hmode href hd crcs u,
      fun _ _ l hmode hbad => exec_epochAdvance_of_refused hh hmode hbad l, ?epochCommit⟩
    case timeCheck =>
      intro mp gm d lim hmode
      refine ⟨_, exec_timeCheck_of_heard hh hmode mp gm d lim, by simp [timeChecked], by simp [timeChecked], by simp [timeChecked],
        by simp [timeChecked], fun hq => ?_⟩
      obtain ⟨hwas, hholds⟩ := qualified_of_timeJudge (s := timeChecked (heardAt s h) gm lim) (by simpa using hq)
      exact ⟨hwas, clock_of_timeHolds hholds⟩
    case haloStrip =>
      intro x band b hx hout
      exact ⟨_, _, exec_haloStrip_of_heard hh hx hout band b,
        by simpa using tfind_sessPut_of_id (heardAt s h) (withStrips_id x _), rfl⟩
    case seamStrip =>
      intro x band b hx hf hout
      exact ⟨_, _, exec_seamStrip_of_no_frame hh hx hf hout band b,
        by simpa using tfind_sessPut_of_id (heardAt s h) (withSeams_id x _), rfl⟩
    case epochCommit =>
      intro hash v l hmode hversion hhash hheld
      refine ⟨_, exec_epochAdvance_of_commit hh hmode l, ?_⟩
      rw [epochPhase_of_commit (s := heardAt s h) hmode hversion hhash hheld]
      simp [epochCommitted, hmode]
  case acknowledged =>
    intro kind seq nak lease u hs hmac hfab hmajor hjoined hterm hu
    have hkind : u.kind = kind := by
      have hfound := List.find?_some hu
      simp only [Bool.and_eq_true, beq_iff_eq] at hfound
      exact hfound.2
    refine ⟨_, exec_clpAckReceived_of_unacked hs hmac hfab hmajor hjoined hterm hu nak lease,
      fun hrenew => ?_, fun hrenew hepoch => ?_⟩
    · rw [ackIn_of_renew (hkind.trans hrenew)]
      exact ⟨rfl, rfl, rfl⟩
    · rw [ackIn_of_plain (by rwa [hkind]) (by rwa [hkind])]
      exact ⟨rfl, rfl⟩

end Sys2Proof.Machine
end

section
/-! PROOFS. Timers of the fabric and of distributed sessions (R175, R178, R184, R189, R382, R384, R391, R393), and slice transfers
(R184, R190): one lemma per timer and case, and what the last fragment of a slice leaves. -/

namespace Sys2Proof.Machine

theorem act_of_true {s k : State} {c : Bool} (hc : c = true) : act s c k = .next k := by subst hc; rfl

section
variable {s : State} {session frame w : Nat} {x : Session}

/-! ### Time and qualification (R393) -/

/-- The manager as its TIME_CHECK leaves it, before it is judged by it as well. -/
def timeCheckSent (s : State) (l : List Nat) : State :=
  fabSet (sendClp s 0x0D clpAll l) (fun f => { f with checkGm := (ptpGet s).gm, lastCheck := some s.now })

theorem exec_timeCheckTimer_of_due (hs : asleep s = false) (hmode : s.mode = .manager)
    (hdue : ∀ v, s.fabric.lastCheck = some v → v + 1000000000 ≤ max s.now w) :
    ∃ l, exec (.timeCheckTimer w) s = .next (timeJudge (timeCheckSent (atTime s w) l)) := by
  refine ⟨_, act_of_true ?_⟩
  cases hlast : s.fabric.lastCheck with
  | none => simp [hs, hmode]
  | some v => simpa [hs, hmode] using hdue v hlast

/-- The member's own entry follows its status, where it has one. -/
def ownStatusNoted (s : State) : State :=
  match memberGet s s.fabric.member with
  | some x => memberPut s s.fabric.member { x with status := memberStatus s }
  | none => s

theorem ownStatusNoted_frame (s : State) : (ownStatusNoted s).fabric.qualified = s.fabric.qualified ∧
    (ownStatusNoted s).mode = s.mode ∧ (ownStatusNoted s).sessions = s.sessions := by
  unfold ownStatusNoted
  split <;> exact ⟨rfl, rfl, rfl⟩

theorem exec_timeQualified_of_due {v : Nat} (hs : asleep s = false) (hjoined : s.fabric.joined = true) (hholds : timeHolds s = true)
    (hv : s.fabric.qualSince = some v) (hdue : v + 1000000000 ≤ max s.now w) :
    exec (.timeQualified w) s = .next (ownStatusNoted (fabSet (atTime s w) (fun f => { f with qualified := true }))) :=
  act_of_true (by simpa [hs, hjoined, hholds, hv] using hdue)

theorem exec_unqualHoldExpiry_of_due {m v : Nat} {y : Member} (hs : asleep s = false) (hmode : s.mode = .manager)
    (hm : memberGet s m = some y) (hv : y.unqualSince = some v) (hdue : v + s.fabric.unqualHold * 1000000000 ≤ max s.now w) :
    exec (.unqualHoldExpiry m w) s = .next (moveRoles (atTime s w) m (fun r => r == 0 || r == 1)) :=
  act_of_true (by simpa [hs, hmode, hm, hv] using hdue)

/-! ### Retransmission (R382) -/

section
variable {d q : Nat} {u : Unacked}

theorem exec_clpRetransmit_of_try (hs : asleep s = false)
    (hu : s.fabric.unacked.find? (fun u => u.dest == d && u.seq == q) = some u)
    (hdue : u.sentAt + (u.tries + 1) * 200000 ≤ max s.now w) (htries : u.tries < 5) :
    exec (.clpRetransmit d q w) s = .next (emit (fabSet (atTime s w) (fun f => { f with
      retransmits := f.retransmits + 1
      unacked := f.unacked.map (fun v => if v = u then { v with tries := v.tries + 1 } else v) }))
      (.clp (u.kind + clpAckReq + clpRetx) d q u.fields)) := by
  change execClpRetransmit d q w s = _
  have hnow : ¬ (atTime s w).now < u.sentAt + (u.tries + 1) * 200000 := Nat.not_lt.2 hdue
  rw [execClpRetransmit, act_awake hs]
  simp only [hu, hnow, htries, if_true, if_false]

theorem exec_clpRetransmit_of_last (hs : asleep s = false)
    (hu : s.fabric.unacked.find? (fun u => u.dest == d && u.seq == q) = some u)
    (hdue : u.sentAt + (u.tries + 1) * 200000 ≤ max s.now w) (htries : 5 ≤ u.tries) :
    exec (.clpRetransmit d q w) s =
      .next (giveUp (fabSet (atTime s w) (fun f => { f with unacked := f.unacked.filter (· ≠ u) })) u) := by
  change execClpRetransmit d q w s = _
  have hnow : ¬ (atTime s w).now < u.sentAt + (u.tries + 1) * 200000 := Nat.not_lt.2 hdue
  rw [execClpRetransmit, act_awake hs]
  simp only [hu, hnow, Nat.not_lt.2 htries, if_false]

end

/-! ### LEDGER digests (R384) -/

/-- The digest of a session's last frame, to the manager. -/
def sendDigest (s : State) (x : Session) : State :=
  match x.enc.frames.getLast? with
  | some f => sendAcked s 0x06 s.fabric.manager [x.dist.fabricSession, 0, f.number, crc32 (be 8 f.target)]
  | none => s

theorem sendDigest_of_frame {f : EncFrame} (hf : x.enc.frames.getLast? = some f) : sendDigest s x =
    sendAcked s 0x06 s.fabric.manager [x.dist.fabricSession, 0, f.number, crc32 (be 8 f.target)] := by
  simp only [sendDigest, hf]

theorem exec_ledgerDigestTimer_of_due (hs : asleep s = false) (hjoined : s.fabric.joined = true) (hmode : s.mode ≠ .manager)
    (hdue : ∀ v, s.fabric.lastDigest = some v → v + 1000000000 ≤ max s.now w) :
    exec (.ledgerDigestTimer w) s = .next ((fabricSessions s).foldl sendDigest
      (fabSet (atTime s w) (fun f => { f with lastDigest := some (max s.now w) }))) := by
  refine act_of_true ?_
  cases hlast : s.fabric.lastDigest with
  | none => simp [hs, hjoined, hmode]
  | some v => simpa [hs, hjoined, hmode] using hdue v hlast

/-! ### Missing statistics and undecided divergences (R178, R189) -/

section
variable {k m : Nat}

theorem exec_statsRequest_of_missing (hs : asleep s = false) (hx : sessOfFabric s session = some x)
    (hm : primaryOf x (unitRegion x frame k) = some m) (hmissing : statsMissing (atTime s w) x frame k 200000 = true)
    (hintime : statsMissing (atTime s w) x frame k (statsTimeoutNs x) = false) :
    exec (.statsRequest session frame k w) s = .next (fabSet
      (sendAcked (atTime s w) 0x07 m [session, frame, k, 0, 0, 0, 0, 0, 0, 0, 16])
      (fun f => { f with statsRequests := f.statsRequests + 1 })) := by
  change execStatsRequest session frame k w s = _
  rw [execStatsRequest, act_awake hs]
  simp only [sessOfFabric_atTime, hx, hm, hmissing, hintime, Bool.not_false, Bool.and_self, if_true]

theorem exec_statsTimeout_of_member (hs : asleep s = false) (hx : sessOfFabric s session = some x)
    (hm : primaryOf x (unitRegion x frame k) = some m) (hshadow : x.dist.roles.any (fun r => r.2 == 1) = false)
    (hmissing : statsMissing (atTime s w) x frame k (statsTimeoutNs x) = true) (hmode : s.mode ≠ .manager) :
    exec (.statsTimeout session frame k w) s =
      .next (sendRenew (fabSet (atTime s w) (fun f => { f with unreachable := m })) s.fabric.manager) := by
  change execStatsTimeout session frame k w s = _
  rw [execStatsTimeout, act_awake hs]
  simp [hx, hmissing, hshadow, hm, hmode]

theorem exec_statsTimeout_of_manager (hs : asleep s = false) (hx : sessOfFabric s session = some x)
    (hm : primaryOf x (unitRegion x frame k) = some m) (hshadow : x.dist.roles.any (fun r => r.2 == 1) = false)
    (hmissing : statsMissing (atTime s w) x frame k (statsTimeoutNs x) = true) (hmode : s.mode = .manager) :
    exec (.statsTimeout session frame k w) s = .next (loseMember (atTime s w) m 3 true) := by
  change execStatsTimeout session frame k w s = _
  rw [execStatsTimeout, act_awake hs]
  simp [hx, hmissing, hshadow, hm, hmode]

theorem exec_refereeTimeout_of_no_referee {d : Divergence} (hs : asleep s = false) (hmode : s.mode = .manager)
    (hx : sessOfFabric s session = some x) (href : d.referee = none) (hdue : d.since + statsTimeoutNs x ≤ max s.now w)
    (hd : x.dist.diverging.find? (fun v => v.frame == frame && v.unit == k) = some d) :
    exec (.refereeTimeout session frame k w) s =
      .next (noMajority (dropDivergence (atTime s w) session frame k) x d) := by
  change execRefereeTimeout session frame k w s = _
  have hgo : (!asleep s && s.mode == .manager) = true := by simp [hs, hmode]
  have hnow : ¬ (atTime s w).now < d.since + statsTimeoutNs x := Nat.not_lt.2 hdue
  rw [execRefereeTimeout, hgo, act_true]
  simp only [sessOfFabric_atTime, hx, hd, hnow, href, if_false]

end

/-! ### An epoch that does not come (R391) -/

theorem exec_epochHoldTimeout_of_worker {e : Nat} (hs : asleep s = false)
    (hheld : s.fabric.heldMsgs.any (fun m => m.2.1 == e && decide (m.2.2 + 10000000 ≤ max s.now w)) = true)
    (hepoch : heldEpoch s < e) (hmode : s.mode = .worker) :
    exec (.epochHoldTimeout e w) s =
      .next (quarantine (fabSet (atTime s w) (fun f => { f with heldMsgs := f.heldMsgs.filter (fun m => m.2.1 ≠ e) }))) := by
  change execEpochHoldTimeout e w s = _
  have hdue : ((atTime s w).fabric.heldMsgs.any (fun m => m.2.1 == e && decide (m.2.2 + 10000000 ≤ (atTime s w).now)) &&
      decide (heldEpoch (atTime s w) < e)) = true := Bool.and_eq_true_iff.2 ⟨hheld, decide_eq_true hepoch⟩
  rw [execEpochHoldTimeout, act_awake hs]
  dsimp only
  rw [if_pos hdue]
  simp [hmode]

/-! ### SLICE_TRANSFER (R184, R190) -/

section
variable {g : SliceFrag}

/-- A fragment of a session that this device assembles, of an epoch in force. -/
structure TakesSlice (s : State) (g : SliceFrag) (x : Session) : Prop where
  awake : asleep s = false
  joined : s.fabric.joined = true
  found : sessOfFabric s g.session = some x
  collates : collates x = true
  current : epochFor s g.session g.frame ≤ g.epoch
  known : g.epoch ≤ heldEpoch s

/-- What a fragment of an epoch in force leaves: nothing from a fenced primary, a count of one that is there already. -/
def sliceArrives (s : State) (x : Session) (g : SliceFrag) : State :=
  if x.dist.outcast.contains (g.region, g.sender) then clpDiscard s
  else if (tfind x.dist.slices (statsKey g.frame g.index)).isSome || (sliceParts x g).any (fun p => p.offset == g.offset) then
    sessPut s { x with dist := { x.dist with duplicates := x.dist.duplicates + 1 } }
  else takeFragment s x g

theorem TakesSlice.exec (ht : TakesSlice s g x) (w : Nat) :
    exec (.sliceTransfer g w) s = .next (sliceArrives (atTime s w) x g) := by
  change execSliceTransfer g w s = _
  have hgo : (!asleep s && s.fabric.joined) = true := by simp [ht.awake, ht.joined]
  have hepoch : (decide (g.epoch < epochFor (atTime s w) g.session g.frame) ||
      decide (heldEpoch (atTime s w) < g.epoch)) = false := by
    have hcurrent : epochFor (atTime s w) g.session g.frame ≤ g.epoch := ht.current
    have hknown : g.epoch ≤ heldEpoch (atTime s w) := ht.known
    simp [hcurrent, hknown]
  rw [execSliceTransfer, hgo, act_true]
  simp only [sessOfFabric_atTime, ht.found, ht.collates, hepoch, Bool.not_true, Bool.false_eq_true, if_false]
  rfl

theorem sliceArrives_of_outcast (hout : x.dist.outcast.contains (g.region, g.sender) = true) :
    sliceArrives s x g = clpDiscard s := if_pos hout

theorem sliceArrives_of_duplicate (hout : x.dist.outcast = [])
    (hthere : ∃ b, tfind x.dist.slices (statsKey g.frame g.index) = some b) :
    sliceArrives s x g = sessPut s { x with dist := { x.dist with duplicates := x.dist.duplicates + 1 } } := by
  obtain ⟨b, hb⟩ := hthere
  simp [sliceArrives, hout, hb]

theorem sliceArrives_of_first (hout : x.dist.outcast = []) (hnew : tfind x.dist.slices (statsKey g.frame g.index) = none)
    (hparts : sliceParts x g = []) : sliceArrives s x g = takeFragment s x g := by
  simp [sliceArrives, hout, hnew, hparts]

/-- A session that keeps one more fragment. -/
def withFragment (x : Session) (g : SliceFrag) : Session :=
  { x with dist := { x.dist with fragments := x.dist.fragments ++ [g] } }

/-- The fragments that stay when a slice is complete. -/
def otherFragments (x : Session) (g : SliceFrag) : List SliceFrag :=
  (withFragment x g).dist.fragments.filter (fun p => !(p.frame == g.frame && p.index == g.index))

/-- A session that keeps the slice of its last fragment, and one that discards it. -/
def sliceKept (x : Session) (g : SliceFrag) : Session :=
  { x with dist := { x.dist with fragments := otherFragments x g,
                                 slices := tset x.dist.slices (statsKey g.frame g.index) g.data } }
def sliceDropped (x : Session) (g : SliceFrag) : Session :=
  { x with dist := { x.dist with fragments := otherFragments x g, badCrc := x.dist.badCrc + 1 } }

theorem sliceParts_withFragment (hparts : sliceParts x g = []) : sliceParts (withFragment x g) g = [g] := by
  have hnone : x.dist.fragments.filter (fun p => p.frame == g.frame && p.index == g.index) = [] := hparts
  simp [sliceParts, withFragment, hnone]

/-- One fragment that is the first and the last is the whole slice. -/
theorem joinParts_single (hoffset : g.offset = 0) (hlast : bitOf g.flags 0 = true) : joinParts 1 [g] 0 = some g.data := by
  simp [joinParts, hoffset, hlast]

/-- A slice in one fragment is kept or discarded by SLICE_CRC. -/
theorem takeFragment_of_whole (hparts : sliceParts x g = []) (hoffset : g.offset = 0) (hlast : bitOf g.flags 0 = true) :
    takeFragment s x g =
      if g.crc = crc32 g.data then
        if collator x then sendCommit (sessPut s (sliceKept x g)) (sliceKept x g) g.frame else sessPut s (sliceKept x g)
      else sessPut s (sliceDropped x g) := by
  have hone : sliceParts { x with dist := { x.dist with fragments := x.dist.fragments ++ [g] } } g = [g] :=
    sliceParts_withFragment hparts
  simp only [takeFragment, hone, List.length_singleton, joinParts_single hoffset hlast, List.any_cons, List.any_nil, hlast,
    Bool.true_and, Bool.or_false, beq_iff_eq]
  rfl

end

/-! ### Sending slices and strips again (R175, R184) -/

section
variable {f : EncFrame} {k : Nat}

theorem exec_sliceResendTimer_of_overdue (hs : asleep s = false) (hx : sessOfFabric s session = some x)
    (hf : frameOf x frame = some f) (hdue : overdue x frame k 1 (max s.now w) = true) :
    exec (.sliceResendTimer session frame k w) s =
      .next (resendSlice (sessPut (atTime s w) (resent x frame k 1 (max s.now w))) x f k) := by
  change execSliceResendTimer session frame k w s = _
  have hdue' : overdue x frame k 1 (atTime s w).now = true := hdue
  rw [execSliceResendTimer, act_awake hs]
  simp only [sessOfFabric_atTime, hx, hf, hdue', if_true]
  rfl

theorem exec_haloResendTimer_of_overdue (hs : asleep s = false) (hx : sessOfFabric s session = some x)
    (hf : frameOf x frame = some f) (hdue : overdue x frame k 0 (max s.now w) = true) :
    exec (.haloResendTimer session frame k w) s = .next (emit (sessPut (atTime s w) (resent x frame k 0 (max s.now w)))
      (.packet x.id 0xF0 [x.dist.fabricSession, frame, k] (Config.unitBytes 0xF0 f.cfg frame [k]))) := by
  change execHaloResendTimer session frame k w s = _
  have hdue' : overdue x frame k 0 (atTime s w).now = true := hdue
  rw [execHaloResendTimer, act_awake hs]
  simp only [sessOfFabric_atTime, hx, hf, hdue', if_true]
  rfl

end

end

/-- Settles O51: each timer that is due has its one effect, which is read back; a fragment of a slice takes the way that the fence,
the fragments before it and SLICE_CRC leave it (`sliceArrives`, `takeFragment_of_whole`). -/
theorem fabricTimersComplete : Obligations.FabricTimersComplete := by
  intro s session frame w hs
  refine ⟨?timeCheck, ?qualified, fun _ _ _ hmode hm hv hdue => exec_unqualHoldExpiry_of_due hs hmode hm hv hdue, ?retransmit,
    ?noDigest, ?digest, ?statsRequest, ?statsTimeout,
    fun _ _ _ hx hm hshadow hmissing hmode => exec_statsTimeout_of_manager hs hx hm hshadow hmissing hmode,
    fun _ _ _ hmode hx href hdue hd => exec_refereeTimeout_of_no_referee hs hmode hx href hdue hd,
    fun _ hheld hepoch hmode => exec_epochHoldTimeout_of_worker hs hheld hepoch hmode, ?slice,
    fun _ _ _ hx hf hdue => exec_sliceResendTimer_of_overdue hs hx hf hdue, ?halo⟩
  case timeCheck =>
    intro hmode hdue
    obtain ⟨l, hl⟩ := exec_timeCheckTimer_of_due hs hmode hdue
    obtain ⟨-, hout, hgm, -, hcheck⟩ := timeJudge_frame (timeCheckSent (atTime s w) l)
    exact ⟨_, l, hl, hcheck, hgm, hout⟩
  case qualified =>
    intro v hjoined hholds hv hdue
    exact ⟨_, exec_timeQualified_of_due hs hjoined hholds hv hdue, ownStatusNoted_frame _⟩
  case retransmit =>
    intro d q u hu hdue
    exact ⟨fun htries => ⟨_, exec_clpRetransmit_of_try hs hu hdue htries, rfl, rfl, rfl⟩,
      exec_clpRetransmit_of_last hs hu hdue⟩
  case noDigest =>
    intro hjoined hmode hdue hnone
    rw [exec_ledgerDigestTimer_of_due hs hjoined hmode hdue, hnone]
    rfl
  case digest =>
    intro x f hjoined hmode hdue hone hf
    rw [exec_ledgerDigestTimer_of_due hs hjoined hmode hdue, hone, List.foldl_cons, List.foldl_nil, sendDigest_of_frame hf]
    exact ⟨_, rfl, rfl, rfl⟩
  case statsRequest =>
    intro x k m hx hm hmissing hintime
    exact ⟨_, exec_statsRequest_of_missing hs hx hm hmissing hintime, rfl, rfl⟩
  case statsTimeout =>
    intro x k m hx hm hshadow hmissing hmode
    exact ⟨_, _, exec_statsTimeout_of_member hs hx hm hshadow hmissing hmode, rfl, rfl⟩
  case slice =>
    intro g x hjoined hx hcollates hcurrent hknown
    rw [TakesSlice.exec ⟨hs, hjoined, hx, hcollates, hcurrent, hknown⟩]
    refine ⟨fun hout => by rw [sliceArrives_of_outcast hout], fun hout hnew hparts hoffset hlast => ?_,
      fun hout hthere => by rw [sliceArrives_of_duplicate hout hthere]⟩
    rw [sliceArrives_of_first hout hnew hparts, takeFragment_of_whole hparts hoffset hlast]
    constructor
    · intro hcrc
      rw [if_neg hcrc]
      exact ⟨_, _, rfl, tfind_sessPut_of_id _ (y := sliceDropped x g) rfl, rfl, rfl⟩
    · intro hcrc hshadow
      rw [if_pos hcrc, hshadow]
      exact ⟨_, _, rfl, tfind_sessPut_of_id _ (y := sliceKept x g) rfl, tfind_tset _ _ _⟩
  case halo =>
    intro x f k hx hf hdue
    exact ⟨_, exec_haloResendTimer_of_overdue hs hx hf hdue, rfl,
      tfind_sessPut_of_id _ (y := resent x frame k 0 (max s.now w)) rfl⟩

end Sys2Proof.Machine
end

section
/-! PROOFS. The two ends of a Secure Boot, the update of the Larder, and the values of reset (R206, R212, R281, R284, R414, R442,
R480, R481): what the steps of a boot leave of the image in force and of the temperatures, then what the end of the boot sets. -/

namespace Sys2Proof.Machine

/-! ### The image in force (R414) -/

/-- The image that runs: whether the boot ROM serves, and the slot that was booted. -/
def bootImage (s : State) : Bool × Nat := (s.foreman.bootRom, s.foreman.bootSlot)

theorem bootImage_eq_of_foreman {s t : State} (h : t.foreman = s.foreman) : bootImage t = bootImage s := by
  rw [bootImage, bootImage, h]

@[simp] theorem postEvent_foreman (s : State) (r : EventRec) : (postEvent s r).foreman = s.foreman := by
  unfold postEvent
  dsimp only
  (repeat' split) <;> simp

@[simp] theorem argOf_foreman (s : State) (a : Option Nat) (bound : Nat) : (argOf s a bound).2.foreman = s.foreman := by
  cases a <;> rfl

@[simp] theorem logEvent_bootImage (s : State) (code cls source : Nat) (arg0 arg1 : Option Nat) :
    bootImage (logEvent s code cls source arg0 arg1) = bootImage s := by
  simp [bootImage, logEvent, logRec]

/-- Of the Foreman a recorded fault writes what logging the same fault writes. -/
theorem recordFault_foreman (s : State) (bit cls : Nat) (addr : Option Nat) :
    (recordFault s bit cls addr).foreman = (logFault s bit cls addr).foreman := by
  unfold recordFault logFault
  dsimp only
  (repeat' split) <;> simp [setDegraded]

@[simp] theorem recordFault_bootImage (s : State) (bit cls : Nat) (addr : Option Nat) :
    bootImage (recordFault s bit cls addr) = bootImage s := by
  rw [bootImage_eq_of_foreman (recordFault_foreman s bit cls addr), logFault]
  exact logEvent_bootImage _ _ _ _ _ _

@[simp] theorem unitFence_foreman (s : State) (u : FenceUnit) (on : Bool) : (unitFence s u on).foreman = s.foreman := by
  cases u <;> simp [unitFence]

@[simp] theorem loseUnit_foreman (s : State) (u : FenceUnit) : (loseUnit s u).foreman = s.foreman := by
  cases u <;> simp [loseUnit]

theorem copyAon_bootImage (s : State) : bootImage (copyAon s) = bootImage s :=
  foldl_view bootImage (fun s _ => logEvent_bootImage s _ _ _ _ _) _ s

theorem bootBist_bootImage (s : State) (failed : List Nat) : bootImage (bootBist s failed) = bootImage s := by
  refine foldl_view bootImage (fun s n => ?_) _ _
  split
  · rw [logEvent_bootImage, bootImage_eq_of_foreman (loseUnit_foreman s _)]
  · rfl

theorem repairRows_bootImage (s : State) : bootImage (repairRows s) = bootImage s := by
  refine foldl_view bootImage (fun s n => ?_) _ _
  dsimp only
  split
  · rfl
  · rw [logEvent_bootImage]
    rfl

theorem loadPatch_foreman (s : State) (version : Nat) (fail : List Nat) : (loadPatch s version fail).foreman = s.foreman := by
  refine foldl_view State.foreman (fun s c => ?_) _ s
  split <;> simp

/-- The platform record names the slot and ends the service of the boot ROM. -/
theorem bootPlatform_bootImage (s : State) (i : BootInput) (slot : Nat) : bootImage (bootPlatform s i slot) = (false, slot) := by
  unfold bootPlatform
  dsimp only
  split
  · rfl
  · rw [logEvent_bootImage]
    rfl

/-! ### Training one stack (R268, R278, R280) -/

/-- A pseudo-channel of stack `k` trained, or found untrainable, at the temperature of the stack. -/
def trainChannel (i : BootInput) (k : Nat) (temp : Int) (s : State) (j : Nat) : State :=
  pcSet s (k * 32 + j) { pcGet s (k * 32 + j) with trainTemp := temp, trainedAt := s.now,
                                                   trained := !i.trainFail.contains (k * 32 + j) }

/-- A stack as its training begins. -/
def stackStarted (s : State) (i : BootInput) (k : Nat) (temp : Int) : State :=
  stackSet s k { stackGet s k with temp := temp, refreshMult := if 1360 < temp then 2 else 1,
                                   trainFailed := i.trainFail.any (fun p => p / 32 == k) }

/-- A stack with its temperature taken and its pseudo-channels trained. -/
def stackTrained (s : State) (i : BootInput) (k : Nat) (temp : Int) : State :=
  (List.range 32).foldl (trainChannel i k temp) (stackStarted s i k temp)

/-- Training of a stack, and the class 2 fault of one that has a pseudo-channel that fails. -/
def trainStack (s : State) (i : BootInput) (k : Nat) (temp : Int) : State :=
  if i.trainFail.any (fun p => p / 32 == k) then recordFault (stackTrained s i k temp) (32 + k) 2 none else stackTrained s i k temp

theorem trainHbm_eq (s : State) (i : BootInput) :
    trainHbm s i = trainStack (trainStack s i 0 i.stackTemp0) i 1 i.stackTemp1 := rfl

theorem stackGet_eq_of_stackTab {s t : State} (h : t.hbm.stackTab = s.hbm.stackTab) (k : Nat) : stackGet t k = stackGet s k := by
  rw [stackGet, stackGet, h]

theorem stackTrained_stackTab (s : State) (i : BootInput) (k : Nat) (temp : Int) :
    (stackTrained s i k temp).hbm.stackTab = (stackStarted s i k temp).hbm.stackTab :=
  foldl_view (·.hbm.stackTab) (f := trainChannel i k temp) (fun _ _ => rfl) (List.range 32) (stackStarted s i k temp)

theorem trainStack_stackTab (s : State) (i : BootInput) (k : Nat) (temp : Int) :
    (trainStack s i k temp).hbm.stackTab = (stackTrained s i k temp).hbm.stackTab := by
  unfold trainStack
  split <;> simp

theorem trainStack_temp (s : State) (i : BootInput) (k : Nat) (temp : Int) : (stackGet (trainStack s i k temp) k).temp = temp := by
  rw [stackGet_eq_of_stackTab ((trainStack_stackTab s i k temp).trans (stackTrained_stackTab s i k temp)),
    stackStarted, stackGet_stackSet]

theorem trainStack_other (s : State) (i : BootInput) {j k : Nat} (temp : Int) (h : j ≠ k) :
    stackGet (trainStack s i k temp) j = stackGet s j := by
  rw [stackGet_eq_of_stackTab ((trainStack_stackTab s i k temp).trans (stackTrained_stackTab s i k temp)),
    stackStarted, stackGet_stackSet_ne _ _ _ _ h]

theorem trainHbm_temps (s : State) (i : BootInput) :
    (stackGet (trainHbm s i) 0).temp = i.stackTemp0 ∧ (stackGet (trainHbm s i) 1).temp = i.stackTemp1 := by
  rw [trainHbm_eq]
  exact ⟨by rw [trainStack_other _ _ _ (by decide), trainStack_temp], trainStack_temp _ _ _ _⟩

theorem trainStack_bootImage (s : State) (i : BootInput) (k : Nat) (temp : Int) :
    bootImage (trainStack s i k temp) = bootImage s := by
  have htrained : bootImage (stackTrained s i k temp) = bootImage s :=
    foldl_view bootImage (f := trainChannel i k temp) (fun _ _ => rfl) (List.range 32) (stackStarted s i k temp)
  unfold trainStack
  split
  · rw [recordFault_bootImage, htrained]
  · exact htrained

theorem trainHbm_bootImage (s : State) (i : BootInput) : bootImage (trainHbm s i) = bootImage s := by
  rw [trainHbm_eq, trainStack_bootImage, trainStack_bootImage]

/-! ### The boot up to its end (R41, R275, R280, R414) -/

/-- The state in which a boot names its spares: the slot's image is in force, and the stacks have the temperatures of the boot. -/
theorem bootPatched_rest (s : State) (i : BootInput) (slot : Nat) :
    bootImage (bootPatched s i slot) = (false, slot) ∧ (bootPatched s i slot).tap = s.tap ∧
      (bootPatched s i slot).sec.otp = s.sec.otp ∧ (stackGet (bootPatched s i slot) 0).temp = i.stackTemp0 ∧
      (stackGet (bootPatched s i slot) 1).temp = i.stackTemp1 := by
  unfold bootPatched
  dsimp only
  refine ⟨?_, by simp, by simp, ?_⟩
  · rw [bootImage_eq_of_foreman (loadPatch_foreman _ _ _), trainHbm_bootImage, repairRows_bootImage, bootBist_bootImage,
      copyAon_bootImage, bootPlatform_bootImage]
  · simpa only [stackGet, loadPatch_same] using trainHbm_temps _ i

/-- Naming the spares writes the clusters alone. -/
theorem foldl_nameSpare_rest (l : List Nat) (s : State) :
    (l.foldl nameSpare s).foreman = s.foreman ∧ (l.foldl nameSpare s).tap = s.tap ∧ (l.foldl nameSpare s).sec = s.sec ∧
      (l.foldl nameSpare s).hbm = s.hbm :=
  ⟨foldl_view State.foreman (f := nameSpare) (fun _ _ => rfl) l s, foldl_view State.tap (f := nameSpare) (fun _ _ => rfl) l s,
    foldl_view State.sec (f := nameSpare) (fun _ _ => rfl) l s, foldl_view State.hbm (f := nameSpare) (fun _ _ => rfl) l s⟩

/-! ### The ends of a boot (R206, R281, R414, R442, R481) -/

/-- MODE depends on the lifecycle and on the TAP's hold on Maintenance. -/
theorem bootMode_congr {s t : State} (htap : t.tap = s.tap) (hotp : t.sec.otp = s.sec.otp) : bootMode t = bootMode s := by
  rw [bootMode, bootMode, htap, hotp]

theorem readyIn_bootMode (s : State) : readyIn (bootMode s) = true := by
  unfold bootMode
  (repeat' split) <;> rfl

theorem setMode_mode (s : State) (m : OpMode) : (setMode s m).mode = m ∧ (setMode s m).ready = readyIn m := by
  simp [setMode]

theorem recordFault_larder (s : State) (bit cls : Nat) (addr : Option Nat) : (recordFault s bit cls addr).larder = s.larder := by
  unfold recordFault
  dsimp only
  (repeat' split) <;> simp [setDegraded, draw, canaryCount]

@[simp] theorem larderPublish_flags (s : State) (reduced signed : Bool) :
    (larderPublish s reduced signed).larder.published = true ∧ (larderPublish s reduced signed).larder.reduced = reduced :=
  ⟨rfl, rfl⟩

/-- The end of a boot without firmware: the boot ROM serves Maintenance with the reduced Larder (R414). -/
theorem bootRom_end (s : State) (i : BootInput) :
    (bootRom s i).mode = .maintenance ∧ (bootRom s i).ready = true ∧ (bootRom s i).foreman.bootRom = true ∧
      (bootRom s i).larder.published = true ∧ (bootRom s i).larder.reduced = true := by
  unfold bootRom
  dsimp only
  refine ⟨(setMode_mode _ _).1, (setMode_mode _ _).2, ?_⟩
  simp only [setMode_rest]
  split
  · exact ⟨rfl, rfl, rfl⟩
  · refine ⟨(congrArg Prod.fst (recordFault_bootImage _ _ _ _)).trans ?_, ?_⟩
    · simp [bootImage]
    · simp [recordFault_larder]

/-- The end of a boot with firmware: the mode of Table 12.2 and the full Larder. -/
theorem finishBoot_end (s : State) :
    (finishBoot s).mode = bootMode s ∧ (finishBoot s).ready = true ∧ bootImage (finishBoot s) = bootImage s ∧
      (finishBoot s).larder.published = true ∧ (finishBoot s).larder.reduced = false := by
  have hmode : bootMode (larderPublish { s with hbm := { s.hbm with hotWait := false } } false s.sec.identityOk) = bootMode s :=
    bootMode_congr rfl rfl
  unfold finishBoot
  dsimp only
  rw [hmode]
  split <;> simp [bootImage, setMode_mode, readyIn_bootMode]

/-- With both stacks at or below 110 °C a boot goes on to its end at once (R281). -/
theorem bootPublish_of_cool {s : State} (h0 : (stackGet s 0).temp ≤ 1760) (h1 : (stackGet s 1).temp ≤ 1760) :
    bootPublish s = finishBoot (setServices { s with degraded := capacityLost s }) := by
  have hcool : stackHot (setServices { s with degraded := capacityLost s }) = false := by
    simpa [stackHot, stackGet] using And.intro h0 h1
  unfold bootPublish
  dsimp only
  rw [hcool]
  rfl

/-- The end of a boot of a verified slot on cool stacks. -/
theorem bootFirmware_end {s : State} {i : BootInput} (slot : Nat) (h0 : i.stackTemp0 ≤ 1760) (h1 : i.stackTemp1 ≤ 1760) :
    (bootFirmware s i slot).mode = bootMode s ∧ (bootFirmware s i slot).ready = true ∧
      (bootFirmware s i slot).foreman.bootRom = false ∧ (bootFirmware s i slot).foreman.bootSlot = slot ∧
      (bootFirmware s i slot).larder.published = true ∧ (bootFirmware s i slot).larder.reduced = false := by
  obtain ⟨himage, htap, hotp, htemp0, htemp1⟩ := bootPatched_rest s i slot
  obtain ⟨hforeman, hspareTap, hsec, hhbm⟩ := foldl_nameSpare_rest (List.range 4) (bootPatched s i slot)
  rw [bootFirmware_eq]
  generalize (List.range 4).foldl nameSpare (bootPatched s i slot) = s4 at *
  have htemps : ∀ k, stackGet s4 k = stackGet (bootPatched s i slot) k := stackGet_eq_of_stackTab (by rw [hhbm])
  rw [bootPublish_of_cool (by rwa [htemps, htemp0]) (by rwa [htemps, htemp1])]
  obtain ⟨hmode, hready, hended, hlarder⟩ := finishBoot_end (setServices { s4 with degraded := capacityLost s4 })
  have hslot : bootImage (finishBoot (setServices { s4 with degraded := capacityLost s4 })) = (false, slot) :=
    (hended.trans (bootImage_eq_of_foreman hforeman)).trans himage
  have hbootMode : bootMode (setServices { s4 with degraded := capacityLost s4 }) = bootMode s :=
    bootMode_congr (hspareTap.trans htap) ((congrArg SecurityState.otp hsec).trans hotp)
  exact ⟨hmode.trans hbootMode, hready, congrArg Prod.fst hslot, congrArg Prod.snd hslot, hlarder⟩

theorem exec_secureBoot_of_none {s s1 : State} {i : BootInput} (hmode : s.mode = .secureBoot)
    (hpower : s.power.supplies = true) (hwait : s.hbm.hotWait = false) (hslot : chooseSlot (atTime s i.t) i = (none, s1)) :
    exec (.secureBoot i) s = .next (bootRom s1 i) := by
  change execSecureBoot i s = _
  simp [execSecureBoot, hmode, hpower, hwait, hslot]

/-- The choice of the slot touches neither OTP nor the TAP. -/
theorem chooseSlot_otp_tap {s s1 : State} {i : BootInput} {t : Nat} {o : Option Nat} (h : chooseSlot (atTime s t) i = (o, s1)) :
    s1.sec.otp = s.sec.otp ∧ s1.tap = s.tap := by
  obtain rfl : (chooseSlot (atTime s t) i).2 = s1 := congrArg Prod.snd h
  simp

/-! ### The update of the Larder (R212) -/

theorem larderUpdate_of_published {s : State} (h : s.larder.published = true) :
    (larderUpdate s).larder.dynGen = s.larder.dynGen + 2 ∧ (larderUpdate s).larder.larderGen = s.larder.dynGen + 2 ∧
      (larderUpdate s).larder.dyn = larderView s := by
  simp [larderUpdate, h]

/-- Settles O11: a boot without a slot ends in the boot ROM, one with a slot on cool stacks at the end of the firmware's boot, and
an update of the published Larder takes the view of the state. -/
theorem secureBootEndsReady : Obligations.SecureBootEndsReady := by
  intro s
  refine ⟨fun i s1 hmode hpower hwait hslot => ?_, fun i s1 slot hmode hpower hwait hslot h0 h1 => ?_,
    fun hawake hready hpublished => ?_⟩
  · obtain ⟨hotp, -⟩ := chooseSlot_otp_tap hslot
    obtain ⟨hend, hreadyEnd, hrom, hpublished, hreduced⟩ := bootRom_end s1 i
    exact ⟨_, exec_secureBoot_of_none hmode hpower hwait hslot, hend, hreadyEnd, hrom, hpublished, hreduced,
      (bootRom_keeps s1 i).2.1.trans hotp⟩
  · obtain ⟨hotp, htap⟩ := chooseSlot_otp_tap hslot
    obtain ⟨hend, hreadyEnd, hrom, hbooted, hpublished, hreduced⟩ := bootFirmware_end (s := s1) slot h0 h1
    exact ⟨_, exec_secureBoot_of_slot hmode hpower hwait hslot, hend.trans (bootMode_congr htap hotp), hreadyEnd, hrom, hbooted,
      hpublished, hreduced, (bootFirmware_keeps s1 i slot).2.1.trans hotp⟩
  · obtain ⟨hdynGen, hlarderGen, hdyn⟩ := larderUpdate_of_published hpublished
    exact ⟨larderUpdate s, act_of_true (by simp [hawake, hready]), hdynGen, hlarderGen, hdyn, by simp, by simp, by simp,
      by simp⟩

/-! ### The values of reset (Tables 11.3 to 11.5, 12.1, 17.3, 18.3, 20.2, R206, R284, R480) -/

theorem fnGet_reset (n : Nat) : fnGet State.reset n = FnState.atReset n := rfl

theorem dmaGet_reset (ch : Nat) : dmaGet State.reset ch = DmaChannel.atReset := rfl

/-- The reset state meets the invariant: READY 0 is Secure Boot's, the device is not in Lockdown, no byte of the HBM is listed. -/
theorem kept_reset : Kept State.reset where
  ready := rfl
  locked h := nomatch h
  memory := rfl

/-- Only the PF holds grants at reset (Table 11.3). -/
theorem atReset_grants_of_vf {n : Nat} (h : n ≠ 0) :
    (FnState.atReset n).qpGrant = 0 ∧ (FnState.atReset n).sessGrant = 0 ∧ (FnState.atReset n).hbmUnits = 0 := by
  simp [FnState.atReset, h]

/-- The causes of a function at reset: none set, every one masked (Table 11.4). -/
theorem atReset_registers (n : Nat) :
    (FnState.atReset n).intrCause = 0 ∧ (FnState.atReset n).intrMask = 0x1FF ∧ (FnState.atReset n).mbEnabled = false ∧
      (FnState.atReset n).hostOob = 0 :=
  ⟨rfl, rfl, rfl, rfl⟩

/-- Settles O53: every function and channel reads its default, and every other value stands in the reset state. -/
theorem resetLeavesTheStatedValues : Obligations.ResetLeavesTheStatedValues := by
  rintro s rfl
  simp only [fnGet_reset, dmaGet_reset]
  exact ⟨rfl, rfl, rfl, rfl, rfl, rfl, rfl, fun _ h => atReset_grants_of_vf h, atReset_registers, fun _ => ⟨rfl, rfl⟩, rfl,
    rfl, rfl, rfl, rfl, rfl, rfl, rfl, rfl, rfl, rfl, rfl, rfl, rfl, rfl, kept_reset⟩

end Sys2Proof.Machine
end

section
/-! PROOFS. The owners of the DMA channels and the grants of the functions (R219, R235, R284, R285): what starting and completing a
command leaves of them and what a zeroed range reads as, then one lemma per command. -/

namespace Sys2Proof.Machine

/-! ### What starting a command leaves -/

@[simp] theorem markStarted_rest (s : State) (r : CmdRef) :
    (markStarted s r).now = s.now ∧ (markStarted s r).canary = s.canary := by
  unfold markStarted editFlight
  split <;> simp

@[simp] theorem dmaGet_markStarted (s : State) (r : CmdRef) (ch : Nat) : dmaGet (markStarted s r) ch = dmaGet s ch := by
  simp [dmaGet]

@[simp] theorem fnGet_markStarted (s : State) (r : CmdRef) (fn : Nat) : fnGet (markStarted s r) fn = fnGet s fn := by
  simp [fnGet]

@[simp] theorem fnExists_markStarted (s : State) (r : CmdRef) (fn : Nat) : fnExists (markStarted s r) fn = fnExists s fn := by
  simp [fnExists]

@[simp] theorem fencing_markStarted (s : State) (r : CmdRef) (u : FenceUnit) : fencing (markStarted s r) u = fencing s u := by
  simp [fencing]

/-! ### SET_CHANNEL_OWNER and QUERY_CHANNELS (R284, R285) -/

/-- The checks of SET_CHANNEL_OWNER pass for an idle channel of an unfenced host side and a function that exists. -/
theorem chkChannelOwner_of_idle {s : State} {e : Bytes} (hch : u8 e 24 < 16) (hfn : fnExists s (u8 e 25) = true)
    (hidle : (dmaGet s (u8 e 24)).state = .idle) (harmed : (dmaGet s (u8 e 24)).armed = false)
    (hfencing : fencing s .dmaHost = false) : chkChannelOwner s e = none := by
  simp [chkChannelOwner, fenceCheck, hch, hfn, hidle, harmed, hfencing]

theorem exec_setChannelOwner_of_idle {s : State} {r : CmdRef} {i : InFlight} (h : Starts s r 0xA0 i) (hch : u8 i.entry 24 < 16)
    (hfn : fnExists s (u8 i.entry 25) = true) (hidle : (dmaGet s (u8 i.entry 24)).state = .idle)
    (harmed : (dmaGet s (u8 i.entry 24)).armed = false) (hfencing : fencing s .dmaHost = false) :
    exec (.setChannelOwner r) s = .next (succeed
      (if (dmaGet s (u8 i.entry 24)).owner = u8 i.entry 25 then markStarted s r
       else giveChannel (markStarted s r) (u8 i.entry 24) (u8 i.entry 25)) r (dmaGet s (u8 i.entry 24)).owner) := by
  change execSetChannelOwner r s = _
  unfold execSetChannelOwner
  rw [h.serve _ (chkChannelOwner_of_idle hch (by simpa using hfn) (by simpa using hidle) (by simpa using harmed)
    (by simpa using hfencing))]
  simp only [dmaGet_markStarted]

theorem exec_queryChannels {s : State} {r : CmdRef} {i : InFlight} (h : Starts s r 0xA1 i) :
    exec (.queryChannels r) s = .next (succeed (writeData (markStarted s r) r.fn i.entry ((List.range 32).map (fun n =>
      if n < 16 then BitVec.ofNat 8 (dmaGet s n).owner else 0xFF))) r 0) := by
  change execQueryChannels r s = _
  unfold execQueryChannels
  rw [h.serve _ rfl]
  simp only [dmaGet_markStarted]

/-! ### The grants of the functions (R219) -/

/-- What a function is granted: queue pairs, sessions and units of HBM. -/
def grantsOf (f : FnState) : Nat × Nat × Nat := (f.qpGrant, f.sessGrant, f.hbmUnits)

theorem grants_fnSet {s : State} {n : Nat} {x : FnState} (h : grantsOf x = grantsOf (fnGet s n)) (k : Nat) :
    grantsOf (fnGet (fnSet s n x) k) = grantsOf (fnGet s k) := by
  by_cases hk : k = n
  · rw [hk, fnGet_fnSet, h]
  · rw [fnGet_fnSet_ne _ _ _ _ hk]

@[simp] theorem fnGet_emit (s : State) (o : OutItem) (k : Nat) : fnGet (emit s o) k = fnGet s k := rfl
@[simp] theorem fnGet_qpPut (s : State) (q : QueuePair) (k : Nat) : fnGet (qpPut s q) k = fnGet s k := rfl

@[simp] theorem grants_sendMsix (s : State) (fn v k : Nat) : grantsOf (fnGet (sendMsix s fn v) k) = grantsOf (fnGet s k) := by
  unfold sendMsix
  split
  · split
    · exact grants_fnSet (by rfl) k
    · rfl
  · rfl

@[simp] theorem grants_announce (s : State) (q : QueuePair) (noIrq : Bool) (k : Nat) :
    grantsOf (fnGet (announce s q noIrq) k) = grantsOf (fnGet s k) := by
  unfold announce
  dsimp only
  (repeat' split) <;> simp

@[simp] theorem grants_removePair (s : State) (q : QueuePair) (k : Nat) :
    grantsOf (fnGet (removePair s q) k) = grantsOf (fnGet s k) := by
  unfold removePair
  dsimp only
  split
  · exact grants_fnSet (by rfl) k
  · rfl

@[simp] theorem grants_decideCmd (s : State) (r : CmdRef) (a : Reply) (k : Nat) :
    grantsOf (fnGet (decideCmd s r a) k) = grantsOf (fnGet s k) := by
  unfold decideCmd
  split <;> rfl

@[simp] theorem grants_postReady (n : Nat) (s : State) (fn qid k : Nat) :
    grantsOf (fnGet (postReady n s fn qid) k) = grantsOf (fnGet s k) := by
  induction n generalizing s fn qid with
  | zero => rfl
  | succ n ih => unfold postReady; (repeat' split) <;> simp [ih, dropDecided, postCompletion]

/-- Completing a command leaves the grants of every function. -/
@[simp] theorem grants_succeed (s : State) (r : CmdRef) (result k : Nat) :
    grantsOf (fnGet (succeed s r result) k) = grantsOf (fnGet s k) := by
  simp [succeed, finish]

/-! ### A zeroed range (R235) -/

theorem tget_of_unlisted {α : Type} {d : α} {l : Tbl α} {k : Nat} (h : ∀ p ∈ l, p.1 ≠ k) : tget d l k = d := by
  induction l with
  | nil => rfl
  | cons p l ih =>
    rw [List.forall_mem_cons] at h
    obtain ⟨hp, hl⟩ := h
    simp [tget, hp, ih hl]

theorem memByte_memZero {m : Mem} {lo hi a : Nat} (hlo : lo ≤ a) (hhi : a < hi) : memByte (memZero m lo hi) a = 0 := by
  refine tget_of_unlisted fun p hp => ?_
  have := (List.mem_filter.1 hp).2
  simp only [Bool.or_eq_true, decide_eq_true_eq] at this
  omega

/-! ### SET_FUNCTION_RESOURCES (R219, R235) -/

/-- A function with the grants of the command, its HBM grant at the lowest free place. -/
def granted (s : State) (e : Bytes) : FnState :=
  { fnGet s (u8 e 24) with qpGrant := u8 e 25, sessGrant := u16 e 26, hbmUnits := u32 e 28,
                           hbmBase := (placeGrant s (u8 e 24) (u32 e 28)).getD 0 }

/-- The state with the new grants, before the HBM grant is zeroed. -/
def grantPlaced (s : State) (e : Bytes) : State := fnSet s (u8 e 24) (granted s e)

@[simp] theorem fnGet_grantPlaced (s : State) (e : Bytes) : fnGet (grantPlaced s e) (u8 e 24) = granted s e := fnGet_fnSet _ _ _

@[simp] theorem grantPlaced_sessions (s : State) (e : Bytes) : (grantPlaced s e).sessions = s.sessions := rfl

theorem exec_setFunctionResources {s : State} {r : CmdRef} {i : InFlight} (h : Starts s r 0x0B i)
    (hchk : chkResources (markStarted s r) i.entry = none) :
    exec (.setFunctionResources r) s = .next (succeed
      (zeroGrant (grantPlaced (markStarted s r) i.entry) (u8 i.entry 24)) r 0) := by
  change execSetFunctionResources r s = _
  unfold execSetFunctionResources
  rw [h.serve _ hchk]
  rfl

@[simp] theorem fnGet_zeroGrant (s : State) (fn k : Nat) : fnGet (zeroGrant s fn) k = fnGet s k := rfl

/-- Every byte of a grant that is zeroed reads 0. -/
theorem memByte_zeroGrant {s : State} {fn a : Nat} (hlo : (fnGet s fn).hbmBase * 67108864 ≤ a)
    (hhi : a < ((fnGet s fn).hbmBase + (fnGet s fn).hbmUnits) * 67108864) : memByte (zeroGrant s fn).hbm.mem a = 0 := by
  have hlo' : grantAddr s fn 0 ≤ a := by
    rwa [grantAddr, Nat.add_zero]
  have hhi' : a < grantAddr s fn (grantBytes s fn) := by
    rwa [grantAddr, grantBytes, ← Nat.add_mul]
  exact memByte_memZero hlo' hhi'

/-- Settles O9: each command's effect is one write of its channel or its function, read back. -/
theorem channelOwnershipCompletes : Obligations.ChannelOwnershipCompletes := by
  refine ⟨fun s r i => ⟨?_, ?_, exec_queryChannels⟩, ?_⟩
  · intro h hch hfn hidle harmed hfencing howner
    rw [exec_setChannelOwner_of_idle h hch hfn hidle harmed hfencing, if_neg howner, giveChannel]
  · intro h hch hfn hidle harmed hfencing howner
    rw [exec_setChannelOwner_of_idle h hch hfn hidle harmed hfencing, if_pos howner, howner]
  · intro s r i h hchk
    have hgrants := (grants_succeed (zeroGrant (grantPlaced (markStarted s r) i.entry) (u8 i.entry 24)) r 0 (u8 i.entry 24)).trans
      (congrArg grantsOf (fnGet_grantPlaced (markStarted s r) i.entry))
    simp only [grantsOf, granted, Prod.mk.injEq] at hgrants
    obtain ⟨hqp, hsess, hunits⟩ := hgrants
    refine ⟨_, exec_setFunctionResources h hchk, fun b hb a hlo hhi => ?_, hqp, hsess, hunits, by simp⟩
    have hbase : (granted (markStarted s r) i.entry).hbmBase = b := by simp [granted, hb]
    simp only [succeed_same]
    exact memByte_zeroGrant (by rwa [fnGet_grantPlaced, hbase]) (by rwa [fnGet_grantPlaced, hbase])

end Sys2Proof.Machine
end

section
/-! PROOFS. What the commands of the Traffic Manager install (R230, R310, R353, R357, R364 to R366, R369 to R373): reading a table of
the network after writing it, what starting and completing a command leave of the network, and one lemma per command. -/

namespace Sys2Proof.Machine

/-! ### Reading after writing -/

@[simp] theorem meterGet_meterPut (s : State) (n : Nat) (x : Meter) : meterGet (meterPut s n x) n = x := by
  simp [meterGet, meterPut]

theorem meterGet_meterPut_ne (s : State) {n m : Nat} (x : Meter) (h : m ≠ n) : meterGet (meterPut s n x) m = meterGet s m := by
  simp [meterGet, meterPut, tget_tset_ne _ _ _ _ _ h]

@[simp] theorem flowGet_flowSet (s : State) (n : Nat) (x : FlowRecord) : flowGet (flowSet s n x) n = x := by
  simp [flowGet, flowSet]

theorem flowGet_flowSet_ne (s : State) {n m : Nat} (x : FlowRecord) (h : m ≠ n) : flowGet (flowSet s n x) m = flowGet s m := by
  simp [flowGet, flowSet, tget_tset_ne _ _ _ _ _ h]

@[simp] theorem queueGet_queueSet (s : State) (n : Nat) (x : EgressQueue) : queueGet (queueSet s n x) n = x := by
  simp [queueGet, queueSet]

theorem queueGet_queueSet_ne (s : State) {n m : Nat} (x : EgressQueue) (h : m ≠ n) :
    queueGet (queueSet s n x) m = queueGet s m := by
  simp [queueGet, queueSet, tget_tset_ne _ _ _ _ _ h]

@[simp] theorem subGet_subSet (s : State) (n : Nat) (x : Subscriber) : subGet (subSet s n x) n = x := by
  simp [subGet, subSet]

theorem subGet_subSet_ne (s : State) {n m : Nat} (x : Subscriber) (h : m ≠ n) : subGet (subSet s n x) m = subGet s m := by
  simp [subGet, subSet, tget_tset_ne _ _ _ _ _ h]

/-! ### Operations that leave the network -/

/-- With the same network every port, meter, flow, queue and subscriber reads the same. -/
theorem reads_eq_of_net {s t : State} (h : t.net = s.net) (k : Nat) :
    ethGet t k = ethGet s k ∧ meterGet t k = meterGet s k ∧ flowGet t k = flowGet s k ∧ queueGet t k = queueGet s k ∧
      subGet t k = subGet s k := by
  simp only [ethGet, meterGet, flowGet, queueGet, subGet, h, and_self]

@[simp] theorem reads_markStarted (s : State) (r : CmdRef) (k : Nat) :
    ethGet (markStarted s r) k = ethGet s k ∧ meterGet (markStarted s r) k = meterGet s k ∧
      flowGet (markStarted s r) k = flowGet s k ∧ queueGet (markStarted s r) k = queueGet s k ∧
      subGet (markStarted s r) k = subGet s k := reads_eq_of_net (by simp) k

@[simp] theorem reads_configured (s : State) (r : CmdRef) (n k : Nat) :
    ethGet (configured s r n) k = ethGet s k ∧ meterGet (configured s r n) k = meterGet s k ∧
      flowGet (configured s r n) k = flowGet s k ∧ queueGet (configured s r n) k = queueGet s k ∧
      subGet (configured s r n) k = subGet s k := reads_eq_of_net (by simp) k

@[simp] theorem pxGet_configured (s : State) (r : CmdRef) (n k : Nat) : pxGet (configured s r n) k = pxGet s k :=
  pxGet_eq_of_px (by simp) k

/-- A command that changes a configuration advances the epoch counter (R230). -/
@[simp] theorem configured_epochCtr (s : State) (r : CmdRef) (n : Nat) : (configured s r n).epochCtr = s.epochCtr + 1 := by
  simp [configured]

@[simp] theorem ethGet_larderUpdate (s : State) (k : Nat) : ethGet (larderUpdate s) k = ethGet s k :=
  (reads_eq_of_net (by simp) k).1

@[simp] theorem portUsed_markStarted (s : State) (r : CmdRef) (p : Nat) : portUsed (markStarted s r) p = portUsed s p := by
  simp [portUsed, ethLanes]

/-! ### SET_PORT (R310, R353) -/

theorem exec_setPort_of_accepted {s : State} {r : CmdRef} {i : InFlight} {d : Bytes} (h : Starts s r 0x50 i)
    (hchk : chkPort r.fn d (markStarted s r) i.entry = none) :
    exec (.setPort r d) s = .next (configured
      (if isPxPort (u8 i.entry 24) then applyPx (markStarted s r) (u8 i.entry 24 - 46) (readData s r.fn i.entry d)
       else applyEth (markStarted s r) (u8 i.entry 24) (readData s r.fn i.entry d)) r 0) := by
  change execSetPort r d s = _
  unfold execSetPort
  rw [h.serve _ hchk]
  simp only [readData_markStarted]

/-- A port whose configuration stays has it already; one whose configuration changes takes it. -/
@[simp] theorem cfg_applyEth (s : State) (p : Nat) (d : Bytes) : (ethGet (applyEth s p d) p).cfg = readEth d := by
  unfold applyEth
  split
  · assumption
  · simp

@[simp] theorem cfg_pxPin (p : PxPort) : (pxPin p).cfg = p.cfg := by
  unfold pxPin
  dsimp only
  split <;> rfl

@[simp] theorem cfg_applyPx (s : State) (p : Nat) (d : Bytes) : (pxGet (applyPx s p d) p).cfg = readPx d := by
  simp [applyPx]

/-! ### SET_MACSEC (R357) -/

@[simp] theorem changeMacsec_markStarted (s : State) (r : CmdRef) (m : MacsecState) (e : Bytes) :
    changeMacsec (markStarted s r) m e = changeMacsec s m e := by
  simp [changeMacsec, newSa]

theorem exec_setMacsec_of_accepted {s : State} {r : CmdRef} {i : InFlight} (h : Starts s r 0x51 i)
    (hchk : chkMacsec r.fn (markStarted s r) i.entry = none) :
    exec (.setMacsec r) s = .next (approve (bumpEpoch (larderUpdate (ethSet (markStarted s r) (u8 i.entry 24)
      { ethGet s (u8 i.entry 24) with macsec := changeMacsec s (ethGet s (u8 i.entry 24)).macsec i.entry }))) r 0) := by
  change execSetMacsec r s = _
  unfold execSetMacsec
  rw [h.serve _ hchk]
  simp only [reads_markStarted, changeMacsec_markStarted]

@[simp] theorem ethGet_approve_bumpEpoch (s : State) (r : CmdRef) (n k : Nat) :
    ethGet (approve (bumpEpoch s) r n) k = ethGet s k := (reads_eq_of_net (by simp) k).1

/-! ### SET_METER (R366) -/

/-- A meter as SET_METER leaves it at a time, its buckets full. -/
def metered (m : Meter) (e : Bytes) (now : Nat) : Meter :=
  { m with mode := u8 e 26, cir := u32 e 28, pir := u32 e 32, cbs := u32 e 36, pbs := u32 e 40,
           tc := u32 e 36 * unitsPerByte, tp := u32 e 40 * unitsPerByte, at_ := now }

theorem exec_setMeter_of_inRange {s : State} {r : CmdRef} {i : InFlight} (h : Starts s r 0x54 i) (hmeter : u16 i.entry 24 ≤ 8191)
    (hmode : u8 i.entry 26 ≤ 3) (hcir : u32 i.entry 28 ≤ 400000000)
    (hpir : u8 i.entry 26 % 2 = 0 ∨ (u32 i.entry 28 ≤ u32 i.entry 32 ∧ u32 i.entry 32 ≤ 400000000))
    (hcbs : u32 i.entry 36 ≤ 16777215) (hpbs : u32 i.entry 40 ≤ 16777215) :
    exec (.setMeter r) s = .next (configured (meterPut (markStarted s r) (u16 i.entry 24)
      (metered (meterGet s (u16 i.entry 24)) i.entry s.now)) r 0) := by
  change execSetMeter r s = _
  unfold execSetMeter
  rw [h.serve _ (by simp [inRange, hmeter, hmode, hcir, hpir, hcbs, hpbs])]
  simp only [reads_markStarted, markStarted_rest, metered]

/-! ### SET_FLOW (R364, R365) -/

@[simp] theorem countEth_flows (s : State) (p k n : Nat) : (countEth s p k n).net.flows = s.net.flows := rfl

@[simp] theorem sendPfc_flows (s : State) (mask : Nat) (xoff : Bool) : (sendPfc s mask xoff).net.flows = s.net.flows := by
  unfold sendPfc
  refine (foldl_view (·.net.flows) (fun s p => ?_) _ _).trans ?_
  · split
    · exact foldl_view (·.net.flows) (fun s k => by split <;> rfl) _ s
    · rfl
  · cases xoff <;> rfl

@[simp] theorem settlePool_flows (s : State) (k : Nat) : (settlePool s k).net.flows = s.net.flows := by
  unfold settlePool
  dsimp only
  (repeat' split) <;> simp [poolPut]

@[simp] theorem giveBack_flows (s : State) (id : Nat) (b : Buffer) (readback : Bool) :
    (giveBack s id b readback).net.flows = s.net.flows := by
  cases readback <;> simp [giveBack, poolPut]

/-- Starting a merge anew leaves every flow record. -/
@[simp] theorem clearMerge_flows (s : State) (f : Nat) : (clearMerge s f).net.flows = s.net.flows := by
  refine foldl_view (·.net.flows) (fun s h => ?_) _ s
  split <;> simp

@[simp] theorem flowGet_clearMerge (s : State) (f k : Nat) : flowGet (clearMerge s f) k = flowGet s k := by
  simp [flowGet]

theorem exec_setFlow_of_accepted {s : State} {r : CmdRef} {i : InFlight} {d : Bytes} (h : Starts s r 0x55 i)
    (hchk : chkFlow r.fn d (markStarted s r) i.entry = none) :
    exec (.setFlow r d) s = .next (configured (flowSet (clearMerge (markStarted s r) (u32 i.entry 24)) (u32 i.entry 24)
      { flowGet s (u32 i.entry 24) with raw := (readData s r.fn i.entry d).take 96 }) r 0) := by
  change execSetFlow r d s = _
  unfold execSetFlow
  rw [h.serve _ hchk]
  simp only [readData_markStarted, flowGet_clearMerge, reads_markStarted]

/-! ### SET_QUEUE and SET_SUBSCRIBER (R369 to R371) -/

theorem exec_setQueue_of_accepted {s : State} {r : CmdRef} {i : InFlight} (h : Starts s r 0x56 i)
    (hchk : chkQueue (markStarted s r) i.entry = none) :
    exec (.setQueue r) s = .next (configured (queueSet (markStarted s r) (u16 i.entry 24)
      { queueGet s (u16 i.entry 24) with port := u8 i.entry 26, profile := u8 i.entry 27, sub := u16 i.entry 28,
                                         weight := u16 i.entry 30, limit := u32 i.entry 32 }) r 0) := by
  change execSetQueue r s = _
  unfold execSetQueue
  rw [h.serve _ hchk]
  simp only [reads_markStarted]

/-- A subscriber with the parameters of the command. -/
def subscribed (x : Subscriber) (e : Bytes) : Subscriber :=
  { x with port := u8 e 26, cls := u8 e 27, typ := u8 e 28, rate := u32 e 32, burst := u32 e 36, rateNum := u32 e 40,
           rateDen := u32 e 44, tro := u32 e 48, active := u16 e 52, total := u16 e 54 }

theorem exec_setSubscriber_of_accepted {s : State} {r : CmdRef} {i : InFlight} (h : Starts s r 0x57 i)
    (hchk : chkSubscriber (markStarted s r) i.entry = none) :
    exec (.setSubscriber r) s = .next (configured (subSet (markStarted s r) (u16 i.entry 24)
      (subscribed (refillSub (markStarted s r) (subGet s (u16 i.entry 24))) i.entry)) r 0) := by
  change execSetSubscriber r s = _
  unfold execSetSubscriber
  rw [h.serve _ hchk]
  simp only [reads_markStarted, subscribed]

/-! ### SET_CLASSES and SET_GCL (R372, R373) -/

/-- The classes of a port with the weights and kinds of the command, no credit left over. -/
def classed (c : ClassState) (e : Bytes) : ClassState :=
  { c with strict := u8 e 25, essence := u8 e 26, weights := (List.range 8).map (fun k => u8 e (32 + k)), credit := [] }

theorem exec_setClasses_of_weighted {s : State} {r : CmdRef} {i : InFlight} (h : Starts s r 0x67 i)
    (hport : portUsed s (u8 i.entry 24) = true) (hweights : ∀ k, k < 8 → 1 ≤ u8 i.entry (32 + k)) :
    exec (.setClasses r) s = .next (configured (ethSet (markStarted s r) (u8 i.entry 24)
      { ethGet s (u8 i.entry 24) with classes := classed (ethGet s (u8 i.entry 24)).classes i.entry }) r 0) := by
  have hchk : fieldCheck ((portUsed (markStarted s r) (u8 i.entry 24), 24)
      :: (List.range 8).map (fun k => (decide (1 ≤ u8 i.entry (32 + k)), 32 + k))) = none := by
    simpa [hport] using hweights
  change execSetClasses r s = _
  unfold execSetClasses
  rw [h.serve _ hchk]
  simp only [reads_markStarted, classed]

@[simp] theorem gateStart_markStarted (s : State) (r : CmdRef) (g : GateList) : gateStart (markStarted s r) g = gateStart s g := by
  simp [gateStart, ptpTime, toPtp]

/-- A port with a gate list: COUNT 0 removes the list, any other waits for its first cycle boundary. -/
def gated (s : State) (x : EthPort) (g : GateList) : EthPort :=
  if g.entries.isEmpty then { x with gates := none, nextGates := none, gateIdx := 0, gateShift := 0 }
  else { x with nextGates := some ((gateStart s g).toNat, g) }

theorem exec_setGcl_of_accepted {s : State} {r : CmdRef} {i : InFlight} {d : Bytes} (h : Starts s r 0x68 i)
    (hchk : chkGcl r.fn d (markStarted s r) i.entry = none) :
    exec (.setGcl r d) s = .next (configured (ethSet (markStarted s r) (u8 i.entry 24)
      (gated s (ethGet s (u8 i.entry 24)) (readGates (readData s r.fn i.entry d)))) r
      (readGates (readData s r.fn i.entry d)).entries.length) := by
  change execSetGcl r d s = _
  unfold execSetGcl
  rw [h.serve _ hchk]
  simp only [reads_markStarted, readData_markStarted, gateStart_markStarted, gated]

/-- Settles O43: each command is one write of its table, which reads back and leaves every other entry. -/
theorem trafficCommandsComplete : Obligations.TrafficCommandsComplete := by
  intro s r i
  refine ⟨fun d h hchk => ?_, fun h hchk => ?_, fun h hmeter hmode hcir hpir hcbs hpbs => ?_, fun d h hchk => ?_,
    fun h hchk => ?_, fun h hchk => ?_, fun h hport hweights => ?_, fun d g h hchk hg => ?_⟩
  · refine ⟨_, exec_setPort_of_accepted h hchk, ?_⟩
    cases isPxPort (u8 i.entry 24) <;> simp
  · refine ⟨_, exec_setMacsec_of_accepted h hchk, by simp, by simp, fun p hp => ?_, by simp⟩
    simp [ethGet_ethSet_ne _ _ _ _ hp]
  · refine ⟨_, exec_setMeter_of_inRange h hmeter hmode hcir hpir hcbs hpbs, by simp [metered], fun n hn => ?_, by simp⟩
    simp [meterGet_meterPut_ne _ _ hn]
  · refine ⟨_, exec_setFlow_of_accepted h hchk, by simp, fun n hn => ?_, by simp⟩
    simp [flowGet_flowSet_ne _ _ hn]
  · refine ⟨_, exec_setQueue_of_accepted h hchk, by simp, fun n hn => ?_, by simp⟩
    simp [queueGet_queueSet_ne _ _ hn]
  · refine ⟨_, _, exec_setSubscriber_of_accepted h hchk, rfl, ?_⟩
    simp +contextual [subscribed, subGet_subSet_ne]
  · refine ⟨_, exec_setClasses_of_weighted h hport hweights, by simp [classed], fun p hp => ?_, by simp⟩
    simp [ethGet_ethSet_ne _ _ _ _ hp]
  · subst hg
    refine ⟨_, exec_setGcl_of_accepted h hchk, by simp, fun he => by simp [gated, he], fun he => by simp [gated, he],
      fun p hp => ?_⟩
    simp [ethGet_ethSet_ne _ _ _ _ hp]

end Sys2Proof.Machine
end

section
/-! PROOFS. READY, Lockdown and the HBM's canonical form under the model's operations (R250, R409, Table 12.1; log entry 5):
a device that is not in Lockdown stays `Unlocked` through every operation but the entry to Lockdown, which seals it. -/

namespace Sys2Proof.Machine

/-! ### The invariant outside Lockdown -/

/-- The invariant of a device that is not in Lockdown: READY follows MODE, and the HBM's bytes are canonical. -/
structure Unlocked (s : State) : Prop where
  ready : s.ready = readyIn s.mode
  mode : s.mode ≠ .lockdown
  memory : Memory.wf s.hbm.mem = true

theorem Kept.unlocked {s : State} (h : Kept s) (hmode : s.mode ≠ .lockdown) : Unlocked s := ⟨h.ready, hmode, h.memory⟩

theorem Unlocked.kept {s : State} (h : Unlocked s) : Kept s := ⟨h.ready, fun hmode => absurd hmode h.mode, h.memory⟩

/-- MODE and READY stay as they are, and the HBM's bytes stay canonical. -/
@[simp] abbrev Steady (s t : State) : Prop :=
  t.mode = s.mode ∧ t.ready = s.ready ∧ (Memory.wf s.hbm.mem = true → Memory.wf t.hbm.mem = true)

theorem Unlocked.of_steady {s t : State} (h : Unlocked s) (ht : Steady s t) : Unlocked t := by
  obtain ⟨hmode, hready, hmem⟩ := ht
  exact ⟨by rw [hready, hmode, h.ready], by rw [hmode]; exact h.mode, hmem h.memory⟩

theorem unlocked_ite {c : Prop} [Decidable c] {a b : State} (ha : c → Unlocked a) (hb : ¬ c → Unlocked b) :
    Unlocked (if c then a else b) := by
  split
  · exact ha ‹_›
  · exact hb ‹_›

theorem unlocked_foldl {α : Type} {f : State → α → State} (hf : ∀ s a, Unlocked s → Unlocked (f s a)) (l : List α)
    {s : State} (h : Unlocked s) : Unlocked (l.foldl f s) := by
  induction l generalizing s with
  | nil => exact h
  | cons a l ih => exact ih (hf s a h)

/-- A change of MODE brings READY along (R247). -/
theorem unlocked_setMode {s : State} {m : OpMode} (hm : m ≠ .lockdown) (h : Unlocked s) : Unlocked (setMode s m) := by
  obtain ⟨hmode, hready⟩ := setMode_mode s m
  exact ⟨by rw [hready, hmode], by rwa [hmode], by simpa using h.memory⟩

/-! ### Operations that leave MODE and READY -/

theorem unlocked_succeed {s : State} (r : CmdRef) (result : Nat) (h : Unlocked s) : Unlocked (succeed s r result) :=
  h.of_steady (by simp)

theorem unlocked_configured {s : State} (r : CmdRef) (result : Nat) (h : Unlocked s) : Unlocked (configured s r result) :=
  h.of_steady (by simp)

theorem unlocked_larderUpdate {s : State} (h : Unlocked s) : Unlocked (larderUpdate s) := h.of_steady (by simp)

theorem unlocked_settleDegraded {s : State} (h : Unlocked s) : Unlocked (settleDegraded s) := h.of_steady (by simp)

theorem unlocked_logFabric {s : State} (h : Unlocked s) : Unlocked (logFabric s) := h.of_steady (by simp)

/-! ### Resets and Secure Boot (R414, R466, R467) -/

theorem unlocked_resetCore (s : State) (soft : Bool) : Unlocked (resetCore s soft) := ⟨rfl, nofun, rfl⟩

theorem unlocked_coldCore (s : State) : Unlocked (coldCore s) := ⟨rfl, nofun, rfl⟩

theorem bootMode_ne_lockdown (s : State) : bootMode s ≠ .lockdown := fun h => by
  simpa [h, readyIn] using readyIn_bootMode s

theorem unlocked_finishBoot {s : State} (h : Unlocked s) : Unlocked (finishBoot s) := by
  obtain ⟨hmode, hready, -⟩ := finishBoot_end s
  exact ⟨by rw [hready, hmode, readyIn_bootMode], by rw [hmode]; exact bootMode_ne_lockdown s, by simpa using h.memory⟩

theorem unlocked_bootRom {s : State} (i : BootInput) (h : Unlocked s) : Unlocked (bootRom s i) := by
  obtain ⟨hmode, hready, -⟩ := bootRom_end s i
  exact ⟨by rw [hready, hmode]; rfl, by rw [hmode]; nofun, by simpa using h.memory⟩

/-- The platform record of a boot leaves MODE and READY. -/
@[simp] theorem bootPlatform_mode (s : State) (i : BootInput) (slot : Nat) :
    (bootPlatform s i slot).mode = s.mode ∧ (bootPlatform s i slot).ready = s.ready := by
  unfold bootPlatform
  dsimp only
  split <;> simp

theorem unlocked_bootFirmware {s : State} (i : BootInput) (slot : Nat) (h : Unlocked s) : Unlocked (bootFirmware s i slot) := by
  have hpatched : Unlocked (bootPatched s i slot) :=
    h.of_steady (by simp [bootPatched])
  have hnamed : Unlocked ((List.range 4).foldl nameSpare (bootPatched s i slot)) :=
    unlocked_foldl (fun s k h => h.of_steady (by simp [nameSpare])) _ hpatched
  rw [bootFirmware_eq]
  unfold bootPublish
  dsimp only
  split
  · exact hnamed.of_steady (by simp)
  · exact unlocked_finishBoot (hnamed.of_steady (by simp))

/-! ### Power states, SET_MODE and the TAP (R248, R460, R481) -/

theorem unlocked_enterDormant {s : State} (h : Unlocked s) : Unlocked (enterDormant s) :=
  unlocked_setMode nofun (h.of_steady (by simp))

theorem unlocked_wakeUp {s : State} (h : Unlocked s) : Unlocked (wakeUp s) :=
  unlocked_setMode nofun (h.of_steady (by simp))

theorem unlocked_startBist {s : State} (h : Unlocked s) : Unlocked (startBist s) := h.of_steady (by simp)

theorem unlocked_setModeTo {s : State} (r : CmdRef) (target : Nat) (h : Unlocked s) : Unlocked (setModeTo s r target) := by
  have hrefused : ∀ a, Unlocked (finish s r a) := fun a => h.of_steady (by simp)
  unfold setModeTo
  split
  · exact unlocked_succeed _ _ (unlocked_setMode nofun h)
  · exact unlocked_succeed _ _ (unlocked_startBist (unlocked_setMode nofun h))
  · exact unlocked_ite (fun _ => unlocked_succeed _ _ (unlocked_setMode nofun h)) fun _ => hrefused _
  · exact unlocked_ite (fun _ => hrefused _) fun _ => unlocked_succeed _ _ (unlocked_setMode nofun h)
  · exact hrefused _

theorem unlocked_tapMaintenance {s : State} (code : BitVec 8) (h : Unlocked s) : Unlocked (tapMaintenance s code) := by
  unfold tapMaintenance
  extract_lets s1 s2
  have hended : Unlocked s1 := h.of_steady (by simp [s1])
  have hentered : Unlocked s2 := unlocked_ite (fun _ => hended) fun _ => unlocked_setMode nofun hended
  exact ⟨hentered.ready, hentered.mode, hentered.memory⟩

/-! ### Class 4 and the fabric (R188, R249, R387 to R391) -/

theorem unlocked_leaveFabric {s : State} (h : Unlocked s) : Unlocked (leaveFabric s) := by
  unfold leaveFabric
  extract_lets s1 s2
  have hended : Unlocked s1 :=
    unlocked_foldl (fun _ _ h => unlocked_ite (fun _ => h.of_steady (by simp)) fun _ => h.of_steady (by simp +contextual)) _ h
  exact unlocked_setMode nofun ⟨hended.ready, hended.mode, hended.memory⟩

theorem unlocked_class4 {s : State} (h : Unlocked s) : Unlocked (class4 s) := by
  unfold class4
  extract_lets s1 s2
  have hstopped : Unlocked s2 := h.of_steady (by simp +contextual [s2, s1])
  refine unlocked_ite (fun _ => ?_) fun _ => hstopped.of_steady ⟨rfl, rfl, id⟩
  exact unlocked_ite (fun _ => unlocked_leaveFabric hstopped) fun _ => unlocked_setMode nofun hstopped

theorem unlocked_quarantine {s : State} (h : Unlocked s) : Unlocked (quarantine s) := by
  unfold quarantine
  extract_lets s1
  have hended : Unlocked s1 :=
    unlocked_foldl (fun _ _ h => unlocked_ite (fun _ => h.of_steady (by simp)) fun _ => h) _ h
  exact unlocked_logFabric (unlocked_setMode nofun (unlocked_larderUpdate hended))

theorem unlocked_helloRole {s : State} (standby : Nat) (h : Unlocked s) : Unlocked (helloRole s standby) :=
  unlocked_ite (fun _ => unlocked_setMode nofun h) fun _ => unlocked_ite (fun _ => unlocked_setMode nofun h) fun _ => h

theorem unlocked_leaveQuarantine {s : State} (h : Unlocked s) : Unlocked (leaveQuarantine s) :=
  unlocked_ite (fun _ => unlocked_setMode nofun h) fun _ => h

theorem unlocked_sendHello {s : State} (h : Unlocked s) : Unlocked (sendHello s) := h.of_steady (by simp)

theorem unlocked_takeOver {s : State} (h : Unlocked s) : Unlocked (takeOver s) :=
  unlocked_sendHello (unlocked_setMode nofun (h.of_steady (by simp)))

theorem unlocked_clpForeign {s t : State} {h : ClpHdr} (ht : clpForeign s h = some t) (hs : Unlocked s) : Unlocked t := by
  unfold clpForeign at ht
  split at ht
  · obtain rfl := Option.some.inj ht
    exact hs.of_steady (by simp)
  · split at ht
    · obtain rfl := Option.some.inj ht
      exact hs.of_steady (by simp)
    · cases ht

/-- A message that is received keeps the invariant where its own effect does (Table 19.4). -/
theorem unlocked_clpIn {s : State} {h : ClpHdr} {kind : Nat} {i : Option Instr} {old : Bool} {k : State → State} {a : List Nat}
    (hk : ∀ s, Unlocked s → Unlocked (k s)) (hs : Unlocked s) : Unlocked (clpIn s h kind i old k a) := by
  have hnow : Unlocked (atTime s h.t) := hs.of_steady (by simp)
  have hack : ∀ s, Unlocked s → Unlocked (clpAck s h kind a) := fun s h => h.of_steady (by simp)
  unfold clpIn
  dsimp only
  split
  · exact unlocked_clpForeign ‹_› hnow
  · refine unlocked_ite (fun _ => hnow.of_steady (by simp)) fun _ => ?_
    refine unlocked_ite (fun _ => unlocked_leaveFabric hnow) fun _ => ?_
    refine unlocked_ite (fun _ => hnow.of_steady (by simp)) fun _ => ?_
    exact unlocked_ite (fun _ => hack _ (hnow.of_steady (by simp))) fun _ => hack _ (hk _ (hnow.of_steady (by simp)))

theorem unlocked_leaseRenewIn {s : State} (h : ClpHdr) (status unreachable : Nat) (offset : Int) (gm : Nat) (hs : Unlocked s) :
    Unlocked (leaseRenewIn h status unreachable offset gm s) :=
  unlocked_clpIn (fun _ hs => hs.of_steady (by simp)) hs

theorem unlocked_helloMember {s : State} (h : ClpHdr) (standby current next : Nat) (hs : Unlocked s) :
    Unlocked (helloMember s h standby current next) := by
  unfold helloMember
  extract_lets higher s1 s2
  have hnamed : Unlocked s2 := unlocked_leaveQuarantine (unlocked_helloRole _ (hs.of_steady (by simp [s1])))
  exact unlocked_ite (fun _ => hnamed.of_steady (by simp)) fun _ => hnamed

theorem unlocked_helloIn {s : State} (h : ClpHdr) (standby current next : Nat) (hs : Unlocked s) :
    Unlocked (helloIn h standby current next s) := by
  have hnow : Unlocked (atTime s h.t) := hs.of_steady (by simp)
  unfold helloIn
  dsimp only
  split
  · exact unlocked_clpForeign ‹_› hnow
  · refine unlocked_ite (fun _ => unlocked_ite (fun _ => hnow) fun _ => hnow.of_steady (by simp)) fun _ => ?_
    refine unlocked_ite (fun _ => hnow.of_steady (by simp)) fun _ => ?_
    refine unlocked_ite (fun _ => unlocked_ite (fun _ => unlocked_leaveFabric hnow) fun _ => hnow) fun _ => ?_
    exact unlocked_helloMember h standby current next hnow

theorem unlocked_becomeMember {s : State} (h : ClpHdr) (sentAt result role m leaseMs configHash : Nat) (hs : Unlocked s) :
    Unlocked (becomeMember s h sentAt result role m leaseMs configHash) := by
  unfold becomeMember
  extract_lets s1 bad s2
  have hjoined : Unlocked s2 := hs.of_steady (by simp [s2, s1])
  exact unlocked_setMode (by (repeat' split) <;> nofun) hjoined

theorem unlocked_timeCheckIn {s : State} (h : ClpHdr) (managerPtp gm domain limit : Nat) (hs : Unlocked s) :
    Unlocked (timeCheckIn h managerPtp gm domain limit s) :=
  unlocked_clpIn (fun _ hs => hs.of_steady (by simp)) hs

/-! ### Distributed sessions (R177, R183 to R191, R383, R384) -/

theorem unlocked_assignIn {s : State} (h : ClpHdr) (session role region fromFrame : Nat) (config : Bytes) (hs : Unlocked s) :
    Unlocked (assignIn h session role region fromFrame config s) :=
  unlocked_clpIn (fun _ hs => unlocked_ite (fun _ => hs) fun _ =>
    unlocked_ite (fun _ => hs.of_steady (by simp +contextual)) fun _ =>
      unlocked_ite (fun _ => hs.of_steady (by simp)) fun _ => hs) hs

theorem unlocked_ledgerIn {s : State} (h : ClpHdr) (session form frame budgetCrc : Nat) (snapshot : List (Nat × UnitStats))
    (hs : Unlocked s) : Unlocked (ledgerIn h session form frame budgetCrc snapshot s) :=
  unlocked_clpIn (fun _ hs => hs.of_steady (by split <;> simp)) hs

theorem unlocked_loseDivergence {s : State} (m : Nat) (h : Unlocked s) : Unlocked (loseDivergence s m) :=
  unlocked_ite (fun _ => unlocked_class4 (h.of_steady (by simp))) fun _ => h.of_steady (by simp)

theorem unlocked_noMajority {s : State} (x : Session) (d : Divergence) (h : Unlocked s) : Unlocked (noMajority s x d) :=
  unlocked_ite (fun _ => unlocked_loseDivergence _ h) fun _ =>
    unlocked_ite (fun _ => unlocked_loseDivergence _ h) fun _ => h.of_steady (by simp)

theorem unlocked_diverge {s : State} (x : Session) (frame unit : Nat) (a b : Nat × Option UnitStats) (h : Unlocked s) :
    Unlocked (diverge s x frame unit a b) := by
  unfold diverge
  extract_lets d s1
  have hlogged : Unlocked s1 := h.of_steady (by simp [s1])
  refine unlocked_ite (fun _ => h) fun _ => unlocked_ite (fun _ => hlogged) fun _ => ?_
  refine unlocked_ite (fun _ => unlocked_noMajority _ _ (hlogged.of_steady (by simp))) fun _ => ?_
  split
  · exact hlogged
  · exact hlogged.of_steady (by simp)

theorem unlocked_decideReferee {s : State} (x : Session) (d : Divergence) (u : UnitStats) (h : Unlocked s) :
    Unlocked (decideReferee s x d u) := by
  unfold decideReferee
  extract_lets s1 s2 fits
  have hreleased : Unlocked s2 := h.of_steady (by simp only [s2, s1]; split <;> simp)
  refine unlocked_ite (fun _ => unlocked_loseDivergence _ hreleased) fun _ => ?_
  exact unlocked_ite (fun _ => unlocked_loseDivergence _ hreleased) fun _ => unlocked_noMajority _ _ hreleased

theorem unlocked_refereeIn {s : State} (h : ClpHdr) (session frame unit : Nat) (crcs : List (Nat × Nat)) (u : UnitStats)
    (hs : Unlocked s) : Unlocked (refereeIn h session frame unit crcs u s) :=
  unlocked_clpIn (fun s hs => by
    split
    · exact hs
    · split
      · exact hs
      · exact unlocked_ite (fun _ => hs.of_steady (by simp)) fun _ =>
          unlocked_ite (fun _ => hs) fun _ => unlocked_decideReferee _ _ _ hs) hs

theorem unlocked_takeStats {s : State} (x : Session) (from_ frame unit : Nat) (u : UnitStats) (h : Unlocked s) :
    Unlocked (takeStats s x from_ frame unit u) := by
  refine unlocked_ite (fun _ => h.of_steady (by simp)) fun _ => ?_
  split
  · exact h.of_steady (by simp)
  · exact unlocked_ite (fun _ => h.of_steady (by simp)) fun _ => unlocked_diverge _ _ _ _ _ (h.of_steady (by simp))

theorem unlocked_drainStats {s : State} (x : Session) (from_ frame unit : Nat) (h : Unlocked s) :
    Unlocked (drainStats s x from_ frame unit) := h.of_steady (by simp)

theorem unlocked_statsIn {s : State} (h : ClpHdr) (session frame unit : Nat) (u : UnitStats) (hs : Unlocked s) :
    Unlocked (statsIn h session frame unit u s) :=
  unlocked_clpIn (fun s hs => by
    split
    · exact hs
    · refine unlocked_ite (fun _ => hs.of_steady (by simp)) fun _ => ?_
      exact unlocked_drainStats _ _ _ _ (unlocked_takeStats _ _ _ _ _ hs)) hs

theorem unlocked_commitIn {s : State} (h : ClpHdr) (session frame received released : Nat) (hs : Unlocked s) :
    Unlocked (commitIn h session frame received released s) :=
  unlocked_clpIn (fun _ hs => hs.of_steady (by split <;> simp)) hs

theorem unlocked_seamCheckTake {s : State} (x : Session) (from_ frame slice crc : Nat) (refCrc : Option Nat) (h : Unlocked s) :
    Unlocked (seamCheckTake s x from_ frame slice crc refCrc) := by
  unfold seamCheckTake
  extract_lets key _ y s1
  have hkept : Unlocked s1 := h.of_steady (by simp [s1])
  split
  · exact hkept
  · refine unlocked_ite (fun _ => h.of_steady (by simp)) fun _ => ?_
    exact unlocked_ite (fun _ => unlocked_diverge _ _ _ _ _ hkept) fun _ => hkept

theorem unlocked_seamCheckIn {s : State} (h : ClpHdr) (session frame slice crc : Nat) (refCrc : Option Nat) (hs : Unlocked s) :
    Unlocked (seamCheckIn h session frame slice crc refCrc s) :=
  unlocked_clpIn (fun s hs => by
    split
    · exact unlocked_seamCheckTake _ _ _ _ _ _ hs
    · exact hs) hs

theorem unlocked_haloIn {s : State} (h : ClpHdr) (session frame band : Nat) (data : Bytes) (hs : Unlocked s) :
    Unlocked (haloIn h session frame band data s) :=
  unlocked_clpIn (fun _ hs => hs.of_steady (by split <;> simp)) hs

theorem unlocked_seamIn {s : State} (h : ClpHdr) (session frame band : Nat) (data : Bytes) (hs : Unlocked s) :
    Unlocked (seamIn h session frame band data s) :=
  unlocked_clpIn (fun _ hs => hs.of_steady (by dsimp only; (repeat' split) <;> simp)) hs

theorem unlocked_fencedSelf {s : State} (reason session : Nat) (h : Unlocked s) : Unlocked (fencedSelf s reason session) := by
  unfold fencedSelf
  extract_lets s1
  have hstopped : Unlocked s1 := h.of_steady (by simp [s1])
  split
  · exact unlocked_class4 (hstopped.of_steady (by simp))
  · exact unlocked_quarantine hstopped
  · exact hstopped
  · exact unlocked_logFabric (unlocked_leaveFabric hstopped)
  · exact unlocked_logFabric hstopped

theorem unlocked_fenceIn {s : State} (h : ClpHdr) (member reason session : Nat) (hs : Unlocked s) :
    Unlocked (fenceIn h member reason session s) :=
  unlocked_clpIn (fun _ hs => unlocked_ite (fun _ => unlocked_fencedSelf _ _ hs) fun _ =>
    unlocked_ite (fun _ => hs.of_steady (by simp)) fun _ => unlocked_ite (fun _ => unlocked_takeOver hs) fun _ => hs) hs

theorem unlocked_promoteIn {s : State} (h : ClpHdr) (session region newMember frame firstSlice : Nat) (hs : Unlocked s) :
    Unlocked (promoteIn h session region newMember frame firstSlice s) :=
  unlocked_clpIn (fun _ hs => hs.of_steady (by split <;> simp)) hs

/-! ### Epochs (R391, R394) -/

theorem unlocked_runHeld {s : State} (i : Instr) (h : Unlocked s) : Unlocked (runHeld s i) := by
  unfold runHeld
  split
  · exact unlocked_leaseRenewIn _ _ _ _ _ h
  · exact unlocked_timeCheckIn _ _ _ _ _ h
  · exact unlocked_assignIn _ _ _ _ _ _ h
  · exact unlocked_ledgerIn _ _ _ _ _ _ h
  · exact unlocked_statsIn _ _ _ _ _ h
  · exact unlocked_commitIn _ _ _ _ _ h
  · exact unlocked_seamCheckIn _ _ _ _ _ _ h
  · exact unlocked_fenceIn _ _ _ _ h
  · exact unlocked_promoteIn _ _ _ _ _ _ h
  · exact unlocked_haloIn _ _ _ _ _ h
  · exact unlocked_seamIn _ _ _ _ _ h
  · exact unlocked_refereeIn _ _ _ _ _ _ h
  · exact h

theorem unlocked_replayHeld {s : State} (h : Unlocked s) : Unlocked (replayHeld s) :=
  unlocked_foldl (fun _ m h => unlocked_runHeld m.1 h) _ (h.of_steady (by simp))

theorem unlocked_epochPhase {s : State} (phase epoch hash version : Nat) (changes : List (Nat × Nat)) (h : Unlocked s) :
    Unlocked (epochPhase s phase epoch hash version changes) := by
  unfold epochPhase
  extract_lets p
  split
  · exact unlocked_replayHeld (h.of_steady (by simp))
  · next s1 =>
    have hreplayed : Unlocked s1 := unlocked_replayHeld (h.of_steady (by simp))
    exact unlocked_ite (fun _ => unlocked_ite (fun _ => hreplayed) fun _ => unlocked_quarantine hreplayed) fun _ =>
      unlocked_leaveQuarantine hreplayed
  · exact unlocked_quarantine (h.of_steady (by simp))

/-! ### Faults of classes 0 to 4 (R399 to R404) -/

theorem unlocked_reactTo {s : State} (src : FaultSrc) (ev : ErrEvent) (addr : Nat) (h : Unlocked s) :
    Unlocked (reactTo s src ev addr) := by
  unfold reactTo
  split
  · exact h.of_steady (by simp)
  · exact h.of_steady (by simp)
  · exact unlocked_class4 h
  · exact h.of_steady (by split <;> simp)
  · exact h.of_steady (by simp +contextual)
  · exact h.of_steady (by split <;> simp)
  · exact h.of_steady (by simp)
  · exact h.of_steady (by simp)
  · exact h.of_steady (by simp)
  · exact unlocked_class4 h
  · exact h

theorem unlocked_blockPort {s : State} (src : FaultSrc) (ev : ErrEvent) (cls addr : Nat) (h : Unlocked s) :
    Unlocked (blockPort s src ev cls addr) := by
  unfold blockPort
  dsimp only
  refine unlocked_ite (fun _ => h.of_steady (by simp)) fun _ => unlocked_reactTo _ _ _ (h.of_steady ?_)
  cases src <;> simp

theorem unlocked_sramError {s : State} (array index word : Nat) (h : Unlocked s) : Unlocked (sramError s array index word) := by
  unfold sramError
  split
  · exact unlocked_blockPort _ _ _ _ h
  · exact h.of_steady (by simp)
  · exact unlocked_blockPort _ _ _ _ h
  · have hlogged : Unlocked (blockPort s .tables .entryError 1 word) := unlocked_blockPort _ _ _ _ h
    dsimp only
    split
    · exact unlocked_ite (fun _ => hlogged) fun _ => hlogged.of_steady ⟨rfl, rfl, id⟩
    · exact hlogged
  · exact unlocked_blockPort _ _ _ _ h

/-! ### The entry to Lockdown (R409, R483) -/

/-- Lockdown leaves nothing of what R409 ends. -/
theorem sealedDown_lockdown (s : State) : sealedDown (lockdown s) = true := by
  simp [sealedDown, lockdown, destroyAll, zeroize]

theorem kept_of_sealed {s : State} (h : sealedDown s = true) (hmem : Memory.wf s.hbm.mem = true) : Kept s where
  ready := by
    simp only [sealedDown, Bool.and_eq_true, beq_iff_eq] at h
    obtain ⟨⟨⟨⟨⟨⟨⟨hmode, hready⟩, -⟩, -⟩, -⟩, -⟩, -⟩, -⟩ := h
    simpa [hmode, readyIn] using hready
  locked _ := h
  memory := hmem

theorem kept_class5 {s : State} (bit : Nat) (h : Unlocked s) : Kept (class5 s bit) :=
  kept_of_sealed (sealedDown_lockdown _) (by simpa using h.memory)

theorem kept_portEvent {s : State} (src : FaultSrc) (ev : ErrEvent) (cls addr : Nat) (h : Unlocked s) :
    Kept (portEvent s src ev cls addr) := by
  have hblock : Unlocked (blockPort s src ev cls addr) := unlocked_blockPort _ _ _ _ h
  unfold portEvent
  split
  · exact kept_class5 _ (h.of_steady (by split <;> simp))
  · refine Unlocked.kept ?_
    split
    · exact h.of_steady (by simp)
    · exact unlocked_ite (fun _ => unlocked_ite (fun _ => unlocked_resetCore _ _) fun _ => h.of_steady (by simp)) fun _ => hblock
    · exact unlocked_ite (fun _ => unlocked_resetCore _ _) fun _ => hblock
    · exact hblock

end Sys2Proof.Machine
end

section
/-! PROOFS. READY, Lockdown and the HBM's canonical form under every command (R250, R409, Table 12.1; log entry 5): one rule
per shape of a meaning, then one lemma per command that may change MODE. In Lockdown every condition of an effect fails but
those of the cold reset, the removal of power, a BAR2 read and the TAP, which leave what is sealed or end Lockdown. -/

namespace Sys2Proof.Machine

/-! ### One rule per shape of a meaning -/

theorem asleep_of_locked {s : State} (h : s.mode = .lockdown) : asleep s = true := by simp [asleep, h]

theorem dead_of_locked {s : State} (h : s.mode = .lockdown) : dead s = true := by simp [dead, h]

@[simp] theorem ite_mem (c : Prop) [Decidable c] (a b : HbmState) : (if c then a else b).mem = if c then a.mem else b.mem :=
  apply_ite HbmState.mem c a b

/-- The next state that a meaning answers, if it answers one, meets the invariant. -/
def KeptAfter (r : Result) : Prop := ∀ t, r = .next t → Kept t

theorem keptAfter_next {t : State} (h : Kept t) : KeptAfter (.next t) := fun _ ht => Host.Outcome.next.inj ht ▸ h

theorem keptAfter_fault (f : Fault) : KeptAfter (.fault f) := fun _ ht => by simp at ht

theorem keptAfter_refused (f : Refusal) : KeptAfter (.refused f) := fun _ ht => by simp at ht

/-- An effect under a condition: in Lockdown the condition fails, elsewhere the effect keeps the invariant. -/
theorem act_kept {s k : State} {c : Bool} (h : Kept s) (hlocked : s.mode = .lockdown → c = false)
    (hk : Unlocked s → Kept k) : KeptAfter (act s c k) := by
  cases c with
  | false => exact keptAfter_next h
  | true => exact keptAfter_next (hk (h.unlocked fun hmode => Bool.true_eq_false ▸ hlocked hmode))

/-- An effect that keeps the invariant in Lockdown too. -/
theorem act_always {s k : State} {c : Bool} (h : Kept s) (hk : Kept k) : KeptAfter (act s c k) := by
  cases c
  · exact keptAfter_next h
  · exact keptAfter_next hk

/-- An effect that leaves MODE, READY and the bytes unlocked where it finds them so. -/
theorem act_unlocked {s k : State} {c : Bool} (h : Kept s) (hlocked : s.mode = .lockdown → c = false)
    (hk : Unlocked s → Unlocked k) : KeptAfter (act s c k) :=
  act_kept h hlocked fun hs => (hk hs).kept

/-- The same for an effect that every awake device has. -/
theorem act_awake_unlocked {s k : State} (h : Kept s) (hk : Unlocked s → Unlocked k) : KeptAfter (act s (!asleep s) k) :=
  act_unlocked h (fun hmode => by simp [asleep_of_locked hmode]) hk

/-- The same for an effect that leaves MODE and READY and keeps the bytes canonical. -/
theorem act_steady {s k : State} {c : Bool} (h : Kept s) (hlocked : s.mode = .lockdown → c = false)
    (hk : Steady s k) : KeptAfter (act s c k) :=
  act_unlocked h hlocked fun hs => hs.of_steady hk

theorem withUnit_kept {ok : Bool} {r : Result} (hr : KeptAfter r) : KeptAfter (withUnit ok r) := by
  cases ok
  · exact keptAfter_fault _
  · exact hr

theorem unit_steady {s k : State} {ok c : Bool} (h : Kept s) (hlocked : s.mode = .lockdown → c = false)
    (hk : Steady s k) : KeptAfter (withUnit ok (act s c k)) :=
  withUnit_kept (act_steady h hlocked hk)

/-- A host command: in Lockdown none starts, and elsewhere a completion, an unreadable buffer and its own effect keep the
invariant. -/
theorem serve_kept {s : State} {r : CmdRef} {op : Nat} {chk : State → Bytes → Option Reply} {k : State → Bytes → State}
    (h : Kept s) (hk : ∀ s e, Unlocked s → Unlocked (k s e)) : KeptAfter (serve s r op chk k) := by
  by_cases hmode : s.mode = .lockdown
  · rw [serve_asleep _ _ _ _ _ (asleep_of_locked hmode)]
    exact keptAfter_next h
  · have hs : Unlocked s := h.unlocked hmode
    have hstarted : Unlocked (markStarted s r) := hs.of_steady (by simp)
    have hdone : ∀ {s a}, Unlocked s → Unlocked (finish s r a) := fun h => h.of_steady (by simp)
    unfold serve
    dsimp only
    split
    · exact keptAfter_next h
    · split
      · exact keptAfter_next (hdone hstarted).kept
      · split
        · exact keptAfter_next (hdone (hstarted.of_steady (by simp))).kept
        · split
          · exact keptAfter_next (hdone hstarted).kept
          · exact keptAfter_next (hk _ _ hstarted).kept

theorem serve_steady {s : State} {r : CmdRef} {op : Nat} {chk : State → Bytes → Option Reply} {k : State → Bytes → State}
    (h : Kept s) (hk : ∀ s e, Steady s (k s e)) : KeptAfter (serve s r op chk k) :=
  serve_kept h fun s e hs => hs.of_steady (hk s e)

theorem unlocked_onSession {fn : Nat} {k : State → Session → Bytes → State} {s : State} {e : Bytes} (h : Unlocked s)
    (hk : ∀ x, Unlocked (k s x e)) : Unlocked (onSession fn k s e) := by
  unfold onSession
  split
  · exact h
  · exact hk _

/-- A host command that names a session. -/
theorem session_steady {s : State} {r : CmdRef} {op : Nat} {chk : State → Bytes → Option Reply}
    {k : State → Session → Bytes → State} (h : Kept s) (hk : ∀ s x e, Steady s (k s x e)) :
    KeptAfter (serve s r op chk (onSession r.fn k)) :=
  serve_kept h fun s e hs => unlocked_onSession hs fun x => hs.of_steady (hk s x e)

/-! ### Operations whose state stands in a pair or an option -/

theorem pxReceive_steady {s s1 : State} {typ : Nat} {p : PxPkt} {b : Bool} (h : pxReceive s typ p = (b, s1)) : Steady s s1 := by
  obtain rfl : (pxReceive s typ p).2 = s1 := congrArg Prod.snd h
  simp

theorem takeRequest_steady {s s1 : State} {q : LearnReq} (h : takeRequest s q = some s1) : Steady s s1 := by
  unfold takeRequest at h
  (repeat' split at h) <;> cases h
  simp

/-! ### Commands that may change MODE -/

theorem execSetMode_kept (r : CmdRef) {s : State} (h : Kept s) : KeptAfter (execSetMode r s) :=
  serve_kept h fun _ _ hs => unlocked_ite (fun _ => unlocked_succeed _ _ hs) fun _ => unlocked_setModeTo _ _ hs

theorem execSetPowerState_kept (r : CmdRef) {s : State} (h : Kept s) : KeptAfter (execSetPowerState r s) :=
  serve_kept h fun _ _ hs => unlocked_ite (fun _ => unlocked_enterDormant (unlocked_succeed _ _ hs)) fun _ =>
    unlocked_succeed _ _ (hs.of_steady (by simp))

theorem execFabricCreate_kept (r : CmdRef) {s : State} (h : Kept s) : KeptAfter (execFabricCreate r s) :=
  serve_kept h fun _ _ hs => unlocked_configured _ _ (unlocked_setMode nofun (hs.of_steady (by simp)))

theorem execFabricLeave_kept (r : CmdRef) {s : State} (h : Kept s) : KeptAfter (execFabricLeave r s) :=
  serve_kept h fun _ _ hs => unlocked_ite
    (fun _ => unlocked_configured _ _ (unlocked_leaveFabric (hs.of_steady (by simp)))) fun _ => hs.of_steady (by simp)

theorem execUpdateActivate_kept (r : CmdRef) {s : State} (h : Kept s) : KeptAfter (execUpdateActivate r s) :=
  serve_kept h fun _ _ hs => unlocked_ite (fun _ => unlocked_resetCore _ _) fun _ => hs.of_steady (by simp)

theorem execActivateFirmware_kept (c : Bool) (t : Nat) {s : State} (h : Kept s) : KeptAfter (execActivateFirmware c t s) :=
  act_unlocked h (fun hm => by simp [sidebandOn, asleep_of_locked hm]) fun hs =>
    unlocked_ite (fun _ => unlocked_ite (fun _ => hs.of_steady (by simp)) fun _ =>
      unlocked_ite (fun _ => unlocked_resetCore _ _) fun _ => hs.of_steady (by simp)) fun _ => hs.of_steady (by simp)

theorem execWarmReset_kept (trigger : WarmTrigger) (t : Nat) {s : State} (h : Kept s) : KeptAfter (execWarmReset trigger t s) :=
  act_unlocked h (fun hm => by simp [dead_of_locked hm]) fun hs =>
    unlocked_ite (fun _ => hs.of_steady (by simp +contextual)) fun _ => unlocked_resetCore _ _

theorem execSecureBoot_kept (i : BootInput) {s : State} (h : Kept s) : KeptAfter (execSecureBoot i s) := by
  refine act_unlocked h (fun hm => by simp [hm]) fun hs => ?_
  have hchosen : Unlocked (chooseSlot (atTime s i.t) i).2 := hs.of_steady (by simp)
  split
  · next hslot =>
    rw [hslot] at hchosen
    exact unlocked_bootRom i hchosen
  · next hslot =>
    rw [hslot] at hchosen
    exact unlocked_bootFirmware i _ hchosen

theorem execDormantWake_kept (source : WakeSource) (digestOk : Bool) (t : Nat) {s : State} (h : Kept s) :
    KeptAfter (execDormantWake source digestOk t s) := by
  refine act_unlocked h (fun hm => by simp [hm]) fun hs => unlocked_ite (fun _ => unlocked_resetCore _ _) fun _ => ?_
  have hwoken : Unlocked (wakeUp (atTime s t)) := unlocked_wakeUp (hs.of_steady (by simp))
  split
  · exact unlocked_resetCore _ _
  · exact unlocked_ite (fun _ => unlocked_resetCore _ _) fun _ => hwoken.of_steady (by simp +contextual)
  · exact hwoken

theorem execRailUndervoltage_kept (rail : Rail) (t : Nat) {s : State} (h : Kept s) : KeptAfter (execRailUndervoltage rail t s) := by
  refine act_kept h (fun hm => by simp [dead_of_locked hm]) fun hs => ?_
  have hnow : Unlocked (atTime s t) := hs.of_steady (by simp)
  cases rail with
  | vddSram | hbmRail | vddio18 => exact (unlocked_resetCore _ _).kept
  | vddaEth | vddaPcie | vddaPx => exact (hnow.of_steady (by simp +contextual)).kept
  | vddAon => exact kept_class5 _ hnow

theorem execRefclkLoss_kept (clk : RefClk) (t : Nat) {s : State} (h : Kept s) : KeptAfter (execRefclkLoss clk t s) := by
  refine act_kept h (fun hm => by simp [dead_of_locked hm]) fun hs => ?_
  cases clk with
  | sysClk => exact kept_class5 _ (hs.of_steady (by simp))
  | ethRefclk | pcieRefclk | pxRefclk | xtal32k => exact (hs.of_steady (by simp +contextual)).kept

theorem execSelfTestPeriodic_kept (failMask : Nat) (ok : Bool) (t : Nat) {s : State} (h : Kept s) :
    KeptAfter (execSelfTestPeriodic failMask ok t s) := by
  refine act_kept h (fun hm => by simp [dead_of_locked hm]) fun hs => ?_
  dsimp only
  split
  · exact kept_class5 _ (hs.of_steady (by simp))
  · exact (hs.of_steady (by simp)).kept

theorem execErrorPortEvent_kept (src : FaultSrc) (ev : ErrEvent) (addr t : Nat) {s : State} (h : Kept s) :
    KeptAfter (execErrorPortEvent src ev addr t s) := by
  refine withUnit_kept (act_kept h (fun hm => by simp [asleep_of_locked hm]) fun hs => ?_)
  have hnow : Unlocked (atTime s t) := hs.of_steady (by simp)
  dsimp only
  split
  · exact Unlocked.kept ⟨hnow.ready, hnow.mode, hnow.memory⟩
  · split
    · exact kept_portEvent _ _ _ _ hnow
    · exact hnow.kept

theorem execHbmTempRead_kept (stack : Nat) (temp : Int) (t : Nat) {s : State} (h : Kept s) :
    KeptAfter (execHbmTempRead stack temp t s) := by
  refine withUnit_kept (act_awake_unlocked h fun hs => ?_)
  extract_lets s1 old s2 s3 lost s4
  have hread : Unlocked s3 := hs.of_steady (by simp [s3, s2, s1])
  have hjudged : Unlocked s4 := unlocked_ite (fun _ => unlocked_class4 (hread.of_steady (by simp))) fun _ => hread
  exact unlocked_ite (fun _ => unlocked_finishBoot hjudged) fun _ => hjudged

theorem execSramScrub_kept (array index word errors t : Nat) {s : State} (h : Kept s) :
    KeptAfter (execSramScrub array index word errors t s) := by
  refine withUnit_kept (act_awake_unlocked h fun hs => ?_)
  refine unlocked_ite (fun _ => hs.of_steady (by simp)) fun _ => unlocked_ite (fun _ => hs.of_steady (by simp)) fun _ => ?_
  exact unlocked_sramError _ _ _ (hs.of_steady (by simp))

/-! ### Commands of the fabric that may change MODE -/

theorem unlocked_endJoin {s : State} (a : Reply) (h : Unlocked s) : Unlocked (endJoin s a) := h.of_steady (by simp)

theorem execJoinAck_kept (hd : ClpHdr) (result role member leaseMs hash : Nat) {s : State} (h : Kept s) :
    KeptAfter (execJoinAck hd result role member leaseMs hash s) := by
  refine act_unlocked h (fun hm => by simp [asleep_of_locked hm]) fun hs => ?_
  have hnow : Unlocked (atTime s hd.t) := hs.of_steady (by simp)
  dsimp only
  split
  · exact unlocked_endJoin _ hnow
  · exact unlocked_endJoin _ hnow
  · exact unlocked_endJoin _ ((unlocked_becomeMember hd _ _ _ _ _ _ hnow).of_steady ⟨rfl, rfl, id⟩)

theorem execRefereeTimeout_kept (session frame unit t : Nat) {s : State} (h : Kept s) :
    KeptAfter (execRefereeTimeout session frame unit t s) := by
  refine act_unlocked h (fun hm => by simp [asleep_of_locked hm]) fun hs => ?_
  have hnow : Unlocked (atTime s t) := hs.of_steady (by simp)
  dsimp only
  split
  · exact hnow
  · split
    · exact hnow
    · exact unlocked_ite (fun _ => hnow) fun _ => unlocked_noMajority _ _ (hnow.of_steady (by split <;> simp))

theorem execEpochAdvance_kept (hd : ClpHdr) (phase epoch hash version : Nat) (changes : List (Nat × Nat)) {s : State}
    (h : Kept s) : KeptAfter (execEpochAdvance hd phase epoch hash version changes s) :=
  act_awake_unlocked h (unlocked_clpIn fun _ hs =>
    unlocked_ite (fun _ => hs.of_steady (by simp)) fun _ => unlocked_epochPhase _ _ _ _ _ hs)

theorem execEpochHoldTimeout_kept (epoch t : Nat) {s : State} (h : Kept s) : KeptAfter (execEpochHoldTimeout epoch t s) := by
  refine act_awake_unlocked h fun hs => unlocked_ite (fun _ => ?_) fun _ => hs.of_steady (by simp)
  have hdropped : Unlocked (fabSet (atTime s t) fun f => { f with heldMsgs := f.heldMsgs.filter (fun m => m.2.1 ≠ epoch) }) :=
    hs.of_steady (by simp)
  exact unlocked_ite (fun _ => unlocked_quarantine hdropped) fun _ => hdropped

/-! ### Commands whose effect is a loop, or is decided by more than a condition -/

theorem execMbDisable_kept (fn : Nat) {s : State} (h : Kept s) : KeptAfter (execMbDisable fn s) :=
  withUnit_kept (act_unlocked h (fun hm => by simp [asleep_of_locked hm]) fun hs =>
    unlocked_foldl (fun _ _ hs => hs.of_steady (by split <;> simp)) _ (hs.of_steady (by simp)))

theorem unlocked_dropUnusableSpare {s : State} {k : Nat} (h : Unlocked s) : Unlocked (dropUnusableSpare s k) := by
  unfold dropUnusableSpare
  split
  · exact unlocked_ite (fun _ => h) fun _ => h.of_steady (by simp)
  · exact h

theorem execBistComplete_kept (failed : List Nat) (t : Nat) {s : State} (h : Kept s) : KeptAfter (execBistComplete failed t s) := by
  refine act_unlocked h (fun hm => by simp [asleep_of_locked hm]) fun hs => ?_
  have hsettled : Unlocked (allUnits.foldl (settleUnit (failed.filterMap unitOf)) (bistEnded (atTime s t))) :=
    hs.of_steady (by simp [bistEnded])
  have hspares := unlocked_foldl (f := dropUnusableSpare) (fun _ _ => unlocked_dropUnusableSpare) (List.range 4) hsettled
  exact unlocked_settleDegraded (unlocked_larderUpdate hspares)

theorem execLedgerDigestTimer_kept (t : Nat) {s : State} (h : Kept s) : KeptAfter (execLedgerDigestTimer t s) :=
  act_unlocked h (fun hm => by simp [asleep_of_locked hm]) fun hs =>
    unlocked_foldl (fun _ _ hs => hs.of_steady (by split <;> simp)) _ (hs.of_steady (by simp))

theorem execClpAckReceived_kept (hd : ClpHdr) (kind seq : Nat) (nak : Bool) (leaseMs : Nat) {s : State} (h : Kept s) :
    KeptAfter (execClpAckReceived hd kind seq nak leaseMs s) := by
  refine act_awake_unlocked h fun hs => ?_
  have hnow : Unlocked (atTime s hd.t) := hs.of_steady (by simp)
  dsimp only
  split
  · exact unlocked_clpForeign ‹_› hnow
  · refine unlocked_ite (fun _ => hnow.of_steady (by simp)) fun _ => hnow.of_steady ?_
    split <;> simp

/-- VF_ENABLE_CLEAR is an effect under a condition, written out. -/
theorem execVfEnableClear_kept {s : State} (h : Kept s) : KeptAfter (execVfEnableClear s) :=
  act_steady h (fun hm => by simp [dead_of_locked hm]) (by simp +contextual)

/-- BAR2_ACCESS: in Lockdown a read answers zeros, which are output alone. -/
theorem execBar2Access_kept (fn offset : Nat) (op : Bar2Op) {s : State} (h : Kept s) : KeptAfter (execBar2Access fn offset op s) := by
  refine withUnit_kept ?_
  cases op with
  | read len =>
    dsimp only
    split
    · exact keptAfter_next h
    · split
      · exact act_always h ⟨h.ready, h.locked, h.memory⟩
      · next hawake =>
        exact act_steady h (fun hm => absurd (asleep_of_locked hm) hawake) (by simp)
  | write data => exact act_steady h (fun hm => by simp [asleep_of_locked hm]) (by simp +contextual)

/-- In Lockdown no instruction but IDCODE, SAMPLE and BYPASS acts, and these drive no pin (R483). -/
theorem not_locked_of_pinDriving {s : State} {code : BitVec 8} (h : pinDriving (tapActs s code) = true) :
    s.mode ≠ .lockdown := by
  intro hmode
  rw [tapActs, if_pos (asleep_of_locked hmode)] at h
  split at h
  · next hcode => obtain rfl | rfl := hcode <;> exact absurd h (by decide)
  · exact absurd h (by decide)

/-- TAP_UPDATE_IR: a class 5 event in the same cycle seals the device, a pin-driving instruction leads to Maintenance, and any
other instruction writes the TAP alone (R481, R483). -/
theorem execTapUpdateIr_kept (code : BitVec 8) (k : Bool) (t : Nat) {s : State} (h : Kept s) :
    KeptAfter (execTapUpdateIr code k t s) := by
  have hnow : Kept (atTime s t) := ⟨h.ready, h.locked, h.memory⟩
  unfold execTapUpdateIr
  dsimp only
  split
  · exact keptAfter_next h
  · split
    · exact keptAfter_next (kept_of_sealed (sealedDown_lockdown (atTime s t)) (by simpa using h.memory))
    · split
      · next hdrive =>
        have hawake : Unlocked (atTime s t) := hnow.unlocked (not_locked_of_pinDriving hdrive)
        exact keptAfter_next (unlocked_tapMaintenance code hawake).kept
      · split
        · exact keptAfter_refused _
        · exact keptAfter_next ⟨h.ready, h.locked, h.memory⟩

/-! ### Every command -/

/-- Every command keeps the invariant: by the rule of its meaning's shape, where the effect is a chain of operations that leave
MODE and READY (`Laws/Same`) and the canonical form (`Laws/Keeps`); the commands that may change MODE by a lemma of their own. -/
theorem exec_kept (c : Instr) {s : State} (h : Kept s) : KeptAfter (exec c s) := by
  have hasleep : s.mode = .lockdown → asleep s = true := asleep_of_locked
  have hdead : s.mode = .lockdown → dead s = true := dead_of_locked
  have hsideband : s.mode = .lockdown → sidebandOn s = false := fun hm => by simp [sidebandOn, hasleep hm]
  cases c with (dsimp only [exec])
  -- Host commands.
  | identify | configureEvents | createQp | getLog | getTelemetry | setFunctionResources
  | createSession | setPort | setMacsec | setPtp | queryPtp | setMeter | setFlow | setQueue | setSubscriber | setClasses
  | setGcl | tableRead | tableFlush | routeAdd | routeDelete | setNextHop | setLearn | setGroup | queryTables | setPools
  | queryPools | setCapture | setMirrorRule | setDropProfile | fabricJoin | fabricQuery
  | fabricDrain | fabricSetStandby | secQuery | secAuthChallenge | secAuthResponse | secLogout | secKemKeygen | secKeyQuery
  | secZeroize | secSelfTest | secAttest | secRandom | secDigest | updateOpen | updateWrite | updateVerify
  | updateCommit | updateAbort | updateStatus | setPlatformConfig | setChannelOwner | queryChannels =>
    exact serve_steady h fun _ _ => by simp +contextual
  | deleteQp | tableDelete | fabricSetVersion =>
    exact serve_steady h fun _ _ => by (repeat' split) <;> simp +contextual
  | abort | tableInsert | secKeyImport | secKeyDelete =>
    exact serve_steady h fun _ _ => by dsimp only; (repeat' split) <;> simp
  -- Host commands that name a session.
  | reconfigureSession | stopSession | destroySession | querySession | setSessionRings | forceRefresh | submitPicture
  | submitBitstream => exact session_steady h fun _ _ _ => by simp +contextual
  | startSession => exact session_steady h fun _ _ _ => by split <;> simp
  | returnBuffer | flush => exact session_steady h fun _ _ _ => by dsimp only; (repeat' split) <;> simp +contextual
  -- Events under a condition.
  | larderUpdate | bankedEntry | bankedExit | avsStep
  | avsRetry | vddCoreWarn | stretch2ms | thermalWarn | thermalThrottle
  | wakeOscTrim | fwHeartbeat | lockstepMismatch | faultNRelease | agingSweep | announceTimeout
  | ppsInEdge | ppsOut | helloTimer | joinReq | joinRetry | headlessRejoin | leaseRenewTimer
  | memberLost | timeCheckTimer | unqualHoldExpiry
  | entropyHealthFail | drbgReseed | telemetrySweep | agingWrite | rotationCheck | autoCommit
  | flashLogWrite | vddFuseChange | avsSettled =>
    exact act_steady h (fun hm => by simp [hasleep hm, hdead hm]) (by simp +contextual)
  | mctpSetEndpointId | mctpGetEndpointId | mctpGetVersionSupport | mctpGetMessageTypeSupport | requestUpdate =>
    exact act_steady h hsideband (by simp)
  | transferComplete => exact act_steady h hsideband (by dsimp only; (repeat' split) <;> simp)
  | commandTimeout | clpRetransmit =>
    exact act_steady h (fun hm => by simp [hasleep hm]) (by (repeat' split) <;> simp)
  | vddCoreRecover | throttleRelease | bandDispatch | packetRelease | bandReleaseTime | tsPsiTimer | inputGapTimeout
  | decodePictureEnd | reorderTimeout | rtpPacketRx | decodeOutputStart | statsRequest | statsTimeout | timeQualified
  | sliceTransfer | sliceResendTimer | haloResendTimer | decapKeyExpiry =>
    exact act_steady h (fun hm => by simp [hasleep hm, hdead hm]) (by dsimp only; (repeat' split) <;> simp +contextual)
  -- Events that name a unit.
  | mbEnable | intrMaskWrite | registerWrite | dmaArm | dmaClearHalt | dmaShadowWrite | dmaBurstIssue | flr
  | busMasterEnableSet | hbmSelfRefreshTimer | coreSleep | keepWarmWake | clusterPllOff | fenceEffect | patchParityError
  | coreBistReloadDone | pxLinkUp | pxLinkDown | pxFifoRead | ethFrameHead | portPacketIn | poolCacheRefill | egressSelect
  | queueAvgDecay | pfcXoffRx | pfcXoffExpire | mergeLegDown | flapClear | ptpMessageTimer | roleExpiry | sensorTrim
  | hbmRequest | bulkPromotion | hbmRefresh | actWindowEnd | patrolScrub | retrainStart
  | ethLinkUp | ethLinkDown | msixVectorUnmask =>
    exact unit_steady h (fun hm => by simp [hasleep hm, hdead hm]) (by simp +contextual)
  | sqTailWrite | cqHeadWrite | commandFetch | coalesceTimer | dmaBeatReturn | dmaBeatError
  | cuStart | cuMeasure | surveyRowStart | ethFrameEnd | ptpMessageRx =>
    exact unit_steady h (fun hm => by simp [hasleep hm]) (by (repeat' split) <;> simp +contextual)
  | dmaDisable | coreRestart | coreWakeComplete | spareTakeover | bandStart | rowCommit | ppuBand | decodeUnitStart | decodeRowCommit
  | pxTxLine | pantryRetry | copyDone | gclBoundary | mergeLostTimeout | nonceExpiry | authLockoutEnd | hbmReadReturn
  | pageCloseTimeout | retrainDone =>
    exact unit_steady h (fun hm => by simp [hasleep hm, hdead hm]) (by dsimp only; (repeat' split) <;> simp +contextual)
  -- Packets of a pixel port, and requests to the tables.
  | frameStart | line | frameEnd | metadata =>
    refine unit_steady h (fun hm => by simp [hasleep hm]) ?_
    split <;> next hp => simp +contextual [pxReceive_steady hp]
  | learn | refresh | move =>
    refine unit_steady h (fun hm => by simp [hasleep hm]) ?_
    split
    · next hq => simp +contextual [takeRequest_steady hq]
    · simp
  -- Commands that may change MODE.
  | setMode r => exact execSetMode_kept r h
  | reset r => exact serve_kept h fun _ _ _ => unlocked_resetCore _ _
  | setPowerState r => exact execSetPowerState_kept r h
  | fabricCreate r => exact execFabricCreate_kept r h
  | fabricLeave r => exact execFabricLeave_kept r h
  | secLifecycle r data => exact serve_kept h fun _ _ _ => unlocked_resetCore _ _
  | updateActivate r => exact execUpdateActivate_kept r h
  | activateFirmware c t => exact execActivateFirmware_kept c t h
  | coldReset t => exact act_always h (unlocked_coldCore _).kept
  | warmReset trigger t => exact execWarmReset_kept trigger t h
  | hostInterfaceReset t =>
    exact act_unlocked h (fun hm => by simp [hdead hm]) fun hs => hs.of_steady (by simp +contextual)
  | powerRemoved => exact act_always h (Unlocked.kept ⟨rfl, nofun, rfl⟩)
  | secureBoot i => exact execSecureBoot_kept i h
  | dormantWake source digestOk t => exact execDormantWake_kept source digestOk t h
  | vddCoreResetThreshold => exact act_unlocked h (fun hm => by simp [hdead hm]) fun _ => unlocked_resetCore _ _
  | watchdogTimeout => exact act_unlocked h (fun hm => by simp [hasleep hm]) fun _ => unlocked_resetCore _ _
  | railUndervoltage rail t => exact execRailUndervoltage_kept rail t h
  | refclkLoss clk t => exact execRefclkLoss_kept clk t h
  | thermtrip => exact act_kept h (fun hm => by simp [hdead hm]) fun hs => kept_class5 _ (hs.of_steady (by simp))
  | tamperDetect => exact act_kept h (fun hm => by simp [hdead hm]) fun hs => kept_class5 _ (hs.of_steady (by simp))
  | selfTestPeriodic failMask ok t => exact execSelfTestPeriodic_kept failMask ok t h
  | errorPortEvent src ev addr t => exact execErrorPortEvent_kept src ev addr t h
  | hbmTempRead stack temp t => exact execHbmTempRead_kept stack temp t h
  | sramScrub array index word errors t => exact execSramScrub_kept array index word errors t h
  | hello => exact act_awake_unlocked h (unlocked_helloIn _ _ _ _)
  | leaseRenew => exact act_awake_unlocked h (unlocked_leaseRenewIn _ _ _ _ _)
  | timeCheck => exact act_unlocked h (fun hm => by simp [hasleep hm]) (unlocked_timeCheckIn _ _ _ _ _)
  | assign => exact act_awake_unlocked h (unlocked_assignIn _ _ _ _ _ _)
  | ledger => exact act_awake_unlocked h (unlocked_ledgerIn _ _ _ _ _ _)
  | stats => exact act_awake_unlocked h (unlocked_statsIn _ _ _ _ _)
  | commit => exact act_awake_unlocked h (unlocked_commitIn _ _ _ _ _)
  | seamCheck => exact act_awake_unlocked h (unlocked_seamCheckIn _ _ _ _ _ _)
  | fence => exact act_awake_unlocked h (unlocked_fenceIn _ _ _ _)
  | promote => exact act_awake_unlocked h (unlocked_promoteIn _ _ _ _ _ _)
  | haloStrip => exact act_awake_unlocked h (unlocked_haloIn _ _ _ _ _)
  | seamStrip => exact act_awake_unlocked h (unlocked_seamIn _ _ _ _ _)
  | refereeResult => exact act_awake_unlocked h (unlocked_refereeIn _ _ _ _ _ _)
  | leaseExpiry => exact act_unlocked h (fun hm => by simp [hasleep hm]) fun hs => unlocked_class4 (hs.of_steady (by simp))
  | managerTakeover =>
    exact act_unlocked h (fun hm => by simp [hasleep hm]) fun hs => unlocked_takeOver (hs.of_steady (by simp))
  | joinAck hd result role member leaseMs hash => exact execJoinAck_kept hd result role member leaseMs hash h
  | refereeTimeout session frame unit t => exact execRefereeTimeout_kept session frame unit t h
  | epochAdvance hd phase epoch hash version changes => exact execEpochAdvance_kept hd phase epoch hash version changes h
  | epochHoldTimeout epoch t => exact execEpochHoldTimeout_kept epoch t h
  -- Commands whose effect is a loop, or is decided by more than a condition.
  | mbDisable fn => exact execMbDisable_kept fn h
  | bistComplete failed t => exact execBistComplete_kept failed t h
  | ledgerDigestTimer t => exact execLedgerDigestTimer_kept t h
  | clpAckReceived hd kind seq nak leaseMs => exact execClpAckReceived_kept hd kind seq nak leaseMs h
  | vfEnableClear => exact execVfEnableClear_kept h
  | bar2Access fn offset op => exact execBar2Access_kept fn offset op h
  | tapReset => exact act_always h ⟨h.ready, h.locked, h.memory⟩
  | tapUpdateIr code k t => exact execTapUpdateIr_kept code k t h

/-- Settles O55: an empty queue leaves the state; otherwise the command at the front keeps the invariant (`exec_kept`), outside
Lockdown by keeping the device unlocked or sealing it, and in Lockdown by leaving what R409 sealed. -/
theorem everyStepKeepsTheInvariant : Obligations.EveryStepKeepsTheInvariant := by
  intro s t h ht
  unfold step at ht
  split at ht
  · exact keptAfter_next h t ht
  · next c rest _ =>
    have hrest : Kept { s with pending := rest } := ⟨h.ready, h.locked, h.memory⟩
    exact exec_kept c hrest t ht

end Sys2Proof.Machine
end

section
/-! PROOFS. Answers of the HBM, its scrubs and its timers (R266 to R268, R271 to R273, R276, R278 to R280, R282, R459; log entries 53,
66 and 76): what an error that is noted and a queue that is served leave, then one lemma per command. -/

namespace Sys2Proof.Machine

/-! ### Reading after the shared writes -/

@[simp] theorem pcGet_atTime (s : State) (t p : Nat) : pcGet (atTime s t) p = pcGet s p := rfl
@[simp] theorem stackGet_atTime (s : State) (t k : Nat) : stackGet (atTime s t) k = stackGet s k := rfl
@[simp] theorem pcGet_stackSet (s : State) (k : Nat) (x : StackState) (p : Nat) : pcGet (stackSet s k x) p = pcGet s p := rfl
@[simp] theorem stackGet_pcSet (s : State) (p : Nat) (x : PseudoChannel) (k : Nat) : stackGet (pcSet s p x) k = stackGet s k := rfl
@[simp] theorem stackGet_emit (s : State) (o : OutItem) (k : Nat) : stackGet (emit s o) k = stackGet s k := rfl

theorem isPc_of_lt {p : Nat} (h : p < 64) : isPc p = true := decide_eq_true h

theorem isStack_of_lt {k : Nat} (h : k < 2) : isStack k = true := decide_eq_true h

theorem lt_of_mem_stackPcs {k n : Nat} (hk : k < 2) (h : n ∈ stackPcs k) : n < 64 := by
  obtain ⟨i, hi, rfl⟩ := List.mem_map.1 h
  have := List.mem_range.1 hi
  omega

/-! ### What an error that is noted leaves (R272, R273, R275) -/

theorem correctedRead_hbm (s : State) (a : Nat) : (correctedRead s a).hbm =
    (stackSet s (stackOf a) { stackGet s (stackOf a) with ceCount := (stackGet s (stackOf a)).ceCount + 1 }).hbm := by
  simp [correctedRead]

theorem correctedRead_ceCount (s : State) (a : Nat) :
    (stackGet (correctedRead s a) (stackOf a)).ceCount = (stackGet s (stackOf a)).ceCount + 1 := by
  rw [stackGet_eq_of_stackTab (congrArg HbmState.stackTab (correctedRead_hbm s a)), stackGet_stackSet]

theorem correctedRead_bad (s : State) (a : Nat) : (correctedRead s a).hbm.bad = s.hbm.bad := by
  simp [correctedRead_hbm]

theorem uncorrectable_hbm (s : State) (a : Nat) : (uncorrectable s a).hbm =
    (stackSet s (stackOf a) { stackGet s (stackOf a) with ueCount := (stackGet s (stackOf a)).ueCount + 1 }).hbm := by
  simp [uncorrectable]

theorem uncorrectable_ueCount (s : State) (a : Nat) :
    (stackGet (uncorrectable s a) (stackOf a)).ueCount = (stackGet s (stackOf a)).ueCount + 1 := by
  rw [stackGet_eq_of_stackTab (congrArg HbmState.stackTab (uncorrectable_hbm s a)), stackGet_stackSet]

theorem failedRead_ueCount (s : State) (a : Nat) (replaced : Bool) :
    (stackGet (failedRead s a replaced) (stackOf a)).ueCount = (stackGet s (stackOf a)).ueCount + 1 := by
  unfold failedRead
  have hnoted (t : State) : (noteRow t a true).hbm = t.hbm := by simp
  rw [stackGet_eq_of_stackTab (congrArg HbmState.stackTab (hnoted _)), uncorrectable_ueCount]
  split <;> rfl

/-- A class 0 fault sets no bit of CANARY_STATUS (R402). -/
theorem recordFault_class0_status (s : State) (bit : Nat) (addr : Option Nat) :
    (recordFault s bit 0 addr).canary.status = s.canary.status := by
  simp [recordFault, draw, canaryCount]

/-! ### HBM_READ_RETURN (R272, R273) -/

/-- The read has returned: it is no longer among those issued. -/
def takeReturn (s : State) (a : Nat) (r : HbmPend) : State :=
  pcSet s (pcOf a) { pcGet s (pcOf a) with issued := (pcGet s (pcOf a)).issued.erase r }

@[simp] theorem takeReturn_frame (s : State) (a : Nat) (r : HbmPend) :
    (takeReturn s a r).hbm.mem = s.hbm.mem ∧ (takeReturn s a r).hbm.bad = s.hbm.bad ∧
      (∀ k, stackGet (takeReturn s a r) k = stackGet s k) := by
  simp [takeReturn]

section
variable {s : State} {a req : Nat} {r : HbmPend}

theorem exec_hbmReadReturn_of_good {n : Nat} (w : Nat) (hs : asleep s = false) (ha : isAddr a 1 = true)
    (hr : (pcGet s (pcOf a)).issued.find? (fun r => r.addr == a && r.requester == req) = some r)
    (hbad : s.hbm.bad.contains (a / 64) = false) (hn : n < 2) :
    exec (.hbmReadReturn a req n w) s = .next (emit (if n = 1 then correctedRead (takeReturn (atTime s w) a r) a
      else takeReturn (atTime s w) a r) (.hbmAnswer req a (some r.data))) := by
  have hfew : ¬ 2 ≤ n := by omega
  change execHbmReadReturn a req n w s = _
  unfold execHbmReadReturn
  simp only [ha, hs, withUnit_true, Bool.not_false, act_true, pcGet_atTime, hr]
  simp only [pcSet_frame, atTime_frame, hbad, hfew]
  rfl

theorem exec_hbmReadReturn_of_failed {n : Nat} (w : Nat) (hs : asleep s = false) (ha : isAddr a 1 = true)
    (hr : (pcGet s (pcOf a)).issued.find? (fun r => r.addr == a && r.requester == req) = some r) (hn : 2 ≤ n) :
    exec (.hbmReadReturn a req n w) s = .next (emit (failedRead (takeReturn (atTime s w) a r) a
      (decide (r.order < tget 0 s.hbm.written (a / 64)))) (.hbmAnswer req a none)) := by
  change execHbmReadReturn a req n w s = _
  unfold execHbmReadReturn
  simp only [ha, hs, withUnit_true, Bool.not_false, act_true, pcGet_atTime, hr, hn]
  rfl

end

/-! ### PATROL_SCRUB and SRAM_SCRUB (R276, R282) -/

theorem exec_patrolScrub_of_clean {s : State} {a : Nat} (w : Nat) (hs : asleep s = false) (ha : isAddr a 1 = true)
    (hawake : stackAwake s (stackOf a) = true) (hbad : s.hbm.bad.contains (a / 64) = false) :
    exec (.patrolScrub a 0 w) s = .next { atTime s w with hbm := { s.hbm with
      patrolNext := (a / 64 * 64 + 64) % Config.hbmBytes } } := by
  change execPatrolScrub a 0 w s = _
  unfold execPatrolScrub
  simp only [ha, hs, hawake, withUnit_true, Bool.not_false, Bool.and_self, act_true, atTime_frame, hbad]
  rfl

theorem exec_sramScrub_of_clean {s : State} {x n : Nat} (word w : Nat) (hs : asleep s = false) (hx : isArray x n = true) :
    exec (.sramScrub x n word 0 w) s = .next (atTime s w) := by
  change execSramScrub x n word 0 w s = _
  simp [execSramScrub, hx, hs]

/-- The array's counter of errors found. -/
def countSram (s : State) (x n : Nat) : State :=
  { s with hbm := { s.hbm with sramErrors := tadd s.hbm.sramErrors (sramBit x n) 1 } }

theorem exec_sramScrub_of_corrected {s : State} {x n : Nat} (word w : Nat) (hs : asleep s = false) (hx : isArray x n = true) :
    exec (.sramScrub x n word 1 w) s = .next (recordFault (countSram (atTime s w) x n) (sramBit x n) 0 (some word)) := by
  change execSramScrub x n word 1 w s = _
  simp [execSramScrub, hx, hs, countSram]

/-! ### Serving a pseudo-channel (R265 to R267)

Serving takes requests from the queues and opens rows; it adds no request, marks none and touches no training. -/

/-- How a pseudo-channel stands with its training: under way or not, trained, and at what temperature. -/
def training (x : PseudoChannel) : Option Nat × Bool × Int := (x.retraining, x.trained, x.trainTemp)

/-- What serving leaves of pseudo-channel `p`: no request but those that waited, and its training. -/
structure Served (p : Nat) (s t : State) : Prop where
  readQ : (pcGet t p).readQ ⊆ (pcGet s p).readQ
  writeQ : (pcGet t p).writeQ ⊆ (pcGet s p).writeQ
  training : training (pcGet t p) = training (pcGet s p)

theorem Served.refl (p : Nat) (s : State) : Served p s s := ⟨fun _ h => h, fun _ h => h, rfl⟩

theorem Served.trans {p : Nat} {s t u : State} (h : Served p s t) (h' : Served p t u) : Served p s u :=
  ⟨fun _ hr => h.readQ (h'.readQ hr), fun _ hr => h.writeQ (h'.writeQ hr), h'.training.trans h.training⟩

theorem Served.foldl {α : Type} {p : Nat} {f : State → α → State} (hf : ∀ s a, Served p s (f s a)) (l : List α) (s : State) :
    Served p s (l.foldl f s) := by
  induction l generalizing s with
  | nil => exact .refl p s
  | cons a l ih => exact (hf s a).trans (ih (f s a))

theorem Served.ite {p : Nat} {s a b : State} {c : Prop} [Decidable c] (ha : Served p s a) (hb : Served p s b) :
    Served p s (if c then a else b) := by
  split
  · exact ha
  · exact hb

/-- A write to the pseudo-channel that adds no request to a queue and leaves the training. -/
theorem served_pcSet {p : Nat} {s : State} {x : PseudoChannel} (hread : x.readQ ⊆ (pcGet s p).readQ)
    (hwrite : x.writeQ ⊆ (pcGet s p).writeQ) (htraining : training x = training (pcGet s p)) : Served p s (pcSet s p x) :=
  ⟨by rwa [pcGet_pcSet], by rwa [pcGet_pcSet], by rwa [pcGet_pcSet]⟩

theorem activateRow_served (s : State) (p : Nat) (r : HbmPend) : Served p s (activateRow s p r) := by
  have hdrawn : Served p s (draw s (2 ^ s.foreman.platform.neighbourN)).2 := ⟨fun _ h => h, fun _ h => h, rfl⟩
  exact .ite (served_pcSet (List.Subset.refl _) (List.Subset.refl _) rfl)
    (.ite (hdrawn.trans (served_pcSet (List.Subset.refl _) (List.Subset.refl _) rfl)) hdrawn)

/-- An issued request opens or closes its row and, when it reads, joins the reads under way. -/
theorem issueReq_served (s : State) (p : Nat) (r : HbmPend) : Served p s (issueReq s p r) := by
  have hrow : Served p s (if rowHit (pcGet s p) r then s else activateRow s p r) := .ite (.refl p s) (activateRow_served s p r)
  refine hrow.trans ?_
  unfold issueReq
  constructor <;> simp [training]

theorem serveRead_served (s : State) (p : Nat) : Served p s (serveRead s p) := by
  unfold serveRead
  split
  · exact .refl p s
  · refine .trans ?_ (issueReq_served _ p _)
    exact served_pcSet List.erase_subset (List.Subset.refl _) rfl

theorem serveWrite_served (s : State) (p : Nat) (f : HbmPend → Bool) : Served p s (serveWrite s p f) := by
  unfold serveWrite
  split
  · exact .refl p s
  · refine .trans ?_ (issueReq_served _ p _)
    exact served_pcSet (List.Subset.refl _) List.erase_subset rfl

theorem drainWrites_served (n : Nat) (s : State) (p stop : Nat) : Served p s (drainWrites n s p stop) := by
  induction n generalizing s with
  | zero => exact .refl p s
  | succ n ih => exact .ite (.refl p s) ((serveWrite_served s p _).trans (ih _))

theorem serveQueues_served (s : State) (p : Nat) : Served p s (serveQueues s p) := by
  unfold serveQueues
  refine .ite (.refl p s) ?_
  have hdrained : Served p s (if 48 ≤ (pcGet s p).writeQ.length then drainWrites 64 s p 16 else s) :=
    .ite (drainWrites_served 64 s p 16) (.refl p s)
  exact (hdrained.trans (.foldl (fun s _ => serveWrite_served s p _) _ _)).trans (serveRead_served _ p)

theorem serveAll_served (s : State) (p : Nat) : Served p s (serveAll s p) :=
  .ite (.refl p s) ((drainWrites_served 64 s p 0).trans (.foldl (fun s _ => serveRead_served s p) _ _))

theorem drainWrites_of_empty {s : State} {p : Nat} (n stop : Nat) (h : (pcGet s p).writeQ = []) : drainWrites n s p stop = s := by
  cases n <;> simp [drainWrites, h]

/-! ### BULK_PROMOTION (R266) -/

/-- A request that has waited 2 µs counts as real-time. -/
def promoteReq (now : Nat) (r : HbmPend) : HbmPend := if r.arrived + 2000 ≤ now then { r with realTime := true } else r

theorem promoteReq_realTime {now : Nat} {r : HbmPend} (h : (promoteReq now r).arrived + 2000 ≤ now) :
    (promoteReq now r).realTime = true := by
  unfold promoteReq at h ⊢
  split at h
  · rw [if_pos ‹_›]
  · exact absurd h ‹_›

/-- Both queues of a pseudo-channel after the promotion. -/
def promoteQueues (s : State) (p : Nat) : State :=
  pcSet s p { pcGet s p with readQ := (pcGet s p).readQ.map (promoteReq s.now), writeQ := (pcGet s p).writeQ.map (promoteReq s.now) }

theorem exec_bulkPromotion {s : State} {p : Nat} (w : Nat) (hs : asleep s = false) (hp : p < 64) :
    exec (.bulkPromotion p w) s = .next (serveQueues (promoteQueues (atTime s w) p) p) := by
  change execBulkPromotion p w s = _
  unfold execBulkPromotion
  rw [isPc_of_lt hp, hs]
  rfl

/-- What still waits after serving has been promoted when it was due. -/
theorem realTime_of_promoted {s : State} {p : Nat} {r : HbmPend}
    (hr : r ∈ (pcGet (serveQueues (promoteQueues s p) p) p).readQ ++ (pcGet (serveQueues (promoteQueues s p) p) p).writeQ)
    (hdue : r.arrived + 2000 ≤ s.now) : r.realTime = true := by
  have hserved := serveQueues_served (promoteQueues s p) p
  have hwaited : r ∈ (pcGet s p).readQ.map (promoteReq s.now) ++ (pcGet s p).writeQ.map (promoteReq s.now) := by
    simpa [promoteQueues] using List.append_subset.2 ⟨List.subset_append_of_subset_left _ hserved.readQ,
      List.subset_append_of_subset_right _ hserved.writeQ⟩ hr
  rw [← List.map_append] at hwaited
  obtain ⟨q, -, rfl⟩ := List.mem_map.1 hwaited
  exact promoteReq_realTime hdue

/-! ### Pages, refreshes and windows (R267, R268, R271) -/

section
variable {s : State} {p w : Nat}

theorem exec_pageCloseTimeout_of_due {bank : Nat} {o : Nat × Nat} (hs : asleep s = false) (hp : p < 64)
    (ho : tfind (pcGet s p).openRows bank = some o) (hdue : o.2 + 1000 ≤ max s.now w) :
    exec (.pageCloseTimeout p bank w) s =
      .next (pcSet (atTime s w) p { pcGet s p with openRows := tdel (pcGet s p).openRows bank }) := by
  have hnow : o.2 + 1000 ≤ (atTime s w).now := hdue
  change execPageCloseTimeout p bank w s = _
  simp [execPageCloseTimeout, isPc_of_lt hp, hs, ho, hnow]

theorem exec_hbmRefresh_of_due {bank : Nat} (hs : asleep s = false) (hp : p < 64)
    (hawake : stackAwake (atTime s w) (p / 32) = true) (hdue : tget 0 (pcGet s p).nextRefresh bank ≤ max s.now w) :
    exec (.hbmRefresh p bank w) s = .next (pcSet (atTime s w) p { pcGet s p with
      refreshes := (pcGet s p).refreshes + 1, openRows := tdel (pcGet s p).openRows bank,
      nextRefresh := tset (pcGet s p).nextRefresh bank
        (max s.now w + (if (stackGet s (p / 32)).refreshMult = 2 then 1950 else 3900)) }) := by
  change execHbmRefresh p bank w s = _
  unfold execHbmRefresh
  rw [isPc_of_lt hp, hs, hawake]
  exact congrArg Host.Outcome.next (if_pos hdue)

theorem exec_actWindowEnd_of_due (hs : asleep s = false) (hp : p < 64) (hdue : (pcGet s p).windowFrom + 32000000 ≤ max s.now w) :
    exec (.actWindowEnd p w) s =
      .next (pcSet (atTime s w) p { pcGet s p with acts := [], spaced := [], windowFrom := max s.now w }) := by
  change execActWindowEnd p w s = _
  unfold execActWindowEnd
  rw [isPc_of_lt hp, hs, decide_eq_true hdue]
  rfl

end

/-! ### HBM_TEMP_READ (R268, R278) -/

/-- A pseudo-channel remembers since when its drift calls for a retraining. -/
def noteDrift (temp : Int) (s : State) (p : Nat) : State :=
  pcSet s p { pcGet s p with
    driftSince := if wantsRetrain (pcGet s p) temp then some ((pcGet s p).driftSince.getD s.now) else (pcGet s p).driftSince }

/-- A stack takes a temperature and the refresh rate that goes with it, with its hysteresis. -/
def takeTemp (s : State) (k : Nat) (temp : Int) : State :=
  stackSet s k { stackGet s k with
    temp := temp, refreshMult := if 1360 < temp then 2 else if temp ≤ 1328 then 1 else (stackGet s k).refreshMult }

/-- The state after a temperature that no pseudo-channel is lost at. -/
def tempRead (s : State) (k : Nat) (temp : Int) : State := (stackPcs k).foldl (noteDrift temp) (takeTemp s k temp)

theorem noteDrift_trained (temp : Int) (s : State) (p n : Nat) : (pcGet (noteDrift temp s p) n).trained = (pcGet s n).trained := by
  unfold noteDrift
  by_cases h : n = p
  · subst h
    rw [pcGet_pcSet]
  · rw [pcGet_pcSet_ne _ _ _ _ h]

theorem tempRead_trained (s : State) (k : Nat) (temp : Int) (n : Nat) :
    (pcGet (tempRead s k temp) n).trained = (pcGet s n).trained :=
  foldl_view (fun s => (pcGet s n).trained) (fun s p => noteDrift_trained temp s p n) _ (takeTemp s k temp)

theorem tempRead_hotWait (s : State) (k : Nat) (temp : Int) : (tempRead s k temp).hbm.hotWait = s.hbm.hotWait :=
  foldl_view (·.hbm.hotWait) (f := noteDrift temp) (fun _ _ => rfl) _ (takeTemp s k temp)

theorem stackGet_tempRead (s : State) (k : Nat) (temp : Int) : stackGet (tempRead s k temp) k = { stackGet s k with
    temp := temp, refreshMult := if 1360 < temp then 2 else if temp ≤ 1328 then 1 else (stackGet s k).refreshMult } := by
  have htab : (tempRead s k temp).hbm.stackTab = (takeTemp s k temp).hbm.stackTab :=
    foldl_view (·.hbm.stackTab) (f := noteDrift temp) (fun _ _ => rfl) _ _
  rw [stackGet_eq_of_stackTab htab, takeTemp, stackGet_stackSet]

/-- The refresh rate doubles above 85 °C and halves again at 83 °C (R268). -/
theorem tempRead_stack (s : State) (k : Nat) (temp : Int) : (stackGet (tempRead s k temp) k).temp = temp ∧
    (1360 < temp → (stackGet (tempRead s k temp) k).refreshMult = 2) ∧
    (temp ≤ 1328 → (stackGet (tempRead s k temp) k).refreshMult = 1) := by
  rw [stackGet_tempRead]
  refine ⟨rfl, fun hhot => if_pos hhot, fun hcool => ?_⟩
  have hnot : ¬ 1360 < temp := by omega
  exact (if_neg hnot).trans (if_pos hcool)

theorem tempRead_frame (s : State) (k : Nat) (temp : Int) : (tempRead s k temp).hbm.mem = s.hbm.mem ∧
    (tempRead s k temp).mode = s.mode ∧ (tempRead s k temp).sessions = s.sessions :=
  ⟨foldl_memEq (noteDrift temp) (fun _ _ => rfl) _ _, foldl_mode (noteDrift temp) (fun _ _ => rfl) _ _,
    foldl_sessions (noteDrift temp) (fun _ _ => rfl) _ _⟩

/-- Trained pseudo-channels are not lost, and no boot waits for a hot stack. -/
theorem exec_hbmTempRead_of_trained {s : State} {k : Nat} (temp : Int) (w : Nat) (hs : asleep s = false) (hk : k < 2)
    (hwait : s.hbm.hotWait = false) (htrained : ∀ n, n < 64 → (pcGet s n).trained = true) :
    exec (.hbmTempRead k temp w) s = .next (tempRead (atTime s w) k temp) := by
  have hnowait : (tempRead (atTime s w) k temp).hbm.hotWait = false := (tempRead_hotWait _ k temp).trans hwait
  change execHbmTempRead k temp w s = _
  unfold execHbmTempRead
  rw [isStack_of_lt hk, hs]
  refine congrArg Host.Outcome.next ((if_pos rfl).trans ?_)
  extract_lets s1 old s2 s3 lost s4
  have hread : s3 = tempRead (atTime s w) k temp := rfl
  have hnone : (stackPcs k).any lost = false :=
    List.any_eq_false.2 fun n hn => by simp [lost, hread, tempRead_trained, htrained n (lt_of_mem_stackPcs hk hn)]
  have hkept : s4 = s3 := if_neg (by simp [hnone])
  rw [hkept, hread, hnowait]
  rfl

/-! ### RETRAIN_START and RETRAIN_DONE (R278 to R280) -/

theorem exec_retrainStart_of_due {s : State} {p gap w : Nat} (hs : asleep s = false) (hp : p < 64)
    (hawake : stackAwake (atTime s w) (p / 32) = true) (hnone : ∀ n ∈ stackPcs (p / 32), (pcGet s n).retraining = none)
    (hdue : retrainDue (atTime s w) p gap = true) (hempty : (pcGet s p).writeQ = []) :
    exec (.retrainStart p gap w) s =
      .next (pcSet (atTime s w) p { pcGet s p with retraining := some (max s.now w), openRows := [] }) := by
  have hidle : (stackPcs (p / 32)).all (fun n => (pcGet (atTime s w) n).retraining.isNone) = true :=
    List.all_eq_true.2 fun n hn => by simp [hnone n hn]
  have hdrained : drainWrites 64 (atTime s w) p 0 = atTime s w := drainWrites_of_empty 64 0 hempty
  change execRetrainStart p gap w s = _
  unfold execRetrainStart
  simp only [isPc_of_lt hp, hs, withUnit_true, Bool.not_false, act_true, hawake, hidle, hdue, hdrained]
  rfl

theorem exec_retrainDone_of_due {s : State} {p a w : Nat} (ok : Bool) (hs : asleep s = false) (hp : p < 64)
    (ha : (pcGet s p).retraining = some a) (hdue : a + 20000 ≤ max s.now w) :
    exec (.retrainDone p ok w) s = .next (serveAll (settleRetrain (atTime s w) p ok) p) := by
  have hnow : a + 20000 ≤ (atTime s w).now := hdue
  change execRetrainDone p ok w s = _
  simp [execRetrainDone, isPc_of_lt hp, hs, ha, hnow]

/-- A retraining that succeeds leaves the pseudo-channel trained at the temperature of its stack. -/
theorem training_settleRetrain (s : State) (p : Nat) :
    training (pcGet (settleRetrain s p true) p) = (none, true, (stackGet s (p / 32)).temp) := by
  simp [settleRetrain, training]

theorem training_retrained (s : State) (p : Nat) :
    training (pcGet (serveAll (settleRetrain s p true) p) p) = (none, true, (stackGet s (p / 32)).temp) :=
  (serveAll_served _ p).training.trans (training_settleRetrain s p)

/-! ### HBM_SELF_REFRESH_TIMER (R459) -/

/-- A stack whose queues are served goes to self-refresh. -/
def selfRefreshed (s : State) (k : Nat) : State :=
  { (stackPcs k).foldl serveAll s with power := { ((stackPcs k).foldl serveAll s).power with
      selfRefresh := ((stackPcs k).foldl serveAll s).power.selfRefresh ++ [k] } }

theorem exec_hbmSelfRefreshTimer_of_due {s : State} {k w : Nat} (hs : asleep s = false) (hk : k < 2)
    (hbanked : s.power.current = .banked) (hout : s.power.selfRefresh.contains k = false)
    (hdue : tget 0 s.power.lastHbmReq k + 50000 ≤ max s.now w) :
    exec (.hbmSelfRefreshTimer k w) s = .next (selfRefreshed (atTime s w) k) := by
  change execHbmSelfRefreshTimer k w s = _
  unfold execHbmSelfRefreshTimer
  rw [isStack_of_lt hk, hs, hbanked, hout, decide_eq_true hdue]
  rfl

theorem selfRefreshed_frame (s : State) (k : Nat) : (selfRefreshed s k).power.selfRefresh = s.power.selfRefresh ++ [k] ∧
    (selfRefreshed s k).hbm.mem = s.hbm.mem ∧ (selfRefreshed s k).mode = s.mode ∧ (selfRefreshed s k).sessions = s.sessions := by
  simp [selfRefreshed]

/-! ### The statement -/

/-- Settles O21: a returned read takes one of two ways (`exec_hbmReadReturn_of_good`, `exec_hbmReadReturn_of_failed`), and each
scrub and timer has its one effect; serving a pseudo-channel leaves what was promoted and what was trained (`Served`). -/
theorem hbmReadsAndScrubsComplete : Obligations.HbmReadsAndScrubsComplete := by
  refine ⟨fun s a w hs ha => ⟨?_, ?_, ?_, ?_, ?_, ?_⟩, fun s p w hs hp => ⟨?_, ?_, ?_, ?_, ?_, ?_, ?_, ?_⟩⟩
  · exact fun req r hr hbad => exec_hbmReadReturn_of_good w hs ha hr hbad (by decide)
  · intro req r hr hbad
    refine ⟨_, exec_hbmReadReturn_of_good w hs ha hr hbad (by decide), rfl, ?_⟩
    simp [correctedRead_ceCount, correctedRead_bad]
  · intro req r n hn hr
    refine ⟨_, exec_hbmReadReturn_of_failed w hs ha hr hn, rfl, ?_⟩
    simp [failedRead_ueCount]
  · exact fun hawake hbad => exec_patrolScrub_of_clean w hs ha hawake hbad
  · exact fun x n word hx => exec_sramScrub_of_clean word w hs hx
  · intro x n word hx
    refine ⟨_, exec_sramScrub_of_corrected word w hs hx, ?_⟩
    simp [recordFault_class0_status, countSram]
  · exact ⟨_, exec_bulkPromotion w hs hp, fun r hr hdue => realTime_of_promoted hr hdue, by simp [promoteQueues]⟩
  · exact fun bank o ho hdue => exec_pageCloseTimeout_of_due hs hp ho hdue
  · exact fun bank hawake hdue => exec_hbmRefresh_of_due hs hp hawake hdue
  · exact fun hdue => exec_actWindowEnd_of_due hs hp hdue
  · intro k temp hk hwait htrained
    obtain ⟨htemp, hhot, hcool⟩ := tempRead_stack (atTime s w) k temp
    exact ⟨_, exec_hbmTempRead_of_trained temp w hs hk hwait htrained, htemp, hhot, hcool, tempRead_frame _ k temp⟩
  · exact fun gap hawake hnone hdue hempty => exec_retrainStart_of_due hs hp hawake hnone hdue hempty
  · intro a ha hdue
    have htraining := training_retrained (atTime s w) p
    simp only [training, Prod.mk.injEq] at htraining
    obtain ⟨hnone, htrained, htemp⟩ := htraining
    exact ⟨_, exec_retrainDone_of_due true hs hp ha hdue, hnone, htrained, htemp, by simp⟩
  · exact fun k hk hbanked hout hdue => ⟨_, exec_hbmSelfRefreshTimer_of_due hs hk hbanked hout hdue, selfRefreshed_frame _ k⟩

end Sys2Proof.Machine
end

section
/-! PROOFS. Bursts, beats, halts and DISABLE of a host DMA channel (R287, R291 to R293, R296, R297; log entries 10 and 57): what a
halt, a failing beat and DISABLE leave in each channel, then one lemma per command. -/

namespace Sys2Proof.Machine

/-! ### Reading a channel after the shared writes -/

theorem dmaGet_congr {s t : State} (h : t.dma = s.dma) (k : Nat) : dmaGet t k = dmaGet s k := by rw [dmaGet, dmaGet, h]

@[simp] theorem dmaGet_atCycle (s : State) (cycle k : Nat) : dmaGet (atCycle s cycle) k = dmaGet s k := rfl
@[simp] theorem dmaGet_emit (s : State) (o : OutItem) (k : Nat) : dmaGet (emit s o) k = dmaGet s k := rfl
@[simp] theorem dmaGet_sendMsix (s : State) (fn v k : Nat) : dmaGet (sendMsix s fn v) k = dmaGet s k := dmaGet_congr (by simp) k
@[simp] theorem dmaGet_undefineBeats (s : State) (c : DmaChannel) (l : List DmaBeat) (k : Nat) :
    dmaGet (undefineBeats s c l) k = dmaGet s k := dmaGet_congr (by simp) k

theorem isDma_of_lt {ch : Nat} (h : ch < 16) : isDma ch = true := decide_eq_true h

/-- No hand-over falls in a cycle of a channel that waits for none. -/
theorem settle_of_none {s : State} {ch : Nat} (cycle : Nat) (h : (dmaGet s ch).handOver = none) : settle s ch cycle = s := by
  rw [settle, h]

/-! ### Halts (R292, R293) -/

/-- FAIL_INFO (Table 14.6). -/
def failInfoWord (write inHbm last : Bool) (reason : Nat) : BitVec 32 :=
  BitVec.ofNat 32 ((if write then 1 else 0) + (if inHbm then 2 else 0) + (if last then 4 else 0) + 16 * reason)

/-- A channel in HALTED_ERROR after a failure at an address. -/
def haltedChannel (c : DmaChannel) (addr : Nat) (info : BitVec 32) : DmaChannel :=
  { c with state := .haltedError, error := true, failAddr := BitVec.ofNat 64 addr, failInfo := info, halts := c.halts + 1 }

theorem dmaGet_dmaHalt (s : State) (ch addr : Nat) (write inHbm last : Bool) (reason : Nat) :
    dmaGet (dmaHalt s ch addr write inHbm last reason) ch =
      haltedChannel (dmaGet s ch) addr (failInfoWord write inHbm last reason) := by
  simp [dmaHalt, haltedChannel, failInfoWord]

theorem dmaGet_dmaHalt_ne (s : State) {ch k : Nat} (addr : Nat) (write inHbm last : Bool) (reason : Nat) (h : k ≠ ch) :
    dmaGet (dmaHalt s ch addr write inHbm last reason) k = dmaGet s k := by
  simp [dmaHalt, dmaGet_dmaSet_ne _ _ _ _ h]

/-- A failing beat leaves its channel halted with nothing in flight, at the address of the side that failed. -/
theorem dmaGet_failBeat (s : State) (ch : Nat) (b : DmaBeat) (write : Bool) (reason : Nat) :
    ∃ info, dmaGet (failBeat s ch b write reason) ch =
      haltedChannel { dmaGet s ch with beats := [] } (if write then b.dst else b.src) info := by
  rw [failBeat, dmaGet_dmaHalt, dmaGet_dmaSet, dmaGet_undefineBeats]
  exact ⟨_, rfl⟩

theorem dmaGet_failBeat_ne (s : State) {ch k : Nat} (b : DmaBeat) (write : Bool) (reason : Nat) (h : k ≠ ch) :
    dmaGet (failBeat s ch b write reason) k = dmaGet s k := by
  rw [failBeat, dmaGet_dmaHalt_ne _ _ _ _ _ _ h, dmaGet_dmaSet_ne _ _ _ _ h, dmaGet_undefineBeats]

/-! ### DISABLE (R297) -/

/-- A channel after DISABLE; the ACT_ addresses and the count are undefined (log entry 10). -/
def disabledChannel (c : DmaChannel) (src dst : BitVec 64) (count : BitVec 32) : DmaChannel :=
  { c with beats := [], armed := false, handOver := none, state := .idle, actSrc := src, actDst := dst, actCount := count }

/-- The writes that may or may not land and the free values come before the channel is written, and leave every channel. -/
theorem disableChannel_eq (s : State) (ch : Nat) :
    ∃ u src dst count, u.dma = s.dma ∧ disableChannel s ch = dmaSet u ch (disabledChannel (dmaGet s ch) src dst count) :=
  ⟨_, _, _, _, by simp, rfl⟩

theorem dmaGet_disableChannel (s : State) (ch : Nat) :
    ∃ src dst count, dmaGet (disableChannel s ch) ch = disabledChannel (dmaGet s ch) src dst count := by
  obtain ⟨u, src, dst, count, -, heq⟩ := disableChannel_eq s ch
  exact ⟨src, dst, count, by rw [heq, dmaGet_dmaSet]⟩

theorem dmaGet_disableChannel_ne (s : State) {ch k : Nat} (h : k ≠ ch) : dmaGet (disableChannel s ch) k = dmaGet s k := by
  obtain ⟨u, src, dst, count, hdma, heq⟩ := disableChannel_eq s ch
  rw [heq, dmaGet_dmaSet_ne _ _ _ _ h, dmaGet_congr hdma]

/-! ### The commands -/

theorem exec_dmaBurstIssue_of_allowed {s : State} {ch cycle : Nat} (hs : asleep s = false) (hch : ch < 16)
    (hhand : (dmaGet s ch).handOver = none) (hrun : (dmaGet s ch).state = .running) (hcount : (dmaGet s ch).actCount ≠ 0)
    (hrate : rateAllows (dmaGet s ch) cycle = true) (hfence : s.canary.fencedUnits.contains .dmaHost = false) :
    exec (.dmaBurstIssue ch cycle) s = .next (dmaSet (atCycle s cycle) ch (issueBurst (dmaGet s ch) cycle)) := by
  change execDmaBurstIssue ch cycle s = _
  have hfence' : (atCycle s cycle).canary.fencedUnits.contains .dmaHost = false := hfence
  rw [execDmaBurstIssue, isDma_of_lt hch, withUnit_true, act_awake hs, settle_of_none (s := atCycle s cycle) cycle hhand]
  simp only [dmaGet_atCycle, hrun, hrate, hfence', bne_iff_ne.2 hcount]
  rfl

/-- A fill beat to host memory reads nothing, so it lands whatever host memory returns. -/
theorem landBeat_of_hostFill {s : State} {ch : Nat} (b : DmaBeat) (src dst : Bytes)
    (hmode : cfgMode (dmaGet s ch).actCfg = 1) (hhost : cfgDstHbm (dmaGet s ch).actCfg = false) :
    landBeat s ch b src dst =
      emit (dmaSet s ch { dmaGet s ch with beats := (dmaGet s ch).beats.tail, bytes := (dmaGet s ch).bytes + b.len })
        (.dmaWrite (dmaGet s ch).owner b.dst (fillBytes (dmaGet s ch).actFill b.offset b.len)) := by
  simp [landBeat, beatWrite, hmode, hhost]

theorem setEnded_of_left {c : DmaChannel} (h : c.beats ≠ [] ∨ c.actCount ≠ 0) : setEnded c = false := by
  obtain hbeats | hcount := h
  · simp [setEnded, hbeats]
  · rw [setEnded, beq_eq_false_iff_ne.2 hcount, Bool.and_false, Bool.false_and]

theorem exec_dmaBeatReturn_of_hostFill {s : State} {ch : Nat} {b : DmaBeat} {l : List DmaBeat} (src dst : Bytes) (cycle : Nat)
    (hs : asleep s = false) (hch : ch < 16) (hbeats : (dmaGet s ch).beats = b :: l)
    (hmode : cfgMode (dmaGet s ch).actCfg = 1) (hhost : cfgDstHbm (dmaGet s ch).actCfg = false)
    (hleft : l ≠ [] ∨ (dmaGet s ch).actCount ≠ 0) :
    exec (.dmaBeatReturn ch src dst cycle) s =
      .next (emit (dmaSet (atCycle s cycle) ch { dmaGet s ch with beats := l, bytes := (dmaGet s ch).bytes + b.len })
        (.dmaWrite (dmaGet s ch).owner b.dst (fillBytes (dmaGet s ch).actFill b.offset b.len))) := by
  change execDmaBeatReturn ch src dst cycle s = _
  rw [execDmaBeatReturn, isDma_of_lt hch, withUnit_true, act_awake hs, hbeats]
  have hland := landBeat_of_hostFill (s := atCycle s cycle) b src dst hmode hhost
  simp only [dmaGet_atCycle, hbeats, List.tail_cons] at hland
  simp only [hland, dmaGet_emit, dmaGet_dmaSet]
  exact congrArg Host.Outcome.next (if_neg (by rw [setEnded_of_left hleft]; decide))

theorem exec_dmaBeatError_of_running {s : State} {ch : Nat} {b : DmaBeat} {l : List DmaBeat} (write : Bool) (reason : BeatFail)
    (hs : asleep s = false) (hch : ch < 16) (hrun : (dmaGet s ch).state = .running) (hbeats : (dmaGet s ch).beats = b :: l) :
    exec (.dmaBeatError ch write reason) s = .next (failBeat s ch b write (beatReason reason)) := by
  change execDmaBeatError ch write reason s = _
  rw [execDmaBeatError, isDma_of_lt hch, withUnit_true, act_awake hs, hbeats, hrun]
  rfl

theorem exec_dmaClearHalt_of_halted {s : State} {ch : Nat} (cycle : Nat) (hs : asleep s = false) (hch : ch < 16)
    (hhalted : (dmaGet s ch).state = .haltedError ∨ (dmaGet s ch).state = .haltedMismatch) :
    exec (.dmaClearHalt ch cycle) s = .next (dmaSet (atCycle s cycle) ch { dmaGet s ch with
      state := .idle, handOver := if (dmaGet s ch).armed then some (cycle + 1) else none }) := by
  change execDmaClearHalt ch cycle s = _
  rw [execDmaClearHalt, isDma_of_lt hch, withUnit_true, act_awake hs]
  exact congrArg Host.Outcome.next (if_pos (by simpa using hhalted))

/-- DISABLE alone, in a cycle with no hand-over and no returning beat. -/
theorem exec_dmaDisable_alone {s : State} {ch : Nat} (cycle : Nat) (hs : asleep s = false) (hch : ch < 16)
    (hhand : (dmaGet s ch).handOver = none) :
    exec (.dmaDisable ch false none cycle) s = .next (disableChannel (atCycle s cycle) ch) := by
  change execDmaDisable ch false none cycle s = _
  rw [execDmaDisable, isDma_of_lt hch, withUnit_true, act_awake hs, settle_of_none (s := atCycle s cycle) cycle hhand]
  rfl

/-! ### The statement -/

/-- Settles O8: no hand-over waits, so each command acts on the channel as it stands; a failing beat leaves it as
`haltedChannel`, DISABLE as `disabledChannel`, and neither touches another channel. -/
theorem dmaTransfersComplete : Obligations.DmaTransfersComplete := by
  intro s ch cycle hs hch hhand
  refine ⟨?_, ?_, ?_, ?_, ?_⟩
  · exact exec_dmaBurstIssue_of_allowed hs hch hhand
  · exact fun _ _ src dst _ hbeats => exec_dmaBeatReturn_of_hostFill src dst cycle hs hch hbeats
  · intro b l write reason hrun hbeats
    obtain ⟨info, hhalted⟩ := dmaGet_failBeat s ch b write (beatReason reason)
    refine ⟨_, exec_dmaBeatError_of_running write reason hs hch hrun hbeats, ?_⟩
    rw [hhalted]
    exact ⟨rfl, rfl, rfl, rfl, rfl, fun k hk => dmaGet_failBeat_ne s b write _ hk⟩
  · exact exec_dmaClearHalt_of_halted cycle hs hch
  · obtain ⟨src, dst, count, hdisabled⟩ := dmaGet_disableChannel (atCycle s cycle) ch
    refine ⟨_, exec_dmaDisable_alone cycle hs hch hhand, ?_⟩
    rw [hdisabled]
    exact ⟨rfl, rfl, rfl, rfl, rfl, rfl, rfl, rfl, fun k hk => dmaGet_disableChannel_ne _ hk⟩

end Sys2Proof.Machine
end

section
/-! PROOFS. A step of the queue (log entries 1 and 7); Off and Lockdown (R409, R466, R479, R483, Table 12.2; log entry 62): in a
device that is off or sealed no condition of a command is met, whatever its shape, but for the four that Table 12.2 names. -/

namespace Sys2Proof.Machine

/-- Settles O52: `step` is `exec` on the queue's rest, and `decodeTableWord` knows no word. -/
theorem stepRunsTheFrontCommand : Obligations.StepRunsTheFrontCommand := by
  refine ⟨fun _ _ => rfl, fun c l s h => ?_, fun s h => ?_, fun _ _ _ => rfl⟩ <;> simp only [step, h]

/-! ### A command that leaves the whole state as it is -/

/-- The outcome, where it is a next state, is the state itself. -/
def Idles (s : State) (r : Result) : Prop := ∀ t, r = .next t → t = s

theorem idles_next (s : State) : Idles s (.next s) := fun _ h => (Host.Outcome.next.inj h).symm

theorem idles_act {s k : State} {c : Bool} (hc : c = false) : Idles s (act s c k) := by
  rw [hc, act_false]
  exact idles_next s

theorem idles_withUnit {s : State} {ok : Bool} {r : Result} (hr : Idles s r) : Idles s (withUnit ok r) := by
  cases ok with
  | false =>
    intro t h
    rw [withUnit_false] at h
    cases h
  | true => rwa [withUnit_true]

theorem idles_unit {s k : State} {ok c : Bool} (hc : c = false) : Idles s (withUnit ok (act s c k)) :=
  idles_withUnit (idles_act hc)

theorem idles_serve {s : State} {r : CmdRef} {op : Nat} {chk : State → Bytes → Option Reply} {k : State → Bytes → State}
    (h : asleep s = true) : Idles s (serve s r op chk k) := by
  rw [serve_asleep s r op chk k h]
  exact idles_next s

/-! ### Off and Lockdown -/

/-- Off or in Lockdown: no condition of a command that asks the device to be awake, or in one of the other modes, is met. -/
structure Down (s : State) : Prop where
  dead : dead s = true
  asleep : asleep s = true
  notBoot : (s.mode == .secureBoot) = false
  notDormant : (s.mode == .dormant) = false

theorem down_of_off {s : State} (h : s.mode = .off) : Down s := by
  constructor <;> simp [dead, asleep, h]

theorem down_of_lockdown {s : State} (h : s.mode = .lockdown) : Down s := by
  constructor <;> simp [dead, asleep, h]

/-- COLD_RESET, POWER_REMOVED, BAR2 reads and the TAP: the commands that Off or Lockdown still answers. -/
def ActsWhenDown : Instr → Prop
  | .coldReset _ | .powerRemoved | .bar2Access _ _ (.read _) | .tapUpdateIr _ _ _ | .tapReset => True
  | _ => False

/-- Every other command finds its condition not met. -/
theorem exec_idles (c : Instr) {s : State} (h : Down s) (hc : ¬ ActsWhenDown c) : Idles s (exec c s) := by
  obtain ⟨hdead, hasleep, hboot, hdormant⟩ := h
  have hside : sidebandOn s = false := by simp [sidebandOn, hasleep]
  cases c with (dsimp only [exec])
  -- Host commands.
  | identify | setMode | configureEvents | createQp | deleteQp | reset | setPowerState | getLog | getTelemetry | abort
  | setFunctionResources | createSession | startSession | reconfigureSession | stopSession | destroySession | querySession
  | setSessionRings | forceRefresh | submitPicture | submitBitstream | returnBuffer | flush | setPort | setMacsec | setPtp
  | queryPtp | setMeter | setFlow | setQueue | setSubscriber | setClasses | setGcl | tableInsert | tableDelete | tableRead
  | tableFlush | routeAdd | routeDelete | setNextHop | setLearn | setGroup | queryTables | setPools | queryPools
  | setCapture | setMirrorRule | setDropProfile | fabricCreate | fabricJoin | fabricLeave | fabricQuery | fabricDrain
  | fabricSetStandby | fabricSetVersion | secQuery | secAuthChallenge | secAuthResponse | secLogout | secKemKeygen
  | secKeyImport | secKeyDelete | secKeyQuery | secZeroize | secSelfTest | secAttest | secRandom | secDigest | secLifecycle
  | updateOpen | updateWrite | updateVerify | updateActivate | updateCommit | updateAbort | updateStatus
  | setPlatformConfig | setChannelOwner | queryChannels => exact idles_serve hasleep
  -- Events under a condition.
  | commandTimeout | warmReset | hostInterfaceReset | secureBoot | larderUpdate | bankedEntry | bankedExit | dormantWake
  | avsStep | avsRetry | vddCoreWarn | vddCoreRecover | stretch2ms | vddCoreResetThreshold | railUndervoltage | thermalWarn
  | thermalThrottle | throttleRelease | thermtrip | tamperDetect | refclkLoss | wakeOscTrim | fwHeartbeat | watchdogTimeout
  | lockstepMismatch | faultNRelease | bistComplete | bandDispatch | packetRelease | bandReleaseTime | tsPsiTimer
  | inputGapTimeout | decodePictureEnd | reorderTimeout | rtpPacketRx | decodeOutputStart | agingSweep | announceTimeout
  | ppsInEdge | ppsOut | hello | helloTimer | joinReq | joinAck | joinRetry | headlessRejoin | leaseRenew | leaseRenewTimer
  | leaseExpiry | memberLost | managerTakeover | assign | ledger | ledgerDigestTimer | stats | statsRequest | statsTimeout
  | commit | seamCheck | fence | promote | epochAdvance | epochHoldTimeout | timeCheck | timeCheckTimer | timeQualified
  | unqualHoldExpiry | clpRetransmit | sliceTransfer | sliceResendTimer | haloStrip | haloResendTimer | seamStrip
  | refereeResult | selfTestPeriodic | entropyHealthFail | drbgReseed | decapKeyExpiry | telemetrySweep | agingWrite
  | rotationCheck | autoCommit | flashLogWrite | mctpSetEndpointId | mctpGetEndpointId | mctpGetVersionSupport
  | mctpGetMessageTypeSupport | requestUpdate | transferComplete | activateFirmware | clpAckReceived | refereeTimeout
  | vddFuseChange | avsSettled => exact idles_act (by simp [hasleep, hdead, hside, hboot, hdormant])
  -- Events that name a unit.
  | sqTailWrite | cqHeadWrite | commandFetch | coalesceTimer | mbEnable | mbDisable | intrMaskWrite | registerWrite | dmaArm
  | dmaDisable | dmaClearHalt | dmaShadowWrite | dmaBurstIssue | dmaBeatReturn | dmaBeatError | flr | busMasterEnableSet
  | hbmSelfRefreshTimer | coreSleep | keepWarmWake | coreWakeComplete | clusterPllOff | errorPortEvent | fenceEffect
  | patchParityError | coreBistReloadDone | spareTakeover | coreRestart | bandStart | cuStart | cuMeasure | rowCommit
  | surveyRowStart | ppuBand | decodeUnitStart | decodeRowCommit | pxTxLine | pxLinkUp | pxLinkDown | frameStart | line
  | frameEnd | metadata | pxFifoRead | ethFrameHead | ethFrameEnd | portPacketIn | pantryRetry | poolCacheRefill
  | egressSelect | copyDone | queueAvgDecay | gclBoundary | pfcXoffRx | pfcXoffExpire | mergeLostTimeout | mergeLegDown
  | learn | refresh | move | flapClear | ptpMessageRx | ptpMessageTimer | nonceExpiry | authLockoutEnd | roleExpiry
  | sensorTrim | hbmRequest | hbmReadReturn | bulkPromotion | pageCloseTimeout | hbmRefresh | hbmTempRead | actWindowEnd
  | patrolScrub | retrainStart | retrainDone | sramScrub | ethLinkUp | ethLinkDown | msixVectorUnmask =>
    exact idles_unit (by simp [hasleep, hdead])
  -- VF_ENABLE_CLEAR is an effect under a condition, written out.
  | vfEnableClear => exact idles_act (s := s) (by simp [hdead])
  | bar2Access fn offset op =>
    cases op with
    | read => exact absurd trivial hc
    | write => exact idles_unit (by simp [hasleep])
  | coldReset | powerRemoved | tapUpdateIr | tapReset => exact absurd trivial hc

/-! ### The commands that Off or Lockdown still answers -/

/-- In Lockdown BYPASS, IDCODE and SAMPLE alone act (R483). -/
theorem tapActs_asleep (s : State) (code : BitVec 8) (h : asleep s = true) :
    tapActs s code = 0x01 ∨ tapActs s code = 0x02 ∨ tapActs s code = 0xFF := by
  rw [tapActs, if_pos h]
  split
  · next hcode => exact hcode.imp_right .inl
  · exact .inr (.inr rfl)

/-- A TAP instruction in Lockdown loads the TAP's own registers. -/
theorem exec_tapUpdateIr_of_lockdown {s : State} (h : s.mode = .lockdown) (code : BitVec 8) (class5 : Bool) (t : Nat) :
    exec (.tapUpdateIr code class5 t) s
      = .next { atTime s t with tap := { s.tap with code := code, pins := tapActs s code } } := by
  have hacts := tapActs_asleep s code (asleep_of_locked h)
  have hdrive : pinDriving (tapActs s code) = false := by obtain h | h | h := hacts <;> rw [h] <;> rfl
  have hpublic : ¬ (0x80 ≤ (tapActs s code).toNat ∧ tapActs s code ≠ 0xFF) := by obtain h | h | h := hacts <;> rw [h] <;> decide
  simp only [exec, execTapUpdateIr, h, dead_of_locked h, hdrive, if_neg hpublic]
  simp

/-- A read of BAR2 in Lockdown answers zeros, of a function that exists. -/
theorem exec_bar2Read_of_lockdown {s t : State} (h : s.mode = .lockdown) {fn off len : Nat}
    (ht : exec (.bar2Access fn off (.read len)) s = .next t) : t = s ∨ t = emit s (.readData fn (zeros len) false) := by
  simp only [exec, execBar2Access, h, asleep_of_locked h, act_next] at ht
  cases hfn : isFn fn
  · simp [hfn] at ht
  · have ht : (if fnExists s fn then emit s (.readData fn (zeros len) false) else s) = t := by simpa [hfn] using ht
    split at ht
    · exact .inr ht.symm
    · exact .inl ht.symm

/-- The five commands in Off: COLD_RESET alone acts. -/
theorem exec_idles_off (c : Instr) {s : State} (h : s.mode = .off) (hc : ∀ t, c ≠ .coldReset t) : Idles s (exec c s) := by
  by_cases hacts : ActsWhenDown c
  · cases c with (dsimp only [exec])
    | coldReset t => exact absurd rfl (hc t)
    | powerRemoved => exact idles_act (by simp [h])
    | tapReset => exact idles_act (by simp [h])
    | tapUpdateIr => simp only [execTapUpdateIr, h]; exact idles_next s
    | bar2Access fn off op =>
      cases op with
      | read => exact idles_withUnit (by simp only [h]; exact idles_next s)
      | write => exact hacts.elim
    | _ => exact hacts.elim
  · exact exec_idles c (down_of_off h) hacts

theorem exec_coldReset_of_off {s : State} (h : s.mode = .off) (t : Nat) : exec (.coldReset t) s = .next (coldCore (atTime s t)) := by
  simp only [exec, execColdReset, h, beq_self_eq_true, act_true]

/-- Settles O56: `exec_idles` for all but five commands; COLD_RESET ends Off, POWER_REMOVED ends Lockdown, and a BAR2 read and the
TAP leave what they say. -/
theorem offAndLockdownEndByPowerAlone : Obligations.OffAndLockdownEndByPowerAlone := by
  intro c s t ht
  constructor
  · intro hoff
    by_cases hc : ∃ w, c = .coldReset w
    · obtain ⟨w, rfl⟩ := hc
      rw [exec_coldReset_of_off hoff] at ht
      cases ht
      exact .inr ⟨w, rfl, rfl, rfl⟩
    · exact .inl (exec_idles_off c hoff (fun w hw => hc ⟨w, hw⟩) t ht)
  · intro hlock
    have hon : (s.mode != .off) = true := by rw [hlock]; rfl
    by_cases hc : ActsWhenDown c
    · cases c with
      | coldReset w => exact .inl (idles_act (s := s) (by simp [hlock]) t ht)
      | powerRemoved =>
        simp only [exec, execPowerRemoved, hon, act_true] at ht
        cases ht
        exact .inr (.inl ⟨rfl, rfl⟩)
      | bar2Access fn off op =>
        cases op with
        | read len => exact (exec_bar2Read_of_lockdown hlock ht).imp_right fun h => .inr (.inl ⟨fn, off, len, rfl, h⟩)
        | write => exact hc.elim
      | tapUpdateIr code k w =>
        rw [exec_tapUpdateIr_of_lockdown hlock] at ht
        cases ht
        exact .inr (.inr (.inr ⟨.inl ⟨code, k, w, rfl⟩, rfl, tapActs_asleep s code (asleep_of_locked hlock)⟩))
      | tapReset =>
        simp only [exec, execTapReset, hon, act_true] at ht
        cases ht
        exact .inr (.inr (.inr ⟨.inr rfl, rfl, .inl rfl⟩))
      | _ => exact hc.elim
    · exact .inl (exec_idles c (down_of_lockdown hlock) hc t ht)

end Sys2Proof.Machine
end

section
/-! PROOFS. The lifecycle state of OTP (R435, R436): no operation but SEC_LIFECYCLE writes it (`Laws/Keeps`), and its check admits
the next state and Decommissioned alone. -/

namespace Sys2Proof.Machine

/-! ### The shapes of a meaning -/

/-- The outcome, where it is a next state, holds the same lifecycle state. -/
def KeepsLifecycle (s : State) (r : Result) : Prop := ∀ t, r = .next t → t.sec.otp.lifecycle = s.sec.otp.lifecycle

theorem keepsLifecycle_next {s t : State} (h : t.sec.otp.lifecycle = s.sec.otp.lifecycle) : KeepsLifecycle s (.next t) :=
  fun _ ht => Host.Outcome.next.inj ht ▸ h

theorem act_lifecycle {s k : State} {c : Bool} (hk : k.sec.otp.lifecycle = s.sec.otp.lifecycle) : KeepsLifecycle s (act s c k) := by
  rw [act_next]
  refine keepsLifecycle_next ?_
  split
  · exact hk
  · rfl

theorem withUnit_lifecycle {s : State} {ok : Bool} {r : Result} (hr : KeepsLifecycle s r) : KeepsLifecycle s (withUnit ok r) := by
  intro t ht
  cases ok with
  | false => rw [withUnit_false] at ht; cases ht
  | true => exact hr t (by rwa [withUnit_true] at ht)

theorem unit_lifecycle {s k : State} {ok c : Bool} (hk : k.sec.otp.lifecycle = s.sec.otp.lifecycle) :
    KeepsLifecycle s (withUnit ok (act s c k)) :=
  withUnit_lifecycle (act_lifecycle hk)

theorem serve_lifecycle {s : State} {r : CmdRef} {op : Nat} {chk : State → Bytes → Option Reply} {k : State → Bytes → State}
    (hk : ∀ s e, (k s e).sec.otp.lifecycle = s.sec.otp.lifecycle) : KeepsLifecycle s (serve s r op chk k) :=
  fun _ ht => serve_same (·.sec.otp.lifecycle) (fun s r a => by simp) (fun s r => by simp) (fun s a => by simp) hk ht

/-- A host command that names a session. -/
theorem session_lifecycle {s : State} {r : CmdRef} {op : Nat} {chk : State → Bytes → Option Reply}
    {k : State → Session → Bytes → State} (hk : ∀ s x e, (k s x e).sec.otp.lifecycle = s.sec.otp.lifecycle) :
    KeepsLifecycle s (serve s r op chk (onSession r.fn k)) :=
  serve_lifecycle fun s e => by
    unfold onSession
    split
    · simp
    · exact hk _ _ _

/-! ### Operations that Laws/Keeps does not name in this form -/

@[simp] theorem ite_lifecycle (c : Prop) [Decidable c] (a b : SecurityState) :
    (if c then a else b).otp.lifecycle = if c then a.otp.lifecycle else b.otp.lifecycle :=
  apply_ite (·.otp.lifecycle) c a b

/-- The commit of a trial may raise the security version numbers of OTP (R416), not its lifecycle state. -/
@[simp] theorem lifecycle_commitTrial (s : State) (raise : Bool) : (commitTrial s raise).sec.otp.lifecycle = s.sec.otp.lifecycle := by
  cases raise <;> simp [commitTrial]

theorem lifecycle_pxReceive {s s1 : State} {typ : Nat} {p : PxPkt} {b : Bool} (h : pxReceive s typ p = (b, s1)) :
    s1.sec.otp.lifecycle = s.sec.otp.lifecycle := by
  simpa [h] using congrArg OtpState.lifecycle (pxReceive_keeps s typ p).2.1

theorem lifecycle_chooseSlot {s s1 : State} {i : BootInput} {o : Option Nat} (h : chooseSlot s i = (o, s1)) :
    s1.sec.otp.lifecycle = s.sec.otp.lifecycle := by
  simpa [h] using congrArg OtpState.lifecycle (chooseSlot_keeps s i).2.1

theorem lifecycle_takeRequest {s s1 : State} {q : LearnReq} (h : takeRequest s q = some s1) :
    s1.sec.otp.lifecycle = s.sec.otp.lifecycle := by
  unfold takeRequest at h
  (repeat' split at h) <;> cases h
  simp

/-! ### Commands whose effect is a loop, or is decided by more than a condition -/

theorem foldl_lifecycle {α : Type} (f : State → α → State) (hf : ∀ s a, (f s a).sec.otp.lifecycle = s.sec.otp.lifecycle)
    (l : List α) (s : State) : (l.foldl f s).sec.otp.lifecycle = s.sec.otp.lifecycle :=
  foldl_view (·.sec.otp.lifecycle) hf l s

theorem execBistComplete_lifecycle (failed : List Nat) (t : Nat) (s : State) : KeepsLifecycle s (execBistComplete failed t s) :=
  act_lifecycle (by
    simp only [settleDegraded_keeps, larderUpdate_keeps]
    exact (foldl_lifecycle _ (fun s k => by (repeat' split) <;> simp) _ _).trans (by simp))

/-- CLP_ACK_RECEIVED: a message of a foreign fabric is counted in its own state, any other goes on from the state at its time. -/
theorem execClpAckReceived_lifecycle (h : ClpHdr) (kind seq : Nat) (nak : Bool) (leaseMs : Nat) (s : State) :
    KeepsLifecycle s (execClpAckReceived h kind seq nak leaseMs s) :=
  act_lifecycle (by
    dsimp only
    split
    · next s2 hs2 => simpa using congrArg OtpState.lifecycle (clpForeign_keeps _ _ _ hs2).2.1
    · (repeat' split) <;> simp)

/-- BAR2_ACCESS has one effect per access and, for reads, per mode. -/
theorem execBar2Access_lifecycle (fn offset : Nat) (op : Bar2Op) (s : State) : KeepsLifecycle s (execBar2Access fn offset op s) :=
  withUnit_lifecycle (by
    cases op with
    | read len =>
      dsimp only
      split
      · exact keepsLifecycle_next rfl
      · split <;> exact act_lifecycle (by simp)
    | write data => exact act_lifecycle (by simp))

/-- TAP_UPDATE_IR seals the device, leads to Maintenance or writes the TAP: OTP stays in each case (R481, R483). -/
theorem execTapUpdateIr_lifecycle (code : BitVec 8) (k : Bool) (t : Nat) (s : State) :
    KeepsLifecycle s (execTapUpdateIr code k t s) := by
  unfold execTapUpdateIr
  dsimp only
  (repeat' split)
  · exact keepsLifecycle_next rfl
  · exact keepsLifecycle_next (by simp)
  · exact keepsLifecycle_next (by simp)
  · intro t ht
    cases ht
  · exact keepsLifecycle_next (by simp)

/-! ### Every command but SEC_LIFECYCLE -/

/-- By the rule of the meaning's shape, where the effect is a chain of operations that each leave OTP, or all of it but the
security version numbers. -/
theorem exec_keepsLifecycle (c : Instr) (s : State) (hc : ∀ r data, c ≠ .secLifecycle r data) : KeepsLifecycle s (exec c s) := by
  cases c with (dsimp only [exec])
  -- Host commands.
  | identify | setMode | configureEvents | createQp | reset | setPowerState | getLog | getTelemetry | setFunctionResources
  | createSession | setPort | setMacsec | setPtp | queryPtp | setMeter | setFlow | setQueue | setSubscriber | setClasses
  | setGcl | tableRead | tableFlush | routeAdd | routeDelete | setNextHop | setLearn | setGroup | queryTables | setPools
  | queryPools | setCapture | setMirrorRule | setDropProfile | fabricCreate | fabricJoin | fabricLeave | fabricQuery
  | fabricDrain | fabricSetStandby | secQuery | secAuthChallenge | secAuthResponse | secLogout | secKemKeygen | secKeyQuery
  | secZeroize | secSelfTest | secAttest | secRandom | secDigest | updateOpen | updateWrite | updateVerify
  | updateActivate | updateCommit | updateAbort | updateStatus | setPlatformConfig | setChannelOwner | queryChannels =>
    exact serve_lifecycle fun _ _ => by simp
  | deleteQp | tableDelete | fabricSetVersion => exact serve_lifecycle fun _ _ => by (repeat' split) <;> simp
  | abort | tableInsert | secKeyImport | secKeyDelete =>
    exact serve_lifecycle fun _ _ => by dsimp only; (repeat' split) <;> simp
  -- Host commands that name a session.
  | reconfigureSession | stopSession | destroySession | querySession | setSessionRings | forceRefresh | submitPicture
  | submitBitstream => exact session_lifecycle fun _ _ _ => by simp
  | startSession => exact session_lifecycle fun _ _ _ => by split <;> simp
  | returnBuffer | flush => exact session_lifecycle fun _ _ _ => by dsimp only; (repeat' split) <;> simp
  -- Events under a condition.
  | coldReset | warmReset | hostInterfaceReset | powerRemoved | larderUpdate | bankedEntry | bankedExit | avsStep
  | avsRetry | vddCoreWarn | stretch2ms | vddCoreResetThreshold | thermalWarn | thermalThrottle | thermtrip | tamperDetect
  | wakeOscTrim | fwHeartbeat | watchdogTimeout | lockstepMismatch | faultNRelease | agingSweep | announceTimeout
  | ppsInEdge | ppsOut | hello | helloTimer | joinReq | joinRetry | headlessRejoin | leaseRenew | leaseRenewTimer
  | leaseExpiry | memberLost | managerTakeover | assign | ledger | stats | commit | seamCheck | fence | promote
  | epochHoldTimeout | timeCheck | timeCheckTimer | unqualHoldExpiry | haloStrip | seamStrip | refereeResult
  | selfTestPeriodic | entropyHealthFail | drbgReseed | telemetrySweep | agingWrite | rotationCheck | autoCommit
  | flashLogWrite | mctpSetEndpointId | mctpGetEndpointId | mctpGetVersionSupport | mctpGetMessageTypeSupport
  | requestUpdate | activateFirmware | tapReset | vddFuseChange | avsSettled => exact act_lifecycle (by simp)
  | commandTimeout | dormantWake | railUndervoltage | refclkLoss | joinAck | clpRetransmit =>
    exact act_lifecycle (by (repeat' split) <;> simp)
  | vddCoreRecover | throttleRelease | bandDispatch | packetRelease | bandReleaseTime | tsPsiTimer | inputGapTimeout
  | decodePictureEnd | reorderTimeout | rtpPacketRx | decodeOutputStart | statsRequest | statsTimeout | timeQualified
  | sliceTransfer | sliceResendTimer | haloResendTimer | decapKeyExpiry | transferComplete | refereeTimeout =>
    exact act_lifecycle (by dsimp only; (repeat' split) <;> simp)
  -- Events that name a unit.
  | mbEnable | intrMaskWrite | registerWrite | dmaArm | dmaClearHalt | dmaShadowWrite | dmaBurstIssue | flr
  | busMasterEnableSet | hbmSelfRefreshTimer | coreSleep | keepWarmWake | clusterPllOff | fenceEffect | patchParityError
  | coreBistReloadDone | pxLinkUp | pxLinkDown | pxFifoRead | ethFrameHead | portPacketIn | poolCacheRefill | egressSelect
  | queueAvgDecay | pfcXoffRx | pfcXoffExpire | mergeLegDown | flapClear | ptpMessageTimer | roleExpiry | sensorTrim
  | hbmRequest | bulkPromotion | hbmTempRead | actWindowEnd | patrolScrub | retrainStart | sramScrub
  | ethLinkUp | ethLinkDown | msixVectorUnmask => exact unit_lifecycle (by simp)
  | sqTailWrite | cqHeadWrite | commandFetch | coalesceTimer | dmaBeatReturn | dmaBeatError | errorPortEvent
  | cuStart | cuMeasure | surveyRowStart | ethFrameEnd | ptpMessageRx => exact unit_lifecycle (by (repeat' split) <;> simp)
  | coreRestart | hbmRefresh | dmaDisable | coreWakeComplete | spareTakeover | bandStart | rowCommit | ppuBand | decodeUnitStart
  | decodeRowCommit | pxTxLine | pantryRetry | copyDone | gclBoundary | mergeLostTimeout | nonceExpiry | authLockoutEnd | hbmReadReturn
  | pageCloseTimeout | retrainDone => exact unit_lifecycle (by dsimp only; (repeat' split) <;> simp)
  -- Packets of a pixel port, and requests to the tables.
  | frameStart | line | frameEnd | metadata =>
    refine unit_lifecycle ?_
    split <;> next h => simp [lifecycle_pxReceive h]
  | learn | refresh | move =>
    refine unit_lifecycle ?_
    split
    · next h => simp [lifecycle_takeRequest h]
    · rfl
  -- Commands whose effect is a loop, or is decided by more than a condition.
  | secureBoot i => exact act_lifecycle (by split <;> next h => simp [lifecycle_chooseSlot h])
  | mbDisable fn => exact unit_lifecycle ((foldl_lifecycle _ (fun s q => by split <;> simp) _ _).trans (by simp))
  | bistComplete failed t => exact execBistComplete_lifecycle failed t s
  | ledgerDigestTimer t => exact act_lifecycle ((foldl_lifecycle _ (fun s x => by split <;> simp) _ _).trans (by simp))
  | epochAdvance h phase newEpoch configHash version changes =>
    exact act_lifecycle (congrArg OtpState.lifecycle (clpIn_keeps _ _ _ _ _ _ _ fun s => by split <;> simp +contextual).2.1)
  | clpAckReceived h kind seq nak leaseMs => exact execClpAckReceived_lifecycle h kind seq nak leaseMs s
  | vfEnableClear => exact act_lifecycle (s := s) (by simp)
  | bar2Access fn offset op => exact execBar2Access_lifecycle fn offset op s
  | tapUpdateIr code k t => exact execTapUpdateIr_lifecycle code k t s
  | secLifecycle r data => exact absurd rfl (hc r data)

/-! ### SEC_LIFECYCLE -/

@[simp] theorem lifecycle_writeOtp (s : State) (target : Nat) (pub : Bytes) :
    (writeOtp s target pub).lifecycle = lifecycleOf target := by
  unfold writeOtp
  dsimp only
  (repeat' split) <;> rfl

/-- The check of SEC_LIFECYCLE admits the next state and Decommissioned, and nothing from Decommissioned on. -/
theorem target_of_lifecycleCheck {r : CmdRef} {s : State} {e : Bytes} (h : lifecycleCheck r s e = none) :
    (u8 e 24 = lifecycleCode s.sec.otp.lifecycle + 1 ∨ u8 e 24 = 3) ∧ lifecycleCode s.sec.otp.lifecycle ≠ 3 := by
  have hfields := ((orElse_none _ _).1 h).1
  simpa using ((fieldCheck_none _).1 hfields) _ (List.mem_cons_self ..)

/-- The lifecycle state moves by one, or to Decommissioned (Table 22.3). -/
def MovesForward (a b : Lifecycle) : Prop :=
  lifecycleCode a ≤ lifecycleCode b ∧ (b ≠ a → lifecycleCode b = lifecycleCode a + 1 ∨ b = .decommissioned)

theorem movesForward_refl (a : Lifecycle) : MovesForward a a := ⟨Nat.le_refl _, fun h => absurd rfl h⟩

theorem movesForward_lifecycleOf {a : Lifecycle} {n : Nat} (hn : n = lifecycleCode a + 1 ∨ n = 3) (ha : lifecycleCode a ≠ 3) :
    MovesForward a (lifecycleOf n) := by
  obtain rfl | rfl := hn
  · cases a with
    | decommissioned => exact absurd rfl ha
    | manufacturing | provisioned | deployed => exact ⟨by decide, fun _ => .inl rfl⟩
  · cases a <;> exact ⟨by decide, fun _ => .inr rfl⟩

theorem execSecLifecycle_movesForward {r : CmdRef} {data : Bytes} {s t : State} (h : execSecLifecycle r data s = .next t) :
    MovesForward s.sec.otp.lifecycle t.sec.otp.lifecycle := by
  unfold execSecLifecycle serve at h
  dsimp only at h
  (repeat' split at h) <;> cases h <;> try simp [movesForward_refl]
  next hchk =>
    obtain ⟨hnext, hlast⟩ := target_of_lifecycleCheck hchk
    simpa using movesForward_lifecycleOf hnext hlast

/-- Settles O29: every other command keeps the lifecycle state (`exec_keepsLifecycle`), and SEC_LIFECYCLE moves it only as its
check admits. -/
theorem lifecycleMovesForward : Obligations.LifecycleMovesForward := by
  intro s t c ht
  by_cases hc : ∃ r data, c = .secLifecycle r data
  · obtain ⟨r, data, rfl⟩ := hc
    obtain ⟨hle, hstep⟩ := execSecLifecycle_movesForward ht
    exact ⟨hle, fun hne => ⟨⟨r, data, rfl⟩, hstep hne⟩⟩
  · have hsame := exec_keepsLifecycle c s (fun r data hcd => hc ⟨r, data, hcd⟩) t ht
    exact ⟨Nat.le_of_eq (congrArg lifecycleCode hsame.symm), fun hne => absurd hsame hne⟩

end Sys2Proof.Machine
end

section
/-! SUPPORT. What each shared operation leaves of the parts that Laws/Same does not speak of: the turn of the doorbells, the DMA
cycle, slot generations, DEGRADED, the clusters, the fault collector, the Larder, the Foreman, the functions. One lemma per
operation, in the order of the files; first the same for loops and choices. -/

namespace Sys2Proof.Machine

/-- Neither the turn of the doorbells, the DMA cycle nor the generation of a session slot moves. -/
@[simp] abbrev Still (s t : State) : Prop := t.round = s.round ∧ t.dmaCycle = s.dmaCycle ∧ t.slotGen = s.slotGen

/-- No unit's health moves: DEGRADED, the clusters, the fault collector and the Larder. -/
@[simp] abbrev Sound (s t : State) : Prop :=
  t.degraded = s.degraded ∧ t.clusters = s.clusters ∧ t.canary = s.canary ∧ t.larder = s.larder

/-- Nor do the functions and the Foreman. -/
@[simp] abbrev Quiet (s t : State) : Prop := Still s t ∧ Sound s t ∧ t.foreman = s.foreman ∧ t.fns = s.fns

theorem foldl_fst_view {α β γ : Type} (g : State → γ) {f : State × β → α → State × β} (h : ∀ p a, g (f p a).1 = g p.1)
    (l : List α) (p : State × β) : g (l.foldl f p).1 = g p.1 := by
  induction l generalizing p with
  | nil => rfl
  | cons a l ih => rw [List.foldl_cons, ih, h]

theorem foldl_snd_view {α β γ : Type} (g : State → γ) {f : β × State → α → β × State} (h : ∀ p a, g (f p a).2 = g p.2)
    (l : List α) (p : β × State) : g (l.foldl f p).2 = g p.2 := by
  induction l generalizing p with
  | nil => rfl
  | cons a l ih => rw [List.foldl_cons, ih, h]

@[simp] theorem foldl_round {α : Type} (f : State → α → State) (h : ∀ s a, (f s a).round = s.round) (l : List α) (s : State) :
    (l.foldl f s).round = s.round := foldl_view State.round h l s
@[simp] theorem ite_round (c : Prop) [Decidable c] (a b : State) : (if c then a else b).round = if c then a.round else b.round :=
  apply_ite State.round c a b
@[simp] theorem foldl_fst_round {α β : Type} (f : State × β → α → State × β) (h : ∀ p a, (f p a).1.round = p.1.round) (l : List α)
    (p : State × β) : (l.foldl f p).1.round = p.1.round := foldl_fst_view State.round h l p
@[simp] theorem foldl_snd_round {α β : Type} (f : β × State → α → β × State) (h : ∀ p a, (f p a).2.round = p.2.round) (l : List α)
    (p : β × State) : (l.foldl f p).2.round = p.2.round := foldl_snd_view State.round h l p
@[simp] theorem foldl_dmaCycle {α : Type} (f : State → α → State) (h : ∀ s a, (f s a).dmaCycle = s.dmaCycle) (l : List α) (s : State) :
    (l.foldl f s).dmaCycle = s.dmaCycle := foldl_view State.dmaCycle h l s
@[simp] theorem ite_dmaCycle (c : Prop) [Decidable c] (a b : State) : (if c then a else b).dmaCycle = if c then a.dmaCycle else b.dmaCycle :=
  apply_ite State.dmaCycle c a b
@[simp] theorem foldl_fst_dmaCycle {α β : Type} (f : State × β → α → State × β) (h : ∀ p a, (f p a).1.dmaCycle = p.1.dmaCycle) (l : List α)
    (p : State × β) : (l.foldl f p).1.dmaCycle = p.1.dmaCycle := foldl_fst_view State.dmaCycle h l p
@[simp] theorem foldl_snd_dmaCycle {α β : Type} (f : β × State → α → β × State) (h : ∀ p a, (f p a).2.dmaCycle = p.2.dmaCycle) (l : List α)
    (p : β × State) : (l.foldl f p).2.dmaCycle = p.2.dmaCycle := foldl_snd_view State.dmaCycle h l p
@[simp] theorem foldl_slotGen {α : Type} (f : State → α → State) (h : ∀ s a, (f s a).slotGen = s.slotGen) (l : List α) (s : State) :
    (l.foldl f s).slotGen = s.slotGen := foldl_view State.slotGen h l s
@[simp] theorem ite_slotGen (c : Prop) [Decidable c] (a b : State) : (if c then a else b).slotGen = if c then a.slotGen else b.slotGen :=
  apply_ite State.slotGen c a b
@[simp] theorem foldl_fst_slotGen {α β : Type} (f : State × β → α → State × β) (h : ∀ p a, (f p a).1.slotGen = p.1.slotGen) (l : List α)
    (p : State × β) : (l.foldl f p).1.slotGen = p.1.slotGen := foldl_fst_view State.slotGen h l p
@[simp] theorem foldl_snd_slotGen {α β : Type} (f : β × State → α → β × State) (h : ∀ p a, (f p a).2.slotGen = p.2.slotGen) (l : List α)
    (p : β × State) : (l.foldl f p).2.slotGen = p.2.slotGen := foldl_snd_view State.slotGen h l p
@[simp] theorem foldl_degraded {α : Type} (f : State → α → State) (h : ∀ s a, (f s a).degraded = s.degraded) (l : List α) (s : State) :
    (l.foldl f s).degraded = s.degraded := foldl_view State.degraded h l s
@[simp] theorem ite_degraded (c : Prop) [Decidable c] (a b : State) : (if c then a else b).degraded = if c then a.degraded else b.degraded :=
  apply_ite State.degraded c a b
@[simp] theorem foldl_fst_degraded {α β : Type} (f : State × β → α → State × β) (h : ∀ p a, (f p a).1.degraded = p.1.degraded) (l : List α)
    (p : State × β) : (l.foldl f p).1.degraded = p.1.degraded := foldl_fst_view State.degraded h l p
@[simp] theorem foldl_snd_degraded {α β : Type} (f : β × State → α → β × State) (h : ∀ p a, (f p a).2.degraded = p.2.degraded) (l : List α)
    (p : β × State) : (l.foldl f p).2.degraded = p.2.degraded := foldl_snd_view State.degraded h l p
@[simp] theorem foldl_clusters {α : Type} (f : State → α → State) (h : ∀ s a, (f s a).clusters = s.clusters) (l : List α) (s : State) :
    (l.foldl f s).clusters = s.clusters := foldl_view State.clusters h l s
@[simp] theorem ite_clusters (c : Prop) [Decidable c] (a b : State) : (if c then a else b).clusters = if c then a.clusters else b.clusters :=
  apply_ite State.clusters c a b
@[simp] theorem foldl_fst_clusters {α β : Type} (f : State × β → α → State × β) (h : ∀ p a, (f p a).1.clusters = p.1.clusters) (l : List α)
    (p : State × β) : (l.foldl f p).1.clusters = p.1.clusters := foldl_fst_view State.clusters h l p
@[simp] theorem foldl_snd_clusters {α β : Type} (f : β × State → α → β × State) (h : ∀ p a, (f p a).2.clusters = p.2.clusters) (l : List α)
    (p : β × State) : (l.foldl f p).2.clusters = p.2.clusters := foldl_snd_view State.clusters h l p
@[simp] theorem foldl_canary {α : Type} (f : State → α → State) (h : ∀ s a, (f s a).canary = s.canary) (l : List α) (s : State) :
    (l.foldl f s).canary = s.canary := foldl_view State.canary h l s
@[simp] theorem ite_canary (c : Prop) [Decidable c] (a b : State) : (if c then a else b).canary = if c then a.canary else b.canary :=
  apply_ite State.canary c a b
@[simp] theorem foldl_fst_canary {α β : Type} (f : State × β → α → State × β) (h : ∀ p a, (f p a).1.canary = p.1.canary) (l : List α)
    (p : State × β) : (l.foldl f p).1.canary = p.1.canary := foldl_fst_view State.canary h l p
@[simp] theorem foldl_snd_canary {α β : Type} (f : β × State → α → β × State) (h : ∀ p a, (f p a).2.canary = p.2.canary) (l : List α)
    (p : β × State) : (l.foldl f p).2.canary = p.2.canary := foldl_snd_view State.canary h l p
@[simp] theorem foldl_larder {α : Type} (f : State → α → State) (h : ∀ s a, (f s a).larder = s.larder) (l : List α) (s : State) :
    (l.foldl f s).larder = s.larder := foldl_view State.larder h l s
@[simp] theorem ite_larder (c : Prop) [Decidable c] (a b : State) : (if c then a else b).larder = if c then a.larder else b.larder :=
  apply_ite State.larder c a b
@[simp] theorem foldl_fst_larder {α β : Type} (f : State × β → α → State × β) (h : ∀ p a, (f p a).1.larder = p.1.larder) (l : List α)
    (p : State × β) : (l.foldl f p).1.larder = p.1.larder := foldl_fst_view State.larder h l p
@[simp] theorem foldl_snd_larder {α β : Type} (f : β × State → α → β × State) (h : ∀ p a, (f p a).2.larder = p.2.larder) (l : List α)
    (p : β × State) : (l.foldl f p).2.larder = p.2.larder := foldl_snd_view State.larder h l p
@[simp] theorem foldl_foreman {α : Type} (f : State → α → State) (h : ∀ s a, (f s a).foreman = s.foreman) (l : List α) (s : State) :
    (l.foldl f s).foreman = s.foreman := foldl_view State.foreman h l s
@[simp] theorem ite_foreman (c : Prop) [Decidable c] (a b : State) : (if c then a else b).foreman = if c then a.foreman else b.foreman :=
  apply_ite State.foreman c a b
@[simp] theorem foldl_fst_foreman {α β : Type} (f : State × β → α → State × β) (h : ∀ p a, (f p a).1.foreman = p.1.foreman) (l : List α)
    (p : State × β) : (l.foldl f p).1.foreman = p.1.foreman := foldl_fst_view State.foreman h l p
@[simp] theorem foldl_fns {α : Type} (f : State → α → State) (h : ∀ s a, (f s a).fns = s.fns) (l : List α) (s : State) :
    (l.foldl f s).fns = s.fns := foldl_view State.fns h l s
@[simp] theorem ite_fns (c : Prop) [Decidable c] (a b : State) : (if c then a else b).fns = if c then a.fns else b.fns :=
  apply_ite State.fns c a b
@[simp] theorem foldl_fst_fns {α β : Type} (f : State × β → α → State × β) (h : ∀ p a, (f p a).1.fns = p.1.fns) (l : List α)
    (p : State × β) : (l.foldl f p).1.fns = p.1.fns := foldl_fst_view State.fns h l p

/-- A loop is quiet where its body is. -/
theorem quiet_foldl {α : Type} {f : State → α → State} (h : ∀ s a, Quiet s (f s a)) (l : List α) (s : State) :
    Quiet s (l.foldl f s) := by
  induction l generalizing s with
  | nil => simp
  | cons a l ih =>
    have hhead := h s a
    have htail := ih (f s a)
    simp_all

@[simp] theorem hbmWrite_leaves (s : State) (a : Nat) (data : Bytes) : Quiet s (hbmWrite s a data) := by
  unfold hbmWrite; simp

@[simp] theorem hbmZero_leaves (s : State) (lo hi : Nat) : Quiet s (hbmZero s lo hi) := by
  unfold hbmZero; simp

@[simp] theorem draw_leaves (s : State) (n : Nat) : Quiet s (draw s n).2 := by
  unfold draw; simp

@[simp] theorem sendMsix_leaves (s : State) (fn v : Nat) :
    Still s (sendMsix s fn v) ∧ Sound s (sendMsix s fn v) ∧ (sendMsix s fn v).foreman = s.foreman := by
  unfold sendMsix; simp

@[simp] theorem setCause_leaves (s : State) (fn bit : Nat) :
    Still s (setCause s fn bit) ∧ Sound s (setCause s fn bit) ∧ (setCause s fn bit).foreman = s.foreman := by
  unfold setCause; simp

@[simp] theorem causeAll_leaves (s : State) (bit : Nat) :
    Still s (causeAll s bit) ∧ Sound s (causeAll s bit) ∧ (causeAll s bit).foreman = s.foreman := by
  unfold causeAll; simp

@[simp] theorem hostWrite_leaves (s : State) (fn : Nat) (inHbm : Bool) (addr : Nat) (data : Bytes) :
    Quiet s (hostWrite s fn inHbm addr data) := by
  unfold hostWrite; simp

@[simp] theorem postRing_leaves (s : State) (fn : Nat) (r : Ring) (data : Bytes) :
    Still s (postRing s fn r data).2 ∧ Sound s (postRing s fn r data).2 ∧ (postRing s fn r data).2.foreman = s.foreman := by
  unfold postRing
  split <;> simp

@[simp] theorem postEvent_leaves (s : State) (r : EventRec) :
    Still s (postEvent s r) ∧ Sound s (postEvent s r) ∧ (postEvent s r).foreman = s.foreman := by
  unfold postEvent
  (repeat' split) <;> simp

@[simp] theorem logRec_leaves (s : State) (r : EventRec) : Still s (logRec s r) ∧ Sound s (logRec s r) := by
  unfold logRec; simp

@[simp] theorem argOf_leaves (s : State) (a : Option Nat) (bound : Nat) : Quiet s (argOf s a bound).2 := by
  unfold argOf
  split <;> simp

@[simp] theorem logEvent_leaves (s : State) (code cls source : Nat) (arg0 arg1 : Option Nat) :
    Still s (logEvent s code cls source arg0 arg1) ∧ Sound s (logEvent s code cls source arg0 arg1) := by
  unfold logEvent; simp

@[simp] theorem logFor_leaves (s : State) (fn code cls source : Nat) (arg0 arg1 : Option Nat) :
    Still s (logFor s fn code cls source arg0 arg1) ∧ Sound s (logFor s fn code cls source arg0 arg1) := by
  unfold logFor; simp

@[simp] theorem logSession_leaves (s : State) (x : Session) (code cls source : Nat) (arg0 arg1 : Option Nat) :
    Still s (logSession s x code cls source arg0 arg1) ∧ Sound s (logSession s x code cls source arg0 arg1) := by
  unfold logSession; simp

@[simp] theorem setMode_leaves (s : State) (m : OpMode) :
    Still s (setMode s m) ∧ (setMode s m).degraded = s.degraded ∧ (setMode s m).clusters = s.clusters ∧
      (setMode s m).larder = s.larder ∧ (setMode s m).foreman = s.foreman := by
  unfold setMode; simp

@[simp] theorem larderUpdate_leaves (s : State) :
    Still s (larderUpdate s) ∧ (larderUpdate s).degraded = s.degraded ∧ (larderUpdate s).clusters = s.clusters ∧
      (larderUpdate s).canary = s.canary ∧ (larderUpdate s).foreman = s.foreman := by
  unfold larderUpdate; simp

@[simp] theorem larderPublish_leaves (s : State) (reduced signed : Bool) :
    Still s (larderPublish s reduced signed) ∧ (larderPublish s reduced signed).degraded = s.degraded ∧
      (larderPublish s reduced signed).clusters = s.clusters ∧ (larderPublish s reduced signed).canary = s.canary ∧
      (larderPublish s reduced signed).foreman = s.foreman ∧ (larderPublish s reduced signed).fns = s.fns := by
  unfold larderPublish; simp

@[simp] theorem announce_leaves (s : State) (q : QueuePair) (noIrq : Bool) :
    Still s (announce s q noIrq) ∧ Sound s (announce s q noIrq) ∧ (announce s q noIrq).foreman = s.foreman := by
  unfold announce; simp

@[simp] theorem postCompletion_leaves (s : State) (q : QueuePair) (i : InFlight) (r : Reply) :
    Still s (postCompletion s q i r) ∧ Sound s (postCompletion s q i r) ∧ (postCompletion s q i r).foreman = s.foreman := by
  unfold postCompletion; simp

@[simp] theorem dropDecided_leaves (s : State) (q : QueuePair) : Quiet s (dropDecided s q) := by
  unfold dropDecided; simp

@[simp] theorem removePair_leaves (s : State) (q : QueuePair) :
    Still s (removePair s q) ∧ Sound s (removePair s q) ∧ (removePair s q).foreman = s.foreman := by
  unfold removePair; simp

@[simp] theorem decideCmd_leaves (s : State) (r : CmdRef) (a : Reply) : Quiet s (decideCmd s r a) := by
  unfold decideCmd
  split <;> simp

@[simp] theorem postReady_leaves (n : Nat) (s : State) (fn qid : Nat) :
    Still s (postReady n s fn qid) ∧ Sound s (postReady n s fn qid) ∧ (postReady n s fn qid).foreman = s.foreman := by
  induction n generalizing s fn qid with
  | zero => simp [postReady]
  | succ k ih => unfold postReady; (repeat' split) <;> simp [ih]

@[simp] theorem editFlight_leaves (s : State) (r : CmdRef) (f : InFlight → InFlight) : Quiet s (editFlight s r f) := by
  unfold editFlight
  split <;> simp

@[simp] theorem finish_leaves (s : State) (r : CmdRef) (a : Reply) :
    Still s (finish s r a) ∧ Sound s (finish s r a) ∧ (finish s r a).foreman = s.foreman := by
  unfold finish; simp

@[simp] theorem writeData_leaves (s : State) (fn : Nat) (e data : Bytes) : Quiet s (writeData s fn e data) := by
  unfold writeData; simp

@[simp] theorem canaryCount_leaves (s : State) (bit cls : Nat) :
    Still s (canaryCount s bit cls) ∧ (canaryCount s bit cls).degraded = s.degraded ∧
      (canaryCount s bit cls).clusters = s.clusters ∧ (canaryCount s bit cls).larder = s.larder ∧
      (canaryCount s bit cls).foreman = s.foreman ∧ (canaryCount s bit cls).fns = s.fns := by
  unfold canaryCount; simp

@[simp] theorem setDegraded_leaves (s : State) :
    Still s (setDegraded s) ∧ (setDegraded s).clusters = s.clusters ∧ (setDegraded s).canary = s.canary ∧
      (setDegraded s).larder = s.larder ∧ (setDegraded s).foreman = s.foreman := by
  unfold setDegraded; simp

@[simp] theorem recordFault_leaves (s : State) (bit cls : Nat) (addr : Option Nat) :
    Still s (recordFault s bit cls addr) ∧ (recordFault s bit cls addr).clusters = s.clusters ∧
      (recordFault s bit cls addr).larder = s.larder := by
  unfold recordFault; simp

@[simp] theorem logFault_leaves (s : State) (bit cls : Nat) (addr : Option Nat) :
    Still s (logFault s bit cls addr) ∧ (logFault s bit cls addr).degraded = s.degraded ∧
      (logFault s bit cls addr).clusters = s.clusters ∧ (logFault s bit cls addr).larder = s.larder := by
  unfold logFault; simp

@[simp] theorem escalate_leaves (s : State) (key : Nat) :
    Still s (escalate s key).2 ∧ (escalate s key).2.degraded = s.degraded ∧ (escalate s key).2.clusters = s.clusters ∧
      (escalate s key).2.larder = s.larder ∧ (escalate s key).2.foreman = s.foreman ∧ (escalate s key).2.fns = s.fns := by
  unfold escalate
  dsimp only
  (repeat' split) <;> simp

@[simp] theorem collect_leaves (s : State) (bit unit cls : Nat) (addr : Option Nat) :
    Still s (collect s bit unit cls addr).2 ∧ (collect s bit unit cls addr).2.clusters = s.clusters ∧
      (collect s bit unit cls addr).2.larder = s.larder := by
  unfold collect
  dsimp only
  (repeat' split) <;> simp

@[simp] theorem uncorrectable_leaves (s : State) (a : Nat) :
    Still s (uncorrectable s a) ∧ (uncorrectable s a).clusters = s.clusters ∧ (uncorrectable s a).larder = s.larder := by
  unfold uncorrectable; simp

@[simp] theorem releaseBuffers_leaves (s : State) (fn : Nat) (l : List OutBuffer) :
    Still s (releaseBuffers s fn l) ∧ Sound s (releaseBuffers s fn l) ∧ (releaseBuffers s fn l).foreman = s.foreman := by
  unfold releaseBuffers; simp

@[simp] theorem dropWork_leaves (s : State) (id : Nat) :
    Still s (dropWork s id) ∧ (dropWork s id).degraded = s.degraded ∧ (dropWork s id).canary = s.canary ∧
      (dropWork s id).larder = s.larder ∧ (dropWork s id).foreman = s.foreman ∧ (dropWork s id).fns = s.fns := by
  unfold dropWork; simp

@[simp] theorem reachStopped_leaves (s : State) (x : Session) :
    Still s (reachStopped s x) ∧ (reachStopped s x).degraded = s.degraded ∧ (reachStopped s x).canary = s.canary ∧
      (reachStopped s x).larder = s.larder ∧ (reachStopped s x).foreman = s.foreman := by
  unfold reachStopped; simp

@[simp] theorem stopNow_leaves (s : State) (x : Session) :
    Still s (stopNow s x) ∧ (stopNow s x).degraded = s.degraded ∧ (stopNow s x).canary = s.canary ∧
      (stopNow s x).larder = s.larder ∧ (stopNow s x).foreman = s.foreman := by
  unfold stopNow; simp

@[simp] theorem destroySession_leaves (s : State) (x : Session) :
    Still s (destroySession s x) ∧ (destroySession s x).degraded = s.degraded ∧ (destroySession s x).canary = s.canary ∧
      (destroySession s x).larder = s.larder ∧ (destroySession s x).foreman = s.foreman ∧
      (destroySession s x).fns = s.fns := by
  unfold destroySession; simp

@[simp] theorem stopAndDestroy_leaves (s : State) (x : Session) :
    Still s (stopAndDestroy s x) ∧ (stopAndDestroy s x).degraded = s.degraded ∧ (stopAndDestroy s x).canary = s.canary ∧
      (stopAndDestroy s x).larder = s.larder ∧ (stopAndDestroy s x).foreman = s.foreman := by
  unfold stopAndDestroy; simp

@[simp] theorem stopAll_leaves (s : State) :
    Still s (stopAll s) ∧ (stopAll s).degraded = s.degraded ∧ (stopAll s).canary = s.canary ∧ (stopAll s).larder = s.larder ∧
      (stopAll s).foreman = s.foreman := by
  unfold stopAll; simp

@[simp] theorem destroyAll_leaves (s : State) :
    Still s (destroyAll s) ∧ (destroyAll s).degraded = s.degraded ∧ (destroyAll s).canary = s.canary ∧
      (destroyAll s).larder = s.larder ∧ (destroyAll s).foreman = s.foreman ∧ (destroyAll s).fns = s.fns := by
  unfold destroyAll; simp

@[simp] theorem sendClp_leaves (s : State) (kind dest : Nat) (fields : List Nat) : Quiet s (sendClp s kind dest fields) := by
  unfold sendClp; simp

@[simp] theorem fenceSelf_leaves (s : State) (x : Session) : Quiet s (fenceSelf s x) := by
  unfold fenceSelf; simp

@[simp] theorem enterResync_leaves (s : State) (x : Session) :
    Still s (enterResync s x) ∧ (enterResync s x).degraded = s.degraded ∧ (enterResync s x).canary = s.canary ∧
      (enterResync s x).larder = s.larder ∧ (enterResync s x).foreman = s.foreman := by
  unfold enterResync
  split <;> simp

@[simp] theorem resyncWhere_leaves (s : State) (p : Session → Bool) :
    Still s (resyncWhere s p) ∧ (resyncWhere s p).degraded = s.degraded ∧ (resyncWhere s p).canary = s.canary ∧
      (resyncWhere s p).larder = s.larder ∧ (resyncWhere s p).foreman = s.foreman := by
  unfold resyncWhere; simp

@[simp] theorem zeroize_leaves (s : State) : Still s (zeroize s) ∧ Sound s (zeroize s) ∧ (zeroize s).foreman = s.foreman := by
  unfold zeroize; simp

@[simp] theorem keyLost_leaves (s : State) (p : Session → Bool) : Still s (keyLost s p) ∧ (keyLost s p).larder = s.larder := by
  unfold keyLost
  simp (disch := (intros; (repeat' split) <;> simp; done))

@[simp] theorem lockdown_leaves (s : State) :
    Still s (lockdown s) ∧ (lockdown s).degraded = s.degraded ∧ (lockdown s).larder = s.larder ∧
      (lockdown s).foreman = s.foreman := by
  unfold lockdown; simp

@[simp] theorem class5_leaves (s : State) (bit : Nat) :
    Still s (class5 s bit) ∧ (class5 s bit).degraded = s.degraded ∧ (class5 s bit).larder = s.larder := by
  unfold class5; simp

@[simp] theorem sendAcked_leaves (s : State) (kind dest : Nat) (fields : List Nat) :
    Quiet s (sendAcked s kind dest fields) := by
  unfold sendAcked; simp

@[simp] theorem leaveFabric_leaves (s : State) :
    Still s (leaveFabric s) ∧ (leaveFabric s).degraded = s.degraded ∧ (leaveFabric s).larder = s.larder ∧
      (leaveFabric s).foreman = s.foreman := by
  unfold leaveFabric; simp

@[simp] theorem class4_leaves (s : State) :
    Still s (class4 s) ∧ (class4 s).larder = s.larder ∧ (class4 s).foreman = s.foreman := by
  unfold class4; simp

@[simp] theorem setServices_leaves (s : State) : Quiet s (setServices s) := by
  unfold setServices; simp

@[simp] theorem unitFence_leaves (s : State) (u : FenceUnit) (on : Bool) :
    Still s (unitFence s u on) ∧ (unitFence s u on).degraded = s.degraded ∧ (unitFence s u on).canary = s.canary ∧
      (unitFence s u on).larder = s.larder ∧ (unitFence s u on).foreman = s.foreman ∧ (unitFence s u on).fns = s.fns := by
  unfold unitFence
  split <;> simp

@[simp] theorem loseUnit_leaves (s : State) (u : FenceUnit) :
    Still s (loseUnit s u) ∧ (loseUnit s u).degraded = s.degraded ∧ (loseUnit s u).larder = s.larder ∧
      (loseUnit s u).foreman = s.foreman ∧ (loseUnit s u).fns = s.fns := by
  unfold loseUnit
  split <;> simp

@[simp] theorem orderFence_leaves (s : State) (u : FenceUnit) :
    Still s (orderFence s u) ∧ (orderFence s u).degraded = s.degraded ∧ (orderFence s u).clusters = s.clusters ∧
      (orderFence s u).larder = s.larder ∧ (orderFence s u).foreman = s.foreman ∧ (orderFence s u).fns = s.fns := by
  unfold orderFence; simp

@[simp] theorem ethDown_leaves (s : State) (p : Nat) : Quiet s (ethDown s p) := by
  unfold ethDown; simp

@[simp] theorem endRotation_leaves (s : State) (k : Nat) :
    Still s (endRotation s k) ∧ Sound s (endRotation s k) ∧ (endRotation s k).fns = s.fns := by
  unfold endRotation; simp

@[simp] theorem stopCore_leaves (s : State) (c : Nat) :
    Still s (stopCore s c) ∧ (stopCore s c).degraded = s.degraded ∧ (stopCore s c).clusters = s.clusters ∧
      (stopCore s c).larder = s.larder ∧ (stopCore s c).foreman = s.foreman ∧ (stopCore s c).fns = s.fns := by
  unfold stopCore; simp

@[simp] theorem coreFault_leaves (s : State) (c cls : Nat) (addr : Option Nat) :
    Still s (coreFault s c cls addr).2 ∧ (coreFault s c cls addr).2.clusters = s.clusters ∧
      (coreFault s c cls addr).2.larder = s.larder := by
  unfold coreFault
  split <;> simp

@[simp] theorem markStarted_leaves (s : State) (r : CmdRef) : Quiet s (markStarted s r) := by
  unfold markStarted; simp

@[simp] theorem succeed_leaves (s : State) (r : CmdRef) (result : Nat) :
    Still s (succeed s r result) ∧ Sound s (succeed s r result) ∧ (succeed s r result).foreman = s.foreman := by
  unfold succeed; simp

@[simp] theorem configured_leaves (s : State) (r : CmdRef) (result : Nat) :
    Still s (configured s r result) ∧ Sound s (configured s r result) ∧ (configured s r result).foreman = s.foreman := by
  unfold configured; simp

@[simp] theorem approve_leaves (s : State) (r : CmdRef) (result : Nat) :
    Still s (approve s r result) ∧ Sound s (approve s r result) ∧ (approve s r result).foreman = s.foreman := by
  unfold approve; simp

@[simp] theorem forgetUnused_leaves (s : State) (fn qid : Nat) : Quiet s (forgetUnused s fn qid) := by
  unfold forgetUnused; simp

@[simp] theorem deletePair_leaves (s : State) (q : QueuePair) (d : Option CmdRef) :
    Still s (deletePair s q d) ∧ Sound s (deletePair s q d) ∧ (deletePair s q d).foreman = s.foreman := by
  unfold deletePair; simp

@[simp] theorem cutPairs_leaves (s : State) (fn : Nat) : Quiet s (cutPairs s fn) := by
  unfold cutPairs; simp

@[simp] theorem doorbellError_leaves (s : State) (fn : Nat) : Still s (doorbellError s fn) ∧ Sound s (doorbellError s fn) := by
  unfold doorbellError; simp

@[simp] theorem fetchEntry_leaves (s : State) (q : QueuePair) (e : Bytes) :
    Sound s (fetchEntry s q e) ∧ (fetchEntry s q e).dmaCycle = s.dmaCycle ∧ (fetchEntry s q e).slotGen = s.slotGen ∧
      (fetchEntry s q e).foreman = s.foreman := by
  unfold fetchEntry; simp

@[simp] theorem enableMailbox_leaves (s : State) (fn : Nat) :
    Still s (enableMailbox s fn) ∧ Sound s (enableMailbox s fn) ∧ (enableMailbox s fn).foreman = s.foreman := by
  unfold enableMailbox; simp

@[simp] theorem unmaskVector_leaves (s : State) (fn v : Nat) :
    Still s (unmaskVector s fn v) ∧ Sound s (unmaskVector s fn v) ∧ (unmaskVector s fn v).foreman = s.foreman := by
  unfold unmaskVector; simp

@[simp] theorem maskVector_leaves (s : State) (fn v : Nat) :
    Still s (maskVector s fn v) ∧ Sound s (maskVector s fn v) ∧ (maskVector s fn v).foreman = s.foreman := by
  unfold maskVector; simp

@[simp] theorem writeReg_leaves (s : State) (fn : Nat) (reg : HostReg) (value : BitVec 64) :
    Still s (writeReg s fn reg value) ∧ Sound s (writeReg s fn reg value) ∧
      (writeReg s fn reg value).foreman = s.foreman := by
  unfold writeReg
  split <;> simp

@[simp] theorem countOob_leaves (s : State) (fn off len : Nat) :
    Still s (countOob s fn off len) ∧ Sound s (countOob s fn off len) ∧ (countOob s fn off len).foreman = s.foreman := by
  unfold countOob; simp

@[simp] theorem bar2Read_leaves (s : State) (fn off len : Nat) :
    Still s (bar2Read s fn off len) ∧ (bar2Read s fn off len).clusters = s.clusters ∧
      (bar2Read s fn off len).larder = s.larder := by
  unfold bar2Read
  dsimp only
  (repeat' split) <;> simp

@[simp] theorem bar2Write_leaves (s : State) (fn off : Nat) (data : Bytes) :
    Still s (bar2Write s fn off data) ∧ Sound s (bar2Write s fn off data) ∧
      (bar2Write s fn off data).foreman = s.foreman := by
  unfold bar2Write; simp

@[simp] theorem atCycle_leaves (s : State) (cycle : Nat) :
    Sound s (atCycle s cycle) ∧ (atCycle s cycle).round = s.round ∧ (atCycle s cycle).slotGen = s.slotGen ∧
      (atCycle s cycle).foreman = s.foreman ∧ (atCycle s cycle).fns = s.fns := by
  unfold atCycle; simp

@[simp] theorem dmaHalt_leaves (s : State) (ch : Nat) (addr : Nat) (write inHbm last : Bool) (reason : Nat) :
    Still s (dmaHalt s ch addr write inHbm last reason) ∧ Sound s (dmaHalt s ch addr write inHbm last reason) ∧
      (dmaHalt s ch addr write inHbm last reason).foreman = s.foreman := by
  unfold dmaHalt; simp

@[simp] theorem dmaMismatch_leaves (s : State) (ch off : Nat) :
    Still s (dmaMismatch s ch off) ∧ Sound s (dmaMismatch s ch off) ∧ (dmaMismatch s ch off).foreman = s.foreman := by
  unfold dmaMismatch; simp

@[simp] theorem handOver_leaves (s : State) (ch cycle : Nat) :
    Still s (handOver s ch cycle) ∧ Sound s (handOver s ch cycle) ∧ (handOver s ch cycle).foreman = s.foreman := by
  unfold handOver
  dsimp only
  (repeat' split) <;> simp

@[simp] theorem settle_leaves (s : State) (ch cycle : Nat) :
    Still s (settle s ch cycle) ∧ Sound s (settle s ch cycle) ∧ (settle s ch cycle).foreman = s.foreman := by
  unfold settle
  split <;> simp

@[simp] theorem armChannel_leaves (s : State) (ch cycle : Nat) : Quiet s (armChannel s ch cycle) := by
  unfold armChannel; simp

@[simp] theorem beatWrite_leaves (s : State) (c : DmaChannel) (a : Nat) (data : Bytes) : Quiet s (beatWrite s c a data) := by
  unfold beatWrite; simp

@[simp] theorem dmaDone_leaves (s : State) (ch : Nat) :
    Still s (dmaDone s ch) ∧ Sound s (dmaDone s ch) ∧ (dmaDone s ch).foreman = s.foreman := by
  unfold dmaDone; simp

@[simp] theorem freeBytes_leaves (s : State) (n : Nat) : Quiet s (freeBytes s n).2 := by
  unfold freeBytes; simp

@[simp] theorem undefineBeats_leaves (s : State) (c : DmaChannel) (l : List DmaBeat) : Quiet s (undefineBeats s c l) := by
  unfold undefineBeats; simp

@[simp] theorem failBeat_leaves (s : State) (ch : Nat) (b : DmaBeat) (write : Bool) (reason : Nat) :
    Still s (failBeat s ch b write reason) ∧ Sound s (failBeat s ch b write reason) ∧
      (failBeat s ch b write reason).foreman = s.foreman := by
  unfold failBeat; simp

@[simp] theorem landBeat_leaves (s : State) (ch : Nat) (b : DmaBeat) (src dst : Bytes) :
    Still s (landBeat s ch b src dst) ∧ Sound s (landBeat s ch b src dst) ∧
      (landBeat s ch b src dst).foreman = s.foreman := by
  unfold landBeat
  dsimp only
  (repeat' split) <;> simp

@[simp] theorem maybeLand_leaves (s : State) (c : DmaChannel) : Quiet s (maybeLand s c) := by
  unfold maybeLand; simp

@[simp] theorem disableChannel_leaves (s : State) (ch : Nat) : Quiet s (disableChannel s ch) := by
  unfold disableChannel; simp

@[simp] theorem giveChannel_leaves (s : State) (ch fn : Nat) : Quiet s (giveChannel s ch fn) := by
  unfold giveChannel; simp

@[simp] theorem zeroGrant_leaves (s : State) (fn : Nat) : Quiet s (zeroGrant s fn) := by
  unfold zeroGrant; simp

@[simp] theorem returnChannel_leaves (s : State) (ch : Nat) : Quiet s (returnChannel s ch) := by
  unfold returnChannel; simp

@[simp] theorem resetFns_leaves (s : State) (p : Nat → Bool) :
    Still s (resetFns s p) ∧ (resetFns s p).degraded = s.degraded ∧ (resetFns s p).canary = s.canary ∧
      (resetFns s p).larder = s.larder ∧ (resetFns s p).foreman = s.foreman := by
  unfold resetFns; simp

@[simp] theorem hostInterfaceReset_leaves (s : State) :
    Still s (hostInterfaceReset s) ∧ (hostInterfaceReset s).degraded = s.degraded ∧
      (hostInterfaceReset s).canary = s.canary ∧ (hostInterfaceReset s).larder = s.larder ∧
      (hostInterfaceReset s).foreman = s.foreman := by
  unfold hostInterfaceReset; simp

@[simp] theorem chooseSlot_leaves (s : State) (i : BootInput) : Still s (chooseSlot s i).2 ∧ Sound s (chooseSlot s i).2 := by
  unfold chooseSlot
  dsimp only
  (repeat' split) <;> simp

@[simp] theorem bootRom_leaves (s : State) (i : BootInput) : Still s (bootRom s i) ∧ (bootRom s i).clusters = s.clusters := by
  unfold bootRom; simp

@[simp] theorem bootPlatform_leaves (s : State) (i : BootInput) (slot : Nat) :
    Still s (bootPlatform s i slot) ∧ Sound s (bootPlatform s i slot) := by
  unfold bootPlatform; simp

@[simp] theorem loadPatch_leaves (s : State) (version : Nat) (fail : List Nat) :
    Still s (loadPatch s version fail) ∧ (loadPatch s version fail).degraded = s.degraded ∧
      (loadPatch s version fail).canary = s.canary ∧ (loadPatch s version fail).larder = s.larder ∧
      (loadPatch s version fail).foreman = s.foreman ∧ (loadPatch s version fail).fns = s.fns := by
  unfold loadPatch; simp

@[simp] theorem bootBist_leaves (s : State) (failed : List Nat) :
    Still s (bootBist s failed) ∧ (bootBist s failed).degraded = s.degraded ∧ (bootBist s failed).larder = s.larder := by
  unfold bootBist
  simp (disch := (intros; (repeat' split) <;> simp; done))

@[simp] theorem trainHbm_leaves (s : State) (i : BootInput) :
    Still s (trainHbm s i) ∧ (trainHbm s i).clusters = s.clusters ∧ (trainHbm s i).larder = s.larder := by
  unfold trainHbm; simp

@[simp] theorem copyAon_leaves (s : State) : Still s (copyAon s) ∧ Sound s (copyAon s) := by
  unfold copyAon; simp

@[simp] theorem repairRows_leaves (s : State) : Still s (repairRows s) ∧ Sound s (repairRows s) := by
  unfold repairRows; simp

@[simp] theorem finishBoot_leaves (s : State) :
    Still s (finishBoot s) ∧ (finishBoot s).degraded = s.degraded ∧ (finishBoot s).clusters = s.clusters := by
  unfold finishBoot; simp

@[simp] theorem bootFirmware_leaves (s : State) (i : BootInput) (slot : Nat) : Still s (bootFirmware s i slot) := by
  unfold bootFirmware; simp

@[simp] theorem startBist_leaves (s : State) : Still s (startBist s) ∧ (startBist s).foreman = s.foreman := by
  unfold startBist; simp

@[simp] theorem setModeTo_leaves (s : State) (r : CmdRef) (target : Nat) :
    Still s (setModeTo s r target) ∧ (setModeTo s r target).foreman = s.foreman := by
  unfold setModeTo
  split <;> simp

@[simp] theorem sizeRings_leaves (s : State) (l : List ClusterUse) (bytes : Nat) : Quiet s (sizeRings s l bytes) := by
  unfold sizeRings; simp

@[simp] theorem reserve_leaves (s : State) (x : Session) (d : Demand) (l : List ClusterUse) :
    Still s (reserve s x d l) ∧ (reserve s x d l).degraded = s.degraded ∧ (reserve s x d l).clusters = s.clusters ∧
      (reserve s x d l).canary = s.canary ∧ (reserve s x d l).foreman = s.foreman := by
  unfold reserve; simp

@[simp] theorem replaceOne_leaves (s : State) (x : Session) :
    Still s (replaceOne s x) ∧ (replaceOne s x).larder = s.larder := by
  unfold replaceOne
  dsimp only
  (repeat' split) <;> simp

@[simp] theorem replaceAll_leaves (s : State) : Still s (replaceAll s) := by
  unfold replaceAll; simp

@[simp] theorem memberPut_leaves (s : State) (m : Nat) (x : Member) : Quiet s (memberPut s m x) := by
  unfold memberPut; simp

@[simp] theorem copyToStandby_leaves (s : State) (kind m : Nat) (fields : List Nat) :
    Quiet s (copyToStandby s kind m fields) := by
  unfold copyToStandby; simp

@[simp] theorem sendAssign_leaves (s : State) (m session role region from_ : Nat) (c : Bytes) :
    Quiet s (sendAssign s m session role region from_ c) := by
  unfold sendAssign; simp

@[simp] theorem commitEpoch_leaves (s : State) (p : EpochChange) : Quiet s (commitEpoch s p) := by
  unfold commitEpoch; simp

@[simp] theorem settleEpoch_leaves (s : State) : Quiet s (settleEpoch s) := by
  unfold settleEpoch
  split <;> simp

@[simp] theorem beginEpoch_leaves (s : State) (changes : List (Nat × Nat)) : Quiet s (beginEpoch s changes) := by
  unfold beginEpoch; simp

@[simp] theorem addRole_leaves (s : State) (m session region role : Nat) : Quiet s (addRole s m session region role) := by
  unfold addRole
  split <;> simp

@[simp] theorem dropRole_leaves (s : State) (m session region role : Nat) : Quiet s (dropRole s m session region role) := by
  unfold dropRole
  split <;> simp

@[simp] theorem editSession_leaves (s : State) (id : Nat) (f : Session → Session) : Quiet s (editSession s id f) := by
  unfold editSession
  split <;> simp

@[simp] theorem giveRole_leaves (s : State) (id m region role from_ : Nat) : Quiet s (giveRole s id m region role from_) := by
  unfold giveRole
  split <;> simp

@[simp] theorem takeRole_leaves (s : State) (id m region role : Nat) : Quiet s (takeRole s id m region role) := by
  unfold takeRole
  split <;> simp

@[simp] theorem placeFabric_leaves (s : State) (id : Nat) (plan : List (Nat × Nat × Nat)) :
    Quiet s (placeFabric s id plan) := by
  unfold placeFabric; simp

@[simp] theorem replanFabric_leaves (s : State) (x : Session) (frame : Nat) (c : Bytes) :
    Quiet s (replanFabric s x frame c) := by
  unfold replanFabric
  simp (disch := (intros; (repeat' split) <;> simp; done))

/-- The member keeps no role of the session, and is told so. -/
@[simp] theorem withdrawFabric_leaves (s : State) (x : Session) : Quiet s (withdrawFabric s x) := by
  unfold withdrawFabric
  split
  · simp
  · simp only [Quiet, Still, Sound, beginEpoch_leaves]
    exact quiet_foldl (fun s m => by (repeat' split) <;> simp) _ s

@[simp] theorem bindFlow_leaves (s : State) (flow v : Nat) : Quiet s (bindFlow s flow v) := by
  unfold bindFlow
  split <;> simp

@[simp] theorem bindFlows_leaves (s : State) (decode : Bool) (c : Bytes) (v : Nat) : Quiet s (bindFlows s decode c v) := by
  unfold bindFlows; simp

@[simp] theorem createSession_leaves (s : State) (r : CmdRef) (e c : Bytes) :
    (createSession s r e c).round = s.round ∧ (createSession s r e c).dmaCycle = s.dmaCycle ∧
      (createSession s r e c).degraded = s.degraded ∧ (createSession s r e c).clusters = s.clusters ∧
      (createSession s r e c).canary = s.canary ∧ (createSession s r e c).foreman = s.foreman := by
  unfold createSession
  dsimp only
  (repeat' split) <;> simp

@[simp] theorem restartFabric_leaves (s : State) (x : Session) : Quiet s (restartFabric s x) := by
  unfold restartFabric
  (repeat' split) <;> simp

@[simp] theorem settleStop_leaves (s : State) (id : Nat) :
    Still s (settleStop s id) ∧ (settleStop s id).degraded = s.degraded ∧ (settleStop s id).canary = s.canary ∧
      (settleStop s id).larder = s.larder ∧ (settleStop s id).foreman = s.foreman := by
  unfold settleStop
  split <;> simp

@[simp] theorem dropUndispatched_leaves (s : State) (x : Session) :
    Still s (dropUndispatched s x) ∧ Sound s (dropUndispatched s x) ∧ (dropUndispatched s x).foreman = s.foreman := by
  unfold dropUndispatched; simp

@[simp] theorem stopAfter_leaves (s : State) (x : Session) :
    Still s (stopAfter s x) ∧ (stopAfter s x).degraded = s.degraded ∧ (stopAfter s x).canary = s.canary ∧
      (stopAfter s x).larder = s.larder ∧ (stopAfter s x).foreman = s.foreman := by
  unfold stopAfter; simp

@[simp] theorem stopSession_leaves (s : State) (r : CmdRef) (x : Session) (e : Bytes) :
    Still s (stopSession s r x e) ∧ (stopSession s r x e).degraded = s.degraded ∧ (stopSession s r x e).canary = s.canary ∧
      (stopSession s r x e).larder = s.larder ∧ (stopSession s r x e).foreman = s.foreman := by
  unfold stopSession
  split <;> simp

@[simp] theorem acceptChange_leaves (s : State) (r : CmdRef) (x : Session) (f : Nat) (c : Bytes) :
    Still s (acceptChange s r x f c) ∧ (acceptChange s r x f c).degraded = s.degraded ∧
      (acceptChange s r x f c).clusters = s.clusters ∧ (acceptChange s r x f c).canary = s.canary ∧
      (acceptChange s r x f c).foreman = s.foreman := by
  unfold acceptChange
  dsimp only
  (repeat' split) <;> simp

@[simp] theorem closeBuffer_leaves (s : State) (x : Session) (detail : Nat) :
    Still s (closeBuffer s x detail).1 ∧ Sound s (closeBuffer s x detail).1 ∧
      (closeBuffer s x detail).1.foreman = s.foreman := by
  unfold closeBuffer
  split <;> simp

@[simp] theorem pourItem_leaves (n : Nat) (s : State) (x : Session) :
    Still s (pourItem n s x).1 ∧ Sound s (pourItem n s x).1 ∧ (pourItem n s x).1.foreman = s.foreman := by
  induction n generalizing s x <;> unfold pourItem <;> dsimp only <;> (repeat' split) <;> simp [*]

@[simp] theorem settleFlush_leaves (s : State) (x : Session) :
    Still s (settleFlush s x) ∧ Sound s (settleFlush s x) ∧ (settleFlush s x).foreman = s.foreman := by
  unfold settleFlush; simp

@[simp] theorem settleOutput_leaves (s : State) (id : Nat) :
    Still s (settleOutput s id) ∧ (settleOutput s id).degraded = s.degraded ∧ (settleOutput s id).canary = s.canary ∧
      (settleOutput s id).larder = s.larder ∧ (settleOutput s id).foreman = s.foreman := by
  unfold settleOutput
  dsimp only
  (repeat' split) <;> simp

@[simp] theorem lookup_leaves (s : State) (h : EthHead) : Quiet s (lookup s h).2 := by
  unfold lookup
  dsimp only
  (repeat' split) <;> simp

@[simp] theorem learnNew_leaves (s : State) (q : LearnReq) : Quiet s (learnNew s q) := by
  unfold learnNew
  dsimp only
  (repeat' split) <;> simp

@[simp] theorem countFlap_leaves (s : State) (port : Nat) : Still s (countFlap s port) ∧ Sound s (countFlap s port) := by
  unfold countFlap; simp

@[simp] theorem moveEntry_leaves (s : State) (q : LearnReq) (k : Nat) (e : EmtEntry) :
    Still s (moveEntry s q k e) ∧ Sound s (moveEntry s q k e) := by
  unfold moveEntry; simp

@[simp] theorem judge_leaves (s : State) (q : LearnReq) : Still s (judge s q) ∧ Sound s (judge s q) := by
  unfold judge
  split <;> simp

@[simp] theorem flowSet_leaves (s : State) (f : Nat) (x : FlowRecord) : Quiet s (flowSet s f x) := by
  unfold flowSet; simp

@[simp] theorem countFlow_leaves (s : State) (f k n : Nat) : Quiet s (countFlow s f k n) := by
  unfold countFlow; simp

@[simp] theorem meterPut_leaves (s : State) (m : Nat) (x : Meter) : Quiet s (meterPut s m x) := by
  unfold meterPut; simp

@[simp] theorem meterPacket_leaves (s : State) (k len : Nat) (yellow : Bool) : Quiet s (meterPacket s k len yellow).2 := by
  unfold meterPacket; simp

@[simp] theorem subSet_leaves (s : State) (n : Nat) (x : Subscriber) : Quiet s (subSet s n x) := by
  unfold subSet; simp

@[simp] theorem queueSet_leaves (s : State) (q : Nat) (x : EgressQueue) : Quiet s (queueSet s q x) := by
  unfold queueSet; simp

@[simp] theorem shaperSend_leaves (s : State) (n len tag : Nat) (last : Bool) : Quiet s (shaperSend s n len tag last) := by
  unfold shaperSend; simp

@[simp] theorem mergeSet_leaves (s : State) (f : Nat) (m : MergeState) : Quiet s (mergeSet s f m) := by
  unfold mergeSet; simp

@[simp] theorem countPort_leaves (s : State) (p k : Nat) : Quiet s (countPort s p k) := by
  unfold countPort; simp

@[simp] theorem countEth_leaves (s : State) (p k n : Nat) : Quiet s (countEth s p k n) := by
  unfold countEth; simp

@[simp] theorem countRules_leaves (s : State) (dir port flow verdict : Nat) :
    Quiet s (countRules s dir port flow verdict).2 := by
  unfold countRules; simp

@[simp] theorem writeCapture_leaves (s : State) (rec : Nat → Bytes) : Quiet s (writeCapture s rec) := by
  unfold writeCapture; simp

@[simp] theorem capture_leaves (s : State) (dir port verdict queue sub : Nat) (cut : Bool) (time : Int) (head : Bytes)
    (b : Buffer) :
    Quiet s (capture s dir port verdict queue sub cut time head b) := by
  unfold capture; simp

@[simp] theorem captureIn_leaves (s : State) (verdict : Nat) (cut : Bool) (b : Buffer) :
    Quiet s (captureIn s verdict cut b) := by
  unfold captureIn; simp

@[simp] theorem poolPut_leaves (s : State) (k : Nat) (p : Pool) : Quiet s (poolPut s k p) := by
  unfold poolPut; simp

@[simp] theorem sendPfc_leaves (s : State) (mask : Nat) (xoff : Bool) : Quiet s (sendPfc s mask xoff) := by
  unfold sendPfc
  dsimp only
  (repeat' split) <;> simp

@[simp] theorem settlePool_leaves (s : State) (k : Nat) : Still s (settlePool s k) ∧ Sound s (settlePool s k) := by
  unfold settlePool; simp

@[simp] theorem allocate_leaves (s : State) (k requester colour : Nat) :
    Still s (allocate s k requester colour).2 ∧ Sound s (allocate s k requester colour).2 := by
  unfold allocate
  dsimp only
  (repeat' split) <;> simp

@[simp] theorem giveBack_leaves (s : State) (id : Nat) (b : Buffer) (readback : Bool) :
    Still s (giveBack s id b readback) ∧ Sound s (giveBack s id b readback) := by
  unfold giveBack; simp

@[simp] theorem fillBuffer_leaves (s : State) (k : Nat) (b : Buffer) (owner : Nat) : Quiet s (fillBuffer s k b owner).2 := by
  unfold fillBuffer; simp

@[simp] theorem bufPut_leaves (s : State) (id : Nat) (b : Buffer) : Quiet s (bufPut s id b) := by
  unfold bufPut; simp

@[simp] theorem leaveCount_leaves (s : State) (id : Nat) (readback : Bool) :
    Still s (leaveCount s id readback) ∧ Sound s (leaveCount s id readback) := by
  unfold leaveCount
  split <;> simp

@[simp] theorem badFree_leaves (s : State) (id : Nat) (double : Bool) :
    Still s (badFree s id double) ∧ (badFree s id double).clusters = s.clusters ∧
      (badFree s id double).larder = s.larder := by
  unfold badFree; simp

@[simp] theorem freeRequest_leaves (s : State) (id requester : Nat) (readback : Bool) :
    Still s (freeRequest s id requester readback) ∧ (freeRequest s id requester readback).clusters = s.clusters ∧
      (freeRequest s id requester readback).larder = s.larder := by
  unfold freeRequest
  (repeat' split) <;> simp

@[simp] theorem judgeCopy_leaves (s : State) (n colour len : Nat) : Quiet s (judgeCopy s n colour len).2 := by
  unfold judgeCopy
  dsimp only
  (repeat' split) <;> simp

@[simp] theorem putCopy_leaves (s : State) (n id sub len : Nat) (cut : Bool) : Quiet s (putCopy s n id sub len cut) := by
  unfold putCopy; simp

@[simp] theorem outVerdict_leaves (s : State) (p sub n : Nat) (b : Buffer) : Quiet s (outVerdict s p sub n b).2 := by
  unfold outVerdict
  (repeat' split) <;> simp

@[simp] theorem countRefused_leaves (s : State) (p v : Nat) (b : Buffer) : Quiet s (countRefused s p v b) := by
  unfold countRefused
  (repeat' split) <;> simp

@[simp] theorem decideCopy_leaves (s : State) (id : Nat) (b : Buffer) (cuts : List (Nat × Nat)) (d : Nat × Nat) :
    Quiet s (decideCopy s id b cuts d).2 := by
  unfold decideCopy
  dsimp only
  (repeat' split) <;> simp

@[simp] theorem decideCopies_leaves (s : State) (id : Nat) (b : Buffer) (cuts : List (Nat × Nat)) :
    Still s (decideCopies s id b cuts) ∧ Sound s (decideCopies s id b cuts) := by
  unfold decideCopies
  dsimp only
  (repeat' split) <;> simp

@[simp] theorem dropCopies_leaves (s : State) (p : Nat → EgressQueue → Copy → Bool) (readback : Bool) :
    Still s (dropCopies s p readback) ∧ Sound s (dropCopies s p readback) := by
  unfold dropCopies; simp

@[simp] theorem portDown_leaves (s : State) (p : Nat) : Still s (portDown s p) ∧ Sound s (portDown s p) := by
  unfold portDown
  split <;> simp

@[simp] theorem dropIn_leaves (s : State) (v : Nat) (b : Buffer) : Quiet s (dropIn s v b) := by
  unfold dropIn
  split <;> simp

@[simp] theorem holdPacket_leaves (s : State) (b : Buffer) : Quiet s (holdPacket s b) := by
  unfold holdPacket; simp

@[simp] theorem placePacket_leaves (s : State) (b : Buffer) : Still s (placePacket s b) ∧ Sound s (placePacket s b) := by
  unfold placePacket
  dsimp only
  (repeat' split) <;> simp

@[simp] theorem colourPacket_leaves (s : State) (b : Buffer) : Quiet s (colourPacket s b).2 := by
  unfold colourPacket
  dsimp only
  (repeat' split) <;> simp

@[simp] theorem deliver_leaves (s : State) (b : Buffer) : Still s (deliver s b) ∧ Sound s (deliver s b) := by
  unfold deliver; simp

@[simp] theorem releaseHeld_leaves (s : State) (id : Nat) : Still s (releaseHeld s id) ∧ Sound s (releaseHeld s id) := by
  unfold releaseHeld
  split <;> simp

@[simp] theorem releaseRun_leaves (n : Nat) (s : State) (a : Nat) :
    Still s (releaseRun n s a) ∧ Sound s (releaseRun n s a) := by
  induction n generalizing s with
  | zero => simp [releaseRun]
  | succ k ih => unfold releaseRun; dsimp only; (repeat' split) <;> simp [ih]

@[simp] theorem declareLost_leaves (s : State) (a : Nat) : Still s (declareLost s a) ∧ Sound s (declareLost s a) := by
  unfold declareLost
  dsimp only
  (repeat' split) <;> simp

@[simp] theorem settleMerge_leaves (s : State) (a : Nat) : Still s (settleMerge s a) ∧ Sound s (settleMerge s a) := by
  unfold settleMerge; simp

@[simp] theorem mergeNext_leaves (s : State) (a n : Nat) (b : Buffer) :
    Still s (mergeNext s a n b) ∧ Sound s (mergeNext s a n b) := by
  unfold mergeNext; simp

@[simp] theorem mergeHold_leaves (s : State) (a n : Nat) (b : Buffer) :
    Still s (mergeHold s a n b) ∧ Sound s (mergeHold s a n b) := by
  unfold mergeHold
  split <;> simp

@[simp] theorem mergeRestart_leaves (s : State) (a n : Nat) (b : Buffer) :
    Still s (mergeRestart s a n b) ∧ Sound s (mergeRestart s a n b) := by
  unfold mergeRestart
  simp (disch := (intros; (repeat' split) <;> simp; done))

@[simp] theorem mergePacket_leaves (s : State) (a : Nat) (legB : Bool) (b0 : Buffer) (udp : Bytes) :
    Still s (mergePacket s a legB b0 udp) ∧ Sound s (mergePacket s a legB b0 udp) := by
  unfold mergePacket
  dsimp only
  (repeat' split) <;> simp

@[simp] theorem acceptPn_leaves (s : State) (h : EthHead) : Quiet s (acceptPn s h) := by
  unfold acceptPn; simp

@[simp] theorem cutFrame_leaves (s : State) (h : EthHead) (st : Staged) (cuts : List (Nat × Nat)) :
    Still s (cutFrame s h st cuts) ∧ Sound s (cutFrame s h st cuts) := by
  unfold cutFrame
  dsimp only
  (repeat' split) <;> simp

@[simp] theorem headFrame_leaves (s : State) (h : EthHead) : Still s (headFrame s h) ∧ Sound s (headFrame s h) := by
  unfold headFrame
  split <;> simp

@[simp] theorem endCut_leaves (s : State) (id len : Nat) (bad : Bool) :
    Still s (endCut s id len bad) ∧ Sound s (endCut s id len bad) := by
  unfold endCut
  split <;> simp

@[simp] theorem endStored_leaves (s : State) (st : Staged) (len : Nat) (bad : Bool) (head : Bytes) :
    Still s (endStored s st len bad head) ∧ Sound s (endStored s st len bad head) := by
  unfold endStored
  (repeat' split) <;> simp

@[simp] theorem takeCopy_leaves (s : State) (n : Nat) (q : EgressQueue) (len : Nat) : Quiet s (takeCopy s n q len) := by
  unfold takeCopy; simp

theorem protect_leaves {s t : State} {p : Nat} {clear : Bool} (h : protect s p clear = some t) : Still s t ∧ Sound s t := by
  unfold protect at h
  dsimp only at h
  (repeat' split at h) <;> cases h <;> simp

@[simp] theorem startFrame_leaves (s : State) (p n : Nat) (q : EgressQueue) (c : Copy) (b : Buffer) (head : Bytes) :
    Still s (startFrame s p n q c b head) ∧ Sound s (startFrame s p n q c b head) := by
  unfold startFrame
  dsimp only
  split
  · simp
  · split
    · simp
    · next s3 h =>
      have hsent : Still s s3 ∧ Sound s s3 := by
        split at h
        · simpa using protect_leaves h
        · cases h
          simp
      (repeat' split) <;> simp [hsent]

@[simp] theorem selectEth_leaves (s : State) (p : Nat) (head : Bytes) :
    Still s (selectEth s p head) ∧ Sound s (selectEth s p head) := by
  unfold selectEth
  dsimp only
  (repeat' split) <;> simp

@[simp] theorem selectPort_leaves (s : State) (p : Nat) (head : Bytes) :
    Still s (selectPort s p head) ∧ Sound s (selectPort s p head) := by
  unfold selectPort
  split <;> simp

@[simp] theorem endCopy_leaves (s : State) (p id : Nat) (b : Buffer) (readback : Bool) :
    Still s (endCopy s p id b readback) ∧ Sound s (endCopy s p id b readback) := by
  unfold endCopy; simp

@[simp] theorem unitPut_leaves (s : State) (x : Session) (f : EncFrame) (i : Nat) (u : UnitRec) :
    Quiet s (unitPut s x f i u) := by
  unfold unitPut; simp

@[simp] theorem measureCu_leaves (s : State) (core : Nat) (m : CuMeas) (sl : CuSlot) (x : Session) (f : EncFrame)
    (u : UnitRec) (w : WorkRef) :
    Quiet s (measureCu s core m sl x f u w) := by
  unfold measureCu
  dsimp only
  (repeat' split) <;> simp

@[simp] theorem writeRungs_leaves (s : State) (fn : Nat) (c : Bytes) (frame : Nat) (src : List Plane) :
    Quiet s (writeRungs s fn c frame src) := by
  unfold writeRungs; simp

@[simp] theorem completeSource_leaves (s : State) (x : Session) (p : SubPicture) :
    Still s (completeSource s x p) ∧ Sound s (completeSource s x p) ∧ (completeSource s x p).foreman = s.foreman := by
  unfold completeSource; simp

@[simp] theorem ppuSource_leaves (s : State) (x : Session) (p : SubPicture) (i : PpuInput) :
    Still s (ppuSource s x p i) ∧ Sound s (ppuSource s x p i) ∧ (ppuSource s x p i).foreman = s.foreman := by
  unfold ppuSource; simp

@[simp] theorem ppuOutput_leaves (s : State) (x : Session) (i : PpuInput) : Quiet s (ppuOutput s x i) := by
  unfold ppuOutput; simp

@[simp] theorem settleRotation_leaves (s : State) (k : Nat) :
    Still s (settleRotation s k) ∧ (settleRotation s k).degraded = s.degraded ∧ (settleRotation s k).canary = s.canary := by
  unfold settleRotation
  split <;> simp

@[simp] theorem beginWake_leaves (s : State) (c : Nat) : Quiet s (beginWake s c) := by
  unfold beginWake; simp

@[simp] theorem restartCore_leaves (s : State) (core : Nat) : Quiet s (restartCore s core) := by
  unfold restartCore
  dsimp only
  (repeat' split) <;> simp

@[simp] theorem restartDecoder_leaves (s : State) (core : Nat) : Quiet s (restartDecoder s core) := by
  unfold restartDecoder; simp

@[simp] theorem restartAny_leaves (s : State) (core : Nat) : Quiet s (restartAny s core) := by
  unfold restartAny; simp

@[simp] theorem markReference_leaves (s : State) (core : Nat) (r : BadRect) : Quiet s (markReference s core r) := by
  unfold markReference
  split <;> simp

@[simp] theorem concealSource_leaves (s : State) (core n : Nat) :
    Still s (concealSource s core n) ∧ (concealSource s core n).clusters = s.clusters ∧
      (concealSource s core n).larder = s.larder := by
  unfold concealSource
  split <;> simp

@[simp] theorem postMotion_leaves (s : State) (x : Session) (f : EncFrame) :
    Still s (postMotion s x f).1 ∧ Sound s (postMotion s x f).1 ∧ (postMotion s x f).1.foreman = s.foreman := by
  unfold postMotion
  split <;> simp

@[simp] theorem writeFmap_leaves (s : State) (x : Session) (f : EncFrame) : Quiet s (writeFmap s x f) := by
  unfold writeFmap; simp

@[simp] theorem reportFrame_leaves (s : State) (x : Session) (f0 : EncFrame) :
    Still s (reportFrame s x f0) ∧ Sound s (reportFrame s x f0) := by
  unfold reportFrame; simp

@[simp] theorem reportFrames_leaves (n : Nat) (s : State) (id : Nat) :
    Still s (reportFrames n s id) ∧ Sound s (reportFrames n s id) := by
  induction n generalizing s <;> unfold reportFrames <;> (repeat' split) <;> simp [*]

@[simp] theorem queueUnits_leaves (s : State) (x : Session) (f : EncFrame) (first : Nat) (l : List UnitRec) :
    Still s (queueUnits s x f first l) ∧ (queueUnits s x f first l).degraded = s.degraded ∧
      (queueUnits s x f first l).canary = s.canary ∧ (queueUnits s x f first l).larder = s.larder ∧
      (queueUnits s x f first l).foreman = s.foreman ∧ (queueUnits s x f first l).fns = s.fns := by
  unfold queueUnits; simp

@[simp] theorem limitReached_leaves (s : State) (id : Nat) (f : EncFrame) :
    Still s (limitReached s id f) ∧ (limitReached s id f).degraded = s.degraded ∧ (limitReached s id f).canary = s.canary ∧
      (limitReached s id f).larder = s.larder ∧ (limitReached s id f).foreman = s.foreman := by
  unfold limitReached
  split <;> simp

@[simp] theorem dispatchBand_leaves (s : State) (x : Session) (f : EncFrame) (place : List Nat) :
    Still s (dispatchBand s x f place) ∧ (dispatchBand s x f place).degraded = s.degraded ∧
      (dispatchBand s x f place).canary = s.canary ∧ (dispatchBand s x f place).larder = s.larder ∧
      (dispatchBand s x f place).foreman = s.foreman := by
  unfold dispatchBand; simp

@[simp] theorem dispatchFrame_leaves (s : State) (x0 : Session) (place : List Nat) (target : Nat) (shares : List Nat) :
    Still s (dispatchFrame s x0 place target shares) ∧ (dispatchFrame s x0 place target shares).degraded = s.degraded ∧
      (dispatchFrame s x0 place target shares).canary = s.canary ∧ (dispatchFrame s x0 place target shares).larder = s.larder ∧
      (dispatchFrame s x0 place target shares).foreman = s.foreman := by
  unfold dispatchFrame
  dsimp only
  (repeat' split) <;> simp

@[simp] theorem startUnit_leaves (s : State) (core : Nat) (b : BandCmd) (x : Session) (f : EncFrame) (u : UnitRec) :
    Still s (startUnit s core b x f u) ∧ (startUnit s core b x f u).degraded = s.degraded ∧
      (startUnit s core b x f u).canary = s.canary ∧ (startUnit s core b x f u).larder = s.larder ∧
      (startUnit s core b x f u).foreman = s.foreman ∧ (startUnit s core b x f u).fns = s.fns := by
  unfold startUnit; simp

@[simp] theorem enterFront_leaves (s : State) (core : Nat) (x : Session) (f : EncFrame) (u : UnitRec) (w : WorkRef) :
    Quiet s (enterFront s core x f u w) := by
  unfold enterFront; simp

@[simp] theorem moveInto_leaves (s : State) (core e : Nat) (around : List AssayIn) (x : Session) (f : EncFrame)
    (u : UnitRec) :
    Quiet s (moveInto s core e around x f u) := by
  unfold moveInto
  dsimp only
  (repeat' split) <;> simp

@[simp] theorem sendStats_leaves (s : State) (x : Session) (f : EncFrame) (u : UnitRec) : Quiet s (sendStats s x f u) := by
  unfold sendStats; simp

@[simp] theorem sendSeams_leaves (s : State) (x : Session) (f : EncFrame) (b : Nat) : Quiet s (sendSeams s x f b) := by
  unfold sendSeams; simp

@[simp] theorem sendStrips_leaves (s : State) (x : Session) (f : EncFrame) (b : Nat) : Quiet s (sendStrips s x f b) := by
  unfold sendStrips; simp

@[simp] theorem finishUnit_leaves (s : State) (core : Nat) (x : Session) (f : EncFrame) (i : Nat) (u : UnitRec) :
    Still s (finishUnit s core x f i u) ∧ (finishUnit s core x f i u).degraded = s.degraded ∧
      (finishUnit s core x f i u).canary = s.canary ∧ (finishUnit s core x f i u).larder = s.larder := by
  unfold finishUnit; simp

@[simp] theorem commitRow_leaves (s : State) (core : Nat) (b : Bytes) (complexity : Nat) (x : Session) (f : EncFrame)
    (u : UnitRec) (w : WorkRef) :
    Still s (commitRow s core b complexity x f u w) ∧ (commitRow s core b complexity x f u w).larder = s.larder := by
  unfold commitRow; simp

@[simp] theorem fillGap_leaves (s : State) (x : Session) (last : Nat) : Quiet s (fillGap s x last) := by
  unfold fillGap
  (repeat' split) <;> simp

@[simp] theorem writeCmap_leaves (s : State) (x : Session) (p : DecPicture) : Quiet s (writeCmap s x p) := by
  unfold writeCmap; simp

@[simp] theorem writeOutput_leaves (s : State) (x : Session) (p : DecPicture) :
    Still s (writeOutput s x p).1 ∧ Sound s (writeOutput s x p).1 ∧ (writeOutput s x p).1.foreman = s.foreman := by
  unfold writeOutput
  split <;> simp

@[simp] theorem finishOutput_leaves (s : State) (id pic : Nat) :
    Still s (finishOutput s id pic) ∧ (finishOutput s id pic).degraded = s.degraded ∧
      (finishOutput s id pic).canary = s.canary ∧ (finishOutput s id pic).larder = s.larder ∧
      (finishOutput s id pic).foreman = s.foreman := by
  unfold finishOutput
  dsimp only
  (repeat' split) <;> simp

@[simp] theorem markLate_leaves (s : State) (id pic : Nat) : Quiet s (markLate s id pic) := by
  unfold markLate
  (repeat' split) <;> simp

@[simp] theorem pxReceive_leaves (s : State) (typ : Nat) (p : PxPkt) :
    Still s (pxReceive s typ p).2 ∧ (pxReceive s typ p).2.clusters = s.clusters ∧
      (pxReceive s typ p).2.larder = s.larder := by
  unfold pxReceive
  split <;> simp

@[simp] theorem endPicture_leaves (s : State) (p : Nat) : Still s (endPicture s p) ∧ Sound s (endPicture s p) := by
  unfold endPicture
  dsimp only
  (repeat' split) <;> simp

@[simp] theorem beginPicture_leaves (s : State) (p : PxPkt) (f : PxStart) (x : Session) : Quiet s (beginPicture s p f x) := by
  unfold beginPicture; simp

@[simp] theorem discardPicture_leaves (s : State) (p : PxPkt) (f : PxStart) : Quiet s (discardPicture s p f) := by
  unfold discardPicture; simp

@[simp] theorem startPicture_leaves (s : State) (p : PxPkt) : Still s (startPicture s p) ∧ Sound s (startPicture s p) := by
  unfold startPicture
  dsimp only
  (repeat' split) <;> simp

@[simp] theorem orderError_leaves (s : State) (p : Nat) : Quiet s (orderError s p) := by
  unfold orderError; simp

@[simp] theorem takeLine_leaves (s : State) (p : PxPkt) : Quiet s (takeLine s p) := by
  unfold takeLine
  split <;> simp

@[simp] theorem takeMetadata_leaves (s : State) (p : PxPkt) : Quiet s (takeMetadata s p) := by
  unfold takeMetadata
  dsimp only
  (repeat' split) <;> simp

@[simp] theorem pxDown_leaves (s : State) (p : Nat) : Still s (pxDown s p) ∧ Sound s (pxDown s p) := by
  unfold pxDown; simp

@[simp] theorem pxStartOutput_leaves (s : State) (port : Nat) (o : PxSending) : Quiet s (pxStartOutput s port o) := by
  unfold pxStartOutput; simp

@[simp] theorem sendLine_leaves (s : State) (port : Nat) (o : PxSending) (planes : List (List Bytes)) :
    Quiet s (sendLine s port o planes) := by
  unfold sendLine; simp

@[simp] theorem nextLineOut_leaves (s : State) (port : Nat) (o : PxSending) :
    Still s (nextLineOut s port o) ∧ (nextLineOut s port o).degraded = s.degraded ∧
      (nextLineOut s port o).canary = s.canary ∧ (nextLineOut s port o).larder = s.larder ∧
      (nextLineOut s port o).foreman = s.foreman := by
  unfold nextLineOut
  (repeat' split) <;> simp

@[simp] theorem applyEth_leaves (s : State) (p : Nat) (d : Bytes) :
    Still s (applyEth s p d) ∧ (applyEth s p d).degraded = s.degraded ∧ (applyEth s p d).clusters = s.clusters ∧
      (applyEth s p d).canary = s.canary := by
  unfold applyEth; simp

@[simp] theorem applyPx_leaves (s : State) (p : Nat) (d : Bytes) :
    Still s (applyPx s p d) ∧ (applyPx s p d).degraded = s.degraded ∧ (applyPx s p d).clusters = s.clusters ∧
      (applyPx s p d).canary = s.canary := by
  unfold applyPx; simp

@[simp] theorem clearMerge_leaves (s : State) (f : Nat) : Still s (clearMerge s f) ∧ Sound s (clearMerge s f) := by
  unfold clearMerge
  simp (disch := (intros; (repeat' split) <;> simp; done))

@[simp] theorem gateTurn_leaves (s : State) (p : Nat) (y : EthPort) (g : GateList) : Quiet s (gateTurn s p y g) := by
  unfold gateTurn; simp

@[simp] theorem ptpShift_leaves (s : State) (by_ : Int) : Quiet s (ptpShift s by_) := by
  unfold ptpShift; simp

@[simp] theorem ptpStep_leaves (s : State) (by_ : Int) : Still s (ptpStep s by_) ∧ Sound s (ptpStep s by_) := by
  unfold ptpStep; simp

@[simp] theorem timeJudge_leaves (s : State) : Quiet s (timeJudge s) := by
  unfold timeJudge; simp

@[simp] theorem ptpServo_leaves (s : State) (m : PtpIn) : Still s (ptpServo s m) ∧ Sound s (ptpServo s m) := by
  unfold ptpServo; simp

@[simp] theorem ptpAnnounce_leaves (s : State) (m : PtpIn) : Quiet s (ptpAnnounce s m) := by
  unfold ptpAnnounce; simp

@[simp] theorem ptpSend_leaves (s : State) (port kind : Nat) : Quiet s (ptpSend s port kind) := by
  unfold ptpSend; simp

@[simp] theorem ptpFromPps_leaves (s : State) : Still s (ptpFromPps s) ∧ Sound s (ptpFromPps s) := by
  unfold ptpFromPps; simp

@[simp] theorem clpDiscard_leaves (s : State) : Quiet s (clpDiscard s) := by
  unfold clpDiscard; simp

theorem clpForeign_leaves {s t : State} {h : ClpHdr} (e : clpForeign s h = some t) : Quiet s t := by
  unfold clpForeign at e
  (repeat' split at e) <;> cases e <;> simp

/-- What the header checks, the release of a member and its own effect leave, a message of the fabric leaves. -/
theorem clpIn_view {α : Type} (g : State → α) (hforeign : ∀ s t h, clpForeign s h = some t → g t = g s)
    (hat : ∀ s t, g (atTime s t) = g s) (hfab : ∀ s f, g (fabSet s f) = g s) (hleave : ∀ s, g (leaveFabric s) = g s)
    (hsend : ∀ s k d l, g (sendClp s k d l) = g s) (hemit : ∀ s o, g (emit s o) = g s) (s : State) (h : ClpHdr) (kind : Nat)
    (i : Option Instr) (old : Bool) {k : State → State} (a : List Nat) (hk : ∀ s, g (k s) = g s) :
    g (clpIn s h kind i old k a) = g s := by
  have hack : ∀ s, g (clpAck s h kind a) = g s := fun s => by
    unfold clpAck
    split
    · exact hemit _ _
    · rfl
  unfold clpIn
  dsimp only
  split
  · next hf => rw [hforeign _ _ _ hf, hat]
  · (repeat' split) <;> simp only [hack, hk, hleave, hfab, hsend, hat, rxMark, clpDiscard]

@[simp] theorem clpIn_round (s : State) (h : ClpHdr) (kind : Nat) (i : Option Instr) (old : Bool) (k : State → State)
    (a : List Nat) (hk : ∀ s, (k s).round = s.round) : (clpIn s h kind i old k a).round = s.round :=
  clpIn_view State.round (fun _ _ _ h => by simp [clpForeign_leaves h]) (by simp) (by simp) (by simp) (by simp) (by simp)
    s h kind i old a hk
@[simp] theorem clpIn_dmaCycle (s : State) (h : ClpHdr) (kind : Nat) (i : Option Instr) (old : Bool) (k : State → State)
    (a : List Nat) (hk : ∀ s, (k s).dmaCycle = s.dmaCycle) : (clpIn s h kind i old k a).dmaCycle = s.dmaCycle :=
  clpIn_view State.dmaCycle (fun _ _ _ h => by simp [clpForeign_leaves h]) (by simp) (by simp) (by simp) (by simp) (by simp)
    s h kind i old a hk
@[simp] theorem clpIn_slotGen (s : State) (h : ClpHdr) (kind : Nat) (i : Option Instr) (old : Bool) (k : State → State)
    (a : List Nat) (hk : ∀ s, (k s).slotGen = s.slotGen) : (clpIn s h kind i old k a).slotGen = s.slotGen :=
  clpIn_view State.slotGen (fun _ _ _ h => by simp [clpForeign_leaves h]) (by simp) (by simp) (by simp) (by simp) (by simp)
    s h kind i old a hk
@[simp] theorem clpIn_degraded (s : State) (h : ClpHdr) (kind : Nat) (i : Option Instr) (old : Bool) (k : State → State)
    (a : List Nat) (hk : ∀ s, (k s).degraded = s.degraded) : (clpIn s h kind i old k a).degraded = s.degraded :=
  clpIn_view State.degraded (fun _ _ _ h => by simp [clpForeign_leaves h]) (by simp) (by simp) (by simp) (by simp) (by simp)
    s h kind i old a hk
@[simp] theorem clpIn_larder (s : State) (h : ClpHdr) (kind : Nat) (i : Option Instr) (old : Bool) (k : State → State)
    (a : List Nat) (hk : ∀ s, (k s).larder = s.larder) : (clpIn s h kind i old k a).larder = s.larder :=
  clpIn_view State.larder (fun _ _ _ h => by simp [clpForeign_leaves h]) (by simp) (by simp) (by simp) (by simp) (by simp)
    s h kind i old a hk
@[simp] theorem clpIn_foreman (s : State) (h : ClpHdr) (kind : Nat) (i : Option Instr) (old : Bool) (k : State → State)
    (a : List Nat) (hk : ∀ s, (k s).foreman = s.foreman) : (clpIn s h kind i old k a).foreman = s.foreman :=
  clpIn_view State.foreman (fun _ _ _ h => by simp [clpForeign_leaves h]) (by simp) (by simp) (by simp) (by simp) (by simp)
    s h kind i old a hk

@[simp] theorem logFabric_leaves (s : State) : Still s (logFabric s) ∧ Sound s (logFabric s) := by
  unfold logFabric; simp

@[simp] theorem quarantine_leaves (s : State) : Still s (quarantine s) ∧ (quarantine s).degraded = s.degraded := by
  unfold quarantine; simp

@[simp] theorem sendRenew_leaves (s : State) (dst : Nat) : Quiet s (sendRenew s dst) := by
  unfold sendRenew; simp

@[simp] theorem reassign_leaves (s : State) (x : Session) (region role : Nat) (not_ : List Nat) :
    Quiet s (reassign s x region role not_) := by
  unfold reassign
  split <;> simp

@[simp] theorem sendPromote_leaves (s : State) (x : Session) (region dst : Nat) : Quiet s (sendPromote s x region dst) := by
  unfold sendPromote; simp

@[simp] theorem promote_leaves (s : State) (id session region lost : Nat) :
    Still s (promote s id session region lost) ∧ (promote s id session region lost).larder = s.larder := by
  unfold promote
  (repeat' split) <;> simp

@[simp] theorem loseRole_leaves (s : State) (lost : Nat) (r : Nat × Nat × Nat) :
    Still s (loseRole s lost r) ∧ (loseRole s lost r).larder = s.larder := by
  unfold loseRole
  (repeat' split) <;> simp

@[simp] theorem loseMember_leaves (s : State) (m reason : Nat) (tell : Bool) :
    Still s (loseMember s m reason tell) ∧ (loseMember s m reason tell).larder = s.larder := by
  unfold loseMember
  split <;> simp

@[simp] theorem moveRoles_leaves (s : State) (m : Nat) (p : Nat → Bool) :
    Still s (moveRoles s m p) ∧ (moveRoles s m p).larder = s.larder := by
  unfold moveRoles
  (repeat' split) <;> simp (disch := (intros; (repeat' split) <;> simp; done))

@[simp] theorem renewIn_leaves (s : State) (h : ClpHdr) (status unreachable : Nat) (offset : Int) (gm : Nat) :
    Still s (renewIn s h status unreachable offset gm) ∧ (renewIn s h status unreachable offset gm).larder = s.larder := by
  unfold renewIn; simp

@[simp] theorem leaseRenewIn_leaves (h : ClpHdr) (status unreachable : Nat) (offset : Int) (gm : Nat) (s : State) :
    Still s (leaseRenewIn h status unreachable offset gm s) ∧
      (leaseRenewIn h status unreachable offset gm s).larder = s.larder := by
  unfold leaseRenewIn
  simp

@[simp] theorem sendHello_leaves (s : State) : Quiet s (sendHello s) := by
  unfold sendHello; simp

@[simp] theorem sendJoin_leaves (s : State) : Quiet s (sendJoin s) := by
  unfold sendJoin; simp

@[simp] theorem helloRole_leaves (s : State) (standby : Nat) :
    Still s (helloRole s standby) ∧ (helloRole s standby).degraded = s.degraded ∧
      (helloRole s standby).clusters = s.clusters ∧ (helloRole s standby).larder = s.larder ∧
      (helloRole s standby).foreman = s.foreman := by
  unfold helloRole; simp

@[simp] theorem leaveQuarantine_leaves (s : State) :
    Still s (leaveQuarantine s) ∧ (leaveQuarantine s).degraded = s.degraded ∧ (leaveQuarantine s).clusters = s.clusters ∧
      (leaveQuarantine s).larder = s.larder ∧ (leaveQuarantine s).foreman = s.foreman := by
  unfold leaveQuarantine; simp

@[simp] theorem helloMember_leaves (s : State) (h : ClpHdr) (standby current next : Nat) :
    Still s (helloMember s h standby current next) ∧ (helloMember s h standby current next).degraded = s.degraded ∧
      (helloMember s h standby current next).clusters = s.clusters ∧ (helloMember s h standby current next).larder = s.larder ∧
      (helloMember s h standby current next).foreman = s.foreman := by
  unfold helloMember; simp

@[simp] theorem helloIn_leaves (h : ClpHdr) (standby current next : Nat) (s : State) :
    Still s (helloIn h standby current next s) ∧ (helloIn h standby current next s).degraded = s.degraded ∧
      (helloIn h standby current next s).larder = s.larder ∧ (helloIn h standby current next s).foreman = s.foreman := by
  unfold helloIn
  dsimp only
  split
  · next hforeign => simp [clpForeign_leaves hforeign]
  · (repeat' split) <;> simp

@[simp] theorem takeOver_leaves (s : State) :
    Still s (takeOver s) ∧ (takeOver s).degraded = s.degraded ∧ (takeOver s).clusters = s.clusters ∧
      (takeOver s).larder = s.larder ∧ (takeOver s).foreman = s.foreman := by
  unfold takeOver; simp

@[simp] theorem answerJoin_leaves (s : State) (h : ClpHdr) (serial version fw : Nat) (headless qual : Bool) :
    Quiet s (answerJoin s h serial version fw headless qual) := by
  unfold answerJoin; simp

@[simp] theorem endJoin_leaves (s : State) (a : Reply) :
    Still s (endJoin s a) ∧ Sound s (endJoin s a) ∧ (endJoin s a).foreman = s.foreman := by
  unfold endJoin
  split <;> simp

@[simp] theorem becomeMember_leaves (s : State) (h : ClpHdr) (sentAt result role m leaseMs configHash : Nat) :
    Still s (becomeMember s h sentAt result role m leaseMs configHash) ∧
      (becomeMember s h sentAt result role m leaseMs configHash).degraded = s.degraded ∧
      (becomeMember s h sentAt result role m leaseMs configHash).clusters = s.clusters ∧
      (becomeMember s h sentAt result role m leaseMs configHash).larder = s.larder ∧
      (becomeMember s h sentAt result role m leaseMs configHash).foreman = s.foreman := by
  unfold becomeMember; simp

@[simp] theorem startJoin_leaves (s : State) (id : Nat) (group : Bytes) (r : Option CmdRef) :
    Quiet s (startJoin s id group r) := by
  unfold startJoin; simp

@[simp] theorem timeCheckIn_leaves (h : ClpHdr) (managerPtp gm domain limit : Nat) (s : State) :
    Still s (timeCheckIn h managerPtp gm domain limit s) ∧
      (timeCheckIn h managerPtp gm domain limit s).degraded = s.degraded ∧
      (timeCheckIn h managerPtp gm domain limit s).larder = s.larder ∧
      (timeCheckIn h managerPtp gm domain limit s).foreman = s.foreman := by
  unfold timeCheckIn
  simp

@[simp] theorem giveUp_leaves (s : State) (u : Unacked) : Still s (giveUp s u) ∧ (giveUp s u).larder = s.larder := by
  unfold giveUp; simp

@[simp] theorem abortMember_leaves (s : State) (m : Nat) (p : EpochChange) :
    Still s (abortMember s m p) ∧ (abortMember s m p).larder = s.larder := by
  unfold abortMember
  split <;> simp

@[simp] theorem epochNak_leaves (s : State) (m : Nat) (p : EpochChange) :
    Still s (epochNak s m p) ∧ (epochNak s m p).larder = s.larder := by
  unfold epochNak
  (repeat' split) <;> simp (disch := (intros; (repeat' split) <;> simp; done))

@[simp] theorem ackIn_leaves (s : State) (u : Unacked) (nak : Bool) (leaseMs : Nat) :
    Still s (ackIn s u nak leaseMs) ∧ (ackIn s u nak leaseMs).larder = s.larder := by
  unfold ackIn
  (repeat' split) <;> simp

@[simp] theorem settleDrain_leaves (s : State) :
    Still s (settleDrain s) ∧ Sound s (settleDrain s) ∧ (settleDrain s).foreman = s.foreman := by
  unfold settleDrain
  split <;> simp

@[simp] theorem drainRole_leaves (s : State) (m : Nat) (r : Nat × Nat × Nat) :
    Still s (drainRole s m r) ∧ (drainRole s m r).larder = s.larder := by
  unfold drainRole
  split <;> simp

@[simp] theorem settleVersion_leaves (s : State) : Quiet s (settleVersion s) := by
  unfold settleVersion; simp

@[simp] theorem moveVersion_leaves (s : State) (x : Session) (v frame : Nat) (plan : List (Nat × Nat × Nat)) :
    Quiet s (moveVersion s x v frame plan) := by
  unfold moveVersion; simp

@[simp] theorem sinkFault_leaves (s : State) (x : Session) : Still s (sinkFault s x) ∧ (sinkFault s x).larder = s.larder := by
  unfold sinkFault
  dsimp only
  (repeat' split) <;> simp

@[simp] theorem putPacket_leaves (s : State) (x : Session) (kind : Nat) (b : Bytes) : Quiet s (putPacket s x kind b).1 := by
  unfold putPacket
  split <;> simp

@[simp] theorem sendRtp_leaves (s : State) (x : Session) (time : Nat) (payload : Bytes) (marker : Bool) :
    Quiet s (sendRtp s x time payload marker).1 := by
  unfold sendRtp; simp

@[simp] theorem holdPayload_leaves (s : State) (x : Session) (time : Nat) (p : Bytes) :
    Quiet s (holdPayload s x time p).1 := by
  unfold holdPayload
  dsimp only
  (repeat' split) <;> simp

@[simp] theorem closeAggregate_leaves (s : State) (x : Session) (time : Nat) : Quiet s (closeAggregate s x time).1 := by
  unfold closeAggregate
  split <;> simp

@[simp] theorem sendFragments_leaves (n : Nat) (s : State) (x : Session) (time : Nat) :
    Quiet s (sendFragments n s x time).1 := by
  induction n generalizing s x <;> unfold sendFragments <;> dsimp only <;> (repeat' split) <;> simp [*]

@[simp] theorem toRtp_leaves (s : State) (x : Session) (time : Nat) (b : Bytes) (last : Bool) :
    Quiet s (toRtp s x time b last).1 := by
  unfold toRtp
  dsimp only
  (repeat' split) <;> simp

@[simp] theorem sendDatagram_leaves (s : State) (x : Session) (all : Bool) : Quiet s (sendDatagram s x all).1 := by
  unfold sendDatagram
  dsimp only
  (repeat' split) <;> simp

@[simp] theorem putTs_leaves (s : State) (x : Session) (pid : Nat) (start : Bool) (p : Bytes) :
    Quiet s (putTs s x pid start p).1 := by
  unfold putTs; simp

@[simp] theorem putPcr_leaves (s : State) (x : Session) (number : Nat) : Quiet s (putPcr s x number).1 := by
  unfold putPcr
  dsimp only
  (repeat' split) <;> simp

@[simp] theorem putPsi_leaves (s : State) (x : Session) (number : Nat) : Quiet s (putPsi s x number).1 := by
  unfold putPsi; simp

@[simp] theorem drainPes_leaves (n : Nat) (s : State) (x : Session) : Quiet s (drainPes n s x).1 := by
  induction n generalizing s x <;> unfold drainPes <;> dsimp only <;> (repeat' split) <;> simp [*]

@[simp] theorem toTs_leaves (s : State) (x : Session) (b : Bytes) : Quiet s (toTs s x b).1 := by
  unfold toTs; simp

@[simp] theorem sendPiece_leaves (s : State) (x : Session) (time : Nat) (b : Bytes) (first last : Bool) :
    Quiet s (sendPiece s x time b first last).1 := by
  unfold sendPiece
  (repeat' split) <;> simp

@[simp] theorem sendUnits_leaves (s : State) (x : Session) (time : Nat) (l : List Bytes) :
    Quiet s (sendUnits s x time l).1 := by
  unfold sendUnits
  simp (disch := (intros; (repeat' split) <;> simp; done))

@[simp] theorem openUnit_leaves (s : State) (x : Session) (f : EncFrame) : Quiet s (openUnit s x f).1 := by
  unfold openUnit
  dsimp only
  (repeat' split) <;> simp

@[simp] theorem closeUnit_leaves (s : State) (x : Session) (time : Nat) (ends : Bool) :
    Quiet s (closeUnit s x time ends).1 := by
  unfold closeUnit
  dsimp only
  (repeat' split) <;> simp

@[simp] theorem endSequence_leaves (s : State) (x : Session) : Quiet s (endSequence s x).1 := by
  unfold endSequence
  (repeat' split) <;> simp

@[simp] theorem takeRow_leaves (s : State) (x : Session) (f : EncFrame) (i : Nat) (r : RowRec) :
    Quiet s (takeRow s x f i r).2 := by
  unfold takeRow; simp

@[simp] theorem sendRow_leaves (s : State) (x : Session) (f : EncFrame) (time : Nat) (sizes : List Nat)
    (q : Nat × Nat × Nat × Bytes) :
    Quiet s (sendRow s x f time sizes q).1 := by
  unfold sendRow; simp

@[simp] theorem finishFrame_leaves (s : State) (x : Session) (f : EncFrame) (time : Nat) :
    Quiet s (finishFrame s x f time).1 := by
  unfold finishFrame
  dsimp only
  (repeat' split) <;> simp

@[simp] theorem sendWhole_leaves (s : State) (y : Session) (f : EncFrame) (time : Nat) (rows : List
    (Nat × Nat × Nat × Bytes)) :
    Quiet s (sendWhole s y f time rows).1 := by
  unfold sendWhole; simp

@[simp] theorem openGroup_leaves (s : State) (y : Session) (f : EncFrame) (time : Nat) (head : Bool) :
    Quiet s (openGroup s y f time head).1 := by
  unfold openGroup; split <;> simp

theorem takeRows_leaves (s : State) (x : Session) (f : EncFrame) (l : List (Nat × Nat × Nat)) :
    Quiet s (takeRows s x f l).2.1 := by
  induction l generalizing s x f with
  | nil => simp [takeRows]
  | cons p l ih => unfold takeRows; split <;> simp [ih]

@[simp] theorem releaseGroup_leaves (s : State) (x : Session) (f : EncFrame) (g : List (Nat × Nat × Nat)) (head tail : Bool) :
    Quiet s (releaseGroup s x f g head tail) := by
  have hr := takeRows_leaves s x f g
  unfold releaseGroup
  dsimp only
  generalize takeRows s x f g = q at hr ⊢
  obtain ⟨rows, s1, f1, x1⟩ := q
  dsimp only at hr ⊢
  (repeat' split) <;> simp [hr]

@[simp] theorem transferSlice_leaves (s : State) (x : Session) (f : EncFrame) (slice region : Nat) (b : Bytes) :
    Quiet s (transferSlice s x f slice region b) := by
  unfold transferSlice; simp

@[simp] theorem settleSlices_leaves (n : Nat) (s : State) (id number : Nat) : Quiet s (settleSlices n s id number) := by
  induction n generalizing s <;> unfold settleSlices <;> (repeat' split) <;> simp [*]

@[simp] theorem releaseNext_leaves (s : State) (x : Session) : Quiet s (releaseNext s x) := by
  unfold releaseNext
  dsimp only
  (repeat' split) <;> simp

@[simp] theorem checkSink_leaves (s : State) (id : Nat) : Still s (checkSink s id) ∧ (checkSink s id).larder = s.larder := by
  unfold checkSink
  split <;> simp

@[simp] theorem distEdit_leaves (s : State) (session : Nat) (f : DistState → DistState) : Quiet s (distEdit s session f) := by
  unfold distEdit
  split <;> simp

@[simp] theorem dropOwnRole_leaves (s : State) (x : Session) (region : Nat) :
    Still s (dropOwnRole s x region) ∧ (dropOwnRole s x region).degraded = s.degraded ∧
      (dropOwnRole s x region).canary = s.canary ∧ (dropOwnRole s x region).foreman = s.foreman := by
  unfold dropOwnRole; simp

theorem newPlaced_leaves {s : State} {session role region : Nat} {c : Bytes} {p : State × Session}
    (h : newPlaced s session role region c = some p) :
    p.1.round = s.round ∧ p.1.dmaCycle = s.dmaCycle ∧ p.1.degraded = s.degraded ∧ p.1.clusters = s.clusters ∧
      p.1.canary = s.canary ∧ p.1.foreman = s.foreman := by
  unfold newPlaced at h
  dsimp only at h
  (repeat' split at h) <;> cases h
  simp

@[simp] theorem assignOwn_leaves (s : State) (session role region start : Nat) (c : Bytes) :
    (assignOwn s session role region start c).round = s.round ∧ (assignOwn s session role region start c).dmaCycle = s.dmaCycle ∧
      (assignOwn s session role region start c).degraded = s.degraded ∧
      (assignOwn s session role region start c).canary = s.canary ∧
      (assignOwn s session role region start c).foreman = s.foreman := by
  unfold assignOwn
  dsimp only
  split
  · (repeat' split) <;> simp
  · split
    · simp
    · split
      · next hnew =>
        have hplaced := newPlaced_leaves hnew
        dsimp only at hplaced
        simp [hplaced]
      · simp

@[simp] theorem assignCopy_leaves (s : State) (m session role region : Nat) :
    Quiet s (assignCopy s m session role region) := by
  unfold assignCopy; simp

@[simp] theorem assignIn_leaves (h : ClpHdr) (session role region fromFrame : Nat) (config : Bytes) (s : State) :
    (assignIn h session role region fromFrame config s).round = s.round ∧
      (assignIn h session role region fromFrame config s).dmaCycle = s.dmaCycle ∧
      (assignIn h session role region fromFrame config s).degraded = s.degraded ∧
      (assignIn h session role region fromFrame config s).foreman = s.foreman := by
  unfold assignIn
  simp

@[simp] theorem expelFrom_leaves (s : State) (m session : Nat) :
    Still s (expelFrom s m session) ∧ (expelFrom s m session).larder = s.larder := by
  unfold expelFrom
  dsimp only
  (repeat' split) <;> simp

@[simp] theorem ledgerIn_leaves (h : ClpHdr) (session form frame budgetCrc_ : Nat) (snapshot : List (Nat × UnitStats))
    (s : State) :
    Still s (ledgerIn h session form frame budgetCrc_ snapshot s) ∧
      (ledgerIn h session form frame budgetCrc_ snapshot s).larder = s.larder := by
  unfold ledgerIn
  simp (disch := (intros; (repeat' split) <;> simp; done))

@[simp] theorem loseDivergence_leaves (s : State) (m : Nat) :
    Still s (loseDivergence s m) ∧ (loseDivergence s m).larder = s.larder := by
  unfold loseDivergence; simp

@[simp] theorem noMajority_leaves (s : State) (x : Session) (d : Divergence) :
    Still s (noMajority s x d) ∧ (noMajority s x d).larder = s.larder := by
  unfold noMajority; simp

@[simp] theorem dropDivergence_leaves (s : State) (session frame unit : Nat) :
    Quiet s (dropDivergence s session frame unit) := by
  unfold dropDivergence; simp

@[simp] theorem diverge_leaves (s : State) (x : Session) (frame unit : Nat) (a b : Nat × Option UnitStats) :
    Still s (diverge s x frame unit a b) ∧ (diverge s x frame unit a b).larder = s.larder := by
  unfold diverge
  dsimp only
  (repeat' split) <;> simp

@[simp] theorem decideReferee_leaves (s : State) (x : Session) (d : Divergence) (u : UnitStats) :
    Still s (decideReferee s x d u) ∧ (decideReferee s x d u).larder = s.larder := by
  unfold decideReferee
  split <;> simp

@[simp] theorem refereeIn_leaves (h : ClpHdr) (session frame unit : Nat) (crcs : List (Nat × Nat)) (u : UnitStats)
    (s : State) :
    Still s (refereeIn h session frame unit crcs u s) ∧ (refereeIn h session frame unit crcs u s).larder = s.larder := by
  unfold refereeIn
  simp (disch := (intros; (repeat' split) <;> simp; done))

@[simp] theorem takeStats_leaves (s : State) (x : Session) (from_ frame unit : Nat) (u : UnitStats) :
    Still s (takeStats s x from_ frame unit u) ∧ (takeStats s x from_ frame unit u).larder = s.larder := by
  unfold takeStats
  dsimp only
  (repeat' split) <;> simp

@[simp] theorem answerStats_leaves (s : State) (x : Session) (dst frame unit : Nat) :
    Quiet s (answerStats s x dst frame unit) := by
  unfold answerStats
  split <;> simp

@[simp] theorem drainStats_leaves (s : State) (x : Session) (from_ frame unit : Nat) :
    Still s (drainStats s x from_ frame unit) ∧ (drainStats s x from_ frame unit).larder = s.larder := by
  unfold drainStats
  split <;> simp

@[simp] theorem statsIn_leaves (h : ClpHdr) (session frame unit : Nat) (u : UnitStats) (s : State) :
    Still s (statsIn h session frame unit u s) ∧ (statsIn h session frame unit u s).larder = s.larder := by
  unfold statsIn
  simp (disch := (intros; (repeat' split) <;> simp; done))

@[simp] theorem commitIn_leaves (h : ClpHdr) (session frame received released : Nat) (s : State) :
    Still s (commitIn h session frame received released s) ∧
      (commitIn h session frame received released s).degraded = s.degraded ∧
      (commitIn h session frame received released s).larder = s.larder ∧
      (commitIn h session frame received released s).foreman = s.foreman := by
  unfold commitIn
  simp (disch := (intros; (repeat' split) <;> simp; done))

@[simp] theorem seamCheckTake_leaves (s : State) (x : Session) (from_ frame slice crc : Nat) (refCrc : Option Nat) :
    Still s (seamCheckTake s x from_ frame slice crc refCrc) ∧
      (seamCheckTake s x from_ frame slice crc refCrc).larder = s.larder := by
  unfold seamCheckTake
  dsimp only
  (repeat' split) <;> simp

@[simp] theorem seamCheckIn_leaves (h : ClpHdr) (session frame slice crc : Nat) (refCrc : Option Nat) (s : State) :
    Still s (seamCheckIn h session frame slice crc refCrc s) ∧
      (seamCheckIn h session frame slice crc refCrc s).larder = s.larder := by
  unfold seamCheckIn
  simp (disch := (intros; (repeat' split) <;> simp; done))

@[simp] theorem sendCommit_leaves (s : State) (x : Session) (frame : Nat) : Quiet s (sendCommit s x frame) := by
  unfold sendCommit
  split <;> simp

@[simp] theorem takeFragment_leaves (s : State) (x : Session) (f : SliceFrag) : Quiet s (takeFragment s x f) := by
  unfold takeFragment
  dsimp only
  (repeat' split) <;> simp

@[simp] theorem resendSlice_leaves (s : State) (x : Session) (f : EncFrame) (slice : Nat) :
    Quiet s (resendSlice s x f slice) := by
  unfold resendSlice
  split <;> simp

@[simp] theorem haloIn_leaves (h : ClpHdr) (session frame band : Nat) (data : Bytes) (s : State) :
    Still s (haloIn h session frame band data s) ∧ (haloIn h session frame band data s).degraded = s.degraded ∧
      (haloIn h session frame band data s).larder = s.larder ∧ (haloIn h session frame band data s).foreman = s.foreman := by
  unfold haloIn
  simp (disch := (intros; (repeat' split) <;> simp; done))

@[simp] theorem seamIn_leaves (h : ClpHdr) (session frame band : Nat) (data : Bytes) (s : State) :
    Still s (seamIn h session frame band data s) ∧ (seamIn h session frame band data s).degraded = s.degraded ∧
      (seamIn h session frame band data s).larder = s.larder ∧ (seamIn h session frame band data s).foreman = s.foreman := by
  unfold seamIn
  simp (disch := (intros; (repeat' split) <;> simp; done))

@[simp] theorem stopRoles_leaves (s : State) (session : Nat) :
    Still s (stopRoles s session) ∧ (stopRoles s session).degraded = s.degraded ∧ (stopRoles s session).canary = s.canary ∧
      (stopRoles s session).larder = s.larder ∧ (stopRoles s session).foreman = s.foreman ∧
      (stopRoles s session).fns = s.fns := by
  unfold stopRoles; simp

@[simp] theorem fencedSelf_leaves (s : State) (reason session : Nat) : Still s (fencedSelf s reason session) := by
  unfold fencedSelf
  split <;> simp

@[simp] theorem fencedOther_leaves (s : State) (m session : Nat) :
    Still s (fencedOther s m session) ∧ (fencedOther s m session).larder = s.larder := by
  unfold fencedOther
  (repeat' split) <;> simp (disch := (intros; (repeat' split) <;> simp; done))

@[simp] theorem fenceIn_leaves (h : ClpHdr) (member reason session : Nat) (s : State) :
    Still s (fenceIn h member reason session s) := by
  unfold fenceIn
  simp

@[simp] theorem sendHeld_leaves (s : State) (x : Session) (region frame first : Nat) :
    Quiet s (sendHeld s x region frame first) := by
  unfold sendHeld; simp

@[simp] theorem sendRetained_leaves (s : State) (x : Session) : Quiet s (sendRetained s x) := by
  unfold sendRetained; simp

@[simp] theorem promoteHere_leaves (s : State) (x : Session) (region newMember frame firstSlice : Nat) :
    Quiet s (promoteHere s x region newMember frame firstSlice) := by
  unfold promoteHere; simp

@[simp] theorem promoteIn_leaves (h : ClpHdr) (session region newMember frame firstSlice : Nat) (s : State) :
    Still s (promoteIn h session region newMember frame firstSlice s) ∧
      (promoteIn h session region newMember frame firstSlice s).degraded = s.degraded ∧
      (promoteIn h session region newMember frame firstSlice s).larder = s.larder ∧
      (promoteIn h session region newMember frame firstSlice s).foreman = s.foreman := by
  unfold promoteIn
  simp (disch := (intros; (repeat' split) <;> simp; done))

@[simp] theorem runHeld_leaves (s : State) (i : Instr) :
    (runHeld s i).round = s.round ∧ (runHeld s i).dmaCycle = s.dmaCycle := by
  unfold runHeld
  split <;> simp

@[simp] theorem replayHeld_leaves (s : State) : (replayHeld s).round = s.round ∧ (replayHeld s).dmaCycle = s.dmaCycle := by
  unfold replayHeld; simp

@[simp] theorem epochPhase_leaves (s : State) (phase epoch hash version : Nat) (changes : List (Nat × Nat)) :
    (epochPhase s phase epoch hash version changes).round = s.round ∧
      (epochPhase s phase epoch hash version changes).dmaCycle = s.dmaCycle := by
  unfold epochPhase
  split <;> simp

@[simp] theorem epochAgain_leaves (s : State) (m : Nat) : Quiet s (epochAgain s m) := by
  unfold epochAgain
  split <;> simp

@[simp] theorem releaseDecoders_leaves (s : State) (id pic : Nat) : Quiet s (releaseDecoders s id pic) := by
  unfold releaseDecoders; simp

theorem consumeInput_leaves (n : Nat) (s : State) (fn before consumed : Nat) (l : List (Nat × Nat × Nat)) :
    Still s (consumeInput n s fn before consumed l).1 ∧ Sound s (consumeInput n s fn before consumed l).1 ∧
      (consumeInput n s fn before consumed l).1.foreman = s.foreman := by
  induction l generalizing n s before with
  | nil => unfold consumeInput; simp
  | cons p l ih =>
    unfold consumeInput
    (repeat' split) <;> simp [ih]

@[simp] theorem endDecode_leaves (s : State) (x : Session) (p : DecPicture) (bits consumed : Nat) (hashBad : Bool) :
    Still s (endDecode s x p bits consumed hashBad) ∧ (endDecode s x p bits consumed hashBad).degraded = s.degraded ∧
      (endDecode s x p bits consumed hashBad).canary = s.canary ∧ (endDecode s x p bits consumed hashBad).larder = s.larder ∧
      (endDecode s x p bits consumed hashBad).foreman = s.foreman := by
  have h := consumeInput_leaves 4096 s x.fn (pendingStart x) (min x.dec.stream (max x.dec.consumed consumed)) x.dec.pendingIn
  unfold endDecode
  dsimp only
  split <;> simp [h]

@[simp] theorem refreshWanted_leaves (s : State) (x : Session) (p : DecPicture) :
    Still s (refreshWanted s x p).1 ∧ Sound s (refreshWanted s x p).1 := by
  unfold refreshWanted
  dsimp only
  (repeat' split) <;> simp

@[simp] theorem closeSending_leaves (s : State) (port : Nat) :
    Still s (closeSending s port) ∧ (closeSending s port).degraded = s.degraded ∧ (closeSending s port).canary = s.canary ∧
      (closeSending s port).larder = s.larder := by
  unfold closeSending
  split <;> simp

@[simp] theorem startOutput_leaves (s : State) (x0 : Session) (p0 : DecPicture) :
    Still s (startOutput s x0 p0) ∧ (startOutput s x0 p0).degraded = s.degraded ∧ (startOutput s x0 p0).canary = s.canary ∧
      (startOutput s x0 p0).larder = s.larder := by
  unfold startOutput; simp

@[simp] theorem settleDegraded_leaves (s : State) :
    Still s (settleDegraded s) ∧ (settleDegraded s).clusters = s.clusters ∧ (settleDegraded s).canary = s.canary ∧
      (settleDegraded s).larder = s.larder ∧ (settleDegraded s).foreman = s.foreman := by
  unfold settleDegraded; simp

@[simp] theorem hardFault_leaves (s : State) (bit : Nat) :
    Still s (hardFault s bit) ∧ (hardFault s bit).degraded = s.degraded ∧ (hardFault s bit).clusters = s.clusters ∧
      (hardFault s bit).larder = s.larder ∧ (hardFault s bit).foreman = s.foreman ∧ (hardFault s bit).fns = s.fns := by
  unfold hardFault; simp

@[simp] theorem gateEgress_leaves (s : State) :
    Still s (gateEgress s) ∧ (gateEgress s).degraded = s.degraded ∧ (gateEgress s).clusters = s.clusters ∧
      (gateEgress s).larder = s.larder ∧ (gateEgress s).foreman = s.foreman ∧ (gateEgress s).fns = s.fns := by
  unfold gateEgress; simp

@[simp] theorem securityFault_leaves (s : State) : Still s (securityFault s) ∧ (securityFault s).larder = s.larder := by
  unfold securityFault; simp

@[simp] theorem enterSecError_leaves (s : State) (mask : BitVec 16) : Still s (enterSecError s mask) := by
  unfold enterSecError; simp

@[simp] theorem reactTo_leaves (s : State) (src : FaultSrc) (ev : ErrEvent) (addr : Nat) :
    Still s (reactTo s src ev addr) := by
  unfold reactTo
  (repeat' split) <;> simp

@[simp] theorem corePort_leaves (s : State) (c cls addr : Nat) : Still s (corePort s c cls addr) := by
  unfold corePort; simp

@[simp] theorem blockPort_leaves (s : State) (src : FaultSrc) (ev : ErrEvent) (cls addr : Nat) :
    Still s (blockPort s src ev cls addr) := by
  unfold blockPort
  dsimp only
  (repeat' split) <;> simp

@[simp] theorem reassignUnit_leaves (s : State) (b : BandCmd) (dst start : Nat) :
    Still s (reassignUnit s b dst start) ∧ (reassignUnit s b dst start).larder = s.larder := by
  unfold reassignUnit
  split <;> simp

@[simp] theorem pushUnits_leaves (s : State) (l : List BandCmd) (dst start : Nat) :
    Still s (pushUnits s l dst start) ∧ (pushUnits s l dst start).larder = s.larder := by
  unfold pushUnits; simp

@[simp] theorem stripCore_leaves (s : State) (c : Nat) :
    Still s (stripCore s c) ∧ (stripCore s c).degraded = s.degraded ∧ (stripCore s c).canary = s.canary ∧
      (stripCore s c).larder = s.larder ∧ (stripCore s c).foreman = s.foreman ∧ (stripCore s c).fns = s.fns := by
  unfold stripCore; simp

@[simp] theorem handWork_leaves (s : State) (c dst : Nat) :
    Still s (handWork s c dst) ∧ (handWork s c dst).larder = s.larder := by
  unfold handWork; simp

@[simp] theorem cannotPlace_leaves (s : State) (c : Nat) : Still s (cannotPlace s c) := by
  unfold cannotPlace; simp

@[simp] theorem leaveSurvey_leaves (s : State) (k : Nat) :
    Still s (leaveSurvey s k) ∧ (leaveSurvey s k).larder = s.larder := by
  unfold leaveSurvey
  simp (disch := (intros; (repeat' split) <;> simp; done))

@[simp] theorem stopUnit_leaves (s : State) (u : FenceUnit) : Still s (stopUnit s u) ∧ (stopUnit s u).larder = s.larder := by
  unfold stopUnit
  split <;> simp

@[simp] theorem bistResult_leaves (s : State) (u : FenceUnit) (pass : Bool) :
    Still s (bistResult s u pass) ∧ Sound s (bistResult s u pass) := by
  unfold bistResult; simp

@[simp] theorem reloadCore_leaves (s : State) (c : Nat) : Quiet s (reloadCore s c) := by
  unfold reloadCore; simp

@[simp] theorem returnUnit_leaves (s : State) (u : FenceUnit) :
    Still s (returnUnit s u) ∧ (returnUnit s u).degraded = s.degraded ∧ (returnUnit s u).larder = s.larder ∧
      (returnUnit s u).foreman = s.foreman ∧ (returnUnit s u).fns = s.fns := by
  unfold returnUnit
  split <;> simp

@[simp] theorem settleUnit_leaves (failed : List FenceUnit) (s : State) (u : FenceUnit) :
    Still s (settleUnit failed s u) ∧ (settleUnit failed s u).degraded = s.degraded ∧
      (settleUnit failed s u).larder = s.larder := by
  unfold settleUnit; simp

@[simp] theorem authSet_leaves (s : State) (fn : Nat) (a : AuthState) :
    Still s (authSet s fn a) ∧ Sound s (authSet s fn a) ∧ (authSet s fn a).foreman = s.foreman := by
  unfold authSet; simp

@[simp] theorem endRole_leaves (s : State) (fn : Nat) :
    Still s (endRole s fn) ∧ Sound s (endRole s fn) ∧ (endRole s fn).foreman = s.foreman := by
  unfold endRole; simp

@[simp] theorem generate_leaves (s : State) : Quiet s (generate s) := by
  unfold generate; simp

@[simp] theorem answerResponse_leaves (s : State) (r : CmdRef) (e d : Bytes) :
    Still s (answerResponse s r e d) ∧ Sound s (answerResponse s r e d) ∧ (answerResponse s r e d).foreman = s.foreman := by
  unfold answerResponse; simp

@[simp] theorem deliverKey_leaves (s : State) (id : Nat) (key : Bytes) : Quiet s (deliverKey s id key) := by
  unfold deliverKey; simp

@[simp] theorem storeKey_leaves (s : State) (r : CmdRef) (d key : Bytes) :
    Still s (storeKey s r d key) ∧ Sound s (storeKey s r d key) ∧ (storeKey s r d key).foreman = s.foreman := by
  unfold storeKey; simp

@[simp] theorem endRolesOf_leaves (s : State) (id : Nat) :
    Still s (endRolesOf s id) ∧ Sound s (endRolesOf s id) ∧ (endRolesOf s id).foreman = s.foreman := by
  unfold endRolesOf; simp

@[simp] theorem clearSecError_leaves (s : State) :
    Still s (clearSecError s) ∧ (clearSecError s).degraded = s.degraded ∧ (clearSecError s).clusters = s.clusters ∧
      (clearSecError s).canary = s.canary ∧ (clearSecError s).foreman = s.foreman := by
  unfold clearSecError; simp

@[simp] theorem activateRow_leaves (s : State) (p : Nat) (r : HbmPend) : Quiet s (activateRow s p r) := by
  unfold activateRow; simp

@[simp] theorem issueReq_leaves (s : State) (p : Nat) (r : HbmPend) : Quiet s (issueReq s p r) := by
  unfold issueReq; simp

@[simp] theorem serveRead_leaves (s : State) (p : Nat) : Quiet s (serveRead s p) := by
  unfold serveRead
  split <;> simp

@[simp] theorem serveWrite_leaves (s : State) (p : Nat) (f : HbmPend → Bool) : Quiet s (serveWrite s p f) := by
  unfold serveWrite
  split <;> simp

@[simp] theorem drainWrites_leaves (n : Nat) (s : State) (p stop : Nat) : Quiet s (drainWrites n s p stop) := by
  induction n generalizing s <;> unfold drainWrites <;> (repeat' split) <;> simp [*]

@[simp] theorem serveQueues_leaves (s : State) (p : Nat) : Quiet s (serveQueues s p) := by
  unfold serveQueues; simp

@[simp] theorem serveAll_leaves (s : State) (p : Nat) : Quiet s (serveAll s p) := by
  unfold serveAll; simp

@[simp] theorem touchStack_leaves (s : State) (k : Nat) : Quiet s (touchStack s k) := by
  unfold touchStack; simp

@[simp] theorem acceptReq_leaves (s : State) (q : HbmReq) : Quiet s (acceptReq s q) := by
  unfold acceptReq; simp

@[simp] theorem logFlash_leaves (s : State) (bit arg1 : Nat) :
    Still s (logFlash s bit arg1) ∧ Sound s (logFlash s bit arg1) := by
  unfold logFlash
  dsimp only
  (repeat' split) <;> simp

@[simp] theorem noteRow_leaves (s : State) (a : Nat) (hard : Bool) :
    Still s (noteRow s a hard) ∧ Sound s (noteRow s a hard) := by
  unfold noteRow; simp

@[simp] theorem correctedRead_leaves (s : State) (a : Nat) :
    Still s (correctedRead s a) ∧ (correctedRead s a).clusters = s.clusters ∧ (correctedRead s a).larder = s.larder := by
  unfold correctedRead; simp

@[simp] theorem failedRead_leaves (s : State) (a : Nat) (replaced : Bool) :
    Still s (failedRead s a replaced) ∧ (failedRead s a replaced).clusters = s.clusters ∧
      (failedRead s a replaced).larder = s.larder := by
  unfold failedRead; simp

@[simp] theorem settleRetrain_leaves (s : State) (pc : Nat) (ok : Bool) :
    Still s (settleRetrain s pc ok) ∧ (settleRetrain s pc ok).clusters = s.clusters ∧
      (settleRetrain s pc ok).larder = s.larder := by
  unfold settleRetrain; simp

@[simp] theorem sramError_leaves (s : State) (array index word : Nat) : Still s (sramError s array index word) := by
  unfold sramError
  dsimp only
  (repeat' split) <;> simp

@[simp] theorem slotPut_leaves (s : State) (n : Nat) (x : SlotState) :
    Still s (slotPut s n x) ∧ Sound s (slotPut s n x) ∧ (slotPut s n x).fns = s.fns := by
  unfold slotPut; simp

@[simp] theorem stageTo_leaves (s : State) (x : StageState) : Still s (stageTo s x) ∧ Sound s (stageTo s x) := by
  unfold stageTo; simp

@[simp] theorem openStaging_leaves (s : State) (owner len : Nat) :
    Still s (openStaging s owner len) ∧ Sound s (openStaging s owner len) := by
  unfold openStaging; simp

@[simp] theorem markVerified_leaves (s : State) (i : ImageFacts) :
    Still s (markVerified s i) ∧ Sound s (markVerified s i) := by
  unfold markVerified; simp

@[simp] theorem activateStaged_leaves (s : State) : Still s (activateStaged s) ∧ Sound s (activateStaged s) := by
  unfold activateStaged; simp

@[simp] theorem commitTrial_leaves (s : State) (raise : Bool) :
    Still s (commitTrial s raise) ∧ Sound s (commitTrial s raise) := by
  unfold commitTrial; simp

@[simp] theorem abortStaging_leaves (s : State) : Still s (abortStaging s) ∧ Sound s (abortStaging s) := by
  unfold abortStaging
  split <;> simp

@[simp] theorem answerSide_leaves (s : State) (fields : List Nat) : Quiet s (answerSide s fields) := by
  unfold answerSide; simp

@[simp] theorem freeWords_leaves (s : State) (n : Nat) : Quiet s (freeWords s n).2 := by
  unfold freeWords; simp

@[simp] theorem countCores_leaves (s : State) : Quiet s (countCores s) := by
  have hfree : ∀ {s l t}, freeWords s 4 = (l, t) → Quiet s t := fun {s l t} h => by
    have hquiet := freeWords_leaves s 4
    rwa [h] at hquiet
  unfold countCores
  exact quiet_foldl (fun s c => by split <;> next h => simpa using hfree h) _ s

@[simp] theorem runSweep_leaves (s : State) (sensors : List Int) :
    Still s (runSweep s sensors) ∧ (runSweep s sensors).degraded = s.degraded ∧ (runSweep s sensors).clusters = s.clusters ∧
      (runSweep s sensors).canary = s.canary := by
  unfold runSweep; simp

@[simp] theorem telemetryBytes_leaves (s : State) (fn mask : Nat) : Quiet s (telemetryBytes s fn mask).2 := by
  unfold telemetryBytes
  split <;> simp

@[simp] theorem advanceBlock_leaves (n : Nat) (s : State) (eraseOk : Bool) :
    Still s (advanceBlock n s eraseOk) ∧ Sound s (advanceBlock n s eraseOk) ∧ (advanceBlock n s eraseOk).fns = s.fns := by
  induction n generalizing s eraseOk with
  | zero => simp [advanceBlock]
  | succ k ih => unfold advanceBlock; dsimp only; split <;> simp [ih]

@[simp] theorem writeFlash_leaves (eraseOk : Bool) (s : State) (r : EventRec) :
    Still s (writeFlash eraseOk s r) ∧ Sound s (writeFlash eraseOk s r) ∧ (writeFlash eraseOk s r).fns = s.fns := by
  unfold writeFlash; simp

@[simp] theorem rotateCluster_leaves (s : State) (k : Nat) :
    Still s (rotateCluster s k) ∧ (rotateCluster s k).degraded = s.degraded ∧ (rotateCluster s k).canary = s.canary := by
  unfold rotateCluster
  split <;> simp

@[simp] theorem ptpSleep_leaves (s : State) : Quiet s (ptpSleep s) := by
  unfold ptpSleep; simp

@[simp] theorem gateArray_leaves (s : State) : Quiet s (gateArray s) := by
  unfold gateArray; simp

@[simp] theorem enterDormant_leaves (s : State) :
    Still s (enterDormant s) ∧ (enterDormant s).degraded = s.degraded ∧ (enterDormant s).clusters = s.clusters ∧
      (enterDormant s).larder = s.larder := by
  unfold enterDormant; simp

@[simp] theorem leaveSelfRefresh_leaves (s : State) : Quiet s (leaveSelfRefresh s) := by
  unfold leaveSelfRefresh; simp

@[simp] theorem loseEthPorts_leaves (s : State) : Still s (loseEthPorts s) ∧ (loseEthPorts s).clusters = s.clusters := by
  unfold loseEthPorts; simp

@[simp] theorem losePxPorts_leaves (s : State) : Still s (losePxPorts s) ∧ (losePxPorts s).clusters = s.clusters := by
  unfold losePxPorts; simp

@[simp] theorem losePcie_leaves (s : State) : Still s (losePcie s) ∧ (losePcie s).larder = s.larder := by
  unfold losePcie; simp

@[simp] theorem avsTransact_leaves (s : State) (mv : Nat) (acked : Bool) :
    Still s (avsTransact s mv acked) ∧ (avsTransact s mv acked).clusters = s.clusters ∧
      (avsTransact s mv acked).larder = s.larder := by
  unfold avsTransact; simp

@[simp] theorem endStretch_leaves (s : State) (since : Nat) :
    Still s (endStretch s since) ∧ (endStretch s since).clusters = s.clusters ∧ (endStretch s since).canary = s.canary := by
  unfold endStretch; simp

@[simp] theorem tapMaintenance_leaves (s : State) (code : BitVec 8) :
    Still s (tapMaintenance s code) ∧ (tapMaintenance s code).degraded = s.degraded ∧
      (tapMaintenance s code).larder = s.larder ∧ (tapMaintenance s code).foreman = s.foreman := by
  unfold tapMaintenance; simp


end Sys2Proof.Machine
end

section
/-! PROOFS. The frame of every command (`writes`; log entries 5 and 6): a meaning of each shape leaves what its effect leaves, and
what an effect leaves is the chain of what its operations leave (Laws/Same, and the section before for the other parts). -/

namespace Sys2Proof.Machine

/-! ### The shapes of a meaning -/

/-- Every part that a list does not name is the same in the second state. -/
def Leaves (ps : List Part) (s t : State) : Prop := ∀ p, p ∉ ps → p.same s t

/-- Part by part. -/
theorem leaves_iff {ps : List Part} {s t : State} : Leaves ps s t ↔
    (.mode ∉ ps → t.mode = s.mode) ∧ (.degraded ∉ ps → t.degraded = s.degraded) ∧ (.ready ∉ ps → t.ready = s.ready) ∧
     (.epochCtr ∉ ps → t.epochCtr = s.epochCtr) ∧ (.vfEnabled ∉ ps → t.vfEnabled = s.vfEnabled) ∧
     (.fns ∉ ps → t.fns = s.fns) ∧ (.qps ∉ ps → t.qps = s.qps) ∧ (.round ∉ ps → t.round = s.round) ∧
     (.dma ∉ ps → t.dma = s.dma) ∧ (.dmaCycle ∉ ps → t.dmaCycle = s.dmaCycle) ∧
     (.sessions ∉ ps → t.sessions = s.sessions) ∧ (.slotGen ∉ ps → t.slotGen = s.slotGen) ∧
     (.cores ∉ ps → t.cores = s.cores) ∧ (.clusters ∉ ps → t.clusters = s.clusters) ∧
     (.canary ∉ ps → t.canary = s.canary) ∧ (.larder ∉ ps → t.larder = s.larder) ∧
     (.foreman ∉ ps → t.foreman = s.foreman) ∧ (.sec ∉ ps → t.sec = s.sec) ∧ (.power ∉ ps → t.power = s.power) ∧
     (.hbm ∉ ps → t.hbm = s.hbm) ∧ (.memory ∉ ps → t.hbm.mem = s.hbm.mem) ∧ (.tap ∉ ps → t.tap = s.tap) ∧
     (.pins ∉ ps → t.pins = s.pins) ∧ (.px ∉ ps → t.px = s.px) ∧ (.sw ∉ ps → t.sw = s.sw) ∧
     (.tables ∉ ps → t.tables = s.tables) ∧ (.net ∉ ps → t.net = s.net) ∧ (.fabric ∉ ps → t.fabric = s.fabric) := by
  constructor
  · intro h
    exact ⟨h .mode, h .degraded, h .ready, h .epochCtr, h .vfEnabled, h .fns, h .qps, h .round,
      h .dma, h .dmaCycle, h .sessions, h .slotGen, h .cores, h .clusters, h .canary, h .larder, h .foreman, h .sec, h .power,
      h .hbm, h .memory, h .tap, h .pins, h .px, h .sw, h .tables, h .net, h .fabric⟩
  · rintro ⟨h0, h1, h2, h3, h4, h5, h6, h7, h8, h9, h10, h11, h12, h13, h14, h15, h16, h17, h18, h19,
      h20, h21, h22, h23, h24, h25, h26, h27⟩ p hp
    cases p with
    | mode => exact h0 hp
    | degraded => exact h1 hp
    | ready => exact h2 hp
    | epochCtr => exact h3 hp
    | vfEnabled => exact h4 hp
    | fns => exact h5 hp
    | qps => exact h6 hp
    | round => exact h7 hp
    | dma => exact h8 hp
    | dmaCycle => exact h9 hp
    | sessions => exact h10 hp
    | slotGen => exact h11 hp
    | cores => exact h12 hp
    | clusters => exact h13 hp
    | canary => exact h14 hp
    | larder => exact h15 hp
    | foreman => exact h16 hp
    | sec => exact h17 hp
    | power => exact h18 hp
    | hbm => exact h19 hp
    | memory => exact h20 hp
    | tap => exact h21 hp
    | pins => exact h22 hp
    | px => exact h23 hp
    | sw => exact h24 hp
    | tables => exact h25 hp
    | net => exact h26 hp
    | fabric => exact h27 hp

theorem leaves_refl (ps : List Part) (s : State) : Leaves ps s s := fun p _ => by cases p <;> rfl

theorem Part.same_trans {p : Part} {s t u : State} (h1 : p.same s t) (h2 : p.same t u) : p.same s u := by
  cases p <;> exact Eq.trans h2 h1

theorem Leaves.trans {ps : List Part} {s t u : State} (h1 : Leaves ps s t) (h2 : Leaves ps t u) : Leaves ps s u :=
  fun p hp => Part.same_trans (h1 p hp) (h2 p hp)

theorem Leaves.mono {ps qs : List Part} {s t : State} (h : Leaves ps s t) (hsub : ps ⊆ qs) : Leaves qs s t :=
  fun p hp => h p fun hmem => hp (hsub hmem)

/-- The next state that a meaning answers, if it answers one, leaves what the list does not name. -/
def Frames (ps : List Part) (s : State) (r : Result) : Prop := ∀ t, r = .next t → Leaves ps s t

theorem frames_next {ps : List Part} {s t : State} (h : Leaves ps s t) : Frames ps s (.next t) :=
  fun _ ht => Host.Outcome.next.inj ht ▸ h

theorem frames_fault (ps : List Part) (s : State) (f : Fault) : Frames ps s (.fault f) := fun _ ht => by cases ht

theorem frames_refused (ps : List Part) (s : State) (f : Refusal) : Frames ps s (.refused f) := fun _ ht => by cases ht

theorem frames_all {s : State} {r : Result} : Frames Part.all s r := fun _ _ p hp => absurd (by cases p <;> decide) hp

theorem act_frames {ps : List Part} {s k : State} {c : Bool} (h : Leaves ps s k) : Frames ps s (act s c k) := by
  rw [act_next]
  refine frames_next ?_
  split
  · exact h
  · exact leaves_refl ps s

theorem withUnit_frames {ps : List Part} {s : State} {ok : Bool} {r : Result} (h : Frames ps s r) :
    Frames ps s (withUnit ok r) := by
  cases ok with
  | false => rw [withUnit_false]; exact frames_fault ps s _
  | true => rwa [withUnit_true]

theorem unit_frames {ps : List Part} {s k : State} {ok c : Bool} (h : Leaves ps s k) :
    Frames ps s (withUnit ok (act s c k)) :=
  withUnit_frames (act_frames h)

theorem leaves_markStarted (s : State) (r : CmdRef) : Leaves Part.served s (markStarted s r) := by
  simp [leaves_iff, Part.served]

theorem leaves_finish (s : State) (r : CmdRef) (a : Reply) : Leaves Part.served s (finish s r a) := by
  simp [leaves_iff, Part.served]

theorem leaves_uncorrectable (s : State) (a : Nat) : Leaves Part.served s (uncorrectable s a) := by
  simp [leaves_iff, Part.served]

/-- A host command leaves what neither serving it nor its own effect writes. -/
theorem serve_frames {ps : List Part} {s : State} {r : CmdRef} {op : Nat} {chk : State → Bytes → Option Reply}
    {k : State → Bytes → State} (hps : Part.served ⊆ ps) (hk : ∀ s e, Leaves ps s (k s e)) :
    Frames ps s (serve s r op chk k) := by
  have hstarted : Leaves ps s (markStarted s r) := (leaves_markStarted s r).mono hps
  have hfinish : ∀ s a, Leaves ps s (finish s r a) := fun s a => (leaves_finish s r a).mono hps
  unfold serve
  dsimp only
  split
  · exact frames_next (leaves_refl ps s)
  · split
    · exact frames_next (hstarted.trans (hfinish _ _))
    · split
      · exact frames_next ((hstarted.trans ((leaves_uncorrectable _ _).mono hps)).trans (hfinish _ _))
      · split
        · exact frames_next (hstarted.trans (hfinish _ _))
        · exact frames_next (hstarted.trans (hk _ _))

/-- A host command that names a session. -/
theorem session_frames {ps : List Part} {s : State} {r : CmdRef} {op : Nat} {chk : State → Bytes → Option Reply}
    {k : State → Session → Bytes → State} (hps : Part.served ⊆ ps) (hk : ∀ s x e, Leaves ps s (k s x e)) :
    Frames ps s (serve s r op chk (onSession r.fn k)) :=
  serve_frames hps fun s e => by
    unfold onSession
    split
    · exact leaves_refl ps s
    · exact hk _ _ _

/-! ### Operations whose state stands in a pair or an option, loops, and commands of several effects -/

theorem leaves_atTime (ps : List Part) (s : State) (t : Nat) : Leaves ps s (atTime s t) := by simp [leaves_iff]

/-- The oldest request leaves its queue. -/
theorem leaves_takeRequest {ps : List Part} {s s1 : State} {t : Nat} {q : LearnReq}
    (h : takeRequest (atTime s t) q = some s1) (hps : .tables ∈ ps) : Leaves ps s s1 := by
  unfold takeRequest at h
  (repeat' split at h) <;> cases h
  exact (leaves_atTime [.tables] s t).trans (by simp [leaves_iff]) |>.mono (by simpa using hps)

/-- What the reception of a packet leaves, good or bad. -/
theorem leaves_pxReceive {ps : List Part} {s s1 : State} {t typ : Nat} {p : PxPkt} {b : Bool}
    (h : pxReceive (atTime s t) typ p = (b, s1)) (hps : [.degraded, .fns, .canary, .foreman, .px] ⊆ ps) : Leaves ps s s1 := by
  have hreceived : Leaves [.degraded, .fns, .canary, .foreman, .px] s (pxReceive (atTime s t) typ p).2 := by simp [leaves_iff]
  rw [h] at hreceived
  exact hreceived.mono hps

theorem leaves_chooseSlot {ps : List Part} {s s1 : State} {t : Nat} {i : BootInput} {o : Option Nat}
    (h : chooseSlot (atTime s t) i = (o, s1)) (hps : [.fns, .foreman] ⊆ ps) : Leaves ps s s1 := by
  have hchosen : Leaves [.fns, .foreman] s (chooseSlot (atTime s t) i).2 := by simp [leaves_iff]
  rw [h] at hchosen
  exact hchosen.mono hps

theorem leaves_clpForeign {s s1 : State} {h : ClpHdr} (hf : clpForeign s h = some s1) : Leaves [.fabric] s s1 := by
  unfold clpForeign at hf
  (repeat' split at hf) <;> cases hf <;> simp [leaves_iff]

/-- A loop leaves what its body leaves. -/
theorem leaves_foldl {α : Type} {ps : List Part} {f : State → α → State} (h : ∀ s a, Leaves ps s (f s a)) (l : List α) (s : State) :
    Leaves ps s (l.foldl f s) := by
  induction l generalizing s with
  | nil => exact leaves_refl ps s
  | cons a l ih => exact (h s a).trans (ih _)

theorem execMbDisable_frames (fn : Nat) (s : State) : Frames (writes (.mbDisable fn)) s (execMbDisable fn s) :=
  unit_frames (Leaves.trans (t := fnSet s fn { fnGet s fn with mbEnable := false }) (by simp [leaves_iff, writes])
    (leaves_foldl (fun s q => by split <;> simp [leaves_iff, writes]) _ _))

theorem execBistComplete_frames (failed : List Nat) (t : Nat) (s : State) :
    Frames (writes (.bistComplete failed t)) s (execBistComplete failed t s) := by
  have hreport : ∀ s, Leaves (writes (.bistComplete failed t)) s (settleDegraded (larderUpdate s)) := fun s => by
    simp [leaves_iff, writes]
  refine act_frames (Leaves.trans (Leaves.trans ?_ (leaves_foldl (fun s k => ?_) _ _)) (hreport _))
  · simp [leaves_iff, writes]
  · (repeat' split) <;> simp [leaves_iff, writes]

theorem execLedgerDigestTimer_frames (t : Nat) (s : State) :
    Frames (writes (.ledgerDigestTimer t)) s (execLedgerDigestTimer t s) := by
  refine act_frames (Leaves.trans ?_ (leaves_foldl (fun s x => ?_) _ _))
  · simp [leaves_iff, writes]
  · split <;> simp [leaves_iff, writes]

theorem execEpochAdvance_frames (h : ClpHdr) (phase epoch hash version : Nat) (changes : List (Nat × Nat)) (s : State) :
    Frames (writes (.epochAdvance h phase epoch hash version changes)) s (execEpochAdvance h phase epoch hash version changes s) := by
  refine act_frames ?_
  simp [leaves_iff, writes]

/-- CLP_ACK_RECEIVED: a message of a foreign fabric is counted in its own state, any other goes on from the state at its time. -/
theorem execClpAckReceived_frames (h : ClpHdr) (kind seq : Nat) (nak : Bool) (leaseMs : Nat) (s : State) :
    Frames (writes (.clpAckReceived h kind seq nak leaseMs)) s (execClpAckReceived h kind seq nak leaseMs s) := by
  refine act_frames ?_
  dsimp only
  split
  · next s2 hs2 =>
    exact Leaves.trans (t := atTime s h.t) (by simp [leaves_iff]) ((leaves_clpForeign hs2).mono (by simp [writes]))
  · (repeat' split) <;> simp [leaves_iff, writes]

/-- BAR2_ACCESS has one effect per access and, for reads, per mode. -/
theorem execBar2Access_frames (fn offset : Nat) (op : Bar2Op) (s : State) :
    Frames (writes (.bar2Access fn offset op)) s (execBar2Access fn offset op s) := by
  refine withUnit_frames ?_
  cases op with
  | read len =>
    dsimp only
    split
    · exact frames_next (leaves_refl _ s)
    · split <;> exact act_frames (by simp [leaves_iff, writes])
  | write data => exact act_frames (by simp [leaves_iff, writes])

/-- TAP_UPDATE_IR seals the device, leads to Maintenance or writes the TAP (R481, R483). -/
theorem execTapUpdateIr_frames (code : BitVec 8) (k : Bool) (t : Nat) (s : State) :
    Frames (writes (.tapUpdateIr code k t)) s (execTapUpdateIr code k t s) := by
  unfold execTapUpdateIr
  dsimp only
  (repeat' split)
  · exact frames_next (leaves_refl _ s)
  · exact frames_next (by simp [leaves_iff, writes])
  · exact frames_next (by simp [leaves_iff, writes])
  · exact frames_refused _ s _
  · exact frames_next (by simp [leaves_iff, writes])

/-! ### Every command, by the part of the manual it belongs to -/

/-- The parts of the manual: the host interface, power and faults and memory, coding, the network, the members of a
fabric, the work that they share, the management. -/
inductive Area where
  | host | power | coding | network | fabric | sharing | management

def areaOf : Instr → Area
  | .identify _ | .setMode _ | .configureEvents _ | .createQp _ | .deleteQp _ | .reset _ | .setPowerState _ | .getLog _ |
  .getTelemetry _ | .abort _ | .setFunctionResources _ | .setChannelOwner _ | .queryChannels _ | .sqTailWrite _ _ _ |
  .cqHeadWrite _ _ _ | .commandFetch _ _ _ _ | .commandTimeout _ _ | .coalesceTimer _ _ _ | .mbEnable _ | .mbDisable _ |
  .intrMaskWrite _ _ | .registerWrite _ _ _ | .bar2Access _ _ _ | .dmaArm _ _ | .dmaDisable _ _ _ _ | .dmaClearHalt _ _ |
  .dmaShadowWrite _ _ _ _ | .dmaBurstIssue _ _ | .dmaBeatReturn _ _ _ _ | .dmaBeatError _ _ _ | .coldReset _ |
  .warmReset _ _ | .hostInterfaceReset _ | .flr _ | .vfEnableClear | .busMasterEnableSet _ | .powerRemoved | .secureBoot _
  | .larderUpdate | .msixVectorUnmask _ _ => .host
  | .bankedEntry _ | .bankedExit _ | .hbmSelfRefreshTimer _ _ | .dormantWake _ _ _ | .coreSleep _ | .keepWarmWake _ _ |
  .coreWakeComplete _ _ | .clusterPllOff _ | .avsStep _ _ _ | .avsRetry _ _ _ | .vddCoreWarn _ _ | .vddCoreRecover _ _ |
  .stretch2ms _ | .vddCoreResetThreshold _ _ | .railUndervoltage _ _ | .thermalWarn _ | .thermalThrottle _ |
  .throttleRelease _ _ | .thermtrip _ | .tamperDetect _ | .refclkLoss _ _ | .wakeOscTrim _ | .fwHeartbeat _ |
  .watchdogTimeout _ | .lockstepMismatch _ | .errorPortEvent _ _ _ _ | .fenceEffect _ _ | .faultNRelease _ |
  .bistComplete _ _ | .patchParityError _ _ | .coreBistReloadDone _ _ _ | .spareTakeover _ _ | .coreRestart _ _ _ |
  .tapUpdateIr _ _ _ | .tapReset | .vddFuseChange _ _ | .avsSettled _ _ | .hbmRequest _ | .hbmReadReturn _ _ _ _ |
  .bulkPromotion _ _ | .pageCloseTimeout _ _ _ | .hbmRefresh _ _ _ | .hbmTempRead _ _ _ | .actWindowEnd _ _ |
  .patrolScrub _ _ _ | .retrainStart _ _ _ | .retrainDone _ _ _ | .sramScrub _ _ _ _ _ => .power
  | .createSession _ _ | .startSession _ | .reconfigureSession _ _ | .stopSession _ | .destroySession _ | .querySession _
  | .setSessionRings _ | .forceRefresh _ | .submitPicture _ | .submitBitstream _ _ | .returnBuffer _ | .flush _ |
  .bandDispatch _ _ _ _ _ | .bandStart _ _ | .cuStart _ _ _ | .cuMeasure _ _ | .rowCommit _ _ _ _ |
  .surveyRowStart _ _ _ _ _ | .ppuBand _ _ _ | .packetRelease _ _ | .bandReleaseTime _ _ _ _ | .tsPsiTimer _ _ |
  .inputGapTimeout _ _ | .decodeUnitStart _ | .decodeRowCommit _ _ _ _ _ | .decodePictureEnd _ _ _ _ _ _ |
  .reorderTimeout _ _ | .rtpPacketRx _ | .decodeOutputStart _ _ _ | .pxTxLine _ _ _ | .pxLinkUp _ _ | .pxLinkDown _ _ |
  .frameStart _ | .line _ | .frameEnd _ | .metadata _ | .pxFifoRead _ => .coding
  | .setPort _ _ | .setMacsec _ | .setPtp _ _ | .queryPtp _ | .setMeter _ | .setFlow _ _ | .setQueue _ | .setSubscriber _
  | .setClasses _ | .setGcl _ _ | .tableInsert _ _ | .tableDelete _ _ | .tableRead _ | .tableFlush _ | .routeAdd _ |
  .routeDelete _ | .setNextHop _ | .setLearn _ | .setGroup _ _ | .queryTables _ | .setPools _ _ | .queryPools _ |
  .setCapture _ | .setMirrorRule _ | .setDropProfile _ _ | .ethFrameHead _ | .ethFrameEnd _ _ _ _ _ | .portPacketIn _ |
  .pantryRetry _ _ | .poolCacheRefill _ | .egressSelect _ _ _ | .copyDone _ _ _ _ _ | .queueAvgDecay _ _ |
  .gclBoundary _ _ | .pfcXoffRx _ _ _ _ | .pfcXoffExpire _ _ _ | .mergeLostTimeout _ _ | .mergeLegDown _ _ _ |
  .learn _ _ _ _ | .refresh _ _ _ _ | .move _ _ _ _ | .agingSweep _ | .flapClear _ _ | .ptpMessageRx _ |
  .ptpMessageTimer _ _ _ | .announceTimeout _ | .ppsInEdge _ | .ppsOut _ | .ethLinkUp _ _ | .ethLinkDown _ _ => .network
  | .fabricCreate _ | .fabricJoin _ | .fabricLeave _ | .fabricQuery _ | .fabricDrain _ | .fabricSetStandby _ |
  .fabricSetVersion _ | .hello _ _ _ _ _ _ | .helloTimer _ | .joinReq _ _ _ _ _ _ _ _ _ | .joinAck _ _ _ _ _ _ |
  .joinRetry _ | .headlessRejoin _ | .leaseRenew _ _ _ _ _ | .leaseRenewTimer _ | .leaseExpiry _ | .memberLost _ _ |
  .managerTakeover _ | .epochAdvance _ _ _ _ _ _ | .epochHoldTimeout _ _ | .timeCheck _ _ _ _ _ | .timeCheckTimer _ |
  .timeQualified _ | .unqualHoldExpiry _ _ | .clpRetransmit _ _ _ | .clpAckReceived _ _ _ _ _ => .fabric
  | .assign _ _ _ _ _ _ | .ledger _ _ _ _ _ _ | .ledgerDigestTimer _ | .stats _ _ _ _ _ | .statsRequest _ _ _ _ |
  .statsTimeout _ _ _ _ | .commit _ _ _ _ _ | .seamCheck _ _ _ _ _ _ | .fence _ _ _ _ | .promote _ _ _ _ _ _ |
  .sliceTransfer _ _ | .sliceResendTimer _ _ _ _ | .haloStrip _ _ _ _ _ | .haloResendTimer _ _ _ _ | .seamStrip _ _ _ _ _ |
  .refereeResult _ _ _ _ _ _ | .refereeTimeout _ _ _ _ => .sharing
  | _ => .management

theorem exec_frames_host (c : Instr) (s : State) (h : areaOf c = .host) : Frames (writes c) s (exec c s) := by
  cases c with (dsimp only [exec, writes])
  | identify | setMode | configureEvents | createQp | setPowerState | getLog | getTelemetry | setFunctionResources |
  setChannelOwner | queryChannels => exact serve_frames (by decide) fun _ _ => by simp [leaves_iff, Part.served]
  | deleteQp => exact serve_frames (by decide) fun _ _ => by (repeat' split) <;> simp [leaves_iff, Part.served]
  | abort => exact serve_frames (by decide) fun _ _ => by dsimp only; (repeat' split) <;> simp [leaves_iff, Part.served]
  | reset | coldReset | warmReset | powerRemoved => exact frames_all
  | hostInterfaceReset | larderUpdate => exact act_frames (by simp [leaves_iff])
  | commandTimeout => exact act_frames (by (repeat' split) <;> simp [leaves_iff])
  | mbEnable | intrMaskWrite | registerWrite | dmaArm | dmaClearHalt | dmaShadowWrite | dmaBurstIssue | flr |
  busMasterEnableSet | msixVectorUnmask => exact unit_frames (by simp [leaves_iff])
  | sqTailWrite | cqHeadWrite | commandFetch | coalesceTimer | dmaBeatReturn | dmaBeatError =>
    exact unit_frames (by (repeat' split) <;> simp [leaves_iff])
  | dmaDisable => exact unit_frames (by dsimp only; (repeat' split) <;> simp [leaves_iff])
  | secureBoot i => exact act_frames (by
    split <;> next h => exact (leaves_chooseSlot h (by decide)).trans (by simp [leaves_iff]))
  | mbDisable fn => exact execMbDisable_frames fn s
  | vfEnableClear => exact act_frames (s := s) (by simp [leaves_iff])
  | bar2Access fn offset op => exact execBar2Access_frames fn offset op s
  | _ => cases h

theorem exec_frames_power (c : Instr) (s : State) (h : areaOf c = .power) : Frames (writes c) s (exec c s) := by
  cases c with (dsimp only [exec, writes])
  | dormantWake | vddCoreResetThreshold | railUndervoltage | watchdogTimeout | errorPortEvent => exact frames_all
  | bankedEntry | bankedExit | avsStep | avsRetry | vddCoreWarn | stretch2ms | thermalWarn | thermalThrottle | thermtrip |
  tamperDetect | wakeOscTrim | fwHeartbeat | lockstepMismatch | faultNRelease | tapReset | vddFuseChange | avsSettled =>
    exact act_frames (by simp [leaves_iff])
  | refclkLoss => exact act_frames (by (repeat' split) <;> simp [leaves_iff])
  | vddCoreRecover | throttleRelease => exact act_frames (by dsimp only; (repeat' split) <;> simp [leaves_iff])
  | hbmSelfRefreshTimer | coreSleep | keepWarmWake | clusterPllOff | fenceEffect | patchParityError | coreBistReloadDone |
  hbmRequest | bulkPromotion | hbmTempRead | actWindowEnd | patrolScrub | retrainStart | sramScrub =>
    exact unit_frames (by simp [leaves_iff])
  | coreRestart | hbmRefresh | coreWakeComplete | spareTakeover | hbmReadReturn | pageCloseTimeout | retrainDone =>
    exact unit_frames (by dsimp only; (repeat' split) <;> simp [leaves_iff])
  | bistComplete failed t => exact execBistComplete_frames failed t s
  | tapUpdateIr code k t => exact execTapUpdateIr_frames code k t s
  | _ => cases h

theorem exec_frames_coding (c : Instr) (s : State) (h : areaOf c = .coding) : Frames (writes c) s (exec c s) := by
  cases c with (dsimp only [exec, writes])
  | createSession => exact serve_frames (by decide) fun _ _ => by simp [leaves_iff, Part.served]
  | reconfigureSession | stopSession | destroySession | querySession | setSessionRings | forceRefresh | submitPicture |
  submitBitstream => exact session_frames (by decide) fun _ _ _ => by simp [leaves_iff, Part.served]
  | startSession => exact session_frames (by decide) fun _ _ _ => by split <;> simp [leaves_iff, Part.served]
  | returnBuffer | flush =>
    exact session_frames (by decide) fun _ _ _ => by dsimp only; (repeat' split) <;> simp [leaves_iff, Part.served]
  | bandDispatch | packetRelease | bandReleaseTime | tsPsiTimer | inputGapTimeout | decodePictureEnd | reorderTimeout |
  rtpPacketRx | decodeOutputStart => exact act_frames (by dsimp only; (repeat' split) <;> simp [leaves_iff])
  | pxLinkUp | pxLinkDown | pxFifoRead => exact unit_frames (by simp [leaves_iff])
  | cuStart | cuMeasure | surveyRowStart => exact unit_frames (by (repeat' split) <;> simp [leaves_iff])
  | bandStart | rowCommit | ppuBand | decodeUnitStart | decodeRowCommit | pxTxLine =>
    exact unit_frames (by dsimp only; (repeat' split) <;> simp [leaves_iff])
  | frameStart | line | frameEnd | metadata =>
    refine unit_frames ?_
    split
    · next h => exact (leaves_pxReceive h (by decide)).trans (by simp [leaves_iff])
    · next h => exact leaves_pxReceive h (by decide)
  | _ => cases h

theorem exec_frames_network (c : Instr) (s : State) (h : areaOf c = .network) : Frames (writes c) s (exec c s) := by
  cases c with (dsimp only [exec, writes])
  | setPort | setMacsec | setPtp | queryPtp | setMeter | setFlow | setQueue | setSubscriber | setClasses | setGcl | tableRead
  | tableFlush | routeAdd | routeDelete | setNextHop | setLearn | setGroup | queryTables | setPools | queryPools | setCapture
  | setMirrorRule | setDropProfile => exact serve_frames (by decide) fun _ _ => by simp [leaves_iff, Part.served]
  | tableDelete => exact serve_frames (by decide) fun _ _ => by (repeat' split) <;> simp [leaves_iff, Part.served]
  | tableInsert => exact serve_frames (by decide) fun _ _ => by dsimp only; (repeat' split) <;> simp [leaves_iff, Part.served]
  | agingSweep | announceTimeout | ppsInEdge | ppsOut => exact act_frames (by simp [leaves_iff])
  | ethFrameHead | portPacketIn | poolCacheRefill | egressSelect | queueAvgDecay | pfcXoffRx | pfcXoffExpire | mergeLegDown |
  flapClear | ptpMessageTimer | ethLinkUp | ethLinkDown => exact unit_frames (by simp [leaves_iff])
  | ethFrameEnd | ptpMessageRx => exact unit_frames (by (repeat' split) <;> simp [leaves_iff])
  | pantryRetry | copyDone | gclBoundary | mergeLostTimeout =>
    exact unit_frames (by dsimp only; (repeat' split) <;> simp [leaves_iff])
  | learn | refresh | move =>
    refine unit_frames ?_
    split
    · next h => exact (leaves_takeRequest h (by decide)).trans (by simp [leaves_iff])
    · exact leaves_refl _ s
  | _ => cases h

theorem exec_frames_fabric (c : Instr) (s : State) (h : areaOf c = .fabric) : Frames (writes c) s (exec c s) := by
  cases c with (dsimp only [exec, writes])
  | fabricCreate | fabricJoin | fabricLeave | fabricQuery | fabricDrain | fabricSetStandby =>
    exact serve_frames (by decide) fun _ _ => by simp [leaves_iff, Part.served]
  | fabricSetVersion => exact serve_frames (by decide) fun _ _ => by (repeat' split) <;> simp [leaves_iff, Part.served]
  | hello | helloTimer | joinReq | joinRetry | headlessRejoin | leaseRenew | leaseRenewTimer | leaseExpiry | memberLost |
  managerTakeover | epochHoldTimeout | timeCheck | timeCheckTimer | unqualHoldExpiry => exact act_frames (by simp [leaves_iff])
  | joinAck | clpRetransmit => exact act_frames (by (repeat' split) <;> simp [leaves_iff])
  | timeQualified => exact act_frames (by dsimp only; split <;> simp [leaves_iff])
  | epochAdvance hd phase newEpoch configHash version changes =>
    exact execEpochAdvance_frames hd phase newEpoch configHash version changes s
  | clpAckReceived hd kind seq nak leaseMs => exact execClpAckReceived_frames hd kind seq nak leaseMs s
  | _ => cases h

theorem exec_frames_sharing (c : Instr) (s : State) (h : areaOf c = .sharing) : Frames (writes c) s (exec c s) := by
  cases c with (dsimp only [exec, writes])
  | assign | ledger | stats | commit | seamCheck | fence | promote | haloStrip | seamStrip | refereeResult =>
    exact act_frames (by simp [leaves_iff])
  | statsRequest | statsTimeout | sliceTransfer | sliceResendTimer | haloResendTimer | refereeTimeout =>
    exact act_frames (by dsimp only; (repeat' split) <;> simp [leaves_iff])
  | ledgerDigestTimer t => exact execLedgerDigestTimer_frames t s
  | _ => cases h

theorem exec_frames_management (c : Instr) (s : State) (h : areaOf c = .management) : Frames (writes c) s (exec c s) := by
  cases c with (dsimp only [exec, writes])
  | secQuery | secAuthChallenge | secAuthResponse | secLogout | secKemKeygen | secKeyQuery | secZeroize | secSelfTest |
  secAttest | secRandom | secDigest | updateOpen | updateWrite | updateVerify | updateCommit | updateAbort | updateStatus |
  setPlatformConfig => exact serve_frames (by decide) fun _ _ => by simp [leaves_iff, Part.served]
  | secKeyImport | secKeyDelete =>
    exact serve_frames (by decide) fun _ _ => by dsimp only; (repeat' split) <;> simp [leaves_iff, Part.served]
  | secLifecycle | updateActivate | activateFirmware => exact frames_all
  | selfTestPeriodic | entropyHealthFail | drbgReseed | telemetrySweep | agingWrite | rotationCheck | autoCommit |
  flashLogWrite | mctpSetEndpointId | mctpGetEndpointId | mctpGetVersionSupport | mctpGetMessageTypeSupport | requestUpdate =>
    exact act_frames (by simp [leaves_iff])
  | decapKeyExpiry | transferComplete => exact act_frames (by dsimp only; (repeat' split) <;> simp [leaves_iff])
  | roleExpiry | sensorTrim => exact unit_frames (by simp [leaves_iff])
  | nonceExpiry | authLockoutEnd => exact unit_frames (by dsimp only; (repeat' split) <;> simp [leaves_iff])
  | _ => cases h

/-- Every command leaves each part of the state that `writes` does not name for it. -/
theorem exec_frames (c : Instr) (s : State) : Frames (writes c) s (exec c s) := by
  cases h : areaOf c with
  | host => exact exec_frames_host c s h
  | power => exact exec_frames_power c s h
  | coding => exact exec_frames_coding c s h
  | network => exact exec_frames_network c s h
  | fabric => exact exec_frames_fabric c s h
  | sharing => exact exec_frames_sharing c s h
  | management => exact exec_frames_management c s h

/-- Settles O58: `exec_frames`, of the parts of the host interface. -/
theorem hostPartsKeepTheirFrame : Obligations.HostPartsKeepTheirFrame :=
  fun c s t p ht hp _ => exec_frames c s t ht p hp

/-- Settles O59: `exec_frames`, of the management; a byte of the HBM follows from its memory. -/
theorem managementPartsKeepTheirFrame : Obligations.ManagementPartsKeepTheirFrame := by
  intro c s t p ht hp _
  have hsame := exec_frames c s t ht p hp
  refine ⟨hsame, ?_⟩
  rintro rfl a
  exact congrArg (memByte · a) hsame

/-- Settles O60: `exec_frames`, of the parts that code and of the network. -/
theorem codingPartsKeepTheirFrame : Obligations.CodingPartsKeepTheirFrame :=
  fun c s t p ht hp _ => exec_frames c s t ht p hp

end Sys2Proof.Machine
end

section
/-! PROOFS. The TAP (R409, R479 to R483; log entry 60): what acts for a loaded code, then one lemma per case of TAP_UPDATE_IR. -/

namespace Sys2Proof.Machine

/-! ### What acts for a loaded code -/

theorem tapActs_of_asleep {s : State} (code : BitVec 8) (h : asleep s = true) :
    tapActs s code = if code = 0x01 ∨ code = 0x02 then code else 0xFF := if_pos h

/-- EXTEST, CLAMP and HIGHZ act as loaded on a device that is awake; INTEST, 0x80, needs an open lifecycle besides. -/
theorem tapActs_of_pinDriving {s : State} {code : BitVec 8} (hs : asleep s = false) (hdrive : pinDriving code = true)
    (hintest : code ≠ 0x80) : tapActs s code = code := by
  have hcode : code = 0x00 ∨ code = 0x05 ∨ code = 0x06 := by
    simp only [pinDriving, List.contains_eq_mem, List.mem_cons, List.not_mem_nil, or_false, decide_eq_true_eq] at hdrive
    obtain h | h | h | h := hdrive
    · exact .inl h
    · exact .inr (.inl h)
    · exact .inr (.inr h)
    · exact absurd h hintest
  obtain rfl | rfl | rfl := hcode <;> simp [tapActs, hs]

theorem tapActs_of_public {s : State} {code : BitVec 8} (hs : asleep s = false) (hcode : code = 0x01 ∨ code = 0x02 ∨ code = 0xFF) :
    tapActs s code = code := by
  obtain rfl | rfl | rfl := hcode <;> simp [tapActs, hs]

/-! ### TAP_UPDATE_IR, case by case -/

theorem mode_ne_off_of_awake {s : State} (hs : asleep s = false) : s.mode ≠ .off := fun h => by simp [asleep, h] at hs

theorem mode_ne_off_of_alive {s : State} (hs : dead s = false) : s.mode ≠ .off := fun h => by simp [dead, h] at hs

/-- Without a class 5 event an instruction whose act drives no pin and is one of the public ones writes the TAP alone. -/
theorem exec_tapUpdateIr_of_load {s : State} {code : BitVec 8} (w : Nat) (hon : s.mode ≠ .off)
    (hacts : tapActs s code = 0x01 ∨ tapActs s code = 0x02 ∨ tapActs s code = 0xFF) :
    exec (.tapUpdateIr code false w) s
      = .next { atTime s w with tap := { s.tap with code := code, pins := tapActs s code } } := by
  have hdrive : pinDriving (tapActs s code) = false := by obtain h | h | h := hacts <;> rw [h] <;> rfl
  have hpublic : ¬ (0x80 ≤ (tapActs s code).toNat ∧ tapActs s code ≠ 0xFF) := by obtain h | h | h := hacts <;> rw [h] <;> decide
  simp only [exec, execTapUpdateIr, hdrive, if_neg hpublic, Bool.false_and, Bool.false_eq_true, if_false]

/-- A class 5 event in the cycle of a pin-driving instruction wins. -/
theorem exec_tapUpdateIr_of_class5 {s : State} {code : BitVec 8} (w : Nat) (hs : dead s = false) (hdrive : pinDriving code = true) :
    exec (.tapUpdateIr code true w) s = .next { lockdown (atTime s w) with tap := { s.tap with code := code, pins := 0xFF } } := by
  simp only [exec, execTapUpdateIr, hdrive, hs]
  split
  · exact absurd ‹_› (mode_ne_off_of_alive hs)
  · simp

/-- A pin-driving instruction that acts leads to Maintenance. -/
theorem exec_tapUpdateIr_of_drive {s : State} {code : BitVec 8} (w : Nat) (hs : asleep s = false)
    (hdrive : pinDriving (tapActs s code) = true) :
    exec (.tapUpdateIr code false w) s = .next (tapMaintenance (atTime s w) code) := by
  simp only [exec, execTapUpdateIr, hdrive]
  split
  · exact absurd ‹_› (mode_ne_off_of_awake hs)
  · simp

/-- What the way into Maintenance leaves: no session, no volatile key, the instruction on the pins (R249, R450, R481). -/
theorem tapMaintenance_effect (s : State) (code : BitVec 8) :
    (tapMaintenance s code).mode = .maintenance ∧ (tapMaintenance s code).sessions = [] ∧
      (tapMaintenance s code).sec.keys = [] ∧ (tapMaintenance s code).sec.kem = none ∧
      (tapMaintenance s code).tap = { code := code, pins := code, maintenance := true, resetSeen := false } := by
  have hmode : (if (destroyAll (zeroize s)).mode == .maintenance then destroyAll (zeroize s)
      else setMode (destroyAll (zeroize s)) .maintenance).mode = .maintenance := by
    split
    · exact eq_of_beq ‹_›
    · exact (setMode_mode _ _).1
  refine ⟨hmode, ?_, ?_, ?_, rfl⟩
  · simp [tapMaintenance, destroyAll]
  · simp [tapMaintenance, zeroize]
  · simp [tapMaintenance, zeroize]

/-! ### The statements -/

/-- Settles O17: asleep, a code acts as itself only where it is IDCODE or SAMPLE, and as BYPASS otherwise. -/
theorem tapInLockdownAndDormant : Obligations.TapInLockdownAndDormant := by
  intro s code w
  constructor
  · intro hmode
    have hasleep : asleep s = true := by obtain h | h := hmode <;> simp [asleep, h]
    have hon : s.mode ≠ .off := by obtain h | h := hmode <;> simp [h]
    refine ⟨_, exec_tapUpdateIr_of_load w hon (tapActs_asleep s code hasleep), ?_, rfl, rfl, rfl, rfl, rfl⟩
    rw [tapActs_of_asleep code hasleep]
  · intro hs hdrive
    exact ⟨_, exec_tapUpdateIr_of_class5 w hs hdrive, sealedDown_lockdown (atTime s w), rfl⟩

/-- Settles O18: on an awake device a pin-driving code acts as loaded, which is the way into Maintenance; the public codes write
the TAP alone. -/
theorem tapInstructionsComplete : Obligations.TapInstructionsComplete := by
  intro s code w
  refine ⟨?_, ?_, ?_⟩
  · intro hs hdrive hintest
    have hacts := tapActs_of_pinDriving hs hdrive hintest
    obtain ⟨hmode, hsessions, hkeys, hkem, htap⟩ := tapMaintenance_effect (atTime s w) code
    refine ⟨_, exec_tapUpdateIr_of_drive w hs (by rwa [hacts]), hmode, hsessions, hkeys, hkem, htap, ?_, ?_⟩ <;> simp
  · intro hs hcode
    have hacts := tapActs_of_public hs hcode
    exact ⟨_, exec_tapUpdateIr_of_load w (mode_ne_off_of_awake hs) (by rwa [hacts]), rfl, rfl, rfl, rfl, rfl⟩
  · intro hon
    have hon : (s.mode != .off) = true := bne_iff_ne.2 hon
    simp only [exec, execTapReset, hon, act_true]

end Sys2Proof.Machine
end

section
/-! PROOFS. Temperature limits and tampering (R409, R449, R464, R465; log entry 67): cause bits and fault bits that are raised stay
raised, what a class 5 event leaves, then one lemma per event. -/

namespace Sys2Proof.Machine

/-! ### A cause bit that is set stays set (R221) -/

/-- The function shows the cause. -/
def CauseSet (s : State) (fn bit : Nat) : Prop := (fnGet s fn).intrCause.getLsbD bit = true

theorem causeSet_of_fns {s t : State} {fn bit : Nat} (hfns : t.fns = s.fns) (h : CauseSet s fn bit) : CauseSet t fn bit := by
  unfold CauseSet fnGet at *
  rwa [hfns]

theorem causeSet_fnSet {s : State} {fn bit n : Nat} {x : FnState} (h : CauseSet s fn bit)
    (hx : (fnGet s n).intrCause.getLsbD bit = true → x.intrCause.getLsbD bit = true) : CauseSet (fnSet s n x) fn bit := by
  unfold CauseSet at h ⊢
  by_cases hn : fn = n
  · subst hn
    rw [fnGet_fnSet]
    exact hx h
  · rwa [fnGet_fnSet_ne _ _ _ _ hn]

theorem causeSet_sendMsix {s : State} {fn bit : Nat} (n v : Nat) (h : CauseSet s fn bit) : CauseSet (sendMsix s n v) fn bit := by
  unfold sendMsix
  split
  · split
    · exact causeSet_fnSet h id
    · exact h
  · exact h

theorem causeSet_setCause {s : State} {fn bit : Nat} (n b : Nat) (h : CauseSet s fn bit) : CauseSet (setCause s n b) fn bit := by
  have hset : CauseSet (fnSet s n { fnGet s n with intrCause := (fnGet s n).intrCause ||| BitVec.twoPow 32 b }) fn bit :=
    causeSet_fnSet h fun hn => by simp [hn]
  unfold setCause
  dsimp only
  (repeat' split)
  · exact h
  · exact hset
  · exact causeSet_sendMsix n 0 hset

theorem causeSet_setCause_same (s : State) (fn : Nat) {bit : Nat} (hbit : bit < 32) : CauseSet (setCause s fn bit) fn bit := by
  have hset : CauseSet (fnSet s fn { fnGet s fn with intrCause := (fnGet s fn).intrCause ||| BitVec.twoPow 32 bit }) fn bit := by
    unfold CauseSet
    rw [fnGet_fnSet]
    simp [hbit]
  unfold setCause
  dsimp only
  split
  · assumption
  · split
    · exact hset
    · exact causeSet_sendMsix fn 0 hset

/-- A cause set in every function is set in each that exists. -/
theorem causeSet_causeAll (s : State) {fn bit : Nat} (hfn : fn ∈ allFns s) (hbit : bit < 32) : CauseSet (causeAll s bit) fn bit := by
  have hloop : ∀ (l : List Nat) (s : State), fn ∈ l ∨ CauseSet s fn bit →
      CauseSet (l.foldl (fun s n => setCause s n bit) s) fn bit := by
    intro l
    induction l with
    | nil => exact fun s h => h.elim (fun hnil => absurd hnil List.not_mem_nil) id
    | cons n l ih =>
      intro s h
      refine ih _ ?_
      rw [List.mem_cons] at h
      obtain (rfl | hl) | hset := h
      · exact .inr (causeSet_setCause_same s fn hbit)
      · exact .inl hl
      · exact .inr (causeSet_setCause n bit hset)
  exact hloop _ s (.inl hfn)

theorem zero_mem_allFns (s : State) : 0 ∈ allFns s := by
  unfold allFns
  split <;> simp

theorem causeSet_postEvent {s : State} {fn bit : Nat} (r : EventRec) (h : CauseSet s fn bit) : CauseSet (postEvent s r) fn bit := by
  unfold postEvent
  dsimp only
  (repeat' split)
  · exact h
  · exact causeSet_setCause _ _ h
  · exact causeSet_fnSet h id
  · exact causeSet_sendMsix (s := emit _ _) _ _ (causeSet_fnSet h id)

theorem causeSet_argOf {s : State} {fn bit : Nat} {a : Option Nat} {bound : Nat} (h : CauseSet s fn bit) :
    CauseSet (argOf s a bound).2 fn bit := by
  unfold argOf
  split <;> exact h

theorem causeSet_logEvent {s : State} {fn bit : Nat} (code cls source : Nat) (a b : Option Nat) (h : CauseSet s fn bit) :
    CauseSet (logEvent s code cls source a b) fn bit := by
  have hargs : CauseSet (argOf (argOf s a (2 ^ 32)).2 b (2 ^ 64)).2 fn bit := causeSet_argOf (causeSet_argOf h)
  unfold logEvent logRec
  exact causeSet_postEvent _ hargs

/-! ### What a recorded fault raises (R402, R404, R406) -/

theorem recordFault_class0 (s : State) (bit : Nat) (addr : Option Nat) :
    recordFault s bit 0 addr = logEvent (draw (canaryCount s bit 0) 256).2 (0x0100 + (draw (canaryCount s bit 0) 256).1) 0 bit none addr :=
  rfl

theorem causeSet_class0 {s : State} {fn bit : Nat} (source : Nat) (addr : Option Nat) (h : CauseSet s fn bit) :
    CauseSet (recordFault s source 0 addr) fn bit := by
  rw [recordFault_class0]
  exact causeSet_logEvent _ _ _ _ _ (causeSet_of_fns (by simp [draw, canaryCount]) h)

theorem recordFault_status (s : State) (bit cls : Nat) (addr : Option Nat) :
    (recordFault s bit cls addr).canary.status = (canaryCount s bit cls).canary.status := by
  unfold recordFault
  dsimp only
  (repeat' split) <;> simp

/-- DEGRADED and a bit of CANARY_STATUS are set. -/
def Alarmed (bit : Nat) (s : State) : Prop := s.degraded = true ∧ s.canary.status.getLsbD bit = true

theorem alarmed_of_same {bit : Nat} {s t : State} (hd : t.degraded = s.degraded) (hc : t.canary = s.canary) (h : Alarmed bit s) :
    Alarmed bit t := by
  unfold Alarmed
  rwa [hd, hc]

theorem alarmed_recordFault {bit : Nat} {s : State} (b cls : Nat) (addr : Option Nat) (h : Alarmed bit s) :
    Alarmed bit (recordFault s b cls addr) := by
  obtain ⟨hdegraded, hstatus⟩ := h
  constructor
  · unfold recordFault
    dsimp only
    (repeat' split) <;> simp [setDegraded, hdegraded]
  · rw [recordFault_status]
    simp only [canaryCount]
    split <;> simp [hstatus]

theorem alarmed_of_class2 (s : State) {bit : Nat} (addr : Option Nat) (hbit : bit < 64) : Alarmed bit (recordFault s bit 2 addr) := by
  obtain ⟨hcanary, hdegraded⟩ := recordFault_class2 s bit addr
  exact ⟨hdegraded, hcanary ▸ canaryCount_status s hbit (by decide)⟩

/-- A session that is placed again may take a class 3 fault, which raises what it raises and lowers nothing. -/
theorem alarmed_replaceOne {bit : Nat} {s : State} (x : Session) (h : Alarmed bit s) : Alarmed bit (replaceOne s x) := by
  unfold replaceOne
  dsimp only
  split
  · exact alarmed_of_same (by simp) (by simp) h
  · exact alarmed_of_same (by simp) (by simp) (alarmed_recordFault 43 3 none h)

theorem alarmed_replaceAll {bit : Nat} {s : State} (h : Alarmed bit s) : Alarmed bit (replaceAll s) := by
  have hloop : ∀ (l : List Session) (s : State), Alarmed bit s →
      Alarmed bit (l.foldl (fun s x => replaceOne s (unreserved x)) s) := by
    intro l
    induction l with
    | nil => exact fun _ h => h
    | cons x l ih => exact fun s h => ih _ (alarmed_replaceOne _ h)
  have hput : ∀ (l : List Session) (s : State), Alarmed bit s → Alarmed bit (l.foldl (fun s x => sessPut s (unreserved x)) s) := by
    intro l
    induction l with
    | nil => exact fun _ h => h
    | cons x l ih => exact fun s h => ih _ (alarmed_of_same (t := sessPut s (unreserved x)) rfl rfl h)
  have hdone := hloop (byPriority s) _ (hput (byPriority s) s h)
  exact alarmed_of_same (by simp [replaceAll]) (by simp [replaceAll]) hdone

/-- A class 5 event is counted and seals the device; the collector keeps the rest of its state (R409). -/
theorem class5_canary (s : State) (bit : Nat) :
    (class5 s bit).canary = { (canaryCount s bit 5).canary with faultN := false, pendingFences := [], gatedAt := none } := by
  simp [class5, lockdown, draw]

theorem class5_effect (s : State) {bit : Nat} (hbit : bit < 64) :
    sealedDown (class5 s bit) = true ∧ (class5 s bit).canary.status.getLsbD bit = true ∧
      (class5 s bit).canary.thermtripN = s.canary.thermtripN := by
  refine ⟨sealedDown_lockdown (draw (canaryCount s bit 5) 256).2, ?_, ?_⟩
  · rw [class5_canary]
    exact canaryCount_status s hbit (by decide)
  · rw [class5_canary]
    rfl

/-! ### The events -/

/-- The device as THERMAL_WARN leaves it before the record. -/
def warnedAt (s : State) (w : Nat) : State :=
  causeAll { atTime s w with power := { s.power with warned := true } } icThermal

theorem exec_thermalWarn {s : State} (w : Nat) (hs : asleep s = false) (hwarned : s.power.warned = false) :
    exec (.thermalWarn w) s = .next (recordFault (warnedAt s w) 44 0 none) := by
  change execThermalWarn w s = _
  simp only [execThermalWarn, hs, hwarned, Bool.not_false, Bool.and_self, act_true]
  rfl

theorem exec_thermalThrottle {s : State} (w : Nat) (hs : asleep s = false) (hthrottle : s.power.throttle = false) :
    exec (.thermalThrottle w) s = .next (replaceAll
      (recordFault { atTime s w with power := { s.power with throttle := true, coolSince := none } } 44 2 none)) := by
  change execThermalThrottle w s = _
  simp only [execThermalThrottle, hs, hthrottle, Bool.not_false, Bool.and_self, act_true]
  rfl

/-- The device as THROTTLE_RELEASE finds it: at 105 °C or below the warning is released. -/
def cooled (s : State) (temp : Int) (w : Nat) : State :=
  if temp ≤ 1680 then { atTime s w with power := { s.power with warned := false } } else atTime s w

theorem exec_throttleRelease {s : State} {temp : Int} {w a : Nat} (hs : asleep s = false) (hthrottle : s.power.throttle = true)
    (htemp : temp ≤ 1840) (hcool : s.power.coolSince = some a) (hwait : a + 1000000000 ≤ max s.now w) :
    exec (.throttleRelease temp w) s = .next (settleDegraded (larderUpdate { cooled s temp w with
      power := { (cooled s temp w).power with throttle := false, coolSince := none } })) := by
  change execThrottleRelease temp w s = _
  unfold execThrottleRelease cooled
  rw [act_awake hs]
  by_cases hwarm : temp ≤ 1680
  · simp only [hwarm, if_true, hthrottle, hcool, atTime, Bool.not_true, Bool.false_eq_true, if_false, Int.not_lt.mpr htemp, hwait]
  · simp only [hwarm, if_true, hthrottle, hcool, atTime, Bool.not_true, Bool.false_eq_true, if_false, Int.not_lt.mpr htemp, hwait]

theorem exec_thermtrip {s : State} (w : Nat) (hs : dead s = false) :
    exec (.thermtrip w) s = .next (class5 { atTime s w with canary := { s.canary with thermtripN := false } } 44) := by
  change execThermtrip w s = _
  simp only [execThermtrip, hs, Bool.not_false, act_true]
  rfl

theorem exec_tamperDetect {s : State} (w : Nat) (hs : dead s = false) :
    exec (.tamperDetect w) s = .next (class5 (atTime s w) 42) := by
  change execTamperDetect w s = _
  simp only [execTamperDetect, hs, Bool.not_false, act_true]

/-- At half the clock of 1600 MHz the cores run at 800 MHz, and slower under a stretch. -/
theorem coreClock_of_throttle {s : State} (h : s.power.throttle = true) : coreClock s ≤ 800 := by
  unfold coreClock
  simp only [h, if_true]
  split <;> decide

/-- Settles O14: a warning is a class 0 record, a throttle a class 2 fault after which the sessions are placed again, and the last
two are class 5. -/
theorem thermalAndTamperComplete : Obligations.ThermalAndTamperComplete := by
  intro s w
  refine ⟨?_, ?_, ?_, ?_, ?_⟩
  · intro hs hwarned
    have hrun := exec_thermalWarn w hs hwarned
    have hcause : CauseSet (warnedAt s w) 0 5 := causeSet_causeAll _ (zero_mem_allFns _) (by decide)
    exact ⟨_, hrun, by simp [warnedAt], causeSet_class0 44 none hcause, by simp [recordFault_class0, warnedAt, canaryCount, draw],
      exec_frames _ s _ hrun .mode (by simp [writes]), exec_frames _ s _ hrun .sessions (by simp [writes]),
      exec_frames _ s _ hrun .hbm (by simp [writes])⟩
  · intro hs hthrottle
    have halarm := alarmed_replaceAll (alarmed_of_class2
      { atTime s w with power := { s.power with throttle := true, coolSince := none } } none (by decide : 44 < 64))
    obtain ⟨hdegraded, hstatus⟩ := halarm
    exact ⟨_, exec_thermalThrottle w hs hthrottle, by simp, hdegraded, hstatus, coreClock_of_throttle (by simp)⟩
  · intro temp a hs hthrottle htemp hcool hwait
    have hrun := exec_throttleRelease hs hthrottle htemp hcool hwait
    exact ⟨_, hrun, by simp, exec_frames _ s _ hrun .mode (by simp [writes]), exec_frames _ s _ hrun .sessions (by simp [writes]),
      exec_frames _ s _ hrun .hbm (by simp [writes])⟩
  · intro hs
    obtain ⟨hsealed, hstatus, htrip⟩ := class5_effect { atTime s w with canary := { s.canary with thermtripN := false } }
      (by decide : 44 < 64)
    exact ⟨_, exec_thermtrip w hs, hsealed, htrip, hstatus⟩
  · intro hs
    obtain ⟨hsealed, hstatus, -⟩ := class5_effect (atTime s w) (by decide : 42 < 64)
    exact ⟨_, exec_tamperDetect w hs, hsealed, hstatus⟩

end Sys2Proof.Machine
end

section
/-! PROOFS. Staging of firmware (R413 to R418, Table 21.2) and the sideband (R419, R420): what staging holds after a change of
STATE, then one equation per command of the mailbox and of the sideband. -/

namespace Sys2Proof.Machine

/-! ### What staging holds (R413 to R417) -/

/-- A record of the log leaves what staging holds. -/
@[simp] theorem logEvent_staging (s : State) (code cls source : Nat) (arg0 arg1 : Option Nat) :
    (logEvent s code cls source arg0 arg1).foreman.stage = s.foreman.stage ∧
      (logEvent s code cls source arg0 arg1).foreman.owner = s.foreman.owner ∧
      (logEvent s code cls source arg0 arg1).foreman.committed = s.foreman.committed ∧
      (logEvent s code cls source arg0 arg1).foreman.staged = s.foreman.staged ∧
      (logEvent s code cls source arg0 arg1).foreman.stagedFacts = s.foreman.stagedFacts ∧
      (logEvent s code cls source arg0 arg1).foreman.imageLen = s.foreman.imageLen ∧
      (logEvent s code cls source arg0 arg1).foreman.trialLeft = s.foreman.trialLeft ∧
      (logEvent s code cls source arg0 arg1).foreman.slotA = s.foreman.slotA ∧
      (logEvent s code cls source arg0 arg1).foreman.slotB = s.foreman.slotB := by
  unfold logEvent logRec
  simp

/-- A change of STATE changes STATE alone. -/
@[simp] theorem stageTo_staging (s : State) (x : StageState) :
    (stageTo s x).foreman.stage = x ∧ (stageTo s x).foreman.owner = s.foreman.owner ∧
      (stageTo s x).foreman.committed = s.foreman.committed ∧ (stageTo s x).foreman.staged = s.foreman.staged ∧
      (stageTo s x).foreman.stagedFacts = s.foreman.stagedFacts ∧ (stageTo s x).foreman.imageLen = s.foreman.imageLen ∧
      (stageTo s x).foreman.trialLeft = s.foreman.trialLeft ∧ (stageTo s x).foreman.slotA = s.foreman.slotA ∧
      (stageTo s x).foreman.slotB = s.foreman.slotB := by
  simp [stageTo]

/-- Writing a slot leaves the rest of staging. -/
@[simp] theorem slotPut_staging (s : State) (n : Nat) (x : SlotState) :
    (slotPut s n x).foreman.stage = s.foreman.stage ∧ (slotPut s n x).foreman.owner = s.foreman.owner ∧
      (slotPut s n x).foreman.committed = s.foreman.committed ∧ (slotPut s n x).foreman.staged = s.foreman.staged ∧
      (slotPut s n x).foreman.stagedFacts = s.foreman.stagedFacts ∧ (slotPut s n x).foreman.imageLen = s.foreman.imageLen ∧
      (slotPut s n x).foreman.trialLeft = s.foreman.trialLeft ∧ (slotPut s n x).foreman.platform = s.foreman.platform := by
  unfold slotPut
  split <;> simp

/-- A slot reads the same in states whose slots are the same. -/
theorem slotGet_eq_of_slots {s t : State} (hA : t.foreman.slotA = s.foreman.slotA) (hB : t.foreman.slotB = s.foreman.slotB)
    (n : Nat) : slotGet t n = slotGet s n := by
  simp only [slotGet, hA, hB]

@[simp] theorem slotGet_slotPut (s : State) (n : Nat) (x : SlotState) : slotGet (slotPut s n x) n = x := by
  unfold slotGet slotPut
  by_cases hn : n = 0 <;> simp [hn]

@[simp] theorem slotGet_stageTo (s : State) (x : StageState) (n : Nat) : slotGet (stageTo s x) n = slotGet s n :=
  slotGet_eq_of_slots (by simp) (by simp) n

@[simp] theorem slotGet_approve (s : State) (r : CmdRef) (result n : Nat) : slotGet (approve s r result) n = slotGet s n :=
  slotGet_eq_of_slots (by simp) (by simp) n

@[simp] theorem slotGet_succeed (s : State) (r : CmdRef) (result n : Nat) : slotGet (succeed s r result) n = slotGet s n :=
  slotGet_eq_of_slots (by simp) (by simp) n

@[simp] theorem slotGet_markStarted (s : State) (r : CmdRef) (n : Nat) : slotGet (markStarted s r) n = slotGet s n :=
  slotGet_eq_of_slots (by simp) (by simp) n

@[simp] theorem stagingSlot_markStarted (s : State) (r : CmdRef) : stagingSlot (markStarted s r) = stagingSlot s := by
  simp [stagingSlot]

@[simp] theorem imageDefect_markStarted (s : State) (r : CmdRef) (i : ImageFacts) :
    imageDefect (markStarted s r) i = imageDefect s i := by
  simp only [imageDefect, markStarted_same]

@[simp] theorem serviceCheck_markStarted (s : State) (r : CmdRef) (n : Nat) :
    serviceCheck (markStarted s r) n = serviceCheck s n := by
  simp [serviceCheck]

@[simp] theorem holds_markStarted (s : State) (r : CmdRef) (fn : Nat) (officer : Bool) :
    holds (markStarted s r) fn officer = holds s fn officer := by
  simp [holds]

@[simp] theorem roleCheck_markStarted (s : State) (r : CmdRef) (fn : Nat) (officer : Bool) :
    roleCheck (markStarted s r) fn officer = roleCheck s fn officer := by
  simp [roleCheck]

/-- A service that is available answers (R431). -/
theorem serviceCheck_of_available {s : State} {n : Nat} (h : s.sec.unavailable.contains n = false) : serviceCheck s n = none := by
  rw [serviceCheck, h]
  rfl

@[simp] theorem roleCheck_none (s : State) (fn : Nat) (officer : Bool) :
    roleCheck s fn officer = none ↔ holds s fn officer = true := by
  unfold roleCheck
  cases holds s fn officer <;> simp

/-- A command that a check of its own refuses completes with the refusal. -/
theorem Starts.serve_refuses {s : State} {r : CmdRef} {op : Nat} {i : InFlight} {a : Reply} (h : Starts s r op i)
    {chk : State → Bytes → Option Reply} (k : State → Bytes → State) (hchk : chk (markStarted s r) i.entry = some a) :
    Machine.serve s r op chk k = .next (finish (markStarted s r) r a) := by
  simp [Machine.serve, h.found, h.judged, h.buffer, hchk]

/-- Staging as UPDATE_OPEN and REQUEST_UPDATE leave it. -/
theorem openStaging_staging (s : State) (owner len : Nat) :
    (openStaging s owner len).foreman.stage = .staging ∧ (openStaging s owner len).foreman.owner = owner ∧
      (openStaging s owner len).foreman.staged = [] ∧ (openStaging s owner len).foreman.imageLen = len ∧
      (openStaging s owner len).foreman.committed = s.foreman.committed ∧
      slotGet (openStaging s owner len) (stagingSlot s) = { slotGet s (stagingSlot s) with valid := false } := by
  refine ⟨by simp [openStaging], by simp [openStaging], by simp [openStaging], by simp [openStaging], by simp [openStaging], ?_⟩
  rw [openStaging, slotGet_stageTo]
  exact slotGet_slotPut s _ _

theorem markVerified_staging (s : State) (i : ImageFacts) :
    (markVerified s i).foreman.stage = .verified ∧ (markVerified s i).foreman.stagedFacts = i ∧
      (markVerified s i).foreman.staged = s.foreman.staged := by
  simp [markVerified]

/-- Staging as an activation leaves it: the slot is the image, and the committed slot is the same one. -/
theorem activateStaged_staging (s : State) :
    (activateStaged s).foreman.stage = .activationPending ∧ (activateStaged s).foreman.trialLeft = 3 ∧
      (activateStaged s).foreman.committed = s.foreman.committed ∧
      slotGet (activateStaged s) (stagingSlot s) =
        ⟨true, s.foreman.staged, s.foreman.stagedFacts, (slotGet s s.foreman.committed).platform⟩ := by
  refine ⟨by simp [activateStaged], by simp [activateStaged], by simp [activateStaged], ?_⟩
  rw [activateStaged, slotGet_stageTo]
  exact slotGet_slotPut s _ _

/-- Staging as a commit leaves it. -/
theorem commitTrial_staging (s : State) (raise : Bool) :
    (commitTrial s raise).foreman.stage = .idle ∧ (commitTrial s raise).foreman.committed = stagingSlot s ∧
      (commitTrial s raise).foreman.trialLeft = 0 ∧ (commitTrial s raise).foreman.owner = 0 := by
  simp [commitTrial]

/-- A commit with RAISE_SVN raises the minima of OTP by those of the trial slot; one without leaves OTP. -/
theorem commitTrial_sec (s : State) :
    (commitTrial s true).sec = { s.sec with otp := { s.sec.otp with
        minSvn := raiseSvn s.sec.otp.minSvn (slotGet s (stagingSlot s)).facts.svns } } ∧
      (commitTrial s false).sec = s.sec := by
  simp [commitTrial, stageTo]

theorem abortStaging_of_open {s : State} (h : s.foreman.stage = .staging ∨ s.foreman.stage = .verified) :
    (abortStaging s).foreman.stage = .idle ∧ (abortStaging s).foreman.owner = 0 ∧ (abortStaging s).foreman.staged = [] ∧
      slotGet (abortStaging s) (stagingSlot s) = { slotGet s (stagingSlot s) with valid := false } := by
  have hslot : ∀ x : SlotState, slotGet { slotPut s (stagingSlot s) x with
      foreman := { (slotPut s (stagingSlot s) x).foreman with owner := 0, staged := [] } } (stagingSlot s) = x :=
    slotGet_slotPut s _
  obtain h | h := h <;> exact ⟨by simp [abortStaging, h], by simp [abortStaging, h], by simp [abortStaging, h],
    by simp only [abortStaging, h, slotGet_stageTo, hslot]⟩

theorem abortStaging_of_idle {s : State} (h : s.foreman.stage = .idle) : abortStaging s = s := by
  simp [abortStaging, h]

/-- Once activated, an abort ends the trial: a pending one at once, one in force at the next start. -/
theorem abortStaging_of_activated {s : State} (h : s.foreman.stage = .activationPending ∨ s.foreman.stage = .trial) :
    (abortStaging s).foreman.trialLeft = 0 ∧ (abortStaging s).foreman.committed = s.foreman.committed ∧
      (s.foreman.stage = .activationPending → (abortStaging s).foreman.stage = .idle ∧ (abortStaging s).foreman.owner = 0) ∧
      (s.foreman.stage = .trial → (abortStaging s).foreman.stage = .trial) := by
  obtain h | h := h <;> simp [abortStaging, h]

/-! ### The commands of the mailbox -/

section
variable {s : State} {r : CmdRef} {i : InFlight}

theorem exec_updateOpen_of_free (h : Starts s r 0x90 i) (hservice : s.sec.unavailable.contains 8 = false)
    (hlo : 65536 ≤ u32 i.entry 24) (hhi : u32 i.entry 24 ≤ 25161728) (hlife : s.sec.otp.lifecycle ≠ .decommissioned)
    (howner : s.foreman.owner = 0) (htrial : s.foreman.stage ≠ .trial) :
    exec (.updateOpen r) s = .next (approve (openStaging (markStarted s r) 1 (u32 i.entry 24)) r (stagingSlot s)) := by
  change execUpdateOpen r s = _
  unfold execUpdateOpen
  rw [h.serve _ (by simp [serviceCheck_of_available hservice, inRange, hlo, hhi, noFirmware, hlife, stagingBusy, howner, htrial])]
  simp only [stagingSlot_markStarted]

theorem exec_updateWrite_of_next {d : Bytes} (h : Starts s r 0x91 i) (hservice : s.sec.unavailable.contains 8 = false)
    (howner : s.foreman.owner = 1) (hstage : s.foreman.stage = .staging) (hlo : 1 ≤ cmdDataLen i.entry)
    (hhi : cmdDataLen i.entry ≤ 262144) (hroom : s.foreman.staged.length + cmdDataLen i.entry ≤ s.foreman.imageLen)
    (halign : u32 i.entry 24 % 65536 = 0) (hnext : u32 i.entry 24 = s.foreman.staged.length) :
    exec (.updateWrite r d) s = .next (approve { markStarted s r with
      foreman := { s.foreman with staged := s.foreman.staged ++ readData s r.fn i.entry d } } r
        (s.foreman.staged ++ readData s r.fn i.entry d).length) := by
  rw [hnext] at halign
  change execUpdateWrite r d s = _
  unfold execUpdateWrite
  rw [h.serve _ (by simp [serviceCheck_of_available hservice, mailboxIn, howner, hstage, inRange, hlo, hhi, hroom, halign, hnext])]
  simp only [markStarted_leaves, readData_markStarted]

/-- The image that UPDATE_VERIFY judges has arrived whole. -/
def StagedWhole (s : State) : Prop :=
  s.sec.unavailable.contains 8 = false ∧ s.foreman.owner = 1 ∧ s.foreman.stage = .staging ∧
    s.foreman.staged.length = s.foreman.imageLen

theorem exec_updateVerify_of_good (h : Starts s r 0x92 i) (hwhole : StagedWhole s)
    (hgood : imageDefect s (Config.imageFacts s.foreman.staged) = none) :
    exec (.updateVerify r) s = .next (approve (markVerified (markStarted s r) (Config.imageFacts s.foreman.staged)) r
      (Config.imageFacts s.foreman.staged).determinismVersion) := by
  obtain ⟨hservice, howner, hstage, hlen⟩ := hwhole
  change execUpdateVerify r s = _
  unfold execUpdateVerify
  rw [h.serve _ (by simp [serviceCheck_of_available hservice, mailboxIn, howner, hstage, hlen, hgood])]
  simp only [markStarted_leaves]

theorem exec_updateVerify_of_defect {a : Reply} (h : Starts s r 0x92 i) (hwhole : StagedWhole s)
    (hdefect : imageDefect s (Config.imageFacts s.foreman.staged) = some a) :
    exec (.updateVerify r) s = .next (finish (markStarted s r) r a) := by
  obtain ⟨hservice, howner, hstage, hlen⟩ := hwhole
  change execUpdateVerify r s = _
  unfold execUpdateVerify
  exact h.serve_refuses _ (by simp [serviceCheck_of_available hservice, orElse, mailboxIn, howner, hstage, hlen, hdefect])

/-- The mailbox holds a verified image. -/
def ImageVerified (s : State) : Prop :=
  s.sec.unavailable.contains 8 = false ∧ s.foreman.owner = 1 ∧ s.foreman.stage = .verified

theorem exec_updateActivate_later (h : Starts s r 0x93 i) (hverified : ImageVerified s) (hwhen : u8 i.entry 24 = 0) :
    exec (.updateActivate r) s = .next (approve (activateStaged (markStarted s r)) r 0) := by
  obtain ⟨hservice, howner, hstage⟩ := hverified
  change execUpdateActivate r s = _
  unfold execUpdateActivate
  rw [h.serve _ (by simp [serviceCheck_of_available hservice, mailboxIn, howner, hstage, hwhen])]
  simp only [hwhen, Nat.zero_ne_one, if_false]

theorem exec_updateActivate_now (h : Starts s r 0x93 i) (hverified : ImageVerified s) (hwhen : u8 i.entry 24 = 1)
    (hsessions : s.sessions = []) :
    exec (.updateActivate r) s = .next (resetCore (approve (activateStaged (markStarted s r)) r 0) true) := by
  obtain ⟨hservice, howner, hstage⟩ := hverified
  change execUpdateActivate r s = _
  unfold execUpdateActivate
  rw [h.serve _ (by simp [serviceCheck_of_available hservice, mailboxIn, howner, hstage, hwhen, sessList, hsessions])]
  simp only [hwhen, if_true]

theorem exec_updateCommit_of_keep (h : Starts s r 0x94 i) (hraise : u8 i.entry 24 = 0) (hstage : s.foreman.stage = .trial) :
    exec (.updateCommit r) s = .next (succeed (commitTrial (markStarted s r) false) r 0) := by
  change execUpdateCommit r s = _
  unfold execUpdateCommit
  rw [h.serve _ (by simp [hraise, bitOf, hstage])]
  simp [hraise, bitOf]

theorem exec_updateCommit_of_raise (h : Starts s r 0x94 i) (hraise : u8 i.entry 24 = 1) (hrole : holds s r.fn true = true)
    (hstage : s.foreman.stage = .trial) (hfuse : s.sec.vddFuse = true) :
    exec (.updateCommit r) s = .next (approve (commitTrial (markStarted s r) true) r 0) := by
  change execUpdateCommit r s = _
  unfold execUpdateCommit
  rw [h.serve _ (by simp [hraise, bitOf, hrole, hstage, hfuse])]
  simp [hraise, bitOf]

theorem exec_updateAbort (h : Starts s r 0x95 i) :
    exec (.updateAbort r) s = .next (succeed (abortStaging (markStarted s r)) r 0) := by
  change execUpdateAbort r s = _
  unfold execUpdateAbort
  rw [h.serve _ rfl]

/-- The 32 bytes of UPDATE_STATUS. -/
def statusBytes (s : State) : Bytes :=
  padTo 32 (le 1 s.foreman.committed ++ le 1 (stageCode s.foreman.stage) ++ le 1 s.foreman.trialLeft ++ le 1 s.foreman.owner
    ++ le 4 s.foreman.staged.length ++ le 4 s.foreman.stagedFacts.determinismVersion ++ le 4 s.foreman.stagedFacts.version
    ++ le 4 (activeFacts s).version)

theorem statusBytes_fields (s : State) :
    (statusBytes s).length = 32 ∧ u8 (statusBytes s) 0 = s.foreman.committed % 256 ∧
      u8 (statusBytes s) 1 = stageCode s.foreman.stage ∧ u8 (statusBytes s) 2 = s.foreman.trialLeft % 256 ∧
      u8 (statusBytes s) 3 = s.foreman.owner % 256 := by
  refine ⟨by simp [statusBytes, padTo, le, zeros], by simp [statusBytes, padTo, le, u8], ?_, by simp [statusBytes, padTo, le, u8],
    by simp [statusBytes, padTo, le, u8]⟩
  cases hstage : s.foreman.stage <;> simp [statusBytes, padTo, le, u8, hstage, stageCode]

theorem exec_updateStatus (h : Starts s r 0x96 i) (hlen : 32 ≤ cmdDataLen i.entry) :
    exec (.updateStatus r) s =
      .next (succeed (writeData (markStarted s r) r.fn i.entry (statusBytes (markStarted s r))) r 0) := by
  change execUpdateStatus r s = _
  unfold execUpdateStatus
  rw [h.serve _ (by simp [hlen])]
  rfl

theorem exec_setPlatformConfig_of_accepted {d : Bytes} (h : Starts s r 0x97 i) (hrole : holds s r.fn true = true)
    (hservice : s.sec.unavailable.contains 0x10 = false) (hlen : 64 ≤ cmdDataLen i.entry)
    (hrules : ∀ p ∈ platformRules (readData s r.fn i.entry d), p.1 = true) :
    exec (.setPlatformConfig r d) s = .next (approve (slotPut (markStarted s r) s.foreman.committed
      { slotGet s s.foreman.committed with platform := readPlatform (readData s r.fn i.entry d) }) r 0) := by
  change execSetPlatformConfig r d s = _
  unfold execSetPlatformConfig
  rw [h.serve _ (by
    simp only [secCheck, orElse_none, roleCheck_markStarted, roleCheck_none, serviceCheck_markStarted,
      serviceCheck_of_available hservice, fieldCheck_none, dataCheck_none, readData_markStarted]
    exact ⟨hrole, trivial, by simp [hlen], hrules⟩)]
  simp only [markStarted_leaves, readData_markStarted, slotGet_markStarted]

end

theorem exec_autoCommit_of_due {s : State} {w a : Nat} (hs : asleep s = false) (hauto : s.foreman.platform.autoCommit = true)
    (hstage : s.foreman.stage = .trial) (hfuse : s.sec.vddFuse = true) (hsince : s.foreman.readySince = some a)
    (hdue : a + 60000000000 ≤ max s.now w) :
    exec (.autoCommit w) s = .next (commitTrial (atTime s w) true) := by
  change execAutoCommit w s = _
  simp only [execAutoCommit, hs, hauto, hstage, hfuse, hsince, hdue, Bool.not_false, Bool.and_self, beq_self_eq_true, decide_true,
    act_true]

/-- Settles O22: each command's equation says what it makes of staging, and the lemmas above what that leaves there. -/
theorem updateCommandsComplete : Obligations.UpdateCommandsComplete := by
  refine ⟨fun s r i => ⟨?_, ?_, ?_, ?_, ?_, ?_, ?_, ?_, ?_, ?_, ?_⟩, fun s => ⟨?_, ?_⟩⟩
  · intro h hservice hlo hhi hlife howner htrial
    have hrun := exec_updateOpen_of_free h hservice hlo hhi hlife howner htrial
    obtain ⟨hstage, hown, hstaged, hlen, hcommitted, hslot⟩ := openStaging_staging (markStarted s r) 1 (u32 i.entry 24)
    rw [stagingSlot_markStarted] at hslot
    exact ⟨_, hrun, by simpa using hstage, by simpa using hown, by simpa using hstaged, by simpa using hlen, by simp [hslot],
      by simpa using hcommitted, by simp, by simp,
      by simp, by simp⟩
  · intro d h hservice howner hstage hlo hhi hroom halign hnext
    have hrun := exec_updateWrite_of_next (d := d) h hservice howner hstage hlo hhi hroom halign hnext
    exact ⟨_, hrun, by simp, by simpa using hstage, by simp,
      by simp, by simp,
      by simp⟩
  · intro h hservice howner hstage hlen
    have hwhole : StagedWhole s := ⟨hservice, howner, hstage, hlen⟩
    cases hdefect : imageDefect s (Config.imageFacts s.foreman.staged) with
    | none =>
      have hrun := exec_updateVerify_of_good h hwhole hdefect
      obtain ⟨hverified, hfacts, -⟩ := markVerified_staging (markStarted s r) (Config.imageFacts s.foreman.staged)
      exact ⟨_, hrun, by simpa using hverified, fun _ => by simpa using hfacts, by simp,
        by simp, by simp⟩
    | some a =>
      have hrun := exec_updateVerify_of_defect h hwhole hdefect
      exact ⟨_, hrun, by simpa using hstage, nofun, by simp,
        by simp, by simp⟩
  · intro h hservice hwhen howner hstage
    obtain ⟨hpending, htrial, hcommitted, hslot⟩ := activateStaged_staging (markStarted s r)
    rw [stagingSlot_markStarted] at hslot
    exact ⟨_, exec_updateActivate_later h ⟨hservice, howner, hstage⟩ hwhen, by simpa using hpending, by simpa using htrial,
      by simp [hslot], by simp [hslot], by simpa using hcommitted, by simp, by simp, by simp⟩
  · intro h hservice hwhen howner hstage hsessions
    obtain ⟨hpending, -⟩ := activateStaged_staging (markStarted s r)
    refine ⟨_, exec_updateActivate_now h ⟨hservice, howner, hstage⟩ hwhen hsessions, ?_, rfl, rfl, by simp⟩
    simp [resetCore, keepFlash, hpending]
  · intro h hraise hstage
    have hrun := exec_updateCommit_of_keep h hraise hstage
    obtain ⟨hidle, hcommitted, htrial, howner⟩ := commitTrial_staging (markStarted s r) false
    exact ⟨_, hrun, by simpa using hcommitted, by simpa using hidle, by simpa using htrial, by simpa using howner,
      by simp [commitTrial_sec], by simp, by simp⟩
  · intro h hraise hrole hstage hfuse
    have hrun := exec_updateCommit_of_raise h hraise hrole hstage hfuse
    obtain ⟨hidle, hcommitted, -⟩ := commitTrial_staging (markStarted s r) true
    exact ⟨_, hrun, by simpa using hcommitted, by simpa using hidle, by simp [commitTrial_sec], by simp [commitTrial_sec],
      by simp, by simp⟩
  · intro h hstage
    have hrun := exec_updateAbort h
    obtain ⟨hidle, howner, hstaged, hslot⟩ := abortStaging_of_open (s := markStarted s r) (by simpa using hstage)
    rw [stagingSlot_markStarted] at hslot
    exact ⟨_, hrun, by simpa using hidle, by simpa using howner, by simpa using hstaged, by simp [hslot],
      by simp, by simp,
      by simp⟩
  · intro h hstage
    rw [exec_updateAbort h, abortStaging_of_idle (by simpa using hstage)]
  · intro h hstage
    have hrun := exec_updateAbort h
    have hleft := abortStaging_of_activated (s := markStarted s r) (by simpa using hstage)
    simp only [markStarted_leaves] at hleft
    obtain ⟨htrial, hcommitted, hpending, hforce⟩ := hleft
    exact ⟨_, hrun, by simpa using htrial, by simpa using hcommitted, by simpa using hpending, by simpa using hforce,
      by simp, by simp,
      by simp⟩
  · intro h hlen
    have hfields := statusBytes_fields (markStarted s r)
    simp only [markStarted_leaves] at hfields
    obtain ⟨hlength, hcommitted, hstage, htrial, howner⟩ := hfields
    exact ⟨_, hlength, hcommitted, hstage, htrial, howner, exec_updateStatus h hlen⟩
  · intro w a hs hauto hstage hfuse hsince hdue
    have hrun := exec_autoCommit_of_due hs hauto hstage hfuse hsince hdue
    obtain ⟨hidle, hcommitted, htrial, -⟩ := commitTrial_staging (atTime s w) true
    exact ⟨_, hrun, hcommitted, hidle, htrial, by simp,
      by simp, by simp, by simp [commitTrial_sec]⟩
  · intro r i d h hrole hservice hlen hrules
    have hrun := exec_setPlatformConfig_of_accepted h hrole hservice hlen hrules
    exact ⟨_, hrun, by simp, by simp, by simp,
      by simp, by simp⟩

end Sys2Proof.Machine
end

section
/-! PROOFS. The sideband (R413, R419, R420): an answer is the last thing sent, then one equation per command. -/

namespace Sys2Proof.Machine

/-- An answer is sent, and writes nothing. -/
@[simp] theorem answerSide_out (s : State) (l : List Nat) : (answerSide s l).out.head? = some (.sideband l) := rfl

@[simp] theorem answerSide_foreman (s : State) (l : List Nat) : (answerSide s l).foreman = s.foreman := rfl

@[simp] theorem slotGet_answerSide (s : State) (l : List Nat) (n : Nat) : slotGet (answerSide s l) n = slotGet s n := rfl

/-- The device once an image has come over the sideband. -/
def transferred (s : State) (img : Bytes) (w : Nat) : State :=
  { atTime s w with foreman := { s.foreman with staged := img, imageLen := img.length } }

@[simp] theorem imageDefect_transferred (s : State) (img : Bytes) (w : Nat) (i : ImageFacts) :
    imageDefect (transferred s img w) i = imageDefect s i := rfl

section
variable {s : State} {w : Nat}

theorem exec_requestUpdate_of_free (hs : asleep s = false) (howner : s.foreman.owner = 0)
    (hlife : s.sec.otp.lifecycle ≠ .decommissioned) (hservice : s.sec.unavailable.contains 8 = false)
    (htrial : s.foreman.stage ≠ .trial) :
    exec (.requestUpdate w) s = .next (answerSide (openStaging (atTime s w) 2 25161728) [0]) := by
  have hbusy : (noFirmware (atTime s w) || s.sec.unavailable.contains 8 || s.foreman.stage == .trial) = false := by
    rw [hservice]
    simp [noFirmware, hlife, htrial]
  change act s (sidebandOn s) (if s.foreman.owner != 0 then _ else if noFirmware (atTime s w) || s.sec.unavailable.contains 8
    || s.foreman.stage == .trial then _ else _) = _
  rw [sidebandOn, act_awake hs, hbusy, howner]
  rfl

theorem exec_transferComplete_of_staging (img : Bytes) (hs : asleep s = false) (howner : s.foreman.owner = 2)
    (hstage : s.foreman.stage = .staging) :
    exec (.transferComplete img w) s = .next (match imageDefect s (Config.imageFacts img) with
      | some a => answerSide (transferred s img w) [1, a.status, a.detail]
      | none => answerSide (markVerified (transferred s img w) (Config.imageFacts img)) [0]) := by
  have howned : (decide ((atTime s w).foreman.owner = 2) &&
      ((atTime s w).foreman.stage == .staging || (atTime s w).foreman.stage == .verified)) = true := by
    simp [atTime, howner, hstage]
  change execTransferComplete img w s = _
  unfold execTransferComplete
  rw [sidebandOn, act_awake hs]
  dsimp only
  rw [if_pos howned]
  rfl

theorem exec_activateFirmware_of_verified (hs : asleep s = false) (howner : s.foreman.owner = 2)
    (hstage : s.foreman.stage = .verified) :
    exec (.activateFirmware false w) s = .next (answerSide (activateStaged (atTime s w)) [0]) := by
  change execActivateFirmware false w s = _
  unfold execActivateFirmware
  rw [sidebandOn, act_awake hs]
  simp only [atTime, howner, hstage, decide_true, beq_self_eq_true, Bool.and_self, if_true, Bool.false_and, Bool.false_eq_true,
    if_false]

end

/-- Settles O23: discovery answers at once; a transfer is judged as UPDATE_VERIFY judges, and answered by what it finds. -/
theorem sidebandCompletes : Obligations.SidebandCompletes := by
  intro s w hs
  refine ⟨?_, ?_, ?_, ?_, ?_, ?_, ?_⟩
  · intro eid hlo hhi
    change execMctpSetEndpointId 0 eid s = _
    simp only [execMctpSetEndpointId, sidebandOn, act_awake hs, inRange, hlo, hhi, Nat.zero_le, decide_true, Bool.and_self, if_true]
    rfl
  · exact act_awake hs
  · intro n hn
    refine ⟨(draw s (2 ^ 32)).1, ?_⟩
    have htype : (decide (n = 0) || decide (n = 1) || decide (n = 0xFF)) = true := by simpa [or_assoc] using hn
    change execMctpGetVersionSupport n s = _
    simp only [execMctpGetVersionSupport, sidebandOn, act_awake hs, htype, if_true]
    rfl
  · exact act_awake hs
  · intro howner hlife hservice htrial
    obtain ⟨hstage, hown, hstaged, -⟩ := openStaging_staging (atTime s w) 2 25161728
    exact ⟨_, exec_requestUpdate_of_free hs howner hlife hservice htrial, hown, hstage, hstaged, rfl, by simp [answerSide],
      by simp [answerSide], by simp [answerSide]⟩
  · intro img howner hstage
    have hrun := exec_transferComplete_of_staging (w := w) img hs howner hstage
    refine ⟨_, hrun, ?_⟩
    cases hdefect : imageDefect s (Config.imageFacts img) with
    | none =>
      obtain ⟨hverified, hfacts, hstaged⟩ := markVerified_staging (transferred s img w) (Config.imageFacts img)
      exact ⟨hstaged, hverified, rfl, fun _ => hfacts, by simp [answerSide, markVerified, stageTo, transferred],
        by simp [answerSide, markVerified, stageTo, transferred], by simp [answerSide, markVerified, stageTo, transferred]⟩
    | some a => exact ⟨rfl, hstage, rfl, nofun, rfl, rfl, rfl⟩
  · intro howner hstage
    obtain ⟨hpending, htrial, -, hslot⟩ := activateStaged_staging (atTime s w)
    exact ⟨_, exec_activateFirmware_of_verified hs howner hstage, hpending, htrial, congrArg SlotState.image hslot, rfl,
      by simp [answerSide], by simp [answerSide], by simp [answerSide]⟩

end Sys2Proof.Machine
end

section
/-! PROOFS. Heartbeat, telemetry, logs, aging and rotation (R411, R421 to R424, R426, R427). -/

namespace Sys2Proof.Machine

/-! ### The sweep (R421) -/

@[simp] theorem countCores_now (s : State) : (countCores s).now = s.now := by
  refine foldl_view State.now (fun s c => ?_) _ s
  have hfree : ∀ {l t}, freeWords s 4 = (l, t) → t.now = s.now := fun h => congrArg (fun p => p.2.now) h.symm
  split <;> next h => simpa using hfree h

/-- PTP time is the same in states with the same clock. -/
theorem ptpTime_eq_of_clock {s t : State} (hnow : t.now = s.now) (hnet : t.net = s.net) : ptpTime t = ptpTime s := by
  simp only [ptpTime, toPtp, hnow, hnet]

/-- A sweep is stamped with the time at which it ends, which is that of its start. -/
theorem runSweep_samplePtp (s : State) (sensors : List Int) : (runSweep s sensors).foreman.samplePtp = some (ptpTime s) := by
  simp only [runSweep, larderUpdate_rest]
  exact congrArg some (ptpTime_eq_of_clock (by simp [freeWords]) (by simp))

theorem exec_telemetrySweep_of_due {s : State} {w : Nat} (v : List Int) (hs : asleep s = false) (hready : s.ready = true)
    (hrom : s.foreman.bootRom = false)
    (hdue : ∀ p, s.foreman.samplePtp = some p → p / 10000000 < ptpTime (atTime s w) / 10000000) :
    exec (.telemetrySweep v w) s = .next (runSweep (atTime s w) v) := by
  have hwhen : (match s.foreman.samplePtp with
      | some p => decide (p / 10000000 < ptpTime (atTime s w) / 10000000)
      | none => true) = true := by
    cases hsample : s.foreman.samplePtp with
    | none => rfl
    | some p => simpa using hdue p hsample
  change act s (!asleep s && s.ready && !s.foreman.bootRom && _) _ = _
  rw [hs, hready, hrom]
  exact act_of_true hwhen

/-! ### Telemetry and the logs (R422 to R424) -/

@[simp] theorem itemBytes_markStarted (s : State) (r : CmdRef) : itemBytes (markStarted s r) = itemBytes s := by
  funext fn n
  simp [itemBytes, visibleRows]

@[simp] theorem itemsSize_markStarted (s : State) (r : CmdRef) : itemsSize (markStarted s r) = itemsSize s := by
  funext fn mask
  simp [itemsSize, itemSize, visibleRows]

@[simp] theorem logFrom_markStarted (s : State) (r : CmdRef) : logFrom (markStarted s r) = logFrom s := by
  funext fn log start
  simp [logFrom]

section
variable {s : State} {r : CmdRef} {i : InFlight}

/-- Without a data buffer GET_TELEMETRY returns the size. -/
theorem exec_getTelemetry_of_size (h : Starts s r 0x09 i) (hlen : cmdDataLen i.entry = 0) (hmask : u32 i.entry 24 < 65536)
    (hpf : r.fn = 0) :
    exec (.getTelemetry r) s = .next (succeed (markStarted s r) r (itemsSize s 0 (u32 i.entry 24))) := by
  change execGetTelemetry r s = _
  unfold execGetTelemetry
  rw [h.serve _ (by simp [hlen, hmask, hpf])]
  simp only [hlen, if_true, itemsSize_markStarted, hpf]

/-- After the first sweep GET_TELEMETRY writes the items of its mask. -/
theorem exec_getTelemetry_of_items {p : Int} (h : Starts s r 0x09 i) (hsample : s.foreman.samplePtp = some p)
    (hlen : cmdDataLen i.entry ≠ 0) (hmask : u32 i.entry 24 < 65536)
    (hroom : itemsSize s r.fn (u32 i.entry 24) ≤ cmdDataLen i.entry) (hsees : r.fn = 0 ∨ u32 i.entry 24 &&& 0xFFF5 = 0) :
    exec (.getTelemetry r) s = .next (succeed (writeData (markStarted s r) r.fn i.entry
      ((itemsOf (u32 i.entry 24)).flatMap (itemBytes s r.fn))) r (itemsSize s r.fn (u32 i.entry 24))) := by
  change execGetTelemetry r s = _
  unfold execGetTelemetry
  rw [h.serve _ (by simp [hmask, hroom, hsees])]
  simp only [hlen, if_false, telemetryBytes, markStarted_leaves, hsample, itemsSize_markStarted, itemBytes_markStarted]

theorem exec_getLog_of_log (h : Starts s r 0x08 i) (hlog : u8 i.entry 24 ≤ 1) :
    exec (.getLog r) s = .next (succeed (writeData (markStarted s r) r.fn i.entry
      (((logFrom s r.fn (u8 i.entry 24) (u64 i.entry 28)).take (cmdDataLen i.entry / 32)).flatMap recordBytes)) r
      ((logFrom s r.fn (u8 i.entry 24) (u64 i.entry 28)).take (cmdDataLen i.entry / 32)).length) := by
  change execGetLog r s = _
  unfold execGetLog
  rw [h.serve _ (by simp [hlog])]
  simp only [logFrom_markStarted]

end

/-- While the block has room the records are appended in their order. -/
theorem foldl_writeFlash (ok : Bool) (l : List EventRec) (s : State) (hroom : s.foreman.flashUsed + l.length ≤ 2046) :
    (l.foldl (writeFlash ok) s).foreman = { s.foreman with
      flashLog := s.foreman.flashLog ++ l, flashUsed := s.foreman.flashUsed + l.length } := by
  induction l generalizing s with
  | nil => simp
  | cons r l ih =>
    have hone : writeFlash ok s r = { s with foreman := { s.foreman with
        flashLog := s.foreman.flashLog ++ [r], flashUsed := s.foreman.flashUsed + 1 } } := by
      rw [List.length_cons] at hroom
      unfold writeFlash
      rw [if_pos (by omega)]
    rw [List.foldl_cons, hone, ih _ (by simp at hroom ⊢; omega)]
    simp [Nat.add_comm l.length, Nat.add_assoc]

theorem exec_flashLogWrite_of_pending {s : State} (ok : Bool) (w : Nat) (hs : asleep s = false) (hpending : s.foreman.flashPending ≠ []) :
    exec (.flashLogWrite ok w) s = .next { s.foreman.flashPending.foldl (writeFlash ok) (atTime s w) with
      foreman := { (s.foreman.flashPending.foldl (writeFlash ok) (atTime s w)).foreman with flashPending := [] } } :=
  act_of_true (by simp [hs, hpending])

/-! ### Aging (R426) -/

/-- The hours of the cores once an hour with these active minutes has ended. -/
def agedBy (minutes : List Nat) (hours : Tbl Nat) (cores : List Nat) : Tbl Nat :=
  cores.foldl (fun l c => if minutes.getD c 0 = 0 then l else tadd l c 1) hours

/-- A core that was active ages by one hour each time it is met. -/
theorem tget_agedBy (minutes : List Nat) (c : Nat) (cores : List Nat) (hours : Tbl Nat) :
    tget 0 (agedBy minutes hours cores) c = tget 0 hours c + (if minutes.getD c 0 = 0 then 0 else cores.count c) := by
  induction cores generalizing hours with
  | nil => simp [agedBy]
  | cons d cores ih =>
    refine (ih _).trans ?_
    dsimp only
    by_cases hd : minutes.getD d 0 = 0
    · rw [if_pos hd]
      by_cases hc : c = d
      · simp only [hc, hd, if_true]
      · rw [List.count_cons_of_ne (Ne.symm hc)]
    · rw [if_neg hd]
      by_cases hc : c = d
      · subst hc
        rw [if_neg hd, if_neg hd, tadd, tget_tset, List.count_cons_self]
        omega
      · rw [tadd, tget_tset_ne _ _ _ _ _ hc, List.count_cons_of_ne (Ne.symm hc)]

theorem tget_agedBy_all (minutes : List Nat) (hours : Tbl Nat) {c : Nat} (hc : c < 28) :
    tget 0 (agedBy minutes hours (List.range 28)) c = tget 0 hours c + (if minutes.getD c 0 = 0 then 0 else 1) := by
  have honce : ∀ d < 28, (List.range 28).count d = 1 := by decide
  rw [tget_agedBy, honce c hc]

theorem exec_agingWrite {s : State} (l : List Nat) (w : Nat) (hs : asleep s = false) :
    exec (.agingWrite l w) s = .next { atTime s w with foreman := { s.foreman with
      agingHours := agedBy l s.foreman.agingHours (List.range 28), agingFlash := agedBy l s.foreman.agingHours (List.range 28) } } :=
  act_awake hs

/-! ### Rotation (R427) -/

/-- What the check of cluster `k` reads, the same in two states. -/
structure Unturned (k : Nat) (s t : State) : Prop where
  now : t.now = s.now
  cores : t.cores = s.cores
  hours : t.foreman.agingHours = s.foreman.agingHours
  platform : t.foreman.platform = s.foreman.platform
  clusters : ∀ j, (clGet t j).fenced = (clGet s j).fenced ∧ (clGet t j).queue = (clGet s j).queue
  spare : (clGet t k).spare = (clGet s k).spare
  last : tfind t.foreman.lastRotation k = tfind s.foreman.lastRotation k
  rotating : tfind t.foreman.rotating k = tfind s.foreman.rotating k

theorem Unturned.refl (k : Nat) (s : State) : Unturned k s s := ⟨rfl, rfl, rfl, rfl, fun _ => ⟨rfl, rfl⟩, rfl, rfl, rfl⟩

theorem Unturned.trans {k : Nat} {s t u : State} (h1 : Unturned k s t) (h2 : Unturned k t u) : Unturned k s u :=
  ⟨h2.now.trans h1.now, h2.cores.trans h1.cores, h2.hours.trans h1.hours, h2.platform.trans h1.platform,
    fun j => ⟨(h2.clusters j).1.trans (h1.clusters j).1, (h2.clusters j).2.trans (h1.clusters j).2⟩,
    h2.spare.trans h1.spare, h2.last.trans h1.last, h2.rotating.trans h1.rotating⟩

/-- A record of the log leaves what aging and rotation keep. -/
@[simp] theorem logEvent_rotation (s : State) (code cls source : Nat) (arg0 arg1 : Option Nat) :
    (logEvent s code cls source arg0 arg1).foreman.agingHours = s.foreman.agingHours ∧
      (logEvent s code cls source arg0 arg1).foreman.platform = s.foreman.platform ∧
      (logEvent s code cls source arg0 arg1).foreman.lastRotation = s.foreman.lastRotation ∧
      (logEvent s code cls source arg0 arg1).foreman.rotating = s.foreman.rotating := by
  unfold logEvent logRec
  simp

/-- Removing a smaller key does not hide a larger one. -/
theorem tfind_tdel_of_lt {α : Type} (l : Tbl α) {j k : Nat} (h : j < k) : tfind (tdel l j) k = tfind l k := by
  induction l with
  | nil => rfl
  | cons p l ih =>
    obtain ⟨n, a⟩ := p
    unfold tdel
    split
    · next hn => rw [tfind, if_neg (by omega), if_neg (by omega)]
    · split
      · rfl
      · rw [tfind, tfind, ih]

/-- The cluster and its spare when a rotation ends. -/
def turned (s : State) (k x : Nat) : State :=
  { clSet s k { clGet s k with spare := some x } with
    foreman := { s.foreman with rotating := tdel s.foreman.rotating k, lastRotation := tset s.foreman.lastRotation k s.now } }

theorem settleRotation_of_idle {s : State} {k x sp : Nat} (hx : tfind s.foreman.rotating k = some x)
    (hspare : (clGet s k).spare = some sp) (hidle : coreIdle s x = true) :
    settleRotation s k = logEvent (larderUpdate (turned s k x)) 0x0701 7 0xFF (some sp) (some x) := by
  simp only [settleRotation, hx, hspare, hidle, if_true]
  rfl

theorem unturned_turned (s : State) {j k : Nat} (x : Nat) (h : j < k) : Unturned k s (turned s j x) := by
  refine ⟨rfl, rfl, rfl, rfl, fun m => ?_, congrArg ClusterState.spare (clGet_clSet_ne s j k _ (by omega)),
    tfind_tset_ne _ _ _ _ (by omega), tfind_tdel_of_lt _ h⟩
  change (clGet (clSet s j _) m).fenced = _ ∧ (clGet (clSet s j _) m).queue = _
  by_cases hm : m = j
  · subst hm
    rw [clGet_clSet]
    exact ⟨rfl, rfl⟩
  · rw [clGet_clSet_ne _ _ _ _ hm]
    exact ⟨rfl, rfl⟩

/-- Publishing the Larder and logging leave what the check reads. -/
theorem unturned_logged (k : Nat) (s : State) (code cls source : Nat) (a b : Option Nat) :
    Unturned k s (logEvent (larderUpdate s) code cls source a b) := by
  have hcl : ∀ j, clGet (logEvent (larderUpdate s) code cls source a b) j = clGet s j := clGet_eq_of_clusters (by simp)
  refine ⟨by simp, by simp, by simp, by simp, fun j => by simp [hcl], by rw [hcl], by simp, by simp⟩

/-- A choice between two states takes one of them. -/
theorem choice_cases (c : Prop) [Decidable c] (a b : State) : (if c then a else b) = a ∨ (if c then a else b) = b := by
  split
  · exact .inl rfl
  · exact .inr rfl

/-- A rotation goes on, or it ends with its exchange published and logged. -/
theorem settleRotation_cases (s : State) (k : Nat) : settleRotation s k = s ∨
    ∃ x sp, settleRotation s k = logEvent (larderUpdate (turned s k x)) 0x0701 7 0xFF (some sp) (some x) := by
  unfold settleRotation
  split
  · next x sp _ _ => exact (choice_cases _ _ _).elim (fun h => .inr ⟨x, sp, h⟩) .inl
  · exact .inl rfl

theorem unturned_settleRotation (s : State) {j k : Nat} (h : j < k) : Unturned k s (settleRotation s j) := by
  obtain hsame | ⟨x, sp, hended⟩ := settleRotation_cases s j
  · rw [hsame]
    exact .refl k s
  · rw [hended]
    exact (unturned_turned s x h).trans (unturned_logged k _ _ _ _ _ _)

/-- A rotation of a cluster has begun: dispatch to the core stops. -/
def rotationBegun (s : State) (k x : Nat) : State :=
  { s with foreman := { s.foreman with rotating := tset s.foreman.rotating k x } }

/-- The check of a cluster leaves it as it is, or begins a rotation, which ends at once when its core is idle. -/
theorem rotateCluster_cases (s : State) (k : Nat) :
    rotateCluster s k = s ∨ ∃ x, rotateCluster s k = settleRotation (rotationBegun s k x) k := by
  unfold rotateCluster
  split
  · next sp x _ _ => exact (choice_cases _ _ _).elim (fun h => .inr ⟨x, h⟩) .inl
  · exact .inl rfl

theorem unturned_rotateCluster (s : State) {j k : Nat} (h : j < k) : Unturned k s (rotateCluster s j) := by
  obtain hsame | ⟨x, hbegun⟩ := rotateCluster_cases s j
  · rw [hsame]
    exact .refl k s
  · rw [hbegun]
    have hset : Unturned k s (rotationBegun s j x) :=
      ⟨rfl, rfl, rfl, rfl, fun _ => ⟨rfl, rfl⟩, rfl, rfl, tfind_tset_ne _ _ _ _ (by omega)⟩
    exact hset.trans (unturned_settleRotation _ h)

theorem unturned_foldl {k : Nat} (l : List Nat) (hl : ∀ j ∈ l, j < k) (s : State) : Unturned k s (l.foldl rotateCluster s) := by
  induction l generalizing s with
  | nil => exact .refl k s
  | cons j l ih =>
    exact (unturned_rotateCluster s (hl j List.mem_cons_self)).trans (ih (fun i hi => hl i (List.mem_cons_of_mem _ hi)) _)

theorem clGet_settleRotation_ne (s : State) {j k : Nat} (h : k ≠ j) : clGet (settleRotation s j) k = clGet s k := by
  obtain hsame | ⟨x, sp, hended⟩ := settleRotation_cases s j
  · rw [hsame]
  · rw [hended]
    exact (clGet_eq_of_clusters (s := turned s j x) (by simp) k).trans (clGet_clSet_ne s j k _ h)

/-- The check of another cluster leaves a cluster as it is. -/
theorem clGet_rotateCluster_ne (s : State) {j k : Nat} (h : k ≠ j) : clGet (rotateCluster s j) k = clGet s k := by
  obtain hsame | ⟨x, hbegun⟩ := rotateCluster_cases s j
  · rw [hsame]
  · rw [hbegun, clGet_settleRotation_ne _ h]
    rfl

theorem clGet_foldl_rotateCluster {k : Nat} (l : List Nat) (hl : k ∉ l) (s : State) :
    clGet (l.foldl rotateCluster s) k = clGet s k := by
  induction l generalizing s with
  | nil => rfl
  | cons j l ih =>
    rw [List.mem_cons, not_or] at hl
    rw [List.foldl_cons, ih hl.2, clGet_rotateCluster_ne s hl.1]

@[simp] theorem now_rotateCluster (s : State) (k : Nat) : (rotateCluster s k).now = s.now :=
  (unturned_rotateCluster s (Nat.lt_succ_self k)).now

/-- The spare of a cluster may be exchanged for its most aged core. -/
structure Exchanges (s : State) (k sp x : Nat) : Prop where
  spare : (clGet s k).spare = some sp
  aged : mostAged s k = some x
  last : tfind s.foreman.lastRotation k = none
  rotating : tfind s.foreman.rotating k = none
  usable : coreUsable s sp = true
  idle : coreIdle s x = true
  worn : tget 0 s.foreman.agingHours sp + s.foreman.platform.rotateHours < tget 0 s.foreman.agingHours x

theorem Unturned.coreUsable {k : Nat} {s t : State} (h : Unturned k s t) (c : Nat) : coreUsable t c = coreUsable s c := by
  simp only [Machine.coreUsable, coreGet_eq_of_cores h.cores, (h.clusters _).1]

theorem Unturned.coreIdle {k : Nat} {s t : State} (h : Unturned k s t) (c : Nat) : coreIdle t c = coreIdle s c := by
  simp only [Machine.coreIdle, coreGet_eq_of_cores h.cores, (h.clusters _).2]

theorem Unturned.mostAged {k : Nat} {s t : State} (h : Unturned k s t) : mostAged t k = mostAged s k := by
  have husable : Machine.coreUsable t = Machine.coreUsable s := funext h.coreUsable
  simp only [Machine.mostAged, activeCores, usableCores, husable, h.spare, h.hours]

theorem Exchanges.of_unturned {s t : State} {k sp x : Nat} (hs : Exchanges s k sp x) (h : Unturned k s t) : Exchanges t k sp x :=
  ⟨h.spare.trans hs.spare, h.mostAged.trans hs.aged, h.last.trans hs.last, h.rotating.trans hs.rotating,
    (h.coreUsable sp).trans hs.usable, (h.coreIdle x).trans hs.idle, by rw [h.hours, h.platform]; exact hs.worn⟩

/-- The check of such a cluster exchanges the two. -/
theorem spare_rotateCluster {s : State} {k sp x : Nat} (h : Exchanges s k sp x) : (clGet (rotateCluster s k) k).spare = some x := by
  have hbegun : rotateCluster s k = settleRotation (rotationBegun s k x) k := by
    simp only [rotateCluster, h.spare, h.aged, h.last, h.rotating, h.usable, h.worn, Option.isNone_none, Bool.and_self, decide_true,
      if_true]
    rfl
  have hended := settleRotation_of_idle (s := rotationBegun s k x) (tfind_tset _ _ _) h.spare h.idle
  rw [hbegun, hended, (unturned_logged k _ _ _ _ _ _).spare]
  exact congrArg ClusterState.spare (clGet_clSet s k _)

/-- Cluster `k` is checked after the lower ones and before the others. -/
theorem range_split : ∀ k < 4, List.range 4 = List.range k ++ k :: (List.range (3 - k)).map (· + (k + 1)) := by decide

theorem spare_foldl_rotateCluster {s : State} {k sp x : Nat} (hk : k < 4) (h : Exchanges s k sp x) :
    (clGet ((List.range 4).foldl rotateCluster s) k).spare = some x := by
  have hbefore := h.of_unturned (unturned_foldl (List.range k) (fun j hj => List.mem_range.mp hj) s)
  rw [range_split k hk, List.foldl_append, List.foldl_cons, clGet_foldl_rotateCluster _ (by simp; omega)]
  exact spare_rotateCluster hbefore

theorem exec_rotationCheck {s : State} (w : Nat) (hs : asleep s = false) (hrotation : s.foreman.platform.rotation = true) :
    exec (.rotationCheck w) s = .next ((List.range 4).foldl rotateCluster (atTime s w)) :=
  act_of_true (by simp [hs, hrotation])

/-- Settles O24: each event's equation, with the fold over the pending records, the cores and the clusters taken apart above. -/
theorem telemetryAndLogsComplete : Obligations.TelemetryAndLogsComplete := by
  intro s w
  refine ⟨?_, ?_, ?_, ?_, ?_, ?_, ?_, ?_, ?_⟩
  · intro hs hready hrom hgate hdue
    exact act_of_true (by simp [hs, hready, hrom, hgate, hdue])
  · intro v hs hready hrom hdue
    have hrun := exec_telemetrySweep_of_due v hs hready hrom hdue
    exact ⟨_, hrun, runSweep_samplePtp _ v, exec_frames _ s _ hrun .mode (by simp [writes]),
      exec_frames _ s _ hrun .sessions (by simp [writes]), exec_frames _ s _ hrun .hbm (by simp [writes]),
      exec_frames _ s _ hrun .net (by simp [writes]), exec_frames _ s _ hrun .sec (by simp [writes])⟩
  · intro n hs hsensor htrim hlast
    change withUnit (isSensor n) _ = _
    rw [hsensor, withUnit_true]
    exact act_of_true (by simp [hs, htrim, hlast])
  · intro r i h hlen hmask hpf
    exact exec_getTelemetry_of_size h hlen hmask hpf
  · intro r i p h hsample hlen hmask hroom hsees
    exact exec_getTelemetry_of_items h hsample hlen hmask hroom hsees
  · intro r i h hlog
    exact ⟨_, rfl, exec_getLog_of_log h hlog⟩
  · intro hs hpending hroom
    have hrun := exec_flashLogWrite_of_pending true w hs hpending
    have hflash := foldl_writeFlash true s.foreman.flashPending (atTime s w) hroom
    exact ⟨_, hrun, rfl, congrArg ForemanState.flashLog hflash, congrArg ForemanState.flashUsed hflash,
      exec_frames _ s _ hrun .mode (by simp [writes]), exec_frames _ s _ hrun .hbm (by simp [writes])⟩
  · intro l hs
    exact ⟨_, exec_agingWrite l w hs, rfl, fun c hc => tget_agedBy_all l _ hc, rfl, rfl, rfl⟩
  · intro hs hrotation
    have hrun := exec_rotationCheck w hs hrotation
    exact ⟨_, hrun, foldl_view State.now now_rotateCluster _ _, exec_frames _ s _ hrun .mode (by simp [writes]),
      exec_frames _ s _ hrun .sessions (by simp [writes]), exec_frames _ s _ hrun .hbm (by simp [writes]),
      exec_frames _ s _ hrun .cores (by simp [writes]), fun k sp x hk hspare haged hlast hrotating husable hidle hworn =>
        spare_foldl_rotateCluster hk ⟨hspare, haged, hlast, hrotating, husable, hidle, hworn⟩⟩

end Sys2Proof.Machine
end

section
/-! PROOFS. Status, roles and nonces (R432 to R434), and the keys (R439 to R441, R450, R451): what completing a command, recording a
fault and waiting for a key leave of a function's authentication, then one equation per command. -/

namespace Sys2Proof.Machine

/-! ### What leaves the authentication of a function -/

theorem auth_eq_of_fns {s t : State} (h : t.fns = s.fns) (k : Nat) : (fnGet t k).auth = (fnGet s k).auth := by
  rw [fnGet, fnGet, h]

theorem auth_fnSet {s : State} {n : Nat} {x : FnState} (h : x.auth = (fnGet s n).auth) (k : Nat) :
    (fnGet (fnSet s n x) k).auth = (fnGet s k).auth := by
  by_cases hk : k = n
  · rw [hk, fnGet_fnSet, h]
  · rw [fnGet_fnSet_ne _ _ _ _ hk]

@[simp] theorem auth_sendMsix (s : State) (fn v k : Nat) : (fnGet (sendMsix s fn v) k).auth = (fnGet s k).auth := by
  unfold sendMsix
  split
  · split
    · exact auth_fnSet (by rfl) k
    · rfl
  · rfl

@[simp] theorem auth_announce (s : State) (q : QueuePair) (noIrq : Bool) (k : Nat) :
    (fnGet (announce s q noIrq) k).auth = (fnGet s k).auth := by
  unfold announce
  dsimp only
  (repeat' split) <;> simp

@[simp] theorem auth_removePair (s : State) (q : QueuePair) (k : Nat) : (fnGet (removePair s q) k).auth = (fnGet s k).auth := by
  unfold removePair
  dsimp only
  split
  · exact auth_fnSet (by rfl) k
  · rfl

@[simp] theorem auth_decideCmd (s : State) (r : CmdRef) (a : Reply) (k : Nat) :
    (fnGet (decideCmd s r a) k).auth = (fnGet s k).auth := by
  unfold decideCmd
  split <;> rfl

@[simp] theorem auth_postReady (n : Nat) (s : State) (fn qid k : Nat) :
    (fnGet (postReady n s fn qid) k).auth = (fnGet s k).auth := by
  induction n generalizing s fn qid with
  | zero => rfl
  | succ n ih => unfold postReady; (repeat' split) <;> simp [ih, dropDecided, postCompletion]

/-- Completing a command leaves every role and nonce. -/
@[simp] theorem auth_finish (s : State) (r : CmdRef) (a : Reply) (k : Nat) : (fnGet (finish s r a) k).auth = (fnGet s k).auth := by
  simp [finish]

@[simp] theorem auth_approve (s : State) (r : CmdRef) (result k : Nat) :
    (fnGet (approve s r result) k).auth = (fnGet s k).auth := auth_finish _ _ _ _

@[simp] theorem auth_writeData (s : State) (fn : Nat) (e d : Bytes) (k : Nat) :
    (fnGet (writeData s fn e d) k).auth = (fnGet s k).auth := auth_eq_of_fns (by simp) k

@[simp] theorem auth_setCause (s : State) (fn bit k : Nat) : (fnGet (setCause s fn bit) k).auth = (fnGet s k).auth := by
  have hset : (fnGet (fnSet s fn { fnGet s fn with intrCause := (fnGet s fn).intrCause ||| BitVec.twoPow 32 bit }) k).auth =
      (fnGet s k).auth := auth_fnSet (by rfl) k
  unfold setCause
  dsimp only
  (repeat' split)
  · rfl
  · exact hset
  · rw [auth_sendMsix, hset]

@[simp] theorem auth_causeAll (s : State) (bit k : Nat) : (fnGet (causeAll s bit) k).auth = (fnGet s k).auth :=
  foldl_view (fun s => (fnGet s k).auth) (fun s n => auth_setCause s n bit k) _ s

@[simp] theorem auth_postEvent (s : State) (r : EventRec) (k : Nat) : (fnGet (postEvent s r) k).auth = (fnGet s k).auth := by
  have hset : ∀ g, (fnGet (fnSet s r.fn { fnGet s r.fn with eventRing := g }) k).auth = (fnGet s k).auth :=
    fun g => auth_fnSet (by rfl) k
  unfold postEvent
  dsimp only
  (repeat' split)
  · rfl
  · exact auth_setCause _ _ _ _
  · exact hset _
  · rw [auth_sendMsix, fnGet_emit, hset]

@[simp] theorem fnGet_argOf (s : State) (a : Option Nat) (bound k : Nat) : fnGet (argOf s a bound).2 k = fnGet s k := by
  cases a <;> rfl

@[simp] theorem auth_logEvent (s : State) (code cls source : Nat) (a b : Option Nat) (k : Nat) :
    (fnGet (logEvent s code cls source a b) k).auth = (fnGet s k).auth := by
  unfold logEvent logRec
  refine (auth_postEvent _ _ k).trans ?_
  exact congrArg FnState.auth ((fnGet_argOf _ _ _ k).trans (fnGet_argOf _ _ _ k))

@[simp] theorem auth_setDegraded (s : State) (k : Nat) : (fnGet (setDegraded s) k).auth = (fnGet s k).auth :=
  auth_causeAll { s with degraded := true } icDegradedChange k

/-- A fault leaves every role and nonce. -/
@[simp] theorem auth_recordFault (s : State) (bit cls : Nat) (addr : Option Nat) (k : Nat) :
    (fnGet (recordFault s bit cls addr) k).auth = (fnGet s k).auth := by
  have hlog : ∀ code, (fnGet (logEvent (draw (canaryCount s bit cls) 256).2 code cls bit none addr) k).auth = (fnGet s k).auth :=
    fun code => (auth_logEvent _ _ _ _ _ _ k).trans (by rfl)
  have hsevere : ∀ t : State, (fnGet t k).auth = (fnGet s k).auth → (fnGet { t with canary := { t.canary with
      faultN := false, lastSevere := t.now, afterClass4 := t.canary.afterClass4 || cls = 4 } } k).auth = (fnGet s k).auth :=
    fun _ h => h
  have hdegraded : ∀ t : State, (fnGet t k).auth = (fnGet s k).auth → (fnGet (setDegraded (causeAll t icFault)) k).auth =
      (fnGet s k).auth := fun t h => by rw [auth_setDegraded, auth_causeAll, h]
  unfold recordFault
  dsimp only
  (repeat' split)
  · exact hsevere _ (hdegraded _ (hlog _))
  · exact hsevere _ (hlog _)
  · exact hdegraded _ (hlog _)
  · exact hlog _

@[simp] theorem fnGet_sessPut (s : State) (x : Session) (k : Nat) : fnGet (sessPut s x) k = fnGet s k := rfl

@[simp] theorem fnGet_dropWork (s : State) (id k : Nat) : fnGet (dropWork s id) k = fnGet s k := by
  simp [fnGet]

/-- A session that loses its sync point leaves every role and nonce. -/
@[simp] theorem auth_enterResync (s : State) (x : Session) (k : Nat) : (fnGet (enterResync s x) k).auth = (fnGet s k).auth := by
  unfold enterResync
  split
  · have hfence : (fnGet (fenceSelf s x) k).auth = (fnGet s k).auth := auth_eq_of_fns (by simp) k
    rw [fnGet_sessPut, fnGet_dropWork]
    exact (foldl_view (fun s => (fnGet s k).auth) (fun s p => auth_finish s _ _ k) _ (fenceSelf s x)).trans hfence
  · rfl

@[simp] theorem auth_keyLost (s : State) (p : Session → Bool) (k : Nat) : (fnGet (keyLost s p) k).auth = (fnGet s k).auth := by
  unfold keyLost
  refine foldl_view (fun s => (fnGet s k).auth) (fun s x => ?_) _ s
  dsimp only
  (repeat' split)
  · rw [auth_enterResync, fnGet_sessPut, auth_recordFault]
  · rw [auth_recordFault]
  · rfl

@[simp] theorem auth_authSet (s : State) (fn : Nat) (a : AuthState) : (fnGet (authSet s fn a) fn).auth = a := by
  simp [authSet]

end Sys2Proof.Machine
end

section
/-! PROOFS. Status, roles and nonces (R432 to R434), and the keys (R439 to R441, R450, R451), one equation per command. -/

namespace Sys2Proof.Machine

/-! ### Status, roles and nonces -/

@[simp] theorem lockedOut_markStarted (s : State) (r : CmdRef) (a : AuthState) : lockedOut (markStarted s r) a = lockedOut s a := by
  simp [lockedOut]

@[simp] theorem responseGood_markStarted (s : State) (r : CmdRef) (fn : Nat) (e d : Bytes) :
    responseGood (markStarted s r) fn e d = responseGood s fn e d := by
  simp only [responseGood, fnGet_markStarted, markStarted_rest, markStarted_same]

/-- The 16 bytes of SEC_QUERY. -/
def queryBytes (s : State) (fn : Nat) : Bytes :=
  le 1 (lifecycleCode s.sec.otp.lifecycle) ++ le 1 (authCode (fnGet s fn).auth.role) ++ le 2 s.sec.errorAlgs.toNat
    ++ le 4 (roleSeconds s (fnGet s fn).auth) ++ zeros 8

theorem queryBytes_fields (s : State) (fn : Nat) :
    (queryBytes s fn).length = 16 ∧ u8 (queryBytes s fn) 0 = lifecycleCode s.sec.otp.lifecycle ∧
      u8 (queryBytes s fn) 1 = authCode (fnGet s fn).auth.role := by
  refine ⟨by simp [queryBytes, le, zeros], ?_, ?_⟩
  · cases hlife : s.sec.otp.lifecycle <;> simp [queryBytes, le, u8, hlife, lifecycleCode]
  · cases hrole : (fnGet s fn).auth.role <;> simp [queryBytes, le, u8, hrole, authCode]

/-- What a good response makes of a function's authentication, and a bad one. -/
def signedIn (s : State) (e : Bytes) : AuthState :=
  { role := if u8 e 24 = 2 then .cryptoOfficer else .user, since := s.now, keyId := if u8 e 24 = 2 then 0 else u16 e 26,
    nonce := none, failures := 0, lockout := none }
def failedOnce (s : State) (a : AuthState) : AuthState :=
  { a with nonce := none, failures := (if a.lockout.isSome then 0 else a.failures) + 1,
           lockout := if 5 ≤ (if a.lockout.isSome then 0 else a.failures) + 1 then some s.now else none }

section
variable {s : State} {r : CmdRef} {i : InFlight} {d : Bytes}

theorem exec_secQuery (h : Starts s r 0x80 i) (hlen : 16 ≤ cmdDataLen i.entry) :
    exec (.secQuery r) s =
      .next (approve (writeData (markStarted s r) r.fn i.entry (queryBytes (markStarted s r) r.fn)) r 0) := by
  change execSecQuery r s = _
  unfold execSecQuery
  rw [h.serve _ (by simp [hlen])]
  rfl

theorem exec_secAuthChallenge_of_available (h : Starts s r 0x81 i) (hservice : s.sec.unavailable.contains 2 = false)
    (hlen : 48 ≤ cmdDataLen i.entry) :
    exec (.secAuthChallenge r) s = .next (approve (writeData (authSet (generate (markStarted s r)) r.fn
      { (fnGet s r.fn).auth with nonce := some (Config.randomBytes s.sec.drbgCount 48, s.now) }) r.fn i.entry
      (Config.randomBytes s.sec.drbgCount 48)) r 0) := by
  change execSecAuthChallenge r s = _
  unfold execSecAuthChallenge
  rw [h.serve _ (by simp [serviceCheck_of_available hservice, hlen])]
  simp only [fnGet_markStarted, markStarted_same, markStarted_rest]

/-- A response of the right form, on a function that is not locked out. -/
structure Answered (s : State) (r : CmdRef) (i : InFlight) : Prop where
  starts : Starts s r 0x82 i
  service : s.sec.unavailable.contains 2 = false
  role : u8 i.entry 24 = 1 ∨ u8 i.entry 24 = 2
  room : (if u8 i.entry 24 = 2 then 193 else 48) ≤ cmdDataLen i.entry
  free : lockedOut s (fnGet s r.fn).auth = false

theorem exec_secAuthResponse (h : Answered s r i) :
    exec (.secAuthResponse r d) s = .next (answerResponse (markStarted s r) r i.entry (readData s r.fn i.entry d)) := by
  change execSecAuthResponse r d s = _
  unfold execSecAuthResponse
  rw [h.starts.serve _ (by simp only [orElse_none, serviceCheck_markStarted, serviceCheck_of_available h.service, fieldCheck_none,
    List.forall_mem_cons, Bool.or_eq_true, beq_iff_eq, decide_eq_true_eq, h.role, h.room, List.not_mem_nil, false_imp_iff,
    forall_const, and_self])]
  simp only [readData_markStarted]

theorem exec_secAuthResponse_of_good (h : Answered s r i) (hgood : responseGood s r.fn i.entry (readData s r.fn i.entry d) = true) :
    exec (.secAuthResponse r d) s =
      .next (approve (authSet (markStarted s r) r.fn (signedIn (markStarted s r) i.entry)) r (u8 i.entry 24)) := by
  rw [exec_secAuthResponse h]
  simp only [answerResponse, fnGet_markStarted, lockedOut_markStarted, h.free, Bool.false_eq_true, if_false,
    responseGood_markStarted, hgood, if_true]
  rfl

theorem exec_secAuthResponse_of_bad (h : Answered s r i) (hbad : responseGood s r.fn i.entry (readData s r.fn i.entry d) = false) :
    exec (.secAuthResponse r d) s = .next (finish (authSet (markStarted s r) r.fn
      (failedOnce (markStarted s r) (fnGet s r.fn).auth)) r (failDetail stNotPermitted 2)) := by
  rw [exec_secAuthResponse h]
  simp only [answerResponse, fnGet_markStarted, lockedOut_markStarted, h.free, Bool.false_eq_true, if_false,
    responseGood_markStarted, hbad]
  rfl

/-- A response uses the nonce up; a good one gives its role, a bad one leaves the function's own. -/
theorem secAuthResponse_effect (h : Answered s r i) : ∃ t, exec (.secAuthResponse r d) s = .next t ∧
    (fnGet t r.fn).auth.nonce = none ∧
    (fnGet t r.fn).auth.role = (if responseGood s r.fn i.entry (readData s r.fn i.entry d) then
      (if u8 i.entry 24 = 2 then .cryptoOfficer else .user) else (fnGet s r.fn).auth.role) ∧
    (responseGood s r.fn i.entry (readData s r.fn i.entry d) = true → (fnGet t r.fn).auth.failures = 0) ∧ t.sec = s.sec ∧
    t.mode = s.mode ∧ t.sessions = s.sessions ∧ t.hbm = s.hbm := by
  cases hgood : responseGood s r.fn i.entry (readData s r.fn i.entry d) with
  | true => exact ⟨_, exec_secAuthResponse_of_good h hgood, by simp [signedIn], by simp [signedIn], by simp [signedIn], by simp,
      by simp, by simp, by simp⟩
  | false => exact ⟨_, exec_secAuthResponse_of_bad h hgood, by simp [failedOnce], by simp [failedOnce], nofun, by simp, by simp,
      by simp, by simp⟩

end

section
variable {s : State} {fn w : Nat}

theorem exec_nonceExpiry_of_due {n : Bytes × Nat} (hs : dead s = false) (hfn : fn < 64) (hnonce : (fnGet s fn).auth.nonce = some n)
    (hdue : n.2 + 30000000000 ≤ max s.now w) :
    exec (.nonceExpiry fn w) s = .next (authSet (atTime s w) fn { (fnGet s fn).auth with nonce := none }) := by
  have hread : (fnGet (atTime s w) fn).auth.nonce = some n := hnonce
  have hnow : n.2 + 30000000000 ≤ (atTime s w).now := hdue
  change execNonceExpiry fn w s = _
  simp only [execNonceExpiry, isFn, hfn, decide_true, withUnit_true, hs, Bool.not_false, act_true, hread, hnow, if_true]
  rfl

theorem exec_authLockoutEnd_of_due {b : Nat} (hs : dead s = false) (hfn : fn < 64) (hlock : (fnGet s fn).auth.lockout = some b)
    (hdue : b + 60000000000 ≤ max s.now w) :
    exec (.authLockoutEnd fn w) s = .next (authSet (atTime s w) fn { (fnGet s fn).auth with lockout := none, failures := 0 }) := by
  have hread : (fnGet (atTime s w) fn).auth.lockout = some b := hlock
  have hnow : b + 60000000000 ≤ (atTime s w).now := hdue
  change execAuthLockoutEnd fn w s = _
  simp only [execAuthLockoutEnd, isFn, hfn, decide_true, withUnit_true, hs, Bool.not_false, act_true, hread, hnow, if_true]
  rfl

theorem exec_roleExpiry_of_due (hs : dead s = false) (hfn : fn < 64) (hrole : (fnGet s fn).auth.role ≠ .none)
    (hdue : (fnGet s fn).auth.since + 3600000000000 ≤ max s.now w) :
    exec (.roleExpiry fn w) s = .next (authSet (atTime s w) fn { (fnGet s fn).auth with role := .none, keyId := 0 }) := by
  have hends : ((fnGet (atTime s w) fn).auth.role != .none &&
      decide ((fnGet (atTime s w) fn).auth.since + 3600000000000 ≤ (atTime s w).now)) = true := by
    rw [Bool.and_eq_true, bne_iff_ne, decide_eq_true_eq]
    exact ⟨hrole, hdue⟩
  change execRoleExpiry fn w s = _
  simp only [execRoleExpiry, isFn, hfn, decide_true, withUnit_true, hs, Bool.not_false, act_true]
  exact congrArg _ (if_pos hends)

end

/-- Settles O25: the two forms of a response share one lemma over whether it is good. -/
theorem rolesComplete : Obligations.RolesComplete := by
  intro s
  refine ⟨?_, ?_, ?_, ?_, ?_, ?_, ?_, ?_⟩
  · intro r i h hlen
    obtain ⟨hlength, hlife, hrole⟩ := queryBytes_fields (markStarted s r) r.fn
    exact ⟨_, hlength, by simpa using hlife, by simpa using hrole, exec_secQuery h hlen⟩
  · intro r i h hservice hlen
    exact ⟨_, exec_secAuthChallenge_of_available h hservice hlen, by simp, by simp [generate], by simp [generate], by simp [generate]⟩
  · intro r i d h hservice hrole hlen hfree
    have heffect := secAuthResponse_effect (d := d) ⟨h, hservice, .inr hrole, by simpa [hrole] using hlen, hfree⟩
    simpa only [hrole, if_true] using heffect
  · intro r i d h hservice hrole hlen hfree
    obtain ⟨t, hrun, hnonce, hrole', -, hsec, hmode, hsessions, hhbm⟩ :=
      secAuthResponse_effect (d := d) ⟨h, hservice, .inl hrole, by simpa [hrole] using hlen, hfree⟩
    exact ⟨t, hrun, hnonce, by simpa [hrole] using hrole', hsec, hmode, hsessions, hhbm⟩
  · intro r i h
    change execSecLogout r s = _
    unfold execSecLogout
    rw [h.serve _ rfl]
    simp only [endRole, fnGet_markStarted]
  · intro fn w n hs hfn hnonce hdue
    exact exec_nonceExpiry_of_due hs hfn hnonce hdue
  · intro fn w b hs hfn hlock hdue
    exact exec_authLockoutEnd_of_due hs hfn hlock hdue
  · intro fn w hs hfn hrole hdue
    exact exec_roleExpiry_of_due hs hfn hrole hdue

end Sys2Proof.Machine
end

section
/-! PROOFS. The key store (R439 to R441, R450, R451): one equation per command. -/

namespace Sys2Proof.Machine

@[simp] theorem keyInUse_markStarted (s : State) (r : CmdRef) (id : Nat) : keyInUse (markStarted s r) id = keyInUse s id := by
  simp [keyInUse, keySessions, sessList]

@[simp] theorem unwrapKey_markStarted (s : State) (r : CmdRef) (d : Bytes) : unwrapKey (markStarted s r) d = unwrapKey s d := by
  simp [unwrapKey]

@[simp] theorem mayStore_markStarted (s : State) (r : CmdRef) (d : Bytes) : mayStore (markStarted s r) d = mayStore s d := by
  simp [mayStore]

/-- A command of the key store passes the role and the service, and then its own checks. -/
theorem secCheck_of_allowed {s : State} {r : CmdRef} {officer : Bool} {service : Nat} {rest : State → Bytes → Option Reply}
    {e : Bytes} (hrole : holds s r.fn officer = true) (hservice : s.sec.unavailable.contains service = false)
    (hrest : rest (markStarted s r) e = none) : secCheck r officer service rest (markStarted s r) e = none := by
  simp only [secCheck, orElse_none, roleCheck_markStarted, roleCheck_none, serviceCheck_markStarted,
    serviceCheck_of_available hservice, hrole, hrest, and_self]

/-- A change to every entry changes the one that is read, where the default stays. -/
theorem tget_tmap {α : Type} {d : α} {f : α → α} (hd : f d = d) (l : Tbl α) (k : Nat) : tget d (tmap f l) k = f (tget d l k) := by
  induction l with
  | nil => exact hd.symm
  | cons p l ih =>
    have hcons : tmap f (p :: l) = (p.1, f p.2) :: tmap f l := rfl
    rw [hcons, tget, tget, ih]
    split
    · rfl
    · split
      · exact hd.symm
      · rfl

/-- The roles that a USER_AUTH entry gave end with it. -/
theorem role_endRolesOf {s : State} {id fn : Nat} (hrole : (fnGet s fn).auth.role = .user) (hkey : (fnGet s fn).auth.keyId = id) :
    (fnGet (endRolesOf s id) fn).auth.role = .none := by
  have hread := tget_tmap (d := FnState.atReset fn) (f := fun f => if f.auth.role == .user && f.auth.keyId == id then
      { f with auth := { f.auth with role := .none, keyId := 0 } } else f) rfl s.fns fn
  unfold fnGet at *
  rw [endRolesOf, hread]
  simp [hrole, hkey]

/-- Zeroisation ends every role and drops every nonce. -/
theorem auth_zeroize (s : State) (fn : Nat) : (fnGet (zeroize s) fn).auth = AuthState.empty := by
  have hread := tget_tmap (d := FnState.atReset fn) (f := fun f => { f with auth := AuthState.empty }) rfl s.fns fn
  unfold fnGet
  rw [zeroize, hread]

@[simp] theorem zeroize_sec (s : State) :
    (zeroize s).sec = { s.sec with keys := [], kem := none, drbgRequests := 0, drbgSeededAt := s.now } := rfl

/-- The device once SEC_KEM_KEYGEN has made its pair. -/
def pairMade (s : State) : State :=
  generate { s with sec := { s.sec with kem := some (s.sec.kemCount, s.now), kemCount := s.sec.kemCount + 1 } }

section
variable {s : State} {r : CmdRef} {i : InFlight} {d : Bytes}

theorem exec_secKemKeygen_of_allowed (h : Starts s r 0x84 i) (hrole : holds s r.fn true = true)
    (hservice : s.sec.unavailable.contains 5 = false) (hlen : 1664 ≤ cmdDataLen i.entry) : ∃ b,
    exec (.secKemKeygen r) s = .next (approve (writeData (pairMade (markStarted s r)) r.fn i.entry b) r 0) := by
  change ∃ b, execSecKemKeygen r s = _
  unfold execSecKemKeygen
  rw [h.serve _ (secCheck_of_allowed hrole hservice (by simp [hlen]))]
  exact ⟨_, rfl⟩

theorem exec_secKeyImport_of_whole (h : Starts s r 0x85 i) (hrole : holds s r.fn true = true)
    (hservice : s.sec.unavailable.contains 6 = false) (hrules : importRules i.entry (readData s r.fn i.entry d) = none) :
    exec (.secKeyImport r d) s = .next (match unwrapKey s (readData s r.fn i.entry d) with
      | none => finish { markStarted s r with sec := { s.sec with kem := none } } r (failDetail stSecurityState 3)
      | some key => if mayStore s (readData s r.fn i.entry d) then
            storeKey { markStarted s r with sec := { s.sec with kem := none } } r (readData s r.fn i.entry d) key
          else finish { markStarted s r with sec := { s.sec with kem := none } } r (failWith stBusy)) := by
  change execSecKeyImport r d s = _
  unfold execSecKeyImport
  rw [h.serve _ (secCheck_of_allowed hrole hservice rfl)]
  simp only [readData_markStarted, hrules, unwrapKey_markStarted, mayStore_markStarted, markStarted_same] <;> rfl

/-- An entry that nothing uses may be deleted. -/
theorem exec_secKeyDelete_of_unused {k : KeyEntry} (h : Starts s r 0x86 i) (hrole : holds s r.fn true = true)
    (hservice : s.sec.unavailable.contains 7 = false) (hlo : 1 ≤ u16 i.entry 24) (hhi : u16 i.entry 24 ≤ 1023)
    (hunused : keyInUse s (u16 i.entry 24) = false) (hk : tfind s.sec.keys (u16 i.entry 24) = some k) :
    exec (.secKeyDelete r) s = .next (approve (if k.typ = 4 then
        endRolesOf { markStarted s r with sec := { s.sec with keys := tdel s.sec.keys (u16 i.entry 24) } } (u16 i.entry 24)
      else { markStarted s r with sec := { s.sec with keys := tdel s.sec.keys (u16 i.entry 24) } }) r 1) := by
  change execSecKeyDelete r s = _
  unfold execSecKeyDelete
  rw [h.serve _ (secCheck_of_allowed hrole hservice (by simp [inRange, hlo, hhi, hunused]))]
  simp only [markStarted_same, hk]

/-- The 16 bytes that SEC_KEY_QUERY gives of an entry. -/
def entryBytes (s : State) (id : Nat) : Option KeyEntry → Bytes
  | some k => le 1 k.typ ++ le 1 (if keyInUse s id then 1 else 0) ++ zeros 6 ++ le 8 k.functions.toNat
  | none => zeros 16

theorem exec_secKeyQuery_of_allowed (h : Starts s r 0x87 i) (hrole : holds s r.fn false = true)
    (hservice : s.sec.unavailable.contains 7 = false) (hlen : 16 ≤ cmdDataLen i.entry) (hlo : 1 ≤ u16 i.entry 24)
    (hhi : u16 i.entry 24 ≤ 1023) :
    exec (.secKeyQuery r) s = .next (approve (writeData (markStarted s r) r.fn i.entry
      (entryBytes s (u16 i.entry 24) (tfind s.sec.keys (u16 i.entry 24)))) r 0) := by
  change execSecKeyQuery r s = _
  unfold execSecKeyQuery
  rw [h.serve _ (secCheck_of_allowed hrole hservice (by simp [inRange, hlen, hlo, hhi]))]
  simp only [markStarted_same, keyInUse_markStarted]
  cases tfind s.sec.keys (u16 i.entry 24) <;> rfl

theorem exec_decapKeyExpiry_of_due {w : Nat} {k : Nat × Nat} (hs : dead s = false) (hkem : s.sec.kem = some k)
    (hdue : k.2 + 600000000000 ≤ max s.now w) :
    exec (.decapKeyExpiry w) s = .next { atTime s w with sec := { s.sec with kem := none } } := by
  change execDecapKeyExpiry w s = _
  simp only [execDecapKeyExpiry, hs, Bool.not_false, act_true, atTime, hkem, hdue, if_true]

theorem exec_secZeroize_of_allowed (h : Starts s r 0x88 i) (hrole : holds s r.fn true = true)
    (hservice : s.sec.unavailable.contains 4 = false) :
    exec (.secZeroize r) s = .next (approve (keyLost (zeroize (markStarted s r)) (fun _ => true)) r 0) := by
  change execSecZeroize r s = _
  unfold execSecZeroize
  rw [h.serve _ (secCheck_of_allowed hrole hservice rfl)]

end

/-- Settles O26: an import is the unwrapping of its key and what that allows; deleting a USER_AUTH entry ends its roles. -/
theorem keyCommandsComplete : Obligations.KeyCommandsComplete := by
  intro s
  refine ⟨?_, ?_, ?_, ?_, ?_, ?_, ?_, ?_, ?_⟩
  · intro r i h hrole hservice hlen
    obtain ⟨b, hrun⟩ := exec_secKemKeygen_of_allowed h hrole hservice hlen
    exact ⟨_, hrun, by simp [pairMade, generate], by simp [pairMade, generate], by simp [pairMade, generate],
      by simp [pairMade, generate], by simp [pairMade, generate], by simp [pairMade, generate]⟩
  · intro r i d h hrole hservice hrules hstore
    have hrun := exec_secKeyImport_of_whole h hrole hservice hrules
    simp only [hstore, if_true] at hrun
    refine ⟨_, hrun, ?_⟩
    cases unwrapKey s (readData s r.fn i.entry d) with
    | none => exact ⟨by simp, by simp, by simp, by simp, by simp⟩
    | some key => exact ⟨by simp [storeKey], by simp [storeKey], by simp [storeKey], by simp [storeKey], by simp [storeKey]⟩
  · intro r i d h hrole hservice hrules hunwrap
    rw [exec_secKeyImport_of_whole h hrole hservice hrules, hunwrap]
  · intro r i k h hrole hservice hlo hhi hunused hk htyp
    rw [exec_secKeyDelete_of_unused h hrole hservice hlo hhi hunused hk, if_neg htyp]
  · intro r i k h hrole hservice hlo hhi hunused hk htyp
    have hrun := exec_secKeyDelete_of_unused h hrole hservice hlo hhi hunused hk
    rw [if_pos htyp] at hrun
    refine ⟨_, hrun, by simp, fun fn huser hid => ?_, by simp, by simp, by simp⟩
    rw [auth_approve]
    refine role_endRolesOf ?_ ?_
    · exact (congrArg AuthState.role (auth_eq_of_fns (by simp) fn)).trans huser
    · exact (congrArg AuthState.keyId (auth_eq_of_fns (by simp) fn)).trans hid
  · intro r i k h hrole hservice hlen hlo hhi hk
    rw [exec_secKeyQuery_of_allowed h hrole hservice hlen hlo hhi, hk]
    rfl
  · intro r i h hrole hservice hlen hlo hhi hk
    rw [exec_secKeyQuery_of_allowed h hrole hservice hlen hlo hhi, hk]
    rfl
  · intro w k hs hkem hdue
    exact exec_decapKeyExpiry_of_due hs hkem hdue
  · intro r i h hrole hservice
    refine ⟨_, exec_secZeroize_of_allowed h hrole hservice, by simp, by simp, by simp, fun fn => ?_, by simp, by simp⟩
    rw [auth_approve, auth_keyLost, auth_zeroize]

end Sys2Proof.Machine
end

section
/-! PROOFS. Self-tests, the entropy source and VDD_FUSE (R430, R431, R445 to R449). -/

namespace Sys2Proof.Machine

theorem alarmed_resyncWhere {bit : Nat} {s : State} (p : Session → Bool) (h : Alarmed bit s) : Alarmed bit (resyncWhere s p) :=
  alarmed_of_same (by simp) (by simp) h

/-- The state that a class 2 fault on bit 42 is recorded in, with its error stored and SEC_ERROR raised. -/
def errorStored (s : State) (mask : BitVec 16) : State :=
  causeAll { s with sec := { s.sec with secError := true, errorAlgs := s.sec.errorAlgs ||| mask } } icSecError

/-- The error state stores its algorithms, raises class 2 on bit 42, and a session that loses its service takes class 3 (R446). -/
theorem enterSecError_effect (s : State) (mask : BitVec 16) :
    (enterSecError s mask).sec.secError = true ∧ (enterSecError s mask).sec.errorAlgs = s.sec.errorAlgs ||| mask ∧
      (enterSecError s mask).sec.keys = s.sec.keys ∧ Alarmed 42 (enterSecError s mask) := by
  have halarm : Alarmed 42 (larderUpdate (setServices (recordFault (errorStored s mask) 42 2 none))) :=
    alarmed_of_same (s := recordFault (errorStored s mask) 42 2 none) (by simp [setServices]) (by simp [setServices])
      (alarmed_of_class2 _ none (by decide))
  unfold enterSecError
  dsimp only
  split
  · exact ⟨by simp [setServices], by simp [setServices], by simp [setServices],
      alarmed_resyncWhere _ (alarmed_recordFault 42 3 none halarm)⟩
  · exact ⟨by simp [setServices], by simp [setServices], by simp [setServices], halarm⟩

/-- Service 9 follows VDD_FUSE, unless its algorithms are in error (R431). -/
theorem setServices_fuse (s : State) :
    (s.sec.vddFuse = true → s.sec.errorAlgs = 0 → (setServices s).sec.unavailable.contains 9 = false) ∧
      (s.sec.vddFuse = false → (setServices s).sec.unavailable.contains 9 = true) := by
  constructor
  · intro hfuse halgs
    simp [setServices, serviceOut, hfuse, halgs]
  · intro hfuse
    simp [setServices, serviceOut, hfuse]

/-- SEC_SELF_TEST replaces the algorithms in error by those that it finds. -/
def errorsForgotten (s : State) : State := { s with sec := { s.sec with errorAlgs := 0 } }

@[simp] theorem errorsForgotten_sec (s : State) : (errorsForgotten s).sec = { s.sec with errorAlgs := 0 } := rfl
@[simp] theorem errorsForgotten_mode (s : State) : (errorsForgotten s).mode = s.mode := rfl

section
variable {s : State} {r : CmdRef} {i : InFlight} {w : Nat}

theorem exec_secSelfTest_of_allowed (m : Nat) (h : Starts s r 0x89 i) (hrole : holds s r.fn true = true)
    (hservice : s.sec.unavailable.contains 3 = false) :
    exec (.secSelfTest r m) s = .next (approve (if algMask m = 0 then clearSecError (markStarted s r)
      else enterSecError (errorsForgotten (markStarted s r)) (algMask m)) r (algMask m).toNat) := by
  change execSecSelfTest r m s = _
  unfold execSecSelfTest
  rw [h.serve _ (secCheck_of_allowed hrole hservice rfl)]
  rfl

/-- The device once the periodic tests have run. -/
def tested (s : State) (w : Nat) : State := { atTime s w with sec := { s.sec with lastPeriodic := max s.now w } }

theorem exec_selfTestPeriodic_of_due (ok : Bool) (hs : dead s = false) (hdue : s.sec.lastPeriodic + 86400000000000 ≤ max s.now w) :
    exec (.selfTestPeriodic 0 ok w) s = .next (if ok then tested s w else class5 (tested s w) 42) := by
  have hnone : algMask 0 = 0 := by decide
  change execSelfTestPeriodic 0 ok w s = _
  simp only [execSelfTestPeriodic, hs, hdue, hnone, Bool.not_false, decide_true, Bool.and_self, act_true, if_true]
  cases ok <;> rfl

theorem exec_entropyHealthFail (hs : dead s = false) :
    exec (.entropyHealthFail w) s = .next (enterSecError (atTime s w) 0x0600) := by
  change execEntropyHealthFail w s = _
  simp only [execEntropyHealthFail, hs, Bool.not_false, act_true]

theorem exec_vddFuseChange (b : Bool) (hs : dead s = false) :
    exec (.vddFuseChange b w) s =
      .next (larderUpdate (setServices { atTime s w with sec := { s.sec with vddFuse := b } })) := by
  change execVddFuseChange b w s = _
  simp only [execVddFuseChange, hs, Bool.not_false, act_true]
  rfl

end

/-- Settles O27: a self-test that finds nothing clears the error state, one that finds something enters it. -/
theorem islandTestsComplete : Obligations.IslandTestsComplete := by
  intro s w
  refine ⟨?_, ?_, ?_, ?_, ?_, ?_⟩
  · intro r i h hrole hservice
    have hrun := exec_secSelfTest_of_allowed 0 h hrole hservice
    rw [if_pos (by decide)] at hrun
    exact ⟨_, hrun, by simp [clearSecError, setServices], by simp [clearSecError, setServices], by simp [clearSecError, setServices],
      by simp [clearSecError, setServices], by simp [clearSecError, setServices], by simp [clearSecError, setServices]⟩
  · intro r i m h hrole hservice hm
    have hrun := exec_secSelfTest_of_allowed m h hrole hservice
    rw [if_neg hm] at hrun
    obtain ⟨herror, halgs, hkeys, hdegraded, -⟩ :=
      enterSecError_effect (errorsForgotten (markStarted s r)) (algMask m)
    exact ⟨_, hrun, by simpa using herror, by simp [halgs], by simpa using hkeys, by simpa using hdegraded, by simp⟩
  · intro hs hdue
    refine ⟨exec_selfTestPeriodic_of_due true hs hdue, ?_⟩
    obtain ⟨hsealed, hstatus, -⟩ := class5_effect (tested s w) (by decide : 42 < 64)
    exact ⟨_, exec_selfTestPeriodic_of_due false hs hdue, hsealed, hstatus⟩
  · intro hs
    obtain ⟨herror, halgs, -, hdegraded, hstatus⟩ := enterSecError_effect (atTime s w) 0x0600
    exact ⟨_, exec_entropyHealthFail hs, herror, halgs, hdegraded, hstatus, by simp⟩
  · intro hs halgs hrequests
    exact act_of_true (by rw [hs, halgs, decide_eq_true hrequests]; rfl)
  · intro b hs
    obtain ⟨hpresent, habsent⟩ := setServices_fuse { atTime s w with sec := { s.sec with vddFuse := b } }
    exact ⟨_, exec_vddFuseChange b hs, by simp [setServices], by simpa using hpresent, by simpa using habsent, by simp [setServices],
      by simp [setServices], by simp [setServices]⟩

end Sys2Proof.Machine
end

section
/-! PROOFS. Packets of a pixel port (R303 to R306): the four commands that receive one, then what a good packet makes of the
picture that its port receives. -/

namespace Sys2Proof.Machine

section
variable {s s1 : State} {p : PxPkt} {good : Bool}

theorem exec_frameStart_of_received (hs : asleep s = false) (hp : p.port < 4) (hon : pxReceives s p.port = true)
    (h : pxReceive (atTime s p.t) 1 p = (good, s1)) :
    exec (.frameStart p) s = .next (if good then startPicture s1 p else s1) := by
  change execFrameStart p s = _
  simp only [execFrameStart, isPixel_of_lt hp, withUnit_true, hs, hon, Bool.not_false, Bool.and_self, act_true, h]
  cases good <;> rfl

theorem exec_line_of_received (hs : asleep s = false) (hp : p.port < 4) (hon : pxReceives s p.port = true)
    (h : pxReceive (atTime s p.t) 2 p = (good, s1)) : exec (.line p) s = .next (if good then takeLine s1 p else s1) := by
  change execLine p s = _
  simp only [execLine, isPixel_of_lt hp, withUnit_true, hs, hon, Bool.not_false, Bool.and_self, act_true, h]
  cases good <;> rfl

theorem exec_frameEnd_of_received (hs : asleep s = false) (hp : p.port < 4) (hon : pxReceives s p.port = true)
    (h : pxReceive (atTime s p.t) 3 p = (good, s1)) :
    exec (.frameEnd p) s = .next (if good then
      (if (pxGet s1 p.port).picture.isNone then orderError s1 p.port else endPicture s1 p.port) else s1) := by
  change execFrameEnd p s = _
  simp only [execFrameEnd, isPixel_of_lt hp, withUnit_true, hs, hon, Bool.not_false, Bool.and_self, act_true, h]
  cases good <;> rfl

theorem exec_metadata_of_received (hs : asleep s = false) (hp : p.port < 4) (hon : pxReceives s p.port = true)
    (h : pxReceive (atTime s p.t) 4 p = (good, s1)) :
    exec (.metadata p) s = .next (if good then takeMetadata s1 p else s1) := by
  change execMetadata p s = _
  simp only [execMetadata, isPixel_of_lt hp, withUnit_true, hs, hon, Bool.not_false, Bool.and_self, act_true, h]
  cases good <;> rfl

/-- Reception reaches no session (R306). -/
theorem sessions_pxReceive {typ : Nat} (h : pxReceive (atTime s p.t) typ p = (good, s1)) : s1.sessions = s.sessions := by
  obtain rfl : (pxReceive (atTime s p.t) typ p).2 = s1 := congrArg Prod.snd h
  simp

end

/-! ### FRAME_START (R303, R305) -/

/-- The port's last FRAME_START is the packet's, and its picture is one that has just begun. -/
def Begun (p : PxPkt) (t : State) : Prop :=
  (pxGet t p.port).lastFrame = some p.frame ∧ ∃ g, (pxGet t p.port).picture = some g ∧ g.frame = p.frame ∧
    g.fmt = readStart p.payload ∧ g.filled = 0 ∧ g.cll = none

@[simp] theorem pxGet_sessPut (s : State) (x : Session) (k : Nat) : pxGet (sessPut s x) k = pxGet s k := rfl

theorem begun_beginPicture {s : State} {p : PxPkt} (x : Session) (h : (pxGet s p.port).lastFrame = some p.frame) :
    Begun p (beginPicture s p (readStart p.payload) x) := by
  unfold beginPicture Begun
  dsimp only
  split <;> simp [h]

theorem begun_discardPicture {s : State} {p : PxPkt} (h : (pxGet s p.port).lastFrame = some p.frame) :
    Begun p (discardPicture s p (readStart p.payload)) := by
  simp [discardPicture, Begun, h]

/-- A port takes the frame number of a FRAME_START; a number that does not follow the last one is a gap. -/
def numbered (s : State) (p : PxPkt) : State :=
  pxSet s p.port { countPx (pxGet s p.port) 9 (if (match (pxGet s p.port).lastFrame with
      | some n => p.frame != (n + 1) % 2 ^ 32
      | none => false) then 1 else 0) with lastFrame := some p.frame }

@[simp] theorem lastFrame_numbered (s : State) (p : PxPkt) : (pxGet (numbered s p) p.port).lastFrame = some p.frame := by
  simp [numbered]

theorem startPicture_eq (s : State) (p : PxPkt) :
    startPicture s p = match pxSession (numbered (endPicture s p.port) p) p.port with
      | none => discardPicture (numbered (endPicture s p.port) p) p (readStart p.payload)
      | some x =>
        if startAgrees (numbered (endPicture s p.port) p) p.port (cfgAt x x.enc.nextSubmit) (readStart p.payload) then
          beginPicture (numbered (endPicture s p.port) p) p (readStart p.payload) x
        else discardPicture (pxSet (numbered (endPicture s p.port) p) p.port
          (countPx (pxGet (numbered (endPicture s p.port) p) p.port) 8 1)) p (readStart p.payload) := rfl

/-- Whether a session takes the picture, or it is discarded until the next FRAME_START, it has begun. -/
theorem begun_startPicture (s : State) (p : PxPkt) : Begun p (startPicture s p) := by
  rw [startPicture_eq]
  split
  · exact begun_discardPicture (by simp)
  · split
    · exact begun_beginPicture _ (by simp)
    · exact begun_discardPicture (by simp [countPx])

/-! ### LINE (R304) -/

/-- A picture with a segment of one of its planes appended, what it overtakes filled. -/
def withSegment (s : State) (g : PxPicture) (p : PxPkt) : PxPicture :=
  { fillTo g (fillerOf s g) (reachBefore g.fmt p.plane p.line p.offset) with
    lines := true
    arrived := lset (fillTo g (fillerOf s g) (reachBefore g.fmt p.plane p.line p.offset)).arrived p.plane
      ((fillTo g (fillerOf s g) (reachBefore g.fmt p.plane p.line p.offset)).arrived.getD p.plane [] ++ p.payload.take p.len) }

theorem takeLine_of_next {s : State} {p : PxPkt} {g : PxPicture} {id : Nat × Nat} (hg : (pxGet s p.port).picture = some g)
    (hfeeds : g.feeds = some id) (hfits : segmentFits g.fmt p = true) (hlate : segmentLate g p = false) :
    takeLine s p = pxSet s p.port { pxGet s p.port with picture := some (withSegment s g p) } := by
  simp only [takeLine, hg, hfeeds, hfits, hlate, Option.isNone_some, Bool.false_eq_true, Bool.not_true, Bool.or_self, if_false]
  rfl

/-- The number of planes stays, and the segment ends its plane. -/
theorem arrived_withSegment (s : State) (g : PxPicture) (p : PxPkt) :
    (withSegment s g p).arrived.length = g.arrived.length ∧
      (p.plane < g.arrived.length → ∃ b, (withSegment s g p).arrived[p.plane]? = some (b ++ p.payload.take p.len)) := by
  have hlength : (fillTo g (fillerOf s g) (reachBefore g.fmt p.plane p.line p.offset)).arrived.length = g.arrived.length := by
    simp [fillTo]
  simp only [withSegment, lset_eq_set, List.length_set]
  exact ⟨hlength, fun hplane => ⟨_, List.getElem?_set_self (hlength ▸ hplane)⟩⟩

/-! ### METADATA (R305) -/

theorem picture_takeMetadata {s : State} {p : PxPkt} {g : PxPicture} (hg : (pxGet s p.port).picture = some g)
    (hlines : g.lines = false) (htype : u8 p.payload 0 = 1) (hpayload : p.payload ≠ []) :
    (pxGet (takeMetadata s p) p.port).picture = some { g with cll := some (ube p.payload 2 2, ube p.payload 4 2) } := by
  have hlevels : ¬ (u8 p.payload 0 ≠ 1 ∨ p.payload.isEmpty) := by simp [htype, hpayload]
  unfold takeMetadata
  simp only [hg, hlines, Bool.false_eq_true, if_false, hlevels]
  (repeat' split) <;> simp

/-- Settles O38: by the command, and by whether the packet is good. -/
theorem pixelPacketsComplete : Obligations.PixelPacketsComplete := by
  intro s p hs hp hon
  refine ⟨fun s1 h => ?_, fun s1 h => ?_, fun s1 h => ?_, fun s1 h => ?_, fun s1 h => ?_, fun s1 g id h hg hfeeds hfits hlate => ?_,
    fun s1 g h hg => ?_, fun s1 g h hg hlines htype hpayload => ?_⟩
  · exact ⟨exec_frameStart_of_received hs hp hon h, sessions_pxReceive h⟩
  · exact ⟨exec_line_of_received hs hp hon h, sessions_pxReceive h⟩
  · exact ⟨exec_frameEnd_of_received hs hp hon h, sessions_pxReceive h⟩
  · exact ⟨exec_metadata_of_received hs hp hon h, sessions_pxReceive h⟩
  · have hrun := exec_frameStart_of_received hs hp hon h
    rw [if_pos rfl] at hrun
    obtain ⟨hlast, g, hpicture, hframe, hfmt, hfilled, hcll⟩ := begun_startPicture s1 p
    exact ⟨_, g, hrun, hlast, hpicture, hframe, hfmt, hfilled, hcll, exec_frames _ s _ hrun .mode (by simp [writes])⟩
  · have hrun := exec_line_of_received hs hp hon h
    rw [if_pos rfl, takeLine_of_next hg hfeeds hfits hlate] at hrun
    obtain ⟨hlength, hsegment⟩ := arrived_withSegment s1 g p
    exact ⟨_, withSegment s1 g p, hrun, by simp, rfl, rfl, hlength, hsegment, exec_frames _ s _ hrun .sessions (by simp [writes])⟩
  · have hrun := exec_frameEnd_of_received hs hp hon h
    rw [if_pos rfl, hg, Option.isNone_some, if_neg Bool.false_ne_true] at hrun
    exact ⟨_, hrun, picture_endPicture s1 p.port, exec_frames _ s _ hrun .mode (by simp [writes])⟩
  · have hrun := exec_metadata_of_received hs hp hon h
    rw [if_pos rfl] at hrun
    exact ⟨_, hrun, picture_takeMetadata hg hlines htype hpayload, exec_frames _ s _ hrun .mode (by simp [writes])⟩

end Sys2Proof.Machine
end

section
/-! PROOFS. Pools, capture, mirror rules and drop profiles (R322, R323, R325, R326, R331): one equation per command. -/

namespace Sys2Proof.Machine

@[simp] theorem swSet_sw (s : State) (x : SwitchState) : (swSet s x).sw = x := rfl

@[simp] theorem newPools_markStarted (s : State) (r : CmdRef) (e d : Bytes) : newPools (markStarted s r) e d = newPools s e d := by
  simp [newPools, poolAt]

@[simp] theorem grantBytes_markStarted (s : State) (r : CmdRef) (fn : Nat) : grantBytes (markStarted s r) fn = grantBytes s fn := by
  simp [grantBytes]

/-- Pools replaced: those in HBM come out of the device pool. -/
def poolsReplaced (s : State) (l : List Pool) : State :=
  { s with hbm := { s.hbm with poolUsed := s.hbm.poolUsed + poolsHbm l - poolsHbm s.sw.pools }, sw := { s.sw with pools := l } }

/-- The drop profile of Table 16.7. -/
def readProfile (b : Bytes) : DropProfile :=
  ⟨u8 b 0, u32 b 4, ⟨u32 b 8, u32 b 12, u8 b 16⟩, ⟨u32 b 20, u32 b 24, u8 b 28⟩, ⟨u32 b 32, u32 b 36, u8 b 40⟩⟩

section
variable {s : State} {r : CmdRef} {i : InFlight}

theorem exec_setPools_of_accepted {d : Bytes} (h : Starts s r 0x60 i) (hchk : chkPools r.fn d (markStarted s r) i.entry = none) :
    exec (.setPools r d) s = .next (configured ((List.range 8).foldl settlePool
      (poolsReplaced (markStarted s r) (newPools s i.entry (readData s r.fn i.entry d)))) r 0) := by
  change execSetPools r d s = _
  unfold execSetPools
  rw [h.serve _ hchk]
  simp only [readData_markStarted, newPools_markStarted]
  rfl

/-- QUERY_POOLS counts MIN_FREE anew. -/
theorem exec_queryPools_of_room (h : Starts s r 0x61 i) (hlen : 256 ≤ cmdDataLen i.entry) : ∃ b,
    exec (.queryPools r) s = .next (succeed (swSet (writeData (markStarted s r) r.fn i.entry b)
      { s.sw with pools := s.sw.pools.map (fun p => { p with minFree := poolFreeCount p }) }) r 0) := by
  refine ⟨s.sw.pools.flatMap poolBytes, ?_⟩
  change execQueryPools r s = _
  unfold execQueryPools
  rw [h.serve _ (by simp [hlen])]
  simp only [writeData_same, markStarted_same]

theorem exec_setCapture_of_enable (h : Starts s r 0x62 i) (henable : u8 i.entry 24 = 1) (hlo : 16 ≤ u32 i.entry 28)
    (hhi : u32 i.entry 28 ≤ 5592405) (halign : u64 i.entry 32 % 4096 = 0)
    (hroom : u64 i.entry 32 + 64 + 192 * u32 i.entry 28 ≤ grantBytes s 0) :
    exec (.setCapture r) s = .next (configured (hostWrite (swSet (markStarted s r) { s.sw with capture := { s.sw.capture with
      enable := true, depth := u32 i.entry 28, base := u64 i.entry 32, produced := 0, consumed := 0, dropped := 0 } })
      0 true (u64 i.entry 32) (zeros 64)) r 0) := by
  change execSetCapture r s = _
  unfold execSetCapture
  rw [h.serve _ (by simp [henable, inRange, hlo, hhi, halign, hroom])]
  simp only [henable, if_true, markStarted_same]

theorem exec_setCapture_of_disable (h : Starts s r 0x62 i) (hdisable : u8 i.entry 24 = 0) :
    exec (.setCapture r) s = .next (configured { markStarted s r with
      sw := { s.sw with capture := { s.sw.capture with enable := false } } } r 0) := by
  change execSetCapture r s = _
  unfold execSetCapture
  rw [h.serve _ (by simp [hdisable])]
  simp only [hdisable, Nat.zero_ne_one, if_false, markStarted_same, swSet]

theorem exec_setMirrorRule_of_inRange (h : Starts s r 0x63 i) (hrule : u8 i.entry 24 < 64) (hon : u8 i.entry 25 ≤ 1)
    (htype : u8 i.entry 26 < 4) (hport : u8 i.entry 27 = 0xFF ∨ u8 i.entry 27 < 50) (hqueue : u16 i.entry 32 < 2048) :
    exec (.setMirrorRule r) s = .next (configured { markStarted s r with
      sw := { s.sw with rules := tset s.sw.rules (u8 i.entry 24) ⟨u8 i.entry 25 == 1, u8 i.entry 26, u8 i.entry 27,
        u32 i.entry 28, u16 i.entry 32, u16 i.entry 34, 0⟩ } } r 0) := by
  change execSetMirrorRule r s = _
  unfold execSetMirrorRule
  rw [h.serve _ (by simp [hrule, hon, htype, hport, isPort, hqueue])]
  simp only [markStarted_same, swSet]

theorem exec_setDropProfile_of_accepted {d : Bytes} (h : Starts s r 0x64 i) (hprofile : 1 ≤ u8 i.entry 24)
    (hlen : 48 ≤ cmdDataLen i.entry) (hrules : dataCheck (profileRules (readData s r.fn i.entry d)) = none) :
    exec (.setDropProfile r d) s = .next (configured { markStarted s r with
      sw := { s.sw with profiles := tset s.sw.profiles (u8 i.entry 24) (readProfile (readData s r.fn i.entry d)) } } r 0) := by
  have hbyte : u8 i.entry 24 ≤ 255 := Nat.le_of_lt_succ (BitVec.isLt _)
  change execSetDropProfile r d s = _
  unfold execSetDropProfile
  rw [h.serve _ (by
    simp only [orElse_none, readData_markStarted, hrules, and_true, fieldCheck_none]
    simp [inRange, hprofile, hbyte, hlen])]
  simp only [markStarted_same, readData_markStarted, swSet]
  rfl

end

/-- Settles O40: the equations above, and what completing a command leaves of the switch. -/
theorem switchCommandsComplete : Obligations.SwitchCommandsComplete := by
  intro s r i
  refine ⟨?_, ?_, ?_, ?_, ?_, ?_⟩
  · rintro d l h hchk rfl
    simpa only [poolsReplaced, markStarted_same] using exec_setPools_of_accepted h hchk
  · intro h hlen
    obtain ⟨b, hrun⟩ := exec_queryPools_of_room h hlen
    exact ⟨_, hrun, by simp, by simp, by simp, by simp⟩
  · intro h henable hlo hhi halign hroom
    exact ⟨_, exec_setCapture_of_enable h henable hlo hhi halign hroom, by simp, by simp, by simp⟩
  · intro h hdisable
    exact exec_setCapture_of_disable h hdisable
  · intro h hrule hon htype hport hqueue
    exact exec_setMirrorRule_of_inRange h hrule hon htype hport hqueue
  · rintro d b h rfl hprofile hlen hrules
    exact exec_setDropProfile_of_accepted h hprofile hlen hrules

end Sys2Proof.Machine
end

section
/-! PROOFS. The table, route, next-hop, learning and group commands (R333, R338, R340 to R344, R351): what an insert places a lookup
finds, then one equation per command. -/

namespace Sys2Proof.Machine

/-! ### What an insert places, a lookup finds (R337, R338) -/

theorem mem_bucketOf {t : Tbl EmtEntry} {b : Nat} {p : Nat × EmtEntry} :
    p ∈ bucketOf t b ↔ p.1 ∈ [b, b + 1, b + 2, b + 3] ∧ tfind t p.1 = some p.2 := by
  obtain ⟨k, e⟩ := p
  simp only [bucketOf, List.mem_filterMap, Option.map_eq_some_iff, Prod.mk.injEq]
  constructor
  · rintro ⟨j, hj, e', hfind, rfl, rfl⟩
    exact ⟨hj, hfind⟩
  · rintro ⟨hk, hfind⟩
    exact ⟨k, hk, e, hfind, rfl, rfl⟩

/-- A free place lies in its bucket. -/
theorem mem_of_freePlace {t : Tbl EmtEntry} {b typ k : Nat} (h : freePlace t b typ = some k) : k ∈ [b, b + 1, b + 2, b + 3] := by
  unfold freePlace at h
  split at h
  · have hpair := List.mem_of_find?_eq_some h
    simp only [List.mem_cons, List.not_mem_nil, or_false] at hpair ⊢
    omega
  · exact List.mem_of_find?_eq_some h

/-- The first match of a list whose only match is a given element. -/
theorem find?_eq_of_only {α : Type} {f : α → Bool} {l : List α} {a : α} (hmem : a ∈ l) (hmatch : f a = true)
    (honly : ∀ p ∈ l, f p = true → p = a) : l.find? f = some a := by
  cases hfind : l.find? f with
  | none => exact absurd hmatch (List.find?_eq_none.mp hfind a hmem)
  | some p => rw [honly p (List.mem_of_find?_eq_some hfind) (List.find?_some hfind)]

/-- An entry that is placed in a bucket of its key is the one that the key finds. -/
theorem emtFind_tset {tab : Tbl EmtEntry} {x : EmtEntry} {k : Nat} (hnone : emtFind tab x.key = none)
    (hk : k ∈ [emtBucket 0 x.key, emtBucket 0 x.key + 1, emtBucket 0 x.key + 2, emtBucket 0 x.key + 3]) :
    emtFind (tset tab k x) x.key = some (k, x) := by
  have hold : ∀ (b : Nat) (p : Nat × EmtEntry), p ∈ bucketOf (tset tab k x) b → p = (k, x) ∨ p ∈ bucketOf tab b := by
    intro b p hp
    obtain ⟨hslot, hfind⟩ := mem_bucketOf.mp hp
    by_cases hp1 : p.1 = k
    · rw [hp1, tfind_tset] at hfind
      exact .inl (Prod.ext hp1 (Option.some.inj hfind).symm)
    · rw [tfind_tset_ne _ _ _ _ hp1] at hfind
      exact .inr (mem_bucketOf.mpr ⟨hslot, hfind⟩)
  unfold emtFind at hnone ⊢
  rw [List.find?_eq_none] at hnone
  refine find?_eq_of_only ?_ (decide_eq_true rfl) fun p hp hkey => ?_
  · exact List.mem_append_left _ (mem_bucketOf.mpr ⟨hk, tfind_tset _ _ _⟩)
  · obtain hp | hp := List.mem_append.mp hp
    · exact (hold _ p hp).resolve_right fun h => hnone p (List.mem_append_left _ h) hkey
    · exact (hold _ p hp).resolve_right fun h => hnone p (List.mem_append_right _ h) hkey

/-- A free place in the first bucket takes a new entry, without a move. -/
theorem emtInsert_of_free {tab : Tbl EmtEntry} {x : EmtEntry} {k : Nat} (hnone : emtFind tab x.key = none)
    (hfree : freePlace tab (emtBucket 0 x.key) x.typ = some k) : emtInsert tab x = some (0, tset tab k x) := by
  simp only [emtInsert, hnone, hfree]

/-! ### The commands -/

/-- The entry that TABLE_INSERT places. -/
def insertedEntry (b : Bytes) : EmtEntry := ⟨u8 b 0 % 4, true, keyOfSlots b, resultOf b, 0, 0⟩

section
variable {s : State} {r : CmdRef} {i : InFlight} {d : Bytes}

theorem exec_tableInsert_of_allowed (h : Starts s r 0x58 i)
    (hfields : fieldCheck (lenRule i.entry (readData s r.fn i.entry d) ++ [(decide (u8 i.entry 24 ≤ 1), 24)]) = none)
    (hdata : dataCheck (keyRules (readData s r.fn i.entry d) ++ resultRules (u8 (readData s r.fn i.entry d) 0x14)
      (u8 (readData s r.fn i.entry d) 0x15) (u16 (readData s r.fn i.entry d) 0x16) 0x14) = none)
    (hreplace : ∀ p, emtFind s.tables.emt (keyOfSlots (readData s r.fn i.entry d)) = some p →
      p.2.static = false ∨ u8 i.entry 24 = 1) :
    exec (.tableInsert r d) s = .next (match emtInsert s.tables.emt (insertedEntry (readData s r.fn i.entry d)) with
      | some (n, tab) => configured { markStarted s r with tables := { s.tables with emt := tab } } r n
      | none => finish (markStarted s r) r (failWith stTableFull)) := by
  have hstatic : (match emtFind s.tables.emt (keyOfSlots (readData s r.fn i.entry d)) with
      | some p => if p.2.static && u8 i.entry 24 % 2 == 0 then some (failWith stBusy) else none
      | none => none) = none := by
    cases hfind : emtFind s.tables.emt (keyOfSlots (readData s r.fn i.entry d)) with
    | none => rfl
    | some p => obtain hp | hp := hreplace p hfind <;> simp [hp]
  change execTableInsert r d s = _
  unfold execTableInsert
  rw [h.serve _ (by
    simp only [orElse_none, readData_markStarted, hfields, hdata, markStarted_same, true_and]
    exact hstatic)]
  simp only [readData_markStarted, markStarted_same, tabSet]
  rfl

theorem exec_tableDelete_of_allowed (h : Starts s r 0x59 i)
    (hfields : fieldCheck (lenRule i.entry (readData s r.fn i.entry d)) = none)
    (hdata : dataCheck (keyRules (readData s r.fn i.entry d)) = none) :
    exec (.tableDelete r d) s = .next (match emtFind s.tables.emt (keyOfSlots (readData s r.fn i.entry d)) with
      | some p => configured { markStarted s r with tables := { s.tables with emt := tdel s.tables.emt p.1 } } r 1
      | none => succeed (markStarted s r) r 0) := by
  change execTableDelete r d s = _
  unfold execTableDelete
  rw [h.serve _ (by simp only [orElse_none, readData_markStarted, hfields, hdata, and_self])]
  simp only [readData_markStarted, markStarted_same, tabSet] <;> rfl

theorem exec_tableRead_of_inRange (h : Starts s r 0x5A i) (hslot : u32 i.entry 24 < 131072) (hlo : 1 ≤ u32 i.entry 28)
    (hhi : u32 i.entry 28 ≤ 4096) (hroom : 32 * u32 i.entry 28 ≤ cmdDataLen i.entry) :
    exec (.tableRead r) s = .next (succeed (writeData (markStarted s r) r.fn i.entry
      ((List.range (min (u32 i.entry 28) (131072 - u32 i.entry 24))).flatMap (fun k => slotBytes s.tables.emt (u32 i.entry 24 + k))))
      r (min (u32 i.entry 28) (131072 - u32 i.entry 24))) := by
  change execTableRead r s = _
  unfold execTableRead
  rw [h.serve _ (by simp [hslot, inRange, hlo, hhi, hroom])]
  simp only [markStarted_same]

theorem exec_tableFlush_of_scope (h : Starts s r 0x5B i) (hscope : u8 i.entry 24 ≤ 2) (hport : u8 i.entry 24 = 1 → u8 i.entry 25 < 50)
    (hfid : u8 i.entry 24 = 2 → 1 ≤ u16 i.entry 26 ∧ u16 i.entry 26 ≤ 4094) : ∃ n,
    exec (.tableFlush r) s = .next (configured (tabSet (markStarted s r)
      { s.tables with emt := s.tables.emt.filter (fun p => !flushes i.entry p.2) }) r n) := by
  refine ⟨s.tables.emt.length - (s.tables.emt.filter (fun p => !flushes i.entry p.2)).length, ?_⟩
  change execTableFlush r s = _
  unfold execTableFlush
  rw [h.serve _ (by
    simp only [fieldCheck_none, List.forall_mem_cons, List.not_mem_nil, false_imp_iff, forall_const, and_true, Bool.or_eq_true,
      bne_iff_ne, isPort, inRange, Bool.and_eq_true, decide_eq_true_eq]
    exact ⟨hscope, Decidable.not_or_of_imp hport, Decidable.not_or_of_imp hfid⟩)]
  simp only [markStarted_same]

theorem exec_routeAdd_of_allowed (h : Starts s r 0x5C i)
    (hfields : fieldCheck (routeRules i.entry ++ [(decide (u16 i.entry 26 < 4096), 26)]) = none) :
    exec (.routeAdd r) s = .next (
      if s.tables.routes.any (sameRoute i.entry) then configured (tabSet (markStarted s r) { s.tables with
        routes := s.tables.routes.map (fun x => if sameRoute i.entry x then { x with nextHop := u16 i.entry 26 } else x) }) r 0
      else if 32768 < trieUnits s.tables.routes + (if u8 i.entry 24 = 4 then 1 else 4) then
        finish (markStarted s r) r (failWith stTableFull)
      else configured (tabSet (markStarted s r) { s.tables with
        routes := s.tables.routes ++ [⟨u8 i.entry 24, u8 i.entry 25, routePfx i.entry, u16 i.entry 26⟩] }) r 0) := by
  change execRouteAdd r s = _
  unfold execRouteAdd
  rw [h.serve _ hfields]
  simp only [markStarted_same]

theorem exec_routeDelete_of_allowed (h : Starts s r 0x5D i) (hfields : fieldCheck (routeRules i.entry) = none) :
    exec (.routeDelete r) s = .next (
      if s.tables.routes.any (sameRoute i.entry) then configured (tabSet (markStarted s r) { s.tables with
        routes := s.tables.routes.filter (fun x => !sameRoute i.entry x) }) r 1
      else succeed (markStarted s r) r 0) := by
  change execRouteDelete r s = _
  unfold execRouteDelete
  rw [h.serve _ hfields]
  simp only [markStarted_same]

theorem exec_setNextHop_of_allowed (h : Starts s r 0x5E i) (hhop : u16 i.entry 24 < 4096)
    (hfields : fieldCheck (resultRules (u8 i.entry 26) (u8 i.entry 27) (u16 i.entry 28) 26) = none) :
    exec (.setNextHop r) s = .next (configured (tabSet (markStarted s r) { s.tables with
      hops := tset s.tables.hops (u16 i.entry 24) ⟨u8 i.entry 26, u8 i.entry 27, u16 i.entry 28, u16 i.entry 30,
        u32 i.entry 32, ube i.entry 36 6⟩ }) r 0) := by
  rw [fieldCheck_none] at hfields
  change execSetNextHop r s = _
  unfold execSetNextHop
  rw [h.serve _ (by
    rw [fieldCheck_none, List.singleton_append, List.forall_mem_cons]
    exact ⟨decide_eq_true hhop, hfields⟩)]
  simp only [markStarted_same]

theorem exec_setLearn_of_allowed (h : Starts s r 0x5F i) (hfields : fieldCheck (learnRules i.entry) = none) :
    exec (.setLearn r) s = .next (if u8 i.entry 24 = 0xFF then configured (tabSet (markStarted s r)
        { s.tables with agingS := u32 i.entry 28, dampMs := u16 i.entry 32, routerMac := ube i.entry 34 6 }) r 0
      else configured (tabSet (markStarted s r) { s.tables with
        ports := tset s.tables.ports (u8 i.entry 24) { learnPort s.tables (u8 i.entry 24) with
          flags := u8 i.entry 25 % 32, pvid := u16 i.entry 26, limit := u32 i.entry 28, flapLimit := u16 i.entry 32,
          flapping := (learnPort s.tables (u8 i.entry 24)).flapping && !bitOf (u8 i.entry 25) 5 } }) r 0) := by
  change execSetLearn r s = _
  unfold execSetLearn
  rw [h.serve _ hfields]
  simp only [markStarted_same]

theorem exec_setGroup_of_allowed (h : Starts s r 0x65 i) (hlo : 1 ≤ u16 i.entry 24) (hhi : u16 i.entry 24 ≤ 4095)
    (hlen : 16 ≤ cmdDataLen i.entry) (hports : u64 (readData s r.fn i.entry d) 0 < 2 ^ 50) :
    exec (.setGroup r d) s = .next (configured (tabSet (markStarted s r) { s.tables with
      groups := tset s.tables.groups (u16 i.entry 24)
        ⟨BitVec.ofNat 64 (u64 (readData s r.fn i.entry d) 0), BitVec.ofNat 64 (u64 (readData s r.fn i.entry d) 8)⟩ }) r 0) := by
  change execSetGroup r d s = _
  unfold execSetGroup
  rw [h.serve _ (by
    simp only [orElse_none, fieldCheck_none, dataCheck_none, readData_markStarted, List.forall_mem_cons, List.not_mem_nil,
      false_imp_iff, forall_const, and_true, inRange, Bool.and_eq_true, decide_eq_true_eq]
    exact ⟨⟨⟨hlo, hhi⟩, hlen⟩, hports⟩)]
  simp only [readData_markStarted, markStarted_same]

/-- The 32 bytes of QUERY_TABLES. -/
def tableBytes (x : TableState) : Bytes :=
  le 4 (slotsWhere x (fun _ => true)) ++ le 4 (slotsWhere x (·.static)) ++ le 4 (slotsWhere x (fun k => !k.static))
    ++ le 4 (trieUnits x.routes) ++ le 2 x.requests.length
    ++ le 2 ((List.range 16).foldl (fun n p => if (learnPort x p).flapping then n + 2 ^ p else n) 0) ++ zeros 12

theorem exec_queryTables_of_room (h : Starts s r 0x66 i) (hlen : 32 ≤ cmdDataLen i.entry) :
    exec (.queryTables r) s = .next (succeed (writeData (markStarted s r) r.fn i.entry (tableBytes s.tables)) r 0) := by
  change execQueryTables r s = _
  unfold execQueryTables
  rw [h.serve _ (by simp [hlen])]
  simp only [markStarted_same]
  rfl

end

@[simp] theorem tabSet_tables (s : State) (x : TableState) : (tabSet s x).tables = x := rfl

@[simp] theorem tabSet_epochCtr (s : State) (x : TableState) : (tabSet s x).epochCtr = s.epochCtr := rfl

/-- Settles O45: the equations above; the last clause is the Exact Match Table's own. -/
theorem tableCommandsComplete : Obligations.TableCommandsComplete := by
  intro s r i
  refine ⟨?_, ?_, ?_, ?_, ?_, ?_, ?_, ?_, ?_, ?_, ?_⟩
  · rintro d b x n tab h rfl hfields hdata hreplace rfl
    have hrun := exec_tableInsert_of_allowed h hfields hdata hreplace
    constructor
    · intro hplaced
      rw [hrun, insertedEntry, hplaced]
    · intro hfull
      rw [hrun, insertedEntry, hfull]
  · rintro d b h rfl hfields hdata
    have hrun := exec_tableDelete_of_allowed h hfields hdata
    constructor
    · intro p hfound
      rw [hrun, hfound]
    · intro hnone
      rw [hrun, hnone]
  · intro h hslot hlo hhi hroom
    exact exec_tableRead_of_inRange h hslot hlo hhi hroom
  · intro h hscope hport hfid
    obtain ⟨n, hrun⟩ := exec_tableFlush_of_scope h hscope hport hfid
    exact ⟨_, hrun, by simp, by simp⟩
  · intro h hfields
    have hrun := exec_routeAdd_of_allowed h hfields
    refine ⟨fun hsame => ?_, fun hnew hroom => ?_, fun hnew hfull => ?_⟩
    · rw [if_pos hsame] at hrun
      exact ⟨_, hrun, by simp⟩
    · rw [hnew, if_neg Bool.false_ne_true, if_neg (Nat.not_lt.mpr hroom)] at hrun
      exact ⟨_, hrun, by simp, by simp⟩
    · rwa [hnew, if_neg Bool.false_ne_true, if_pos hfull] at hrun
  · intro h hfields
    have hrun := exec_routeDelete_of_allowed h hfields
    constructor
    · intro hsame
      rw [if_pos hsame] at hrun
      exact ⟨_, hrun, by simp, by simp⟩
    · intro hnone
      rwa [hnone, if_neg Bool.false_ne_true] at hrun
  · intro h hhop hfields
    exact ⟨_, exec_setNextHop_of_allowed h hhop hfields, by simp, by simp⟩
  · intro h hfields
    have hrun := exec_setLearn_of_allowed h hfields
    constructor
    · intro hall
      rw [if_pos hall] at hrun
      exact ⟨_, hrun, by simp, by simp⟩
    · intro hport
      rw [if_neg hport] at hrun
      exact ⟨_, hrun, by simp, by simp⟩
  · rintro d b h rfl hlo hhi hlen hports
    exact ⟨_, exec_setGroup_of_allowed h hlo hhi hlen hports, by simp, by simp⟩
  · intro h hlen
    exact ⟨_, by simp [tableBytes, le, zeros], by simp [tableBytes, le], exec_queryTables_of_room h hlen⟩
  · intro tab x k hnone hfree
    exact ⟨emtInsert_of_free hnone hfree, emtFind_tset hnone (mem_of_freePlace hfree)⟩

end Sys2Proof.Machine
end

section
/-! PROOFS. The Learn Engine (R345, R347 to R349): the oldest request is taken and judged; a lemma per judgement. -/

namespace Sys2Proof.Machine

/-- The state in which the oldest request is judged. -/
def requestTaken (s : State) (w : Nat) (l : List LearnReq) : State :=
  tabSet (atTime s w) { s.tables with requests := l }

theorem takeRequest_of_oldest {s : State} {q : LearnReq} {l : List LearnReq} (w : Nat) (h : s.tables.requests = q :: l) :
    takeRequest (atTime s w) q = some (requestTaken s w l) := by
  simp only [takeRequest, atTime_same, h, if_true]
  rfl

theorem isEth_of_lt {p : Nat} (h : p < 16) : isEth p = true := decide_eq_true h

section
variable {s : State} {p fid mac w : Nat} {l : List LearnReq}

theorem exec_learn_of_oldest (hs : asleep s = false) (hp : p < 16) (h : s.tables.requests = ⟨0, p, fid, mac⟩ :: l) :
    exec (.learn p fid mac w) s = .next (judge (requestTaken s w l) ⟨0, p, fid, mac⟩) := by
  change execLearn p fid mac w s = _
  simp only [execLearn, isEth_of_lt hp, withUnit_true, act_awake hs, takeRequest_of_oldest w h]

theorem exec_refresh_of_oldest (hs : asleep s = false) (hp : p < 16) (h : s.tables.requests = ⟨1, p, fid, mac⟩ :: l) :
    exec (.refresh p fid mac w) s = .next (judge (requestTaken s w l) ⟨1, p, fid, mac⟩) := by
  change execRefresh p fid mac w s = _
  simp only [execRefresh, isEth_of_lt hp, withUnit_true, act_awake hs, takeRequest_of_oldest w h]

theorem exec_move_of_oldest (hs : asleep s = false) (hp : p < 16) (h : s.tables.requests = ⟨2, p, fid, mac⟩ :: l) :
    exec (.move p fid mac w) s = .next (judge (requestTaken s w l) ⟨2, p, fid, mac⟩) := by
  change execMove p fid mac w s = _
  simp only [execMove, isEth_of_lt hp, withUnit_true, act_awake hs, takeRequest_of_oldest w h]

end

section
variable {s : State} {q : LearnReq} {k : Nat} {e : EmtEntry}

theorem judge_of_new {n : Nat} {tab : Tbl EmtEntry} (hnone : emtFind s.tables.emt (l2Key q.fid q.mac) = none)
    (hlimit : learnedOn s.tables q.port < (learnPort s.tables q.port).limit)
    (hinsert : emtInsert s.tables.emt (learnedEntry s q) = some (n, tab)) :
    judge s q = tabSet s { s.tables with emt := tab } := by
  simp only [judge, hnone, learnNew, Nat.not_le.mpr hlimit, if_false, hinsert]

theorem judge_of_held (hfind : emtFind s.tables.emt (l2Key q.fid q.mac) = some (k, e)) (hstatic : e.static = false)
    (hport : e.result.port = q.port) :
    judge s q = tabSet s { s.tables with emt := tset s.tables.emt k { e with ageStamp := ptpSec16 s } } := by
  simp only [judge, hfind, hstatic, Bool.false_eq_true, if_false, hport, if_true]

theorem judge_of_moved (hfind : emtFind s.tables.emt (l2Key q.fid q.mac) = some (k, e)) (hstatic : e.static = false)
    (hport : e.result.port ≠ q.port) : judge s q = moveEntry s q k e := by
  simp only [judge, hfind, hstatic, Bool.false_eq_true, if_false, hport]

theorem moveEntry_of_accepted (hdamp : s.tables.dampMs ≤ (ptpMs16 s + 65536 - e.moveStamp) % 65536)
    (hlimit : learnedOn s.tables q.port < (learnPort s.tables q.port).limit) :
    moveEntry s q k e = tabSet s (countTab { s.tables with emt := tset s.tables.emt k { e with
      result := { e.result with port := q.port }, ageStamp := ptpSec16 s, moveStamp := ptpMs16 s } } q.port tcMoves) := by
  simp only [moveEntry, Nat.not_lt.mpr hdamp, Nat.not_le.mpr hlimit, if_false]

theorem moveEntry_of_damped (hdamp : (ptpMs16 s + 65536 - e.moveStamp) % 65536 < s.tables.dampMs) :
    moveEntry s q k e = countFlap s q.port := by
  simp only [moveEntry, hdamp, if_true]

end

/-- Flaps of a port in the present second of PTP time, this one with them. -/
def flapsNow (s : State) (p : Nat) : Nat :=
  if (learnPort s.tables p).flapSecond = ptpTime s / 1000000000 then (learnPort s.tables p).flapCount + 1 else 1

/-- A port after a flap. -/
def flapped (s : State) (p : Nat) : LearnPort :=
  { learnPort s.tables p with
    flapSecond := ptpTime s / 1000000000, flapCount := flapsNow s p, lastFlap := s.now,
    flapping := (learnPort s.tables p).flapping || decide ((learnPort s.tables p).flapLimit ≤ flapsNow s p) }

/-- A flap changes its port and its counter, whether it is recorded or not. -/
theorem countFlap_tables (s : State) (p : Nat) :
    (countFlap s p).tables = { countTab s.tables p tcFlaps with ports := tset s.tables.ports p (flapped s p) } := by
  simp only [countFlap, apply_ite State.tables, logEvent_same, ite_self]
  rfl

/-- A flap stamps its port, and a flag that is up stays up; requests and entries stay. -/
theorem countFlap_effect (s : State) (p : Nat) :
    (countFlap s p).tables.requests = s.tables.requests ∧ (countFlap s p).tables.emt = s.tables.emt ∧
      (learnPort (countFlap s p).tables p).lastFlap = s.now ∧
      ((learnPort s.tables p).flapping = true → (learnPort (countFlap s p).tables p).flapping = true) := by
  have hport : learnPort (countFlap s p).tables p = flapped s p := by
    rw [countFlap_tables]
    exact tget_tset _ _ _ _
  rw [hport, countFlap_tables]
  exact ⟨rfl, rfl, rfl, fun hflag => by simp [flapped, hflag]⟩

theorem exec_flapClear_of_quiet {s : State} {p w : Nat} (hs : asleep s = false) (hp : p < 16)
    (hflag : (learnPort s.tables p).flapping = true) (hquiet : (learnPort s.tables p).lastFlap + 60000000000 ≤ max s.now w) :
    exec (.flapClear p w) s = .next { atTime s w with
      tables := { s.tables with ports := tset s.tables.ports p { learnPort s.tables p with flapping := false } } } := by
  have hclear : ((learnPort (atTime s w).tables p).flapping &&
      decide ((learnPort (atTime s w).tables p).lastFlap + 60000000000 ≤ (atTime s w).now)) = true := by
    rw [Bool.and_eq_true, decide_eq_true_eq]
    exact ⟨hflag, hquiet⟩
  change execFlapClear p w s = _
  simp only [execFlapClear, isEth_of_lt hp, withUnit_true, act_awake hs, hclear, if_true]
  rfl

/-- Settles O46: the request is the oldest, so it is judged; each clause is one judgement. -/
theorem learningCompletes : Obligations.LearningCompletes := by
  intro s p fid mac w l hs hp
  refine ⟨?_, ?_, ?_, ?_, ?_, ?_⟩
  · intro n tab hoq hnone hlimit hinsert
    rw [exec_learn_of_oldest hs hp hoq, judge_of_new (n := n) (tab := tab) hnone hlimit hinsert]
    rfl
  · intro k e hoq hfind hstatic hport
    rw [exec_refresh_of_oldest hs hp hoq, judge_of_held (k := k) (e := e) hfind hstatic hport]
    rfl
  · intro k e hoq hfind hstatic hport hdamp hlimit
    have hrun := exec_move_of_oldest (w := w) hs hp hoq
    rw [judge_of_moved (k := k) (e := e) hfind hstatic hport, moveEntry_of_accepted hdamp hlimit] at hrun
    exact ⟨_, hrun, rfl, rfl, rfl⟩
  · intro k e hoq hfind hstatic hport hdamp
    have hrun := exec_move_of_oldest (w := w) hs hp hoq
    rw [judge_of_moved (k := k) (e := e) hfind hstatic hport, moveEntry_of_damped (s := requestTaken s w l) hdamp] at hrun
    exact ⟨_, hrun, countFlap_effect (requestTaken s w l) p⟩
  · exact act_awake hs
  · intro hflag hquiet
    exact exec_flapClear_of_quiet hs hp hflag hquiet

end Sys2Proof.Machine
end

section
/-! PROOFS. Gates, pauses, merge timers and links of the Ethernet ports (R355, R356, R367, R373). -/

namespace Sys2Proof.Machine

/-! ### Dropping the copies of a port leaves the configurations of the ports -/

theorem ethGet_eq_of_net {s t : State} (h : t.net = s.net) (k : Nat) : ethGet t k = ethGet s k := (reads_eq_of_net h k).1

theorem cfg_ethSet {s : State} {p : Nat} {x : EthPort} (h : x.cfg = (ethGet s p).cfg) (k : Nat) :
    (ethGet (ethSet s p x) k).cfg = (ethGet s k).cfg := by
  by_cases hk : k = p
  · rw [hk, ethGet_ethSet, h]
  · rw [ethGet_ethSet_ne _ _ _ _ hk]

@[simp] theorem ethGet_poolPut (s : State) (n : Nat) (p : Pool) (k : Nat) : ethGet (poolPut s n p) k = ethGet s k := rfl
@[simp] theorem ethGet_bufPut (s : State) (id : Nat) (b : Buffer) (k : Nat) : ethGet (bufPut s id b) k = ethGet s k := rfl
@[simp] theorem ethGet_countPort (s : State) (p n k : Nat) : ethGet (countPort s p n) k = ethGet s k := rfl
@[simp] theorem ethGet_queueSet (s : State) (n : Nat) (x : EgressQueue) (k : Nat) : ethGet (queueSet s n x) k = ethGet s k := rfl
@[simp] theorem ethGet_emit (s : State) (o : OutItem) (k : Nat) : ethGet (emit s o) k = ethGet s k := rfl

@[simp] theorem cfg_countEth (s : State) (p c n k : Nat) : (ethGet (countEth s p c n) k).cfg = (ethGet s k).cfg :=
  cfg_ethSet (by rfl) k

@[simp] theorem cfg_sendPfc (s : State) (mask : Nat) (xoff : Bool) (k : Nat) :
    (ethGet (sendPfc s mask xoff) k).cfg = (ethGet s k).cfg := by
  unfold sendPfc
  refine (foldl_view (fun s => (ethGet s k).cfg) (fun s p => ?_) _ _).trans ?_
  · split
    · exact foldl_view (fun s => (ethGet s k).cfg) (fun s c => by split <;> simp) _ s
    · rfl
  · cases xoff <;> rfl

@[simp] theorem cfg_settlePool (s : State) (n k : Nat) : (ethGet (settlePool s n) k).cfg = (ethGet s k).cfg := by
  have hlog : ∀ t : State, ethGet (logEvent t 0x0401 7 0xFF none none) k = ethGet t k := fun t => ethGet_eq_of_net (by simp) k
  unfold settlePool
  dsimp only
  (repeat' split) <;> simp [hlog]

@[simp] theorem cfg_giveBack (s : State) (id : Nat) (b : Buffer) (readback : Bool) (k : Nat) :
    (ethGet (giveBack s id b readback) k).cfg = (ethGet s k).cfg := by
  cases readback
  · rfl
  · exact cfg_settlePool _ _ k

@[simp] theorem cfg_leaveCount (s : State) (id : Nat) (readback : Bool) (k : Nat) :
    (ethGet (leaveCount s id readback) k).cfg = (ethGet s k).cfg := by
  unfold leaveCount
  split
  · rfl
  · split <;> simp

@[simp] theorem cfg_dropCopies (s : State) (f : Nat → EgressQueue → Copy → Bool) (readback : Bool) (k : Nat) :
    (ethGet (dropCopies s f readback) k).cfg = (ethGet s k).cfg := by
  refine foldl_view (fun s => (ethGet s k).cfg) (fun s q => ?_) _ s
  refine (foldl_view (fun s => (ethGet s k).cfg) (fun s c => ?_) _ _).trans ?_
  · dsimp only
    split <;> simp
  · rfl

/-- A port that goes down keeps its configuration. -/
theorem ethGet_portDown (s : State) (p : Nat) :
    (ethGet (portDown s p) p).up = false ∧ (ethGet (portDown s p) p).sending = none ∧ (ethGet (portDown s p) p).xoff = [] ∧
      (ethGet (portDown s p) p).cfg = (ethGet s p).cfg := by
  unfold portDown
  dsimp only
  rw [ethDown, ethGet_ethSet]
  refine ⟨rfl, rfl, rfl, ?_⟩
  change (ethGet (dropCopies _ _ _) p).cfg = _
  rw [cfg_dropCopies]
  split <;> simp

/-! ### Gates (R373) -/

/-- A boundary leaves the lists of its port, and the other ports. -/
theorem ethGet_gateTurn (s : State) (p : Nat) (y : EthPort) (g : GateList) :
    (ethGet (gateTurn s p y g) p).gates = y.gates ∧ (ethGet (gateTurn s p y g) p).nextGates = y.nextGates ∧
      ∀ k, k ≠ p → ethGet (gateTurn s p y g) k = ethGet s k := by
  unfold gateTurn
  dsimp only
  split <;> simp +contextual [ethGet_ethSet_ne]

/-- The port when a loaded list takes over. -/
def gatesLoaded (x : EthPort) (g : GateList) : EthPort := { x with gates := some g, nextGates := none, gateShift := 0 }

section
variable {s : State} {p w : Nat} {g : GateList}

theorem exec_gclBoundary_of_loaded {at_ : Nat} (hs : asleep s = false) (hp : p < 16)
    (hnext : (ethGet s p).nextGates = some (at_, g)) (hdue : (at_ : Int) ≤ ptpTime (atTime s w)) :
    exec (.gclBoundary p w) s =
      .next (gateTurn (ethSet (atTime s w) p (gatesLoaded (ethGet s p) g)) p (gatesLoaded (ethGet s p) g) g) := by
  have hread : (ethGet (atTime s w) p).nextGates = some (at_, g) := hnext
  change execGclBoundary p w s = _
  simp only [execGclBoundary, isEth_of_lt hp, withUnit_true, act_awake hs, hread, hdue, if_true]
  rfl

theorem exec_gclBoundary_of_running (hs : asleep s = false) (hp : p < 16) (hnext : (ethGet s p).nextGates = none)
    (hgates : (ethGet s p).gates = some g) :
    exec (.gclBoundary p w) s = .next (gateTurn (ethSet (atTime s w) p (ethGet s p)) p (ethGet s p) g) := by
  have hread : (ethGet (atTime s w) p).nextGates = none := hnext
  have hlist : (ethGet (atTime s w) p).gates = some g := hgates
  change execGclBoundary p w s = _
  simp only [execGclBoundary, isEth_of_lt hp, withUnit_true, act_awake hs, hread, hlist]
  rfl

/-! ### Pauses (R356) -/

/-- Priorities that a PFC frame pauses at a port. -/
def paused (s : State) (p mask : Nat) : List Nat := (List.range 8).filter (fun k => bitOf mask k && bitOf (ethGet s p).cfg.pfcRx k)

theorem mem_paused {mask k : Nat} : k ∈ paused s p mask ↔ k < 8 ∧ bitOf mask k = true ∧ bitOf (ethGet s p).cfg.pfcRx k = true := by
  simp [paused]

/-- The port under a pause: the priorities named begin theirs anew. -/
def pausedPort (s : State) (p mask quanta w : Nat) : EthPort :=
  { ethGet s p with xoff := (ethGet s p).xoff.filter (fun o => !(paused s p mask).contains o.1)
      ++ (paused s p mask).map (fun k => (k, max s.now w + pauseNs s p quanta)) }

theorem exec_pfcXoffRx_of_pause {mask quanta : Nat} (hs : asleep s = false) (hp : p < 16) (hup : (ethGet s p).up = true)
    (hpfc : bitOf (ethGet s p).cfg.flags 0 = true) (hquanta : quanta ≠ 0) :
    exec (.pfcXoffRx p mask quanta w) s =
      .next (countEth (ethSet (atTime s w) p (pausedPort s p mask quanta w)) p 6 1) := by
  change execPfcXoffRx p mask quanta w s = _
  simp only [execPfcXoffRx, isEth_of_lt hp, withUnit_true, hs, hup, hpfc, Bool.not_false, Bool.and_self, act_true, hquanta, if_false]
  rfl

end

/-- Counting leaves the pauses of the port and the other ports. -/
theorem ethGet_countEth (s : State) (p c n : Nat) :
    (ethGet (countEth s p c n) p).xoff = (ethGet s p).xoff ∧ ∀ k, k ≠ p → ethGet (countEth s p c n) k = ethGet s k := by
  simp +contextual [countEth, ethGet_ethSet_ne]

theorem isFlow_of_le {f : Nat} (h : f ≤ 16383) : isFlow f = true := decide_eq_true h

/-- Settles O44: each event's equation, and what its change leaves of the ports. -/
theorem portEventsComplete : Obligations.PortEventsComplete := by
  intro s p w hs
  refine ⟨?_, ?_, ?_, ?_, ?_, ?_, ?_, ?_, ?_⟩
  · intro at_ g hp hnext hdue
    obtain ⟨hgates, hloaded, hothers⟩ :=
      ethGet_gateTurn (ethSet (atTime s w) p (gatesLoaded (ethGet s p) g)) p (gatesLoaded (ethGet s p) g) g
    exact ⟨_, exec_gclBoundary_of_loaded hs hp hnext hdue, hgates, hloaded, fun k hk =>
      (hothers k hk).trans (ethGet_ethSet_ne _ _ _ _ hk)⟩
  · intro g hp hnext hgates
    obtain ⟨hlist, -, hothers⟩ := ethGet_gateTurn (ethSet (atTime s w) p (ethGet s p)) p (ethGet s p) g
    exact ⟨_, exec_gclBoundary_of_running hs hp hnext hgates, hlist.trans hgates, fun k hk =>
      (hothers k hk).trans (ethGet_ethSet_ne _ _ _ _ hk)⟩
  · intro m q hp hup hpfc hq
    obtain ⟨hxoff, hothers⟩ := ethGet_countEth (ethSet (atTime s w) p (pausedPort s p m q w)) p 6 1
    rw [ethGet_ethSet] at hxoff
    refine ⟨_, exec_pfcXoffRx_of_pause hs hp hup hpfc hq, fun k hk hmask hcfg => ?_, fun o ho hfree => ?_, fun k hk =>
      (hothers k hk).trans (ethGet_ethSet_ne _ _ _ _ hk)⟩
    · rw [hxoff]
      exact List.mem_append_right _ (List.mem_map_of_mem (mem_paused.mpr ⟨hk, hmask, hcfg⟩))
    · rw [hxoff]
      refine List.mem_append_left _ (List.mem_filter.mpr ⟨ho, ?_⟩)
      have hnot : o.1 ∉ paused s p m := by
        rw [mem_paused]
        rintro ⟨-, hmask, hcfg⟩
        obtain h | h := hfree
        · exact Bool.false_ne_true (h.symm.trans hmask)
        · exact Bool.false_ne_true (h.symm.trans hcfg)
      simpa using hnot
  · intro k hp
    change withUnit (isEth p) _ = _
    rw [isEth_of_lt hp]
    exact act_awake hs
  · intro at_ hp hheld hdue
    have hread : heldSince (atTime s w) p = some at_ := hheld
    have hnow : at_ + skewNs (atTime s w) p ≤ (atTime s w).now := hdue
    change execMergeLostTimeout p w s = _
    simp only [execMergeLostTimeout, isFlow_of_le hp, withUnit_true, act_awake hs, hread, hnow, if_true]
  · intro hp hreal hnamed hdue
    have hnow : (mergeGet (atTime s w) p).lastB + skewNs (atTime s w) p ≤ (atTime s w).now := hdue
    change execMergeLegDown p true w s = _
    simp only [execMergeLegDown, isFlow_of_le hp, withUnit_true, hs, hreal, hnamed, Bool.not_false, Bool.and_self, act_true, hnow,
      if_true]
    rfl
  · intro hp hreal hnamed hdue
    have hnow : (mergeGet (atTime s w) p).lastA + skewNs (atTime s w) p ≤ (atTime s w).now := hdue
    change execMergeLegDown p false w s = _
    simp only [execMergeLegDown, isFlow_of_le hp, withUnit_true, hs, hreal, hnamed, Bool.not_false, Bool.and_self, act_true, hnow,
      if_true, Bool.false_eq_true, if_false]
    rfl
  · intro hp hused hon hfencing hdown
    change execEthLinkUp p w s = _
    simp only [execEthLinkUp, isEth_of_lt hp, withUnit_true, hs, hused, hon, hfencing, hdown, Bool.not_false, Bool.and_self, act_true]
  · intro hp hup
    have hrun : exec (.ethLinkDown p w) s = .next (larderUpdate (portDown (atTime s w) p)) := by
      change execEthLinkDown p w s = _
      simp only [execEthLinkDown, isEth_of_lt hp, withUnit_true, hs, hup, Bool.not_false, Bool.and_self, act_true]
    obtain ⟨hdown, hsending, hxoff, hcfg⟩ := ethGet_portDown (atTime s w) p
    refine ⟨_, hrun, by rwa [ethGet_larderUpdate], by rwa [ethGet_larderUpdate], by rwa [ethGet_larderUpdate], ?_, by simp, by simp⟩
    rw [ethGet_larderUpdate, hcfg]
    rfl

end Sys2Proof.Machine
end

section
/-! PROOFS. The PTP clock (R360 to R363): the time that a change of the clock shows, then what each message and pin does. -/

namespace Sys2Proof.Machine

/-! ### The time that a clock shows -/

/-- PTP time is that of the clock and of the count of nanoseconds. -/
theorem ptpTime_eq_of_ptp {s t : State} (hnow : t.now = s.now) (hptp : t.net.ptp = s.net.ptp) : ptpTime t = ptpTime s := by
  simp only [ptpTime, toPtp, hnow, hptp]

/-- A clock whose frequency has added nothing yet shows its offset. -/
theorem ptpTime_of_adjusted {s : State} (h : s.net.ptp.adjAt = s.now) : ptpTime s = (s.now : Int) + s.net.ptp.offset := by
  simp [ptpTime, toPtp, h]

@[simp] theorem ptpSet_clock (s : State) (p : PtpState) : (ptpSet s p).now = s.now ∧ (ptpSet s p).net.ptp = p := ⟨rfl, rfl⟩

@[simp] theorem countEth_clock (s : State) (p k n : Nat) :
    (countEth s p k n).now = s.now ∧ (countEth s p k n).net.ptp = s.net.ptp := ⟨rfl, rfl⟩

@[simp] theorem timeJudge_clock (s : State) : (timeJudge s).now = s.now ∧ (timeJudge s).net.ptp = s.net.ptp := by
  unfold timeJudge
  split <;> exact ⟨rfl, rfl⟩

@[simp] theorem ptpTime_timeJudge (s : State) : ptpTime (timeJudge s) = ptpTime s := ptpTime_eq_of_ptp (by simp) (by simp)

/-- A change of the time by an amount (R362): the frequency and the configuration stay. -/
theorem ptpShift_clock (s : State) (by_ : Int) :
    ptpTime (ptpShift s by_) = ptpTime s + by_ ∧
      (ptpShift s by_).net.ptp = { ptpSettled s with offset := (ptpSettled s).offset + by_ } := by
  refine ⟨?_, rfl⟩
  rw [ptpTime_of_adjusted (by rfl)]
  change (s.now : Int) + (ptpTime s - s.now + by_) = _
  omega

/-- A step is a change of the time that is counted and recorded. -/
theorem ptpStep_clock (s : State) (by_ : Int) :
    ptpTime (ptpStep s by_) = ptpTime s + by_ ∧ (ptpStep s by_).net.ptp =
      { ptpSettled s with offset := (ptpSettled s).offset + by_, steps := min 0xFFFF (s.net.ptp.steps + 1) } := by
  obtain ⟨htime, hptp⟩ := ptpShift_clock s by_
  have hstep : (ptpStep s by_).net.ptp = { ptpSettled s with
      offset := (ptpSettled s).offset + by_, steps := min 0xFFFF (s.net.ptp.steps + 1) } := by
    simp only [ptpStep, logEvent_same, ptpSet_clock, ptpGet, hptp]
    rfl
  refine ⟨?_, hstep⟩
  rw [ptpTime_of_adjusted (by rw [hstep]; simp [ptpStep]; rfl), hstep, ← htime, ptpTime_of_adjusted (by rfl), hptp]
  simp [ptpStep]

/-- The clock once a measurement is in: its time and its frequency stay. -/
def measured (s : State) (m : PtpIn) : State :=
  ptpSet s { ptpGet s with offsetNs := m.offset, meanPath := m.meanPath, state := ptpRole (ptpGet s).cfg m.bmcState }

@[simp] theorem ptpTime_measured (s : State) (m : PtpIn) : ptpTime (measured s m) = ptpTime s := rfl

/-- An offset above STEP_NS steps the clock by it (R362). -/
theorem ptpServo_of_step {s : State} {m : PtpIn} (h : s.net.ptp.cfg.stepNs < m.offset.natAbs) :
    (ptpServo s m).net.ptp.offsetNs = m.offset ∧ (ptpServo s m).net.ptp.freq = s.net.ptp.freq ∧
      ptpTime (ptpServo s m) = ptpTime s - m.offset ∧ (ptpServo s m).net.ptp.steps = min 0xFFFF (s.net.ptp.steps + 1) := by
  have hservo : ptpServo s m = ptpStep (measured s m) (-m.offset) := if_pos h
  obtain ⟨htime, hptp⟩ := ptpStep_clock (measured s m) (-m.offset)
  rw [hservo, hptp, htime, ptpTime_measured]
  exact ⟨rfl, rfl, rfl, rfl⟩

/-- A smaller offset changes the frequency by at most SLEW_PPB, and the time goes on from where it was (R362). -/
theorem ptpServo_of_slew {s : State} {m : PtpIn} (h : m.offset.natAbs ≤ s.net.ptp.cfg.stepNs) :
    (ptpServo s m).net.ptp.offsetNs = m.offset ∧ s.net.ptp.freq - s.net.ptp.cfg.slewPpb ≤ (ptpServo s m).net.ptp.freq ∧
      (ptpServo s m).net.ptp.freq ≤ s.net.ptp.freq + s.net.ptp.cfg.slewPpb ∧ ptpTime (ptpServo s m) = ptpTime s ∧
      (ptpServo s m).net.ptp.steps = s.net.ptp.steps := by
  have hservo : ptpServo s m = ptpSet (measured s m) { ptpSettled (measured s m) with
      freq := max (s.net.ptp.freq - s.net.ptp.cfg.slewPpb) (min (s.net.ptp.freq + s.net.ptp.cfg.slewPpb) m.freq) } :=
    if_neg (Nat.not_lt.mpr h)
  have htime : ptpTime (ptpServo s m) = ptpTime s := by
    rw [hservo, ptpTime_of_adjusted (by rfl)]
    change (s.now : Int) + (ptpTime s - s.now) = _
    omega
  refine ⟨by rw [hservo]; rfl, ?_, ?_, htime, by rw [hservo]; rfl⟩ <;>
    rw [hservo, (ptpSet_clock _ _).2] <;> dsimp only <;> omega

/-! ### Messages -/

/-- A message that the clock takes: the port runs PTP and the domain is the clock's. -/
structure Taken (s : State) (m : PtpIn) : Prop where
  awake : asleep s = false
  port : m.port < 16
  runs : ptpRuns s m.port = true
  domain : m.domain = s.net.ptp.cfg.domain

section
variable {s : State} {m : PtpIn}

theorem exec_ptpMessageRx (h : Taken s m) :
    exec (.ptpMessageRx m) s = .next (match m.kind with
      | 1 => timeJudge (ptpAnnounce (countEth (atTime s m.t) m.port 12 1) m)
      | 2 => if ptpMaster s.net.ptp m.port then ptpSend (atTime s m.t) m.port 3 else atTime s m.t
      | 3 => if ptpFollows s.net.ptp && s.net.ptp.slavePort == m.port then timeJudge (ptpServo (countEth (atTime s m.t) m.port 12 1) m)
          else countEth (atTime s m.t) m.port 12 1
      | _ => if ptpFollows s.net.ptp && s.net.ptp.slavePort == m.port then timeJudge (ptpServo (atTime s m.t) m)
          else atTime s m.t) := by
  have hdomain : (m.domain == (ptpGet s).cfg.domain) = true := by rw [h.domain]; exact beq_self_eq_true _
  change execPtpMessageRx m s = _
  simp only [execPtpMessageRx, isEth_of_lt h.port, withUnit_true, h.awake, h.runs, hdomain, Bool.not_false, Bool.and_self,
    act_true] <;> rfl

/-- A measurement from the master that the clock follows reaches the servo, counted or not. -/
theorem exec_ptpMessageRx_of_measurement (h : Taken s m) (hkind : m.kind = 0 ∨ m.kind = 3) (hfollows : ptpFollows s.net.ptp = true)
    (hport : s.net.ptp.slavePort = m.port) : ∃ s1, exec (.ptpMessageRx m) s = .next (timeJudge (ptpServo s1 m)) ∧
      s1.net.ptp = s.net.ptp ∧ ptpTime s1 = ptpTime (atTime s m.t) := by
  have hslave : (ptpFollows s.net.ptp && s.net.ptp.slavePort == m.port) = true := by simp [hfollows, hport]
  have hrun := exec_ptpMessageRx h
  obtain hkind | hkind := hkind
  · refine ⟨atTime s m.t, ?_, rfl, rfl⟩
    simp only [hrun, hkind, hslave, if_true]
  · refine ⟨countEth (atTime s m.t) m.port 12 1, ?_, rfl, rfl⟩
    simp only [hrun, hkind, hslave, if_true]

end

@[simp] theorem ptpSend_clock (s : State) (p kind : Nat) :
    (ptpSend s p kind).now = s.now ∧ (ptpSend s p kind).net.ptp = s.net.ptp := ⟨rfl, rfl⟩

theorem ptpSend_out (s : State) (p kind : Nat) : ∃ l, (ptpSend s p kind).out = .ptp p kind l :: s.out := ⟨_, rfl⟩

/-- The message of a timer, and its time noted. -/
def timerSent (s : State) (p kind w : Nat) : State :=
  ptpSend (ptpSet (atTime s w) { s.net.ptp with lastMsg := tset s.net.ptp.lastMsg (p * 4 + kind) (max s.now w) }) p kind

theorem exec_ptpMessageTimer_of_due {s : State} {p kind w : Nat} (hs : asleep s = false) (hp : p < 16)
    (hmay : ptpMaySend s p kind = true) (hdue : ptpDue s p kind (max s.now w) = true) :
    exec (.ptpMessageTimer p kind w) s = .next (if kind = 0 && !bitOf s.net.ptp.cfg.flags 0 then
      ptpSend (timerSent s p kind w) p 4 else timerSent s p kind w) := by
  change execPtpMessageTimer p kind w s = _
  simp only [execPtpMessageTimer, isEth_of_lt hp, withUnit_true, hs, hmay, hdue, Bool.not_false, Bool.and_self, act_true]
  rfl

/-! ### Pins (R363) -/

/-- In MODE 0x5 an edge sets the time to TOD_SECONDS, which counts on. -/
theorem ptpFromPps_clock (s : State) : ptpTime (ptpFromPps s) = (s.net.ptp.cfg.tod : Int) * 1000000000 ∧
    (ptpFromPps s).net.ptp.cfg.tod = (s.net.ptp.cfg.tod + 1) % 2 ^ 64 := by
  have hmoved : ∀ t : State, ptpTime t = ptpTime s + ((s.net.ptp.cfg.tod : Int) * 1000000000 - ptpTime s) →
      t.net.ptp.cfg = s.net.ptp.cfg →
      ptpTime (ptpSet t { ptpGet t with cfg := { (ptpGet t).cfg with tod := ((ptpGet t).cfg.tod + 1) % 2 ^ 64 } }) =
        (s.net.ptp.cfg.tod : Int) * 1000000000 ∧ ((ptpGet t).cfg.tod + 1) % 2 ^ 64 = (s.net.ptp.cfg.tod + 1) % 2 ^ 64 := by
    intro t htime hcfg
    refine ⟨?_, by rw [ptpGet, hcfg]⟩
    change ptpTime t = _
    rw [htime]
    omega
  unfold ptpFromPps
  dsimp only
  split
  · obtain ⟨htime, hptp⟩ := ptpStep_clock s ((s.net.ptp.cfg.tod : Int) * 1000000000 - ptpTime s)
    have hcfg := congrArg PtpState.cfg hptp
    exact hmoved _ htime hcfg
  · obtain ⟨htime, hptp⟩ := ptpShift_clock s ((s.net.ptp.cfg.tod : Int) * 1000000000 - ptpTime s)
    have hcfg := congrArg PtpState.cfg hptp
    exact hmoved _ htime hcfg

/-- The time of an edge is noted in the clock, which goes on. -/
theorem ptpSet_ppsInTime (s : State) :
    (ptpSet s { ptpGet s with ppsInTime := ptpTime s }).net.ptp.ppsInTime =
        ptpTime (ptpSet s { ptpGet s with ppsInTime := ptpTime s }) ∧
      ptpTime (ptpSet s { ptpGet s with ppsInTime := ptpTime s }) = ptpTime s ∧
      (ptpSet s { ptpGet s with ppsInTime := ptpTime s }).net.ptp.cfg = s.net.ptp.cfg := ⟨rfl, rfl, rfl⟩

theorem exec_ppsInEdge {s : State} {w : Nat} (hs : asleep s = false) :
    exec (.ppsInEdge w) s = .next (if s.net.ptp.cfg.mode = 5 then
      ptpSet (ptpFromPps (atTime s w)) { ptpGet (ptpFromPps (atTime s w)) with ppsInTime := ptpTime (ptpFromPps (atTime s w)) }
      else ptpSet (atTime s w) { s.net.ptp with ppsInTime := ptpTime (atTime s w) }) := by
  change execPpsInEdge w s = _
  simp only [execPpsInEdge, act_awake hs]
  by_cases hmode : s.net.ptp.cfg.mode = 5
  · have hread : (ptpGet (atTime s w)).cfg.mode = 5 := hmode
    simp only [hread, hmode, if_true]
  · have hread : ¬ (ptpGet (atTime s w)).cfg.mode = 5 := hmode
    simp only [hread, hmode, if_false]
    rfl

/-- Settles O47: the servo steps or slews by the measured offset; every other change of the clock leaves its time. -/
theorem ptpClockCompletes : Obligations.PtpClockCompletes := by
  intro s w
  refine ⟨?_, ?_, ?_, ?_, ?_, ?_, ?_⟩
  · intro r i d h hchk
    have hrun : exec (.setPtp r d) s = .next (configured (timeJudge (ptpSet (markStarted s r)
        (ptpStart s.net.ptp (readPtp (readData s r.fn i.entry d))))) r 0) := by
      change execSetPtp r d s = _
      unfold execSetPtp
      rw [h.serve _ hchk]
      simp only [readData_markStarted, ptpGet, markStarted_same]
    exact ⟨_, hrun, by simp, by simp [ptpSet], by simp [ptpSet]⟩
  · intro r i h hlen
    change execQueryPtp r s = _
    unfold execQueryPtp
    rw [h.serve _ (by simp [hlen])]
    simp only [ptpGet, markStarted_same]
  · rintro m hs hp hruns hdomain rfl
    have htaken : Taken s m := ⟨hs, hp, hruns, hdomain⟩
    refine ⟨fun hkind => ?_, fun hkind hmaster => ?_, fun hkind hfollows hport hslew => ?_, fun hkind hfollows hport hstep => ?_⟩
    · have hrun := exec_ptpMessageRx htaken
      simp only [hkind] at hrun
      exact ⟨_, hrun, by simp [ptpAnnounce], by simp [ptpAnnounce, ptpGet], by rw [ptpTime_timeJudge]; rfl⟩
    · have hrun := exec_ptpMessageRx htaken
      simpa only [hkind, hmaster, if_true] using hrun
    · obtain ⟨s1, hrun, hptp, htime⟩ := exec_ptpMessageRx_of_measurement htaken hkind hfollows hport
      have hservo := ptpServo_of_slew (s := s1) (m := m) (by rwa [hptp])
      rw [hptp, htime] at hservo
      obtain ⟨hoffset, hlo, hhi, hsame, hsteps⟩ := hservo
      exact ⟨_, hrun, by simpa using hoffset, by simpa using hlo, by simpa using hhi, by simpa using hsame, by simpa using hsteps⟩
    · obtain ⟨s1, hrun, hptp, htime⟩ := exec_ptpMessageRx_of_measurement htaken hkind hfollows hport
      have hservo := ptpServo_of_step (s := s1) (m := m) (by rwa [hptp])
      rw [hptp, htime] at hservo
      obtain ⟨hoffset, hfreq, hmoved, hsteps⟩ := hservo
      exact ⟨_, hrun, by simpa using hoffset, by simpa using hfreq, by simpa using hmoved, by simpa using hsteps⟩
  · intro p kind hs hp hmay hdue
    have hrun := exec_ptpMessageTimer_of_due hs hp hmay hdue
    refine ⟨_, hrun, ?_, fun hone => ?_, fun hkind hflag => ?_⟩
    · split <;> exact tfind_tset _ _ _
    · rw [if_neg (by obtain h | h := hone <;> simp [h])]
      exact ptpSend_out _ p kind
    · subst hkind
      rw [if_pos (by simp [hflag])]
      exact ⟨_, _, rfl⟩
  · intro hs hfollows hdue
    have hrun : exec (.announceTimeout w) s =
        .next (timeJudge (ptpSet (atTime s w) { s.net.ptp with state := 5, slavePort := 0xFF })) :=
      act_of_true (by simp only [hs, ptpGet, hfollows, hdue, Bool.not_false, Bool.and_self, decide_true])
    exact ⟨_, hrun, by simp, by simp, by simp, by rw [ptpTime_timeJudge]; rfl⟩
  · intro hs
    have hrun := exec_ppsInEdge (w := w) hs
    by_cases hmode : s.net.ptp.cfg.mode = 5
    · obtain ⟨htime, htod⟩ := ptpFromPps_clock (atTime s w)
      obtain ⟨hnoted, hgoesOn, hcfg⟩ := ptpSet_ppsInTime (ptpFromPps (atTime s w))
      rw [if_pos hmode] at hrun
      exact ⟨_, hrun, hnoted, fun h => absurd hmode h, fun _ => ⟨hgoesOn.trans htime, (congrArg PtpConfig.tod hcfg).trans htod⟩⟩
    · rw [if_neg hmode] at hrun
      exact ⟨_, hrun, rfl, fun _ => rfl, fun h => absurd h hmode⟩
  · intro hs
    change execPpsOut w s = _
    simp only [execPpsOut, hs, Bool.not_false, act_true]
    rfl

end Sys2Proof.Machine
end

section
/-! PROOFS. The fabric commands (R377, R395 to R398, Table 19.5): what a device knows of itself and of the fabric, what an epoch
change leaves, then one equation per command. -/

namespace Sys2Proof.Machine

/-! ### What a started command knows of the fabric -/

theorem ownVersion_eq_of_foreman {s t : State} (h : t.foreman = s.foreman) : ownVersion t = ownVersion s := by
  simp only [ownVersion, activeFacts, h]

@[simp] theorem ownVersion_markStarted (s : State) (r : CmdRef) : ownVersion (markStarted s r) = ownVersion s :=
  ownVersion_eq_of_foreman (by simp)

@[simp] theorem memberGet_markStarted (s : State) (r : CmdRef) (m : Nat) : memberGet (markStarted s r) m = memberGet s m := by
  simp [memberGet]

@[simp] theorem fabricSessions_markStarted (s : State) (r : CmdRef) : fabricSessions (markStarted s r) = fabricSessions s := by
  simp [fabricSessions, sessList]

@[simp] theorem selfMember_markStarted (s : State) (r : CmdRef) : selfMember (markStarted s r) = selfMember s := by
  simp [selfMember, memberStatus, activeFacts, ptpGet]

@[simp] theorem memberEntry_markStarted (s : State) (r : CmdRef) (m : Nat) (x : Member) :
    memberEntry (markStarted s r) m x = memberEntry s m x := by
  simp [memberEntry, memberMode]

@[simp] theorem fabricMode_none (s : State) (ok : OpMode → Bool) : fabricMode s ok = none ↔ ok s.mode = true := by
  unfold fabricMode
  cases ok s.mode <;> simp

/-- Number 0 names no session of a fabric. -/
@[simp] theorem sessOfFabric_zero (s : State) : sessOfFabric s 0 = none := by
  simp [sessOfFabric]

/-! ### What an epoch change and the departure from the fabric leave -/

@[simp] theorem foldl_sendAcked_versions (g : State → Nat → List Nat) (l : List Nat) (s : State) :
    (l.foldl (fun s m => sendAcked s 0x0C m (g s m)) s).fabric.next = s.fabric.next ∧
      (l.foldl (fun s m => sendAcked s 0x0C m (g s m)) s).fabric.current = s.fabric.current :=
  ⟨foldl_view (·.fabric.next) (f := fun s m => sendAcked s 0x0C m (g s m)) (fun _ _ => rfl) l s,
    foldl_view (·.fabric.current) (f := fun s m => sendAcked s 0x0C m (g s m)) (fun _ _ => rfl) l s⟩

@[simp] theorem commitEpoch_versions (s : State) (p : EpochChange) :
    (commitEpoch s p).fabric.next = s.fabric.next ∧ (commitEpoch s p).fabric.current = s.fabric.current :=
  foldl_sendAcked_versions (fun s m => epochFields s p 1 m) (epochMembers s) s

@[simp] theorem settleEpoch_versions (s : State) :
    (settleEpoch s).fabric.next = s.fabric.next ∧ (settleEpoch s).fabric.current = s.fabric.current := by
  unfold settleEpoch
  (repeat' split) <;> simp

@[simp] theorem beginEpoch_versions (s : State) (l : List (Nat × Nat)) :
    (beginEpoch s l).fabric.next = s.fabric.next ∧ (beginEpoch s l).fabric.current = s.fabric.current := by
  unfold beginEpoch
  split
  · exact ⟨rfl, rfl⟩
  · simp

/-- Outside a fabric a device is Ready, and knows no member (R389). -/
theorem leaveFabric_alone (s : State) :
    (leaveFabric s).mode = .ready ∧ (leaveFabric s).fabric.joined = false ∧ (leaveFabric s).fabric.members = [] := by
  refine ⟨(setMode_mode _ _).1, ?_, ?_⟩ <;> simp [leaveFabric, setMode]

/-! ### The commands -/

/-- The first member of a fabric: the device that creates it. -/
def founder (s : State) : Member :=
  { serial := Config.serial, version := ownVersion s, fw := (activeFacts s).version, headless := false, quarantined := false,
    status := 0, offset := 0, gm := 0, lastRenew := s.now, unqualSince := none, ackedEpoch := true, naked := 0, roles := [] }

/-- The fabric that FABRIC_CREATE founds with an entry. -/
def founded (s : State) (e : Bytes) : State :=
  fabSet s (fun f => { f with
    fabricId := u32 e 24, timeLimit := u32 e 28, port := u16 e 32, unqualHold := u16 e 34, group := slice e 36 16,
    joined := true, member := 0, manager := 0, standby := 0xFFFF, term := 1, epoch := 1, epochs := [],
    current := ownVersion s, next := 0, members := [(0, founder s)], txSeq := [], rx := [], unacked := [], nextSession := 1,
    lastHelloSent := none, lastCheck := none, qualSince := none, qualified := false })

section
variable {s : State} {r : CmdRef} {i : InFlight}

theorem exec_fabricCreate_of_ready (h : Starts s r 0x70 i) (hmode : s.mode = .ready)
    (hhead : s.foreman.platform.headless = false) (hjoin : s.fabric.joining = none) (hlo : 100 ≤ u32 i.entry 28)
    (hhi : u32 i.entry 28 ≤ 100000) (hholdLo : 1 ≤ u16 i.entry 34) (hholdHi : u16 i.entry 34 ≤ 600) :
    exec (.fabricCreate r) s = .next (configured (setMode (founded (markStarted s r) i.entry) .manager) r 0) := by
  change execFabricCreate r s = _
  unfold execFabricCreate
  rw [h.serve _ (by simp [hmode, hhead, hjoin, inRange, hlo, hhi, hholdLo, hholdHi])]
  rfl

theorem exec_fabricJoin_of_ready (h : Starts s r 0x71 i) (hmode : s.mode = .ready) (hjoin : s.fabric.joining = none) :
    exec (.fabricJoin r) s = .next (startJoin (markStarted s r) (u32 i.entry 24) (slice i.entry 32 16) (some r)) := by
  change execFabricJoin r s = _
  unfold execFabricJoin
  rw [h.serve _ (by simp [hmode, hjoin])]

/-- A manager leaves with sessions of the fabric only when the entry forces it (R395). -/
theorem exec_fabricLeave_of_joined (h : Starts s r 0x72 i) (hmode : s.mode ≠ .standalone) (hjoined : s.fabric.joined = true)
    (hin : s.mode ≠ .ready ∨ s.fabric.joining ≠ none)
    (hfree : s.mode ≠ .manager ∨ fabricSessions s = [] ∨ bitOf (u8 i.entry 24) 0 = true) :
    exec (.fabricLeave r) s =
      .next (configured (leaveFabric (sendClp (markStarted s r) 0x0A clpAll [s.fabric.member, 4, 0])) r 0) := by
  have hmember : (s.mode != .ready || s.fabric.joining.isSome) = true := by
    obtain hm | hj := hin
    · simp [hm]
    · simp [Option.isSome_iff_ne_none.2 hj]
  have hidle : (s.mode == .manager && !(fabricSessions s).isEmpty && !bitOf (u8 i.entry 24) 0) = false := by
    obtain hm | hl | hb := hfree
    · simp [hm]
    · simp [hl]
    · simp [hb]
  change execFabricLeave r s = _
  unfold execFabricLeave
  rw [h.serve _ (by simp only [orElse_none, fabricMode_none, markStarted_same, fabricSessions_markStarted, hidle, hmember,
    Bool.false_eq_true, if_false, and_true, Bool.and_true]; simpa using hmode)]
  simp only [markStarted_same, hjoined, if_true]

/-- The members that FABRIC_QUERY reports, this device with what it knows of itself. -/
def knownMembers (s : State) : List (Nat × Member) :=
  s.fabric.members.map (fun p => if p.1 = s.fabric.member then (p.1, selfMember s) else p)

theorem knownMembers_keys (s : State) : (knownMembers s).map (·.1) = s.fabric.members.map (·.1) := by
  rw [knownMembers, List.map_map]
  refine List.map_congr_left (fun p _ => ?_)
  dsimp only [Function.comp]
  split <;> rfl

theorem mem_of_mem_knownMembers {p : Nat × Member} (hp : p ∈ knownMembers s) (hother : p.1 ≠ s.fabric.member) :
    p ∈ s.fabric.members := by
  obtain ⟨q, hq, rfl⟩ := List.mem_map.1 hp
  split at hother
  next hself => exact absurd hself hother
  next hself => rwa [if_neg hself]

theorem exec_fabricQuery_of_self (h : Starts s r 0x73 i) (hsel : u8 i.entry 24 = 0) :
    exec (.fabricQuery r) s = .next (succeed (writeData (markStarted s r) r.fn i.entry
      (([(s.fabric.member, selfMember s)].take (cmdDataLen i.entry / 64)).flatMap (fun p => memberEntry s p.1 p.2)))
      r (min 1 (cmdDataLen i.entry / 64))) := by
  change execFabricQuery r s = _
  unfold execFabricQuery
  rw [h.serve _ (by simp [hsel])]
  simp only [hsel, if_true, markStarted_same, selfMember_markStarted, memberEntry_markStarted, List.length_take,
    List.length_singleton, Nat.min_comm]

theorem exec_fabricQuery_of_all (h : Starts s r 0x73 i) (hsel : u8 i.entry 24 = 1) :
    exec (.fabricQuery r) s = .next (succeed (writeData (markStarted s r) r.fn i.entry
      (((knownMembers s).take (cmdDataLen i.entry / 64)).flatMap (fun p => memberEntry s p.1 p.2)))
      r (min (knownMembers s).length (cmdDataLen i.entry / 64))) := by
  change execFabricQuery r s = _
  unfold execFabricQuery
  rw [h.serve _ (by simp [hsel])]
  simp only [hsel, Nat.one_ne_zero, if_false, markStarted_same, selfMember_markStarted, memberEntry_markStarted, List.length_take,
    Nat.min_comm, knownMembers]

/-- A member without a role is drained at once: the epoch advances, and the command may complete (R396). -/
theorem exec_fabricDrain_of_noRoles {x : Member} (h : Starts s r 0x74 i) (hmode : s.mode = .manager)
    (hmember : memberGet s (u16 i.entry 24) = some x) (hroles : x.roles = []) (hidle : s.fabric.draining = none) :
    exec (.fabricDrain r) s = .next (settleDrain (beginEpoch (fabSet (markStarted s r) (fun f => { f with
      draining := some (r, u16 i.entry 24, 0) })) [])) := by
  have hdrain : drainable (markStarted s r) (u16 i.entry 24) = true := by
    simp [drainable, hmember, hroles]
  change execFabricDrain r s = _
  unfold execFabricDrain
  rw [h.serve _ (by simp [hmode, hmember, hidle, hdrain])]
  simp only [memberGet_markStarted, hmember, hroles, List.foldl_nil, List.map_nil, List.length_nil]

theorem exec_fabricDrain_of_notManager (h : Starts s r 0x74 i) (hmode : s.mode ≠ .manager) :
    exec (.fabricDrain r) s = .next (finish (markStarted s r) r (notPermitted (markStarted s r))) := by
  change execFabricDrain r s = _
  unfold execFabricDrain
  exact h.serve_refuses _ (by simp [orElse, fabricMode, hmode])

/-- FABRIC_SET_STANDBY names no member, or another member that may manage. -/
theorem exec_fabricSetStandby_of_fit (h : Starts s r 0x75 i) (hmode : s.mode = .manager)
    (hfit : u16 i.entry 24 = 0xFFFF ∨ (u16 i.entry 24 ≠ s.fabric.member ∧
      ∃ x, memberGet s (u16 i.entry 24) = some x ∧ x.headless = false ∧ x.quarantined = false)) :
    exec (.fabricSetStandby r) s =
      .next (configured (fabSet (markStarted s r) (fun f => { f with standby := u16 i.entry 24 })) r s.fabric.standby) := by
  change execFabricSetStandby r s = _
  unfold execFabricSetStandby
  rw [h.serve _ (by
    simp only [orElse_none, fabricMode_none, fieldCheck_none, List.forall_mem_singleton, markStarted_same, memberGet_markStarted,
      hmode]
    refine ⟨rfl, ?_⟩
    obtain hnone | ⟨hother, x, hx, hhead, hquar⟩ := hfit
    · simp [hnone]
    · simp [hother, hx, hhead, hquar])]
  simp only [markStarted_same]

theorem exec_fabricSetStandby_of_headless {x : Member} (h : Starts s r 0x75 i) (hmode : s.mode = .manager)
    (hmember : memberGet s (u16 i.entry 24) = some x) (hsome : u16 i.entry 24 ≠ 0xFFFF) (hhead : x.headless = true) :
    exec (.fabricSetStandby r) s = .next (finish (markStarted s r) r (badField 24)) := by
  change execFabricSetStandby r s = _
  unfold execFabricSetStandby
  exact h.serve_refuses _ (by simp [orElse, fabricMode, hmode, fieldCheck, firstFail, hmember, hsome, hhead])

/-- FABRIC_SET_VERSION without a session names the version to come, in an epoch of its own (R397). -/
theorem exec_fabricSetVersion_of_noSession (h : Starts s r 0x76 i) (hmode : s.mode = .manager) (hsess : u32 i.entry 28 = 0)
    {u : State} (hu : u = beginEpoch (fabSet (markStarted s r) (fun f => { f with next := u32 i.entry 24 })) []) :
    exec (.fabricSetVersion r) s = .next (configured u r (heldEpoch u)) := by
  subst hu
  change execFabricSetVersion r s = _
  unfold execFabricSetVersion
  rw [h.serve _ (by simp [hmode, hsess])]
  simp only [hsess, sessOfFabric_zero]

end

/-- Settles O48: the equations above, and what founding, joining, leaving and an epoch change leave of the fabric. -/
theorem fabricCommandsComplete : Obligations.FabricCommandsComplete := by
  intro s r i
  refine ⟨?_, ?_, ?_, ?_, ?_, ?_, ?_, ?_, ?_, ?_, ?_⟩
  · intro h hmode hhead hjoin hlo hhi hholdLo hholdHi
    refine ⟨_, exec_fabricCreate_of_ready h hmode hhead hjoin hlo hhi hholdLo hholdHi, ?_⟩
    simp [founded, setMode]
  · intro h hmode hjoin
    refine ⟨_, exec_fabricJoin_of_ready h hmode hjoin, ?_⟩
    simp [startJoin, hmode]
  · intro h hmode hjoined hin hfree
    refine ⟨_, exec_fabricLeave_of_joined h hmode hjoined hin hfree, rfl, ?_⟩
    simpa only [configured_same] using leaveFabric_alone _
  · intro h hsel
    exact exec_fabricQuery_of_self h hsel
  · intro h hsel
    exact ⟨knownMembers s, knownMembers_keys s, fun p hp hother => mem_of_mem_knownMembers hp hother,
      exec_fabricQuery_of_all h hsel⟩
  · intro x h hmode hmember hroles hidle
    exact exec_fabricDrain_of_noRoles h hmode hmember hroles hidle
  · intro h hmode hnone
    rw [exec_fabricSetStandby_of_fit h hmode (.inl hnone), hnone]
  · intro x h hmode hother hmember hhead hquar
    exact exec_fabricSetStandby_of_fit h hmode (.inr ⟨hother, x, hmember, hhead, hquar⟩)
  · intro x h hmode hmember hsome hhead
    exact exec_fabricSetStandby_of_headless h hmode hmember hsome hhead
  · rintro u h hmode hsess rfl
    refine ⟨_, exec_fabricSetVersion_of_noSession h hmode hsess rfl, rfl, ?_⟩
    simp
  · intro h hmode
    exact exec_fabricDrain_of_notManager h hmode

end Sys2Proof.Machine
end

section
/-! PROOFS. Joining, leases and failover (R379, R385 to R389): first what HELLO, a join and a takeover leave, then one equation per
message and timer. -/

namespace Sys2Proof.Machine

/-! ### HELLO (R383, R388, R389) -/

/-- The header checks of a HELLO of the own fabric pass. -/
structure OwnHello (s : State) (h : ClpHdr) : Prop where
  awake : asleep s = false
  macsec : h.macsec = true
  fabric : h.fabric = s.fabric.fabricId
  major : h.verMajor = 1
  joined : s.fabric.joined = true
  settled : s.fabric.joining = none

section
variable {s : State} {h : ClpHdr}

/-- Outside a join a HELLO of the own fabric goes by TERM and MODE. -/
theorem exec_hello_of_own (hh : OwnHello s h) (standby n gm cur nxt : Nat) :
    exec (.hello h standby n gm cur nxt) s = .next (
      if h.term < s.fabric.term then clpDiscard (atTime s h.t)
      else if s.mode = .manager then
        if s.fabric.term < h.term ∨ h.sender < s.fabric.member then leaveFabric (atTime s h.t) else atTime s h.t
      else helloMember (atTime s h.t) h standby cur nxt) := by
  have hown : clpForeign (atTime s h.t) h = none := clpForeign_of_own hh.macsec hh.fabric hh.major
  change act s (!asleep s) _ = _
  rw [act_awake hh.awake]
  simp [helloIn, hown, hh.joined, hh.settled]

theorem exec_hello_of_older (hh : OwnHello s h) (hterm : h.term < s.fabric.term) (standby n gm cur nxt : Nat) :
    exec (.hello h standby n gm cur nxt) s = .next (clpDiscard (atTime s h.t)) := by
  rw [exec_hello_of_own hh, if_pos hterm]

/-- Of two managers the one of the lower TERM leaves, and of one TERM the one of the higher number (R389). -/
theorem exec_hello_of_otherManager (hh : OwnHello s h) (hmode : s.mode = .manager)
    (hwins : s.fabric.term < h.term ∨ s.fabric.term = h.term ∧ h.sender < s.fabric.member) (standby n gm cur nxt : Nat) :
    exec (.hello h standby n gm cur nxt) s = .next (leaveFabric (atTime s h.t)) := by
  have hterm : ¬ h.term < s.fabric.term := by omega
  have hleaves : s.fabric.term < h.term ∨ h.sender < s.fabric.member := hwins.imp_right And.right
  rw [exec_hello_of_own hh, if_neg hterm, if_pos hmode, if_pos hleaves]

theorem exec_hello_of_member (hh : OwnHello s h) (hterm : s.fabric.term ≤ h.term) (hmode : s.mode ≠ .manager)
    (standby n gm cur nxt : Nat) :
    exec (.hello h standby n gm cur nxt) s = .next (helloMember (atTime s h.t) h standby cur nxt) := by
  rw [exec_hello_of_own hh, if_neg (Nat.not_lt.mpr hterm), if_neg hmode]

end

/-- A HELLO names no new role for a device that is neither standby nor the worker named as standby. -/
theorem helloRole_of_same {s : State} {standby : Nat} (hmode : s.mode ≠ .standby)
    (hworker : s.mode = .worker → standby ≠ s.fabric.member) : helloRole s standby = s := by
  have hnamed : (s.mode == .worker && standby == s.fabric.member) = false := by
    simpa using hworker
  simp [helloRole, hnamed, hmode]

theorem leaveQuarantine_of_free {s : State} (hmode : s.mode ≠ .quarantine) : leaveQuarantine s = s := by
  simp [leaveQuarantine, hmode]

/-- What every HELLO of the manager tells a member. -/
def told (s : State) (h : ClpHdr) (standby current next : Nat) : State :=
  fabSet s (fun f => { f with lastHello := some s.now, manager := h.sender, term := h.term, standby := standby,
                              current := current, next := next })

/-- A HELLO of the same TERM that gives the member no other role changes what it knows of the manager alone. -/
theorem helloMember_of_sameRole {s : State} {h : ClpHdr} {standby current next : Nat} (hquar : s.mode ≠ .quarantine)
    (hstandby : s.mode ≠ .standby) (hterm : s.fabric.term = h.term) (hworker : s.mode = .worker → standby ≠ s.fabric.member) :
    helloMember s h standby current next = told s h standby current next := by
  have hrole : helloRole (told s h standby current next) standby = told s h standby current next :=
    helloRole_of_same hstandby hworker
  have hfree : leaveQuarantine (told s h standby current next) = told s h standby current next := leaveQuarantine_of_free hquar
  have hequal : ¬ s.fabric.term < h.term := by omega
  rw [told] at hrole hfree
  simp [helloMember, hrole, hfree, hequal, told]

theorem exec_helloTimer_of_due {s : State} {w : Nat} (hs : asleep s = false) (hmode : s.mode = .manager)
    (hdue : ∀ v, s.fabric.lastHelloSent = some v → v + 100000000 ≤ max s.now w) :
    exec (.helloTimer w) s = .next (sendHello (atTime s w)) := by
  cases hsent : s.fabric.lastHelloSent with
  | none => exact act_of_true (by simp [hs, hmode, hsent])
  | some v => exact act_of_true (by simpa [hs, hmode, hsent] using hdue v hsent)

theorem sendHello_sent (s : State) : ∃ l,
    (sendHello s).out = .clp 0x01 clpAll (tget 0 s.fabric.txSeq clpAll) l :: s.out ∧
      (sendHello s).fabric.lastHelloSent = some s.now ∧ (sendHello s).mode = s.mode ∧
      (sendHello s).fabric.members = s.fabric.members := ⟨_, rfl, rfl, rfl, rfl⟩

/-! ### A manager answers JOIN_REQ (R385) -/

theorem exec_joinReq_of_manager {s : State} {h : ClpHdr} (hs : asleep s = false) (hmac : h.macsec = true)
    (hfab : h.fabric = s.fabric.fabricId) (hmode : s.mode = .manager) (serial v fw : Nat) (hl q : Bool) (cores mib hash : Nat) :
    exec (.joinReq h serial v fw hl q cores mib hash) s = .next (answerJoin (atTime s h.t) h serial v fw hl q) := by
  change act s (!asleep s) _ = _
  rw [act_awake hs]
  simp [hmac, hfab, hmode]

theorem answerJoin_of_otherMajor {s : State} {h : ClpHdr} (hmajor : h.verMajor ≠ 1) (serial v fw : Nat) (hl q : Bool) :
    answerJoin s h serial v fw hl q = emit s (.clp (0x03 + clpIsAck) h.sender h.seq [3, 0, 0xFFFF, 500, hashFor s 0xFFFF]) := by
  have hjudge : judgeJoin s h serial v hl = (3, 0, 0xFFFF) := by simp [judgeJoin, hmajor]
  simp [answerJoin, hjudge]

/-- A new device of the current version takes the lowest free number, as standby where the fabric has none and it may manage. -/
theorem judgeJoin_of_new {s : State} {h : ClpHdr} {serial m : Nat} (hmajor : h.verMajor = 1)
    (hserial : ∀ p ∈ s.fabric.members, p.2.serial ≠ serial) (hfree : freeMember s = some m) (hsender : memberGet s h.sender = none)
    (hl : Bool) : judgeJoin s h serial s.fabric.current hl = (0, if s.fabric.standby = 0xFFFF ∧ hl = false then 2 else 3, m) := by
  have hagain : s.fabric.members.find? (fun p => p.2.serial == serial) = none := by
    simpa [List.find?_eq_none] using hserial
  simp only [judgeJoin, hmajor, hagain, hfree, hsender]
  cases hl <;> by_cases hstandby : s.fabric.standby = 0xFFFF <;> simp [hstandby]

/-- The entry of a device that has just joined. -/
def joiner (s : State) (serial v fw : Nat) (hl q : Bool) : Member :=
  { serial := serial, version := v, fw := fw, headless := hl, quarantined := false, status := if q then 1 else 0, offset := 0,
    gm := 0, lastRenew := s.now, unqualSince := none, ackedEpoch := true, naked := 0, roles := [] }

theorem answerJoin_of_new {s : State} {h : ClpHdr} {serial m : Nat} (hmajor : h.verMajor = 1)
    (hserial : ∀ p ∈ s.fabric.members, p.2.serial ≠ serial) (hfree : freeMember s = some m) (hsender : memberGet s h.sender = none)
    (fw : Nat) (hl q : Bool) :
    memberGet (answerJoin s h serial s.fabric.current fw hl q) m = some (joiner s serial s.fabric.current fw hl q) ∧
      (answerJoin s h serial s.fabric.current fw hl q).fabric.standby =
        if s.fabric.standby = 0xFFFF ∧ hl = false then m else s.fabric.standby := by
  simp only [answerJoin, judgeJoin_of_new hmajor hserial hfree hsender hl, Nat.zero_le, if_true]
  refine ⟨tfind_tset _ _ _, ?_⟩
  by_cases hnames : s.fabric.standby = 0xFFFF ∧ hl = false <;> simp [hnames, emit]

/-! ### A device joins (R379, R385) -/

@[simp] theorem endJoin_ends (s : State) (a : Reply) :
    (endJoin s a).mode = s.mode ∧ (endJoin s a).fabric = { s.fabric with
      joining := none, joinSeen := false, unacked := s.fabric.unacked.filter (fun u => u.kind ≠ 2) } := by
  unfold endJoin
  split <;> simp

/-- What a new member knows of the fabric, and the MODE it takes. -/
theorem becomeMember_fabric (s : State) (h : ClpHdr) (sentAt result role m lease hash : Nat) : ∃ bad : Bool,
    (result = 1 → bad = true) ∧
      (becomeMember s h sentAt result role m lease hash).mode = (if bad then .quarantine else if role = 2 then .standby else .worker) ∧
      (becomeMember s h sentAt result role m lease hash).fabric.joined = true ∧
      (becomeMember s h sentAt result role m lease hash).fabric.member = m ∧
      (becomeMember s h sentAt result role m lease hash).fabric.term = h.term ∧
      (becomeMember s h sentAt result role m lease hash).fabric.manager = h.sender ∧
      (becomeMember s h sentAt result role m lease hash).fabric.epoch = h.epoch ∧
      (becomeMember s h sentAt result role m lease hash).fabric.leaseEnd = some (sentAt + lease * 1000000) := by
  refine ⟨_, ?_, (setMode_mode _ _).1, ?_⟩
  · intro hresult
    simp [hresult]
  · simp only [becomeMember, setMode, causeAll_same]
    split <;> simp

/-- A device that has become a member, before its join ends. -/
def memberMade (s : State) (h : ClpHdr) (result role m lease hash : Nat) : State :=
  { becomeMember s h ((s.fabric.joining.map (·.2)).getD 0) result role m lease hash with
    fabric := { (becomeMember s h ((s.fabric.joining.map (·.2)).getD 0) result role m lease hash).fabric with
      joining := s.fabric.joining } }

/-- A device that waits for JOIN_ACK hears one of its fabric. -/
structure Awaits (s : State) (h : ClpHdr) : Prop where
  awake : asleep s = false
  joining : s.fabric.joining ≠ none
  seen : s.fabric.joinSeen = true
  macsec : h.macsec = true
  fabric : h.fabric = s.fabric.fabricId

section
variable {s : State} {h : ClpHdr} (hh : Awaits s h) (role m lease hash : Nat)
include hh

theorem Awaits.takes : (!asleep s && s.fabric.joining.isSome && s.fabric.joinSeen && h.macsec
    && h.fabric == s.fabric.fabricId) = true := by
  simp [hh.awake, Option.isSome_iff_ne_none.2 hh.joining, hh.seen, hh.macsec, hh.fabric]

theorem exec_joinAck_of_accepted {result : Nat} (hresult : result = 0 ∨ result = 1) :
    exec (.joinAck h result role m lease hash) s =
      .next (endJoin (memberMade (atTime s h.t) h result role m lease hash) (ok m)) := by
  obtain rfl | rfl := hresult <;> exact act_of_true hh.takes

theorem exec_joinAck_of_full :
    exec (.joinAck h 2 role m lease hash) s = .next (endJoin (atTime s h.t) (failWith stNoResource)) := act_of_true hh.takes

theorem exec_joinAck_of_otherMajor :
    exec (.joinAck h 3 role m lease hash) s = .next (endJoin (atTime s h.t) ⟨stVersionMismatch, 0, h.verMajor⟩) :=
  act_of_true hh.takes

end

/-- JOIN_REQ goes out again when no copy of the last one waits for its acknowledgement (R382, R385). -/
theorem exec_joinRetry_of_due {s : State} {w at_ : Nat} {c : Option CmdRef} (hs : asleep s = false)
    (hjoin : s.fabric.joining = some (c, at_)) (hseen : s.fabric.joinSeen = true) (hgone : ∀ u ∈ s.fabric.unacked, u.kind ≠ 2)
    (hdue : at_ + 1001200000 ≤ max s.now w) : exec (.joinRetry w) s = .next (sendJoin (atTime s w)) := by
  have hall : (s.fabric.unacked.all (fun u => u.kind != 2)) = true := by simpa using hgone
  have hlate : decide (at_ + 1001200000 ≤ max s.now w) = true := decide_eq_true hdue
  exact act_of_true (by simp only [hs, hseen, hall, hjoin, hlate, Bool.not_false, Bool.and_self])

theorem sendJoin_sent (s : State) : ∃ l, (sendJoin s).fabric.joining = s.fabric.joining.map (fun j => (j.1, s.now)) ∧
    (sendJoin s).out = .clp (0x02 + clpAckReq) s.fabric.manager (tget 0 s.fabric.txSeq s.fabric.manager) l :: s.out :=
  ⟨_, rfl, rfl⟩

/-! ### Leases (R386, R387) -/

theorem exec_leaseRenew_of_heard {s : State} {h : ClpHdr} (hh : Heard s h) (st un : Nat) (off : Int) (gm : Nat) :
    exec (.leaseRenew h st un off gm) s = .next (clpAck (renewIn (heardAt s h) h st un off gm) h 0x04 [500]) := by
  change act s (!asleep s) _ = _
  rw [act_awake hh.awake, leaseRenewIn, clpIn_of_heard hh rfl]

/-- The manager renews a qualified member that reports nobody: it writes that member's entry alone. -/
theorem renewIn_of_qualified {s : State} {h : ClpHdr} {st : Nat} (hmode : s.mode = .manager) (hqual : bitOf st 0 = true)
    (off : Int) (gm : Nat) : ∃ x, renewIn s h st 0xFFFF off gm = memberPut s h.sender x ∧ x.status = st ∧ x.lastRenew = s.now ∧
      x.unqualSince = none := by
  simp only [renewIn, hmode, hqual, bne_self_eq_false, Bool.false_eq_true, if_false, if_true]
  exact ⟨_, rfl, rfl, rfl, rfl⟩

theorem exec_leaseRenewTimer_of_due {s : State} {w : Nat} (hs : asleep s = false) (hjoined : s.fabric.joined = true)
    (hmode : s.mode ≠ .manager) (hdue : ∀ v, s.fabric.lastRenew = some v → v + 100000000 ≤ max s.now w) :
    exec (.leaseRenewTimer w) s = .next (sendRenew (atTime s w) s.fabric.manager) := by
  cases hlast : s.fabric.lastRenew with
  | none => exact act_of_true (by simp [hs, hjoined, hmode, hlast])
  | some v => exact act_of_true (by simpa [hs, hjoined, hmode, hlast] using hdue v hlast)

theorem sendRenew_sent (s : State) (dst : Nat) : ∃ l, (sendRenew s dst).fabric.lastRenew = some s.now ∧
    (sendRenew s dst).out = .clp (0x04 + clpAckReq) dst (tget 0 s.fabric.txSeq dst) l :: s.out := ⟨_, rfl, rfl⟩

theorem exec_leaseExpiry_of_due {s : State} {w v : Nat} (hs : asleep s = false) (hjoined : s.fabric.joined = true)
    (hmode : s.mode ≠ .manager) (hlease : s.fabric.leaseEnd = some v) (hdue : v ≤ max s.now w) :
    exec (.leaseExpiry w) s = .next (class4 (recordFault (atTime s w) 45 4 none)) :=
  act_of_true (by simpa [hs, hjoined, hmode, hlease] using hdue)

theorem exec_memberLost_of_due {s : State} {m w : Nat} {x : Member} (hs : asleep s = false) (hmode : s.mode = .manager)
    (hmember : memberGet s m = some x) (hdue : x.lastRenew + 500000000 ≤ max s.now w) :
    exec (.memberLost m w) s = .next (loseMember (atTime s w) m 1 true) :=
  act_of_true (by simpa [hs, hmode, hmember] using hdue)

/-- A manager does not lose itself. -/
theorem loseMember_self (s : State) (reason : Nat) (tell : Bool) : loseMember s s.fabric.member reason tell = s := by
  unfold loseMember
  split
  · rfl
  · exact if_pos rfl

/-! ### Takeover (R388) -/

theorem exec_managerTakeover_of_due {s : State} {w v : Nat} (hs : asleep s = false) (hmode : s.mode = .standby)
    (hqual : s.fabric.qualified = true) (hheld : s.fabric.heldMsgs = []) (hhello : s.fabric.lastHello = some v)
    (hdue : v + 310000000 ≤ max s.now w) : exec (.managerTakeover w) s = .next (takeOver (atTime s w)) :=
  act_of_true (by simpa [hs, hmode, hqual, hheld, hhello] using hdue)

theorem takeOver_hello (s : State) : ∃ l,
    (takeOver s).out.head? = some (.clp 0x01 clpAll (tget 0 s.fabric.txSeq clpAll) l) := by
  unfold takeOver
  dsimp only
  generalize hx : setMode _ .manager = x
  obtain ⟨l, hout, -⟩ := sendHello_sent x
  have hseq : x.fabric.txSeq = s.fabric.txSeq := by rw [← hx]; simp [setMode]
  exact ⟨l, by rw [hout, hseq]; rfl⟩

/-- The new manager's TERM is the next one, it holds no lease of another, and its first message is HELLO. -/
theorem takeOver_manager (s : State) : ∃ l, (takeOver s).mode = .manager ∧ (takeOver s).fabric.term = s.fabric.term + 1 ∧
    (takeOver s).fabric.manager = s.fabric.member ∧ (takeOver s).fabric.leaseEnd = none ∧
    (takeOver s).fabric.epoch = s.fabric.epoch ∧
    (takeOver s).out.head? = some (.clp 0x01 clpAll (tget 0 s.fabric.txSeq clpAll) l) := by
  obtain ⟨l, hhello⟩ := takeOver_hello s
  refine ⟨l, ?_, ?_, ?_, ?_, ?_, hhello⟩ <;> simp [takeOver, sendHello, setMode]

/-- Settles O49: the equations above, and what a HELLO, a join, a renewed lease and a takeover leave. -/
theorem membershipCompletes : Obligations.MembershipCompletes := by
  intro s w hs
  refine ⟨?_, ?_, ?_, ?_, ?_, ?_, ?_, ?_, ?_, ?_, ?_, ?_, ?_⟩
  · intro h standby n gm cur nxt hmac hfab hmajor hjoin hjoined hterm hmode
    have hrun := exec_hello_of_member ⟨hs, hmac, hfab, hmajor, hjoined, hjoin⟩ hterm hmode standby n gm cur nxt
    refine ⟨hrun, fun hquar hstandby hsame hworker => ⟨_, hrun, ?_⟩⟩
    rw [helloMember_of_sameRole (s := atTime s h.t) hquar hstandby hsame hworker]
    exact ⟨rfl, rfl, rfl, rfl, rfl, rfl, rfl⟩
  · intro h standby n gm cur nxt hmac hfab hmajor hjoined hjoin hterm
    exact exec_hello_of_older ⟨hs, hmac, hfab, hmajor, hjoined, hjoin⟩ hterm standby n gm cur nxt
  · intro h standby n gm cur nxt hmac hfab hmajor hjoin hjoined hmode hwins
    exact exec_hello_of_otherManager ⟨hs, hmac, hfab, hmajor, hjoined, hjoin⟩ hmode hwins standby n gm cur nxt
  · intro hmode hdue
    obtain ⟨l, hout, hsent, hmode', hmembers⟩ := sendHello_sent (atTime s w)
    exact ⟨_, l, exec_helloTimer_of_due hs hmode hdue, hout, hsent, hmode'.trans hmode, hmembers⟩
  · intro h serial v fw hl q cores mib hash hmac hfab hmode
    have hrun := exec_joinReq_of_manager hs hmac hfab hmode serial v fw hl q cores mib hash
    refine ⟨hrun, fun hmajor => ?_, fun m hmajor hserial hfree hsender hversion => ?_⟩
    · rw [hrun, answerJoin_of_otherMajor hmajor]
      rfl
    · subst hversion
      obtain ⟨hentry, hstandby⟩ := answerJoin_of_new (s := atTime s h.t) hmajor hserial hfree hsender fw hl q
      exact ⟨_, _, hrun, hentry, rfl, rfl, rfl, rfl, rfl, hstandby⟩
  · intro h result role m lease hash hjoin hseen hmac hfab
    have hh : Awaits s h := ⟨hs, hjoin, hseen, hmac, hfab⟩
    refine ⟨fun hresult => ?_, ?_, ?_⟩
    · obtain ⟨bad, hbad, hmode, hfields⟩ :=
        becomeMember_fabric (atTime s h.t) h ((s.fabric.joining.map (·.2)).getD 0) result role m lease hash
      obtain ⟨hjoined, hmember, hterm, hmanager, hepoch, hlease⟩ := hfields
      refine ⟨_, exec_joinAck_of_accepted hh role m lease hash hresult, ?_⟩
      simp only [endJoin_ends]
      refine ⟨hjoined, hmember, hterm, hmanager, hepoch, hlease, trivial, fun hone => ?_, ?_⟩
      · exact hmode.trans (by rw [hbad hone]; rfl)
      · have hmade : (memberMade (atTime s h.t) h result role m lease hash).mode = _ := hmode
        rw [hmade]
        cases bad
        · by_cases hrole : role = 2 <;> simp [hrole]
        · exact .inl rfl
    · rintro rfl
      exact exec_joinAck_of_full hh role m lease hash
    · rintro rfl
      exact exec_joinAck_of_otherMajor hh role m lease hash
  · intro c at_ hjoin hseen hgone hdue
    obtain ⟨l, hjoining, hout⟩ := sendJoin_sent (atTime s w)
    exact ⟨_, l, exec_joinRetry_of_due hs hjoin hseen hgone hdue, hjoining.trans (congrArg _ hjoin), hout⟩
  · intro v hmode hhead hjoin hrejoin hdue
    exact act_of_true (by simpa [hs, hmode, hhead, hjoin, hrejoin] using hdue)
  · intro h st un off gm hh
    have hrun := exec_leaseRenew_of_heard hh st un off gm
    refine ⟨hrun, ?_⟩
    rintro hmode rfl hqual hack
    obtain ⟨x, hput, hstatus, hrenewed, hsince⟩ := renewIn_of_qualified (s := heardAt s h) (h := h) hmode hqual off gm
    rw [hput, clpAck, if_pos hack] at hrun
    exact ⟨_, x, hrun, tfind_tset _ _ _, hstatus, hrenewed, hsince, rfl, fun m hm => tfind_tset_ne _ _ _ _ hm⟩
  · intro hjoined hmode hdue
    obtain ⟨l, hrenewed, hout⟩ := sendRenew_sent (atTime s w) s.fabric.manager
    exact ⟨_, l, exec_leaseRenewTimer_of_due hs hjoined hmode hdue, hrenewed, hout⟩
  · intro v hjoined hmode hlease hdue
    exact exec_leaseExpiry_of_due hs hjoined hmode hlease hdue
  · intro m x hmode hmember hdue
    have hrun := exec_memberLost_of_due hs hmode hmember hdue
    refine ⟨hrun, ?_⟩
    rintro rfl
    rw [hrun]
    exact congrArg _ (loseMember_self (atTime s w) 1 true)
  · intro v hmode hqual hheld hhello hdue
    obtain ⟨l, hfields⟩ := takeOver_manager (atTime s w)
    exact ⟨_, l, exec_managerTakeover_of_due hs hmode hqual hheld hhello hdue, hfields⟩

end Sys2Proof.Machine
end
